-- ==== Sys2Proof/Word.lean ====
section
/-! DEFINITION. The word types of the model: bytes of the memories and of host data, and the 32-bit register word (R8). -/

namespace Sys2Proof

/-- One byte of a memory or of a host buffer. -/
abbrev Byte := BitVec 8

/-- A 32-bit little-endian register word (R8). -/
abbrev Word := BitVec 32

end Sys2Proof
end

