-- ==== Sys2Proof/Syntax.lean ====
section
/-! DEFINITION. The commands of the block: one constructor for each row of spec/opcode_table.json, with the operands the row takes. Core instructions stand first, commands without operands last. -/

namespace Sys2Proof

/-- Who makes a register access (R76: GLB_ERR_INFO.INITIATOR). -/
inductive Initiator where
  | pcie | summit | ridge (core : Fin 8) | hqe | cairn
  deriving DecidableEq, Repr

/-- An access to BAR 0, or to BAR 2 with `bar2`: byte offset, length in bytes, and whether every byte enable is set (R61, R81). -/
structure RegAccess where
  ini : Initiator
  bar2 : Bool
  off : Nat
  len : Nat
  full : Bool
  deriving DecidableEq, Repr

/-- What a read of host memory returned (R109): its bytes, or the way it failed; `outstanding` while its completions have not arrived. -/
inductive HostData where
  | ok (bytes : List Byte)
  | outstanding
  | timeout
  | poisoned
  | refused
  deriving DecidableEq, Repr

/-- One 16-byte element of a descriptor list (R88). -/
structure DescElem where
  addr : Nat
  len : Nat
  last : Bool
  link : Bool
  deriving DecidableEq, Repr

/-- A command's data: the descriptor elements in the order walked when CHAIN = 1, and what the read of the data returned. -/
structure CmdData where
  chain : List DescElem
  data : HostData
  deriving DecidableEq, Repr

/-- A ring whose entries raise an interrupt (R84). -/
inductive RingId where
  | cq (c : Fin 16)
  | sr (s : Fin 8)
  deriving DecidableEq, Repr

/-- The instructions of the TAP (R36); another code selects BYPASS. -/
inductive JtagInstr where
  | bypass | idcode | samplePreload | extest | other
  deriving DecidableEq, Repr

/-- The converter codes of one tick: 20 samples of each of XI, XQ, YI and YQ, or of SP in place of the lane it carries (R135, R141). -/
structure RxTick where
  xi : List Int
  xq : List Int
  yi : List Int
  yq : List Int
  deriving DecidableEq, Repr

/-- The converter codes of one tick in WATCH: 5 samples of each of XI and XQ (R137, R138). -/
structure WatchTick where
  xi : List Int
  xq : List Int
  deriving DecidableEq, Repr

/-- What a frame of the watch slice takes: the converter codes since those of the frame before, and the samples of the watch channel (R326). -/
structure WatchIn where
  codes : List WatchTick
  x : List (Int × Int)
  deriving DecidableEq, Repr

/-- The codes of one Raman shot (R188): the DARK_N codes before GATE_T opens and those of the window, on RA and RST. -/
structure RamanCodes where
  darkRa : List (BitVec 14)
  darkRst : List (BitVec 14)
  ra : List (BitVec 14)
  rst : List (BitVec 14)
  deriving DecidableEq, Repr

/-- A load measurement of a gate channel: V_S of the sense in 0.1 mV between openings (R373), or the output current in µA in an opening (R374). -/
inductive GateMeas where
  | idle (tenthMv : Nat)
  | pulse (microAmp : Nat)
  deriving DecidableEq, Repr

/-- What the loop of a pump saw in a period: the 14-bit sense sample, whether the period was skipped, and, while the channel is OFF, whether its 1 mA sense could not be held or was held at the minimum on-time (R366, R373, R375). -/
structure PumpSample where
  code : BitVec 14
  skipped : Bool
  cannotHold : Bool
  minOnTime : Bool
  deriving DecidableEq, Repr

/-- What happens on a time-interval input (R383 to R385): a passed edge with its TIMING cycle count and interpolator code, or a pulse that the glitch filter suppresses. -/
inductive TiEvent where
  | edge (cycle : BitVec 64) (code : Fin 128)
  | glitch
  deriving DecidableEq, Repr


/-- What a calibration visit measures of a lane or spare-lane position (R429): the mean codes of steps 1 and 2 in 2⁻²⁴ LSB, and the tone phases of steps 3 and 4 in 2⁻⁴⁰ rad.
For a DAC lane the codes are in DAC LSB referred to its output, and the phases of PQ are taken against PI (R432). -/
structure LaneMeas where
  m0 : Int
  mp : Int
  mm : Int
  th1 : Int
  th2 : Int
  deriving DecidableEq, Repr


/-- What the first read of a line gives (R310, R311): data with errors in these groups of 4 DQ lines, or no answer at all. No group is a clean read, one is corrected, two are detected. -/
inductive FirstRead where
  | errors (groups : List (Fin 20))
  | stalled
  deriving DecidableEq, Repr


/-- Condition of a cairn branch (R331). -/
inductive CrnCond where
  | always | eq | ne | geu | ltu
  deriving DecidableEq, Repr

/-- How a step of the activation ends (R461): read-back good, a flash range failed twice, a companion failed. -/
inductive ActOutcome where
  | ok | flashBad | companionBad
  deriving DecidableEq, Repr

/-- The width of a channel's devices, which sets the size of its ranks (R300). -/
inductive RankWidth where
  | x16 | x8 | x4
  deriving DecidableEq, Repr

/-- MiB of a rank: 8, 16 or 32 GiB (R300). -/
def RankWidth.mib : RankWidth → Nat
  | .x16 => 8192
  | .x8 => 16384
  | .x4 => 32768

/-- The trained ranks of a channel, bit r rank r, and their width (R300). -/
structure RankSet where
  mask : BitVec 4
  width : RankWidth
  deriving DecidableEq, Repr

/-- MiB of each rank. -/
def RankSet.mib (x : RankSet) : Nat := x.width.mib

/-- What a read of a ridge core's memory meets (R251): good data, a corrected error, or an uncorrectable one. -/
inductive MemEcc where
  | clean | corrected | bad
  deriving DecidableEq, Repr

/-- What the two reads of an LDP meet: at PA, and at PB (R251, R292). -/
structure PairEcc where
  a : MemEcc
  b : MemEcc
  deriving DecidableEq, Repr

/-- What a DMA transfer's reads of data memory meet (R251): a count of corrected errors, and the row whose read meets an uncorrectable one. -/
structure DmaEcc where
  corrected : Nat
  bad : Option Nat
  deriving DecidableEq, Repr

/-- A configuration request (R79): a register, and the word to write; a read without one. -/
structure CfgReq where
  reg : BitVec 12
  wr : Option Word
  deriving DecidableEq, Repr

/-- A crossing transaction: the write that waits for an island, or a read (R72). -/
inductive CrossTx where
  | write (island : Fin 24)
  | read (ini : Initiator) (off : Nat)
  deriving DecidableEq, Repr

/-- The modifier of an MM operation (R281, R291): MODE 0, IMM6 in units of the size; MODE 1, the value of a D register in bytes. -/
inductive MemMod where
  | imm (i : BitVec 6)
  | reg (d : Fin 32)
  deriving DecidableEq, Repr

/-- The count of LOOP (R295): COUNT, or the value of a D register. -/
inductive LoopCount where
  | imm (n : BitVec 16)
  | reg (d : Fin 32)
  deriving DecidableEq, Repr


/-- The commands: host commands, events, register writes and core instructions, row by row of the table. -/
inductive Instr where
  /-- RIDGE_NOP (R284). Ridge no-operation in any slot. -/
  | ridgeNop (c : Fin 8) (last : Bool) (parity : Bool)
  /-- ADD (R284). Ridge 32-bit add. -/
  | add (c : Fin 8) (last : Bool) (sat : Bool) (dd : Fin 32) (da : Fin 32) (db : Fin 32)
  /-- SUB (R284). Ridge 32-bit subtract. -/
  | sub (c : Fin 8) (last : Bool) (sat : Bool) (dd : Fin 32) (da : Fin 32) (db : Fin 32)
  /-- ADD2 (R284). Ridge dual 16-bit add. -/
  | add2 (c : Fin 8) (last : Bool) (sat : Bool) (dd : Fin 32) (da : Fin 32) (db : Fin 32)
  /-- SUB2 (R284). Ridge dual 16-bit subtract. -/
  | sub2 (c : Fin 8) (last : Bool) (sat : Bool) (dd : Fin 32) (da : Fin 32) (db : Fin 32)
  /-- AND (R284). Ridge bitwise AND. -/
  | and (c : Fin 8) (last : Bool) (dd : Fin 32) (da : Fin 32) (db : Fin 32)
  /-- OR (R284). Ridge bitwise OR. -/
  | or (c : Fin 8) (last : Bool) (dd : Fin 32) (da : Fin 32) (db : Fin 32)
  /-- XOR (R284). Ridge bitwise XOR. -/
  | xor (c : Fin 8) (last : Bool) (dd : Fin 32) (da : Fin 32) (db : Fin 32)
  /-- SLL (R284). Ridge logical shift left. -/
  | sll (c : Fin 8) (last : Bool) (imm : Bool) (dd : Fin 32) (da : Fin 32) (db : Fin 32)
  /-- SRL (R284). Ridge logical shift right. -/
  | srl (c : Fin 8) (last : Bool) (imm : Bool) (dd : Fin 32) (da : Fin 32) (db : Fin 32)
  /-- SRA (R284). Ridge arithmetic shift right. -/
  | sra (c : Fin 8) (last : Bool) (imm : Bool) (dd : Fin 32) (da : Fin 32) (db : Fin 32)
  /-- MIN (R284). Ridge signed minimum. -/
  | min (c : Fin 8) (last : Bool) (dd : Fin 32) (da : Fin 32) (db : Fin 32)
  /-- MAX (R284). Ridge signed maximum. -/
  | max (c : Fin 8) (last : Bool) (dd : Fin 32) (da : Fin 32) (db : Fin 32)
  /-- ABS (R284). Ridge absolute value. -/
  | abs (c : Fin 8) (last : Bool) (sat : Bool) (dd : Fin 32) (da : Fin 32)
  /-- NEG (R284). Ridge negation. -/
  | neg (c : Fin 8) (last : Bool) (sat : Bool) (dd : Fin 32) (da : Fin 32)
  /-- CMP (R289). Ridge compare setting Z, N, C and V. -/
  | cmp (c : Fin 8) (last : Bool) (da : Fin 32) (db : Fin 32)
  /-- PACK (R284). Ridge pack of two low halves. -/
  | pack (c : Fin 8) (last : Bool) (dd : Fin 32) (da : Fin 32) (db : Fin 32)
  /-- MUL (R284). Ridge 32-bit multiply. -/
  | mul (c : Fin 8) (last : Bool) (sat : Bool) (dd : Fin 32) (da : Fin 32) (db : Fin 32)
  /-- MULQ2 (R284). Ridge dual Q15 multiply. -/
  | mulq2 (c : Fin 8) (last : Bool) (sat : Bool) (dd : Fin 32) (da : Fin 32) (db : Fin 32)
  /-- MPA (R285). Ridge single product into an accumulator. -/
  | mpa (c : Fin 8) (last : Bool) (sat : Bool) (ad : Fin 8) (ha : Bool) (hb : Bool) (da : Fin 32) (db : Fin 32)
  /-- MAC (R286). Ridge multiply-accumulate. -/
  | mac (c : Fin 8) (last : Bool) (sat : Bool) (ad : Fin 8) (ha : Bool) (hb : Bool) (da : Fin 32) (db : Fin 32)
  /-- MSU (R286). Ridge multiply-subtract. -/
  | msu (c : Fin 8) (last : Bool) (sat : Bool) (ad : Fin 8) (ha : Bool) (hb : Bool) (da : Fin 32) (db : Fin 32)
  /-- DMPA (R285). Ridge dual product into an accumulator. -/
  | dmpa (c : Fin 8) (last : Bool) (sat : Bool) (ad : Fin 8) (ha : Bool) (hb : Bool) (da : Fin 32) (db : Fin 32)
  /-- DMAC (R286). Ridge dual multiply-accumulate. -/
  | dmac (c : Fin 8) (last : Bool) (sat : Bool) (ad : Fin 8) (ha : Bool) (hb : Bool) (da : Fin 32) (db : Fin 32)
  /-- DMSU (R286). Ridge dual multiply-subtract. -/
  | dmsu (c : Fin 8) (last : Bool) (sat : Bool) (ad : Fin 8) (ha : Bool) (hb : Bool) (da : Fin 32) (db : Fin 32)
  /-- TAPZ (R287). Ridge first FIR tap with delay-line move. -/
  | tapz (c : Fin 8) (last : Bool) (sat : Bool) (ad : Fin 8) (ha : Bool) (da : Fin 32) (db : Fin 32)
  /-- TAP (R287). Ridge accumulating FIR tap with delay-line move. -/
  | tap (c : Fin 8) (last : Bool) (sat : Bool) (ad : Fin 8) (ha : Bool) (da : Fin 32) (db : Fin 32)
  /-- EXT (R284). Ridge extract of a rounded accumulator. -/
  | ridgeExt (c : Fin 8) (last : Bool) (sat : Bool) (dd : Fin 32) (aa : Fin 8) (n : Fin 16)
  /-- EXT2 (R284). Ridge extract of the rounded sum of two accumulators. -/
  | ext2 (c : Fin 8) (last : Bool) (sat : Bool) (dd : Fin 32) (aa : Fin 8) (ab : Fin 8) (n : Fin 16)
  /-- EXTH (R284). Ridge 16-bit extract of an accumulator. -/
  | exth (c : Fin 8) (last : Bool) (sat : Bool) (dd : Fin 32) (aa : Fin 8) (n : Fin 16)
  /-- EXTH2 (R284). Ridge 16-bit extract of the sum of two accumulators. -/
  | exth2 (c : Fin 8) (last : Bool) (sat : Bool) (dd : Fin 32) (aa : Fin 8) (ab : Fin 8) (n : Fin 16)
  /-- ACLR (R288). Ridge accumulator clear. -/
  | aclr (c : Fin 8) (last : Bool) (aa : Fin 8)
  /-- AGETL (R288). Ridge read of accumulator bits [31:0]. -/
  | agetl (c : Fin 8) (last : Bool) (dd : Fin 32) (aa : Fin 8)
  /-- AGETH (R288). Ridge read of accumulator bits [39:32]. -/
  | ageth (c : Fin 8) (last : Bool) (dd : Fin 32) (aa : Fin 8)
  /-- APUTL (R288). Ridge load of an accumulator from a register. -/
  | aputl (c : Fin 8) (last : Bool) (dd : Fin 32) (aa : Fin 8)
  /-- APUTH (R288). Ridge load of accumulator bits [39:32]. -/
  | aputh (c : Fin 8) (last : Bool) (dd : Fin 32) (aa : Fin 8)
  /-- AADD (R288). Ridge accumulator add. -/
  | aadd (c : Fin 8) (last : Bool) (sat : Bool) (aa : Fin 8) (ab : Fin 8)
  /-- ASUB (R288). Ridge accumulator subtract. -/
  | asub (c : Fin 8) (last : Bool) (sat : Bool) (aa : Fin 8) (ab : Fin 8)
  /-- LD_H (R291). Ridge sign-extending halfword load with post-modify. -/
  | ldH (c : Fin 8) (last : Bool) (r : Fin 32) (p : Fin 8) (m : MemMod) (ecc : MemEcc)
  /-- LD_HU (R291). Ridge zero-extending halfword load. -/
  | ldHu (c : Fin 8) (last : Bool) (r : Fin 32) (p : Fin 8) (m : MemMod) (ecc : MemEcc)
  /-- LD_W (R291). Ridge word load. -/
  | ldW (c : Fin 8) (last : Bool) (r : Fin 32) (p : Fin 8) (m : MemMod) (ecc : MemEcc)
  /-- LD_D (R291). Ridge double-word load into an even register pair. -/
  | ldD (c : Fin 8) (last : Bool) (r : Fin 32) (p : Fin 8) (m : MemMod) (ecc : MemEcc)
  /-- ST_H (R291). Ridge halfword store. -/
  | stH (c : Fin 8) (last : Bool) (r : Fin 32) (p : Fin 8) (m : MemMod)
  /-- ST_W (R291). Ridge word store. -/
  | stW (c : Fin 8) (last : Bool) (r : Fin 32) (p : Fin 8) (m : MemMod)
  /-- ST_D (R291). Ridge double-word store. -/
  | stD (c : Fin 8) (last : Bool) (r : Fin 32) (p : Fin 8) (m : MemMod)
  /-- LDP (R292). Ridge paired load from both data banks. -/
  | ldp (c : Fin 8) (last : Bool) (q : Fin 8) (pa : Fin 8) (pb : Fin 8) (ma : Fin 4) (mb : Fin 4) (ecc : PairEcc)
  /-- MOV (R290). Ridge register move. -/
  | mov (c : Fin 8) (last : Bool) (r : Fin 32) (x : Fin 32)
  /-- MOVI (R290). Ridge 10-bit immediate move. -/
  | movi (c : Fin 8) (last : Bool) (r : Fin 32) (imm : BitVec 10)
  /-- PGET (R290). Ridge read of a pointer. -/
  | pget (c : Fin 8) (last : Bool) (r : Fin 32) (p : Fin 8)
  /-- PSET (R290). Ridge write of a pointer. -/
  | pset (c : Fin 8) (last : Bool) (r : Fin 32) (p : Fin 8)
  /-- MOVC_R (R293). Ridge read of a control register. -/
  | movcR (c : Fin 8) (last : Bool) (r : Fin 32) (x : Fin 32)
  /-- MOVC_W (R293). Ridge write of a control register. -/
  | movcW (c : Fin 8) (last : Bool) (r : Fin 32) (x : Fin 32)
  /-- BR (R294). Ridge conditional relative branch. -/
  | br (c : Fin 8) (last : Bool) (cond : Fin 9) (rel : BitVec 11)
  /-- JR (R294). Ridge branch to a pointer's address. -/
  | jr (c : Fin 8) (last : Bool) (p : Fin 8)
  /-- WAIT (R272). Ridge entry into WAITING until an enabled interrupt is pending. -/
  | wait (c : Fin 8) (last : Bool)
  /-- HALT (R290). Ridge entry into STOPPED once operations in flight complete. -/
  | halt (c : Fin 8) (last : Bool)
  /-- MOVI32 (R295). Ridge 32-bit immediate move. -/
  | movi32 (c : Fin 8) (last : Bool) (r : Fin 32) (imm : Word)
  /-- LOOP (R296). Ridge start of a hardware loop level. -/
  | loop (c : Fin 8) (last : Bool) (lvl : Fin 2) (rot : Bool) (n : LoopCount) (stop : BitVec 13)
  /-- JMP (R295). Ridge absolute jump in instruction memory. -/
  | jmp (c : Fin 8) (last : Bool) (tgt : BitVec 13)
  /-- CALL (R295). Ridge jump with link in a pointer. -/
  | call (c : Fin 8) (last : Bool) (p : Fin 8) (tgt : BitVec 13)
  /-- PSETI (R295). Ridge 32-bit immediate load of a pointer. -/
  | pseti (c : Fin 8) (last : Bool) (p : Fin 8) (imm : Word)
  /-- MOVCI (R295). Ridge immediate write of a control register. -/
  | movci (c : Fin 8) (last : Bool) (r : Fin 32) (imm : Word)
  /-- CRN_ADD (R331). Cairn add. -/
  | crnAdd (kd : Fin 16) (ka : Fin 16) (kb : Fin 16)
  /-- CRN_SUB (R331). Cairn subtract. -/
  | crnSub (kd : Fin 16) (ka : Fin 16) (kb : Fin 16)
  /-- ADDI (R331). Cairn add immediate. -/
  | addi (kd : Fin 16) (ka : Fin 16) (imm : BitVec 16)
  /-- CRN_AND (R331). Cairn bitwise AND. -/
  | crnAnd (kd : Fin 16) (ka : Fin 16) (kb : Fin 16)
  /-- CRN_OR (R331). Cairn bitwise OR. -/
  | crnOr (kd : Fin 16) (ka : Fin 16) (kb : Fin 16)
  /-- SHR (R331). Cairn logical shift right. -/
  | shr (kd : Fin 16) (ka : Fin 16) (n : Fin 16)
  /-- LD (R331). Cairn data-memory load. -/
  | ld (kd : Fin 16) (ka : Fin 16) (imm : BitVec 16)
  /-- ST (R331). Cairn data-memory store. -/
  | st (kd : Fin 16) (ka : Fin 16) (imm : BitVec 16)
  /-- CRN_CMP (R331). Cairn compare setting Z and C. -/
  | crnCmp (ka : Fin 16) (kb : Fin 16)
  /-- CRN_BR (R331). Cairn conditional branch. -/
  | crnBr (cond : CrnCond) (target : BitVec 12)
  /-- IIR (R332). Cairn first-order filter step. -/
  | iir (kd : Fin 16) (ka : Fin 16) (kb : Fin 16) (n : Fin 16)
  /-- RULES (R332). Cairn evaluation of the rule table. -/
  | rules (kd : Fin 16) (ka : Fin 16) (kb : Fin 16)
  /-- WAITF (R331). Cairn wait for a zone block, clearing ZREADY. -/
  | waitf (kd : Fin 16)
  /-- IN (R333). Cairn port read. -/
  | crnIn (kd : Fin 16) (port : BitVec 16)
  /-- OUT (R333). Cairn port write, setting wake config or the RTC alarm. -/
  | crnOut (kd : Fin 16) (port : BitVec 16)
  /-- TGRAM (R331). Cairn telegram commit that advances the alive counter. -/
  | tgram (ka : Fin 16) (kb : Fin 16)
  /-- WAKE (R336). Cairn request to go to RUN with a reason. -/
  | wake (reason : BitVec 8)
  /-- NOP (R105). Command 0x00 does nothing and completes at once with OK. -/
  | nop (h : Fin 256)
  /-- IDENTIFY (R105). Writes the 256-byte identification structure to the host buffer and completes. -/
  | identify (h : Fin 256) (d : CmdData)
  /-- ABORT (R107). Aborts the named held handle, or reports that the target had already finished. -/
  | abort (h : Fin 256)
  /-- QUERY (R105). Returns the unit state and progress count of the named handle. -/
  | query (h : Fin 256)
  /-- POWER_STATE (R57). Requests WATCH, RUN or STANDBY after checking the watch record and prerequisites, and starts the transition. -/
  | powerState (h : Fin 256)
  /-- PLAN_LOAD (R116). Validates a plan record against the field ranges and plan rules, then stores or removes it under its plan ID. -/
  | planLoad (h : Fin 256) (d : CmdData)
  /-- PLAN_CHECK (R116). Validates a plan record like PLAN_LOAD and stores nothing. -/
  | planCheck (h : Fin 256) (d : CmdData)
  /-- ACQ_START (R131). Checks prerequisites and the stored plan and starts acoustic acquisition, with frame 0 within 1 ms. -/
  | acqStart (h : Fin 256)
  /-- ACQ_STOP (R132). Ends firing at the end of the frame in progress and drains windows and stream rings. -/
  | acqStop (h : Fin 256)
  /-- PLAN_SWITCH (R133). Requests a switch to another stored plan at the end of the current frame. -/
  | planSwitch (h : Fin 256)
  /-- ALIGN_RESET (R169). Requests an alignment step at the start of the next frame. -/
  | alignReset (h : Fin 256)
  /-- STREAM_OPEN (R180). Checks the stream parameters and opens a reducer stream onto a host stream ring. -/
  | streamOpen (h : Fin 256)
  /-- STREAM_CLOSE (R103). Closes the named stream and returns its partly filled buffer. -/
  | streamClose (h : Fin 256)
  /-- STREAM_FIRN (R267). Opens a reducer stream into a firn ring with a control record in the lowest free firn stream slot. -/
  | streamFirn (h : Fin 256)
  /-- SLM_LOAD (R209). Checks and loads a gate program into gates G0-G15. -/
  | slmLoad (h : Fin 256) (d : CmdData)
  /-- SLM_ARM (R214). Arms the slalom sequencer at the named start gate, with optional lift roles. -/
  | slmArm (h : Fin 256)
  /-- SLM_DISARM (R214). Disarms the sequencer and completes the arming handle. -/
  | slmDisarm (h : Fin 256)
  /-- CAPTURE (R217). Requests a capture of a time window and point range from the glacier ring. -/
  | capture (h : Fin 256)
  /-- CAPTURE_READ (R222). Copies a stored capture to the host, decoded and reduced by its averaging. -/
  | captureRead (h : Fin 256) (d : CmdData)
  /-- LIFT_CFG (R223). Sets the lift-sync role and unit address. -/
  | liftCfg (h : Fin 256)
  /-- GRM_COMPRESS (R241). Queues a groomer compress job over a descriptor-listed input. -/
  | grmCompress (h : Fin 256) (inl : CmdData) (outl : CmdData)
  /-- GRM_DECOMPRESS (R242). Queues a groomer decompress job over listed chunks. -/
  | grmDecompress (h : Fin 256) (inl : CmdData) (outl : CmdData)
  /-- GRM_RESUME (R243). Resumes a job from a saved context slot into a new output list. -/
  | grmResume (h : Fin 256) (inl : CmdData) (outl : CmdData)
  /-- GRM_CTX_DROP (R244). Frees a groomer context slot. -/
  | grmCtxDrop (h : Fin 256)
  /-- DTS_CONFIG (R194). Checks and stores the Raman configuration record. -/
  | dtsConfig (h : Fin 256) (d : CmdData)
  /-- DTS_START (R202). Starts a single or continuous Raman average of 2^L shots. -/
  | dtsStart (h : Fin 256)
  /-- DTS_STOP (R202). Discards the Raman average in progress and ends the running handle. -/
  | dtsStop (h : Fin 256)
  /-- DTS_READ (R201). Copies a complete Raman result slot to the host buffer. -/
  | dtsRead (h : Fin 256) (d : CmdData)
  /-- SAD_CONFIG (R347). Checks a slow-converter channel record and applies it within 10 us. -/
  | sadConfig (h : Fin 256) (d : CmdData)
  /-- SAD_SELFCAL (R362). Calibrates the nine slow converters in 24 ms slots over 216 ms. -/
  | sadSelfcal (h : Fin 256)
  /-- SAD_READ (R353). Writes the latest result record of each selected slow channel. -/
  | sadRead (h : Fin 256) (d : CmdData)
  /-- SAD_FALLBACK (R360). Connects the spare converter SX to a pair, or releases it with P0 = 0xFF. -/
  | sadFallback (h : Fin 256)
  /-- CAL_RUN (R434). Calibrates the selected converter and DAC lanes in ascending order. -/
  | calRun (h : Fin 256)
  /-- CAL_BG (R433). Turns the background calibration rotation on or off. -/
  | calBg (h : Fin 256)
  /-- CAL_STORE (R438). Writes the live calibration values into the unselected store copy and selects it. -/
  | calStore (h : Fin 256) (readBack : Bool)
  /-- CAL_REPORT (R439). Writes the record that CAL_STORE would write to the host buffer. -/
  | calReport (h : Fin 256) (d : CmdData)
  /-- FW_BEGIN (R459). Opens a staging session for a firmware image. -/
  | fwBegin (h : Fin 256)
  /-- FW_BLOCK (R459). Stores one image block into the STAGING region. -/
  | fwBlock (h : Fin 256) (d : CmdData)
  /-- FW_VERIFY (R459). Checks coverage, manifest soundness, key, signature, generation and part digests of the staged image. -/
  | fwVerify (h : Fin 256)
  /-- FW_ACTIVATE (R461). Has the loader write the verified generation to flash and companions, update the generation word and warm-reset. -/
  | fwActivate (h : Fin 256)
  /-- FW_CONFIRM (R462). Confirms the running generation. -/
  | fwConfirm (h : Fin 256)
  /-- FW_STATUS (R459). Returns the journal state, boot count, reason and generation. -/
  | fwStatus (h : Fin 256)
  /-- LOG_READ (R452). Copies event-log entries from a given sequence to the host buffer. -/
  | logRead (h : Fin 256) (d : CmdData)
  /-- LOG_MARK (R452). Writes the MARK_A and MARK_B entries with consecutive sequences. -/
  | logMark (h : Fin 256)
  /-- SENSOR_READ (R445). Writes the sensor record with die temperatures and supply readings. -/
  | sensorRead (h : Fin 256) (d : CmdData)
  /-- SENSOR_LIMITS (R446). Checks and applies a sensor limits record. -/
  | sensorLimits (h : Fin 256) (d : CmdData)
  /-- RDG_LOAD (R276). Checks a ridge image and loads it into the selected stopped cores. -/
  | rdgLoad (h : Fin 256) (d : CmdData)
  /-- RDG_START (R277). Clears and starts the selected stopped or halted cores at an entry address. -/
  | rdgStart (h : Fin 256)
  /-- RDG_STOP (R278). Stops the selected cores at the next bundle boundary and aborts their DMA. -/
  | rdgStop (h : Fin 256)
  /-- RDG_MSG (R278). Waits for the core's message buffer to be empty, then delivers eight words and sets FULL. -/
  | rdgMsg (h : Fin 256)
  /-- SRC_CONFIG (R369). Checks a pump binning record and computes the cooler target and power estimate. -/
  | srcConfig (h : Fin 256) (d : CmdData)
  /-- PUMP_SET (R370). Ramps a pump channel to a target current at a given rate. -/
  | pumpSet (h : Fin 256)
  /-- PUMP_OFF (R370). Ramps the selected pump channels to zero and turns them off. -/
  | pumpOff (h : Fin 256)
  /-- SRC_CLEAR (R378). Clears the fault latches of the selected source-drive channels. -/
  | srcClear (h : Fin 256)
  /-- TIU_CONFIG (R382). Sets the electrical mode, edge, filter and prescaler of a time-interval input. -/
  | tiuConfig (h : Fin 256)
  /-- TIU_CAL (R392). Runs the code-density test on the selected time-interval inputs in ascending order. -/
  | tiuCal (h : Fin 256)
  /-- SKATE_START (R394). Checks a section record, clears its map and starts a skate-frame section. -/
  | skateStart (h : Fin 256) (d : CmdData)
  /-- SKATE_STOP (R400). Stops a skate section at the next interval boundary. -/
  | skateStop (h : Fin 256)
  /-- SKATE_READ (R400). Copies a consistent belt map of a section to the host buffer. -/
  | skateRead (h : Fin 256) (d : CmdData)
  /-- PNL_MODE (R419). Checks and stores a panel timing record and sets the panel PLL. -/
  | pnlMode (h : Fin 256) (d : CmdData)
  /-- PNL_PALETTE (R423). Loads a 256-entry palette, effective at the next frame start. -/
  | pnlPalette (h : Fin 256) (d : CmdData)
  /-- PNL_ENABLE (R421). Starts or ends panel scan-out. -/
  | pnlEnable (h : Fin 256)
  /-- PAT_CONFIG (R410). Sets the patrol node address in PAT_CTL and MRAM. -/
  | patConfig (h : Fin 256)
  /-- PAT_TELEGRAM (R409). Commits the command slot zone words and alarm level and, when it is the refresh source, advances the alive counter. -/
  | patTelegram (h : Fin 256)
  /-- TRIP (R411). Sets the command bits of the trip outputs. -/
  | trip (h : Fin 256)
  /-- SQ_TAIL_DB (R82). Host writes a new submission queue tail, which is stored or dropped on a range error. -/
  | sqTailDb (q : Fin 16) (v : Word)
  /-- CQ_HEAD_DB (R82). Host writes a new completion queue head, freeing room. -/
  | cqHeadDb (c : Fin 16) (v : Word)
  /-- SR_BUF_DB (R82). Host posts buffers to a stream ring's buffer ring. -/
  | srBufDb (r : Fin 8) (v : Word) (entries : List HostData)
  /-- SR_FILL_DB (R82). Host writes a new fill ring head, freeing fill entries. -/
  | srFillDb (r : Fin 8) (v : Word)
  /-- SUBMISSION_FETCH (R93). An engine takes one submission entry in round robin, assigns a handle and writes ACCEPT or ACCEPT_DONE. -/
  | submissionFetch (engine : Fin 2) (d : HostData)
  /-- FENCE_RELEASE (R93). A fenced command starts once every earlier command of its queue has its DONE written. -/
  | fenceRelease (h : Fin 256)
  /-- HELD_ENTRY_WRITE (R99). Entries held for a full or disabled completion queue are written once room appears. -/
  | heldEntryWrite (c : Fin 16)
  /-- COAL_TIMER (R84). The coalescing time of a completion queue or stream ring passes and its vector is signalled. -/
  | coalTimer (r : RingId)
  /-- HOST_READ_COMPLETION (R109). A completion for a read of host memory arrives, good, poisoned, Unsupported Request or Completer Abort. -/
  | hostReadCompletion (tag : Nat) (d : HostData)
  /-- HQE_CTO_EXPIRY (R109). A read of host memory reaches its completion timeout and ends. -/
  | hqeCtoExpiry (tag : Nat)
  /-- HANDLE_WATCHDOG (R108). A handle's watchdog expires; the command is aborted and completes with TIMEOUT. -/
  | handleWatchdog (h : Fin 256)
  /-- STREAM_BLOCK_COMPLETE (R21). A reducer stream block completes and is delivered to each consumer with credit or discarded for it. -/
  | streamBlockComplete (id : BitVec 16)
  /-- BLOCK_CLOSE_TIMER (R181). A block open for CLOSE_MS is closed. -/
  | blockCloseTimer (id : BitVec 16)
  /-- SR_FLUSH_TIMER (R103). A buffer holding data for SR_FLUSH.US without filling is returned PARTIAL. -/
  | srFlushTimer (r : Fin 8)
  /-- PENDING_RETURN_WRITE (R497). A buffer return waiting for a free fill entry is written once room appears. -/
  | pendingReturnWrite (r : Fin 8)
  /-- LINK_L0 (R58). The PCIe link reaches L0, ending PEWAKE_L and resuming the queue engines. -/
  | linkL0 (speed : Fin 16) (width : Fin 64)
  /-- SQ_ENABLE_WRITE (R85). A write of SQ_CFG.EN starts or stops fetching, writing off an outstanding fetch on clear. -/
  | sqEnableWrite (ini : Initiator) (q : Fin 16) (v : Word)
  /-- RING_CONFIG_WRITE (R495). A write of a ring's base or size resets its indices and phase. -/
  | ringConfigWrite (ini : Initiator) (off : Nat) (v : Word)
  /-- IRQ_EN_WRITE (R84). Setting IRQ_EN restarts the coalescing count with the timer idle. -/
  | irqEnWrite (ini : Initiator) (ring : RingId) (v : Word)
  /-- HQE_WDOG_WRITE (R85). A write of HQE_WDOG or HQE_CTO is checked against the timeout ratio and dropped with LOCKVIOL if it breaks it. -/
  | hqeWdogWrite (ini : Initiator) (cto : Bool) (v : Word)
  /-- REGISTER_WRITE (R68). A write to a register without a row of its own is applied directly or posted across its crossing. -/
  | registerWrite (ini : Initiator) (bar2 : Bool) (off : Nat) (data : List (Option Byte))
  /-- RESERVED_ACCESS (R62). An access to a reserved offset or with an unsupported width raises an error and is captured. -/
  | reservedAccess (a : RegAccess) (write : Bool)
  /-- READ_CLEAR (R11). A read of an rc field returns its value and clears it. -/
  | readClear (a : RegAccess) (ecc : MemEcc)
  /-- POSTED_WRITE_APPLY (R68). The owning island applies a posted write and BUSY clears. -/
  | postedWriteApply (island : Fin 24)
  /-- CROSSING_TIMEOUT (R72). A crossing transaction not completed within 1 ms is abandoned with XTMO. -/
  | crossingTimeout (t : CrossTx)
  /-- TB_LOAD_WRITE (R74). A write of GLB_TB_LOAD_LO commits the 64-bit load value. -/
  | tbLoadWrite (v : Word)
  /-- WARM_RST (R51). A write of PWR_CTL.WARM_RST starts a warm reset. -/
  | warmRst (ini : Initiator) (v : Word)
  /-- ISLAND_RESET_HOLD (R53). A write of PWR_ISL_RST holds or releases islands in island reset. -/
  | islandResetHold (ini : Initiator) (v : Word)
  /-- REF_SRC_WRITE (R45). A write of PWR_CLK_CFG.REF_SRC selects REF10M or LIFT_CLK, under its run lock. -/
  | refSrcWrite (ini : Initiator) (v : Word)
  /-- POR_L_ASSERT (R39). A POR_L low pulse of at least 10 us causes a cold reset. -/
  | porLAssert (long : Bool)
  /-- COLD_BOOT (R55). Release of POR_L samples the straps and starts the cold boot sequence. -/
  | coldBoot (standalone : Bool) (testMode : Bool)
  /-- SYS_RST_L_ASSERT (R51). SYS_RST_L low for at least 1 us causes a warm reset. -/
  | sysRstLAssert (long : Bool)
  /-- MEMORY_TRAINING_DONE (R322). Memory training of the channels completes, setting the space and regions. -/
  | memoryTrainingDone (t0 : Option RankSet) (t1 : Option RankSet)
  /-- BOOT_COMPLETE (R55). PWR_STATUS.STATE reaches RUN, a log entry is written and vector 0 signalled. -/
  | bootComplete (ms : List LaneMeas)
  /-- BROWNOUT_CROSSING (R41). A brown-out threshold crossing blocks MRAM and flash writes. -/
  | brownoutCrossing (below : Bool)
  /-- VBAT_LOW (R43). VBAT falling below 1.6 V switches the VBAT domain to VIO18. -/
  | vbatLow (low : Bool)
  /-- REF_LOST (R46). The selected reference shows no edge for 300 ns; PLLs hold over and acquisition and Raman averages end with HW_FAULT. -/
  | refLost (lift : Bool)
  /-- REF_RETURN (R46). The reference returns and the PLLs relock. -/
  | refReturn (lift : Bool)
  /-- FIRING_PROCESSED (R167). A firing's window is compressed and its phase samples and alignment updates formed. -/
  | firingProcessed (fresh : List RxTick)
  /-- DCB_PRESET_WRITE (R140). A write of RCV_DCB_PRESET loads the DC-block estimator. -/
  | dcbPresetWrite (ini : Initiator) (lane : Fin 4) (v : Word)
  /-- DCB_K_WRITE (R140). A write that changes K rescales the DC-block estimator. -/
  | dcbKWrite (ini : Initiator) (lane : Fin 4) (v : Word)
  /-- BANK_PWR_UPDATE (R147). Band power monitors update per frame, or every 65,536 coarse samples while stopped. -/
  | bankPwrUpdate (fresh : List RxTick)
  /-- SP_COMPARE_END (R142). A spare-lane compare ends, passing, repeating or failing. -/
  | spCompareEnd (pairs : List (Int × Int))
  /-- CAL_VISIT_DONE (R429). A lane's calibration measurement ends and new codes are formed and applied. -/
  | calVisitDone (m : LaneMeas) (p1 : LaneMeas) (p2 : LaneMeas) (p3 : LaneMeas)
  /-- RAMAN_SHOT (R190). GATE_T fires a Raman shot whose window is accumulated. -/
  | ramanShot (k : RamanCodes)
  /-- TRIGGER_INPUT (R208). A trigger pin or GPIO input changes level on the event fabric. -/
  | triggerInput (pin : Fin 16) (level : Bool)
  /-- PERIODIC_TIMER (R207). A periodic timer expires and pulses its event. -/
  | periodicTimer (n : Fin 4)
  /-- PT_WRITE (R207). A write of SLM_PT starts or stops a periodic timer. -/
  | ptWrite (ini : Initiator) (n : Fin 4) (v : Word)
  /-- CAPTURE_WINDOW_END (R220). A capture's post window ends. -/
  | captureWindowEnd (slot : Fin 8)
  /-- CAPTURE_COPY_DONE (R220). The capture copy finishes and the capture's DONE entry is written. -/
  | captureCopyDone (slot : Fin 8)
  /-- LIFT_ARM_CHANGE (R223). The LIFT_ARM line changes, making units lift-armed or not. -/
  | liftArmChange (asserted : Bool)
  /-- GROOM_BLOCK (R240). A stream or feed block is groomed into one chunk. -/
  | groomBlock (short : Bool)
  /-- JOB_CHUNK_DONE (R242). A groomer job finishes a chunk, ending with DONE or OUT_OF_SPACE at the last. -/
  | jobChunkDone (h : Fin 256) (d : HostData)
  /-- INTERRUPT_ENTRY (R270). A ridge core takes an enabled pending interrupt and switches to the shadow bank. -/
  | interruptEntry (c : Fin 8)
  /-- LOOP_END (R262). An active hardware loop reaches its end bundle and repeats or falls through. -/
  | loopEnd (c : Fin 8)
  /-- DMA_GO (R265). A write of RDG_DMA_GO starts a DMA channel at a descriptor. -/
  | dmaGo (ini : Initiator) (c : Fin 8) (ch : Fin 4) (v : Word)
  /-- DMA_DESCRIPTOR_DONE (R266). A DMA descriptor ends, writes DONE and follows NEXT or stops. -/
  | dmaDescriptorDone (c : Fin 8) (ch : Fin 4) (ecc : DmaEcc)
  /-- DMA_ABORT (R266). RDG_DMA_STATUS.ABORT ends the present descriptor within 1 us. -/
  | dmaAbort (c : Fin 8) (ch : Fin 4)
  /-- RIDGE_TIMER (R269). RDG_TIMER counts down to 0, reloads and raises the TIMER source. -/
  | ridgeTimer (c : Fin 8)
  /-- TG_COMMIT (R274). RDG_TG_CTL.COMMIT copies a core's zone word and alarm into the telegram buffer. -/
  | tgCommit (c : Fin 8)
  /-- MSG_ACK (R278). A core writes 1 to RDG_MSG_STATUS.FULL to acknowledge its message. -/
  | msgAck (c : Fin 8)
  /-- PMOD (R261). Ridge pointer post-modify without access. -/
  | pmod (c : Fin 8) (last : Bool) (p : Fin 8) (imm : BitVec 12)
  /-- ROT (R264). Ridge explicit rotation of the register window. -/
  | rot (c : Fin 8) (last : Bool)
  /-- RETI (R271). Ridge return from interrupt to the main bank. -/
  | reti (c : Fin 8) (last : Bool)
  /-- BREAK (R272). Ridge break operation raising the BREAK exception. -/
  | ridgeBreak (c : Fin 8) (last : Bool)
  /-- MEM_REQUEST (R307). A requester's line access is accepted and served by the memory controller. -/
  | memRequest (src : Fin 20) (a : BitVec 38) (w : Option (List Byte)) (first : FirstRead)
  /-- MEM_REREAD_DONE (R311). The re-read of an uncorrectable line completes, returning data or poisoning the line. -/
  | memRereadDone (src : Fin 20) (good : Bool) (fallback : Bool)
  /-- FABRIC_TIMEOUT (R309). An accepted memory request reaches the 100 us fabric timeout and is abandoned. -/
  | fabricTimeout (src : Fin 20)
  /-- REFRESH (R314). The refresh interval of a rank passes and a refresh is issued or owed. -/
  | refresh (ch : Fin 2) (rank : Fin 4) (busy : Bool)
  /-- MEM_TEMP_POLL (R314). The 32 ms poll reads each rank's temperature range and sets the channel hot or not. -/
  | memTempPoll (ch : Fin 2) (ranges : List (Fin 3))
  /-- SCRUB (R313). The background scrub reads and corrects a line of the trained space. -/
  | scrub (a : BitVec 38) (first : FirstRead)
  /-- MIGRATION_START (R318). A rank migration to the spare starts with dual writes. -/
  | migrationStart (ch : Fin 2)
  /-- RETIRE_WRITE (R317). A write of MEM_MIG_CTL.RETIRE requests retirement of a rank. -/
  | retireWrite (ini : Initiator) (ch : Fin 2) (v : Word)
  /-- MIGRATION_DONE (R318). The copy pointer reaches the end and the spare replaces the retired rank. -/
  | migrationDone (ch : Fin 2)
  /-- FREQ_CHANGE (R321). MEM_FREQ_CTL.GO starts a memory frequency change or is refused. -/
  | freqChange (ini : Initiator) (v : Word)
  /-- RGN_SIZE_WRITE (R304). A write of MEM_RGN_SIZE checks and commits the region's staged pair. -/
  | rgnSizeWrite (ini : Initiator) (n : Fin 7) (v : Word)
  /-- RGN_COMMIT (R304). MEM_RGN_CTL.COMMIT checks and applies the whole staging table. -/
  | rgnCommit (ini : Initiator) (v : Word)
  /-- MEM_SPARE_CLR (R319). Writing 0x5EA1 clears the retirement record at the next cold reset. -/
  | memSpareClr (ini : Initiator) (ch : Fin 2) (v : Word)
  /-- WATCH_FRAME (R327). The watch slice completes a frame and writes 256 zone energies for the cairn. -/
  | watchFrame (x : WatchIn)
  /-- WAKE_PIN (R339). A WAKE0 or WAKE1 assertion held for 2 crystal periods fires once. -/
  | wakePin (pin : Fin 2) (level : Bool)
  /-- TAMPER_ASSERT (R340). A TAMPER assertion sets the tamper latch, stamps the RTC and may wake STANDBY. -/
  | tamperAssert (level : Bool)
  /-- SAD_RESULT (R351). A slow-converter result completes, is corrected, converted and published. -/
  | sadResult (c : Fin 9) (first : BitVec 64) (v : Int) (ovr : Bool) (pos : Bool)
  /-- SAD_START (R350). A start event or SAD_START write begins a single conversion. -/
  | sadStart (n : Fin 9)
  /-- SA_BLANK_CHANGE (R358). SA_BLANK changes level, pausing or resuming blanked channels. -/
  | saBlankChange (level : Bool)
  /-- SELFCAL_SLOT_END (R362). A self-calibration slot ends and the converter loads its new offset and gain. -/
  | selfcalSlotEnd (ofs : BitVec 24) (gain : BitVec 24)
  /-- PUMP_PERIOD (R366). A 2 us pump loop period samples the shunt, steps the ramp and sets the next duty. -/
  | pumpPeriod (n : Fin 4) (k : PumpSample)
  /-- PUMP_RAMP_DONE (R370). A pump ramp reaches its target and the handle completes. -/
  | pumpRampDone (n : Fin 4)
  /-- PUMP_FAULT_LATCH (R375). A pump fault condition held for 25 periods latches the source drive off. -/
  | pumpFaultLatch (n : Fin 4)
  /-- GATE_SENSE (R373). A gate channel's sub-threshold sense measurement completes. -/
  | gateSense (g : Fin 2) (m : GateMeas)
  /-- GATE_VERDICT (R376). A gate channel reaches its per-frame verdict and latches on two equal verdicts. -/
  | gateVerdict (g : Fin 2)
  /-- TI_EDGE (R385). A passed edge on a time-interval input is timestamped and counted. -/
  | tiEdge (input : Fin 8) (e : TiEvent)
  /-- INTERVAL_RESULT (R388). An interval channel's window passes and its result or miss is recorded. -/
  | intervalResult (v : Fin 4)
  /-- CODE_DENSITY_DONE (R391). An input's code-density test ends and its table is kept or replaced. -/
  | codeDensityDone (counts : List Nat)
  /-- ENCODER_STALL (R396). No encoder edge for STALL_MS sets STALLED and raises SK_STALL. -/
  | encoderStall (k : Fin 4)
  /-- SKATE_POS_SAMPLE (R398). The time base reaches an interval's t_mid and the section evaluates its position. -/
  | skatePosSample (k : Fin 4)
  /-- PATROL_POLL (R404). A 4-byte poll is received, checked and, if valid for this node, answered. -/
  | patrolPoll (bs : List Byte) (framing : Bool)
  /-- TRIP_CONDITION (R411). An enabled hardware trip condition appears or goes, driving and possibly latching a trip output. -/
  | tripCondition (t : Fin 2)
  /-- TRIP_LATCH_CLEAR (R411). A w1c of PAT_TRIP_STATUS.LATCHED clears a trip latch when no condition holds. -/
  | tripLatchClear (m : Fin 4)
  /-- CHK_CTL (R413). A write of CHK_CTL selects the CRC and reloads its initial value. -/
  | chkCtl (u : Fin 4) (v : Word)
  /-- CHK_DATA8 (R414). Feeds one byte to a check-value unit. -/
  | chkData8 (u : Fin 4) (v : Word)
  /-- CHK_DATA16 (R414). Feeds two bytes to a check-value unit. -/
  | chkData16 (u : Fin 4) (v : Word)
  /-- CHK_DATA32 (R414). Feeds four bytes to a check-value unit. -/
  | chkData32 (u : Fin 4) (v : Word)
  /-- CHK_FINAL (R415). Closes a check, folding the alive value, loading the result and running the repeat detector. -/
  | chkFinal (u : Fin 4) (v : Word)
  /-- LINE_FETCH (R424). A panel line is fetched, with poison or underrun sent as black. -/
  | lineFetch (present : Fin 2048)
  /-- PANEL_ACTIVE_END (R425). A frame's active area ends and its signatures are compared for refresh reduction and read-back. -/
  | panelActiveEnd (pins : Word) (clkOk : Bool)
  /-- SUMMIT_WATCHDOG (R443). The 1 s summit watchdog expires and SUMMIT is island-reset. -/
  | summitWatchdog (pc : Word)
  /-- SUM_WDOG_KICK (R443). A write of 0x5A restarts the summit watchdog. -/
  | sumWdogKick (v : Word)
  /-- SENSOR_SAMPLE (R444). Die and supply sensors are sampled, checking limits and THERMAL. -/
  | sensorSample (temps : List Int) (supplies : List Nat)
  /-- CONFIGURATION_REQUEST (R55). A PCIe configuration request arrives and is completed with Configuration Request Retry Status until the loader has checked the generation, and answered normally afterwards. -/
  | configurationRequest (req : CfgReq)
  /-- JTAG_INSTRUCTION (R36). An IEEE 1149.1 instruction is loaded through the TAP, selecting BYPASS, IDCODE, SAMPLE/PRELOAD or EXTEST, and under EXTEST the gate and pump outputs follow the scan cells. -/
  | jtagInstruction (instr : JtagInstr) (gateD : Bool) (gateT : Bool) (pumps : BitVec 4)
  /-- ACTIVATION_PROGRESS (R461). During FW_ACTIVATE the loader finishes programming and reading back one part, sends its PROGRESS entry, and after the last part writes the generation word, the DONE entry and starts the warm reset. -/
  | activationProgress (r : ActOutcome)
  /-- FETCH_RESUME (R97). Fetching resumes after a host-command handle index is freed and HQ_STALL clears. -/
  | fetchResume
  /-- D3HOT_ENTRY (R80). The function enters D3hot and stops fetching and writing host memory. -/
  | d3hotEntry
  /-- D0_RETURN (R80). The function returns to D0, resumes the engines and sends pending interrupts. -/
  | d0Return
  /-- HOST_RESET (R52). PERST_L low resets the HOST island, drops every handle and stops acquisition. -/
  | hostReset
  /-- FUNCTION_LEVEL_RESET (R79). A Function Level Reset acts as a host reset. -/
  | functionLevelReset
  /-- PEWAKE_TIMEOUT (R58). PEWAKE_L is released after 1 s without L0. -/
  | pewakeTimeout
  /-- PPS_EDGE (R50). A PPS rising edge is validated and loads or disciplines the time base. -/
  | ppsEdge
  /-- PPS_LOSS (R48). No valid PPS edge for 1.5 s clears PPS_VALID and DISCIPLINED. -/
  | ppsLoss
  /-- WARM_BOOT (R56). The end of a warm reset starts the warm boot sequence. -/
  | warmBoot
  /-- SYSTEM_PLL_LOCK (R55). The system PLL locks and SUMMIT moves to 400 MHz. -/
  | systemPllLock
  /-- CONV_PLL_LOCK (R55). The CONV PLL locks and the calibration store is selected and trims loaded. -/
  | convPllLock
  /-- LOADER_START (R455). The boot ROM checks the loader and generation word and the loader chooses RUN or LOADER personality. -/
  | loaderStart
  /-- BROWNOUT_RESET (R41). A brown-out crossing lasting 2 us forces a cold reset. -/
  | brownoutReset
  /-- VBAT_RESET (R51). VBAT rising from below 1.2 V clears the VBAT domain and drives PWR_ON high. -/
  | vbatReset
  /-- TRANSITION_DONE (R57). A power-state transition completes and PWR_STATUS.STATE shows the new state. -/
  | transitionDone
  /-- QUEUED_TRANSITION_START (R475). A request queued behind a shut-down starts once the shut-down completes. -/
  | queuedTransitionStart
  /-- STANDBY_WAKE (R59). A latched wake event in STANDBY drives PWR_ON high and starts the path to WATCH. -/
  | standbyWake
  /-- WAKE_RETRY_TIMER (R59). POR_L not released within 1 s of PWR_ON drives PWR_ON low and retries once. -/
  | wakeRetryTimer
  /-- FRAME_START (R121). A frame of the running plan begins, applying any pending alignment step. -/
  | frameStart
  /-- TONE_FIRING (R121). GATE_D opens in a tone's stagger slot and the chirp is sent on PI and PQ. -/
  | toneFiring
  /-- PLAN_SWITCH_APPLY (R133). At the end of the frame the switch runs a dark frame and then starts the new plan. -/
  | planSwitchApply
  /-- ACQ_STOP_DRAINED (R132). The stop drain completes and the ACQ_STOP handle completes. -/
  | acqStopDrained
  /-- RELOCK_EDGE (R169). A rising edge of the re-lock event requests an alignment step. -/
  | relockEdge
  /-- ENERGY_INTERVAL (R178). An energy interval ends, giving band and zone energies and zone event levels. -/
  | energyInterval
  /-- MB_MEASUREMENT (R129). A bias-loop measurement is made in an idle interval of at least 400 ns. -/
  | mbMeasurement
  /-- MB_CORRECTION (R129). Every 64 measurement cycles each enabled bias loop corrects its output. -/
  | mbCorrection
  /-- MB_STARVED (R130). No idle interval for 1 ms holds the loops and sets STARVED. -/
  | mbStarved
  /-- SP_REQ (R141). RCV_SP_CTL.REQ starts a spare-lane takeover. -/
  | spReq
  /-- SP_RELEASE (R143). RCV_SP_CTL.RELEASE ends a CARRY through the COMPARE_OUT step. -/
  | spRelease
  /-- SP_SETTLE_END (R141). The 2 us settling ends and the compare begins. -/
  | spSettleEnd
  /-- CAL_BG_TIMER (R433). The rotation period passes and the next lane's calibration visit starts. -/
  | calBgTimer
  /-- DTS_LEG_END (R198). A dual-ended leg of 2^L shots ends and the direction switches. -/
  | dtsLegEnd
  /-- DTS_CLOSE_START (R193). The last shot's window ends and the close of the average begins. -/
  | dtsCloseStart
  /-- DTS_CLOSE_END (R201). The close writes the result slot, raises DTS_DONE and sends PROGRESS. -/
  | dtsCloseEnd
  /-- GATE_MATCH_COMPLETE (R212). The active gate's match counter reaches COUNT_N and its actions run. -/
  | gateMatchComplete
  /-- GATE_TIMEOUT (R212). The active gate's timer reaches 0 and NEXT_TIMEOUT becomes active. -/
  | gateTimeout
  /-- GLACIER_BLOCK_WRITE (R216). A feed block is written into the glacier ring, overwriting the oldest unpinned segment. -/
  | glacierBlockWrite
  /-- SEGMENT_COMPLETE (R216). A glacier segment completes and its header is written. -/
  | segmentComplete
  /-- LIFT_FIRE_EDGE (R224). A rising LIFT_FIRE edge is latched, counted and pulsed by each lift-armed unit. -/
  | liftFireEdge
  /-- LIFT_FIRE_RELEASE (R224). The driving unit releases LIFT_FIRE after 200 ns. -/
  | liftFireRelease
  /-- LIFT_LATCH_TIMEOUT (R224). No lift edge within 2 us of a FIRE match gives the capture the tick's time. -/
  | liftLatchTimeout
  /-- LIFT_STUCK (R225). LIFT_FIRE held beyond 10 us disarms the unit with HW_FAULT. -/
  | liftStuck
  /-- FREQ_CHANGE_DONE (R321). The frequency change completes and credit is restored. -/
  | freqChangeDone
  /-- CRN_NOP (R331). Cairn no-operation. -/
  | crnNop
  /-- STBY (R337). Cairn request to go to STANDBY. -/
  | stby
  /-- CRN_WATCHDOG (R334). No WAITF or TGRAM completes within CRN_WDOG.MS; the sequencer halts and requests RUN. -/
  | crnWatchdog
  /-- VBT_MIRROR_COPY (R344). At each crystal period the CAIRN mirror copies every VBT register. -/
  | vbtMirrorCopy
  /-- VBT_COMMIT (R344). A queued VBT write is committed to the VBAT island. -/
  | vbtCommit
  /-- RTC_ALARM (R338). The RTC equals the alarm, waking STANDBY or setting VBT_WAKE_ST.RTC. -/
  | rtcAlarm
  /-- BLANK_MAX_EXPIRY (R359). SA_BLANK high beyond BLANK_MAX_MS resumes sampling and sets BLANK_STUCK. -/
  | blankMaxExpiry
  /-- FB_DISCHARGE_END (R360). The 100 us discharge ends and the converter connects to the pair and settles. -/
  | fbDischargeEnd
  /-- REPLY_END (R406). The reply's last stop bit ends and the driver is released. -/
  | replyEnd
  /-- POLL_GAP_TIMEOUT (R403). An idle gap beyond 1.6 us discards a partial poll. -/
  | pollGapTimeout
  /-- LINE_BREAK (R474). The patrol line held at start-bit level counts one framing error. -/
  | lineBreak
  /-- STALE_TIMEOUT (R409). AGE exceeds STALE_MS and STATE.STALE is set. -/
  | staleTimeout
  /-- PANEL_FRAME_START (R422). A panel frame starts, sampling PNL_FB_OFS and applying a pending palette. -/
  | panelFrameStart
  /-- LOG_FLUSH (R450). Buffered log entries are written to MRAM. -/
  | logFlush
  /-- CONFIRM_TIMEOUT (R462). The 120 s confirmation timer expires, writing UPDATE_FAIL and forcing a warm reset. -/
  | confirmTimeout
  /-- PERST_L_RELEASE (R55). PERST_L is released, ending the host reset and starting PCIe link training. -/
  | perstLRelease
  deriving DecidableEq, Repr

end Sys2Proof
end

