-- ==== Sys2Proof/Decode.lean ====
section
/-! DEFINITION. Words of the opcode table. The table gives its rows no bits: commands are events and register accesses, and the bundles and words of the cores are decoded in Machine/RidgeCode.lean and Machine/CairnCode.lean. -/

namespace Sys2Proof

/-- The command that a word of the table spells: none, since no row has bits. -/
def decodeTableWord (_nbits _w : Nat) : Option Instr := none

end Sys2Proof
end

