-- ==== Sys2Proof/Machine/Num.lean ====
section
/-! DEFINITION. Numeric helpers of the model: bit fields, two's complement, saturation, the roundings the spec names, and little-endian byte strings (R7, R8). -/

namespace Sys2Proof.Machine

/-- Bits [msb:lsb] of a word given as a number (R7). -/
def bits (x msb lsb : Nat) : Nat := x / 2 ^ lsb % 2 ^ (msb + 1 - lsb)

/-- Bit [n] of a word (R7). -/
def bit (x n : Nat) : Bool := x / 2 ^ n % 2 == 1

/-- 1 for true, 0 for false: the value a one-bit field shows. -/
def b2n (b : Bool) : Nat := if b then 1 else 0

/-- The word with bits [msb:lsb] replaced by `v` cut to that width. -/
def putBits (x msb lsb v : Nat) : Nat :=
  x / 2 ^ (msb + 1) * 2 ^ (msb + 1) + v % 2 ^ (msb + 1 - lsb) * 2 ^ lsb + x % 2 ^ lsb

/-- `a - b` modulo `2^w`, both below `2^w`. -/
def wrapSub (w a b : Nat) : Nat := (2 ^ w - b + a) % 2 ^ w

/-- The value of a `w`-bit two's-complement field. -/
def sx (w x : Nat) : Int :=
  let y := x % 2 ^ w
  if y < 2 ^ (w - 1) then (y : Int) else (y : Int) - 2 ^ w

/-- The `w`-bit two's-complement code of an integer, wrapping. -/
def code (w : Nat) (x : Int) : Nat := (x % (2 ^ w : Int)).toNat

/-- The integer limited to [lo, hi]. -/
def clampInt (lo hi x : Int) : Int := max lo (min hi x)

/-- Saturation to a signed `w`-bit range. -/
def satS (w : Nat) (x : Int) : Int := clampInt (-(2 ^ (w - 1))) (2 ^ (w - 1) - 1) x

/-- Saturation to an unsigned `w`-bit range. -/
def satU (w : Nat) (x : Int) : Nat := (clampInt 0 (2 ^ w - 1) x).toNat

/-- Saturation of a count to `w` bits. -/
def satN (w x : Nat) : Nat := min x (2 ^ w - 1)

/-- `a / b` rounded half to even, for `b > 0`. -/
def divRne (a b : Int) : Int :=
  let q := Int.fdiv a b
  let r := a - q * b
  if 2 * r < b then q else if 2 * r > b then q + 1 else if q % 2 = 0 then q else q + 1

/-- `a / b` rounded half up (towards plus infinity), for `b > 0`. -/
def divRhu (a b : Int) : Int := Int.fdiv (2 * a + b) (2 * b)

/-- `a / b` rounded half away from zero, for `b > 0`. -/
def divRha (a b : Int) : Int :=
  if a < 0 then -(Int.fdiv (2 * (-a) + b) (2 * b)) else Int.fdiv (2 * a + b) (2 * b)

/-- `x · 2^-n` rounded half to even. -/
def shrRne (x : Int) (n : Nat) : Int := divRne x (2 ^ n)

/-- `x · 2^-n` rounded half up. -/
def shrRhu (x : Int) (n : Nat) : Int := if n = 0 then x else Int.fdiv (x + 2 ^ (n - 1)) (2 ^ n)

/-- The bit length of a number: the least `n` with `x < 2^n`, searched up to `fuel`. -/
def bitLen (x : Nat) : Nat := if x = 0 then 0 else Nat.log2 x + 1

/-- The `n` little-endian bytes of a number (R8). -/
def leBytes : Nat → Nat → List Byte
  | 0, _ => []
  | n + 1, x => BitVec.ofNat 8 x :: leBytes n (x / 256)

/-- The number little-endian bytes spell (R8). -/
def leNat : List Byte → Nat
  | [] => 0
  | b :: bs => b.toNat + 256 * leNat bs

/-- The number big-endian bytes spell. -/
def beNat (bs : List Byte) : Nat := leNat bs.reverse

/-- The `n` big-endian bytes of a number. -/
def beBytes (n x : Nat) : List Byte := (leBytes n x).reverse

/-- The little-endian field of `n` bytes at offset `off` of a structure (R10). -/
def field (bs : List Byte) (off n : Nat) : Nat := leNat ((bs.drop off).take n)

/-- Zero bytes, for reserved parts of a structure the Gheon writes (R10). -/
def zeros (n : Nat) : List Byte := List.replicate n 0

/-- The byte string padded with zeros to a multiple of `m`. -/
def padTo (m : Nat) (bs : List Byte) : List Byte := bs ++ zeros ((m - bs.length % m) % m)

/-- The list with its element `i` replaced through `f`; unchanged past the end. -/
def modAt {α : Type} : List α → Nat → (α → α) → List α
  | [], _, _ => []
  | x :: xs, 0, f => f x :: xs
  | x :: xs, i + 1, f => x :: modAt xs i f

/-- The list with its element `i` set; unchanged past the end. -/
def setAt {α : Type} (xs : List α) (i : Nat) (v : α) : List α := modAt xs i (fun _ => v)

/-- The row with its element `i` replaced through `f`; unchanged past its end. -/
def vmod {α : Type} {n : Nat} (v : Vector α n) (i : Nat) (f : α → α) : Vector α n :=
  if h : i < n then v.set i (f v[i]) else v

/-- The row with its element `i` set; unchanged past its end. -/
def vset {α : Type} {n : Nat} (v : Vector α n) (i : Nat) (x : α) : Vector α n := vmod v i (fun _ => x)

/-- The least index below `n` that satisfies `p`. -/
def findIdxBelow (p : Nat → Bool) (n : Nat) : Option Nat := (List.range n).find? p

end Sys2Proof.Machine
end

