-- ==== Sys2Proof/Machine/Crc.lean ====
section
/-! DEFINITION. The check codes of R182, R404 and R413: CRC-32C, CRC-32, CRC-16/CCITT-FALSE and CRC-8, over bytes in order. -/

namespace Sys2Proof.Machine

/-- One bit of a reflected code with polynomial `p` (bits reversed). -/
def crcBitR (p c : Nat) : Nat := if c % 2 = 1 then (c / 2) ^^^ p else c / 2

/-- One byte into a reflected code. -/
def crcByteR (p c : Nat) (b : Byte) : Nat := (List.range 8).foldl (fun c _ => crcBitR p c) (c ^^^ b.toNat)

/-- One bit of a `w`-bit code that is not reflected. -/
def crcBitN (p w c : Nat) : Nat := if 2 ^ (w - 1) ≤ c then (2 * c % 2 ^ w) ^^^ p else 2 * c % 2 ^ w

/-- One byte into a `w`-bit code that is not reflected. -/
def crcByteN (p w c : Nat) (b : Byte) : Nat :=
  (List.range 8).foldl (fun c _ => crcBitN p w c) (c ^^^ (b.toNat * 2 ^ (w - 8)))

/-- The codes of R413 by POLY: 0 CRC-32C, 1 CRC-32, 2 CRC-16/CCITT-FALSE, 3 CRC-8. -/
def crcInit (poly : Nat) : Nat :=
  match poly with
  | 0 => 0xFFFFFFFF
  | 1 => 0xFFFFFFFF
  | 2 => 0xFFFF
  | _ => 0xFF

/-- The register after one byte. -/
def crcByte (poly c : Nat) (b : Byte) : Nat :=
  match poly with
  | 0 => crcByteR 0x82F63B78 c b
  | 1 => crcByteR 0xEDB88320 c b
  | 2 => crcByteN 0x1021 16 c b
  | _ => crcByteN 0x2F 8 c b

/-- The final XOR. -/
def crcXor (poly : Nat) : Nat :=
  match poly with
  | 0 => 0xFFFFFFFF
  | 1 => 0xFFFFFFFF
  | 2 => 0
  | _ => 0xFF

/-- Width in bytes of a code's result. -/
def crcWidth (poly : Nat) : Nat :=
  match poly with
  | 0 => 4
  | 1 => 4
  | 2 => 2
  | _ => 1

/-- The check value of a byte string. -/
def crc (poly : Nat) (bs : List Byte) : Nat := bs.foldl (crcByte poly) (crcInit poly) ^^^ crcXor poly

/-- CRC-32C (R182). -/
def crc32c (bs : List Byte) : Nat := crc 0 bs

/-- CRC-8 (R404). -/
def crc8 (bs : List Byte) : Nat := crc 3 bs

/-- CRC-16/CCITT-FALSE (R413). -/
def crc16 (bs : List Byte) : Nat := crc 2 bs

/-- The bytes of a header with the CRC-32C of its first bytes appended (R182). -/
def withCrc (bs : List Byte) : List Byte := bs ++ leBytes 4 (crc32c bs)

end Sys2Proof.Machine
end

