-- ==== Sys2Proof/Config.lean ====
section
/-! DEFINITION. What one part fixes and the spec does not state: opaque constants without a body, so that no proof can lean on a value. -/

namespace Sys2Proof.Config

/-- Values that the spec leaves open, one for each place in the sequence that State.free counts (log entry 5). -/
opaque freeNat : Nat → Nat

/-- The identifiers read from fuses: PCI Vendor ID and the device identifier (R79, R105); the spec gives no value (log entry 6). -/
opaque vendorId : BitVec 16

/-- The fused 128-bit device identifier of IDENTIFY (R105). -/
opaque uid : BitVec 128

/-- The SHA-384 of the manifest public key that the maker programs into the fuses (R456); State.reset holds it. -/
opaque keyHash : BitVec 384

/-- The code of the log entry of a fabric timeout, and of a PCIe timeout: R471 wants the entries, and R451 lists no code for them (log entry 284). -/
opaque timeoutCode : Bool → BitVec 16

/-- Offsets of the PCI Express, MSI-X and AER capabilities in configuration space, which the spec does not give (log entry 66). -/
opaque pcieCap : Nat
opaque msixCap : Nat
opaque aerCap : Nat

/-- Taps 0 to 59 of the watch filter, whose response alone the spec gives (R326, R343). -/
opaque watchTap : Nat → BitVec 18

end Sys2Proof.Config
end

