-- ==== Sys2Proof/Machine/Store.lean ====
section
/-! DEFINITION. Sparse stores: a list of (key, value) pairs with strictly rising keys, where a key that is not listed reads as a default.
Register fields and every memory of the part are held so. A write of the default removes the entry. -/

namespace Sys2Proof.Machine

/-- A sparse store: keys strictly rising; an unlisted key reads as the default its reader names. -/
abbrev Store (α : Type) := List (Nat × α)

/-- The value at a key, or the default. -/
def Store.read {α : Type} (d : α) : Store α → Nat → α
  | [], _ => d
  | (k, v) :: m, a => if k = a then v else Store.read d m a

/-- The store without a key. -/
def Store.erase {α : Type} : Store α → Nat → Store α
  | [], _ => []
  | (k, v) :: m, a => if k = a then Store.erase m a else (k, v) :: Store.erase m a

/-- The store with a key set, the entry put before the first greater key. -/
def Store.insert {α : Type} : Store α → Nat → α → Store α
  | [], a, x => [(a, x)]
  | (k, v) :: m, a, x =>
    if k = a then (a, x) :: m
    else if a < k then (a, x) :: (k, v) :: m
    else (k, v) :: Store.insert m a x

/-- A write: the default removes the entry, another value is listed. -/
def Store.write {α : Type} [DecidableEq α] (d : α) (m : Store α) (a : Nat) (x : α) : Store α :=
  if x = d then Store.erase m a else Store.insert m a x

/-- Every key is greater than `lo`, and the keys rise strictly. -/
def Store.risingFrom {α : Type} : Nat → Store α → Bool
  | _, [] => true
  | lo, (k, _) :: m => decide (lo < k) && Store.risingFrom k m

/-- The keys rise strictly. -/
def Store.rising {α : Type} : Store α → Bool
  | [] => true
  | (k, _) :: m => Store.risingFrom k m

/-- No entry holds the default. -/
def Store.noDefault {α : Type} [DecidableEq α] (d : α) (m : Store α) : Bool :=
  m.all (fun kv => decide (kv.2 ≠ d))

/-- A byte memory: unlisted bytes read 0 (log entry 2). -/
abbrev Memory := Store Byte

/-- The canonical form of a byte memory: keys strictly rising, and no listed byte equal to what an unlisted byte reads. -/
def Memory.wf (m : Memory) : Bool := Store.rising m && Store.noDefault (0 : Byte) m

/-- One byte of a memory. -/
def Memory.read (m : Memory) (a : Nat) : Byte := Store.read 0 m a

/-- One byte written. -/
def Memory.write (m : Memory) (a : Nat) (x : Byte) : Memory := Store.write 0 m a x

/-- `n` bytes from address `a` upward. -/
def Memory.readN (m : Memory) (a : Nat) : Nat → List Byte
  | 0 => []
  | n + 1 => m.read a :: m.readN (a + 1) n

/-- Bytes written from address `a` upward. -/
def Memory.writeN (m : Memory) (a : Nat) : List Byte → Memory
  | [] => m
  | b :: bs => (m.write a b).writeN (a + 1) bs

/-- The little-endian number of `n` bytes at `a` (R8). -/
def Memory.readLe (m : Memory) (a n : Nat) : Nat := leNat (m.readN a n)

/-- A number stored as `n` little-endian bytes at `a` (R8). -/
def Memory.writeLe (m : Memory) (a n x : Nat) : Memory := m.writeN a (leBytes n x)

/-- The bytes from `a` to `a + n - 1` dropped, so that they read 0. -/
def Memory.clear (m : Memory) (a n : Nat) : Memory := m.filter (fun kv => decide (kv.1 < a ∨ a + n ≤ kv.1))

end Sys2Proof.Machine
end

