-- ==== Sys2Proof/Machine/Field.lean ====
section
/-! DEFINITION. The form of a register field: where it lies, its access code (R11), its reset and its lock (R66). -/

namespace Sys2Proof.Machine

/-- The access codes of R11, and `rom` for read-only constants that the spec tabulates. -/
inductive Access where
  | rw | ro | rc | w1c | w1s | wo | rwl | rwp | rom
  deriving DecidableEq, Repr

/-- What locks a field (R66): the state that holds for a run lock, the initiator for an initiator lock, or the value check that the field's chapter states. -/
inductive Lock where
  /-- never locked -/
  | free
  /-- while acquisition runs -/
  | acq
  /-- while acquisition runs or a Raman average runs -/
  | acqOrAvg
  /-- while acquisition runs or the calibration rotation is on -/
  | acqOrBg
  /-- while a Raman average runs -/
  | avg
  /-- while the slalom sequencer is armed -/
  | armed
  /-- while the calibration rotation is on -/
  | bg
  /-- while a groomed stream is open -/
  | groomed
  /-- while a groomed stream is open or the glacier ring runs -/
  | groomedOrRing
  /-- PWR_ISL_RST: bit 3 summit only; bits 4, 7 and 11 to 15 reserved -/
  | islRst
  /-- RDG_IVEC: only 0x80 to 0xFF -/
  | ivec
  /-- while the modulator-bias loop runs -/
  | mbLoop
  /-- while the queue's EN bit is 1 -/
  | queueEn
  /-- the two divider bits of a core that is out of reset -/
  | rdgDiv
  /-- MEM_RGN staging -/
  | region
  /-- VBT_RET: the words the spec reserves -/
  | ret0
  /-- summit controller only -/
  | summit
  /-- summit controller only, and while memory is trained -/
  | summitTrained
  /-- MEM_TSET -/
  | tset
  /-- vector fields: 0 and 1 refused (R83) -/
  | vec
  /-- in WATCH -/
  | watch
  /-- HQE_WDOG and HQE_CTO: the ratio of R85 -/
  | wdog
  deriving DecidableEq, Repr

/-- A field of a register table: `n` instances at `off + stride·i`, each with `n2` inner instances at `+ stride2·j`. -/
structure Field where
  off : Nat
  stride : Nat
  n : Nat
  stride2 : Nat
  n2 : Nat
  msb : Nat
  lsb : Nat
  ty : Access
  rst : Nat
  rstStep : Nat
  rstLast : Option Nat
  lock : Lock
  deriving DecidableEq, Repr

/-- The width of a field in bits. -/
def Field.width (F : Field) : Nat := F.msb + 1 - F.lsb

/-- The BAR 0 offset of instance `i`; instances of a doubly indexed field are numbered outer · n2 + inner. -/
def Field.addr (F : Field) (i : Nat) : Nat := F.off + F.stride * (i / F.n2) + F.stride2 * (i % F.n2)

/-- The key under which the register file lists instance `i`: offset and lowest bit. -/
def Field.key (F : Field) (i : Nat) : Nat := F.addr i * 32 + F.lsb

/-- The reset value of instance `i`. -/
def Field.reset (F : Field) (i : Nat) : Nat :=
  match F.rstLast with
  | some v => if i + 1 = F.n * F.n2 then v else F.rst + F.rstStep * i
  | none => F.rst + F.rstStep * i

/-- The instance of the field that lies at a BAR 0 offset, if one does. -/
def Field.index? (F : Field) (a : Nat) : Option Nat :=
  if a < F.off then none
  else
    let d := a - F.off
    let i := if F.stride = 0 then 0 else min (d / F.stride) (F.n - 1)
    let r := d - F.stride * i
    let j := if F.stride2 = 0 then 0 else r / F.stride2
    if i < F.n ∧ j < F.n2 ∧ r = F.stride2 * j then some (i * F.n2 + j) else none

end Sys2Proof.Machine
end

