-- ==== Sys2Proof/Machine/RegsAcoustic.lean ====
section
/-! DEFINITION. The register fields of the PRB, RCV, TLA, CMP, RED, DTS, SLM and GRM blocks (chapters 05 to 10).
Each entry is one row of a register table of the spec: BAR 0 offset, stride and count of the instances, inner stride and count, bits, access code, reset, and lock. -/

namespace Sys2Proof.Machine.Reg

/-- PRB_STATE.STATE (R134): 0 IDLE, 1 STARTING, 2 RUN, 3 SWITCHING, 4 STOPPING -/
def PRB_STATE_STATE : Field := ⟨0x20000, 0x0, 1, 0x0, 1, 2, 0, .ro, 0x0, 0, none, .free⟩
/-- PRB_STATE.DARK (R134): 1 = in the dark frame of a switch -/
def PRB_STATE_DARK : Field := ⟨0x20000, 0x0, 1, 0x0, 1, 8, 8, .ro, 0x0, 0, none, .free⟩
/-- PRB_PLAN_ID.ID (R134): Running plan ID -/
def PRB_PLAN_ID : Field := ⟨0x20004, 0x0, 1, 0x0, 1, 31, 0, .ro, 0x0, 0, none, .acq⟩
/-- PRB_FRAME.TICKS (R134): FRAME_TICKS -/
def PRB_FRAME : Field := ⟨0x20008, 0x0, 1, 0x0, 1, 17, 0, .ro, 0x0, 0, none, .acq⟩
/-- PRB_TONES.N (R134): Tones -/
def PRB_TONES_N : Field := ⟨0x2000C, 0x0, 1, 0x0, 1, 7, 0, .ro, 0x0, 0, none, .acq⟩
/-- PRB_TONES.ALIGN (R134): Alignment on -/
def PRB_TONES_ALIGN : Field := ⟨0x2000C, 0x0, 1, 0x0, 1, 8, 8, .ro, 0x0, 0, none, .acq⟩
/-- PRB_TONES.DEPTHS (R134): Bit d − 1 set for each depth present -/
def PRB_TONES_DEPTHS : Field := ⟨0x2000C, 0x0, 1, 0x0, 1, 19, 16, .ro, 0x0, 0, none, .acq⟩
/-- PRB_WINDOW.W (R134): Record window in ticks -/
def PRB_WINDOW_W : Field := ⟨0x20010, 0x0, 1, 0x0, 1, 17, 0, .ro, 0x0, 0, none, .acq⟩
/-- PRB_WINDOW.WIN_OFS (R134): Window offset in ticks -/
def PRB_WINDOW_WIN_OFS : Field := ⟨0x20010, 0x0, 1, 0x0, 1, 31, 20, .ro, 0x0, 0, none, .acq⟩
/-- PRB_GATE.LEAD (R134): GATE_LEAD -/
def PRB_GATE_LEAD : Field := ⟨0x20014, 0x0, 1, 0x0, 1, 7, 0, .ro, 0x0, 0, none, .acq⟩
/-- PRB_GATE.LAG (R134): GATE_LAG -/
def PRB_GATE_LAG : Field := ⟨0x20014, 0x0, 1, 0x0, 1, 15, 8, .ro, 0x0, 0, none, .acq⟩
/-- PRB_GATE.STAGGER (R134): Stagger mode -/
def PRB_GATE_STAGGER : Field := ⟨0x20014, 0x0, 1, 0x0, 1, 17, 16, .ro, 0x0, 0, none, .acq⟩
/-- PRB_FIRE_LO.FIRE_LO (R134): Firings since reset, low word (R73) -/
def PRB_FIRE_LO : Field := ⟨0x20020, 0x0, 1, 0x0, 1, 31, 0, .ro, 0x0, 0, none, .free⟩
/-- PRB_FIRE_HI.FIRE_HI (R134): High word -/
def PRB_FIRE_HI : Field := ⟨0x20024, 0x0, 1, 0x0, 1, 31, 0, .ro, 0x0, 0, none, .free⟩
/-- PRB_FRAME0_LO.T0_LO (R134): Time base at the start of frame 0 (R121), low word -/
def PRB_FRAME0_LO : Field := ⟨0x20028, 0x0, 1, 0x0, 1, 31, 0, .ro, 0x0, 0, none, .free⟩
/-- PRB_FRAME0_HI.T0_HI (R134): High word -/
def PRB_FRAME0_HI : Field := ⟨0x2002C, 0x0, 1, 0x0, 1, 31, 0, .ro, 0x0, 0, none, .free⟩
/-- PRB_MB_CTL.EN (R134): Loop enable for MB0–MB2 -/
def PRB_MB_CTL_EN : Field := ⟨0x20040, 0x0, 1, 0x0, 1, 2, 0, .rwp, 0x0, 0, none, .free⟩
/-- PRB_MB_CTL.HOLD (R134): 1 = freeze all outputs -/
def PRB_MB_CTL_HOLD : Field := ⟨0x20040, 0x0, 1, 0x0, 1, 3, 3, .rwp, 0x0, 0, none, .free⟩
/-- PRB_MB_CTL.DITHER (R134): Dither and correction limit in output codes, 1–255; 0 is taken as 1 -/
def PRB_MB_CTL_DITHER : Field := ⟨0x20040, 0x0, 1, 0x0, 1, 15, 8, .rwp, 0x10, 0, none, .free⟩
/-- PRB_MB_CTL.GAIN (R134): Correction scale exponent, 0–15 -/
def PRB_MB_CTL_GAIN : Field := ⟨0x20040, 0x0, 1, 0x0, 1, 19, 16, .rwp, 0x6, 0, none, .free⟩
/-- PRB_MB_PILOT.PILOT (R134): Pilot DAC code, 0–2,047 -/
def PRB_MB_PILOT : Field := ⟨0x20044, 0x0, 1, 0x0, 1, 10, 0, .rwp, 0x100, 0, none, .free⟩
/-- PRB_MB_OUT.CODE (R134): Output code of MBi, i = 0–2; run-locked while its loop is enabled; reads the present output -/
def PRB_MB_OUT : Field := ⟨0x20048, 0x4, 3, 0x0, 1, 15, 0, .rwp, 0x8000, 0, none, .mbLoop⟩
/-- PRB_MB_STATUS.LOCK (R134): Per loop (R130) -/
def PRB_MB_STATUS_LOCK : Field := ⟨0x20054, 0x0, 1, 0x0, 1, 2, 0, .ro, 0x0, 0, none, .free⟩
/-- PRB_MB_STATUS.RAIL (R134): Per loop; clearing resumes correction -/
def PRB_MB_STATUS_RAIL : Field := ⟨0x20054, 0x0, 1, 0x0, 1, 6, 4, .w1c, 0x0, 0, none, .free⟩
/-- PRB_MB_STATUS.STARVED (R134): No idle interval for 1 ms -/
def PRB_MB_STATUS_STARVED : Field := ⟨0x20054, 0x0, 1, 0x0, 1, 8, 8, .ro, 0x0, 0, none, .free⟩
/-- PRB_DAC_TEST.EN (R134): 1 = drive constant codes with GATE_D closed; run-locked while acquisition runs -/
def PRB_DAC_TEST : Field := ⟨0x20060, 0x0, 1, 0x0, 1, 0, 0, .rwp, 0x0, 0, none, .acq⟩
/-- PRB_DAC_CODE.I (R134): PI code while EN = 1 -/
def PRB_DAC_CODE_I : Field := ⟨0x20064, 0x0, 1, 0x0, 1, 11, 0, .rwp, 0x0, 0, none, .free⟩
/-- PRB_DAC_CODE.Q (R134): PQ code while EN = 1 -/
def PRB_DAC_CODE_Q : Field := ⟨0x20064, 0x0, 1, 0x0, 1, 27, 16, .rwp, 0x0, 0, none, .free⟩
/-- PRB_SLOT_MAP.LANES (R134): Byte b of word w holds the lane of the tone in slot 4·w + b; 0xFF for slots ≥ N -/
def PRB_SLOT_MAP : Field := ⟨0x20100, 0x4, 32, 0x0, 1, 31, 0, .ro, 0x0, 0, none, .acq⟩
/-- RCV_IN_CFG.INV (R157): Negate codes (R136); run-locked while acquisition runs -/
def RCV_IN_CFG_INV : Field := ⟨0x30000, 0x20, 4, 0x0, 1, 0, 0, .rwp, 0x0, 0, none, .acq⟩
/-- RCV_IN_CFG.VCM_EN (R157): 1 = internal common-mode bias (R135) -/
def RCV_IN_CFG_VCM_EN : Field := ⟨0x30000, 0x20, 4, 0x0, 1, 1, 1, .rwp, 0x0, 0, none, .free⟩
/-- RCV_DCB_CTL.K (R157): 8–20; other values are taken as 14; rescales A (R140) -/
def RCV_DCB_CTL_K : Field := ⟨0x30004, 0x20, 4, 0x0, 1, 4, 0, .rwp, 0xE, 0, none, .free⟩
/-- RCV_DCB_CTL.AUTO (R157): Freeze across launches (R139) -/
def RCV_DCB_CTL_AUTO : Field := ⟨0x30004, 0x20, 4, 0x0, 1, 8, 8, .rwp, 0x1, 0, none, .free⟩
/-- RCV_DCB_CTL.FREEZE (R157): 1 = freeze -/
def RCV_DCB_CTL_FREEZE : Field := ⟨0x30004, 0x20, 4, 0x0, 1, 9, 9, .rwp, 0x0, 0, none, .free⟩
/-- RCV_DCB_CTL.CLIP_HOLD (R157): 1 = no update in a clipped tick -/
def RCV_DCB_CTL_CLIP_HOLD : Field := ⟨0x30004, 0x20, 4, 0x0, 1, 10, 10, .rwp, 0x1, 0, none, .free⟩
/-- RCV_DCB_CTL.TAIL (R157): Ticks after GATE_D closes, 0–4,095 -/
def RCV_DCB_CTL_TAIL : Field := ⟨0x30004, 0x20, 4, 0x0, 1, 27, 16, .rwp, 0xC8, 0, none, .free⟩
/-- RCV_DCB_PRESET.D (R157): Writing loads A so that D equals the value (R140) -/
def RCV_DCB_PRESET : Field := ⟨0x30008, 0x20, 4, 0x0, 1, 10, 0, .rwp, 0x0, 0, none, .free⟩
/-- RCV_DCB_EST.D (R157): Present subtraction value, signed -/
def RCV_DCB_EST : Field := ⟨0x3000C, 0x20, 4, 0x0, 1, 10, 0, .ro, 0x0, 0, none, .free⟩
/-- RCV_LANE_STATUS.CLIP (R157): A clip occurred (R137) -/
def RCV_LANE_STATUS_CLIP : Field := ⟨0x30010, 0x20, 4, 0x0, 1, 0, 0, .w1c, 0x0, 0, none, .free⟩
/-- RCV_LANE_STATUS.FROZEN (R157): Estimator frozen this tick -/
def RCV_LANE_STATUS_FROZEN : Field := ⟨0x30010, 0x20, 4, 0x0, 1, 1, 1, .ro, 0x0, 0, none, .free⟩
/-- RCV_LANE_STATUS.STALE (R157): A frame passed without an update -/
def RCV_LANE_STATUS_STALE : Field := ⟨0x30010, 0x20, 4, 0x0, 1, 2, 2, .w1c, 0x0, 0, none, .free⟩
/-- RCV_LANE_STATUS.ON_SP (R157): SP carries this lane -/
def RCV_LANE_STATUS_ON_SP : Field := ⟨0x30010, 0x20, 4, 0x0, 1, 3, 3, .ro, 0x0, 0, none, .free⟩
/-- RCV_CLIP.COUNT (R157): Ticks with a clip -/
def RCV_CLIP : Field := ⟨0x30014, 0x20, 4, 0x0, 1, 31, 0, .rc, 0x0, 0, none, .free⟩
/-- RCV_POL_CFG.IQ_SWAP_X (R157): R136; run-locked while acquisition runs -/
def RCV_POL_CFG_IQ_SWAP_X : Field := ⟨0x30080, 0x0, 1, 0x0, 1, 0, 0, .rwp, 0x0, 0, none, .acq⟩
/-- RCV_POL_CFG.IQ_SWAP_Y (R157): R136; run-locked while acquisition runs -/
def RCV_POL_CFG_IQ_SWAP_Y : Field := ⟨0x30080, 0x0, 1, 0x0, 1, 1, 1, .rwp, 0x0, 0, none, .acq⟩
/-- RCV_SP_CTL.LANE (R157): Lane to take over, 0–3; 7 = none -/
def RCV_SP_CTL_LANE : Field := ⟨0x30090, 0x0, 1, 0x0, 1, 2, 0, .rwp, 0x7, 0, none, .bg⟩
/-- RCV_SP_CTL.REQ (R157): Self-clearing; starts a takeover (R141) -/
def RCV_SP_CTL_REQ : Field := ⟨0x30090, 0x0, 1, 0x0, 1, 4, 4, .rwp, 0x0, 0, none, .bg⟩
/-- RCV_SP_CTL.RELEASE (R157): Self-clearing; ends a CARRY (R143) -/
def RCV_SP_CTL_RELEASE : Field := ⟨0x30090, 0x0, 1, 0x0, 1, 5, 5, .rwp, 0x0, 0, none, .bg⟩
/-- RCV_SP_CTL.PIN (R157): Hold the takeover -/
def RCV_SP_CTL_PIN : Field := ⟨0x30090, 0x0, 1, 0x0, 1, 6, 6, .rwp, 0x0, 0, none, .bg⟩
/-- RCV_SP_CTL.MATCH (R157): Compare limit in LSB RMS, 1–15; 0 is taken as 1 -/
def RCV_SP_CTL_MATCH : Field := ⟨0x30090, 0x0, 1, 0x0, 1, 11, 8, .rwp, 0x2, 0, none, .bg⟩
/-- RCV_SP_STATUS.LANE (R157): Lane carried or being compared -/
def RCV_SP_STATUS_LANE : Field := ⟨0x30094, 0x0, 1, 0x0, 1, 2, 0, .ro, 0x7, 0, none, .free⟩
/-- RCV_SP_STATUS.PHASE (R157): 0 IDLE, 1 SETTLE, 2 COMPARE_IN, 3 CARRY, 4 COMPARE_OUT, 5 RETURN -/
def RCV_SP_STATUS_PHASE : Field := ⟨0x30094, 0x0, 1, 0x0, 1, 6, 4, .ro, 0x0, 0, none, .free⟩
/-- RCV_SP_STATUS.MISMATCH (R157): A compare failed -/
def RCV_SP_STATUS_MISMATCH : Field := ⟨0x30094, 0x0, 1, 0x0, 1, 8, 8, .w1c, 0x0, 0, none, .free⟩
/-- RCV_SP_STATUS.RMS (R157): Last compare, in 1/256 LSB; saturates at 0xFFFF -/
def RCV_SP_STATUS_RMS : Field := ⟨0x30094, 0x0, 1, 0x0, 1, 31, 16, .ro, 0x0, 0, none, .free⟩
/-- RCV_SP_COUNT.COUNT (R157): Completed takeovers -/
def RCV_SP_COUNT : Field := ⟨0x30098, 0x0, 1, 0x0, 1, 31, 0, .rc, 0x0, 0, none, .free⟩
/-- RCV_BANK_SAT_X.COUNT (R157): Clamped coarse samples, X (R156) -/
def RCV_BANK_SAT_X : Field := ⟨0x300A0, 0x0, 1, 0x0, 1, 31, 0, .rc, 0x0, 0, none, .free⟩
/-- RCV_BANK_SAT_Y.COUNT (R157): As above, Y -/
def RCV_BANK_SAT_Y : Field := ⟨0x300A4, 0x0, 1, 0x0, 1, 31, 0, .rc, 0x0, 0, none, .free⟩
/-- RCV_BANK_PWR_X.POWER (R157): Channel C_j, X (R147) -/
def RCV_BANK_PWR_X : Field := ⟨0x30200, 0x4, 20, 0x0, 1, 31, 0, .ro, 0x0, 0, none, .free⟩
/-- RCV_BANK_PWR_Y.POWER (R157): Channel C_j, Y -/
def RCV_BANK_PWR_Y : Field := ⟨0x30280, 0x4, 20, 0x0, 1, 31, 0, .ro, 0x0, 0, none, .free⟩
/-- RCV_PROTO.H (R157): h[n], n = 0–119 -/
def RCV_PROTO : Field := ⟨0x30400, 0x4, 120, 0x0, 1, 17, 0, .rom, 0x0, 0, none, .free⟩
/-- RCV_HB_ROM.H (R157): Side coefficient h[2j − 1] of HBi, j = 1 … K_i -/
def RCV_HB_ROM : Field := ⟨0x30600, 0x40, 6, 0x4, 15, 17, 0, .rom, 0x0, 0, none, .free⟩
/-- TLA_CFG.ACTIVE (R158): 1 = used by the running plan -/
def TLA_CFG_ACTIVE : Field := ⟨0x100000, 0x200, 128, 0x0, 1, 0, 0, .ro, 0x0, 0, none, .acq⟩
/-- TLA_CFG.DEPTH (R158): d -/
def TLA_CFG_DEPTH : Field := ⟨0x100000, 0x200, 128, 0x0, 1, 3, 1, .ro, 0x0, 0, none, .acq⟩
/-- TLA_CFG.CHAN (R158): j of C_j -/
def TLA_CFG_CHAN : Field := ⟨0x100000, 0x200, 128, 0x0, 1, 12, 8, .ro, 0x0, 0, none, .acq⟩
/-- TLA_CFG.SLOT (R158): s -/
def TLA_CFG_SLOT : Field := ⟨0x100000, 0x200, 128, 0x0, 1, 18, 16, .ro, 0x0, 0, none, .acq⟩
/-- TLA_CFG.TONE (R158): Tone index k -/
def TLA_CFG_TONE : Field := ⟨0x100000, 0x200, 128, 0x0, 1, 30, 24, .ro, 0x0, 0, none, .acq⟩
/-- TLA_NCO.OMEGA (R158): ω (R148) -/
def TLA_NCO : Field := ⟨0x100004, 0x200, 128, 0x0, 1, 31, 0, .ro, 0x0, 0, none, .acq⟩
/-- TLA_SHIFTS.SHIFTS (R158): From the plan (R115) -/
def TLA_SHIFTS : Field := ⟨0x100008, 0x200, 128, 0x0, 1, 7, 0, .ro, 0x0, 0, none, .acq⟩
/-- TLA_HB_SEL.SEL1 (R158): Response of stages 1–4 (R153); run-locked while acquisition runs -/
def TLA_HB_SEL_SEL1 : Field := ⟨0x10000C, 0x200, 128, 0x0, 1, 2, 0, .rwp, 0x7, 0, none, .acq⟩
/-- TLA_HB_SEL.SEL2 (R158): Response of stages 1–4 (R153); run-locked while acquisition runs -/
def TLA_HB_SEL_SEL2 : Field := ⟨0x10000C, 0x200, 128, 0x0, 1, 6, 4, .rwp, 0x7, 0, none, .acq⟩
/-- TLA_HB_SEL.SEL3 (R158): Response of stages 1–4 (R153); run-locked while acquisition runs -/
def TLA_HB_SEL_SEL3 : Field := ⟨0x10000C, 0x200, 128, 0x0, 1, 10, 8, .rwp, 0x7, 0, none, .acq⟩
/-- TLA_HB_SEL.SEL4 (R158): Response of stages 1–4 (R153); run-locked while acquisition runs -/
def TLA_HB_SEL_SEL4 : Field := ⟨0x10000C, 0x200, 128, 0x0, 1, 14, 12, .rwp, 0x7, 0, none, .acq⟩
/-- TLA_HB_EFF.EFF1 (R158): Response in use; 0 for stages above d -/
def TLA_HB_EFF_EFF1 : Field := ⟨0x100010, 0x200, 128, 0x0, 1, 2, 0, .ro, 0x0, 0, none, .free⟩
/-- TLA_HB_EFF.EFF2 (R158): Response in use; 0 for stages above d -/
def TLA_HB_EFF_EFF2 : Field := ⟨0x100010, 0x200, 128, 0x0, 1, 6, 4, .ro, 0x0, 0, none, .free⟩
/-- TLA_HB_EFF.EFF3 (R158): Response in use; 0 for stages above d -/
def TLA_HB_EFF_EFF3 : Field := ⟨0x100010, 0x200, 128, 0x0, 1, 10, 8, .ro, 0x0, 0, none, .free⟩
/-- TLA_HB_EFF.EFF4 (R158): Response in use; 0 for stages above d -/
def TLA_HB_EFF_EFF4 : Field := ⟨0x100010, 0x200, 128, 0x0, 1, 14, 12, .ro, 0x0, 0, none, .free⟩
/-- TLA_LATENCY.LAT (R158): Latency in units of 0.125 ns (R155) -/
def TLA_LATENCY : Field := ⟨0x100014, 0x200, 128, 0x0, 1, 15, 0, .ro, 0x0, 0, none, .free⟩
/-- TLA_SAT_X.COUNT (R158): Lane samples from a clamp, X (R156) -/
def TLA_SAT_X : Field := ⟨0x100020, 0x200, 128, 0x0, 1, 31, 0, .rc, 0x0, 0, none, .free⟩
/-- TLA_SAT_Y.COUNT (R158): As above, Y -/
def TLA_SAT_Y : Field := ⟨0x100024, 0x200, 128, 0x0, 1, 31, 0, .rc, 0x0, 0, none, .free⟩
/-- TLA_SAT_STAGE.NCO (R158): The NCO clamped -/
def TLA_SAT_STAGE_NCO : Field := ⟨0x100028, 0x200, 128, 0x0, 1, 0, 0, .w1c, 0x0, 0, none, .free⟩
/-- TLA_SAT_STAGE.STAGE (R158): Bit i: stage i clamped -/
def TLA_SAT_STAGE_STAGE : Field := ⟨0x100028, 0x200, 128, 0x0, 1, 4, 1, .w1c, 0x0, 0, none, .free⟩
/-- TLA_SAT_FRAME_LO.FRAME_LO (R158): Last frame with a clamp, low word (R73) -/
def TLA_SAT_FRAME_LO : Field := ⟨0x100030, 0x200, 128, 0x0, 1, 31, 0, .ro, 0x0, 0, none, .free⟩
/-- TLA_SAT_FRAME_HI.FRAME_HI (R158): High word -/
def TLA_SAT_FRAME_HI : Field := ⟨0x100034, 0x200, 128, 0x0, 1, 31, 0, .ro, 0x0, 0, none, .free⟩
/-- TLA_PWR_X.POWER (R158): Mean I² + Q² of the last firing's P_k samples, X, shifted right by 8 -/
def TLA_PWR_X : Field := ⟨0x100040, 0x200, 128, 0x0, 1, 31, 0, .ro, 0x0, 0, none, .free⟩
/-- TLA_PWR_Y.POWER (R158): As above, Y -/
def TLA_PWR_Y : Field := ⟨0x100044, 0x200, 128, 0x0, 1, 31, 0, .ro, 0x0, 0, none, .free⟩
/-- CMP_CTL.GAIN (R186): Compression gain (R162); run-locked while acquisition runs -/
def CMP_CTL : Field := ⟨0x40000, 0x0, 1, 0x0, 1, 2, 0, .rwp, 0x0, 0, none, .acq⟩
/-- CMP_ALIGN_CTL.RELOCK_EVT (R186): Event ID of the laser re-lock (R169) -/
def CMP_ALIGN_CTL_RELOCK_EVT : Field := ⟨0x40004, 0x0, 1, 0x0, 1, 7, 0, .rwp, 0x0, 0, none, .free⟩
/-- CMP_ALIGN_CTL.RELOCK_EN (R186): 1 = re-lock events cause steps -/
def CMP_ALIGN_CTL_RELOCK_EN : Field := ⟨0x40004, 0x0, 1, 0x0, 1, 8, 8, .rwp, 0x0, 0, none, .free⟩
/-- CMP_ALIGN_CTL.FREEZE (R186): 1 = hold the traverse path (R172) -/
def CMP_ALIGN_CTL_FREEZE : Field := ⟨0x40004, 0x0, 1, 0x0, 1, 9, 9, .rwp, 0x0, 0, none, .free⟩
/-- CMP_ALIGN_STATUS.STATE (R186): State of the sample being formed (R173) -/
def CMP_ALIGN_STATUS_STATE : Field := ⟨0x40008, 0x0, 1, 0x0, 1, 1, 0, .ro, 0x3, 0, none, .free⟩
/-- CMP_ALIGN_STATUS.LAST_STEP (R186): Cause of the last step: 0 none, 1 ACQ_START, 2 PLAN_SWITCH, 3 re-lock, 4 ALIGN_RESET; the highest code … -/
def CMP_ALIGN_STATUS_LAST_STEP : Field := ⟨0x40008, 0x0, 1, 0x0, 1, 10, 8, .ro, 0x0, 0, none, .free⟩
/-- CMP_ALIGN_AGE.AGE (R186): Alignment age -/
def CMP_ALIGN_AGE : Field := ⟨0x4000C, 0x0, 1, 0x0, 1, 31, 0, .ro, 0x0, 0, none, .free⟩
/-- CMP_ALIGN_TRAV.COUNT (R186): Traverse count -/
def CMP_ALIGN_TRAV : Field := ⟨0x40010, 0x0, 1, 0x0, 1, 31, 0, .ro, 0x0, 0, none, .free⟩
/-- CMP_STEP_COUNT.COUNT (R186): Steps applied -/
def CMP_STEP_COUNT : Field := ⟨0x40014, 0x0, 1, 0x0, 1, 31, 0, .rc, 0x0, 0, none, .free⟩
/-- CMP_SAT_COUNT.COUNT (R186): Clamped compressed samples (R163) -/
def CMP_SAT_COUNT : Field := ⟨0x40018, 0x0, 1, 0x0, 1, 31, 0, .rc, 0x0, 0, none, .free⟩
/-- CMP_NULL_COUNT.COUNT (R186): NULL samples (R166) -/
def CMP_NULL_COUNT : Field := ⟨0x4001C, 0x0, 1, 0x0, 1, 31, 0, .rc, 0x0, 0, none, .free⟩
/-- CMP_REF_SEL.LANE (R186): Lane whose reference is accessed; run-locked while acquisition runs -/
def CMP_REF_SEL_LANE : Field := ⟨0x40020, 0x0, 1, 0x0, 1, 6, 0, .rwp, 0x0, 0, none, .acq⟩
/-- CMP_REF_SEL.INDEX (R186): Entry 0–128; advances by 1 after each write of CMP_REF_DATA at an index of 0–128, so it can reach 129. At … -/
def CMP_REF_SEL_INDEX : Field := ⟨0x40020, 0x0, 1, 0x0, 1, 15, 8, .rwp, 0x0, 0, none, .acq⟩
/-- CMP_REF_DATA.I (R186): Writing stores the entry at INDEX (R161); reading returns it; run-locked while acquisition runs -/
def CMP_REF_DATA_I : Field := ⟨0x40024, 0x0, 1, 0x0, 1, 11, 0, .rwp, 0x0, 0, none, .acq⟩
/-- CMP_REF_DATA.Q (R186): As I -/
def CMP_REF_DATA_Q : Field := ⟨0x40024, 0x0, 1, 0x0, 1, 27, 16, .rwp, 0x0, 0, none, .acq⟩
/-- CMP_REF_LEN.LEN (R186): Loaded length of LANE, 0–129; run-locked while acquisition runs -/
def CMP_REF_LEN : Field := ⟨0x40028, 0x0, 1, 0x0, 1, 7, 0, .rwp, 0x0, 0, none, .acq⟩
/-- CMP_LFSR.STATE (R186): Present LFSR state (R172) -/
def CMP_LFSR : Field := ⟨0x40040, 0x0, 1, 0x0, 1, 15, 0, .ro, 0xACE1, 0, none, .free⟩
/-- RED_CTL.CLOSE_MS (R187): Block close time in ms (R181), 1–1,000; 0 is taken as 1 -/
def RED_CTL : Field := ⟨0x50000, 0x0, 1, 0x0, 1, 9, 0, .rwp, 0xA, 0, none, .free⟩
/-- RED_E_CFG.CELL (R187): c, 2–8; run-locked while acquisition runs -/
def RED_E_CFG_CELL : Field := ⟨0x50004, 0x0, 1, 0x0, 1, 3, 0, .rwp, 0x4, 0, none, .acq⟩
/-- RED_E_CFG.INTERVAL (R187): e, 8–16; run-locked while acquisition runs -/
def RED_E_CFG_INTERVAL : Field := ⟨0x50004, 0x0, 1, 0x0, 1, 11, 8, .rwp, 0xC, 0, none, .acq⟩
/-- RED_E_CFG.TONE (R187): Tone index followed under ALIGN = 0; run-locked while acquisition runs -/
def RED_E_CFG_TONE : Field := ⟨0x50004, 0x0, 1, 0x0, 1, 22, 16, .rwp, 0x0, 0, none, .acq⟩
/-- RED_E_STATUS.CELLS (R187): Cells in use (R178) -/
def RED_E_STATUS : Field := ⟨0x50008, 0x0, 1, 0x0, 1, 14, 0, .ro, 0x0, 0, none, .free⟩
/-- RED_DROP_GLACIER.COUNT (R187): Blocks of the glacier feed discarded (R21) -/
def RED_DROP_GLACIER : Field := ⟨0x50010, 0x0, 1, 0x0, 1, 31, 0, .rc, 0x0, 0, none, .free⟩
/-- RED_DROP_FIRN.COUNT (R187): Blocks of firn streams discarded -/
def RED_DROP_FIRN : Field := ⟨0x50014, 0x0, 1, 0x0, 1, 31, 0, .rc, 0x0, 0, none, .free⟩
/-- RED_ZONE_STATE.LEVEL (R187): Zones 32·w to 32·w + 31 (R179) -/
def RED_ZONE_STATE : Field := ⟨0x50100, 0x4, 8, 0x0, 1, 31, 0, .ro, 0x0, 0, none, .free⟩
/-- RED_ZONE_CFG.FIRST_CELL (R187): First cell of Zz -/
def RED_ZONE_CFG_FIRST_CELL : Field := ⟨0x50400, 0xC, 256, 0x0, 1, 13, 0, .rwp, 0x0, 0, none, .free⟩
/-- RED_ZONE_CFG.CELLS (R187): Cell count -/
def RED_ZONE_CFG_CELLS : Field := ⟨0x50400, 0xC, 256, 0x0, 1, 27, 14, .rwp, 0x0, 0, none, .free⟩
/-- RED_ZONE_CFG.EN (R187): 1 = zone active -/
def RED_ZONE_CFG_EN : Field := ⟨0x50400, 0xC, 256, 0x0, 1, 31, 31, .rwp, 0x0, 0, none, .free⟩
/-- RED_ZONE_HI.BANDS (R187): Bit b: band b is included -/
def RED_ZONE_HI_BANDS : Field := ⟨0x50404, 0xC, 256, 0x0, 1, 7, 0, .rwp, 0x0, 0, none, .free⟩
/-- RED_ZONE_HI.THR_HI (R187): Upper threshold in units of 256 -/
def RED_ZONE_HI_THR_HI : Field := ⟨0x50404, 0xC, 256, 0x0, 1, 31, 8, .rwp, 0x0, 0, none, .free⟩
/-- RED_ZONE_LO.THR_LO (R187): Lower threshold in units of 256 -/
def RED_ZONE_LO : Field := ⟨0x50408, 0xC, 256, 0x0, 1, 31, 8, .rwp, 0x0, 0, none, .free⟩
/-- DTS_STATUS.STATE (R204): 0 UNCONFIGURED, 1 IDLE, 2 AVERAGING, 3 SKIPPING (R198), 4 CLOSING -/
def DTS_STATUS_STATE : Field := ⟨0x80000, 0x0, 1, 0x0, 1, 2, 0, .ro, 0x0, 0, none, .free⟩
/-- DTS_STATUS.REVERSE (R204): Reverse leg in progress -/
def DTS_STATUS_REVERSE : Field := ⟨0x80000, 0x0, 1, 0x0, 1, 3, 3, .ro, 0x0, 0, none, .free⟩
/-- DTS_STATUS.REF_BAD (R204): Level of event DTS_REF_BAD -/
def DTS_STATUS_REF_BAD : Field := ⟨0x80000, 0x0, 1, 0x0, 1, 4, 4, .ro, 0x0, 0, none, .free⟩
/-- DTS_STATUS.SLOT (R204): Slot the next close writes: 0 A, 1 B -/
def DTS_STATUS_SLOT : Field := ⟨0x80000, 0x0, 1, 0x0, 1, 8, 8, .ro, 0x0, 0, none, .free⟩
/-- DTS_SHOTS.COUNT (R204): Shots accumulated in the present leg -/
def DTS_SHOTS : Field := ⟨0x80004, 0x0, 1, 0x0, 1, 22, 0, .ro, 0x0, 0, none, .free⟩
/-- DTS_SEQ.SEQ (R204): SEQ of the newest complete slot -/
def DTS_SEQ : Field := ⟨0x80008, 0x0, 1, 0x0, 1, 31, 0, .ro, 0x0, 0, none, .free⟩
/-- DTS_CLIP_RA.COUNT (R204): Shots with an RA clip (R188) -/
def DTS_CLIP_RA : Field := ⟨0x8000C, 0x0, 1, 0x0, 1, 31, 0, .rc, 0x0, 0, none, .free⟩
/-- DTS_CLIP_RST.COUNT (R204): Shots with an RST clip -/
def DTS_CLIP_RST : Field := ⟨0x80010, 0x0, 1, 0x0, 1, 31, 0, .rc, 0x0, 0, none, .free⟩
/-- DTS_SKIP.COUNT (R204): Shots given up under R191 -/
def DTS_SKIP : Field := ⟨0x80014, 0x0, 1, 0x0, 1, 31, 0, .rc, 0x0, 0, none, .free⟩
/-- DTS_DARK_RA.MEAN (R204): Mean dark code of the last shot, RA -/
def DTS_DARK_RA : Field := ⟨0x80018, 0x0, 1, 0x0, 1, 13, 0, .ro, 0x0, 0, none, .free⟩
/-- DTS_DARK_RST.MEAN (R204): As above, RST -/
def DTS_DARK_RST : Field := ⟨0x8001C, 0x0, 1, 0x0, 1, 13, 0, .ro, 0x0, 0, none, .free⟩
/-- DTS_GPIO_TEST.DIR (R204): Drives GPIO_DIR while no average runs; run-locked while one runs -/
def DTS_GPIO_TEST : Field := ⟨0x80020, 0x0, 1, 0x0, 1, 0, 0, .rwp, 0x0, 0, none, .avg⟩
/-- SLM_STATUS.ARMED (R226): Sequencer armed -/
def SLM_STATUS_ARMED : Field := ⟨0x60000, 0x0, 1, 0x0, 1, 0, 0, .ro, 0x0, 0, none, .free⟩
/-- SLM_STATUS.GATE (R226): Active gate; 0x1F while disarmed -/
def SLM_STATUS_GATE : Field := ⟨0x60000, 0x0, 1, 0x0, 1, 8, 4, .ro, 0x1F, 0, none, .free⟩
/-- SLM_STATUS.ROLE (R226): Lift role (R223) -/
def SLM_STATUS_ROLE : Field := ⟨0x60000, 0x0, 1, 0x0, 1, 13, 12, .ro, 0x0, 0, none, .free⟩
/-- SLM_STATUS.LIFT_ARMED (R226): Lift-armed (R223) -/
def SLM_STATUS_LIFT_ARMED : Field := ⟨0x60000, 0x0, 1, 0x0, 1, 14, 14, .ro, 0x0, 0, none, .free⟩
/-- SLM_STATUS.LIFT_STUCK (R226): R225; cannot be cleared while LIFT_FIRE is asserted -/
def SLM_STATUS_LIFT_STUCK : Field := ⟨0x60000, 0x0, 1, 0x0, 1, 15, 15, .w1c, 0x0, 0, none, .free⟩
/-- SLM_STATUS.SLOTS (R226): Capture slots held, one bit per slot -/
def SLM_STATUS_SLOTS : Field := ⟨0x60000, 0x0, 1, 0x0, 1, 23, 16, .ro, 0x0, 0, none, .free⟩
/-- SLM_FIRES.COUNT (R226): FIRE actions performed -/
def SLM_FIRES : Field := ⟨0x60004, 0x0, 1, 0x0, 1, 31, 0, .rc, 0x0, 0, none, .free⟩
/-- SLM_CAP_DROP.COUNT (R226): Requests dropped (R219) -/
def SLM_CAP_DROP : Field := ⟨0x60008, 0x0, 1, 0x0, 1, 31, 0, .rc, 0x0, 0, none, .free⟩
/-- SLM_CAP_NOTREADY.COUNT (R226): FIRE requests without a running ring (R217) -/
def SLM_CAP_NOTREADY : Field := ⟨0x6000C, 0x0, 1, 0x0, 1, 31, 0, .rc, 0x0, 0, none, .free⟩
/-- SLM_CAP_BADRANGE.COUNT (R226): FIRE requests refused on range or averaging -/
def SLM_CAP_BADRANGE : Field := ⟨0x60010, 0x0, 1, 0x0, 1, 31, 0, .rc, 0x0, 0, none, .free⟩
/-- SLM_SW_EVT.SW (R226): Levels of SW0–SW15 -/
def SLM_SW_EVT : Field := ⟨0x60014, 0x0, 1, 0x0, 1, 15, 0, .rwp, 0x0, 0, none, .free⟩
/-- SLM_PT.TICKS (R226): Period of PTn, n = 0–3 (R207) -/
def SLM_PT : Field := ⟨0x60018, 0x4, 4, 0x0, 1, 31, 0, .rwp, 0x0, 0, none, .free⟩
/-- SLM_GL_CTL.GROOM (R226): Groom the feed; run-locked while acquisition runs -/
def SLM_GL_CTL_GROOM : Field := ⟨0x60028, 0x0, 1, 0x0, 1, 0, 0, .rwp, 0x1, 0, none, .acq⟩
/-- SLM_GL_CTL.K (R226): Quantiser k, 0–8; run-locked while acquisition runs -/
def SLM_GL_CTL_K : Field := ⟨0x60028, 0x0, 1, 0x0, 1, 7, 4, .rwp, 0x0, 0, none, .acq⟩
/-- SLM_GL_CTL.LEVEL (R226): Groomer level, 0–2; run-locked while acquisition runs -/
def SLM_GL_CTL_LEVEL : Field := ⟨0x60028, 0x0, 1, 0x0, 1, 9, 8, .rwp, 0x0, 0, none, .acq⟩
/-- SLM_GL_CTL.RUN (R226): Ring running -/
def SLM_GL_CTL_RUN : Field := ⟨0x60028, 0x0, 1, 0x0, 1, 16, 16, .ro, 0x0, 0, none, .free⟩
/-- SLM_GL_SEGS.SEGS (R226): Segments in the ring -/
def SLM_GL_SEGS : Field := ⟨0x6002C, 0x0, 1, 0x0, 1, 11, 0, .ro, 0x0, 0, none, .free⟩
/-- SLM_GL_PINNED.SEGS (R226): Segments pinned -/
def SLM_GL_PINNED : Field := ⟨0x60030, 0x0, 1, 0x0, 1, 11, 0, .ro, 0x0, 0, none, .free⟩
/-- SLM_GL_DEPTH_MS.MS (R226): Retained depth -/
def SLM_GL_DEPTH_MS : Field := ⟨0x60034, 0x0, 1, 0x0, 1, 31, 0, .ro, 0x0, 0, none, .free⟩
/-- SLM_GL_OLDEST_LO.LO (R226): STAMP of the oldest retained block (R73) -/
def SLM_GL_OLDEST_LO : Field := ⟨0x60038, 0x0, 1, 0x0, 1, 31, 0, .ro, 0x0, 0, none, .free⟩
/-- SLM_GL_OLDEST_HI.HI (R226): High word -/
def SLM_GL_OLDEST_HI : Field := ⟨0x6003C, 0x0, 1, 0x0, 1, 31, 0, .ro, 0x0, 0, none, .free⟩
/-- SLM_LIFT_CTL.ARM_AT_START (R226): R223; run-locked while armed -/
def SLM_LIFT_CTL_ARM_AT_START : Field := ⟨0x60040, 0x0, 1, 0x0, 1, 0, 0, .rwp, 0x1, 0, none, .armed⟩
/-- SLM_LIFT_CTL.ADDR (R226): Unit address -/
def SLM_LIFT_CTL_ADDR : Field := ⟨0x60040, 0x0, 1, 0x0, 1, 12, 8, .ro, 0x0, 0, none, .free⟩
/-- SLM_LIFT_COMP.NS (R226): Cable compensation, 0–2,000 ns; values above are taken as 2,000 -/
def SLM_LIFT_COMP : Field := ⟨0x60044, 0x0, 1, 0x0, 1, 10, 0, .rwp, 0x0, 0, none, .free⟩
/-- SLM_LIFT_LATCH_LO.LO (R226): Last lift latch (R224, R73) -/
def SLM_LIFT_LATCH_LO : Field := ⟨0x60048, 0x0, 1, 0x0, 1, 31, 0, .ro, 0x0, 0, none, .free⟩
/-- SLM_LIFT_LATCH_HI.HI (R226): High word -/
def SLM_LIFT_LATCH_HI : Field := ⟨0x6004C, 0x0, 1, 0x0, 1, 31, 0, .ro, 0x0, 0, none, .free⟩
/-- SLM_LIFT_COUNT.COUNT (R226): Lift fires latched -/
def SLM_LIFT_COUNT : Field := ⟨0x60050, 0x0, 1, 0x0, 1, 31, 0, .rc, 0x0, 0, none, .free⟩
/-- SLM_ZSEL.FIRST (R226): First zone of ZSELi, i = 0–127 (R206); run-locked while armed -/
def SLM_ZSEL_FIRST : Field := ⟨0x60080, 0x4, 128, 0x0, 1, 7, 0, .rwp, 0x0, 0, none, .armed⟩
/-- SLM_ZSEL.COUNT (R226): Zones, 0–256 -/
def SLM_ZSEL_COUNT : Field := ⟨0x60080, 0x4, 128, 0x0, 1, 16, 8, .rwp, 0x0, 0, none, .armed⟩
/-- SLM_ZSEL.ALL (R226): 0 ANY, 1 ALL -/
def SLM_ZSEL_ALL : Field := ⟨0x60080, 0x4, 128, 0x0, 1, 24, 24, .rwp, 0x0, 0, none, .armed⟩
/-- SLM_GATE_COND.COND (R226): R210 -/
def SLM_GATE_COND : Field := ⟨0x60400, 0x40, 16, 0x0, 1, 21, 0, .ro, 0xE6, 0, none, .free⟩
/-- SLM_GATE_COUNT.COUNT_N (R226): R210 -/
def SLM_GATE_COUNT : Field := ⟨0x60404, 0x40, 16, 0x0, 1, 31, 0, .ro, 0x1, 0, none, .free⟩
/-- SLM_GATE_TIMER.TIMER (R226): R210 -/
def SLM_GATE_TIMER : Field := ⟨0x60408, 0x40, 16, 0x0, 1, 31, 0, .ro, 0x0, 0, none, .free⟩
/-- SLM_GATE_NEXT.NEXT (R226): R210 -/
def SLM_GATE_NEXT : Field := ⟨0x6040C, 0x40, 16, 0x0, 1, 12, 0, .ro, 0x1F1F, 0, none, .free⟩
/-- SLM_GATE_ACT.ACT (R226): R210 -/
def SLM_GATE_ACT : Field := ⟨0x60410, 0x40, 16, 0x0, 1, 9, 0, .ro, 0x0, 0, none, .free⟩
/-- SLM_GATE_WIN.WIN (R226): R210 -/
def SLM_GATE_WIN : Field := ⟨0x60414, 0x40, 16, 0x0, 1, 31, 0, .ro, 0x0, 0, none, .free⟩
/-- SLM_GATE_FIRST.FIRST (R226): R210 -/
def SLM_GATE_FIRST : Field := ⟨0x60418, 0x40, 16, 0x0, 1, 31, 0, .ro, 0x0, 0, none, .free⟩
/-- SLM_GATE_POINTS.POINTS (R226): R210 -/
def SLM_GATE_POINTS : Field := ⟨0x6041C, 0x40, 16, 0x0, 1, 31, 0, .ro, 0x1, 0, none, .free⟩
/-- SLM_GATE_AVG.AVG (R226): R210 -/
def SLM_GATE_AVG : Field := ⟨0x60420, 0x40, 16, 0x0, 1, 31, 0, .ro, 0x10001, 0, none, .free⟩
/-- SLM_GATE_CNT.CNT (R226): Present counter of the active gate; 0 otherwise -/
def SLM_GATE_CNT : Field := ⟨0x60424, 0x40, 16, 0x0, 1, 31, 0, .ro, 0x0, 0, none, .free⟩
/-- SLM_GATE_TMR.TMR (R226): Remaining timer ticks of the active gate -/
def SLM_GATE_TMR : Field := ⟨0x60428, 0x40, 16, 0x0, 1, 31, 0, .ro, 0x0, 0, none, .free⟩
/-- SLM_GATE_HITS.COUNT (R226): COUNT actions (R213) -/
def SLM_GATE_HITS : Field := ⟨0x6042C, 0x40, 16, 0x0, 1, 31, 0, .rc, 0x0, 0, none, .free⟩
/-- SLM_GATE_IGN.COUNT (R226): Fires ignored (R219) -/
def SLM_GATE_IGN : Field := ⟨0x60430, 0x40, 16, 0x0, 1, 31, 0, .rc, 0x0, 0, none, .free⟩
/-- SLM_GATE_MARK_LO.LO (R226): Time of the last MARK (R73) -/
def SLM_GATE_MARK_LO : Field := ⟨0x60434, 0x40, 16, 0x0, 1, 31, 0, .ro, 0x0, 0, none, .free⟩
/-- SLM_GATE_MARK_HI.HI (R226): High word -/
def SLM_GATE_MARK_HI : Field := ⟨0x60438, 0x40, 16, 0x0, 1, 31, 0, .ro, 0x0, 0, none, .free⟩
/-- GRM_STATUS.JOBS (R248): Jobs queued or running, 0–16 -/
def GRM_STATUS_JOBS : Field := ⟨0x70000, 0x0, 1, 0x0, 1, 4, 0, .ro, 0x0, 0, none, .free⟩
/-- GRM_STATUS.C0_BUSY (R248): Compress instance 0 working -/
def GRM_STATUS_C0_BUSY : Field := ⟨0x70000, 0x0, 1, 0x0, 1, 8, 8, .ro, 0x0, 0, none, .free⟩
/-- GRM_STATUS.C1_BUSY (R248): Compress instance 1 working -/
def GRM_STATUS_C1_BUSY : Field := ⟨0x70000, 0x0, 1, 0x0, 1, 9, 9, .ro, 0x0, 0, none, .free⟩
/-- GRM_STATUS.D_BUSY (R248): Decompress instance working -/
def GRM_STATUS_D_BUSY : Field := ⟨0x70000, 0x0, 1, 0x0, 1, 10, 10, .ro, 0x0, 0, none, .free⟩
/-- GRM_STATUS.FEED_SHORT (R248): Stream blocks lost for lack of throughput (R240) -/
def GRM_STATUS_FEED_SHORT : Field := ⟨0x70000, 0x0, 1, 0x0, 1, 16, 16, .w1c, 0x0, 0, none, .free⟩
/-- GRM_STREAM_CFG.LEVEL (R248): Level of groomed host and firn streams, 0–2; 3 is taken as 2; run-locked while a groomed stream is open -/
def GRM_STREAM_CFG_LEVEL : Field := ⟨0x70004, 0x0, 1, 0x0, 1, 1, 0, .rwp, 0x1, 0, none, .groomed⟩
/-- GRM_STREAM_CFG.PRED (R248): Predictor of all stream grooming; run-locked while a groomed stream is open or the ring runs -/
def GRM_STREAM_CFG_PRED : Field := ⟨0x70004, 0x0, 1, 0x0, 1, 4, 4, .rwp, 0x0, 0, none, .groomedOrRing⟩
/-- GRM_STORED.COUNT (R248): Chunks stored and blocks delivered ungroomed (R237, R239) -/
def GRM_STORED : Field := ⟨0x70010, 0x0, 1, 0x0, 1, 31, 0, .rc, 0x0, 0, none, .free⟩
/-- GRM_DATA_ERR.COUNT (R248): Chunks that failed to decode (R238) -/
def GRM_DATA_ERR : Field := ⟨0x70014, 0x0, 1, 0x0, 1, 31, 0, .rc, 0x0, 0, none, .free⟩
/-- GRM_C_IN_LO.LO (R248): Bytes taken by both compress instances (R73) -/
def GRM_C_IN_LO : Field := ⟨0x70020, 0x0, 1, 0x0, 1, 31, 0, .ro, 0x0, 0, none, .free⟩
/-- GRM_C_IN_HI.HI (R248): High word -/
def GRM_C_IN_HI : Field := ⟨0x70024, 0x0, 1, 0x0, 1, 31, 0, .ro, 0x0, 0, none, .free⟩
/-- GRM_C_OUT_LO.LO (R248): Bytes they wrote -/
def GRM_C_OUT_LO : Field := ⟨0x70028, 0x0, 1, 0x0, 1, 31, 0, .ro, 0x0, 0, none, .free⟩
/-- GRM_C_OUT_HI.HI (R248): High word -/
def GRM_C_OUT_HI : Field := ⟨0x7002C, 0x0, 1, 0x0, 1, 31, 0, .ro, 0x0, 0, none, .free⟩
/-- GRM_D_OUT_LO.LO (R248): Bytes written by the decompress instance -/
def GRM_D_OUT_LO : Field := ⟨0x70030, 0x0, 1, 0x0, 1, 31, 0, .ro, 0x0, 0, none, .free⟩
/-- GRM_D_OUT_HI.HI (R248): High word -/
def GRM_D_OUT_HI : Field := ⟨0x70034, 0x0, 1, 0x0, 1, 31, 0, .ro, 0x0, 0, none, .free⟩
/-- GRM_SLOT_STATE.STATE (R248): 2 bits per slot, slot 16·w + i at [2i+1:2i], w = 0–3: 0 FREE, 1 ACTIVE, 2 SAVED -/
def GRM_SLOT_STATE : Field := ⟨0x70040, 0x4, 4, 0x0, 1, 31, 0, .ro, 0x0, 0, none, .free⟩

def prbPart0 : List Field := [PRB_STATE_STATE, PRB_STATE_DARK, PRB_PLAN_ID, PRB_FRAME, PRB_TONES_N, PRB_TONES_ALIGN, PRB_TONES_DEPTHS, PRB_WINDOW_W, PRB_WINDOW_WIN_OFS, PRB_GATE_LEAD, PRB_GATE_LAG, PRB_GATE_STAGGER]
def prbPart1 : List Field := [PRB_FIRE_LO, PRB_FIRE_HI, PRB_FRAME0_LO, PRB_FRAME0_HI, PRB_MB_CTL_EN, PRB_MB_CTL_HOLD, PRB_MB_CTL_DITHER, PRB_MB_CTL_GAIN, PRB_MB_PILOT, PRB_MB_OUT, PRB_MB_STATUS_LOCK, PRB_MB_STATUS_RAIL]
def prbPart2 : List Field := [PRB_MB_STATUS_STARVED, PRB_DAC_TEST, PRB_DAC_CODE_I, PRB_DAC_CODE_Q, PRB_SLOT_MAP]
/-- Every field of the PRB block's register tables. -/
def prbFields : List Field := prbPart0 ++ prbPart1 ++ prbPart2
def rcvPart0 : List Field := [RCV_IN_CFG_INV, RCV_IN_CFG_VCM_EN, RCV_DCB_CTL_K, RCV_DCB_CTL_AUTO, RCV_DCB_CTL_FREEZE, RCV_DCB_CTL_CLIP_HOLD, RCV_DCB_CTL_TAIL, RCV_DCB_PRESET, RCV_DCB_EST, RCV_LANE_STATUS_CLIP, RCV_LANE_STATUS_FROZEN, RCV_LANE_STATUS_STALE]
def rcvPart1 : List Field := [RCV_LANE_STATUS_ON_SP, RCV_CLIP, RCV_POL_CFG_IQ_SWAP_X, RCV_POL_CFG_IQ_SWAP_Y, RCV_SP_CTL_LANE, RCV_SP_CTL_REQ, RCV_SP_CTL_RELEASE, RCV_SP_CTL_PIN, RCV_SP_CTL_MATCH, RCV_SP_STATUS_LANE, RCV_SP_STATUS_PHASE, RCV_SP_STATUS_MISMATCH]
def rcvPart2 : List Field := [RCV_SP_STATUS_RMS, RCV_SP_COUNT, RCV_BANK_SAT_X, RCV_BANK_SAT_Y, RCV_BANK_PWR_X, RCV_BANK_PWR_Y, RCV_PROTO, RCV_HB_ROM]
/-- Every field of the RCV block's register tables. -/
def rcvFields : List Field := rcvPart0 ++ rcvPart1 ++ rcvPart2
def tlaPart0 : List Field := [TLA_CFG_ACTIVE, TLA_CFG_DEPTH, TLA_CFG_CHAN, TLA_CFG_SLOT, TLA_CFG_TONE, TLA_NCO, TLA_SHIFTS, TLA_HB_SEL_SEL1, TLA_HB_SEL_SEL2, TLA_HB_SEL_SEL3, TLA_HB_SEL_SEL4, TLA_HB_EFF_EFF1]
def tlaPart1 : List Field := [TLA_HB_EFF_EFF2, TLA_HB_EFF_EFF3, TLA_HB_EFF_EFF4, TLA_LATENCY, TLA_SAT_X, TLA_SAT_Y, TLA_SAT_STAGE_NCO, TLA_SAT_STAGE_STAGE, TLA_SAT_FRAME_LO, TLA_SAT_FRAME_HI, TLA_PWR_X, TLA_PWR_Y]
/-- Every field of the TLA block's register tables. -/
def tlaFields : List Field := tlaPart0 ++ tlaPart1
def cmpPart0 : List Field := [CMP_CTL, CMP_ALIGN_CTL_RELOCK_EVT, CMP_ALIGN_CTL_RELOCK_EN, CMP_ALIGN_CTL_FREEZE, CMP_ALIGN_STATUS_STATE, CMP_ALIGN_STATUS_LAST_STEP, CMP_ALIGN_AGE, CMP_ALIGN_TRAV, CMP_STEP_COUNT, CMP_SAT_COUNT, CMP_NULL_COUNT, CMP_REF_SEL_LANE]
def cmpPart1 : List Field := [CMP_REF_SEL_INDEX, CMP_REF_DATA_I, CMP_REF_DATA_Q, CMP_REF_LEN, CMP_LFSR]
/-- Every field of the CMP block's register tables. -/
def cmpFields : List Field := cmpPart0 ++ cmpPart1
def redPart0 : List Field := [RED_CTL, RED_E_CFG_CELL, RED_E_CFG_INTERVAL, RED_E_CFG_TONE, RED_E_STATUS, RED_DROP_GLACIER, RED_DROP_FIRN, RED_ZONE_STATE, RED_ZONE_CFG_FIRST_CELL, RED_ZONE_CFG_CELLS, RED_ZONE_CFG_EN, RED_ZONE_HI_BANDS]
def redPart1 : List Field := [RED_ZONE_HI_THR_HI, RED_ZONE_LO]
/-- Every field of the RED block's register tables. -/
def redFields : List Field := redPart0 ++ redPart1
def dtsPart0 : List Field := [DTS_STATUS_STATE, DTS_STATUS_REVERSE, DTS_STATUS_REF_BAD, DTS_STATUS_SLOT, DTS_SHOTS, DTS_SEQ, DTS_CLIP_RA, DTS_CLIP_RST, DTS_SKIP, DTS_DARK_RA, DTS_DARK_RST, DTS_GPIO_TEST]
/-- Every field of the DTS block's register tables. -/
def dtsFields : List Field := dtsPart0
def slmPart0 : List Field := [SLM_STATUS_ARMED, SLM_STATUS_GATE, SLM_STATUS_ROLE, SLM_STATUS_LIFT_ARMED, SLM_STATUS_LIFT_STUCK, SLM_STATUS_SLOTS, SLM_FIRES, SLM_CAP_DROP, SLM_CAP_NOTREADY, SLM_CAP_BADRANGE, SLM_SW_EVT, SLM_PT]
def slmPart1 : List Field := [SLM_GL_CTL_GROOM, SLM_GL_CTL_K, SLM_GL_CTL_LEVEL, SLM_GL_CTL_RUN, SLM_GL_SEGS, SLM_GL_PINNED, SLM_GL_DEPTH_MS, SLM_GL_OLDEST_LO, SLM_GL_OLDEST_HI, SLM_LIFT_CTL_ARM_AT_START, SLM_LIFT_CTL_ADDR, SLM_LIFT_COMP]
def slmPart2 : List Field := [SLM_LIFT_LATCH_LO, SLM_LIFT_LATCH_HI, SLM_LIFT_COUNT, SLM_ZSEL_FIRST, SLM_ZSEL_COUNT, SLM_ZSEL_ALL, SLM_GATE_COND, SLM_GATE_COUNT, SLM_GATE_TIMER, SLM_GATE_NEXT, SLM_GATE_ACT, SLM_GATE_WIN]
def slmPart3 : List Field := [SLM_GATE_FIRST, SLM_GATE_POINTS, SLM_GATE_AVG, SLM_GATE_CNT, SLM_GATE_TMR, SLM_GATE_HITS, SLM_GATE_IGN, SLM_GATE_MARK_LO, SLM_GATE_MARK_HI]
/-- Every field of the SLM block's register tables. -/
def slmFields : List Field := slmPart0 ++ slmPart1 ++ slmPart2 ++ slmPart3
def grmPart0 : List Field := [GRM_STATUS_JOBS, GRM_STATUS_C0_BUSY, GRM_STATUS_C1_BUSY, GRM_STATUS_D_BUSY, GRM_STATUS_FEED_SHORT, GRM_STREAM_CFG_LEVEL, GRM_STREAM_CFG_PRED, GRM_STORED, GRM_DATA_ERR, GRM_C_IN_LO, GRM_C_IN_HI, GRM_C_OUT_LO]
def grmPart1 : List Field := [GRM_C_OUT_HI, GRM_D_OUT_LO, GRM_D_OUT_HI, GRM_SLOT_STATE]
/-- Every field of the GRM block's register tables. -/
def grmFields : List Field := grmPart0 ++ grmPart1

end Sys2Proof.Machine.Reg
end

