-- ==== Sys2Proof/Machine/RegsControl.lean ====
section
/-! DEFINITION. The register fields of the GLB, PWR, HQE and SUM blocks (chapters 03, 04 and 21).
Each entry is one row of a register table of the spec: BAR 0 offset, stride and count of the instances, inner stride and count, bits, access code, reset, and lock. -/

namespace Sys2Proof.Machine.Reg

/-- GLB_ID.PART (R77): Part number -/
def GLB_ID_PART : Field := ⟨0x0, 0x0, 1, 0x0, 1, 31, 16, .ro, 0x6128, 0, none, .free⟩
/-- GLB_ID.VARIANT (R77): 0x01 = GH6128-FB -/
def GLB_ID_VARIANT : Field := ⟨0x0, 0x0, 1, 0x0, 1, 15, 8, .ro, 0x1, 0, none, .free⟩
/-- GLB_ID.REVISION (R77): Silicon revision (R1) -/
def GLB_ID_REVISION : Field := ⟨0x0, 0x0, 1, 0x0, 1, 7, 0, .ro, 0xB0, 0, none, .free⟩
/-- GLB_ERR_STATUS.LOCKVIOL (R77): A write would have changed a locked field (R65) -/
def GLB_ERR_STATUS_LOCKVIOL : Field := ⟨0x10, 0x0, 1, 0x0, 1, 0, 0, .w1c, 0x0, 0, none, .free⟩
/-- GLB_ERR_STATUS.RSVD_RD (R77): A reserved location was read (R62) -/
def GLB_ERR_STATUS_RSVD_RD : Field := ⟨0x10, 0x0, 1, 0x0, 1, 1, 1, .w1c, 0x0, 0, none, .free⟩
/-- GLB_ERR_STATUS.RSVD_WR (R77): A reserved location was written (R62) -/
def GLB_ERR_STATUS_RSVD_WR : Field := ⟨0x10, 0x0, 1, 0x0, 1, 2, 2, .w1c, 0x0, 0, none, .free⟩
/-- GLB_ERR_STATUS.OVERRUN (R77): A write arrived while BUSY was set (R69) -/
def GLB_ERR_STATUS_OVERRUN : Field := ⟨0x10, 0x0, 1, 0x0, 1, 3, 3, .w1c, 0x0, 0, none, .free⟩
/-- GLB_ERR_STATUS.XTMO (R77): A crossing transaction was abandoned (R72) -/
def GLB_ERR_STATUS_XTMO : Field := ⟨0x10, 0x0, 1, 0x0, 1, 4, 4, .w1c, 0x0, 0, none, .free⟩
/-- GLB_ERR_STATUS.WIDTH (R77): An access had an unsupported width (R61) -/
def GLB_ERR_STATUS_WIDTH : Field := ⟨0x10, 0x0, 1, 0x0, 1, 5, 5, .w1c, 0x0, 0, none, .free⟩
/-- GLB_ERR_STATUS.MULTI (R77): More than one error since the last clear -/
def GLB_ERR_STATUS_MULTI : Field := ⟨0x10, 0x0, 1, 0x0, 1, 31, 31, .w1c, 0x0, 0, none, .free⟩
/-- GLB_ERR_ADR.OFFSET (R77): BAR 0 byte offset of the captured access -/
def GLB_ERR_ADR_OFFSET : Field := ⟨0x14, 0x0, 1, 0x0, 1, 23, 0, .ro, 0x0, 0, none, .free⟩
/-- GLB_ERR_ADR.BLOCK (R77): Row of the R60 table, counted from 0 (GLB = 0 … SUM = 21); 0x1F = outside every region -/
def GLB_ERR_ADR_BLOCK : Field := ⟨0x14, 0x0, 1, 0x0, 1, 28, 24, .ro, 0x0, 0, none, .free⟩
/-- GLB_ERR_INFO.INITIATOR (R77): 0 PCIe host; 1 summit controller; 2–9 ridge cores 0–7; 10 HQE microcode; 11 cairn -/
def GLB_ERR_INFO_INITIATOR : Field := ⟨0x18, 0x0, 1, 0x0, 1, 3, 0, .ro, 0x0, 0, none, .free⟩
/-- GLB_ERR_INFO.WRITE (R77): 1 = the access was a write -/
def GLB_ERR_INFO_WRITE : Field := ⟨0x18, 0x0, 1, 0x0, 1, 4, 4, .ro, 0x0, 0, none, .free⟩
/-- GLB_ERR_INFO.ISLAND (R77): Owning island index (R67) -/
def GLB_ERR_INFO_ISLAND : Field := ⟨0x18, 0x0, 1, 0x0, 1, 12, 8, .ro, 0x0, 0, none, .free⟩
/-- GLB_ERR_COUNT.COUNT (R77): Register-access errors since the last read, each counted once, the first included (R76) -/
def GLB_ERR_COUNT : Field := ⟨0x1C, 0x0, 1, 0x0, 1, 31, 0, .rc, 0x0, 0, none, .free⟩
/-- GLB_XING_BUSY.BUSY (R77): Posted write in flight, one bit per island (R67, R68) -/
def GLB_XING_BUSY : Field := ⟨0x20, 0x0, 1, 0x0, 1, 23, 0, .ro, 0x0, 0, none, .free⟩
/-- GLB_XING_OVERRUN.OVR (R77): Write dropped on BUSY, per island -/
def GLB_XING_OVERRUN : Field := ⟨0x24, 0x0, 1, 0x0, 1, 23, 0, .w1c, 0x0, 0, none, .free⟩
/-- GLB_XING_TMO.TMO (R77): Crossing timeout, per island -/
def GLB_XING_TMO : Field := ⟨0x28, 0x0, 1, 0x0, 1, 23, 0, .w1c, 0x0, 0, none, .free⟩
/-- GLB_TB_NOW_LO.NOW_LO (R77): Time base, low word (R73) -/
def GLB_TB_NOW_LO : Field := ⟨0x40, 0x0, 1, 0x0, 1, 31, 0, .ro, 0x0, 0, none, .free⟩
/-- GLB_TB_NOW_HI.NOW_HI (R77): Time base, high word -/
def GLB_TB_NOW_HI : Field := ⟨0x44, 0x0, 1, 0x0, 1, 31, 0, .ro, 0x0, 0, none, .free⟩
/-- GLB_TB_LOAD_LO.LOAD_LO (R77): Load value, low word; commits the pair (R74) -/
def GLB_TB_LOAD_LO : Field := ⟨0x48, 0x0, 1, 0x0, 1, 31, 0, .rw, 0x0, 0, none, .free⟩
/-- GLB_TB_LOAD_HI.LOAD_HI (R77): Load value, high word -/
def GLB_TB_LOAD_HI : Field := ⟨0x4C, 0x0, 1, 0x0, 1, 31, 0, .rw, 0x0, 0, none, .free⟩
/-- GLB_TB_CTL.LOAD_ARM (R77): 1 = load at the next valid PPS edge; cleared by hardware at the load (R49) -/
def GLB_TB_CTL_LOAD_ARM : Field := ⟨0x50, 0x0, 1, 0x0, 1, 0, 0, .rw, 0x0, 0, none, .free⟩
/-- GLB_TB_CTL.DISC_EN (R77): 1 = apply the slew and rate corrections of R50; 0 = measure the error only -/
def GLB_TB_CTL_DISC_EN : Field := ⟨0x50, 0x0, 1, 0x0, 1, 1, 1, .rw, 0x1, 0, none, .free⟩
/-- GLB_TB_STATUS.PPS_VALID (R77): A valid PPS edge has been seen within 1.5 s (R48) -/
def GLB_TB_STATUS_PPS_VALID : Field := ⟨0x54, 0x0, 1, 0x0, 1, 0, 0, .ro, 0x0, 0, none, .free⟩
/-- GLB_TB_STATUS.DISCIPLINED (R77): Per R50 -/
def GLB_TB_STATUS_DISCIPLINED : Field := ⟨0x54, 0x0, 1, 0x0, 1, 1, 1, .ro, 0x0, 0, none, .free⟩
/-- GLB_TB_STATUS.PPS_FAR (R77): |e| > 10 µs; cleared by hardware at a load -/
def GLB_TB_STATUS_PPS_FAR : Field := ⟨0x54, 0x0, 1, 0x0, 1, 2, 2, .ro, 0x0, 0, none, .free⟩
/-- GLB_TB_PPS_ERR.ERR (R77): Signed error e of the last valid edge, in ns -/
def GLB_TB_PPS_ERR : Field := ⟨0x58, 0x0, 1, 0x0, 1, 31, 0, .ro, 0x0, 0, none, .free⟩
/-- GLB_TB_PPS_REJECT.COUNT (R77): Rejected PPS edges -/
def GLB_TB_PPS_REJECT : Field := ⟨0x5C, 0x0, 1, 0x0, 1, 31, 0, .rc, 0x0, 0, none, .free⟩
/-- GLB_TB_RATE.RATE (R77): Signed rate correction in ppb, −50,000 to +50,000, rounded half to even from the 0.5 ppb value held (R50) -/
def GLB_TB_RATE : Field := ⟨0x60, 0x0, 1, 0x0, 1, 31, 0, .ro, 0x0, 0, none, .free⟩
/-- GLB_FRAME_LO.FRAME_LO (R77): Number of the frame in progress (R14), low word -/
def GLB_FRAME_LO : Field := ⟨0x70, 0x0, 1, 0x0, 1, 31, 0, .ro, 0x0, 0, none, .free⟩
/-- GLB_FRAME_HI.FRAME_HI (R77): High word -/
def GLB_FRAME_HI : Field := ⟨0x74, 0x0, 1, 0x0, 1, 31, 0, .ro, 0x0, 0, none, .free⟩
/-- GLB_EVT_STATE.EVT (R77): Present level of event IDs 32·w to 32·w + 31, for w = 0–7 -/
def GLB_EVT_STATE : Field := ⟨0x100, 0x4, 8, 0x0, 1, 31, 0, .ro, 0x0, 0, none, .free⟩
/-- PWR_STATUS.STATE (R78): 0x0 BOOT, 0x1 WATCH, 0x2 RUN, 0x3 LOADER, 0x4 STOPPING, 0x5 STARTING; other codes unused -/
def PWR_STATUS_STATE : Field := ⟨0x1000, 0x0, 1, 0x0, 1, 3, 0, .ro, 0x0, 0, none, .free⟩
/-- PWR_STATUS.REF_LOCK (R78): System PLL locked to the selected reference -/
def PWR_STATUS_REF_LOCK : Field := ⟨0x1000, 0x0, 1, 0x0, 1, 4, 4, .ro, 0x0, 0, none, .free⟩
/-- PWR_STATUS.CONV_LOCK (R78): CONV PLL locked -/
def PWR_STATUS_CONV_LOCK : Field := ⟨0x1000, 0x0, 1, 0x0, 1, 5, 5, .ro, 0x0, 0, none, .free⟩
/-- PWR_STATUS.REF_LOST (R78): The reference was lost (R46); stays set while the selected reference is absent, so a clear takes effect … -/
def PWR_STATUS_REF_LOST : Field := ⟨0x1000, 0x0, 1, 0x0, 1, 6, 6, .w1c, 0x0, 0, none, .free⟩
/-- PWR_STATUS.VBAT_LOW (R78): The VBAT domain is fed from VIO18 -/
def PWR_STATUS_VBAT_LOW : Field := ⟨0x1000, 0x0, 1, 0x0, 1, 7, 7, .ro, 0x0, 0, none, .free⟩
/-- PWR_STATUS.WAKE_FAIL (R78): Copy of the retention flag of the last failed wake -/
def PWR_STATUS_WAKE_FAIL : Field := ⟨0x1000, 0x0, 1, 0x0, 1, 8, 8, .ro, 0x0, 0, none, .free⟩
/-- PWR_CTL.WARM_RST (R78): Writing 1 starts a warm reset -/
def PWR_CTL : Field := ⟨0x1004, 0x0, 1, 0x0, 1, 0, 0, .wo, 0x0, 0, none, .free⟩
/-- PWR_RST_CAUSE.POR (R78): Cold reset by POR_L -/
def PWR_RST_CAUSE_POR : Field := ⟨0x1008, 0x0, 1, 0x0, 1, 0, 0, .w1c, 0x0, 0, none, .free⟩
/-- PWR_RST_CAUSE.BROWNOUT (R78): Cold reset by brown-out -/
def PWR_RST_CAUSE_BROWNOUT : Field := ⟨0x1008, 0x0, 1, 0x0, 1, 1, 1, .w1c, 0x0, 0, none, .free⟩
/-- PWR_RST_CAUSE.WARM_PIN (R78): Warm reset by SYS_RST_L -/
def PWR_RST_CAUSE_WARM_PIN : Field := ⟨0x1008, 0x0, 1, 0x0, 1, 2, 2, .w1c, 0x0, 0, none, .free⟩
/-- PWR_RST_CAUSE.WARM_REG (R78): Warm reset by WARM_RST -/
def PWR_RST_CAUSE_WARM_REG : Field := ⟨0x1008, 0x0, 1, 0x0, 1, 3, 3, .w1c, 0x0, 0, none, .free⟩
/-- PWR_RST_CAUSE.STANDBY_EXIT (R78): Cold reset on leaving STANDBY -/
def PWR_RST_CAUSE_STANDBY_EXIT : Field := ⟨0x1008, 0x0, 1, 0x0, 1, 4, 4, .w1c, 0x0, 0, none, .free⟩
/-- PWR_RST_CAUSE.TEST (R78): The preceding cold reset was held by TEST_MODE -/
def PWR_RST_CAUSE_TEST : Field := ⟨0x1008, 0x0, 1, 0x0, 1, 5, 5, .w1c, 0x0, 0, none, .free⟩
/-- PWR_CLK_CFG.REF_SRC (R78): 0 = REF10M, 1 = LIFT_CLK; run-locked while acquisition runs -/
def PWR_CLK_CFG_REF_SRC : Field := ⟨0x100C, 0x0, 1, 0x0, 1, 0, 0, .rwl, 0x0, 0, none, .acq⟩
/-- PWR_CLK_CFG.RDG_DIV (R78): 2 bits per ridge core, core i at [9+2i:8+2i]: 0b00 1.0 GHz, 0b01 500 MHz, 0b10 333 MHz, 0b11 250 MHz; … -/
def PWR_CLK_CFG_RDG_DIV : Field := ⟨0x100C, 0x0, 1, 0x0, 1, 23, 8, .rw, 0x0, 0, none, .rdgDiv⟩
/-- PWR_ISL_RST.HOLD (R78): 1 = hold the island in island reset, one bit per island (R67); bits 4 and 7 and bit 11 are reserved (R53); … -/
def PWR_ISL_RST : Field := ⟨0x1010, 0x0, 1, 0x0, 1, 23, 0, .rw, 0x0, 0, none, .islRst⟩
/-- PWR_WAKE_SRC.RTC (R78): Wake by RTC alarm -/
def PWR_WAKE_SRC_RTC : Field := ⟨0x1014, 0x0, 1, 0x0, 1, 0, 0, .w1c, 0x0, 0, none, .free⟩
/-- PWR_WAKE_SRC.WAKE0 (R78): Wake by WAKE0 -/
def PWR_WAKE_SRC_WAKE0 : Field := ⟨0x1014, 0x0, 1, 0x0, 1, 1, 1, .w1c, 0x0, 0, none, .free⟩
/-- PWR_WAKE_SRC.WAKE1 (R78): Wake by WAKE1 -/
def PWR_WAKE_SRC_WAKE1 : Field := ⟨0x1014, 0x0, 1, 0x0, 1, 2, 2, .w1c, 0x0, 0, none, .free⟩
/-- PWR_WAKE_SRC.TAMPER (R78): Wake by TAMPER -/
def PWR_WAKE_SRC_TAMPER : Field := ⟨0x1014, 0x0, 1, 0x0, 1, 3, 3, .w1c, 0x0, 0, none, .free⟩
/-- PWR_WAKE_SRC.CAIRN_RULE (R78): WATCH to RUN by a cairn wake rule -/
def PWR_WAKE_SRC_CAIRN_RULE : Field := ⟨0x1014, 0x0, 1, 0x0, 1, 4, 4, .w1c, 0x0, 0, none, .free⟩
/-- PWR_WAKE_SRC.COMMAND (R78): Transition by command -/
def PWR_WAKE_SRC_COMMAND : Field := ⟨0x1014, 0x0, 1, 0x0, 1, 5, 5, .w1c, 0x0, 0, none, .free⟩
/-- HQE_CTL.EN0 (R85): 1 = HQE0 fetches and writes -/
def HQE_CTL_EN0 : Field := ⟨0x10000, 0x0, 1, 0x0, 1, 0, 0, .rwp, 0x0, 0, none, .free⟩
/-- HQE_CTL.EN1 (R85): 1 = HQE1 fetches and writes -/
def HQE_CTL_EN1 : Field := ⟨0x10000, 0x0, 1, 0x0, 1, 1, 1, .rwp, 0x0, 0, none, .free⟩
/-- HQE_CTL.RO_STREAM (R85): 1 = stream payload writes carry Relaxed Ordering when the host permits it -/
def HQE_CTL_RO_STREAM : Field := ⟨0x10000, 0x0, 1, 0x0, 1, 8, 8, .rwp, 0x1, 0, none, .free⟩
/-- HQE_STATUS.HQ_STALL (R85): 1 = fetching is stopped at the handle bound -/
def HQE_STATUS_HQ_STALL : Field := ⟨0x10004, 0x0, 1, 0x0, 1, 0, 0, .ro, 0x0, 0, none, .free⟩
/-- HQE_STATUS.FREE (R85): Host-command handles free, 0–248 -/
def HQE_STATUS_FREE : Field := ⟨0x10004, 0x0, 1, 0x0, 1, 16, 8, .ro, 0xF8, 0, none, .free⟩
/-- HQE_STATUS.CAP_FREE (R85): Capture handles free, minus 1 (0x7 = 8 free); reads 0 also when none is free, so use HQE_STATUS.CAP_NONE -/
def HQE_STATUS_CAP_FREE : Field := ⟨0x10004, 0x0, 1, 0x0, 1, 19, 17, .ro, 0x7, 0, none, .free⟩
/-- HQE_STATUS.CAP_NONE (R85): 1 = no capture handle free -/
def HQE_STATUS_CAP_NONE : Field := ⟨0x10004, 0x0, 1, 0x0, 1, 20, 20, .ro, 0x0, 0, none, .free⟩
/-- HQE_WDOG.MS (R85): Handle watchdog period in ms, 100–60,000 -/
def HQE_WDOG : Field := ⟨0x10008, 0x0, 1, 0x0, 1, 15, 0, .rwp, 0x7D0, 0, none, .wdog⟩
/-- HQE_CTO.MS (R85): Requester completion timeout in ms, 1–100 -/
def HQE_CTO : Field := ⟨0x1000C, 0x0, 1, 0x0, 1, 6, 0, .rwp, 0xA, 0, none, .wdog⟩
/-- HQE_ERR.DB_RANGE (R85): A doorbell was dropped (R82) -/
def HQE_ERR_DB_RANGE : Field := ⟨0x10010, 0x0, 1, 0x0, 1, 0, 0, .w1c, 0x0, 0, none, .free⟩
/-- HQE_ERR.DB_RSVD (R85): A BAR 2 write was dropped for a reserved offset or an unsupported width (R81); reads do not set it -/
def HQE_ERR_DB_RSVD : Field := ⟨0x10010, 0x0, 1, 0x0, 1, 1, 1, .w1c, 0x0, 0, none, .free⟩
/-- HQE_ERR.FETCH_TMO (R85): A submission fetch or a buffer-ring fetch timed out (R109) -/
def HQE_ERR_FETCH_TMO : Field := ⟨0x10010, 0x0, 1, 0x0, 1, 2, 2, .w1c, 0x0, 0, none, .free⟩
/-- HQE_ERR.FETCH_POISON (R85): A submission fetch or a buffer-ring fetch returned poisoned data, Unsupported Request or Completer Abort … -/
def HQE_ERR_FETCH_POISON : Field := ⟨0x10010, 0x0, 1, 0x0, 1, 3, 3, .w1c, 0x0, 0, none, .free⟩
/-- HQE_ERR.UNEXP_CPL (R85): A late completion was discarded -/
def HQE_ERR_UNEXP_CPL : Field := ⟨0x10010, 0x0, 1, 0x0, 1, 4, 4, .w1c, 0x0, 0, none, .free⟩
/-- HQE_UNEXP_COUNT.COUNT (R85): Late completions discarded -/
def HQE_UNEXP_COUNT : Field := ⟨0x10014, 0x0, 1, 0x0, 1, 31, 0, .rc, 0x0, 0, none, .free⟩
/-- HQE_WDOG_COUNT.COUNT (R85): Handle watchdog expiries -/
def HQE_WDOG_COUNT : Field := ⟨0x10018, 0x0, 1, 0x0, 1, 31, 0, .rc, 0x0, 0, none, .free⟩
/-- SQ_BASE_LO.BASE (R85): Address bits [31:6]; locked -/
def SQ_BASE_LO : Field := ⟨0x11000, 0x40, 16, 0x0, 1, 31, 6, .rwp, 0x0, 0, none, .queueEn⟩
/-- SQ_BASE_HI.BASE (R85): Address bits [63:32]; locked -/
def SQ_BASE_HI : Field := ⟨0x11004, 0x40, 16, 0x0, 1, 31, 0, .rwp, 0x0, 0, none, .queueEn⟩
/-- SQ_CFG.LOG2SIZE (R85): 2^LOG2SIZE entries, 4–12; other values are taken as 4; locked -/
def SQ_CFG_LOG2SIZE : Field := ⟨0x11008, 0x40, 16, 0x0, 1, 3, 0, .rwp, 0x4, 0, none, .queueEn⟩
/-- SQ_CFG.CQ (R85): Completion queue for this queue's commands; locked -/
def SQ_CFG_CQ : Field := ⟨0x11008, 0x40, 16, 0x0, 1, 11, 8, .rwp, 0x0, 0, none, .queueEn⟩
/-- SQ_CFG.EN (R85): 1 = fetch; 0 = stop fetching. A fetch still outstanding when EN is written 0 is written off at once … -/
def SQ_CFG_EN : Field := ⟨0x11008, 0x40, 16, 0x0, 1, 16, 16, .rwp, 0x0, 0, none, .free⟩
/-- SQ_STATUS.HEAD (R85): Next entry to fetch -/
def SQ_STATUS_HEAD : Field := ⟨0x1100C, 0x40, 16, 0x0, 1, 11, 0, .ro, 0x0, 0, none, .free⟩
/-- SQ_STATUS.TAIL (R85): Last accepted tail doorbell -/
def SQ_STATUS_TAIL : Field := ⟨0x1100C, 0x40, 16, 0x0, 1, 27, 16, .ro, 0x0, 0, none, .free⟩
/-- SQ_STATUS.FETCH_ERR (R85): Fetching stopped on error; cleared by writing EN 0 then 1 -/
def SQ_STATUS_FETCH_ERR : Field := ⟨0x1100C, 0x40, 16, 0x0, 1, 30, 30, .ro, 0x0, 0, none, .free⟩
/-- CQ_BASE_LO.BASE (R85): Address bits [31:6]; locked -/
def CQ_BASE_LO : Field := ⟨0x12000, 0x40, 16, 0x0, 1, 31, 6, .rwp, 0x0, 0, none, .queueEn⟩
/-- CQ_BASE_HI.BASE (R85): Address bits [63:32]; locked -/
def CQ_BASE_HI : Field := ⟨0x12004, 0x40, 16, 0x0, 1, 31, 0, .rwp, 0x0, 0, none, .queueEn⟩
/-- CQ_CFG.LOG2SIZE (R85): 2^LOG2SIZE entries, 4–14; other values are taken as 4; locked -/
def CQ_CFG_LOG2SIZE : Field := ⟨0x12008, 0x40, 16, 0x0, 1, 3, 0, .rwp, 0x4, 0, none, .queueEn⟩
/-- CQ_CFG.VEC (R85): MSI-X vector (R83) -/
def CQ_CFG_VEC : Field := ⟨0x12008, 0x40, 16, 0x0, 1, 13, 8, .rwp, 0x2, 1, none, .vec⟩
/-- CQ_CFG.EN (R85): 1 = accept entries -/
def CQ_CFG_EN : Field := ⟨0x12008, 0x40, 16, 0x0, 1, 16, 16, .rwp, 0x0, 0, none, .free⟩
/-- CQ_CFG.IRQ_EN (R85): 1 = signal VEC (R84) -/
def CQ_CFG_IRQ_EN : Field := ⟨0x12008, 0x40, 16, 0x0, 1, 17, 17, .rwp, 0x0, 0, none, .free⟩
/-- CQ_COAL.COUNT (R85): Entries per signal -/
def CQ_COAL_COUNT : Field := ⟨0x1200C, 0x40, 16, 0x0, 1, 7, 0, .rwp, 0x1, 0, none, .free⟩
/-- CQ_COAL.TIME_US (R85): 0–1,000 µs; 1,001–1,023 are taken as 1,000 -/
def CQ_COAL_TIME_US : Field := ⟨0x1200C, 0x40, 16, 0x0, 1, 25, 16, .rwp, 0x0, 0, none, .free⟩
/-- CQ_STATUS.TAIL (R85): Next entry the Gheon writes -/
def CQ_STATUS_TAIL : Field := ⟨0x12010, 0x40, 16, 0x0, 1, 13, 0, .ro, 0x0, 0, none, .free⟩
/-- CQ_STATUS.HEAD (R85): Last accepted head doorbell -/
def CQ_STATUS_HEAD : Field := ⟨0x12010, 0x40, 16, 0x0, 1, 29, 16, .ro, 0x0, 0, none, .free⟩
/-- CQ_STATUS.FULL (R85): The queue holds 2^LOG2SIZE − 1 unconsumed entries -/
def CQ_STATUS_FULL : Field := ⟨0x12010, 0x40, 16, 0x0, 1, 30, 30, .ro, 0x0, 0, none, .free⟩
/-- CQ_STATUS.PHASE (R85): Phase value of the next entry written -/
def CQ_STATUS_PHASE : Field := ⟨0x12010, 0x40, 16, 0x0, 1, 31, 31, .ro, 0x1, 0, none, .free⟩
/-- SR_BUF_BASE_LO.BASE (R85): Buffer ring address bits [31:6]; locked -/
def SR_BUF_BASE_LO : Field := ⟨0x13000, 0x40, 8, 0x0, 1, 31, 6, .rwp, 0x0, 0, none, .queueEn⟩
/-- SR_BUF_BASE_HI.BASE (R85): Bits [63:32]; locked -/
def SR_BUF_BASE_HI : Field := ⟨0x13004, 0x40, 8, 0x0, 1, 31, 0, .rwp, 0x0, 0, none, .queueEn⟩
/-- SR_FILL_BASE_LO.BASE (R85): Fill ring address bits [31:6]; locked -/
def SR_FILL_BASE_LO : Field := ⟨0x13008, 0x40, 8, 0x0, 1, 31, 6, .rwp, 0x0, 0, none, .queueEn⟩
/-- SR_FILL_BASE_HI.BASE (R85): Bits [63:32]; locked -/
def SR_FILL_BASE_HI : Field := ⟨0x1300C, 0x40, 8, 0x0, 1, 31, 0, .rwp, 0x0, 0, none, .queueEn⟩
/-- SR_CFG.LOG2SIZE (R85): Both rings hold 2^LOG2SIZE entries, 4–12; other values are taken as 4; locked -/
def SR_CFG_LOG2SIZE : Field := ⟨0x13010, 0x40, 8, 0x0, 1, 3, 0, .rwp, 0x4, 0, none, .queueEn⟩
/-- SR_CFG.VEC (R85): MSI-X vector (R83) -/
def SR_CFG_VEC : Field := ⟨0x13010, 0x40, 8, 0x0, 1, 13, 8, .rwp, 0x12, 1, none, .vec⟩
/-- SR_CFG.EN (R85): 1 = ring usable by STREAM_OPEN -/
def SR_CFG_EN : Field := ⟨0x13010, 0x40, 8, 0x0, 1, 16, 16, .rwp, 0x0, 0, none, .free⟩
/-- SR_CFG.IRQ_EN (R85): 1 = signal VEC (R84) -/
def SR_CFG_IRQ_EN : Field := ⟨0x13010, 0x40, 8, 0x0, 1, 17, 17, .rwp, 0x0, 0, none, .free⟩
/-- SR_COAL.COUNT (R85): As CQ_COAL -/
def SR_COAL_COUNT : Field := ⟨0x13014, 0x40, 8, 0x0, 1, 7, 0, .rwp, 0x1, 0, none, .free⟩
/-- SR_COAL.TIME_US (R85): As CQ_COAL -/
def SR_COAL_TIME_US : Field := ⟨0x13014, 0x40, 8, 0x0, 1, 25, 16, .rwp, 0x0, 0, none, .free⟩
/-- SR_FLUSH.US (R85): Flush time in µs, 10–65,535; 0–9 are taken as 10 -/
def SR_FLUSH : Field := ⟨0x13018, 0x40, 8, 0x0, 1, 15, 0, .rwp, 0x3E8, 0, none, .free⟩
/-- SR_STATUS.BUF_HEAD (R85): Next posted buffer the Gheon takes -/
def SR_STATUS_BUF_HEAD : Field := ⟨0x1301C, 0x40, 8, 0x0, 1, 11, 0, .ro, 0x0, 0, none, .free⟩
/-- SR_STATUS.FILL_TAIL (R85): Next fill entry the Gheon writes -/
def SR_STATUS_FILL_TAIL : Field := ⟨0x1301C, 0x40, 8, 0x0, 1, 27, 16, .ro, 0x0, 0, none, .free⟩
/-- SR_STATUS.BUF_ERR (R85): The last buffer-ring fetch failed; clears when a fetch of the ring succeeds (R104, R109) -/
def SR_STATUS_BUF_ERR : Field := ⟨0x1301C, 0x40, 8, 0x0, 1, 28, 28, .ro, 0x0, 0, none, .free⟩
/-- SR_STATUS.NOBUF (R85): No posted buffer is available -/
def SR_STATUS_NOBUF : Field := ⟨0x1301C, 0x40, 8, 0x0, 1, 30, 30, .ro, 0x0, 0, none, .free⟩
/-- SR_STATUS.OPEN (R85): A STREAM_OPEN handle owns the ring -/
def SR_STATUS_OPEN : Field := ⟨0x1301C, 0x40, 8, 0x0, 1, 31, 31, .ro, 0x0, 0, none, .free⟩
/-- SR_DROP.COUNT (R85): Blocks discarded for this ring under R21 -/
def SR_DROP : Field := ⟨0x13020, 0x40, 8, 0x0, 1, 31, 0, .rc, 0x0, 0, none, .free⟩
/-- SUM_BOOT_STATUS.PERSONALITY (R464): 0 BOOT, 1 RUN firmware, 2 LOADER -/
def SUM_BOOT_STATUS_PERSONALITY : Field := ⟨0xDFF000, 0x0, 1, 0x0, 1, 1, 0, .ro, 0x0, 0, none, .free⟩
/-- SUM_BOOT_STATUS.REASON (R464): LOADER reason (R453) -/
def SUM_BOOT_STATUS_REASON : Field := ⟨0xDFF000, 0x0, 1, 0x0, 1, 6, 4, .ro, 0x0, 0, none, .free⟩
/-- SUM_BOOT_STATUS.LOADER_BAD (R464): R455 step 1 -/
def SUM_BOOT_STATUS_LOADER_BAD : Field := ⟨0xDFF000, 0x0, 1, 0x0, 1, 8, 8, .ro, 0x0, 0, none, .free⟩
/-- SUM_BOOT_STATUS.CONFIRM_PENDING (R464): CONFIRMED = 0 in this boot -/
def SUM_BOOT_STATUS_CONFIRM_PENDING : Field := ⟨0xDFF000, 0x0, 1, 0x0, 1, 9, 9, .ro, 0x0, 0, none, .free⟩
/-- SUM_GEN_LO.GEN (R464): Generation word [31:0] (R453) -/
def SUM_GEN_LO : Field := ⟨0xDFF004, 0x0, 1, 0x0, 1, 31, 0, .ro, 0x0, 0, none, .free⟩
/-- SUM_GEN_HI.WORD (R464): Generation word [63:32] -/
def SUM_GEN_HI : Field := ⟨0xDFF008, 0x0, 1, 0x0, 1, 31, 0, .ro, 0x0, 0, none, .free⟩
/-- SUM_UPD_STATUS.STATE (R464): Journal state (R454) -/
def SUM_UPD_STATUS_STATE : Field := ⟨0xDFF00C, 0x0, 1, 0x0, 1, 2, 0, .ro, 0x0, 0, none, .free⟩
/-- SUM_UPD_STATUS.REASON (R464): Failure of the last FW_VERIFY (R459), or of the last load (R453) -/
def SUM_UPD_STATUS_REASON : Field := ⟨0xDFF00C, 0x0, 1, 0x0, 1, 10, 8, .ro, 0x0, 0, none, .free⟩
/-- SUM_UPD_STATUS.PART (R464): Last part handled -/
def SUM_UPD_STATUS_PART : Field := ⟨0xDFF00C, 0x0, 1, 0x0, 1, 19, 16, .ro, 0x0, 0, none, .free⟩
/-- SUM_CONFIRM_LEFT.S (R464): Seconds left on the confirmation timer -/
def SUM_CONFIRM_LEFT : Field := ⟨0xDFF010, 0x0, 1, 0x0, 1, 7, 0, .ro, 0x0, 0, none, .free⟩
/-- SUM_WDOG_COUNT.COUNT (R464): Watchdog expiries since the record was last cleared at cold reset -/
def SUM_WDOG_COUNT : Field := ⟨0xDFF014, 0x0, 1, 0x0, 1, 31, 0, .ro, 0x0, 0, none, .free⟩
/-- SUM_MRAM_LOCK.LOADER (R464): Locks the loader region; cleared by cold reset -/
def SUM_MRAM_LOCK_LOADER : Field := ⟨0xDFF018, 0x0, 1, 0x0, 1, 0, 0, .w1s, 0x0, 0, none, .free⟩
/-- SUM_MRAM_LOCK.USER_RO (R464): Locks the user area against PCIe writes; cleared by cold reset -/
def SUM_MRAM_LOCK_USER_RO : Field := ⟨0xDFF018, 0x0, 1, 0x0, 1, 1, 1, .w1s, 0x0, 0, none, .free⟩
/-- SUM_LOG_NEWEST.SEQ (R464): Newest sequence -/
def SUM_LOG_NEWEST : Field := ⟨0xDFF020, 0x0, 1, 0x0, 1, 23, 0, .ro, 0x0, 0, none, .free⟩
/-- SUM_LOG_OLDEST.SEQ (R464): Oldest retained sequence -/
def SUM_LOG_OLDEST : Field := ⟨0xDFF024, 0x0, 1, 0x0, 1, 23, 0, .ro, 0x0, 0, none, .free⟩
/-- SUM_LOG_SUPPRESSED.COUNT (R464): R450 -/
def SUM_LOG_SUPPRESSED : Field := ⟨0xDFF028, 0x0, 1, 0x0, 1, 31, 0, .rc, 0x0, 0, none, .free⟩
/-- SUM_SENSOR_ALARM.ALARM (R464): As the record ALARM (R445) -/
def SUM_SENSOR_ALARM : Field := ⟨0xDFF030, 0x0, 1, 0x0, 1, 20, 0, .ro, 0x0, 0, none, .free⟩
/-- SUM_TEMP.T (R464): Ti, 1/16 °C, signed -/
def SUM_TEMP : Field := ⟨0xDFF040, 0x4, 8, 0x0, 1, 15, 0, .ro, 0x0, 0, none, .free⟩
/-- SUM_SUPPLY.MV (R464): Sj, mV -/
def SUM_SUPPLY : Field := ⟨0xDFF060, 0x4, 12, 0x0, 1, 15, 0, .ro, 0x0, 0, none, .free⟩

def glbPart0 : List Field := [GLB_ID_PART, GLB_ID_VARIANT, GLB_ID_REVISION, GLB_ERR_STATUS_LOCKVIOL, GLB_ERR_STATUS_RSVD_RD, GLB_ERR_STATUS_RSVD_WR, GLB_ERR_STATUS_OVERRUN, GLB_ERR_STATUS_XTMO, GLB_ERR_STATUS_WIDTH, GLB_ERR_STATUS_MULTI, GLB_ERR_ADR_OFFSET, GLB_ERR_ADR_BLOCK]
def glbPart1 : List Field := [GLB_ERR_INFO_INITIATOR, GLB_ERR_INFO_WRITE, GLB_ERR_INFO_ISLAND, GLB_ERR_COUNT, GLB_XING_BUSY, GLB_XING_OVERRUN, GLB_XING_TMO, GLB_TB_NOW_LO, GLB_TB_NOW_HI, GLB_TB_LOAD_LO, GLB_TB_LOAD_HI, GLB_TB_CTL_LOAD_ARM]
def glbPart2 : List Field := [GLB_TB_CTL_DISC_EN, GLB_TB_STATUS_PPS_VALID, GLB_TB_STATUS_DISCIPLINED, GLB_TB_STATUS_PPS_FAR, GLB_TB_PPS_ERR, GLB_TB_PPS_REJECT, GLB_TB_RATE, GLB_FRAME_LO, GLB_FRAME_HI, GLB_EVT_STATE]
/-- Every field of the GLB block's register tables. -/
def glbFields : List Field := glbPart0 ++ glbPart1 ++ glbPart2
def pwrPart0 : List Field := [PWR_STATUS_STATE, PWR_STATUS_REF_LOCK, PWR_STATUS_CONV_LOCK, PWR_STATUS_REF_LOST, PWR_STATUS_VBAT_LOW, PWR_STATUS_WAKE_FAIL, PWR_CTL, PWR_RST_CAUSE_POR, PWR_RST_CAUSE_BROWNOUT, PWR_RST_CAUSE_WARM_PIN, PWR_RST_CAUSE_WARM_REG, PWR_RST_CAUSE_STANDBY_EXIT]
def pwrPart1 : List Field := [PWR_RST_CAUSE_TEST, PWR_CLK_CFG_REF_SRC, PWR_CLK_CFG_RDG_DIV, PWR_ISL_RST, PWR_WAKE_SRC_RTC, PWR_WAKE_SRC_WAKE0, PWR_WAKE_SRC_WAKE1, PWR_WAKE_SRC_TAMPER, PWR_WAKE_SRC_CAIRN_RULE, PWR_WAKE_SRC_COMMAND]
/-- Every field of the PWR block's register tables. -/
def pwrFields : List Field := pwrPart0 ++ pwrPart1
def hqePart0 : List Field := [HQE_CTL_EN0, HQE_CTL_EN1, HQE_CTL_RO_STREAM, HQE_STATUS_HQ_STALL, HQE_STATUS_FREE, HQE_STATUS_CAP_FREE, HQE_STATUS_CAP_NONE, HQE_WDOG, HQE_CTO, HQE_ERR_DB_RANGE, HQE_ERR_DB_RSVD, HQE_ERR_FETCH_TMO]
def hqePart1 : List Field := [HQE_ERR_FETCH_POISON, HQE_ERR_UNEXP_CPL, HQE_UNEXP_COUNT, HQE_WDOG_COUNT, SQ_BASE_LO, SQ_BASE_HI, SQ_CFG_LOG2SIZE, SQ_CFG_CQ, SQ_CFG_EN, SQ_STATUS_HEAD, SQ_STATUS_TAIL, SQ_STATUS_FETCH_ERR]
def hqePart2 : List Field := [CQ_BASE_LO, CQ_BASE_HI, CQ_CFG_LOG2SIZE, CQ_CFG_VEC, CQ_CFG_EN, CQ_CFG_IRQ_EN, CQ_COAL_COUNT, CQ_COAL_TIME_US, CQ_STATUS_TAIL, CQ_STATUS_HEAD, CQ_STATUS_FULL, CQ_STATUS_PHASE]
def hqePart3 : List Field := [SR_BUF_BASE_LO, SR_BUF_BASE_HI, SR_FILL_BASE_LO, SR_FILL_BASE_HI, SR_CFG_LOG2SIZE, SR_CFG_VEC, SR_CFG_EN, SR_CFG_IRQ_EN, SR_COAL_COUNT, SR_COAL_TIME_US, SR_FLUSH, SR_STATUS_BUF_HEAD]
def hqePart4 : List Field := [SR_STATUS_FILL_TAIL, SR_STATUS_BUF_ERR, SR_STATUS_NOBUF, SR_STATUS_OPEN, SR_DROP]
/-- Every field of the HQE block's register tables. -/
def hqeFields : List Field := hqePart0 ++ hqePart1 ++ hqePart2 ++ hqePart3 ++ hqePart4
def sumPart0 : List Field := [SUM_BOOT_STATUS_PERSONALITY, SUM_BOOT_STATUS_REASON, SUM_BOOT_STATUS_LOADER_BAD, SUM_BOOT_STATUS_CONFIRM_PENDING, SUM_GEN_LO, SUM_GEN_HI, SUM_UPD_STATUS_STATE, SUM_UPD_STATUS_REASON, SUM_UPD_STATUS_PART, SUM_CONFIRM_LEFT, SUM_WDOG_COUNT, SUM_MRAM_LOCK_LOADER]
def sumPart1 : List Field := [SUM_MRAM_LOCK_USER_RO, SUM_LOG_NEWEST, SUM_LOG_OLDEST, SUM_LOG_SUPPRESSED, SUM_SENSOR_ALARM, SUM_TEMP, SUM_SUPPLY]
/-- Every field of the SUM block's register tables. -/
def sumFields : List Field := sumPart0 ++ sumPart1

end Sys2Proof.Machine.Reg
end

