-- ==== Sys2Proof/Machine/RegsField.lean ====
section
/-! DEFINITION. The register fields of the SAD, SRC, TIU, PNL and CAL blocks (chapters 15, 16, 17, 19 and 20).
Each entry is one row of a register table of the spec: BAR 0 offset, stride and count of the instances, inner stride and count, bits, access code, reset, and lock. -/

namespace Sys2Proof.Machine.Reg

/-- SAD_STATUS.ACTIVE (R364): Bit n: converter n connected and converting -/
def SAD_STATUS_ACTIVE : Field := ⟨0xB0000, 0x0, 1, 0x0, 1, 8, 0, .ro, 0xFF, 0, none, .free⟩
/-- SAD_STATUS.BLANK (R364): Filtered level of SA_BLANK -/
def SAD_STATUS_BLANK : Field := ⟨0xB0000, 0x0, 1, 0x0, 1, 12, 12, .ro, 0x0, 0, none, .free⟩
/-- SAD_STATUS.BLANK_STUCK (R364): R359 -/
def SAD_STATUS_BLANK_STUCK : Field := ⟨0xB0000, 0x0, 1, 0x0, 1, 13, 13, .w1c, 0x0, 0, none, .free⟩
/-- SAD_STATUS.CAL_BUSY (R364): Self-calibration running (R362) -/
def SAD_STATUS_CAL_BUSY : Field := ⟨0xB0000, 0x0, 1, 0x0, 1, 14, 14, .ro, 0x0, 0, none, .free⟩
/-- SAD_STATUS.FB_PAIR (R364): Pair that SX is connected to; 0xF = none -/
def SAD_STATUS_FB_PAIR : Field := ⟨0xB0000, 0x0, 1, 0x0, 1, 19, 16, .ro, 0xF, 0, none, .free⟩
/-- SAD_STATUS.FB_ROLE (R364): 0 REPLACE, 1 MONITOR -/
def SAD_STATUS_FB_ROLE : Field := ⟨0xB0000, 0x0, 1, 0x0, 1, 20, 20, .ro, 0x0, 0, none, .free⟩
/-- SAD_STATUS.FB_PHASE (R364): 0 IDLE, 1 BREAK, 2 DISCHARGE, 3 SETTLE, 4 ACTIVE (R360) -/
def SAD_STATUS_FB_PHASE : Field := ⟨0xB0000, 0x0, 1, 0x0, 1, 23, 21, .ro, 0x0, 0, none, .free⟩
/-- SAD_CTL.BLANK_MAX_MS (R364): 1–1,000 ms; 0 is taken as 1 -/
def SAD_CTL : Field := ⟨0xB0004, 0x0, 1, 0x0, 1, 9, 0, .rwp, 0x64, 0, none, .free⟩
/-- SAD_START.START (R364): Bit n starts single conversion of channel n (R350) -/
def SAD_START : Field := ⟨0xB0008, 0x0, 1, 0x0, 1, 8, 0, .wo, 0x0, 0, none, .free⟩
/-- SAD_BLANK_COUNT.COUNT (R364): SA_BLANK assertions -/
def SAD_BLANK_COUNT : Field := ⟨0xB000C, 0x0, 1, 0x0, 1, 31, 0, .rc, 0x0, 0, none, .free⟩
/-- SAD_CH_CFG.EN (R364): From the record (R346) -/
def SAD_CH_CFG_EN : Field := ⟨0xB0100, 0x40, 9, 0x0, 1, 0, 0, .ro, 0x1, 0, some 0, .free⟩
/-- SAD_CH_CFG.MAINS (R364):  -/
def SAD_CH_CFG_MAINS : Field := ⟨0xB0100, 0x40, 9, 0x0, 1, 1, 1, .ro, 0x1, 0, none, .free⟩
/-- SAD_CH_CFG.SINGLE (R364):  -/
def SAD_CH_CFG_SINGLE : Field := ⟨0xB0100, 0x40, 9, 0x0, 1, 2, 2, .ro, 0x0, 0, none, .free⟩
/-- SAD_CH_CFG.BLANK_EN (R364):  -/
def SAD_CH_CFG_BLANK_EN : Field := ⟨0xB0100, 0x40, 9, 0x0, 1, 3, 3, .ro, 0x0, 0, none, .free⟩
/-- SAD_CH_CFG.ORDER (R364):  -/
def SAD_CH_CFG_ORDER : Field := ⟨0xB0100, 0x40, 9, 0x0, 1, 6, 4, .ro, 0x3, 0, none, .free⟩
/-- SAD_CH_CFG.GAIN (R364):  -/
def SAD_CH_CFG_GAIN : Field := ⟨0xB0100, 0x40, 9, 0x0, 1, 10, 8, .ro, 0x0, 0, none, .free⟩
/-- SAD_CH_CFG.REF (R364):  -/
def SAD_CH_CFG_REF : Field := ⟨0xB0100, 0x40, 9, 0x0, 1, 11, 11, .ro, 0x0, 0, none, .free⟩
/-- SAD_CH_CFG.BURNOUT (R364):  -/
def SAD_CH_CFG_BURNOUT : Field := ⟨0xB0100, 0x40, 9, 0x0, 1, 13, 12, .ro, 0x0, 0, none, .free⟩
/-- SAD_CH_CFG.KIND (R364):  -/
def SAD_CH_CFG_KIND : Field := ⟨0xB0100, 0x40, 9, 0x0, 1, 15, 14, .ro, 0x0, 0, none, .free⟩
/-- SAD_CH_CFG.START_EVT (R364):  -/
def SAD_CH_CFG_START_EVT : Field := ⟨0xB0100, 0x40, 9, 0x0, 1, 23, 16, .ro, 0x0, 0, none, .free⟩
/-- SAD_CH_DEC.DEC (R364):  -/
def SAD_CH_DEC : Field := ⟨0xB0104, 0x40, 9, 0x0, 1, 20, 0, .ro, 0x14000, 0, none, .free⟩
/-- SAD_CH_EXC.IEX_A (R364):  -/
def SAD_CH_EXC_IEX_A : Field := ⟨0xB0108, 0x40, 9, 0x0, 1, 6, 0, .ro, 0x0, 0, none, .free⟩
/-- SAD_CH_EXC.IEX_B (R364):  -/
def SAD_CH_EXC_IEX_B : Field := ⟨0xB0108, 0x40, 9, 0x0, 1, 22, 16, .ro, 0x0, 0, none, .free⟩
/-- SAD_RES_CODE.CODE (R364): Last result (R351, R354) -/
def SAD_RES_CODE : Field := ⟨0xB010C, 0x40, 9, 0x0, 1, 23, 0, .ro, 0x0, 0, none, .free⟩
/-- SAD_RES_VALUE.VALUE (R364): R352 -/
def SAD_RES_VALUE : Field := ⟨0xB0110, 0x40, 9, 0x0, 1, 31, 0, .ro, 0x0, 0, none, .free⟩
/-- SAD_RES_FLAGS.FLAGS (R364): As the record FLAGS (R353) -/
def SAD_RES_FLAGS_FLAGS : Field := ⟨0xB0114, 0x40, 9, 0x0, 1, 9, 0, .ro, 0x0, 0, none, .free⟩
/-- SAD_RES_FLAGS.CONVERTER (R364):  -/
def SAD_RES_FLAGS_CONVERTER : Field := ⟨0xB0114, 0x40, 9, 0x0, 1, 19, 16, .ro, 0x0, 1, none, .free⟩
/-- SAD_RES_SEQ.SEQ (R364):  -/
def SAD_RES_SEQ : Field := ⟨0xB0118, 0x40, 9, 0x0, 1, 31, 0, .ro, 0x0, 0, none, .free⟩
/-- SAD_RES_STAMP_LO.LO (R364): STAMP (R73) -/
def SAD_RES_STAMP_LO : Field := ⟨0xB011C, 0x40, 9, 0x0, 1, 31, 0, .ro, 0x0, 0, none, .free⟩
/-- SAD_RES_STAMP_HI.HI (R364): High word -/
def SAD_RES_STAMP_HI : Field := ⟨0xB0120, 0x40, 9, 0x0, 1, 31, 0, .ro, 0x0, 0, none, .free⟩
/-- SAD_CH_STATUS.STATE (R364): 0 OFF, 1 SETTLING, 2 CONVERTING, 3 IDLE -/
def SAD_CH_STATUS_STATE : Field := ⟨0xB0124, 0x40, 9, 0x0, 1, 1, 0, .ro, 0x1, 0, some 0, .free⟩
/-- SAD_CH_STATUS.EXC_RESTART (R364): R356 -/
def SAD_CH_STATUS_EXC_RESTART : Field := ⟨0xB0124, 0x40, 9, 0x0, 1, 2, 2, .w1c, 0x0, 0, none, .free⟩
/-- SAD_CH_STATUS.OPEN (R364): R357 -/
def SAD_CH_STATUS_OPEN : Field := ⟨0xB0124, 0x40, 9, 0x0, 1, 3, 3, .ro, 0x0, 0, none, .free⟩
/-- SAD_CH_STATUS.OVR (R364): Sticky copy of result OVR -/
def SAD_CH_STATUS_OVR : Field := ⟨0xB0124, 0x40, 9, 0x0, 1, 4, 4, .w1c, 0x0, 0, none, .free⟩
/-- SAD_CH_STATUS.CLAMP (R364): Sticky copy of result CLAMP -/
def SAD_CH_STATUS_CLAMP : Field := ⟨0xB0124, 0x40, 9, 0x0, 1, 5, 5, .w1c, 0x0, 0, none, .free⟩
/-- SAD_CH_STATUS.SX (R364): Pair carried by SX -/
def SAD_CH_STATUS_SX : Field := ⟨0xB0124, 0x40, 9, 0x0, 1, 6, 6, .ro, 0x0, 0, none, .free⟩
/-- SAD_BUSY_HIT.COUNT (R364): Starts ignored (R350) -/
def SAD_BUSY_HIT : Field := ⟨0xB0128, 0x40, 9, 0x0, 1, 31, 0, .rc, 0x0, 0, none, .free⟩
/-- SAD_CAL_OFS.OFS (R364): Offset of converter n, signed; hardware-owned during its calibration slot -/
def SAD_CAL_OFS : Field := ⟨0xB012C, 0x40, 9, 0x0, 1, 23, 0, .rwp, 0x0, 0, none, .free⟩
/-- SAD_CAL_GAIN.GAIN (R364): Gain of converter n, 2^22 = 1.0; hardware-owned during its calibration slot -/
def SAD_CAL_GAIN : Field := ⟨0xB0130, 0x40, 9, 0x0, 1, 23, 0, .rwp, 0x400000, 0, none, .free⟩
/-- SRC_STATUS.PUMP_LATCH (R380): Bit n: PUMPn latched; cleared by SRC_CLEAR (R378) -/
def SRC_STATUS_PUMP_LATCH : Field := ⟨0x24000, 0x0, 1, 0x0, 1, 3, 0, .ro, 0x0, 0, none, .free⟩
/-- SRC_STATUS.GATE_LATCH (R380): Bit g: gate latched -/
def SRC_STATUS_GATE_LATCH : Field := ⟨0x24000, 0x0, 1, 0x0, 1, 5, 4, .ro, 0x0, 0, none, .free⟩
/-- SRC_STATUS.FAULT (R380): Level of event SRC_FAULT -/
def SRC_STATUS_FAULT : Field := ⟨0x24000, 0x0, 1, 0x0, 1, 8, 8, .ro, 0x0, 0, none, .free⟩
/-- SRC_PUMP_STATUS.STATE (R380): 0 OFF, 1 RAMP_UP, 2 HOLD, 3 RAMP_DOWN, 4 LATCHED -/
def SRC_PUMP_STATUS_STATE : Field := ⟨0x24100, 0x40, 4, 0x0, 1, 2, 0, .ro, 0x0, 0, none, .free⟩
/-- SRC_PUMP_STATUS.CONFIGURED (R380): R369 -/
def SRC_PUMP_STATUS_CONFIGURED : Field := ⟨0x24100, 0x40, 4, 0x0, 1, 3, 3, .ro, 0x0, 0, none, .free⟩
/-- SRC_PUMP_STATUS.TEC_CLAMP (R380): R369 -/
def SRC_PUMP_STATUS_TEC_CLAMP : Field := ⟨0x24100, 0x40, 4, 0x0, 1, 4, 4, .ro, 0x0, 0, none, .free⟩
/-- SRC_PUMP_STATUS.FAULT (R380): 0 none, 1 OPEN, 2 SHORT, 3 OVERCURRENT -/
def SRC_PUMP_STATUS_FAULT : Field := ⟨0x24100, 0x40, 4, 0x0, 1, 7, 6, .ro, 0x0, 0, none, .free⟩
/-- SRC_PUMP_STATUS.BIN (R380): BIN of the record -/
def SRC_PUMP_STATUS_BIN : Field := ⟨0x24100, 0x40, 4, 0x0, 1, 31, 16, .ro, 0x0, 0, none, .free⟩
/-- SRC_PUMP_TARGET.UA (R380): Target in µA, up to I_FS (10,000,000 µA at the least R_SENSE) -/
def SRC_PUMP_TARGET : Field := ⟨0x24104, 0x40, 4, 0x0, 1, 23, 0, .ro, 0x0, 0, none, .free⟩
/-- SRC_PUMP_NOW.UA (R380): Ramp value in µA (R367) -/
def SRC_PUMP_NOW : Field := ⟨0x24108, 0x40, 4, 0x0, 1, 23, 0, .ro, 0x0, 0, none, .free⟩
/-- SRC_PUMP_MEAS.UA (R380): Mean measured current in µA (R366) -/
def SRC_PUMP_MEAS : Field := ⟨0x2410C, 0x40, 4, 0x0, 1, 23, 0, .ro, 0x0, 0, none, .free⟩
/-- SRC_PUMP_DUTY.STEPS (R380): Duty in 1/2,000 -/
def SRC_PUMP_DUTY : Field := ⟨0x24110, 0x40, 4, 0x0, 1, 10, 0, .ro, 0x0, 0, none, .free⟩
/-- SRC_PUMP_PWR.UW (R380): Power estimate in µW; saturates at 0xFFFF_FFFF -/
def SRC_PUMP_PWR : Field := ⟨0x24114, 0x40, 4, 0x0, 1, 31, 0, .ro, 0x0, 0, none, .free⟩
/-- SRC_PUMP_TEC.MK (R380): Cooler target in mK -/
def SRC_PUMP_TEC : Field := ⟨0x24118, 0x40, 4, 0x0, 1, 31, 0, .ro, 0x0, 0, none, .free⟩
/-- SRC_GATE_CFG.PULSE_CHK (R380): In-pulse check (R374); run-locked while acquisition runs or an average runs -/
def SRC_GATE_CFG : Field := ⟨0x24200, 0x40, 2, 0x0, 1, 0, 0, .rwp, 0x1, 0, none, .acqOrAvg⟩
/-- SRC_GATE_STATUS.FAULT (R380): 0 none, 1 OPEN, 2 SHORT -/
def SRC_GATE_STATUS_FAULT : Field := ⟨0x24204, 0x40, 2, 0x0, 1, 1, 0, .ro, 0x0, 0, none, .free⟩
/-- SRC_GATE_STATUS.IN_PULSE (R380): The fault was judged by R374 -/
def SRC_GATE_STATUS_IN_PULSE : Field := ⟨0x24204, 0x40, 2, 0x0, 1, 2, 2, .ro, 0x0, 0, none, .free⟩
/-- SRC_GATE_SENSE.MV (R380): Last V_S in 0.1 mV; saturates at 0xFFFF -/
def SRC_GATE_SENSE : Field := ⟨0x24208, 0x40, 2, 0x0, 1, 15, 0, .ro, 0x0, 0, none, .free⟩
/-- SRC_GATE_OPEN_LO.LO (R380): Openings since reset, low word -/
def SRC_GATE_OPEN_LO : Field := ⟨0x2420C, 0x40, 2, 0x0, 1, 31, 0, .ro, 0x0, 0, none, .free⟩
/-- SRC_GATE_OPEN_HI.HI (R380): High word -/
def SRC_GATE_OPEN_HI : Field := ⟨0x24210, 0x40, 2, 0x0, 1, 31, 0, .ro, 0x0, 0, none, .free⟩
/-- TIU_STATUS.CAL_BUSY (R401): Bit i: input i calibrating -/
def TIU_STATUS_CAL_BUSY : Field := ⟨0xA0000, 0x0, 1, 0x0, 1, 7, 0, .ro, 0x0, 0, none, .free⟩
/-- TIU_STATUS.SK_RUN (R401): Bit s: section running -/
def TIU_STATUS_SK_RUN : Field := ⟨0xA0000, 0x0, 1, 0x0, 1, 11, 8, .ro, 0x0, 0, none, .free⟩
/-- TIU_STATUS.SK_STALL (R401): Bit s: section stalled (R396) -/
def TIU_STATUS_SK_STALL : Field := ⟨0xA0000, 0x0, 1, 0x0, 1, 15, 12, .ro, 0x0, 0, none, .free⟩
/-- TIU_LAUNCH_DLY.DLY (R401): Signed, 1/16 bin (R389) -/
def TIU_LAUNCH_DLY : Field := ⟨0xA0010, 0x0, 1, 0x0, 1, 31, 0, .ro, 0x0, 0, none, .free⟩
/-- TIU_REF_DLY.DLY (R401): Signed, 1/16 bin -/
def TIU_REF_DLY : Field := ⟨0xA0014, 0x0, 1, 0x0, 1, 31, 0, .ro, 0x0, 0, none, .free⟩
/-- TIU_REF_WIN.NS (R401): TI1 search window, 1–65,535 ns -/
def TIU_REF_WIN : Field := ⟨0xA0018, 0x0, 1, 0x0, 1, 15, 0, .rwp, 0x7D0, 0, none, .free⟩
/-- TIU_LAUNCH_MISS.COUNT (R401): Firings without a launch edge -/
def TIU_LAUNCH_MISS : Field := ⟨0xA001C, 0x0, 1, 0x0, 1, 31, 0, .rc, 0x0, 0, none, .free⟩
/-- TIU_IN_CFG.ELEC (R401): From TIU_CONFIG (R381) -/
def TIU_IN_CFG_ELEC : Field := ⟨0xA0100, 0x40, 8, 0x0, 1, 1, 0, .ro, 0x0, 0, none, .free⟩
/-- TIU_IN_CFG.EDGE (R401):  -/
def TIU_IN_CFG_EDGE : Field := ⟨0xA0100, 0x40, 8, 0x0, 1, 3, 2, .ro, 0x0, 0, none, .free⟩
/-- TIU_IN_CFG.FILTER (R401):  -/
def TIU_IN_CFG_FILTER : Field := ⟨0xA0100, 0x40, 8, 0x0, 1, 4, 4, .ro, 0x0, 0, none, .free⟩
/-- TIU_IN_CFG.P (R401): Prescaler exponent -/
def TIU_IN_CFG_P : Field := ⟨0xA0100, 0x40, 8, 0x0, 1, 11, 8, .ro, 0x0, 0, none, .free⟩
/-- TIU_IN_STATUS.LOST (R401): An edge was lost (R384) -/
def TIU_IN_STATUS_LOST : Field := ⟨0xA0104, 0x40, 8, 0x0, 1, 0, 0, .w1c, 0x0, 0, none, .free⟩
/-- TIU_IN_STATUS.CAL_FAIL (R401): R392 -/
def TIU_IN_STATUS_CAL_FAIL : Field := ⟨0xA0104, 0x40, 8, 0x0, 1, 1, 1, .w1c, 0x0, 0, none, .free⟩
/-- TIU_IN_STATUS.ACTIVITY (R401): An edge passed within the last 1 ms -/
def TIU_IN_STATUS_ACTIVITY : Field := ⟨0xA0104, 0x40, 8, 0x0, 1, 2, 2, .ro, 0x0, 0, none, .free⟩
/-- TIU_IN_COUNT_LO.LO (R401): Pin edges counted -/
def TIU_IN_COUNT_LO : Field := ⟨0xA0108, 0x40, 8, 0x0, 1, 31, 0, .ro, 0x0, 0, none, .free⟩
/-- TIU_IN_COUNT_HI.HI (R401): High word -/
def TIU_IN_COUNT_HI : Field := ⟨0xA010C, 0x40, 8, 0x0, 1, 31, 0, .ro, 0x0, 0, none, .free⟩
/-- TIU_IN_LOST.COUNT (R401): Edges lost -/
def TIU_IN_LOST : Field := ⟨0xA0110, 0x40, 8, 0x0, 1, 31, 0, .rc, 0x0, 0, none, .free⟩
/-- TIU_IN_GLITCH.COUNT (R401): Pulses suppressed (R383) -/
def TIU_IN_GLITCH : Field := ⟨0xA0114, 0x40, 8, 0x0, 1, 31, 0, .rc, 0x0, 0, none, .free⟩
/-- TIU_IN_LAST_LO.LO (R401): Newest timestamp, ns (R386) -/
def TIU_IN_LAST_LO : Field := ⟨0xA0118, 0x40, 8, 0x0, 1, 31, 0, .ro, 0x0, 0, none, .free⟩
/-- TIU_IN_LAST_HI.HI (R401): High word -/
def TIU_IN_LAST_HI : Field := ⟨0xA011C, 0x40, 8, 0x0, 1, 31, 0, .ro, 0x0, 0, none, .free⟩
/-- TIU_IN_LAST_FRAC.FRAC (R401): Fraction in bins -/
def TIU_IN_LAST_FRAC_FRAC : Field := ⟨0xA0120, 0x40, 8, 0x0, 1, 6, 0, .ro, 0x0, 0, none, .free⟩
/-- TIU_IN_LAST_FRAC.SEQ (R401): Timestamps taken, modulo 2^24 -/
def TIU_IN_LAST_FRAC_SEQ : Field := ⟨0xA0120, 0x40, 8, 0x0, 1, 31, 8, .ro, 0x0, 0, none, .free⟩
/-- TIU_IN_DNL.DNL (R401): Maximum DNL of the last test, 1/1,024 bin -/
def TIU_IN_DNL : Field := ⟨0xA0124, 0x40, 8, 0x0, 1, 15, 0, .ro, 0x0, 0, none, .free⟩
/-- TIU_IV_CFG.START (R401): START input -/
def TIU_IV_CFG_START : Field := ⟨0xA0400, 0x20, 4, 0x0, 1, 2, 0, .rwp, 0x0, 0, none, .free⟩
/-- TIU_IV_CFG.STOP (R401): STOP input -/
def TIU_IV_CFG_STOP : Field := ⟨0xA0400, 0x20, 4, 0x0, 1, 6, 4, .rwp, 0x1, 0, none, .free⟩
/-- TIU_IV_CFG.AVG (R401): Mean length exponent, 0–10; 11–15 are taken as 10 -/
def TIU_IV_CFG_AVG : Field := ⟨0xA0400, 0x20, 4, 0x0, 1, 11, 8, .rwp, 0x6, 0, none, .free⟩
/-- TIU_IV_CFG.WINDOW_NS (R401): 0 = channel off -/
def TIU_IV_CFG_WINDOW_NS : Field := ⟨0xA0400, 0x20, 4, 0x0, 1, 31, 16, .rwp, 0x0, 0, none, .free⟩
/-- TIU_IV_RESULT.DELTA (R401): Last Δ, signed bins (R388) -/
def TIU_IV_RESULT : Field := ⟨0xA0404, 0x20, 4, 0x0, 1, 31, 0, .ro, 0x0, 0, none, .free⟩
/-- TIU_IV_FLAGS.NEAR (R401): Of the last result -/
def TIU_IV_FLAGS_NEAR : Field := ⟨0xA0408, 0x20, 4, 0x0, 1, 0, 0, .ro, 0x0, 0, none, .free⟩
/-- TIU_IV_FLAGS.ORDER (R401):  -/
def TIU_IV_FLAGS_ORDER : Field := ⟨0xA0408, 0x20, 4, 0x0, 1, 1, 1, .ro, 0x0, 0, none, .free⟩
/-- TIU_IV_FLAGS.RANGE (R401):  -/
def TIU_IV_FLAGS_RANGE : Field := ⟨0xA0408, 0x20, 4, 0x0, 1, 2, 2, .ro, 0x0, 0, none, .free⟩
/-- TIU_IV_FLAGS.SEQ (R401): Results, modulo 2^24 -/
def TIU_IV_FLAGS_SEQ : Field := ⟨0xA0408, 0x20, 4, 0x0, 1, 31, 8, .ro, 0x0, 0, none, .free⟩
/-- TIU_IV_MISS.COUNT (R401): STARTs without a STOP -/
def TIU_IV_MISS : Field := ⟨0xA040C, 0x20, 4, 0x0, 1, 31, 0, .rc, 0x0, 0, none, .free⟩
/-- TIU_IV_MEAN.MEAN (R401): Signed, 1/16 bin -/
def TIU_IV_MEAN : Field := ⟨0xA0410, 0x20, 4, 0x0, 1, 31, 0, .ro, 0x0, 0, none, .free⟩
/-- TIU_SK_STATUS.STATE (R401): 0 OFF, 1 RUNNING, 2 STALLED -/
def TIU_SK_STATUS : Field := ⟨0xA0500, 0x40, 4, 0x0, 1, 1, 0, .ro, 0x0, 0, none, .free⟩
/-- TIU_SK_POS.COUNT (R401): n modulo CPR (R395) -/
def TIU_SK_POS : Field := ⟨0xA0504, 0x40, 4, 0x0, 1, 31, 0, .ro, 0x0, 0, none, .free⟩
/-- TIU_SK_REVS.REVS (R401): Revolutions since SKATE_START -/
def TIU_SK_REVS : Field := ⟨0xA0508, 0x40, 4, 0x0, 1, 31, 0, .ro, 0x0, 0, none, .free⟩
/-- TIU_SK_SPEED.UMS (R401): µm/s (R396) -/
def TIU_SK_SPEED : Field := ⟨0xA050C, 0x40, 4, 0x0, 1, 31, 0, .ro, 0x0, 0, none, .free⟩
/-- TIU_SK_UPDATES.COUNT (R401): Intervals applied -/
def TIU_SK_UPDATES : Field := ⟨0xA0510, 0x40, 4, 0x0, 1, 31, 0, .ro, 0x0, 0, none, .free⟩
/-- TIU_SK_SKIPPED.COUNT (R401): Intervals skipped in stall -/
def TIU_SK_SKIPPED : Field := ⟨0xA0514, 0x40, 4, 0x0, 1, 31, 0, .rc, 0x0, 0, none, .free⟩
/-- TIU_SK_SMEAR.COUNT (R401): Intervals with smear (R398) -/
def TIU_SK_SMEAR : Field := ⟨0xA0518, 0x40, 4, 0x0, 1, 31, 0, .rc, 0x0, 0, none, .free⟩
/-- TIU_SK_INDEX_ERR.ERR (R401): Signed (R397) -/
def TIU_SK_INDEX_ERR : Field := ⟨0xA051C, 0x40, 4, 0x0, 1, 31, 0, .ro, 0x0, 0, none, .free⟩
/-- TIU_CAL_TAB.W (R401): Width of code k = 0–127 in 1/1,024 bin (R391); hardware-owned while the input calibrates -/
def TIU_CAL_TAB : Field := ⟨0xA1000, 0x200, 8, 0x4, 128, 15, 0, .rwp, 0x400, 0, none, .free⟩
/-- PNL_STATUS.STATE (R427): 0 OFF, 1 STARTING, 2 RUN, 3 STOPPING -/
def PNL_STATUS_STATE : Field := ⟨0xD0000, 0x0, 1, 0x0, 1, 1, 0, .ro, 0x0, 0, none, .free⟩
/-- PNL_STATUS.DIV (R427): Present divisor: 0 ÷1, 1 ÷2, 2 ÷4 (R425) -/
def PNL_STATUS_DIV : Field := ⟨0xD0000, 0x0, 1, 0x0, 1, 5, 4, .ro, 0x0, 0, none, .free⟩
/-- PNL_STATUS.MISMATCH (R427): R426 -/
def PNL_STATUS_MISMATCH : Field := ⟨0xD0000, 0x0, 1, 0x0, 1, 8, 8, .w1c, 0x0, 0, none, .free⟩
/-- PNL_STATUS.UNDERRUN (R427): R424 -/
def PNL_STATUS_UNDERRUN : Field := ⟨0xD0000, 0x0, 1, 0x0, 1, 9, 9, .w1c, 0x0, 0, none, .free⟩
/-- PNL_STATUS.FETCH_ERR (R427): R424 -/
def PNL_STATUS_FETCH_ERR : Field := ⟨0xD0000, 0x0, 1, 0x0, 1, 10, 10, .w1c, 0x0, 0, none, .free⟩
/-- PNL_STATUS.CLK_ERR (R427): R426 -/
def PNL_STATUS_CLK_ERR : Field := ⟨0xD0000, 0x0, 1, 0x0, 1, 11, 11, .w1c, 0x0, 0, none, .free⟩
/-- PNL_FB_OFS.UNITS (R427): Buffer offset in 64-byte units (R422) -/
def PNL_FB_OFS : Field := ⟨0xD0004, 0x0, 1, 0x0, 1, 17, 0, .rwp, 0x0, 0, none, .free⟩
/-- PNL_REDUCE.EN (R427): R425 -/
def PNL_REDUCE_EN : Field := ⟨0xD0008, 0x0, 1, 0x0, 1, 0, 0, .rwp, 0x1, 0, none, .free⟩
/-- PNL_REDUCE.MAX4 (R427): 1 = ÷4 allowed -/
def PNL_REDUCE_MAX4 : Field := ⟨0xD0008, 0x0, 1, 0x0, 1, 1, 1, .rwp, 0x1, 0, none, .free⟩
/-- PNL_REDUCE.MIN_HZ (R427): Floor, 1–120 Hz; 0 is taken as 1 -/
def PNL_REDUCE_MIN_HZ : Field := ⟨0xD0008, 0x0, 1, 0x0, 1, 15, 8, .rwp, 0x1E, 0, none, .free⟩
/-- PNL_CFG.FLAGS (R427): FLAGS [4:0], from the record -/
def PNL_CFG : Field := ⟨0xD0010, 0x0, 1, 0x0, 1, 4, 0, .ro, 0x0, 0, none, .free⟩
/-- PNL_PCLK.KHZ (R427): Achieved pixel clock (R419) -/
def PNL_PCLK : Field := ⟨0xD0014, 0x0, 1, 0x0, 1, 17, 0, .ro, 0x0, 0, none, .free⟩
/-- PNL_HTIM0.H_ACTIVE (R427): From the record -/
def PNL_HTIM0_H_ACTIVE : Field := ⟨0xD0018, 0x0, 1, 0x0, 1, 11, 0, .ro, 0x0, 0, none, .free⟩
/-- PNL_HTIM0.H_FP (R427): From the record -/
def PNL_HTIM0_H_FP : Field := ⟨0xD0018, 0x0, 1, 0x0, 1, 27, 16, .ro, 0x0, 0, none, .free⟩
/-- PNL_HTIM1.H_SYNC (R427): From the record -/
def PNL_HTIM1_H_SYNC : Field := ⟨0xD001C, 0x0, 1, 0x0, 1, 11, 0, .ro, 0x0, 0, none, .free⟩
/-- PNL_HTIM1.H_BP (R427): From the record -/
def PNL_HTIM1_H_BP : Field := ⟨0xD001C, 0x0, 1, 0x0, 1, 27, 16, .ro, 0x0, 0, none, .free⟩
/-- PNL_VTIM0.V_ACTIVE (R427): From the record -/
def PNL_VTIM0_V_ACTIVE : Field := ⟨0xD0020, 0x0, 1, 0x0, 1, 11, 0, .ro, 0x0, 0, none, .free⟩
/-- PNL_VTIM0.V_FP (R427): From the record -/
def PNL_VTIM0_V_FP : Field := ⟨0xD0020, 0x0, 1, 0x0, 1, 27, 16, .ro, 0x0, 0, none, .free⟩
/-- PNL_VTIM1.V_SYNC (R427): From the record -/
def PNL_VTIM1_V_SYNC : Field := ⟨0xD0024, 0x0, 1, 0x0, 1, 11, 0, .ro, 0x0, 0, none, .free⟩
/-- PNL_VTIM1.V_BP (R427): From the record -/
def PNL_VTIM1_V_BP : Field := ⟨0xD0024, 0x0, 1, 0x0, 1, 27, 16, .ro, 0x0, 0, none, .free⟩
/-- PNL_STRIDE.BYTES (R427): From the record -/
def PNL_STRIDE : Field := ⟨0xD0028, 0x0, 1, 0x0, 1, 13, 0, .ro, 0x0, 0, none, .free⟩
/-- PNL_FRAMES_LO.LO (R427): Frames sent (R73) -/
def PNL_FRAMES_LO : Field := ⟨0xD0030, 0x0, 1, 0x0, 1, 31, 0, .ro, 0x0, 0, none, .free⟩
/-- PNL_FRAMES_HI.HI (R427): High word -/
def PNL_FRAMES_HI : Field := ⟨0xD0034, 0x0, 1, 0x0, 1, 31, 0, .ro, 0x0, 0, none, .free⟩
/-- PNL_CRC_PIPE.CRC (R427): R425 -/
def PNL_CRC_PIPE : Field := ⟨0xD0038, 0x0, 1, 0x0, 1, 31, 0, .ro, 0x0, 0, none, .free⟩
/-- PNL_CRC_PINS.CRC (R427): R426 -/
def PNL_CRC_PINS : Field := ⟨0xD003C, 0x0, 1, 0x0, 1, 31, 0, .ro, 0x0, 0, none, .free⟩
/-- PNL_MISMATCH_COUNT.COUNT (R427): Frames with unequal signatures -/
def PNL_MISMATCH_COUNT : Field := ⟨0xD0040, 0x0, 1, 0x0, 1, 31, 0, .rc, 0x0, 0, none, .free⟩
/-- PNL_UNDERRUN_COUNT.COUNT (R427): Lines cut short (R424) -/
def PNL_UNDERRUN_COUNT : Field := ⟨0xD0044, 0x0, 1, 0x0, 1, 31, 0, .rc, 0x0, 0, none, .free⟩
/-- PNL_PAL.RGB (R427): Palette entry i = 0–255 in use -/
def PNL_PAL : Field := ⟨0xD0400, 0x4, 256, 0x0, 1, 23, 0, .ro, 0x0, 0, none, .free⟩
/-- CAL_STATUS.LOADED (R440): R436 -/
def CAL_STATUS_LOADED : Field := ⟨0xE0000, 0x0, 1, 0x0, 1, 0, 0, .ro, 0x0, 0, none, .free⟩
/-- CAL_STATUS.STORE (R440): 0 NONE, 1 A, 2 B -/
def CAL_STATUS_STORE : Field := ⟨0xE0000, 0x0, 1, 0x0, 1, 2, 1, .ro, 0x0, 0, none, .free⟩
/-- CAL_STATUS.BG_ON (R440): Rotation on (R433) -/
def CAL_STATUS_BG_ON : Field := ⟨0xE0000, 0x0, 1, 0x0, 1, 3, 3, .ro, 0x0, 0, none, .free⟩
/-- CAL_STATUS.BG_NEXT (R440): Next lane visited: 0–3 XI–YQ, 4 SP -/
def CAL_STATUS_BG_NEXT : Field := ⟨0xE0000, 0x0, 1, 0x0, 1, 6, 4, .ro, 0x0, 0, none, .free⟩
/-- CAL_STATUS.RUN_BUSY (R440): CAL_RUN in progress -/
def CAL_STATUS_RUN_BUSY : Field := ⟨0xE0000, 0x0, 1, 0x0, 1, 7, 7, .ro, 0x0, 0, none, .free⟩
/-- CAL_STATUS.STORE_ERR (R440): R438 -/
def CAL_STATUS_STORE_ERR : Field := ⟨0xE0000, 0x0, 1, 0x0, 1, 8, 8, .w1c, 0x0, 0, none, .free⟩
/-- CAL_STATUS.RAIL (R440): R430 -/
def CAL_STATUS_RAIL : Field := ⟨0xE0000, 0x0, 1, 0x0, 1, 9, 9, .w1c, 0x0, 0, none, .free⟩
/-- CAL_STATUS.DRIFT (R440): R437 -/
def CAL_STATUS_DRIFT : Field := ⟨0xE0000, 0x0, 1, 0x0, 1, 10, 10, .w1c, 0x0, 0, none, .free⟩
/-- CAL_BG_CTL.PERIOD_S (R440): 10–3,600 s; other values are taken as 60 -/
def CAL_BG_CTL_PERIOD_S : Field := ⟨0xE0004, 0x0, 1, 0x0, 1, 11, 0, .rwp, 0x3C, 0, none, .free⟩
/-- CAL_BG_CTL.MAX_STEP (R440): Codes per visit, 1–15; 0 is taken as 1 -/
def CAL_BG_CTL_MAX_STEP : Field := ⟨0xE0004, 0x0, 1, 0x0, 1, 19, 16, .rwp, 0x4, 0, none, .free⟩
/-- CAL_GEN.GEN (R440): GENERATION of the selected copy -/
def CAL_GEN : Field := ⟨0xE0008, 0x0, 1, 0x0, 1, 31, 0, .ro, 0x0, 0, none, .free⟩
/-- CAL_BG_COUNT.COUNT (R440): Visits completed -/
def CAL_BG_COUNT : Field := ⟨0xE000C, 0x0, 1, 0x0, 1, 31, 0, .rc, 0x0, 0, none, .free⟩
/-- CAL_LANE_RAIL.LANES (R440): Bit per lane as CAL_RUN P0 -/
def CAL_LANE_RAIL : Field := ⟨0xE0010, 0x0, 1, 0x0, 1, 6, 0, .w1c, 0x0, 0, none, .free⟩
/-- CAL_RX_TRIM.CODES (R440): R428 -/
def CAL_RX_TRIM : Field := ⟨0xE0100, 0x10, 4, 0x0, 1, 31, 0, .rwp, 0x0, 0, none, .acqOrBg⟩
/-- CAL_SP_TRIM.CODES (R440): R428 -/
def CAL_SP_TRIM : Field := ⟨0xE0140, 0x10, 4, 0x0, 1, 31, 0, .rwp, 0x0, 0, none, .acqOrBg⟩
/-- CAL_DAC_TRIM.CODES (R440): k = 0 PI, 1 PQ; OFS, GAIN, SKEW -/
def CAL_DAC_TRIM : Field := ⟨0xE0180, 0x10, 2, 0x0, 1, 23, 0, .rwp, 0x0, 0, none, .acqOrBg⟩
/-- CAL_QUAL.OFS_RES (R440): i = 0–3 lanes, 4–7 SP positions; 1/256 LSB, signed -/
def CAL_QUAL_OFS_RES : Field := ⟨0xE0200, 0x8, 8, 0x0, 1, 15, 0, .ro, 0x0, 0, none, .free⟩
/-- CAL_QUAL.SKEW_RES (R440): 0.1 ps, signed -/
def CAL_QUAL_SKEW_RES : Field := ⟨0xE0200, 0x8, 8, 0x0, 1, 31, 16, .ro, 0x0, 0, none, .free⟩
/-- CAL_IRR.DB10 (R440): x = 0 X, 1 Y; 0.1 dB (R431) -/
def CAL_IRR : Field := ⟨0xE0240, 0x4, 2, 0x0, 1, 10, 0, .ro, 0x0, 0, none, .free⟩

def sadPart0 : List Field := [SAD_STATUS_ACTIVE, SAD_STATUS_BLANK, SAD_STATUS_BLANK_STUCK, SAD_STATUS_CAL_BUSY, SAD_STATUS_FB_PAIR, SAD_STATUS_FB_ROLE, SAD_STATUS_FB_PHASE, SAD_CTL, SAD_START, SAD_BLANK_COUNT, SAD_CH_CFG_EN, SAD_CH_CFG_MAINS]
def sadPart1 : List Field := [SAD_CH_CFG_SINGLE, SAD_CH_CFG_BLANK_EN, SAD_CH_CFG_ORDER, SAD_CH_CFG_GAIN, SAD_CH_CFG_REF, SAD_CH_CFG_BURNOUT, SAD_CH_CFG_KIND, SAD_CH_CFG_START_EVT, SAD_CH_DEC, SAD_CH_EXC_IEX_A, SAD_CH_EXC_IEX_B, SAD_RES_CODE]
def sadPart2 : List Field := [SAD_RES_VALUE, SAD_RES_FLAGS_FLAGS, SAD_RES_FLAGS_CONVERTER, SAD_RES_SEQ, SAD_RES_STAMP_LO, SAD_RES_STAMP_HI, SAD_CH_STATUS_STATE, SAD_CH_STATUS_EXC_RESTART, SAD_CH_STATUS_OPEN, SAD_CH_STATUS_OVR, SAD_CH_STATUS_CLAMP, SAD_CH_STATUS_SX]
def sadPart3 : List Field := [SAD_BUSY_HIT, SAD_CAL_OFS, SAD_CAL_GAIN]
/-- Every field of the SAD block's register tables. -/
def sadFields : List Field := sadPart0 ++ sadPart1 ++ sadPart2 ++ sadPart3
def srcPart0 : List Field := [SRC_STATUS_PUMP_LATCH, SRC_STATUS_GATE_LATCH, SRC_STATUS_FAULT, SRC_PUMP_STATUS_STATE, SRC_PUMP_STATUS_CONFIGURED, SRC_PUMP_STATUS_TEC_CLAMP, SRC_PUMP_STATUS_FAULT, SRC_PUMP_STATUS_BIN, SRC_PUMP_TARGET, SRC_PUMP_NOW, SRC_PUMP_MEAS, SRC_PUMP_DUTY]
def srcPart1 : List Field := [SRC_PUMP_PWR, SRC_PUMP_TEC, SRC_GATE_CFG, SRC_GATE_STATUS_FAULT, SRC_GATE_STATUS_IN_PULSE, SRC_GATE_SENSE, SRC_GATE_OPEN_LO, SRC_GATE_OPEN_HI]
/-- Every field of the SRC block's register tables. -/
def srcFields : List Field := srcPart0 ++ srcPart1
def tiuPart0 : List Field := [TIU_STATUS_CAL_BUSY, TIU_STATUS_SK_RUN, TIU_STATUS_SK_STALL, TIU_LAUNCH_DLY, TIU_REF_DLY, TIU_REF_WIN, TIU_LAUNCH_MISS, TIU_IN_CFG_ELEC, TIU_IN_CFG_EDGE, TIU_IN_CFG_FILTER, TIU_IN_CFG_P, TIU_IN_STATUS_LOST]
def tiuPart1 : List Field := [TIU_IN_STATUS_CAL_FAIL, TIU_IN_STATUS_ACTIVITY, TIU_IN_COUNT_LO, TIU_IN_COUNT_HI, TIU_IN_LOST, TIU_IN_GLITCH, TIU_IN_LAST_LO, TIU_IN_LAST_HI, TIU_IN_LAST_FRAC_FRAC, TIU_IN_LAST_FRAC_SEQ, TIU_IN_DNL, TIU_IV_CFG_START]
def tiuPart2 : List Field := [TIU_IV_CFG_STOP, TIU_IV_CFG_AVG, TIU_IV_CFG_WINDOW_NS, TIU_IV_RESULT, TIU_IV_FLAGS_NEAR, TIU_IV_FLAGS_ORDER, TIU_IV_FLAGS_RANGE, TIU_IV_FLAGS_SEQ, TIU_IV_MISS, TIU_IV_MEAN, TIU_SK_STATUS, TIU_SK_POS]
def tiuPart3 : List Field := [TIU_SK_REVS, TIU_SK_SPEED, TIU_SK_UPDATES, TIU_SK_SKIPPED, TIU_SK_SMEAR, TIU_SK_INDEX_ERR, TIU_CAL_TAB]
/-- Every field of the TIU block's register tables. -/
def tiuFields : List Field := tiuPart0 ++ tiuPart1 ++ tiuPart2 ++ tiuPart3
def pnlPart0 : List Field := [PNL_STATUS_STATE, PNL_STATUS_DIV, PNL_STATUS_MISMATCH, PNL_STATUS_UNDERRUN, PNL_STATUS_FETCH_ERR, PNL_STATUS_CLK_ERR, PNL_FB_OFS, PNL_REDUCE_EN, PNL_REDUCE_MAX4, PNL_REDUCE_MIN_HZ, PNL_CFG, PNL_PCLK]
def pnlPart1 : List Field := [PNL_HTIM0_H_ACTIVE, PNL_HTIM0_H_FP, PNL_HTIM1_H_SYNC, PNL_HTIM1_H_BP, PNL_VTIM0_V_ACTIVE, PNL_VTIM0_V_FP, PNL_VTIM1_V_SYNC, PNL_VTIM1_V_BP, PNL_STRIDE, PNL_FRAMES_LO, PNL_FRAMES_HI, PNL_CRC_PIPE]
def pnlPart2 : List Field := [PNL_CRC_PINS, PNL_MISMATCH_COUNT, PNL_UNDERRUN_COUNT, PNL_PAL]
/-- Every field of the PNL block's register tables. -/
def pnlFields : List Field := pnlPart0 ++ pnlPart1 ++ pnlPart2
def calPart0 : List Field := [CAL_STATUS_LOADED, CAL_STATUS_STORE, CAL_STATUS_BG_ON, CAL_STATUS_BG_NEXT, CAL_STATUS_RUN_BUSY, CAL_STATUS_STORE_ERR, CAL_STATUS_RAIL, CAL_STATUS_DRIFT, CAL_BG_CTL_PERIOD_S, CAL_BG_CTL_MAX_STEP, CAL_GEN, CAL_BG_COUNT]
def calPart1 : List Field := [CAL_LANE_RAIL, CAL_RX_TRIM, CAL_SP_TRIM, CAL_DAC_TRIM, CAL_QUAL_OFS_RES, CAL_QUAL_SKEW_RES, CAL_IRR]
/-- Every field of the CAL block's register tables. -/
def calFields : List Field := calPart0 ++ calPart1

end Sys2Proof.Machine.Reg
end

