-- ==== Sys2Proof/Machine/RegsProcessing.lean ====
section
/-! DEFINITION. The register fields of the RDG, MEM, CRN (with VBT) and PAT (with CHK) blocks (chapters 11, 13, 14 and 18).
Each entry is one row of a register table of the spec: BAR 0 offset, stride and count of the instances, inner stride and count, bits, access code, reset, and lock. -/

namespace Sys2Proof.Machine.Reg

/-- RDG_STATUS.STATE (R279): 1 STOPPED, 2 RUNNING, 3 WAITING, 4 HALTED -/
def RDG_STATUS : Field := ⟨0x200000, 0x40000, 8, 0x0, 1, 2, 0, .ro, 0x1, 0, none, .free⟩
/-- RDG_PC.PC (R279): Address of the last issued bundle -/
def RDG_PC : Field := ⟨0x200004, 0x40000, 8, 0x0, 1, 31, 0, .ro, 0x0, 0, none, .free⟩
/-- RDG_EXC.CAUSE (R279): Exception code (R272) -/
def RDG_EXC_CAUSE : Field := ⟨0x200008, 0x40000, 8, 0x0, 1, 7, 0, .ro, 0x0, 0, none, .free⟩
/-- RDG_EXC.SHD (R279): Exception taken in the shadow bank -/
def RDG_EXC_SHD : Field := ⟨0x200008, 0x40000, 8, 0x0, 1, 8, 8, .ro, 0x0, 0, none, .free⟩
/-- RDG_EXC_PC.PC (R279): Address of the cancelled bundle -/
def RDG_EXC_PC : Field := ⟨0x20000C, 0x40000, 8, 0x0, 1, 31, 0, .ro, 0x0, 0, none, .free⟩
/-- RDG_EXC_ADDR.ADDR (R279): Data address of ADDR, ALIGN, BANK, BUS or MEM_ECC -/
def RDG_EXC_ADDR : Field := ⟨0x200010, 0x40000, 8, 0x0, 1, 31, 0, .ro, 0x0, 0, none, .free⟩
/-- RDG_EVT.EV (R279): Event levels (R273) -/
def RDG_EVT : Field := ⟨0x200020, 0x40000, 8, 0x0, 1, 3, 0, .rwp, 0x0, 0, none, .free⟩
/-- RDG_TG_ZONE_LO.ZONE (R279): Zones 0–31 of the telegram port (R274) -/
def RDG_TG_ZONE_LO : Field := ⟨0x200024, 0x40000, 8, 0x0, 1, 31, 0, .rwp, 0x0, 0, none, .free⟩
/-- RDG_TG_ZONE_HI.ZONE (R279): Zones 32–63 -/
def RDG_TG_ZONE_HI : Field := ⟨0x200028, 0x40000, 8, 0x0, 1, 31, 0, .rwp, 0x0, 0, none, .free⟩
/-- RDG_TG_CTL.ALARM (R279): Alarm level -/
def RDG_TG_CTL_ALARM : Field := ⟨0x20002C, 0x40000, 8, 0x0, 1, 3, 0, .rwp, 0x0, 0, none, .free⟩
/-- RDG_TG_CTL.EN (R279): 1 = the port takes part in the telegram -/
def RDG_TG_CTL_EN : Field := ⟨0x20002C, 0x40000, 8, 0x0, 1, 8, 8, .rwp, 0x0, 0, none, .free⟩
/-- RDG_TG_CTL.COMMIT (R279): Self-clearing; commits the port (R274) -/
def RDG_TG_CTL_COMMIT : Field := ⟨0x20002C, 0x40000, 8, 0x0, 1, 16, 16, .rwp, 0x0, 0, none, .free⟩
/-- RDG_MSG_STATUS.FULL (R279): A message is waiting (R278) -/
def RDG_MSG_STATUS : Field := ⟨0x200030, 0x40000, 8, 0x0, 1, 0, 0, .w1c, 0x0, 0, none, .free⟩
/-- RDG_MSG.WORD (R279): Message word n = 0–7, from RDG_MSG P1–P8 -/
def RDG_MSG : Field := ⟨0x200040, 0x40000, 8, 0x4, 8, 31, 0, .ro, 0x0, 0, none, .free⟩
/-- RDG_IEN.EN (R279): Interrupt enables (R269) -/
def RDG_IEN : Field := ⟨0x200060, 0x40000, 8, 0x0, 1, 7, 0, .rwp, 0x0, 0, none, .free⟩
/-- RDG_IPEND.PEND (R279): Pending sources; bit 0 follows FULL and ignores writes -/
def RDG_IPEND : Field := ⟨0x200064, 0x40000, 8, 0x0, 1, 7, 0, .w1c, 0x0, 0, none, .free⟩
/-- RDG_IVEC.BASE (R279): Vector base address bits [31:9], so the base is BASE × 512 and is 512-byte aligned. BASE takes 0x80–0xFF, … -/
def RDG_IVEC : Field := ⟨0x200068, 0x40000, 8, 0x0, 1, 31, 9, .rwp, 0x80, 0, none, .ivec⟩
/-- RDG_TIMER.TICKS (R279): Reload period in 5 ns ticks; 0 stops the timer -/
def RDG_TIMER : Field := ⟨0x20006C, 0x40000, 8, 0x0, 1, 31, 0, .rwp, 0x0, 0, none, .free⟩
/-- RDG_STRM_WATCH.SLOTS (R279): Firn stream slots raising source 7 -/
def RDG_STRM_WATCH : Field := ⟨0x200070, 0x40000, 8, 0x0, 1, 3, 0, .rwp, 0x0, 0, none, .free⟩
/-- RDG_DMA_GO.DESC (R279): Writing starts channel c = 0–3 at that descriptor (R265) -/
def RDG_DMA_GO : Field := ⟨0x200080, 0x40000, 8, 0x8, 4, 31, 0, .wo, 0x0, 0, none, .free⟩
/-- RDG_DMA_STATUS.BUSY (R279): Channel running -/
def RDG_DMA_STATUS_BUSY : Field := ⟨0x200084, 0x40000, 8, 0x8, 4, 0, 0, .ro, 0x0, 0, none, .free⟩
/-- RDG_DMA_STATUS.ABORT (R279): Self-clearing; ends the descriptor (R266) -/
def RDG_DMA_STATUS_ABORT : Field := ⟨0x200084, 0x40000, 8, 0x8, 4, 1, 1, .rwp, 0x0, 0, none, .free⟩
/-- RDG_DMA_STATUS.OVR (R279): A start was dropped while busy -/
def RDG_DMA_STATUS_OVR : Field := ⟨0x200084, 0x40000, 8, 0x8, 4, 2, 2, .w1c, 0x0, 0, none, .free⟩
/-- RDG_CYCLE_LO.LO (R279): Core cycles since RDG_START, low word (R73) -/
def RDG_CYCLE_LO : Field := ⟨0x2000C0, 0x40000, 8, 0x0, 1, 31, 0, .ro, 0x0, 0, none, .free⟩
/-- RDG_CYCLE_HI.HI (R279): High word -/
def RDG_CYCLE_HI : Field := ⟨0x2000C4, 0x40000, 8, 0x0, 1, 31, 0, .ro, 0x0, 0, none, .free⟩
/-- RDG_STALL.COUNT (R279): Stalled cycles (R257) -/
def RDG_STALL : Field := ⟨0x2000C8, 0x40000, 8, 0x0, 1, 31, 0, .rc, 0x0, 0, none, .free⟩
/-- RDG_ECC.COUNT (R279): Corrected memory errors (R251) -/
def RDG_ECC : Field := ⟨0x2000CC, 0x40000, 8, 0x0, 1, 31, 0, .rc, 0x0, 0, none, .free⟩
/-- MEM_STATUS.TRAINED (R323): Bit c: channel c trained -/
def MEM_STATUS_TRAINED : Field := ⟨0x90000, 0x0, 1, 0x0, 1, 1, 0, .ro, 0x0, 0, none, .free⟩
/-- MEM_STATUS.DEGRADED (R323): R322 -/
def MEM_STATUS_DEGRADED : Field := ⟨0x90000, 0x0, 1, 0x0, 1, 2, 2, .ro, 0x0, 0, none, .free⟩
/-- MEM_STATUS.INTLV (R323): Channels interleaved (R301) -/
def MEM_STATUS_INTLV : Field := ⟨0x90000, 0x0, 1, 0x0, 1, 3, 3, .ro, 0x0, 0, none, .free⟩
/-- MEM_CFG.SPEED (R323): 0 3200, 1 4000, 2 4800 MT/s at boot; summit only -/
def MEM_CFG_SPEED : Field := ⟨0x90004, 0x0, 1, 0x0, 1, 1, 0, .rwp, 0x2, 0, none, .summit⟩
/-- MEM_CFG.INTLV (R323): Interleave when possible; summit only; run-locked while trained -/
def MEM_CFG_INTLV : Field := ⟨0x90004, 0x0, 1, 0x0, 1, 4, 4, .rwp, 0x1, 0, none, .summitTrained⟩
/-- MEM_SIZE.MIB (R323): Size of the space in MiB -/
def MEM_SIZE : Field := ⟨0x90008, 0x0, 1, 0x0, 1, 17, 0, .ro, 0x0, 0, none, .free⟩
/-- MEM_FREQ_CTL.TARGET (R323): Target speed; summit only -/
def MEM_FREQ_CTL_TARGET : Field := ⟨0x90010, 0x0, 1, 0x0, 1, 1, 0, .rwp, 0x2, 0, none, .summit⟩
/-- MEM_FREQ_CTL.GO (R323): Self-clearing; starts the change (R321) -/
def MEM_FREQ_CTL_GO : Field := ⟨0x90010, 0x0, 1, 0x0, 1, 4, 4, .rwp, 0x0, 0, none, .free⟩
/-- MEM_FREQ_CTL.CUR (R323): Present speed -/
def MEM_FREQ_CTL_CUR : Field := ⟨0x90010, 0x0, 1, 0x0, 1, 9, 8, .ro, 0x2, 0, none, .free⟩
/-- MEM_FREQ_CTL.ERR (R323): Change refused -/
def MEM_FREQ_CTL_ERR : Field := ⟨0x90010, 0x0, 1, 0x0, 1, 12, 12, .w1c, 0x0, 0, none, .free⟩
/-- MEM_ERR_STATUS.UE (R323): An error is captured (R312) -/
def MEM_ERR_STATUS_UE : Field := ⟨0x90020, 0x0, 1, 0x0, 1, 0, 0, .w1c, 0x0, 0, none, .free⟩
/-- MEM_ERR_STATUS.MULTI (R323): Further errors since the clear -/
def MEM_ERR_STATUS_MULTI : Field := ⟨0x90020, 0x0, 1, 0x0, 1, 31, 31, .w1c, 0x0, 0, none, .free⟩
/-- MEM_ERR_ADR_LO.LO (R323): External offset of the captured line -/
def MEM_ERR_ADR_LO : Field := ⟨0x90024, 0x0, 1, 0x0, 1, 31, 0, .ro, 0x0, 0, none, .free⟩
/-- MEM_ERR_ADR_HI.HI (R323): High bits -/
def MEM_ERR_ADR_HI : Field := ⟨0x90028, 0x0, 1, 0x0, 1, 5, 0, .ro, 0x0, 0, none, .free⟩
/-- MEM_ERR_INFO.CH (R323): Channel -/
def MEM_ERR_INFO_CH : Field := ⟨0x9002C, 0x0, 1, 0x0, 1, 0, 0, .ro, 0x0, 0, none, .free⟩
/-- MEM_ERR_INFO.SUB (R323): Subchannel A 0, B 1 -/
def MEM_ERR_INFO_SUB : Field := ⟨0x9002C, 0x0, 1, 0x0, 1, 1, 1, .ro, 0x0, 0, none, .free⟩
/-- MEM_ERR_INFO.RANK (R323): Rank -/
def MEM_ERR_INFO_RANK : Field := ⟨0x9002C, 0x0, 1, 0x0, 1, 3, 2, .ro, 0x0, 0, none, .free⟩
/-- MEM_ERR_INFO.SOURCE (R323): Source (R306) -/
def MEM_ERR_INFO_SOURCE : Field := ⟨0x9002C, 0x0, 1, 0x0, 1, 8, 4, .ro, 0x0, 0, none, .free⟩
/-- MEM_ERR_INFO.GROUP (R323): Failing DQ group 0–19 -/
def MEM_ERR_INFO_GROUP : Field := ⟨0x9002C, 0x0, 1, 0x0, 1, 13, 9, .ro, 0x0, 0, none, .free⟩
/-- MEM_SCRUB.HOURS (R323): Scrub period, 1–65,535 h; 0 stops the scrub -/
def MEM_SCRUB : Field := ⟨0x90030, 0x0, 1, 0x0, 1, 15, 0, .rwp, 0x18, 0, none, .free⟩
/-- MEM_RGN_BASE.MIB (R323): Staged base of region n in MiB; reads the value last written (R304); summit only for n = 4, 5 -/
def MEM_RGN_BASE : Field := ⟨0x90100, 0x8, 7, 0x0, 1, 17, 0, .rwp, 0x0, 0, none, .region⟩
/-- MEM_RGN_SIZE.MIB (R323): Staged size of region n; writing it checks and commits the pair (R304) -/
def MEM_RGN_SIZE : Field := ⟨0x90104, 0x8, 7, 0x0, 1, 17, 0, .rwp, 0x0, 0, none, .region⟩
/-- MEM_RGN_CTL.COMMIT (R323): Self-clearing; checks the staging table and applies it (R304) -/
def MEM_RGN_CTL_COMMIT : Field := ⟨0x90140, 0x0, 1, 0x0, 1, 0, 0, .rwp, 0x0, 0, none, .free⟩
/-- MEM_RGN_CTL.ERR (R323): First failing region; 0x7 = none -/
def MEM_RGN_CTL_ERR : Field := ⟨0x90140, 0x0, 1, 0x0, 1, 10, 8, .ro, 0x7, 0, none, .free⟩
/-- MEM_RGN_EBASE.MIB (R323): Base of region n in effect, in MiB (R304) -/
def MEM_RGN_EBASE : Field := ⟨0x90180, 0x8, 7, 0x0, 1, 17, 0, .ro, 0x0, 0, none, .free⟩
/-- MEM_RGN_ESIZE.MIB (R323): Size of region n in effect, in MiB -/
def MEM_RGN_ESIZE : Field := ⟨0x90184, 0x8, 7, 0x0, 1, 17, 0, .ro, 0x0, 0, none, .free⟩
/-- MEM_CH_CFG.SPARE (R323): Keep a spare rank (R316); summit only; takes effect at training -/
def MEM_CH_CFG_SPARE : Field := ⟨0x91000, 0x400, 2, 0x0, 1, 0, 0, .rwp, 0x0, 0, none, .summit⟩
/-- MEM_CH_CFG.CE_THR (R323): Corrected errors per rank per hour that start migration; 0 = off -/
def MEM_CH_CFG_CE_THR : Field := ⟨0x91000, 0x400, 2, 0x0, 1, 23, 8, .rwp, 0x0, 0, none, .free⟩
/-- MEM_CH_STATUS.RANKS (R323): Bit r: rank r trained -/
def MEM_CH_STATUS_RANKS : Field := ⟨0x91004, 0x400, 2, 0x0, 1, 3, 0, .ro, 0x0, 0, none, .free⟩
/-- MEM_CH_STATUS.RETIRED (R323): Bit r: rank r retired -/
def MEM_CH_STATUS_RETIRED : Field := ⟨0x91004, 0x400, 2, 0x0, 1, 7, 4, .ro, 0x0, 0, none, .free⟩
/-- MEM_CH_STATUS.HOT (R323): R314 -/
def MEM_CH_STATUS_HOT : Field := ⟨0x91004, 0x400, 2, 0x0, 1, 8, 8, .ro, 0x0, 0, none, .free⟩
/-- MEM_CH_STATUS.OVERTEMP (R323): R314 -/
def MEM_CH_STATUS_OVERTEMP : Field := ⟨0x91004, 0x400, 2, 0x0, 1, 9, 9, .w1c, 0x0, 0, none, .free⟩
/-- MEM_CH_STATUS.MIG (R323): Migration running -/
def MEM_CH_STATUS_MIG : Field := ⟨0x91004, 0x400, 2, 0x0, 1, 10, 10, .ro, 0x0, 0, none, .free⟩
/-- MEM_CH_STATUS.SPARE_USED (R323): R318 -/
def MEM_CH_STATUS_SPARE_USED : Field := ⟨0x91004, 0x400, 2, 0x0, 1, 11, 11, .ro, 0x0, 0, none, .free⟩
/-- MEM_CH_STATUS.RETIRE_MISSED (R323): R318 table -/
def MEM_CH_STATUS_RETIRE_MISSED : Field := ⟨0x91004, 0x400, 2, 0x0, 1, 12, 12, .w1c, 0x0, 0, none, .free⟩
/-- MEM_MIG_CTL.RETIRE (R323): Rank to retire; 7 = none; self-clearing to 7 -/
def MEM_MIG_CTL_RETIRE : Field := ⟨0x91008, 0x400, 2, 0x0, 1, 2, 0, .rwp, 0x7, 0, none, .free⟩
/-- MEM_MIG_CTL.RATE (R323): Copy cap in GB/s; 0 = none -/
def MEM_MIG_CTL_RATE : Field := ⟨0x91008, 0x400, 2, 0x0, 1, 15, 8, .rwp, 0x0, 0, none, .free⟩
/-- MEM_MIG_CTL.ERR (R323): Request refused -/
def MEM_MIG_CTL_ERR : Field := ⟨0x91008, 0x400, 2, 0x0, 1, 16, 16, .w1c, 0x0, 0, none, .free⟩
/-- MEM_MIG_PTR.LINE (R323): Lines copied -/
def MEM_MIG_PTR : Field := ⟨0x9100C, 0x400, 2, 0x0, 1, 31, 0, .ro, 0x0, 0, none, .free⟩
/-- MEM_SPARE_CLR.KEY (R323): 0x5EA1 clears the record at the next cold reset (R319); summit only -/
def MEM_SPARE_CLR : Field := ⟨0x91010, 0x400, 2, 0x0, 1, 15, 0, .wo, 0x0, 0, none, .summit⟩
/-- MEM_CE.COUNT (R323): Corrected reads -/
def MEM_CE : Field := ⟨0x91020, 0x400, 2, 0x0, 1, 31, 0, .rc, 0x0, 0, none, .free⟩
/-- MEM_UE.COUNT (R323): Uncorrectable after re-read -/
def MEM_UE : Field := ⟨0x91024, 0x400, 2, 0x0, 1, 31, 0, .rc, 0x0, 0, none, .free⟩
/-- MEM_REREAD_OK.COUNT (R323): Recovered by the re-read -/
def MEM_REREAD_OK : Field := ⟨0x91028, 0x400, 2, 0x0, 1, 31, 0, .rc, 0x0, 0, none, .free⟩
/-- MEM_POISON_RD.COUNT (R323): Reads of poisoned lines -/
def MEM_POISON_RD : Field := ⟨0x9102C, 0x400, 2, 0x0, 1, 31, 0, .rc, 0x0, 0, none, .free⟩
/-- MEM_POISON_WR.COUNT (R323): Partial writes to poisoned lines -/
def MEM_POISON_WR : Field := ⟨0x91030, 0x400, 2, 0x0, 1, 31, 0, .rc, 0x0, 0, none, .free⟩
/-- MEM_REF_MAXOWED.OWED (R323): Largest owed refresh count (R315) -/
def MEM_REF_MAXOWED : Field := ⟨0x91034, 0x400, 2, 0x0, 1, 2, 0, .rc, 0x0, 0, none, .free⟩
/-- MEM_RD_LO.LINES (R323): Lines read -/
def MEM_RD_LO : Field := ⟨0x91040, 0x400, 2, 0x0, 1, 31, 0, .ro, 0x0, 0, none, .free⟩
/-- MEM_RD_HI.LINES (R323): Lines read -/
def MEM_RD_HI : Field := ⟨0x91044, 0x400, 2, 0x0, 1, 31, 0, .ro, 0x0, 0, none, .free⟩
/-- MEM_WR_LO.LINES (R323): Lines written -/
def MEM_WR_LO : Field := ⟨0x91048, 0x400, 2, 0x0, 1, 31, 0, .ro, 0x0, 0, none, .free⟩
/-- MEM_WR_HI.LINES (R323): Lines written -/
def MEM_WR_HI : Field := ⟨0x9104C, 0x400, 2, 0x0, 1, 31, 0, .ro, 0x0, 0, none, .free⟩
/-- MEM_REF_LO.COUNT (R323): Refresh commands issued -/
def MEM_REF_LO : Field := ⟨0x91050, 0x400, 2, 0x0, 1, 31, 0, .ro, 0x0, 0, none, .free⟩
/-- MEM_REF_HI.COUNT (R323): Refresh commands issued -/
def MEM_REF_HI : Field := ⟨0x91054, 0x400, 2, 0x0, 1, 31, 0, .ro, 0x0, 0, none, .free⟩
/-- MEM_BUSY_LO.CYCLES (R323): MEMORY cycles with data on the bus -/
def MEM_BUSY_LO : Field := ⟨0x91058, 0x400, 2, 0x0, 1, 31, 0, .ro, 0x0, 0, none, .free⟩
/-- MEM_BUSY_HI.CYCLES (R323): MEMORY cycles with data on the bus -/
def MEM_BUSY_HI : Field := ⟨0x9105C, 0x400, 2, 0x0, 1, 31, 0, .ro, 0x0, 0, none, .free⟩
/-- MEM_TSET.— (R323): Word w = 0–31 of timing set A (t = 0, 0x1100–0x117F) or B (t = 1, 0x1180–0x11FF). Words 0–14 hold tRCD, … -/
def MEM_TSET : Field := ⟨0x91100, 0x400, 2, 0x4, 64, 31, 0, .rwp, 0x0, 0, none, .tset⟩
/-- CRN_STATUS.STATE (R343): 0 STOPPED, 1 RUNNING, 2 WAITING, 3 HALTED -/
def CRN_STATUS_STATE : Field := ⟨0xF0000, 0x0, 1, 0x0, 1, 1, 0, .ro, 0x0, 0, none, .free⟩
/-- CRN_STATUS.CAUSE (R343): 1 ILLEGAL, 2 PC, 3 watchdog (R334) -/
def CRN_STATUS_CAUSE : Field := ⟨0xF0000, 0x0, 1, 0x0, 1, 7, 4, .ro, 0x0, 0, none, .free⟩
/-- CRN_STATUS.SLICE (R343): Slice running -/
def CRN_STATUS_SLICE : Field := ⟨0xF0000, 0x0, 1, 0x0, 1, 8, 8, .ro, 0x0, 0, none, .free⟩
/-- CRN_STATUS.ZREADY (R343): Zone block waiting -/
def CRN_STATUS_ZREADY : Field := ⟨0xF0000, 0x0, 1, 0x0, 1, 9, 9, .ro, 0x0, 0, none, .free⟩
/-- CRN_STATUS.STBY_REFUSED (R343): R337 -/
def CRN_STATUS_STBY_REFUSED : Field := ⟨0xF0000, 0x0, 1, 0x0, 1, 10, 10, .w1c, 0x0, 0, none, .free⟩
/-- CRN_PC.PC (R343): Present instruction -/
def CRN_PC : Field := ⟨0xF0004, 0x0, 1, 0x0, 1, 11, 0, .ro, 0x0, 0, none, .free⟩
/-- CRN_WAKE_REASON.REASON (R343): R336 -/
def CRN_WAKE_REASON : Field := ⟨0xF0008, 0x0, 1, 0x0, 1, 7, 0, .ro, 0x0, 0, none, .free⟩
/-- CRN_ZFRAME.COUNT (R343): Blocks since WATCH entry -/
def CRN_ZFRAME : Field := ⟨0xF000C, 0x0, 1, 0x0, 1, 31, 0, .ro, 0x0, 0, none, .free⟩
/-- CRN_ZMISS.COUNT (R343): R328 -/
def CRN_ZMISS : Field := ⟨0xF0010, 0x0, 1, 0x0, 1, 31, 0, .rc, 0x0, 0, none, .free⟩
/-- CRN_WDOG.MS (R343): 1–65,535 ms; 0 is taken as 1; run-locked in WATCH -/
def CRN_WDOG : Field := ⟨0xF0014, 0x0, 1, 0x0, 1, 15, 0, .rwp, 0x3E8, 0, none, .watch⟩
/-- CRN_WS_CTL.GAIN (R343): R326; run-locked in WATCH -/
def CRN_WS_CTL_GAIN : Field := ⟨0xF0018, 0x0, 1, 0x0, 1, 2, 0, .rwp, 0x0, 0, none, .watch⟩
/-- CRN_WS_CTL.ESH (R343): R327; run-locked in WATCH -/
def CRN_WS_CTL_ESH : Field := ⟨0xF0018, 0x0, 1, 0x0, 1, 19, 16, .rwp, 0x8, 0, none, .watch⟩
/-- CRN_WREC.WORD (R343): R324, w = 0–7 -/
def CRN_WREC : Field := ⟨0xF0040, 0x4, 8, 0x0, 1, 31, 0, .rwp, 0x0, 0, none, .watch⟩
/-- CRN_WB_ROM.H (R343): Taps 0–59 of the symmetric watch filter -/
def CRN_WB_ROM : Field := ⟨0xF0100, 0x4, 60, 0x0, 1, 17, 0, .rom, 0x0, 0, none, .free⟩
/-- CRN_ZONE.FIRST (R343): R327; run-locked in WATCH -/
def CRN_ZONE_FIRST : Field := ⟨0xF0400, 0x4, 256, 0x0, 1, 15, 0, .rwp, 0x0, 0, none, .watch⟩
/-- CRN_ZONE.COUNT (R343):  -/
def CRN_ZONE_COUNT : Field := ⟨0xF0400, 0x4, 256, 0x0, 1, 31, 16, .rwp, 0x0, 0, none, .watch⟩
/-- VBT_RTC_LO.LO (R344): RTC (R338, R73, R74) -/
def VBT_RTC_LO : Field := ⟨0xF0200, 0x0, 1, 0x0, 1, 31, 0, .rwp, 0x0, 0, none, .free⟩
/-- VBT_RTC_HI.HI (R344): High bits -/
def VBT_RTC_HI : Field := ⟨0xF0204, 0x0, 1, 0x0, 1, 15, 0, .rwp, 0x0, 0, none, .free⟩
/-- VBT_ALARM_LO.LO (R344): Alarm -/
def VBT_ALARM_LO : Field := ⟨0xF0208, 0x0, 1, 0x0, 1, 31, 0, .rwp, 0x0, 0, none, .free⟩
/-- VBT_ALARM_HI.HI (R344): High bits -/
def VBT_ALARM_HI : Field := ⟨0xF020C, 0x0, 1, 0x0, 1, 15, 0, .rwp, 0x0, 0, none, .free⟩
/-- VBT_WAKE_CFG.EN (R344): RTC, WAKE0, WAKE1, TAMPER -/
def VBT_WAKE_CFG_EN : Field := ⟨0xF0210, 0x0, 1, 0x0, 1, 3, 0, .rwp, 0x0, 0, none, .free⟩
/-- VBT_WAKE_CFG.THR0 (R344): 0.2, 0.4, 0.6, 0.8 × VBAT -/
def VBT_WAKE_CFG_THR0 : Field := ⟨0xF0210, 0x0, 1, 0x0, 1, 5, 4, .rwp, 0x0, 0, none, .free⟩
/-- VBT_WAKE_CFG.THR1 (R344): 0.2, 0.4, 0.6, 0.8 × VBAT -/
def VBT_WAKE_CFG_THR1 : Field := ⟨0xF0210, 0x0, 1, 0x0, 1, 7, 6, .rwp, 0x0, 0, none, .free⟩
/-- VBT_WAKE_CFG.POL0 (R344): 1 = active low -/
def VBT_WAKE_CFG_POL0 : Field := ⟨0xF0210, 0x0, 1, 0x0, 1, 8, 8, .rwp, 0x0, 0, none, .free⟩
/-- VBT_WAKE_CFG.POL1 (R344): 1 = active low -/
def VBT_WAKE_CFG_POL1 : Field := ⟨0xF0210, 0x0, 1, 0x0, 1, 9, 9, .rwp, 0x0, 0, none, .free⟩
/-- VBT_WAKE_ST.RTC (R344): Alarm reached -/
def VBT_WAKE_ST_RTC : Field := ⟨0xF0214, 0x0, 1, 0x0, 1, 0, 0, .w1c, 0x0, 0, none, .free⟩
/-- VBT_WAKE_ST.TAMPER (R344): Tamper latch (R340) -/
def VBT_WAKE_ST_TAMPER : Field := ⟨0xF0214, 0x0, 1, 0x0, 1, 1, 1, .w1c, 0x0, 0, none, .free⟩
/-- VBT_TAMPER_TIME_LO.LO (R344): RTC at the tamper event -/
def VBT_TAMPER_TIME_LO : Field := ⟨0xF0218, 0x0, 1, 0x0, 1, 31, 0, .ro, 0x0, 0, none, .free⟩
/-- VBT_TAMPER_TIME_HI.HI (R344): High bits -/
def VBT_TAMPER_TIME_HI : Field := ⟨0xF021C, 0x0, 1, 0x0, 1, 15, 0, .ro, 0x0, 0, none, .free⟩
/-- VBT_COMMIT.PENDING (R344): 1 = a write to the VBT window awaits commit to the VBAT island -/
def VBT_COMMIT_PENDING : Field := ⟨0xF0220, 0x0, 1, 0x0, 1, 0, 0, .ro, 0x0, 0, none, .free⟩
/-- VBT_COMMIT.QUEUED (R344): Writes waiting in the mirror, 0–4 -/
def VBT_COMMIT_QUEUED : Field := ⟨0xF0220, 0x0, 1, 0x0, 1, 3, 1, .ro, 0x0, 0, none, .free⟩
/-- VBT_RET.DATA (R344): R341; word 0 is read-only -/
def VBT_RET : Field := ⟨0xF0240, 0x4, 16, 0x0, 1, 31, 0, .rwp, 0x0, 0, none, .ret0⟩
/-- PAT_CTL.ADDR (R417): Node address (R410) -/
def PAT_CTL_ADDR : Field := ⟨0xC0000, 0x0, 1, 0x0, 1, 4, 0, .ro, 0x0, 0, none, .free⟩
/-- PAT_CTL.EN (R417): 1 = the replier answers -/
def PAT_CTL_EN : Field := ⟨0xC0000, 0x0, 1, 0x0, 1, 8, 8, .rwp, 0x1, 0, none, .free⟩
/-- PAT_CTL.SRC (R417): Refresh source in RUN and LOADER (R409); 9–15 are taken as 0 -/
def PAT_CTL_SRC : Field := ⟨0xC0000, 0x0, 1, 0x0, 1, 15, 12, .rwp, 0x0, 0, none, .free⟩
/-- PAT_CTL.STALE_MS (R417): 1–65,535 ms; 0 is taken as 1 -/
def PAT_CTL_STALE_MS : Field := ⟨0xC0000, 0x0, 1, 0x0, 1, 31, 16, .rwp, 0x64, 0, none, .free⟩
/-- PAT_STATUS.ALIVE (R417): Alive counter -/
def PAT_STATUS_ALIVE : Field := ⟨0xC0004, 0x0, 1, 0x0, 1, 7, 0, .ro, 0x0, 0, none, .free⟩
/-- PAT_STATUS.ALARM (R417): Present alarm level (R408) -/
def PAT_STATUS_ALARM : Field := ⟨0xC0004, 0x0, 1, 0x0, 1, 11, 8, .ro, 0x0, 0, none, .free⟩
/-- PAT_STATUS.STATE (R417): STATE bits [6:0] of the reply -/
def PAT_STATUS_STATE : Field := ⟨0xC0004, 0x0, 1, 0x0, 1, 18, 12, .ro, 0x8, 0, none, .free⟩
/-- PAT_STATUS.DRIVING (R417): The driver is enabled -/
def PAT_STATUS_DRIVING : Field := ⟨0xC0004, 0x0, 1, 0x0, 1, 20, 20, .ro, 0x0, 0, none, .free⟩
/-- PAT_DEG_MASK.MEM (R417): MEM_STATUS.DEGRADED counts as DEGRADED -/
def PAT_DEG_MASK_MEM : Field := ⟨0xC0008, 0x0, 1, 0x0, 1, 0, 0, .rwp, 0x1, 0, none, .free⟩
/-- PAT_DEG_MASK.SPARE (R417): MEM_CH_STATUS.SPARE_USED on either channel counts -/
def PAT_DEG_MASK_SPARE : Field := ⟨0xC0008, 0x0, 1, 0x0, 1, 1, 1, .rwp, 0x0, 0, none, .free⟩
/-- PAT_DEG_MASK.NOACQ (R417): In RUN, no running acquisition counts -/
def PAT_DEG_MASK_NOACQ : Field := ⟨0xC0008, 0x0, 1, 0x0, 1, 2, 2, .rwp, 0x0, 0, none, .free⟩
/-- PAT_POLLS.COUNT (R417): Valid polls to this node -/
def PAT_POLLS : Field := ⟨0xC0010, 0x0, 1, 0x0, 1, 31, 0, .rc, 0x0, 0, none, .free⟩
/-- PAT_REPLIES.COUNT (R417): Replies sent -/
def PAT_REPLIES : Field := ⟨0xC0014, 0x0, 1, 0x0, 1, 31, 0, .rc, 0x0, 0, none, .free⟩
/-- PAT_CRC_ERR.COUNT (R417): R404 -/
def PAT_CRC_ERR : Field := ⟨0xC0018, 0x0, 1, 0x0, 1, 31, 0, .rc, 0x0, 0, none, .free⟩
/-- PAT_FRAME_ERR.COUNT (R417): R403 -/
def PAT_FRAME_ERR : Field := ⟨0xC001C, 0x0, 1, 0x0, 1, 31, 0, .rc, 0x0, 0, none, .free⟩
/-- PAT_CMD_ERR.COUNT (R417): R404 -/
def PAT_CMD_ERR : Field := ⟨0xC0020, 0x0, 1, 0x0, 1, 31, 0, .rc, 0x0, 0, none, .free⟩
/-- PAT_OTHER.COUNT (R417): Polls to other nodes -/
def PAT_OTHER : Field := ⟨0xC0024, 0x0, 1, 0x0, 1, 31, 0, .rc, 0x0, 0, none, .free⟩
/-- PAT_LAST_POLL_LO.LO (R417): Time base at the last valid poll to this node (R73) -/
def PAT_LAST_POLL_LO : Field := ⟨0xC0028, 0x0, 1, 0x0, 1, 31, 0, .ro, 0x0, 0, none, .free⟩
/-- PAT_LAST_POLL_HI.HI (R417): High word -/
def PAT_LAST_POLL_HI : Field := ⟨0xC002C, 0x0, 1, 0x0, 1, 31, 0, .ro, 0x0, 0, none, .free⟩
/-- PAT_TG_ZONE_LO.ZONE (R417): Command slot, zones 0–31 -/
def PAT_TG_ZONE_LO : Field := ⟨0xC0040, 0x0, 1, 0x0, 1, 31, 0, .ro, 0x0, 0, none, .free⟩
/-- PAT_TG_ZONE_HI.ZONE (R417): Zones 32–63 -/
def PAT_TG_ZONE_HI : Field := ⟨0xC0044, 0x0, 1, 0x0, 1, 31, 0, .ro, 0x0, 0, none, .free⟩
/-- PAT_TG_ALARM.LEVEL (R417): Command slot level -/
def PAT_TG_ALARM : Field := ⟨0xC0048, 0x0, 1, 0x0, 1, 3, 0, .ro, 0x0, 0, none, .free⟩
/-- PAT_TRIP_CFG.EVT (R417): Event ID (R205), t = 0–1 -/
def PAT_TRIP_CFG_EVT : Field := ⟨0xC0060, 0x4, 2, 0x0, 1, 7, 0, .rwp, 0xE6, 0, none, .free⟩
/-- PAT_TRIP_CFG.EVT_EN (R417): R411 -/
def PAT_TRIP_CFG_EVT_EN : Field := ⟨0xC0060, 0x4, 2, 0x0, 1, 8, 8, .rwp, 0x0, 0, none, .free⟩
/-- PAT_TRIP_CFG.DEG (R417):  -/
def PAT_TRIP_CFG_DEG : Field := ⟨0xC0060, 0x4, 2, 0x0, 1, 9, 9, .rwp, 0x0, 0, none, .free⟩
/-- PAT_TRIP_CFG.STALE (R417):  -/
def PAT_TRIP_CFG_STALE : Field := ⟨0xC0060, 0x4, 2, 0x0, 1, 10, 10, .rwp, 0x0, 0, none, .free⟩
/-- PAT_TRIP_CFG.LATCH (R417):  -/
def PAT_TRIP_CFG_LATCH : Field := ⟨0xC0060, 0x4, 2, 0x0, 1, 11, 11, .rwp, 0x0, 0, none, .free⟩
/-- PAT_TRIP_STATUS.OUT (R417): Ball levels -/
def PAT_TRIP_STATUS_OUT : Field := ⟨0xC0068, 0x0, 1, 0x0, 1, 1, 0, .ro, 0x3, 0, none, .free⟩
/-- PAT_TRIP_STATUS.SW (R417): Bits set by TRIP -/
def PAT_TRIP_STATUS_SW : Field := ⟨0xC0068, 0x0, 1, 0x0, 1, 3, 2, .ro, 0x0, 0, none, .free⟩
/-- PAT_TRIP_STATUS.LATCHED (R417): R411 -/
def PAT_TRIP_STATUS_LATCHED : Field := ⟨0xC0068, 0x0, 1, 0x0, 1, 5, 4, .w1c, 0x0, 0, none, .free⟩
/-- CHK_CTL.POLY (R417): R413; a write reloads the initial value -/
def CHK_CTL_POLY : Field := ⟨0xC1000, 0x40, 4, 0x0, 1, 1, 0, .rw, 0x0, 0, none, .free⟩
/-- CHK_CTL.FOLD (R417): R415 -/
def CHK_CTL_FOLD : Field := ⟨0xC1000, 0x40, 4, 0x0, 1, 4, 4, .rw, 0x0, 0, none, .free⟩
/-- CHK_CTL.AUTO_INC (R417): R415 -/
def CHK_CTL_AUTO_INC : Field := ⟨0xC1000, 0x40, 4, 0x0, 1, 5, 5, .rw, 0x0, 0, none, .free⟩
/-- CHK_DATA8.DATA (R417): R414 -/
def CHK_DATA8 : Field := ⟨0xC1004, 0x40, 4, 0x0, 1, 7, 0, .wo, 0x0, 0, none, .free⟩
/-- CHK_DATA16.DATA (R417):  -/
def CHK_DATA16 : Field := ⟨0xC1008, 0x40, 4, 0x0, 1, 15, 0, .wo, 0x0, 0, none, .free⟩
/-- CHK_DATA32.DATA (R417):  -/
def CHK_DATA32 : Field := ⟨0xC100C, 0x40, 4, 0x0, 1, 31, 0, .wo, 0x0, 0, none, .free⟩
/-- CHK_FINAL.FINAL (R417): R415 -/
def CHK_FINAL : Field := ⟨0xC1010, 0x40, 4, 0x0, 1, 0, 0, .wo, 0x0, 0, none, .free⟩
/-- CHK_RESULT.RESULT (R417): Last closed check -/
def CHK_RESULT : Field := ⟨0xC1014, 0x40, 4, 0x0, 1, 31, 0, .ro, 0x0, 0, none, .free⟩
/-- CHK_ALIVE.ALIVE (R417): Counter folded into the check -/
def CHK_ALIVE : Field := ⟨0xC1018, 0x40, 4, 0x0, 1, 31, 0, .rw, 0x0, 0, none, .free⟩
/-- CHK_STATUS.BUSY (R417): Bytes in progress -/
def CHK_STATUS_BUSY : Field := ⟨0xC101C, 0x40, 4, 0x0, 1, 0, 0, .ro, 0x0, 0, none, .free⟩
/-- CHK_STATUS.REPEAT (R417): R416 -/
def CHK_STATUS_REPEAT : Field := ⟨0xC101C, 0x40, 4, 0x0, 1, 1, 1, .w1c, 0x0, 0, none, .free⟩
/-- CHK_REPEAT.COUNT (R417): Repeats detected -/
def CHK_REPEAT : Field := ⟨0xC1020, 0x40, 4, 0x0, 1, 31, 0, .rc, 0x0, 0, none, .free⟩
/-- CHK_PREV.PREV (R417): Previous result -/
def CHK_PREV : Field := ⟨0xC1024, 0x40, 4, 0x0, 1, 31, 0, .ro, 0x0, 0, none, .free⟩
/-- CHK_BYTES.COUNT (R417): Bytes fed since the last reload, alive bytes excluded -/
def CHK_BYTES : Field := ⟨0xC1028, 0x40, 4, 0x0, 1, 31, 0, .ro, 0x0, 0, none, .free⟩

def rdgPart0 : List Field := [RDG_STATUS, RDG_PC, RDG_EXC_CAUSE, RDG_EXC_SHD, RDG_EXC_PC, RDG_EXC_ADDR, RDG_EVT, RDG_TG_ZONE_LO, RDG_TG_ZONE_HI, RDG_TG_CTL_ALARM, RDG_TG_CTL_EN, RDG_TG_CTL_COMMIT]
def rdgPart1 : List Field := [RDG_MSG_STATUS, RDG_MSG, RDG_IEN, RDG_IPEND, RDG_IVEC, RDG_TIMER, RDG_STRM_WATCH, RDG_DMA_GO, RDG_DMA_STATUS_BUSY, RDG_DMA_STATUS_ABORT, RDG_DMA_STATUS_OVR, RDG_CYCLE_LO]
def rdgPart2 : List Field := [RDG_CYCLE_HI, RDG_STALL, RDG_ECC]
/-- Every field of the RDG block's register tables. -/
def rdgFields : List Field := rdgPart0 ++ rdgPart1 ++ rdgPart2
def memPart0 : List Field := [MEM_STATUS_TRAINED, MEM_STATUS_DEGRADED, MEM_STATUS_INTLV, MEM_CFG_SPEED, MEM_CFG_INTLV, MEM_SIZE, MEM_FREQ_CTL_TARGET, MEM_FREQ_CTL_GO, MEM_FREQ_CTL_CUR, MEM_FREQ_CTL_ERR, MEM_ERR_STATUS_UE, MEM_ERR_STATUS_MULTI]
def memPart1 : List Field := [MEM_ERR_ADR_LO, MEM_ERR_ADR_HI, MEM_ERR_INFO_CH, MEM_ERR_INFO_SUB, MEM_ERR_INFO_RANK, MEM_ERR_INFO_SOURCE, MEM_ERR_INFO_GROUP, MEM_SCRUB, MEM_RGN_BASE, MEM_RGN_SIZE, MEM_RGN_CTL_COMMIT, MEM_RGN_CTL_ERR]
def memPart2 : List Field := [MEM_RGN_EBASE, MEM_RGN_ESIZE, MEM_CH_CFG_SPARE, MEM_CH_CFG_CE_THR, MEM_CH_STATUS_RANKS, MEM_CH_STATUS_RETIRED, MEM_CH_STATUS_HOT, MEM_CH_STATUS_OVERTEMP, MEM_CH_STATUS_MIG, MEM_CH_STATUS_SPARE_USED, MEM_CH_STATUS_RETIRE_MISSED, MEM_MIG_CTL_RETIRE]
def memPart3 : List Field := [MEM_MIG_CTL_RATE, MEM_MIG_CTL_ERR, MEM_MIG_PTR, MEM_SPARE_CLR, MEM_CE, MEM_UE, MEM_REREAD_OK, MEM_POISON_RD, MEM_POISON_WR, MEM_REF_MAXOWED, MEM_RD_LO, MEM_RD_HI]
def memPart4 : List Field := [MEM_WR_LO, MEM_WR_HI, MEM_REF_LO, MEM_REF_HI, MEM_BUSY_LO, MEM_BUSY_HI, MEM_TSET]
/-- Every field of the MEM block's register tables. -/
def memFields : List Field := memPart0 ++ memPart1 ++ memPart2 ++ memPart3 ++ memPart4
def crnPart0 : List Field := [CRN_STATUS_STATE, CRN_STATUS_CAUSE, CRN_STATUS_SLICE, CRN_STATUS_ZREADY, CRN_STATUS_STBY_REFUSED, CRN_PC, CRN_WAKE_REASON, CRN_ZFRAME, CRN_ZMISS, CRN_WDOG, CRN_WS_CTL_GAIN, CRN_WS_CTL_ESH]
def crnPart1 : List Field := [CRN_WREC, CRN_WB_ROM, CRN_ZONE_FIRST, CRN_ZONE_COUNT, VBT_RTC_LO, VBT_RTC_HI, VBT_ALARM_LO, VBT_ALARM_HI, VBT_WAKE_CFG_EN, VBT_WAKE_CFG_THR0, VBT_WAKE_CFG_THR1, VBT_WAKE_CFG_POL0]
def crnPart2 : List Field := [VBT_WAKE_CFG_POL1, VBT_WAKE_ST_RTC, VBT_WAKE_ST_TAMPER, VBT_TAMPER_TIME_LO, VBT_TAMPER_TIME_HI, VBT_COMMIT_PENDING, VBT_COMMIT_QUEUED, VBT_RET]
/-- Every field of the CRN block's register tables. -/
def crnFields : List Field := crnPart0 ++ crnPart1 ++ crnPart2
def patPart0 : List Field := [PAT_CTL_ADDR, PAT_CTL_EN, PAT_CTL_SRC, PAT_CTL_STALE_MS, PAT_STATUS_ALIVE, PAT_STATUS_ALARM, PAT_STATUS_STATE, PAT_STATUS_DRIVING, PAT_DEG_MASK_MEM, PAT_DEG_MASK_SPARE, PAT_DEG_MASK_NOACQ, PAT_POLLS]
def patPart1 : List Field := [PAT_REPLIES, PAT_CRC_ERR, PAT_FRAME_ERR, PAT_CMD_ERR, PAT_OTHER, PAT_LAST_POLL_LO, PAT_LAST_POLL_HI, PAT_TG_ZONE_LO, PAT_TG_ZONE_HI, PAT_TG_ALARM, PAT_TRIP_CFG_EVT, PAT_TRIP_CFG_EVT_EN]
def patPart2 : List Field := [PAT_TRIP_CFG_DEG, PAT_TRIP_CFG_STALE, PAT_TRIP_CFG_LATCH, PAT_TRIP_STATUS_OUT, PAT_TRIP_STATUS_SW, PAT_TRIP_STATUS_LATCHED, CHK_CTL_POLY, CHK_CTL_FOLD, CHK_CTL_AUTO_INC, CHK_DATA8, CHK_DATA16, CHK_DATA32]
def patPart3 : List Field := [CHK_FINAL, CHK_RESULT, CHK_ALIVE, CHK_STATUS_BUSY, CHK_STATUS_REPEAT, CHK_REPEAT, CHK_PREV, CHK_BYTES]
/-- Every field of the PAT block's register tables. -/
def patFields : List Field := patPart0 ++ patPart1 ++ patPart2 ++ patPart3

end Sys2Proof.Machine.Reg
end

