-- ==== Sys2Proof/Machine/RegMap.lean ====
section
/-! DEFINITION. The BAR 0 map (R60), the owning islands (R19, R67), and the fields that lie at an offset. -/

namespace Sys2Proof.Machine

/-- A row of the R60 table: base, size, number of the row, owning island (R19, R67) and the fields of its tables. -/
structure Block where
  base : Nat
  size : Nat
  row : Nat
  island : Nat
  fields : List Field

/-- Index of the FABRIC island (R67); accesses to it are direct (R19). -/
def islFabric : Nat := 4

/-- The rows of R60 up to the ridge windows. PAT and CHK share one row; PAT lies in CAIRN, CHK in FABRIC. -/
def blocks : List Block :=
  [⟨0x0, 0x1000, 0, 4, Reg.glbFields⟩, ⟨0x1000, 0x1000, 1, 4, Reg.pwrFields⟩,
   ⟨0x10000, 0x10000, 2, 3, Reg.hqeFields⟩, ⟨0x20000, 0x4000, 3, 1, Reg.prbFields⟩,
   ⟨0x24000, 0x1000, 4, 1, Reg.srcFields⟩, ⟨0x30000, 0x4000, 5, 1, Reg.rcvFields⟩,
   ⟨0x40000, 0x4000, 6, 1, Reg.cmpFields⟩, ⟨0x50000, 0x1000, 7, 1, Reg.redFields⟩,
   ⟨0x60000, 0x4000, 8, 1, Reg.slmFields⟩, ⟨0x70000, 0x4000, 9, 6, Reg.grmFields⟩,
   ⟨0x80000, 0x4000, 10, 1, Reg.dtsFields⟩, ⟨0x90000, 0x10000, 11, 2, Reg.memFields⟩] ++
  [⟨0xA0000, 0x4000, 12, 7, Reg.tiuFields⟩, ⟨0xB0000, 0x2000, 13, 9, Reg.sadFields⟩,
   ⟨0xC0000, 0x1000, 14, 10, Reg.patFields⟩, ⟨0xC1000, 0x1000, 14, 4, Reg.patFields⟩,
   ⟨0xD0000, 0x1000, 15, 8, Reg.pnlFields⟩, ⟨0xE0000, 0x2000, 16, 1, Reg.calFields⟩,
   ⟨0xF0000, 0x4000, 17, 10, Reg.crnFields⟩, ⟨0x100000, 0x100000, 18, 1, Reg.tlaFields⟩] ++
  (List.range 8).map (fun i => ⟨0x200000 + i * 0x40000, 0x40000, 19, 16 + i, Reg.rdgFields⟩) ++
  [⟨0x400000, 0x800000, 20, 4, []⟩, ⟨0xC00000, 0x400000, 21, 5, Reg.sumFields⟩]

/-- The row of R60 in which an offset lies. -/
def blockOf (off : Nat) : Option Block := blocks.find? (fun b => b.base ≤ off && off < b.base + b.size)

/-- The offset with the ignored bits [19:16] of the TLA window cleared (R63). -/
def foldTla (off : Nat) : Nat :=
  if 0x100000 ≤ off ∧ off < 0x200000 then 0x100000 + off % 0x10000 else off

/-- The island that answers at an offset (R19); FABRIC outside every region (R62). -/
def islandOf (off : Nat) : Nat := ((blockOf off).map (·.island)).getD islFabric

/-- The row number of R60 at an offset; 0x1F outside every region (R77). -/
def rowOf (off : Nat) : Nat := ((blockOf off).map (·.row)).getD 0x1F

/-- The side coefficients K of HB0 to HB5 (R151). -/
def hbTaps : List Nat := [2, 3, 4, 5, 7, 15]

/-- Instance `i` of a field is listed: RCV_HB_ROM holds K words for each response (R157). -/
def Field.listed (F : Field) (i : Nat) : Bool := F != Reg.RCV_HB_ROM || decide (i % 15 < hbTaps.getD (i / 15) 0)

/-- The fields, with their instances, of the 32-bit register at an offset; none when the offset is reserved (R62, R63). -/
def fieldsAt (off : Nat) : List (Field × Nat) :=
  match blockOf off with
  | none => []
  | some b => (b.fields.filterMap (fun F => (F.index? (foldTla off)).map (fun i => (F, i)))).filter (fun x => x.1.listed x.2)

end Sys2Proof.Machine
end

