-- ==== Sys2Proof/Machine/State.lean ====
section
/-! DEFINITION. The state of the part as plain data: the register file, and beside it what the spec gives each block that no register holds.
Register fields have one home, `State.regs`, keyed by BAR 0 offset and lowest bit (Machine/Field.lean). State.reset is the part as a VBAT reset and a cold reset leave it, POR_L still low. -/

namespace Sys2Proof.Machine

/-- Why a step stops. No meaning of this model raises a fault: the spec gives every event an outcome (R4). -/
inductive Fault where
  /-- Raised by no command; it stands for an outcome that the spec would not give. Safe. -/
  | noOutcome
  deriving DecidableEq, Repr

/-- Why a command has no meaning here. -/
inductive Refusal where
  /-- Raised by an arm of `exec` whose command has no meaning in the model, named by its mnemonic. Safe. -/
  | notModelled (mnemonic : String)
  deriving DecidableEq, Repr

/-- The addressed memories: summit SRAM, firn, external SDRAM by external offset, MRAM, flash. -/
structure Memories where
  sram : Memory
  firn : Memory
  ext : Memory
  mram : Memory
  flash : Memory
  deriving DecidableEq, Repr

/-- The time base and its steering (R13, R48 to R50). -/
structure TimeBase where
  /-- the 64-bit count of ns -/
  now : Nat
  /-- rate correction in units of 0.5 ppb -/
  rate : Int
  /-- rate correction not yet worked into whole ns, in 0.5·10⁻⁹ ns -/
  rateAcc : Int
  /-- phase slew still to be worked off, in ns; negative drops increments -/
  slew : Int
  /-- ns since the last slew increment -/
  slewNs : Nat
  /-- the pair committed by the last write of GLB_TB_LOAD_LO (R74) -/
  loadVal : Nat
  /-- time base at the last valid PPS edge -/
  ppsAt : Nat
  /-- absolute errors of the last four valid edges, newest first; none for an edge that loaded -/
  errs : List (Option Nat)
  deriving DecidableEq, Repr

/-- How far the boot has come (R55, R56). -/
inductive BootPhase where
  /-- POR_L or SYS_RST_L low, or held by TEST_MODE: every island but VBAT in reset -/
  | held
  /-- the boot ROM runs in SUMMIT -/
  | rom
  /-- the resident loader runs -/
  | loader
  /-- the summit firmware and the HQE microcode run -/
  | firmware
  deriving DecidableEq, Repr

/-- A power-state transition (R57): codes 1 WATCH, 2 RUN, 3 STANDBY as in POWER_STATE P0. -/
structure Transition where
  src : Nat
  dst : Nat
  handles : List Nat
  cairn : Bool
  deriving DecidableEq, Repr

/-- Resets, straps, supplies, references, the link and the power state (chapter 02, R79, R80). -/
structure Power where
  /-- the power state, in codes of PWR_STATUS.STATE; that register also shows STOPPING and STARTING while a queued transition waits (R78) -/
  mode : Nat
  phase : BootPhase
  /-- the boot under way follows a warm reset -/
  warm : Bool
  /-- the boot under way leaves STANDBY for WATCH -/
  toWatch : Bool
  /-- WATCH was entered from STANDBY: no summit or queue state is retained (R59) -/
  fresh : Bool
  /-- the boot ROM runs after a summit watchdog expiry or an island reset of SUMMIT (R443, R455) -/
  restart : Bool
  /-- PERST_L fell in WATCH: a host reset is due on the way back to RUN (R59) -/
  hostResetOwed : Bool
  /-- STANDBY: only the VBAT island lives -/
  standby : Bool
  testHold : Bool
  standalone : Bool
  porLow : Bool
  perstLow : Bool
  /-- level of RST_OUT_L -/
  rstOut : Bool
  /-- SUMMIT clock in MHz: 25 on the RC oscillator, 400 on the system PLL -/
  sumMhz : Nat
  /-- REF10M is present -/
  ref10m : Bool
  /-- LIFT_CLK is present -/
  liftClk : Bool
  /-- the PLLs hold over -/
  holdover : Bool
  /-- a brown-out crossing blocks new MRAM and flash writes -/
  brownBlock : Bool
  /-- the next boot owes a BROWNOUT log entry -/
  brownLog : Bool
  vbatPresent : Bool
  /-- level of PWR_ON -/
  pwrOn : Bool
  /-- attempts of the present wake that have failed -/
  wakeTries : Nat
  /-- wake sources latched in the VBAT domain and not yet shown in PWR_WAKE_SRC, as its bits -/
  wakeLatch : Nat
  linkTraining : Bool
  linkUp : Bool
  linkSpeed : Nat
  linkWidth : Nat
  d3hot : Bool
  /-- configuration requests are answered with Configuration Request Retry Status -/
  crs : Bool
  /-- PEWAKE_L is driven low -/
  pewake : Bool
  trans : Option Transition
  queued : Option Transition
  deriving DecidableEq, Repr

/-- The boundary-scan port (R36): the loaded instruction and the scan cells of the gate and pump outputs. -/
structure Jtag where
  instr : JtagInstr
  scanGateD : Bool
  scanGateT : Bool
  scanPumps : Nat
  deriving DecidableEq, Repr

/-- A posted write waiting in its crossing (R68, R72). -/
structure XWrite where
  island : Nat
  off : Nat
  /-- the bytes from `off` on; none where a byte enable is clear -/
  data : List (Option Byte)
  ini : Initiator
  accepted : Nat
  deriving DecidableEq, Repr

/-- A command that holds a handle (R86, R95). -/
structure Handle where
  idx : Nat
  gen : Nat
  op : Nat
  flags : Nat
  tag : Nat
  wdog : Nat
  ptr0 : Nat
  len0 : Nat
  params : List Nat
  sq : Fin 16
  cq : Fin 16
  /-- fetch order, for FENCE (R93) -/
  order : Nat
  /-- not held behind a fence -/
  started : Bool
  /-- its ACCEPT entry has been formed -/
  accepted : Bool
  /-- its unit has taken it up -/
  running : Bool
  /-- its DONE or ACCEPT_DONE entry has been formed and waits in a full or disabled queue -/
  done : Bool
  deriving DecidableEq, Repr

/-- A completion entry but for its PHASE (R89). -/
structure Cqe where
  handle : Nat
  tag : Nat
  status : Nat
  detail : Nat
  sq : Nat
  r0 : Nat
  r1 : Nat
  kind : Nat
  deriving DecidableEq, Repr

/-- An entry kept for a full or disabled completion queue (R99); `frees` names the index its write frees. -/
structure HeldCqe where
  cq : Fin 16
  e : Cqe
  frees : Option Nat
  deriving DecidableEq, Repr

/-- What an outstanding read of host memory is for (R109). -/
inductive ReadTarget where
  | fetch (q : Fin 16)
  | bufRing (r : Fin 8)
  | cmd (h : Nat)
  deriving DecidableEq, Repr

/-- A read of host memory whose tag is held; `dead` once it has failed or been written off. -/
structure HostReadRec where
  tag : Nat
  target : ReadTarget
  dead : Bool
  deriving DecidableEq, Repr

/-- How the walk of a buffer ends: whole, at the first fault of its list as (DETAIL, index of the element) (R496), or at a read that did not succeed. -/
inductive BufEnd where
  | whole
  | fault (det idx : Nat)
  | read (d : HostData)
  deriving DecidableEq, Repr

/-- A buffer: the good segments before its end, as (address, length). -/
abbrev Buffer := List (Nat × Nat) × BufEnd

/-- A posted buffer that has been fetched from a buffer ring (R100). -/
structure PostedBuf where
  addr : Nat
  len : Nat
  cookie : Nat
  deriving DecidableEq, Repr

/-- The buffer a stream ring fills, with what it holds. -/
structure CurBuf where
  buf : PostedBuf
  bytes : Nat
  blocks : Nat
  deriving DecidableEq, Repr

/-- A buffer return that waits for a free fill entry (R497). -/
structure FillRet where
  cookie : Nat
  bytes : Nat
  blocks : Nat
  status : Nat
  deriving DecidableEq, Repr

/-- What a stream ring holds beside its registers (R91, R97 to R104). -/
structure SrState where
  bufTail : Nat
  fillHead : Nat
  phase : Nat
  /-- ring index after the last entry fetched -/
  fetched : Nat
  bufs : List PostedBuf
  cur : Option CurBuf
  ret : Option FillRet
  /-- blocks were discarded since the previous fill entry -/
  drop : Bool
  streamId : Nat
  /-- the largest block of the open stream in bytes -/
  maxBlock : Nat
  deriving DecidableEq, Repr

/-- One write of the Gheon into host memory, in the order made. -/
structure HostWrite where
  addr : Nat
  bytes : List Byte
  /-- it carries Relaxed Ordering (R103) -/
  ro : Bool
  deriving DecidableEq, Repr

/-- The queue engines beside their registers (chapter 04). -/
structure Hqe where
  handles : List Handle
  /-- generation last given to each index; 0 before the first use -/
  gens : Store Nat
  nextOrder : Nat
  held : List HeldCqe
  /-- submission queue served last by each engine -/
  rr0 : Nat
  rr1 : Nat
  reads : List HostReadRec
  nextTag : Nat
  /-- entries written since the last signal, by ring: 0 to 15 completion queues, 16 to 23 stream rings -/
  coal : Store Nat
  /-- rings whose coalescing timer runs -/
  coalTimers : List Nat
  srs : Vector SrState 8
  /-- MSI-X vectors pending -/
  pba : List Nat
  /-- bytes of the MSI-X table at BAR 2 0x8000 -/
  msix : Memory
  /-- words of configuration space that the host writes, by register (R79) -/
  cfg : Store Nat
  /-- AER uncorrectable status (R79, R109) -/
  aer : Nat
  /-- ring bases in effect, by the offset of their low word (R74) -/
  bases : Store Nat
  deriving DecidableEq, Repr

/-- One entry of the event log (R449). -/
structure LogEntry where
  seq : Nat
  sev : Nat
  code : Nat
  src : Nat
  stamp : Nat
  data : List Byte
  deriving DecidableEq, Repr

/-- The event log beside its MRAM region (R449, R450). -/
structure Log where
  /-- entries not yet written to MRAM, oldest first -/
  buf : List LogEntry
  /-- sequence of the next entry -/
  next : Nat
  /-- entries retained, at most 32,768 -/
  count : Nat
  /-- (source, code, stamp) of the last entry written of each -/
  last : List (Nat × Nat × Nat)
  /-- (error bit, stamp) of the last REG_ERR entry of each kind (R76) -/
  lastReg : List (Nat × Nat)
  deriving DecidableEq, Repr

/-- One tone entry of a plan record (R115). -/
structure Tone where
  lane : Nat
  depth : Nat
  slot : Nat
  down : Bool
  fKhz : Int
  bKhz : Nat
  nc : Nat
  edge : Nat
  ampl : Nat
  shifts : Nat
  deriving DecidableEq, Repr

/-- A stored plan (R114). -/
structure Plan where
  stagger : Nat
  frameTicks : Nat
  window : Nat
  winOfs : Nat
  lead : Nat
  lag : Nat
  align : Bool
  userRef : Bool
  div : Nat
  gauge : Nat
  alignM : Nat
  ng : Nat
  tones : List Tone
  deriving DecidableEq, Repr

/-- A requested PLAN_SWITCH (R133). -/
structure PendSwitch where
  handle : Nat
  id : Nat
  plan : Plan
  /-- the dark frame of the old plan is under way -/
  dark : Bool
  deriving DecidableEq, Repr

/-- How a running acquisition ends: the status and DETAIL of its handle, and the ACQ_STOP handles that asked. -/
structure AcqEnd where
  status : Nat
  detail : Nat
  stoppers : List Nat
  /-- time base at which the ending was caused -/
  since : Nat
  deriving DecidableEq, Repr

/-- What the DAC lanes carry (R123 to R125, R128, R134). -/
inductive DacOut where
  | idle
  /-- a chirp: start and step of the 48-bit phase, DAC samples, edge samples, amplitude -/
  | chirp (f k : Nat) (ns ne ampl : Nat)
  /-- constant codes on PI and PQ -/
  | const (i q : Int)
  deriving DecidableEq, Repr

/-- Acoustic acquisition and probe synthesis (chapter 05). -/
structure Acq where
  plans : List (Nat × Plan)
  run : Option (Nat × Plan)
  handle : Option Nat
  /-- ACQ_START asked for the glacier ring -/
  ring : Bool
  /-- frames completed since ACQ_START -/
  frames : Nat
  /-- a frame is in progress -/
  inFrame : Bool
  /-- tick at which the frame in progress, or the dark frame, began -/
  frameTick : Nat
  /-- firings since frame 0 of the running plan -/
  fired : Nat
  /-- time base at the chirp starts of the firings not yet processed, oldest first -/
  stamps : List Nat
  sw : Option PendSwitch
  ending : Option AcqEnd
  /-- an ACQ_START that waits for the drain (R132, R475): its handle, plan ID and ring bit -/
  queued : Option (Nat × Nat × Bool)
  /-- a host reset ends the acquisition without a completion -/
  silent : Bool
  dac : DacOut
  /-- position in the cycle of eight bias measurements (R129) -/
  mbPos : Nat
  /-- measurement cycles since the last correction -/
  mbCycles : Nat
  /-- consecutive small corrections of each loop -/
  mbSmall : Vector Nat 3
  /-- tick at which the last bias measurement began, and its position in the cycle; none before the first -/
  mbLast : Option (Nat × Nat)
  deriving DecidableEq, Repr

/-- A complex sample with the clamps that it came through: bit 0 the NCO, bit i stage i (R156). -/
structure CSample where
  re : Int
  im : Int
  fl : Nat
  deriving DecidableEq, Repr

/-- The receiver beside its registers (chapter 06). -/
structure Rx where
  /-- DC-blocked samples of the last ticks, newest tick first: XI, XQ, YI, YQ -/
  ticks : List (List (List Int))
  /-- tick index of the next tick; tick 0 is the first of frame 0 (R144) -/
  next : Int
  /-- coarse samples of C0 to C19, X then Y, newest first -/
  coarse : List (List CSample × List CSample)
  /-- the estimators A of XI, XQ, YI, YQ (R138) -/
  dcbA : Vector Int 4
  /-- lanes updated in the frame in progress (R139) -/
  updated : Vector Bool 4
  /-- ticks since GATE_D last closed, limited to 4,096 -/
  sinceClose : Nat
  /-- sums of I² + Q² of C0 to C19, X then Y, over the frame or the 65,536 coarse samples in progress (R147), and their count -/
  pwrX : Vector Nat 20
  pwrY : Vector Nat 20
  pwrN : Nat
  /-- a RELEASE waits for the settling before COMPARE_OUT -/
  releasing : Bool
  /-- compares made in the present spare-lane step (R142) -/
  compares : Nat
  /-- clamps of the RCV and the TLA block since the last whole second (R156) -/
  satRcv : Nat
  satTla : Nat
  deriving DecidableEq, Repr

/-- The phase engine beside its registers (chapter 07). -/
structure Phase where
  /-- loaded references, key lane · 256 + entry, value I + 4096·Q in 12-bit codes (R161) -/
  refs : Store Nat
  /-- loaded reference length of each lane -/
  refLens : Store Nat
  /-- alignment offsets of each tone, by point (R169); under ALIGN = 0 the previous θ of each pair -/
  cells : List (List Nat)
  /-- θ of the anchor in the present frame, by point; none for NULL -/
  anchor : List (Option Nat)
  /-- φ of the last sample of each point -/
  phi : List Nat
  /-- integrated phase of each point -/
  integ : List Int
  /-- no sample has been formed since the last step, or since frame 0 -/
  fresh : Bool
  /-- no sample has been formed since frame 0 of the acquisition or switch -/
  first : Bool
  /-- tones that have a previous θ (ALIGN = 0) -/
  seen : List Bool
  /-- cause of a step that waits for the next frame start; 0 none -/
  stepPend : Nat
  /-- steps of frames that have started, oldest first: the series index from which each holds, and its cause -/
  stepAt : List (Nat × Nat)
  /-- series index of the next firing to be processed -/
  nextN : Nat
  /-- ALIGN_RESET handles that wait for their step -/
  resetHandles : List Nat
  /-- steps applied since reset -/
  steps : Nat
  deriving DecidableEq, Repr

/-- The group a stream is summing for one tone, or for the aligned series (R176). -/
structure Group where
  tone : Nat
  /-- Σ by output point -/
  sums : List Int
  count : Nat
  state : Nat
  frame : Nat
  stamp : Nat
  age : Nat
  series : Nat
  /-- by output point: a NULL sample lies in it (R182) -/
  nulls : List Bool
  /-- carry of INC by output point (R177) -/
  carry : List Int
  /-- alignment steps before its first and before its last sample (R181) -/
  epoch : Nat
  epochEnd : Nat
  deriving DecidableEq, Repr

/-- A stream block: its header fields and payload elements (R181, R182). -/
structure SBlock where
  stream : Nat
  kind : Nat
  frame : Nat
  stamp : Nat
  plan : Nat
  first : Nat
  points : Nat
  samples : Nat
  state : Nat
  tone : Nat
  nulls : Bool
  reduced : Bool
  age : Nat
  series : Nat
  /-- per-sample step of the series index: M_t, or 2^e -/
  step : Nat
  payload : List Byte
  groomed : Bool
  /-- the groomer has finished with it (R239) -/
  through : Bool
  k : Nat
  /-- alignment steps before its first and before its last sample (R181) -/
  epoch : Nat
  epochEnd : Nat
  deriving DecidableEq, Repr

/-- Where a stream's blocks go (R21). -/
inductive Dest where
  | ring (r : Fin 8)
  | firn (slot : Fin 4)
  | glacier
  deriving DecidableEq, Repr

/-- An open stream (R180). -/
structure Stream where
  /-- stream ID: handle word, or 0 for the glacier feed -/
  id : Nat
  /-- handle index; none for the glacier feed -/
  handle : Option Nat
  dest : Dest
  kind : Nat
  first : Nat
  count : Nat
  mS : Nat
  mT : Nat
  groomed : Bool
  k : Nat
  groups : List Group
  /-- the block being formed -/
  open_ : Option SBlock
  /-- complete blocks that wait for delivery, oldest first -/
  ready : List SBlock
  /-- the next block delivered carries OVERFLOW -/
  ovf : Bool
  /-- error terms ε of the quantiser by tone (R229) -/
  eps : List (List Int)
  delivered : Nat
  discarded : Nat
  /-- the stream closes: status and DETAIL of its handle, STREAM_CLOSE handle, fill status of the buffer -/
  closing : Option (Nat × Nat × Option Nat × Nat)
  deriving DecidableEq, Repr

/-- The reducer beside its registers (R175 to R183). -/
structure Red where
  streams : List Stream
  /-- Σ Δ of each cell for the samples of the energy interval in progress, newest first -/
  cells : List (List Int)
  /-- series index of the first sample of that interval -/
  cellsAt : Nat
  cellsState : Nat
  cellsFrame : Nat
  cellsStamp : Nat
  cellsAge : Nat
  /-- band energies E_0 to E_7 of each cell in the last interval -/
  bands : List (List Nat)
  /-- zone energies of the last interval -/
  zones : List Nat
  /-- channels (core, channel) in the order in which their descriptors were taken up: that of their STREAM reads (R268) -/
  firnReqs : List (Nat × Nat)
  /-- STREAM_OPEN commands that wait for a ring's STREAM_CLOSE (R475): handle, ring -/
  waiting : List (Nat × Nat)
  deriving DecidableEq, Repr

/-- The Raman configuration record (R194). -/
structure DtsCfg where
  bin : Nat
  dual : Bool
  oneCoil : Bool
  points : Nat
  shotOfs : Nat
  shotTicks : Nat
  pulse : Nat
  winOfs : Nat
  darkN : Nat
  ref1 : Nat
  ref2 : Nat
  gpio : Nat
  ref1First : Nat
  ref1Count : Nat
  ref2First : Nat
  ref2Count : Nat
  dalpha : Int
  gamma : Nat
  resultOfs : Nat
  slots : Nat
  skip : Nat
  loop : Nat
  ng : Nat
  deriving DecidableEq, Repr

/-- A running DTS_START (R202). -/
structure DtsRun where
  handle : Option Nat
  l : Nat
  cont : Bool
  deriving DecidableEq, Repr

/-- A result of a coil channel that fell in the average (R196): channel, VALUE in mK, and whether it carries OVR, OPEN or BLANK_STUCK. -/
structure CoilResult where
  ch : Nat
  stamp : Nat
  temp : Int
  bad : Bool
  deriving DecidableEq, Repr

/-- A DTS_READ that waits for the slot being written (R201): its handle, its slot and its buffer. -/
structure DtsWait where
  handle : Nat
  sel : Nat
  buf : Buffer
  deriving DecidableEq, Repr

/-- The Raman path beside its registers (chapter 08). -/
structure Dts where
  cfg : Option DtsCfg
  run : Option DtsRun
  /-- averages completed since DTS_START -/
  done : Nat
  /-- reverse leg of a dual-ended average -/
  reverse : Bool
  /-- SKIP discards left in the present leg -/
  skipLeft : Nat
  /-- shots accumulated in the present leg -/
  shots : Nat
  /-- accumulators A of RA and RST, forward half (R192) -/
  accRa : List Nat
  accRst : List Nat
  /-- the same, reverse half -/
  revRa : List Nat
  revRst : List Nat
  /-- dark accumulators of RA and RST, forward and reverse -/
  darkRa : Nat
  darkRst : Nat
  revDarkRa : Nat
  revDarkRst : Nat
  /-- GATE_T opening of the first and last accumulated shot -/
  first : Option Nat
  last : Nat
  /-- shots given up inside the average -/
  skips : Nat
  /-- an accumulated window held a clip -/
  clip : Bool
  /-- tick of the last shot instant since DTS_START, one given up included -/
  shotAt : Option Nat
  /-- tick at which the previous shot's window ends -/
  windowEnd : Option Nat
  /-- ticks at which the last close began and ended -/
  closeFrom : Nat
  closeEnd : Option Nat
  /-- level driven on GPIO_DIR while an average runs -/
  dir : Bool
  /-- slots A and B hold a complete average since DTS_CONFIG -/
  doneA : Bool
  doneB : Bool
  /-- slot completed last -/
  newest : Option Nat
  /-- DTS_READ handles that wait for the slot being written, with their buffers -/
  waiting : List DtsWait
  /-- coil results since the first accumulated shot, oldest first -/
  coils : List CoilResult
  deriving DecidableEq, Repr

/-- A stream block retained in the glacier ring (R216), as the capture copier selects it. -/
structure GBlk where
  /-- blocks written before it since the ring started -/
  serial : Nat
  /-- its offset in external memory -/
  off : Nat
  /-- its bytes rounded up to a multiple of 64 -/
  len : Nat
  /-- nominal stamps of its first and last sample (R498) -/
  stamp : Nat
  last : Nat
  frame : Nat
  plan : Nat
  first : Nat
  points : Nat
  ovf : Bool
  deriving DecidableEq, Repr

/-- A segment of the glacier ring that holds blocks (R216): its position, SEQ and blocks, oldest first. -/
structure GSeg where
  pos : Nat
  seq : Nat
  used : Nat
  complete : Bool
  blks : List GBlk
  /-- written in an earlier acquisition, and kept for a capture that has still to copy it -/
  old : Bool
  deriving DecidableEq, Repr

/-- A capture that holds a slot, or a stored one (R217 to R221). -/
structure Cap where
  id : Nat
  /-- slot taken by the request -/
  slot : Nat
  /-- its place in the order of handles: the slot is held until that handle's DONE entry is written (R218) -/
  order : Nat
  /-- in the capture region, its copy done -/
  stored : Bool
  /-- host handle index of a CAPTURE command, or the capture index of a FIRE -/
  handle : Nat
  gate : Nat
  host : Bool
  lift : Bool
  extended : Bool
  preShort : Bool
  truncated : Bool
  lost : Bool
  ovf : Bool
  oos : Bool
  trigger : Nat
  start : Nat
  stop : Nat
  first : Nat
  points : Nat
  avg : Nat
  /-- the post window has ended -/
  ended : Bool
  /-- T waits for a lift edge until this time (R224), with the PRE and POST of the request -/
  liftWait : Option (Nat × Nat × Nat)
  /-- an EXTEND waits for a lift edge until this time, with the end before it and its POST in ns (R219, R224) -/
  extWait : Option (Nat × Nat × Nat)
  /-- requested before the ring's first block: PRE in ms, until frame 0 gives the oldest stamp (R217) -/
  early : Option Nat
  /-- serial of the first block after an acquisition that ended inside the window (R221) -/
  limit : Option Nat
  /-- serial of the next ring block that the copier considers -/
  next : Nat
  /-- offset of the header in the capture region, bytes after it, blocks stored -/
  base : Nat
  bytes : Nat
  blocks : Nat
  /-- blocks copied so far, while the capture holds its slot -/
  data : List Byte
  /-- (plan ID, FRAME_TICKS, N) of the blocks copied -/
  plans : List (Nat × Nat × Nat)
  deriving DecidableEq, Repr

/-- A CAPTURE_READ under way (R222, R246): its handle, the capture, the buffer, and the groomed blocks still to decode. -/
structure CapRead where
  handle : Nat
  id : Nat
  buf : Buffer
  left : Nat
  deriving DecidableEq, Repr

/-- The slalom sequencer, the glacier ring, captures and lift sync beside their registers (chapter 09). -/
structure Slm where
  loaded : Bool
  /-- arming handle index -/
  handle : Option Nat
  /-- armed with P1 [0], P1 [1] -/
  asMaster : Bool
  asMember : Bool
  /-- fires, and captures dropped, since arming -/
  fires : Nat
  drops : Nat
  /-- the active gate became active in the present tick -/
  entered : Bool
  /-- ticks left of PT0 to PT3 -/
  ptLeft : Vector Nat 4
  /-- this unit asserts LIFT_ARM -/
  liftOut : Bool
  /-- LIFT_ARM is asserted by another unit -/
  liftIn : Bool
  /-- the LIFT_FIRE line is asserted -/
  fireLine : Bool
  /-- this unit drives LIFT_FIRE -/
  fireOut : Bool
  segs : List GSeg
  /-- segments written since ACQ_START, and blocks written -/
  seq : Nat
  serial : Nat
  /-- captures in ring order of the capture region, oldest first; those that hold slots among them -/
  caps : List Cap
  nextId : Nat
  /-- offset in the capture region at which the next capture is stored -/
  capAt : Nat
  /-- order of the request that took each capture slot last -/
  taken : Vector (Option Nat) 8
  /-- CAPTURE_READ commands under way, oldest first -/
  reads : List CapRead
  /-- the pins as the last tick sampled them, and their levels after two agreeing samples (R208) -/
  pinSeen : Nat
  pinLevel : Nat
  /-- a lift edge was latched since the last tick -/
  latchNew : Bool
  deriving DecidableEq, Repr

/-- A groomer job, queued or running (R241 to R246). -/
structure GJob where
  handle : Nat
  /-- opcode of the command -/
  op : Nat
  compress : Bool
  /-- compress instance 0 or 1, 2 the decompress instance; none while queued -/
  inst : Option Nat
  level : Nat
  k : Nat
  pred : Nat
  qmode : Nat
  elem : Nat
  stride : Nat
  slot : Option Nat
  inList : Nat
  inElems : Nat
  /-- segments of the input list, and how the list ends -/
  ins : List (Nat × Nat)
  inEnd : BufEnd
  inDone : Nat
  outDone : Nat
  /-- output segments still free, and how the output list ends -/
  outs : List (Nat × Nat)
  outEnd : BufEnd
  /-- the window: the last q values, oldest first -/
  hist : List Int
  a : Nat
  n : Nat
  eps : List Int
  /-- a chunk precedes the next one, and its NOMATCH bit -/
  begun : Bool
  plain : Bool
  deriving DecidableEq, Repr

/-- The groomer beside its registers (chapter 10): its jobs, oldest first. -/
structure Grm where
  jobs : List GJob
  /-- users of the decompress instance, by handle, in the order of their turns (R246) -/
  turns : List Nat
  deriving DecidableEq, Repr


/-- Where a result of a ridge operation goes (R253, R256); names 16 to 31 of D are physical. -/
inductive RDest where
  | d (n : Nat)
  | a (n : Nat)
  | p (n : Nat)
  | b (n : Nat)
  | l (n : Nat)
  | lc (n : Nat)
  | rotb
  /-- Z, N, C and V by CMP -/
  | flags
  | sr
  | ien
  | ipend
  | iret
  deriving DecidableEq, Repr

/-- A result in flight (R256): the issue cycle from which it is visible, its register and value, the S bit of an accumulate, and the sticky bits it sets. -/
structure RWrite where
  due : Nat
  dest : RDest
  val : Int
  /-- none: a plain write; else an accumulate with its S bit (R286) -/
  acc : Option Bool
  sat : Bool
  ovf : Bool
  deriving DecidableEq, Repr

/-- A hardware loop level (R262). -/
structure RLoop where
  active : Bool
  count : Nat
  start : Nat
  stop : Nat
  rot : Bool
  deriving DecidableEq, Repr

/-- The registers that have a second copy for interrupts (R253): D0 to D15, A0 to A3, P0 to P3, SR without SHD and LOOP, LC0 with its level. -/
structure RBank where
  d : Vector Word 16
  a : Vector (BitVec 40) 4
  p : Vector Word 4
  sr : Nat
  l0 : RLoop
  deriving DecidableEq, Repr

/-- How a bundle ends beside its results: on to the next one, a return from interrupt, WAITING, STOPPED. -/
inductive REnd where
  | go | reti | wait | halt
  deriving DecidableEq, Repr

/-- A 32-bit access of slot M to the control registers or the register fabric: its address, the word stored, or the physical D register loaded. -/
structure RAccess where
  addr : Nat
  store : Option Nat
  dest : Nat
  deriving DecidableEq, Repr

/-- The operations of a bundle that have been given so far; the bundle issues with its last one. -/
structure RBundle where
  /-- an operation has been given -/
  begun : Bool
  writes : List RWrite
  dests : List RDest
  /-- bytes stored in data memory, by offset -/
  stores : List (Nat × List Byte)
  access : Option RAccess
  target : Option Nat
  loop : Option (Nat × RLoop)
  fin : REnd
  /-- corrected errors of its loads -/
  ecc : Nat
  /-- data banks that it uses -/
  banks : List Nat
  /-- first exception: code, and data address of a data fault (R272) -/
  exc : Option (Nat × Option Nat)
  deriving DecidableEq, Repr

/-- A DMA channel (R265): the core address of its descriptor, and whether the chain stops after it. -/
structure RDma where
  desc : Nat
  last : Bool
  deriving DecidableEq, Repr

/-- An RDG_MSG that waits (R278): its handle and the words. -/
structure RMsg where
  handle : Nat
  words : List Nat
  deriving DecidableEq, Repr

/-- A ridge core beside its control registers (chapters 11 and 12). -/
structure Rcore where
  /-- instruction memory, 64 KiB, and the two data banks, 128 KiB, by offset -/
  imem : Memory
  dmem : Memory
  /-- the bank in use, and the other one -/
  bank : RBank
  other : RBank
  /-- SR.SHD: the bank in use is the shadow bank -/
  shd : Bool
  /-- D16 to D31 by physical number, A4 to A7, P4 to P7 -/
  dhi : Vector Word 16
  ahi : Vector (BitVec 40) 4
  phi : Vector Word 4
  b : Vector Word 8
  l : Vector Word 8
  l1 : RLoop
  rotb : Nat
  iret : Nat
  /-- address of the next bundle -/
  pc : Nat
  /-- issue cycle of the next bundle -/
  t : Nat
  flight : List RWrite
  bundle : RBundle
  /-- the bundle issued last is the end of an active loop level, and the loop has still to be handled -/
  loopDue : Bool
  /-- ENTRY of the loaded image -/
  entry : Option Nat
  dma : Vector RDma 4
  msgs : List RMsg
  /-- ticks left of RDG_TIMER -/
  timer : Nat
  /-- for each data bank the last issue cycle that used it, and the consecutive ones up to it (R257) -/
  used : Vector (Nat × Nat) 2
  deriving DecidableEq, Repr

/-- A line request with what its first read gives. In flight it waits for its re-read, with the failing DQ group, behind an older request, or stalled until the fabric timeout (R307 to R311). -/
structure MemReq where
  src : Nat
  off : Nat
  write : Option (List Byte)
  first : FirstRead
  group : Option Nat
  /-- tick of its acceptance -/
  accepted : Nat
  deriving DecidableEq, Repr

/-- An answer of the controller: the source, a status code of R106 (0x03 for a bus error), its DETAIL, and the line read. -/
structure MemReply where
  src : Nat
  status : Nat
  detail : Nat
  data : List Byte
  deriving DecidableEq, Repr

/-- A corrected read of a rank: channel, rank, time base. -/
structure CeRec where
  ch : Nat
  rank : Nat
  time : Nat
  deriving DecidableEq, Repr

/-- The training and retirement records in MRAM (R318 to R320), whose layout the spec does not give. -/
structure MemRecord where
  sets : Vector (Option RankSet) 2
  /-- speeds that have trained values -/
  speeds : List Nat
  retired : Vector (Option Nat) 2
  /-- migrations started and not finished -/
  migrating : Vector (Option Nat) 2
  /-- retirement records that the next cold reset clears -/
  clear : Vector Bool 2
  deriving DecidableEq, Repr

/-- The memory controller beside its registers (chapter 13); lists of two are indexed by channel. -/
structure Mc where
  /-- external lines of 64 bytes that carry poison, by line number -/
  poison : List Nat
  /-- requests accepted and not yet ended, oldest first, and those that wait for credit (R309, R20) -/
  flight : List MemReq
  queue : List MemReq
  /-- the source served last from the queue, by class 1 to 3 (R306) -/
  turn : Vector Nat 3
  replies : List MemReply
  /-- MiB per rank, physical ranks in the order of the space, and the spare -/
  mib : Vector Nat 2
  order : Vector (List Nat) 2
  spare : Vector (Option Nat) 2
  /-- the migration that runs, and the one that is asked for -/
  mig : Vector (Option Nat) 2
  want : Vector (Option Nat) 2
  ces : List CeRec
  /-- refreshes owed, by channel and rank -/
  owed : Vector (Vector Nat 4) 2
  /-- every rank is in self-refresh (R320) -/
  selfRef : Bool
  /-- target of a frequency change under way -/
  freq : Option Nat
  /-- the present speed, which a warm reset keeps (R320) -/
  speed : Nat
  /-- bytes that RATE lets a running migration copy, by channel (R318) -/
  migAcc : Vector Nat 2
  /-- the scrub's next line, the tick at which its sweep began, whether the next sweep waits for HOURS, and its last read by channel (R313) -/
  scrubAt : Nat
  scrubFrom : Nat
  scrubRests : Bool
  scrubLast : Vector (Option Nat) 2
  /-- timing set B is active -/
  setB : Bool
  record : MemRecord
  deriving DecidableEq, Repr


/-- The cairn sequencer and the watch slice beside their registers (chapter 14). -/
structure Crn where
  /-- a valid CAIRN part is loaded; its program words, ENTRY and length -/
  valid : Bool
  prog : Store Nat
  entry : Nat
  words : Nat
  /-- data memory of 4,096 words of 16 bits -/
  dmem : Store Nat
  /-- K0 to K15, and the flags -/
  k : Vector (BitVec 16) 16
  z : Bool
  c : Bool
  /-- blocks missed since the previous WAITF -/
  missed : Nat
  /-- frames of the slice since WATCH entry, and θ of each point in the last one -/
  frames : Nat
  theta : List (Option Nat)
  /-- DATAPATH tick at which the slice's frame 0 begins, and the converter ticks taken since (R326) -/
  startTick : Nat
  rxTicks : Nat
  /-- DATAPATH tick of the last WAITF or TGRAM that completed (R334) -/
  fedTick : Nat
  /-- channel that ports 0 to 7 read last -/
  lastCh : Option Nat
  deriving DecidableEq, Repr

/-- The VBAT domain behind its mirror (R338 to R344). -/
structure Vbat where
  rtc : Nat
  alarm : Nat
  /-- VBT_WAKE_CFG -/
  cfg : Nat
  /-- the present match of RTC and alarm has been acted on (R338) -/
  matched : Bool
  stRtc : Bool
  stTamper : Bool
  tamperTime : Nat
  ret : Vector Nat 16
  /-- writes that wait in the mirror, oldest first: offset of the register, and value (48 bits for a pair) -/
  writes : List (Nat × Nat)
  /-- high words written ahead of their low words (R74) -/
  rtcHi : Nat
  alarmHi : Nat
  /-- WAKE0 and WAKE1 are armed; filtered levels of WAKE0, WAKE1, TAMPER -/
  armed : Vector Bool 2
  levels : Nat
  deriving DecidableEq, Repr


/-- A channel record of the slow converter beside its registers (R346), and what its results need. -/
structure SadCh where
  rfs : Nat
  rnom : Nat
  coefA : Int
  coefB : Int
  /-- consecutive results with OVR and a positive overload (R357) -/
  posOvr : Nat
  /-- the next result is the first after an excitation restart (R356) -/
  excFirst : Bool
  /-- time base at the start of the filter: a result holds no earlier sample (R348) -/
  startAt : Nat
  deriving DecidableEq, Repr

/-- A pause of the blanked channels (R358, R359): assertion of SA_BLANK, expiry of BLANK_MAX, fall. -/
structure Pause where
  start : Nat
  stuck : Option Nat
  stop : Option Nat
  deriving DecidableEq, Repr

/-- A SAD_CONFIG that waits for a calibration slot to end (R362): its handle, channel and record. -/
structure SadWait where
  handle : Nat
  ch : Nat
  record : List Byte
  deriving DecidableEq, Repr

/-- The slow converter beside its registers (chapter 15). -/
structure Sad where
  chans : Vector SadCh 9
  /-- ROLE of channel 8's record: 0 REPLACE, 1 MONITOR -/
  role : Nat
  pauses : List Pause
  /-- a SAD_FALLBACK under way: its handle, the converter whose first result ends it, and the pair it joins -/
  fb : Option (Option Nat × Nat × Nat)
  /-- a self-calibration under way: its handle, slot, and mask of converters calibrated -/
  cal : Option (Option Nat × Nat × Nat)
  waits : List SadWait
  deriving DecidableEq, Repr

/-- The part of a pump's binning record that no register shows (R368). -/
structure PumpRec where
  ith : Nat
  slope : Nat
  imax : Nat
  rsense : Nat
  deriving DecidableEq, Repr

/-- A pump channel beside its registers (R366 to R371, R375). -/
structure Pump where
  record : Option PumpRec
  /-- ramp value in units of 1/500 µA -/
  ramp : Nat
  /-- last rate in µA/ms -/
  rate : Nat
  /-- PUMP_SET that ramps the channel -/
  handle : Option Nat
  /-- the ramp under way ends OFF -/
  toOff : Bool
  /-- the last 64 sense samples, newest first -/
  samples : List Nat
  /-- consecutive periods that judged OPEN, SHORT, OVERCURRENT -/
  open_ : Nat
  short : Nat
  excess : Nat
  deriving DecidableEq, Repr

/-- A gate channel beside its registers (R372 to R376). -/
structure Gate where
  /-- the last opening: the ticks of its start and its end -/
  start : Nat
  stop : Nat
  /-- measurements since the last verdict, those that judged OPEN and SHORT, and those of them made in a pulse -/
  total : Nat
  opens : Nat
  shorts : Nat
  pulsed : Nat
  /-- the last verdict: 0 none, 1 OPEN, 2 SHORT -/
  verdict : Nat
  deriving DecidableEq, Repr

/-- The source drive beside its registers (chapter 16). -/
structure Src where
  pumps : Vector Pump 4
  gates : Vector Gate 2
  /-- PUMP_OFF commands that ramp: handle, channels still to be OFF -/
  offs : List (Nat × Nat)
  /-- fault code that latched each channel, in the bit order of R378; 0 while it is not latched -/
  codes : Vector Nat 6
  /-- THERMAL holds (R447) -/
  thermal : Bool
  /-- cooler targets passed to the cooler controllers (R369): pump and mK, in order -/
  coolerOut : List (Nat × Nat)
  deriving DecidableEq, Repr

/-- A firing whose launch and reference edges are looked for (R389): its chirp start in ns, and the edges in bins of the time base. -/
structure Launch where
  start : Nat
  launch : Option Nat
  ref : Option Nat
  deriving DecidableEq, Repr

/-- A time-interval input beside its registers (R384): the last passed edge, the fill of its queue, both in bins of the TIMING cycle count; and the time base of the last passed edge. -/
structure TiIn where
  last : Option Nat
  fill : Nat
  fillAt : Nat
  seenAt : Option Nat
  deriving DecidableEq, Repr

/-- A position of a section taken at t_mid (R398): its time, and n + num/den. -/
structure SkSample where
  time : Nat
  n : Nat
  num : Nat
  den : Nat
  stalled : Bool
  deriving DecidableEq, Repr

/-- A belt section beside its registers (R393 to R400). -/
structure SkSec where
  handle : Option Nat
  enc : Nat
  index : Nat
  first : Nat
  cells : Nat
  cpr : Nat
  beltMm : Nat
  cellUm : Int
  mapOfs : Nat
  stallMs : Nat
  avg : Nat
  running : Bool
  /-- SKATE_STOP handles that wait for the interval boundary -/
  stoppers : List Nat
  /-- encoder edges since the start, newest first: timestamp in bins, and edges counted up to it -/
  edges : List (Nat × Nat)
  samples : List SkSample
  /-- time base at its start -/
  since : Nat
  updates : Nat
  skipped : Nat
  smear : Nat
  deriving DecidableEq, Repr

/-- A SKATE_START that waits for its section to stop (R475): its handle and the section record. -/
structure SkWait where
  handle : Nat
  sec : SkSec
  deriving DecidableEq, Repr

/-- A running code-density calibration (R391, R392): its handle, the inputs still to test, the one under test, the worst DNL, and whether one failed. -/
structure TiuCal where
  handle : Option Nat
  left : List Nat
  input : Nat
  worst : Nat
  failed : Bool
  deriving DecidableEq, Repr

/-- The time-interval unit and skate frame beside their registers (chapter 17). -/
structure Tiu where
  /-- no launch edge on TI0 in the last frame -/
  ti0Miss : Bool
  /-- a launch edge fell in the frame in progress -/
  frameLaunch : Bool
  ins : Vector TiIn 8
  /-- START edges of IV0 to IV3 that wait for their windows, oldest first -/
  starts : Vector (List (Nat × Nat)) 4
  /-- edges of each input, newest first, as far back as a window reaches -/
  edges : Vector (List Nat) 8
  /-- the last results of each channel, newest first -/
  results : Vector (List Int) 4
  /-- firings whose windows are open, oldest first, and the last 64 that have closed, newest first -/
  firings : List Launch
  done : List Launch
  cal : Option TiuCal
  secs : Vector (Option SkSec) 4
  waits : Vector (Option SkWait) 4
  deriving DecidableEq, Repr

/-- What a contributor committed to the telegram buffer (R407): its zone word and alarm level. -/
structure TgSlot where
  zone : Nat
  alarm : Nat
  deriving DecidableEq, Repr

/-- The patrol link and trip outputs beside their registers (chapter 18). -/
structure Pat where
  /-- committed slots of the telegram ports of ridge cores 0 to 7, and the cairn slot -/
  ridge : Vector TgSlot 8
  cairn : TgSlot
  /-- tick of the last refresh; none since reset -/
  refreshed : Option Nat
  stale : Bool
  /-- bytes of a poll received so far, and bytes that are still discarded after a framing error -/
  poll : List Byte
  drop : Nat
  /-- the reply that the driver sends -/
  reply : Option (List Byte)
  /-- replies sent on the line, in order -/
  sent : List (List Byte)
  /-- the trip outputs are held high until the boot applies PAT_TRIP_CFG (R412) -/
  hold : Bool
  /-- the node address kept in MRAM (R410), whose place in the system records the spec does not give -/
  mramAddr : Nat
  deriving DecidableEq, Repr

/-- A check-value unit beside its registers (R413 to R416). -/
structure Chk where
  crc : Nat
  /-- the next FINAL is the first since a reset or a write of CHK_CTL -/
  first : Bool
  deriving DecidableEq, Repr

/-- The panel scan-out beside its registers (chapter 19). -/
structure Pnl where
  /-- PCLK_KHZ of the stored timing record; none while no record is stored -/
  pclk : Option Nat
  /-- PNL_ENABLE commands that wait for the first frame, and for the end of the frame in progress -/
  starters : List Nat
  stoppers : List Nat
  /-- a PNL_ENABLE 1 that waits for the stop to complete (R475) -/
  again : Option Nat
  /-- palettes loaded for the next frame start, oldest first: handle and the 1,024 bytes -/
  palettes : List (Nat × List Byte)
  /-- PNL_FB_OFS as sampled at the frame start -/
  ofs : Nat
  /-- the active area of the frame in progress has not ended -/
  inActive : Bool
  /-- next line of the active area to be fetched -/
  line : Nat
  /-- CRC register of the frame signature so far -/
  crc : Nat
  /-- signature of the previous frame, and equal frames in a row -/
  prev : Option Nat
  same : Nat
  /-- time base of the last PNL_MISMATCH entry and signal -/
  loggedAt : Option Nat
  /-- link words of the last line sent: for each pixel D0, D1, D2, D3 and CLK, slot 0 first -/
  link : List (List Nat)
  deriving DecidableEq, Repr


/-- A calibration visit (R429): its lane as a bit number of CAL_RUN P0, and whether CAL_RUN asked for it. -/
structure CalVisit where
  lane : Nat
  byRun : Bool
  /-- a takeover asked for by RCV_SP_CTL.REQ handed the lane over (R141) -/
  byReq : Bool
  deriving DecidableEq, Repr

/-- A running CAL_RUN (R434): its handle, P0, the lanes still to visit, the mask of lanes applied. -/
structure CalRun where
  handle : Nat
  mask : Nat
  left : List Nat
  applied : Nat
  deriving DecidableEq, Repr

/-- What the newest measurement of a lane left (R429, R431): intercept φ and residual e_φ in 2⁻⁴⁰/5 rad, residual gain as num/den. -/
structure CalRes where
  phi : Int
  eRes : Int
  num : Int
  den : Int
  deriving DecidableEq, Repr

/-- Calibration beside its registers (chapter 20). -/
structure Cal where
  visit : Option CalVisit
  run : Option CalRun
  /-- newest residuals of XI, XQ, YI, YQ -/
  res : Vector (Option CalRes) 4
  /-- lanes 0 to 3, PI (bit 5) and PQ (bit 6) whose codes came from the store or from CAL_RUN (R436) -/
  held : Nat
  /-- the same lanes with measured codes, the rotation's among them -/
  measured : Nat
  /-- the slow-converter and time-interval values are measured ones -/
  sad : Bool
  tiu : Bool
  deriving DecidableEq, Repr


/-- The die and supply sensors beside their registers (R444 to R447). -/
structure Sensors where
  samples : Nat
  stamp : Nat
  /-- LO and HI of T0 to T7 and S0 to S11; none while a limit is open -/
  limits : Vector (Option (Int × Int)) 20
  hystT : Nat
  hystV : Nat
  /-- consecutive sample sets of T0 to T7 at 118 °C or more -/
  hot : Vector Nat 8
  deriving DecidableEq, Repr

/-- A staging session (R459): the image length, and the blocks received by index. -/
structure Staging where
  bytes : Nat
  blocks : List Nat
  deriving DecidableEq, Repr

/-- An activation under way (R461): its handle, and the parts still to be written in order. -/
structure Activation where
  handle : Option Nat
  left : List Nat
  deriving DecidableEq, Repr

/-- A page written to a companion device (R458): bus, I²C address, target address, bytes. -/
structure CompPage where
  bus : Nat
  dev : Nat
  target : Nat
  bytes : List Byte
  deriving DecidableEq, Repr

/-- A record of TABLES (R458). -/
structure TabRec where
  type : Nat
  data : List Byte
  deriving DecidableEq, Repr

/-- Summit services beside their registers (chapter 21). -/
structure Summit where
  /-- firmware versions of the SUMMIT and HQE parts of the running generation -/
  sumVer : Nat
  hqeVer : Nat
  /-- PCI Subsystem Vendor ID and Subsystem ID (R79, R458) -/
  subsys : Nat
  /-- the records of TABLES that the running firmware applies -/
  tables : List TabRec
  /-- fuses: the SHA-384 of the manifest public key, and the factory fuse of R448 -/
  key : Nat
  factory : Bool
  sensors : Sensors
  stage : Option Staging
  act : Option Activation
  /-- external offset of the staged image of the activation in the journal -/
  actBase : Nat
  /-- pages written to companion devices, in order -/
  companion : List CompPage
  /-- ns left on the confirmation timer -/
  confirmNs : Nat
  /-- the watchdog record: PC at the last expiry; and the handles (index, generation) that the restarted firmware completes -/
  wdogPc : Nat
  /-- an expiry has still to be logged -/
  wdogOwed : Bool
  wdogHandles : List (Nat × Nat)
  deriving DecidableEq, Repr

/-- The durations that a DATAPATH tick count measures: each runs from its last start. -/
inductive Timer where
  /-- watchdog of a handle (R108) -/
  | handle (i : Nat)
  /-- coalescing time of a ring (R84), and SR_FLUSH of a stream ring (R103) -/
  | coal (ring : Nat)
  | flush (ring : Nat)
  /-- completion timeout of a read (R109) -/
  | read (tag : Nat)
  /-- CLOSE_MS of a stream's open block (R181) -/
  | block (stream : Nat)
  /-- PEWAKE_L (R58), and the wake attempt of a STANDBY exit (R59) -/
  | pewake
  | wake
  /-- settling and compare of the spare lane (R141), and the calibration rotation (R433) -/
  | settle
  | compare
  | rotation
  /-- measurement of a lane by a calibration visit (R429, R432, R433) -/
  | visit
  /-- idle line and reply of the patrol link (R403, R406), and its last refresh (R409) -/
  | gap
  | reply
  /-- refresh of a rank, and the temperature poll of a channel (R314) -/
  | refresh (ch rank : Nat)
  | poll (ch : Nat)
  /-- period of a pump loop (R366), and verdict of a gate channel (R376) -/
  | pump (n : Nat)
  | verdict (g : Nat)
  /-- discharge of a converter of a fallback pair (R360), and a self-calibration slot (R362) -/
  | discharge
  | slot
  /-- code-density test of an input (R391), and the last encoder edge of a section (R396) -/
  | density
  | stall (k : Nat)
  /-- frame of the panel (R418) -/
  | frame
  /-- sample set of the die and supply sensors (R444), and the summit watchdog (R443) -/
  | sensors
  | summit
  /-- crystal period of the VBAT mirror (R344) -/
  | mirror
  deriving DecidableEq, Repr

/-- The whole state of the part. -/
structure State where
  /-- Commands waiting, first in, first out. -/
  pending : List Instr
  /-- Register fields, keyed by offset · 32 + lowest bit; an unlisted field holds its reset value. -/
  regs : Store Nat
  /-- DATAPATH ticks counted since power-up: durations are measured in it, whatever PPS does to the time base (R14, R25). -/
  tick : Nat
  /-- Tick at the last start of each timer; a timer that never started is not listed. -/
  timers : List (Timer × Nat)
  /-- Time base (R13). -/
  tb : TimeBase
  /-- Resets, straps, supplies, link and power state. -/
  pw : Power
  /-- Boundary scan (R36). -/
  jtag : Jtag
  /-- Posted writes waiting in their crossings, at most one per island (R69). -/
  xing : List XWrite
  /-- Queue engines. -/
  hq : Hqe
  /-- Acoustic acquisition. -/
  acq : Acq
  /-- Receiver lanes and coarse bank. -/
  rx : Rx
  /-- Phase engine. -/
  ph : Phase
  /-- Reducer and streams. -/
  red : Red
  /-- Slalom sequencer, glacier ring and captures. -/
  slm : Slm
  /-- Raman path. -/
  dts : Dts
  /-- Slow converter. -/
  sad : Sad
  /-- Source drive. -/
  src : Src
  /-- Time-interval unit and skate frame. -/
  tiu : Tiu
  /-- Patrol link and trip outputs. -/
  pat : Pat
  /-- Check-value units CHK0 to CHK3. -/
  chk : Vector Chk 4
  /-- Panel scan-out. -/
  pnl : Pnl
  /-- Calibration. -/
  cal : Cal
  /-- Groomer jobs. -/
  grm : Grm
  /-- Ridge cores 0 to 7. -/
  rdg : Vector Rcore 8
  /-- Memory controller. -/
  mc : Mc
  /-- Cairn sequencer and watch slice. -/
  crn : Crn
  /-- VBAT domain. -/
  vb : Vbat
  /-- Summit services and the update journal. -/
  sum : Summit
  /-- Event log. -/
  log : Log
  /-- Events pulsed in the present tick (R205). -/
  pulses : List Nat
  /-- The 256 event levels of the last evaluated snapshot, bit per ID (R211). -/
  evtPrev : Nat
  /-- Levels of the pins TRIG0 to TRIG7 (bits 0 to 7) and GPIO0 to GPIO7 (bits 8 to 15). -/
  pins : Nat
  /-- The memories of the part. -/
  mem : Memories
  /-- Writes to host memory, in the order made. -/
  hostOut : List HostWrite
  /-- Data writes of commands that wait for their engine (0 or 1) or for the link, in order (R80, R85, R90). -/
  hostHeld : List (Nat × HostWrite)
  /-- Interrupt vectors signalled, in order (R83; summit interrupts in stand-alone operation, R110). -/
  irqOut : List Nat
  /-- What the last read of a register returned. -/
  readOut : Option Nat
  /-- Position in the sequence of free values (Config.freeNat). -/
  free : Nat
  deriving DecidableEq, Repr

def Memories.reset : Memories := ⟨[], [], [], [], []⟩
def TimeBase.reset : TimeBase := ⟨0, 0, 0, 0, 0, 0, 0, []⟩
/-- POR_L low with VBAT just applied: PWR_ON high (R51). -/
def Power.reset : Power :=
  { mode := 0, phase := .held, warm := false, toWatch := false, fresh := false, restart := false, hostResetOwed := false, standby := false, testHold := false, standalone := false,
    porLow := true, perstLow := true, rstOut := false, sumMhz := 25, ref10m := false, liftClk := false,
    holdover := false, brownBlock := false, brownLog := false, vbatPresent := true, pwrOn := true, wakeTries := 0,
    wakeLatch := 0, linkTraining := false, linkUp := false, linkSpeed := 0, linkWidth := 0,
    d3hot := false, crs := true, pewake := false, trans := none, queued := none }
def Jtag.reset : Jtag := ⟨.bypass, false, false, 0⟩
def SrState.reset : SrState := ⟨0, 0, 1, 0, [], none, none, false, 0, 0⟩
def Hqe.reset : Hqe :=
  { handles := [], gens := [], nextOrder := 0, held := [], rr0 := 7, rr1 := 15, reads := [], nextTag := 0,
    coal := [], coalTimers := [], srs := Vector.replicate 8 SrState.reset, pba := [], msix := (List.range 64).map (fun v => (16 * v + 12, 1)), cfg := [], aer := 0, bases := [] }
def Acq.reset : Acq :=
  { plans := [], run := none, handle := none, ring := false, frames := 0, inFrame := false, frameTick := 0, fired := 0, stamps := [],
    sw := none, ending := none, queued := none, silent := false, dac := .idle,
    mbPos := 0, mbCycles := 0, mbSmall := #v[0, 0, 0], mbLast := none }
def Log.reset : Log := ⟨[], 0, 0, [], []⟩
def Rx.reset : Rx :=
  { ticks := [], next := 0, coarse := [], dcbA := Vector.replicate 4 0, updated := Vector.replicate 4 false, sinceClose := 4096,
    pwrX := Vector.replicate 20 0, pwrY := Vector.replicate 20 0, pwrN := 0, releasing := false, compares := 0,
    satRcv := 0, satTla := 0 }
def Phase.reset : Phase :=
  { refs := [], refLens := [], cells := [], anchor := [], phi := [], integ := [], fresh := true, first := true, seen := [],
    stepPend := 0, stepAt := [], nextN := 0, resetHandles := [], steps := 0 }
def Red.reset : Red :=
  { streams := [], cells := [], cellsAt := 0, cellsState := 0, cellsFrame := 0, cellsStamp := 0, cellsAge := 0, bands := [],
    zones := List.replicate 256 0, firnReqs := [], waiting := [] }
def Slm.reset : Slm :=
  { loaded := false, handle := none, asMaster := false, asMember := false, fires := 0, drops := 0, entered := false,
    ptLeft := Vector.replicate 4 0, liftOut := false, liftIn := false, fireLine := false, fireOut := false, segs := [], seq := 0, serial := 0,
    caps := [], nextId := 1, capAt := 0, taken := Vector.replicate 8 none, reads := [], pinSeen := 0, pinLevel := 0, latchNew := false }
def Grm.reset : Grm := ⟨[], []⟩
def MemRecord.reset : MemRecord := ⟨#v[none, none], [], #v[none, none], #v[none, none], #v[false, false]⟩
def Mc.reset : Mc :=
  { poison := [], flight := [], queue := [], turn := #v[0, 0, 0], replies := [], mib := #v[0, 0], order := #v[[], []], spare := #v[none, none], mig := #v[none, none],
    want := #v[none, none], ces := [], owed := Vector.replicate 2 (Vector.replicate 4 0), selfRef := false, freq := none, speed := 2, migAcc := #v[0, 0],
    scrubAt := 0, scrubFrom := 0, scrubRests := false, scrubLast := #v[none, none], setB := false, record := MemRecord.reset }
def Sensors.reset : Sensors :=
  { samples := 0, stamp := 0, limits := Vector.replicate 20 none, hystT := 1, hystV := 1, hot := Vector.replicate 8 0 }
def Summit.reset : Summit :=
  { sumVer := 0, hqeVer := 0, subsys := 0, tables := [], key := Config.keyHash.toNat, factory := false, sensors := Sensors.reset,
    stage := none, act := none, actBase := 0, companion := [], confirmNs := 0,
    wdogPc := 0, wdogOwed := false, wdogHandles := [] }
def TiIn.reset : TiIn := ⟨none, 0, 0, none⟩
def Tiu.reset : Tiu :=
  { ti0Miss := false, frameLaunch := false, ins := Vector.replicate 8 TiIn.reset, starts := Vector.replicate 4 [], edges := Vector.replicate 8 [],
    results := Vector.replicate 4 [], firings := [], done := [], cal := none, secs := Vector.replicate 4 none, waits := Vector.replicate 4 none }
def Dts.reset : Dts :=
  { cfg := none, run := none, done := 0, reverse := false, skipLeft := 0, shots := 0, accRa := [], accRst := [], revRa := [], revRst := [],
    darkRa := 0, darkRst := 0, revDarkRa := 0, revDarkRst := 0, first := none, last := 0, skips := 0, clip := false, shotAt := none,
    windowEnd := none, closeFrom := 0, closeEnd := none, dir := false, doneA := false, doneB := false, newest := none, waiting := [], coils := [] }
def SadCh.reset : SadCh := ⟨0, 0, 0, 0, 0, false, 0⟩
def Sad.reset : Sad := { chans := Vector.replicate 9 SadCh.reset, role := 0, pauses := [], fb := none, cal := none, waits := [] }
def Pump.reset : Pump :=
  { record := none, ramp := 0, rate := 10000, handle := none, toOff := false, samples := [], open_ := 0, short := 0, excess := 0 }
def Gate.reset : Gate := ⟨0, 0, 0, 0, 0, 0, 0⟩
def Src.reset : Src := ⟨Vector.replicate 4 Pump.reset, Vector.replicate 2 Gate.reset, [], Vector.replicate 6 0, false, []⟩
def Pat.reset : Pat :=
  { ridge := Vector.replicate 8 ⟨0, 0⟩, cairn := ⟨0, 0⟩, refreshed := none, stale := true, poll := [], drop := 0, reply := none, sent := [], hold := true,
    mramAddr := 0 }
def Chk.reset : Chk := ⟨0xFFFFFFFF, true⟩
def Pnl.reset : Pnl :=
  { pclk := none, starters := [], stoppers := [], again := none, palettes := [], ofs := 0, inActive := false, line := 0, crc := 0,
    prev := none, same := 0, loggedAt := none, link := [] }
def Cal.reset : Cal :=
  { visit := none, run := none, res := Vector.replicate 4 none, held := 0, measured := 0, sad := false, tiu := false }
def Crn.reset : Crn :=
  { valid := false, prog := [], entry := 0, words := 0, dmem := [], k := Vector.replicate 16 0, z := false, c := false, missed := 0, frames := 0,
    theta := [], startTick := 0, rxTicks := 0, fedTick := 0, lastCh := none }
def Vbat.reset : Vbat :=
  { rtc := 0, alarm := 0, cfg := 0, matched := false, stRtc := false, stTamper := false, tamperTime := 0, ret := Vector.replicate 16 0, writes := [], rtcHi := 0,
    alarmHi := 0, armed := #v[true, true], levels := 0 }
def RLoop.reset : RLoop := ⟨false, 0, 0, 0, false⟩
def RBank.reset : RBank := ⟨Vector.replicate 16 0, Vector.replicate 4 0, Vector.replicate 4 0, 0, RLoop.reset⟩
def RBundle.reset : RBundle :=
  { begun := false, writes := [], dests := [], stores := [], access := none, target := none, loop := none, fin := .go, ecc := 0, banks := [], exc := none }
def Rcore.reset : Rcore :=
  { imem := [], dmem := [], bank := RBank.reset, other := RBank.reset, shd := false, dhi := Vector.replicate 16 0, ahi := Vector.replicate 4 0,
    phi := Vector.replicate 4 0, b := Vector.replicate 8 0, l := Vector.replicate 8 0, l1 := RLoop.reset, rotb := 0, iret := 0, pc := 0, t := 0,
    flight := [], bundle := RBundle.reset, loopDue := false, entry := none, dma := Vector.replicate 4 ⟨0, false⟩, msgs := [], timer := 0,
    used := #v[(0, 0), (0, 0)] }

/-- The part right after a VBAT reset and a cold reset: POR_L low, every register at its reset value, memories listing nothing (log entries 1 to 4). -/
def State.reset : State :=
  {pending := [],
    regs := [],
    tick := 0,
    timers := [],
    tb := TimeBase.reset,
    pw := Power.reset,
    jtag := Jtag.reset,
    xing := [],
    hq := Hqe.reset,
    acq := Acq.reset,
    rx := Rx.reset,
    ph := Phase.reset,
    red := Red.reset,
    slm := Slm.reset,
    dts := Dts.reset,
    sad := Sad.reset,
    src := Src.reset,
    tiu := Tiu.reset,
    pat := Pat.reset,
    chk := Vector.replicate 4 Chk.reset,
    pnl := Pnl.reset,
    cal := Cal.reset,
    grm := Grm.reset,
    rdg := Vector.replicate 8 Rcore.reset,
    mc := Mc.reset,
    crn := Crn.reset,
    vb := Vbat.reset,
    sum := Summit.reset,
    log := Log.reset,
    pulses := [],
    evtPrev := 0,
    pins := 0,
    mem := Memories.reset,
    hostOut := [],
    hostHeld := [],
    irqOut := [],
    readOut := none,
    free := 0 }

end Sys2Proof.Machine
end

