-- ==== Sys2Proof/Machine/Ops.lean ====
section
/-! DEFINITION. The named operations over the state that every chapter uses: register fields, event pulses, interrupts, host and internal memory, the event log, register errors, handles and completion entries. -/

namespace Sys2Proof.Machine

/-! ### Codes of PRB_STATE (R134) -/

def prbIdle : Nat := 0
def prbStarting : Nat := 1
def prbRun : Nat := 2
def prbSwitching : Nat := 3
def prbStopping : Nat := 4

/-! ### Register fields -/

/-- The present value of instance `i` of a field. -/
def State.fld (s : State) (F : Field) (i : Nat := 0) : Nat :=
  Store.read (F.reset i) s.regs (F.key i) % 2 ^ F.width

/-- The state with instance `i` of a field set, the value cut to the field's width. -/
def State.setF (s : State) (F : Field) (v : Nat) (i : Nat := 0) : State :=
  { s with regs := Store.write (F.reset i) s.regs (F.key i) (v % 2 ^ F.width) }

/-- Whether a field is not 0. -/
def State.on (s : State) (F : Field) (i : Nat := 0) : Bool := s.fld F i != 0

/-- A one-bit field set from a Bool. -/
def State.setB (s : State) (F : Field) (b : Bool) (i : Nat := 0) : State := s.setF F (b2n b) i

/-- A counter field advanced by `n`, wrapping (log entry 7). -/
def State.addF (s : State) (F : Field) (n : Nat) (i : Nat := 0) : State := s.setF F (s.fld F i + n) i

/-- A counter field incremented. -/
def State.incF (s : State) (F : Field) (i : Nat := 0) : State := s.addF F 1 i

/-- Bits of a status field set. -/
def State.orF (s : State) (F : Field) (m : Nat) (i : Nat := 0) : State := s.setF F (s.fld F i ||| m) i

/-- Bits of a status field cleared. -/
def State.clrF (s : State) (F : Field) (m : Nat) (i : Nat := 0) : State :=
  s.setF F (s.fld F i - (s.fld F i &&& m)) i

/-- A signed field. -/
def State.fldS (s : State) (F : Field) (i : Nat := 0) : Int := sx F.width (s.fld F i)

/-- A signed field set. -/
def State.setS (s : State) (F : Field) (v : Int) (i : Nat := 0) : State := s.setF F (code F.width v) i

/-- A 64-bit value held as a low and a high word (R73). -/
def State.fld64 (s : State) (lo hi : Field) (i : Nat := 0) : Nat := s.fld lo i + s.fld hi i * 2 ^ 32

/-- A 64-bit value set in its two words. -/
def State.set64 (s : State) (lo hi : Field) (v : Nat) (i : Nat := 0) : State :=
  (s.setF lo v i).setF hi (v / 2 ^ 32) i

/-- Every field of a list back at its reset value, in every instance. -/
def State.resetFields (s : State) (fs : List Field) : State :=
  { s with regs := s.regs.filter (fun kv => !fs.any (fun F => decide (kv.1 % 32 = F.lsb) && (F.index? (kv.1 / 32)).isSome)) }

/-- The fields of a list in one outer instance back at their reset values. -/
def State.resetFieldsOf (s : State) (fs : List Field) (i : Nat) : State :=
  { s with regs := s.regs.filter (fun kv => !fs.any (fun F =>
      decide (kv.1 % 32 = F.lsb) && ((F.index? (kv.1 / 32)).map (· / F.n2) == some i))) }

/-! ### Free values -/

/-- A value that the spec leaves open, below `2^w`, and the state with the sequence advanced. -/
def State.freeVal (s : State) (w : Nat) : Nat × State :=
  (Config.freeNat s.free % 2 ^ w, { s with free := s.free + 1 })

/-- `num/den` as an integer where the spec states no rounding: exact, or a free choice of the two neighbours (log entry 22). -/
def State.freeRound (s : State) (num den : Int) : Int × State :=
  let q := Int.fdiv num den
  if num = q * den then (q, s)
  else
    let (b, s) := s.freeVal 1
    (q + b, s)

/-! ### Power states and the event fabric -/

/-- Codes of PWR_STATUS.STATE (R78). -/
def stBoot : Nat := 0
def stWatch : Nat := 1
def stRun : Nat := 2
def stLoader : Nat := 3
def stStopping : Nat := 4
def stStarting : Nat := 5

/-- The power state. -/
def State.pstate (s : State) : Nat := s.pw.mode

/-- The selected reference is present (R45, R46). -/
def State.refPresent (s : State) : Bool := if s.on Reg.PWR_CLK_CFG_REF_SRC then s.pw.liftClk else s.pw.ref10m

/-- The islands are clocked: out of reset, not in STANDBY. -/
def State.awake (s : State) : Bool := s.pw.phase != .held && !s.pw.standby

/-- Island `n` of R67 is clocked and not held in reset (R51, R53). -/
def State.islUp (s : State) (n : Nat) : Bool := s.awake && !(s.fld Reg.PWR_ISL_RST).testBit n

/-- Island `n` runs: it is up, and WATCH does not stop it (R45). DATAPATH then runs the watch slice alone, TIMING its time base and event counters. -/
def State.runs (s : State) (n : Nat) : Bool := s.islUp n && (s.pw.mode != stWatch || n == 9 || n == 10)

/-- The time base counts: out of a cold reset and out of STANDBY; it keeps counting through a warm reset (R47, R51, R56). -/
def State.timed (s : State) : Bool := !s.pw.standby && (s.pw.phase != .held || s.pw.warm)

/-- SLOW converts: out of its island reset, a cold reset and STANDBY; a warm reset leaves it converting (R51, R56, R363). -/
def State.slowUp (s : State) : Bool := s.timed && !(s.fld Reg.PWR_ISL_RST).testBit 9

/-- LOADER personality (R29, R455). -/
def State.loaderPers (s : State) : Bool := s.fld Reg.SUM_BOOT_STATUS_PERSONALITY == 2

/-- PRB, SRC and DTS are out of reset: DATAPATH is, and the part is not in LOADER (R29). -/
def State.fieldUp (s : State) : Bool := s.islUp 1 && !s.loaderPers

/-- Acoustic acquisition runs. -/
def State.acqRuns (s : State) : Bool := s.acq.run.isSome

/-- The present time base (R13). -/
def State.now (s : State) : Nat := s.tb.now

/-- A timer starts, or starts again, now. -/
def State.timerStart (s : State) (t : Timer) : State := { s with timers := (t, s.tick) :: s.timers.filter (fun x => x.1 != t) }

/-- Timers that start again with one step of progress. -/
def State.timersStart (s : State) (ts : List Timer) : State := ts.foldl State.timerStart s

/-- `n` ticks have passed since a timer started; one that never started holds nothing up. -/
def State.timerDue (s : State) (t : Timer) (n : Nat) : Bool := s.timers.all (fun x => x.1 != t || decide (x.2 + n ≤ s.tick))

/-- Ticks of a microsecond, a millisecond and a second (R45). -/
def ticksUs (n : Nat) : Nat := 200 * n
def ticksMs (n : Nat) : Nat := 200000 * n
def ticksS (n : Nat) : Nat := 200000000 * n

/-- An event pulsed for one tick (R205). -/
def State.pulse (s : State) (id : Nat) : State := { s with pulses := s.pulses ++ [id] }

/-! ### Interrupts and host memory -/

/-- The link carries messages and writes: in L0 and D0, PERST_L high (R52, R80). -/
def State.linkOk (s : State) : Bool := s.pw.linkUp && !s.pw.d3hot && !s.pw.perstLow

/-- Configuration words that the host writes: the register's key, its writable bits and its reset value. -/
structure CfgReg where
  key : Nat
  mask : Nat
  reset : Nat

/-- Command register, BARs, and the control words of the PCI Express, MSI-X and AER capabilities (log entry 66). -/
def cfgCommand : CfgReg := ⟨0x04, 0x547, 0⟩
def cfgDevCtl : CfgReg := ⟨0x100, 0x75FF, 0x2010⟩
def cfgDevCtl2 : CfgReg := ⟨0x101, 0x1000, 0⟩
def cfgMsix : CfgReg := ⟨0x102, 0xC0000000, 0⟩
def cfgAer : CfgReg := ⟨0x103, 0x140, 0⟩

/-- The present value of a configuration register's writable bits. -/
def State.cfgGet (s : State) (r : CfgReg) : Nat := Store.read r.reset s.hq.cfg r.key

/-- The host permits Relaxed Ordering: Enable Relaxed Ordering of Device Control (R103). -/
def State.hostRo (s : State) : Bool := bit (s.cfgGet cfgDevCtl) 4

/-- A message of vector `v` can be sent: the link carries it, MSI-X is enabled, and neither the function mask nor the vector's own mask is set (R80, R81). -/
def State.vecOpen (s : State) (v : Nat) : Bool :=
  s.linkOk && bit (s.cfgGet cfgMsix) 31 && !bit (s.cfgGet cfgMsix) 30 && !bit (s.hq.msix.readLe (16 * v + 12) 1) 0

/-- Vector `v` signalled: a summit interrupt in stand-alone operation (R110); an MSI-X message, or pending until it can be sent (R80, R81, R83). -/
def State.signal (s : State) (v : Nat) : State :=
  if s.pw.standalone || s.vecOpen v then { s with irqOut := s.irqOut ++ [v] }
  else if s.hq.pba.contains v then s
  else { s with hq := { s.hq with pba := s.hq.pba ++ [v] } }

/-- PWR_STATUS.STATE shows `n`: STOPPING and STARTING while a queued transition waits (R78); a change signals vector 0 (R83). -/
def State.showState (s : State) (n : Nat) : State :=
  if s.fld Reg.PWR_STATUS_STATE = n then s else (s.setF Reg.PWR_STATUS_STATE n).signal 0

/-- A power state entered, and shown. -/
def State.setMode (s : State) (n : Nat) : State := { s with pw := { s.pw with mode := n } }.showState n

/-- A change of the controller's state. -/
def State.updMc (s : State) (f : Mc → Mc) : State := { s with mc := f s.mc }

/-- Bytes that channel `c` adds to the space (R301). -/
def State.chBytes (s : State) (c : Nat) : Nat := (s.mc.order.getD c []).length * (s.mc.mib.getD c 0) * 0x100000

/-- Channel of an external offset, and its offset within the channel (R301). -/
def State.chanOf (s : State) (off : Nat) : Nat × Nat :=
  if s.on Reg.MEM_STATUS_INTLV then (off / 256 % 2, off / 512 * 256 + off % 256)
  else if off < s.chBytes 0 then (0, off)
  else (1, off - s.chBytes 0)

/-- Channel, subchannel, rank that a read comes from, and rank that the line belongs to: below the copy pointer of a migration the spare is read (R318). -/
def State.lineAt (s : State) (off : Nat) : Nat × Nat × Nat × Nat :=
  let (c, o) := s.chanOf off
  let rb := s.mc.mib.getD c 0 * 0x100000
  let r := (s.mc.order.getD c []).getD (o / max 1 rb) 0
  let moved := s.mc.mig.getD c none == some r && decide (o % max 1 rb / 64 < s.fld Reg.MEM_MIG_PTR c)
  (c, o / 64 % 2, if moved then (s.mc.spare.getD c none).getD r else r, r)

/-- Bytes of the trained space. -/
def State.spaceBytes (s : State) : Nat := s.fld Reg.MEM_SIZE * 0x100000

/-- The controller gives channel `c` credit: not in self-refresh, no frequency change, fewer than 64 requests in flight (R309, R320, R321). -/
def State.memCredit (s : State) (c : Nat) : Bool :=
  !s.mc.selfRef && s.mc.freq.isNone && decide ((s.mc.flight.filter (fun q => (s.chanOf q.off).1 == c)).length < 64)

/-- Memory takes the bulk accesses of a unit that can wait (R20, R45, R53). -/
def State.memReady (s : State) : Bool := s.runs 2 && s.memCredit 0 && s.memCredit 1

/-- `n` lines read, and `w` written, on channel `c`: counters, and two MEMORY cycles of data each (log entry 26). -/
def State.memCount (s : State) (c n w : Nat) : State :=
  let up (lo hi : Field) (k : Nat) (s : State) : State := s.set64 lo hi (s.fld64 lo hi c + k) c
  up Reg.MEM_BUSY_LO Reg.MEM_BUSY_HI (2 * (n + w)) (up Reg.MEM_WR_LO Reg.MEM_WR_HI w (up Reg.MEM_RD_LO Reg.MEM_RD_HI n s))

/-- The lines that a span of bytes touches. -/
def spanLines (off n : Nat) : List Nat := if n = 0 then [] else (List.range ((off + n - 1) / 64 + 1 - off / 64)).map (off / 64 + ·)

/-- Lines read in bulk: counted, those that carry poison also as such (R311, R323). -/
def State.linesRead (s : State) (off n : Nat) : State :=
  let ls := (spanLines off n).map (fun l => ((s.chanOf (64 * l)).1, s.mc.poison.contains l))
  (List.range 2).foldl (fun (s : State) c =>
    let own := ls.filter (fun x => x.1 == c)
    if own.isEmpty then s else (s.memCount c own.length 0).addF Reg.MEM_POISON_RD (own.filter (·.2)).length c) s

/-- Lines written in bulk: counted, twice on a rank that migrates; a part of a line is read first, or is counted when the line carries poison (R307, R311, R318). -/
def State.linesWritten (s : State) (off n : Nat) (whole : Nat → Bool) : State :=
  let ls := (spanLines off n).map (fun l =>
    let (c, _, _, r) := s.lineAt (64 * l)
    (c, s.mc.mig.getD c none == some r, !whole l, s.mc.poison.contains l))
  (List.range 2).foldl (fun (s : State) c =>
    let own := ls.filter (fun x => x.1 == c)
    let cut := own.filter (·.2.2.1)
    if own.isEmpty then s
    else (s.memCount c (cut.filter (fun x => !x.2.2.2)).length (own.length + (own.filter (·.2.1)).length)).addF Reg.MEM_POISON_WR
      (cut.filter (·.2.2.2)).length c) s

/-- A span covers a line whole. -/
def covers (off n l : Nat) : Bool := decide (off ≤ 64 * l) && decide (64 * l + 64 ≤ off + n)

/-- Bytes stored in external memory at an external offset; a whole line written loses its poison (R311). -/
def State.extStore (s : State) (off : Nat) (bs : List Byte) : State :=
  { s with mem := { s.mem with ext := s.mem.ext.writeN off bs },
           mc := { s.mc with poison := s.mc.poison.filter (fun l => !covers off bs.length l) } }

/-- A unit's bulk write: stored, and its lines counted. -/
def State.extPut (s : State) (off : Nat) (bs : List Byte) : State := (s.linesWritten off bs.length (covers off bs.length)).extStore off bs

/-- External memory read at an external offset. -/
def State.extGet (s : State) (off n : Nat) : List Byte := s.mem.ext.readN off n

/-- A line of the span carries poison. -/
def State.poisoned (s : State) (off n : Nat) : Bool :=
  s.mc.poison.any (fun l => decide (64 * l < off + n) && decide (off < 64 * l + 64))

/-- External offset of the base of region `n`, and its size in bytes (R304). -/
def State.rgnBase (s : State) (n : Nat) : Nat := s.fld Reg.MEM_RGN_EBASE n * 0x100000
def State.rgnSize (s : State) (n : Nat) : Nat := s.fld Reg.MEM_RGN_ESIZE n * 0x100000

/-- An internal address of external memory (R303). -/
def extAddr (a : Nat) : Bool := decide (0x1000000000 ≤ a) && decide (a < 0x3000000000)

/-- `n` bytes at an internal address lie in one memory: summit SRAM, firn memory, or the trained space of external memory (R303). -/
def State.mapped (s : State) (a n : Nat) : Bool :=
  decide (a + n ≤ 0x80000) || (decide (0x40000000 ≤ a) && decide (a + n ≤ 0x40800000)) ||
    (extAddr a && decide (a - 0x1000000000 + n ≤ s.spaceBytes))

/-- The memory at an internal address takes an access now (R309). -/
def State.intReady (s : State) (a : Nat) : Bool := !extAddr a || s.memReady

/-- A write into the internal map; a bus error, which stores nothing, at any other address (R303). -/
def State.intPut (s : State) (a : Nat) (bs : List Byte) : State :=
  if !s.mapped a bs.length then s
  else if extAddr a then s.extPut (a - 0x1000000000) bs
  else if a < 0x80000 then { s with mem := { s.mem with sram := s.mem.sram.writeN a bs } }
  else { s with mem := { s.mem with firn := s.mem.firn.writeN (a - 0x40000000) bs } }

/-- `n` bytes read from the internal map (R303): refused outside it, outstanding while external memory gives no credit, poisoned with a poisoned line. -/
def State.intRead (s : State) (a n : Nat) : HostData × State :=
  if !s.mapped a n then (.refused, s)
  else if !s.intReady a then (.outstanding, s)
  else if extAddr a then
    let o := a - 0x1000000000
    (if s.poisoned o n then .poisoned else .ok (s.extGet o n), s.linesRead o n)
  else if a < 0x80000 then (.ok (s.mem.sram.readN a n), s)
  else (.ok (s.mem.firn.readN (a - 0x40000000) n), s)

/-- `n` bytes that the engines read at a host address: what the host answers; in stand-alone operation what the internal map holds, or the fabric timeout (R110). -/
def State.hostRead (s : State) (a n : Nat) (d : HostData) : HostData × State :=
  if s.pw.standalone && d != .outstanding && d != .timeout then s.intRead a n else (d, s)

/-- A write to host memory; an internal address in stand-alone operation (R110). -/
def State.hostPutRo (s : State) (ro : Bool) (a : Nat) (bs : List Byte) : State :=
  if s.pw.standalone then s.intPut a bs
  else if s.linkOk then { s with hostOut := s.hostOut ++ [⟨a, bs, ro⟩] }
  else s

/-- A write without Relaxed Ordering: everything but stream payload (R79, R92, R103). -/
def State.hostPut (s : State) (a : Nat) (bs : List Byte) : State := s.hostPutRo false a bs

/-! ### Event log (R449 to R451) -/

/-- Severities of a log entry. -/
def sevInfo : Nat := 0
def sevNotice : Nat := 1
def sevWarning : Nat := 2
def sevFault : Nat := 3

/-- An entry appended without a rate limit; every FAULT entry signals vector 0 (R83). -/
def State.logPut (s : State) (sev code src stamp : Nat) (data : List Byte) : State :=
  let e : LogEntry := ⟨s.log.next, sev, code, src, stamp, (data ++ zeros 16).take 16⟩
  let n := (s.log.next + 1) % 2 ^ 24
  let c := min (s.log.count + 1) 32768
  let s := { s with log := { s.log with buf := s.log.buf ++ [e], next := n, count := c } }
  let s := (s.setF Reg.SUM_LOG_NEWEST e.seq).setF Reg.SUM_LOG_OLDEST (wrapSub 24 e.seq (c - 1))
  if sev = sevFault then s.signal 0 else s

/-- The time base stands within 1 ms from a STAMP (R76, R450; log entry 282). -/
def State.inMs (s : State) (stamp : Nat) : Bool := decide (stamp ≤ s.now ∧ s.now < stamp + 1000000)

/-- An entry of this source and code was written less than 1 ms ago (R450). -/
def State.logLimited (s : State) (code src : Nat) : Bool :=
  (s.log.last.find? (fun x => x.1 == src && x.2.1 == code)).any (fun x => s.inMs x.2.2)

/-- An entry under the 1 ms limit per source and code (R450). -/
def State.logEvt (s : State) (sev code src : Nat) (data : List Byte) : State :=
  if s.logLimited code src then s.incF Reg.SUM_LOG_SUPPRESSED
  else
    let s := { s with log := { s.log with last := (src, code, s.now) :: s.log.last.filter (fun y => !(y.1 == src && y.2.1 == code)) } }
    s.logPut sev code src s.now data

/-! ### Register-access errors (R76) -/

/-- INITIATOR code of GLB_ERR_INFO (R77). -/
def iniCode : Initiator → Nat
  | .pcie => 0
  | .summit => 1
  | .ridge c => 2 + c.val
  | .hqe => 10
  | .cairn => 11

/-- The error fields of GLB_ERR_STATUS by bit (R77). -/
def errField : Nat → Field
  | 0 => Reg.GLB_ERR_STATUS_LOCKVIOL
  | 1 => Reg.GLB_ERR_STATUS_RSVD_RD
  | 2 => Reg.GLB_ERR_STATUS_RSVD_WR
  | 3 => Reg.GLB_ERR_STATUS_OVERRUN
  | 4 => Reg.GLB_ERR_STATUS_XTMO
  | _ => Reg.GLB_ERR_STATUS_WIDTH

/-- Error bits of GLB_ERR_STATUS. -/
def errLock : Nat := 0
def errRsvdRd : Nat := 1
def errRsvdWr : Nat := 2
def errOverrun : Nat := 3
def errXtmo : Nat := 4
def errWidth : Nat := 5

/-- Every bit of GLB_ERR_STATUS is 0. -/
def State.noErr (s : State) : Bool :=
  (List.range 6).all (fun b => !s.on (errField b)) && !s.on Reg.GLB_ERR_STATUS_MULTI

/-- One register-access error: capture or MULTI, count, the rate-limited REG_ERR entry, vector 1 (R76, R83, R451). -/
def State.regErr (s : State) (b : Nat) (ini : Initiator) (off : Nat) (wr : Bool) : State :=
  let adr := off % 2 ^ 24 + rowOf off * 2 ^ 24
  let info := iniCode ini + b2n wr * 16 + islandOf off * 256
  let s1 :=
    if s.noErr then
      (((((s.setF Reg.GLB_ERR_ADR_OFFSET off).setF Reg.GLB_ERR_ADR_BLOCK (rowOf off)).setF
        Reg.GLB_ERR_INFO_INITIATOR (iniCode ini)).setB Reg.GLB_ERR_INFO_WRITE wr).setF Reg.GLB_ERR_INFO_ISLAND (islandOf off))
    else s.setF Reg.GLB_ERR_STATUS_MULTI 1
  let s2 := ((s1.setF (errField b) 1).incF Reg.GLB_ERR_COUNT).signal 1
  let dat := leBytes 4 (2 ^ b) ++ leBytes 4 adr ++ leBytes 4 info
  let put (x : State) : State :=
    let x := { x with log := { x.log with lastReg := (b, x.now) :: x.log.lastReg.filter (fun y => y.1 != b) } }
    x.logPut sevWarning 0x0100 0 x.now dat
  match s2.log.lastReg.find? (fun x => x.1 == b) with
  | some x => if s2.inMs x.2 then s2.incF Reg.SUM_LOG_SUPPRESSED else put s2
  | none => put s2

/-- A bit of the AER uncorrectable status set; there is no AER in stand-alone operation (R79, R109, R110). -/
def State.aerSet (s : State) (b : Nat) : State :=
  if s.pw.standalone then s else { s with hq := { s.hq with aer := s.hq.aer ||| 2 ^ b } }

/-- Completion Timeout and Unexpected Completion in the AER uncorrectable status. -/
def aerTimeout : Nat := 14
def aerUnexpected : Nat := 16

/-- A HQE_ERR bit set; it signals vector 1 (R83). -/
def State.hqErr (s : State) (F : Field) : State := (s.setF F 1).signal 1

/-- A fabric or PCIe timeout reported by a block: a WARNING entry, and vector 1 (R471; log entry 284). -/
def State.timeoutEvt (s : State) (pcie : Bool) (src : Nat) : State := (s.logEvt sevWarning (Config.timeoutCode pcie).toNat src []).signal 1

/-! ### Status codes (R106) -/

def stOk : Nat := 0x00
def stPartial : Nat := 0x01
def stBusy : Nat := 0x02
def stInvalid : Nat := 0x03
def stPlanInvalid : Nat := 0x04
def stNoSpace : Nat := 0x05
def stTimeout : Nat := 0x06
def stAborted : Nat := 0x07
def stHwFault : Nat := 0x08
def stLocked : Nat := 0x09
def stNotReady : Nat := 0x0A
def stDataError : Nat := 0x0B
def stAuthFail : Nat := 0x0C
def stStale : Nat := 0x0D

/-! ### Handles and completion entries (R89, R90, R95 to R99) -/

/-- The holder of an index. -/
def State.handle? (s : State) (h : Nat) : Option Handle := s.hq.handles.find? (fun x => x.idx == h)

/-- The holders with the one of index `h` changed. -/
def State.updHandle (s : State) (h : Nat) (f : Handle → Handle) : State :=
  { s with hq := { s.hq with handles := s.hq.handles.map (fun x => if x.idx == h then f x else x) } }

/-- The live handle word of an index: generation and index (R95). -/
def Handle.word (x : Handle) : Nat := x.gen * 256 + x.idx

/-- HQE_STATUS.FREE from the held host-command indices (R85). -/
def State.updFree (s : State) : State :=
  s.setF Reg.HQE_STATUS_FREE (248 - (s.hq.handles.filter (fun x => x.idx < 248)).length)

/-- The index freed (R96). -/
def State.freeHandle (s : State) (h : Nat) : State :=
  ({ s with hq := { s.hq with handles := s.hq.handles.filter (fun x => x.idx != h) } }).updFree

/-- Ring size from LOG2SIZE: 2^L for 4 to `mx`, else 2^4 (R85). -/
def ringSize (l mx : Nat) : Nat := if 4 ≤ l ∧ l ≤ mx then 2 ^ l else 16

/-- Entries of completion queue `c`. -/
def State.cqSize (s : State) (c : Nat) : Nat := ringSize (s.fld Reg.CQ_CFG_LOG2SIZE c) 14

/-- CQ_STATUS.FULL of queue `c` from its indices (R91). -/
def State.cqFull (s : State) (c : Nat) : Bool :=
  (s.fld Reg.CQ_STATUS_TAIL c + s.cqSize c - s.fld Reg.CQ_STATUS_HEAD c) % s.cqSize c == s.cqSize c - 1

/-- HQE_CTL.EN of the engine that serves queue or ring `q` of `half` per engine (R85). -/
def State.engineOn (s : State) (q half : Nat) : Bool :=
  if q < half then s.on Reg.HQE_CTL_EN0 else s.on Reg.HQE_CTL_EN1

/-- The engines can write host memory. -/
def State.canPut (s : State) : Bool := s.pw.standalone || s.linkOk

/-- Queue `c` takes an entry now: enabled, its engine on, not full. -/
def State.cqOpen (s : State) (c : Nat) : Bool :=
  s.on Reg.CQ_CFG_EN c && s.engineOn c 8 && !s.cqFull c && s.canPut

/-- Engine `e` writes host memory now: it is on, and the link carries writes (R80, R85). -/
def State.engineWrites (s : State) (e : Nat) : Bool := s.engineOn (8 * e) 8 && s.canPut

/-- A data write of a command through engine `e`: made now, or kept until the engine and the link take it (R80, R85, R90). -/
def State.dataPut (s : State) (e a : Nat) (bs : List Byte) : State :=
  if s.engineWrites e then s.hostPut a bs else { s with hostHeld := s.hostHeld ++ [(e, ⟨a, bs, false⟩)] }

/-- Kept data writes made in order, by the engines that can write. -/
def State.flushWrites (s : State) : State :=
  (s.hostHeld.filter (fun w => s.engineWrites w.1)).foldl (fun (s : State) w => s.hostPut w.2.addr w.2.bytes)
    { s with hostHeld := s.hostHeld.filter (fun w => !s.engineWrites w.1) }

/-- The base of a ring in effect, by the offset of its low word (R74). -/
def State.ringBase (s : State) (off : Nat) : Nat := Store.read 0 s.hq.bases off

/-- What ring numbers of the coalescing store mean: 0 to 15 completion queues, 16 to 23 stream rings. -/
def ringNo : RingId → Nat
  | .cq c => c.val
  | .sr r => 16 + r.val

/-- One entry written to a ring: its interrupt now, counted, or timed (R84). -/
def State.ringWrote (s : State) (n : Nat) (urgent : Bool) : State :=
  let irq := if n < 16 then s.on Reg.CQ_CFG_IRQ_EN n else s.on Reg.SR_CFG_IRQ_EN (n - 16)
  let cnt := if n < 16 then s.fld Reg.CQ_COAL_COUNT n else s.fld Reg.SR_COAL_COUNT (n - 16)
  let tim := if n < 16 then s.fld Reg.CQ_COAL_TIME_US n else s.fld Reg.SR_COAL_TIME_US (n - 16)
  let vec := if n < 16 then s.fld Reg.CQ_CFG_VEC n else s.fld Reg.SR_CFG_VEC (n - 16)
  if !irq then s
  else
    let k := Store.read 0 s.hq.coal n + 1
    if urgent || cnt ≤ k then
      ({ s with hq := { s.hq with coal := Store.erase s.hq.coal n, coalTimers := s.hq.coalTimers.filter (· != n) } }).signal vec
    else
      let s := if s.hq.coalTimers.contains n then s else s.timerStart (.coal n)
      { s with hq := { s.hq with coal := Store.write 0 s.hq.coal n k,
                                  coalTimers := if tim = 0 || s.hq.coalTimers.contains n then s.hq.coalTimers else s.hq.coalTimers ++ [n] } }

/-- The first 12 bytes of a completion entry (R89, R92). -/
def Cqe.head (e : Cqe) : List Byte :=
  leBytes 2 e.handle ++ leBytes 2 e.tag ++ leBytes 1 e.status ++ leBytes 1 e.detail ++ leBytes 2 e.sq ++ leBytes 4 e.r0

/-- The last 4 bytes of a completion entry, with the PHASE of its slot. -/
def Cqe.tail (e : Cqe) (phase : Nat) : List Byte := leBytes 3 e.r1 ++ leBytes 1 (e.kind + phase * 128)

/-- An entry written into queue `c`: bytes 0 to 11, then 12 to 15 (R92); tail, wrap, phase and FULL advance. -/
def State.cqPut (s : State) (c : Nat) (e : Cqe) : State :=
  let t := s.fld Reg.CQ_STATUS_TAIL c
  let ph := s.fld Reg.CQ_STATUS_PHASE c
  let base := s.ringBase (Reg.CQ_BASE_LO.addr c)
  let t' := (t + 1) % s.cqSize c
  let s := (s.hostPut (base + 16 * t) e.head).hostPut (base + 16 * t + 12) (e.tail ph)
  let s := (s.setF Reg.CQ_STATUS_TAIL t' c).setF Reg.CQ_STATUS_PHASE (if t' = 0 then 1 - ph else ph) c
  let s := s.setB Reg.CQ_STATUS_FULL (s.cqFull c) c
  s.ringWrote c (decide (2 ≤ e.kind) && e.status != stOk)

/-- An entry formed for queue `c`: written when the queue takes it and none waits before it, else kept in order (R99); of the PROGRESS entries kept for one handle only the newest stays. -/
def State.cqForm (s : State) (c : Fin 16) (e : Cqe) (frees : Option Nat) : State :=
  if s.cqOpen c && !s.hq.held.any (fun x => x.cq == c) then
    let s := s.cqPut c e
    match frees with
    | some h => s.freeHandle h
    | none => s
  else
    let keep := if e.kind = 0 then s.hq.held.filter (fun x => !(x.e.kind == 0 && x.e.handle == e.handle)) else s.hq.held
    { s with hq := { s.hq with held := keep ++ [⟨c, e, frees⟩] } }

/-- The SQ word of an entry: head of the submitting queue, and its number (R89). -/
def State.sqWord (s : State) (q : Nat) : Nat := s.fld Reg.SQ_STATUS_HEAD q + q * 4096

/-- The ACCEPT entry of handle `h` formed, with results for a capture (R90, R98). -/
def State.acceptWith (s : State) (h r0 r1 : Nat) : State :=
  match s.handle? h with
  | none => s
  | some x =>
    if x.accepted || x.done then s
    else
      (s.updHandle h (fun y => { y with accepted := true })).cqForm x.cq
        ⟨x.word, x.tag, stOk, 0, s.sqWord x.sq, r0, r1, 1⟩ none

/-- The ACCEPT entry of handle `h` formed. -/
def State.accept (s : State) (h : Nat) : State := s.acceptWith h 0 0

/-- A PROGRESS entry of handle `h` (R90). -/
def State.progress (s : State) (h r0 r1 : Nat) : State :=
  match s.handle? h with
  | none => s
  | some x =>
    if x.done then s
    else ((s.accept h).timerStart (.handle h)).cqForm x.cq ⟨x.word, x.tag, stOk, 0, s.sqWord x.sq, r0 % 2 ^ 32, satN 24 r1, 0⟩ none

/-- Handle `h` ends: DONE when its ACCEPT entry is written, else one ACCEPT_DONE that replaces the pair (R90). The index is freed when the entry is written (R96). -/
def State.complete (s : State) (h st det r0 r1 : Nat) : State :=
  match s.handle? h with
  | none => s
  | some x =>
    if x.done then s
    else
      let waits := s.hq.held.any (fun y => y.cq == x.cq && y.e.handle == x.word && y.e.kind == 1)
      let s := if waits then { s with hq := { s.hq with held := s.hq.held.filter (fun y => y.e.handle != x.word) } } else s
      let k := if x.accepted && !waits then 2 else 3
      (s.updHandle h (fun y => { y with done := true })).cqForm x.cq
        ⟨x.word, x.tag, st, det, s.sqWord x.sq, r0 % 2 ^ 32, satN 24 r1, k⟩ (some h)

/-- A command that stopped a unit completes with the unit's results; an ABORT with RESULT0 = 1 (R105). -/
def State.completeStop (s : State) (h r0 r1 : Nat) : State :=
  if (s.handle? h).any (fun x => x.op == 0x02) then s.complete h stOk 0 1 0 else s.complete h stOk 0 r0 r1

/-- The command of opcode `op` that index `h` holds, released and not yet taken up by its unit. -/
def State.cmd? (s : State) (h op : Nat) : Option Handle :=
  match s.handle? h with
  | some x => if x.op == op && x.started && !x.running && !x.done then some x else none
  | none => none

/-- The command of handle `h` taken up by its unit; it ends later. -/
def State.takeUp (s : State) (h : Nat) : State := ((s.accept h).updHandle h (fun y => { y with running := true })).timerStart (.handle h)

/-- Parameter word `i` of a command (R86). -/
def Handle.p (x : Handle) (i : Nat) : Nat := x.params.getD i 0

/-- The meaning of an event on the state: it always answers a next state. -/
abbrev Out := Host.Outcome State Fault Refusal

/-- The holder that a 16-bit handle word names: held, of that generation, until its DONE entry is written (R96). -/
def State.named (s : State) (w : Nat) : Option Handle :=
  match s.handle? (w % 256) with
  | some x => if x.gen == w / 256 % 256 then some x else none
  | none => none

/-- Results of the entry that ends handle `x` and waits in a full queue (R99). -/
def State.heldResults (s : State) (x : Handle) : Nat × Nat :=
  match s.hq.held.find? (fun y => y.e.handle == x.word && decide (2 ≤ y.e.kind)) with
  | some y => (y.e.r0, y.e.r1)
  | none => (0, 0)

/-- A stop command `h` whose target `y` is held but runs in no unit (log entry 254): a target with its DONE entry waiting has finished, and its results are answered; one that has not begun is cancelled. -/
def State.stopIdle (s : State) (h : Nat) (y : Handle) (both : Bool) : State :=
  if y.done then
    let (r0, r1) := s.heldResults y
    s.complete h stOk 0 r0 (if both then r1 else 0)
  else (s.complete y.idx stAborted 3 0 0).complete h stOk 0 0 0

end Sys2Proof.Machine
end

