-- ==== Sys2Proof/Machine/Operands.lean ====
section
/-! DEFINITION. The operand forms of host commands: the submission entry (R86), the reserved-field checks of R87 and R105, the LOADER refusals of R29, descriptor lists (R88, R496), and the reads of a command's data (R109). -/

namespace Sys2Proof.Machine

/-- A submission entry (R86). -/
structure SubEntry where
  op : Nat
  flags : Nat
  tag : Nat
  wdog : Nat
  res6 : Nat
  ptr0 : Nat
  len0 : Nat
  res20 : Nat
  params : List Nat
  deriving DecidableEq, Repr

/-- The entry that 64 bytes spell (R86). -/
def parseEntry (bs : List Byte) : SubEntry :=
  { op := field bs 0 1, flags := field bs 1 1, tag := field bs 2 2, wdog := field bs 4 2, res6 := field bs 6 2,
    ptr0 := field bs 8 8, len0 := field bs 16 4, res20 := field bs 20 4, params := (List.range 10).map (fun i => field bs (24 + 4 * i) 4) }

/-- What a row of the command table names (R105): the opcode, whether PTR0 and LEN0 are used, the alignment PTR0 needs, and the bits used of P0, P1, …. -/
structure OpRow where
  op : Nat
  ptr : Bool
  align : Nat
  masks : List Nat

/-- A whole parameter word. -/
def pW : Nat := 0xFFFFFFFF

/-- Information, plan, stream, capture and groomer rows of R105. -/
def opRows1 : List OpRow :=
  [⟨0x00, false, 1, []⟩, ⟨0x01, true, 64, []⟩, ⟨0x02, false, 1, [0xFFFF]⟩, ⟨0x03, false, 1, [0xFFFF]⟩,
   ⟨0x04, false, 1, [pW]⟩, ⟨0x10, true, 1, [pW]⟩, ⟨0x11, true, 1, [pW]⟩, ⟨0x12, false, 1, [pW, 1]⟩,
   ⟨0x13, false, 1, [0xFFFF]⟩, ⟨0x14, false, 1, [pW]⟩, ⟨0x15, false, 1, []⟩,
   ⟨0x20, false, 1, [pW, pW, pW, pW, pW, pW]⟩, ⟨0x21, false, 1, [0xFFFF]⟩,
   ⟨0x22, false, 1, [pW, pW, pW, pW, pW, pW, pW]⟩, ⟨0x30, true, 1, []⟩, ⟨0x31, false, 1, [pW, 3]⟩,
   ⟨0x32, false, 1, [0xFFFF]⟩, ⟨0x33, false, 1, [pW, pW, pW, pW, pW, pW, pW]⟩, ⟨0x34, true, 1, [pW]⟩,
   ⟨0x35, false, 1, [pW, pW]⟩, ⟨0x40, true, 16, [pW, pW, pW, 0x330F0F, pW, 0xFFFF]⟩, ⟨0x41, true, 16, [pW, pW, pW, 0, pW]⟩,
   ⟨0x42, false, 1, [pW, pW, pW, pW]⟩, ⟨0x43, false, 1, [pW]⟩]

/-- Raman, slow-converter, calibration, update, log and ridge rows of R105. -/
def opRows2 : List OpRow :=
  [⟨0x50, true, 1, []⟩, ⟨0x51, false, 1, [pW, 1]⟩, ⟨0x52, false, 1, []⟩, ⟨0x53, true, 1, [pW]⟩,
   ⟨0x60, true, 1, [pW]⟩, ⟨0x61, false, 1, []⟩, ⟨0x62, true, 1, [pW]⟩, ⟨0x63, false, 1, [pW]⟩,
   ⟨0x70, false, 1, [pW]⟩, ⟨0x71, false, 1, [1]⟩, ⟨0x72, false, 1, []⟩, ⟨0x73, true, 1, []⟩,
   ⟨0x80, false, 1, [pW]⟩, ⟨0x81, true, 1, [pW]⟩, ⟨0x82, false, 1, []⟩, ⟨0x83, false, 1, []⟩,
   ⟨0x84, false, 1, []⟩, ⟨0x85, false, 1, []⟩, ⟨0x90, true, 1, [pW, pW]⟩,
   ⟨0x91, false, 1, [pW, pW, pW, pW, pW, pW]⟩, ⟨0x92, true, 1, []⟩, ⟨0x93, true, 1, []⟩,
   ⟨0xA0, true, 1, [pW]⟩, ⟨0xA1, false, 1, [pW, pW]⟩, ⟨0xA2, false, 1, [pW]⟩,
   ⟨0xA3, false, 1, [pW, pW, pW, pW, pW, pW, pW, pW, pW]⟩]

/-- Source-drive, time-interval, panel and patrol rows of R105. -/
def opRows3 : List OpRow :=
  [⟨0xB0, true, 1, [pW]⟩, ⟨0xB1, false, 1, [pW, pW, pW]⟩, ⟨0xB2, false, 1, [pW]⟩, ⟨0xB3, false, 1, [pW]⟩,
   ⟨0xC0, false, 1, [pW, pW, pW]⟩, ⟨0xC1, false, 1, [pW]⟩, ⟨0xC2, true, 1, [pW]⟩, ⟨0xC3, false, 1, [0xFFFF]⟩,
   ⟨0xC4, true, 1, [pW]⟩, ⟨0xD0, true, 1, []⟩, ⟨0xD1, true, 1, []⟩, ⟨0xD2, false, 1, [1]⟩,
   ⟨0xE0, false, 1, [pW]⟩, ⟨0xE1, false, 1, [pW, pW, pW]⟩, ⟨0xE2, false, 1, [3]⟩]

/-- The row of an opcode; none when the table does not list it. -/
def opRow (op : Nat) : Option OpRow := (opRows1 ++ opRows2 ++ opRows3).find? (fun r => r.op == op)

/-- Opcodes whose handle ends at once (R105), with one ACCEPT_DONE entry. -/
def opAtOnce (op : Nat) : Bool := op == 0x00 || op == 0x01 || op == 0x03 || op == 0x85

/-- The least byte offset among listed failing offsets. -/
def firstBad (bad : List (Bool × Nat)) : Option Nat := (bad.find? (fun x => x.1)).map (·.2)

/-- The first field of an entry that breaks R86, R87 or R105, by byte offset; HQE_CTO in ms bounds WDOG. -/
def entryBad (e : SubEntry) (cto : Nat) : Option Nat :=
  match opRow e.op with
  | none => some 0
  | some r =>
    let chain := bit e.flags 1
    let al := if chain && r.ptr then max r.align 16 else r.align
    firstBad ([(e.flags / 4 != 0, 1), (e.wdog != 0 && decide (e.wdog * 10 < 10 * cto), 4), (e.res6 != 0, 6),
      (if r.ptr then e.ptr0 % al != 0 else e.ptr0 != 0, 8), (!r.ptr && e.len0 != 0, 16), (e.res20 != 0, 20)] ++
      (List.range 10).map (fun i =>
        let v := e.params.getD i 0
        (v - (v &&& r.masks.getD i 0) != 0, 24 + 4 * i)))

/-- Whether R29 refuses an opcode in LOADER personality: the ranges 0x10 to 0x3F, 0x50 to 0x5F and 0xB0 to 0xBF. -/
def loaderRefuses (op : Nat) : Bool :=
  let g := op / 16
  (1 ≤ g && g ≤ 3) || g == 5 || g == 0xB

/-! ### Reads that a command waits for (R109) -/

/-- A read of command `h` by how it ended: `k` goes on with its bytes, `fail` ends the command with a status and DETAIL, an outstanding read holds a tag. -/
def State.onRead (s : State) (h : Nat) (d : HostData) (fail : Nat → Nat → State) (k : List Byte → State) : State :=
  match d with
  | .ok bs => k bs
  | .outstanding =>
    { s.timerStart (.read s.hq.nextTag) with hq := { s.hq with reads := s.hq.reads ++ [⟨s.hq.nextTag, .cmd h, false⟩], nextTag := s.hq.nextTag + 1 } }
  | .timeout => (fail stTimeout (if s.pw.standalone then 3 else 2)).aerSet aerTimeout
  | .poisoned => fail stDataError (if s.pw.standalone then 2 else 1)
  | .refused => fail stDataError 4

/-! ### Descriptor lists (R88, R496) -/

/-- The walk over the elements read, `left` elements remaining in the present list, `i` already walked; `pd` is the entry offset of the list's address, 8 before that of its count, and `e` how the elements given run out. A LINK element has no LAST (log entry 255). -/
def walkFrom (pd : Nat) (e : BufEnd) : List DescElem → Nat → Nat → List (Nat × Nat) → Buffer
  | [], left, _, acc => (acc.reverse, if left = 0 then .whole else e)
  | d :: ds, left, i, acc =>
    if left = 0 then (acc.reverse, .whole)
    else if 65536 ≤ i then (acc.reverse, .fault (pd + 8) i)
    else if d.link then
      if d.addr % 16 ≠ 0 then (acc.reverse, .fault pd i)
      else if d.len = 0 then (acc.reverse, .fault (pd + 8) i)
      else walkFrom pd e ds d.len (i + 1) acc
    else if d.len = 0 ∨ d.len > 0x1000000 then (acc.reverse, .fault (pd + 8) i)
    else if d.last then (((d.addr, d.len) :: acc).reverse, .whole)
    else walkFrom pd e ds (left - 1) (i + 1) ((d.addr, d.len) :: acc)

/-- A list of `count` elements at `ptr` walked (R496); an output list of no elements names no space. -/
def walkList (pd ptr count : Nat) (output : Bool) (ds : List DescElem) (e : BufEnd) : Buffer :=
  if ptr % 16 ≠ 0 then ([], .fault pd 0)
  else if count = 0 then ([], if output then .whole else .fault (pd + 8) 0)
  else walkFrom pd e ds count 0 []

/-- A list element as its 16 bytes give it (R88). -/
def parseElem (bs : List Byte) : DescElem := ⟨field bs 0 8, field bs 8 4, bit (field bs 12 4) 0, bit (field bs 12 4) 1⟩

/-- A list read from the internal map in stand-alone operation, from address `a` with `left` elements to come; at most `fuel` elements are read. -/
def State.chainAt (s : State) : Nat → Nat → Nat → (List DescElem × BufEnd) × State
  | 0, _, _ => (([], .whole), s)
  | fuel + 1, a, left =>
    if left = 0 then (([], .whole), s)
    else match s.intRead a 16 with
      | (.ok bs, s) =>
        let d := parseElem bs
        if d.last && !d.link then (([d], .whole), s)
        else
          let ((ds, e), s) := if d.link then s.chainAt fuel d.addr d.len else s.chainAt fuel (a + 16) (left - 1)
          ((d :: ds, e), s)
      | (r, s) => (([], .read r), s)

/-- How a read of the host ended, as the end of a list. -/
def listEnd : HostData → BufEnd
  | .ok _ => .whole
  | d => .read d

/-- The elements of a list at `ptr`: those the host gave, or those that the internal map holds (R110); a walk of 65,536 elements is the longest. -/
def State.listAt (s : State) (ptr count : Nat) (d : CmdData) : (List DescElem × BufEnd) × State :=
  if s.pw.standalone && d.data != .outstanding && d.data != .timeout then s.chainAt 65537 ptr count
  else ((d.chain, listEnd d.data), s)

/-- The segments that the internal map takes now, in stand-alone operation; it ends at the first that it does not (R110, R303, R309). -/
def State.clipBuffer (s : State) (b : Buffer) : Buffer :=
  if !s.pw.standalone then b
  else match b.1.find? (fun x => !s.mapped x.1 x.2 || !s.intReady x.1) with
    | some x => (b.1.takeWhile (fun y => s.mapped y.1 y.2 && s.intReady y.1), .read (if s.mapped x.1 x.2 then .outstanding else .refused))
    | none => b

/-- A list of a command, read and walked. -/
def State.listBuffer (s : State) (pd ptr count : Nat) (output : Bool) (d : CmdData) : Buffer × State :=
  let ((ds, e), s) := s.listAt ptr count d
  (walkList pd ptr count output ds e, s)

/-- Whether an entry's CHAIN flag is set (R86). -/
def Handle.chain (x : Handle) : Bool := bit x.flags 1

/-- The queue engine that serves a command. -/
def Handle.engine (x : Handle) : Nat := x.sq.val / 8

/-- The buffer of a command: its descriptor list walked, or PTR0 and LEN0 (R86, R105). -/
def State.buffer (s : State) (x : Handle) (d : CmdData) : Buffer × State :=
  let (b, s) := if x.chain then s.listBuffer 8 x.ptr0 x.len0 false d else (([(x.ptr0, x.len0)], .whole), s)
  (s.clipBuffer b, s)

/-- The bytes of a buffer's segments. -/
def segsLen (segs : List (Nat × Nat)) : Nat := (segs.map (·.2)).sum

/-- Bytes written over segments, in order, through engine `e`. -/
def State.putSegs (s : State) (e : Nat) : List (Nat × Nat) → List Byte → State
  | [], _ => s
  | (a, n) :: segs, bs =>
    if bs.isEmpty then s else (s.dataPut e a (bs.take n)).putSegs e segs (bs.drop n)

/-- The bytes of segments, read from the internal map in stand-alone operation, else as the host answered (R110). -/
def State.readSegs (s : State) (segs : List (Nat × Nat)) (d : HostData) : HostData × State :=
  if !s.pw.standalone || d == .outstanding || d == .timeout then (d, s)
  else segs.foldl (fun (a : HostData × State) x => match a.1 with
    | .ok bs =>
      match a.2.intRead x.1 x.2 with
      | (.ok cs, t) => (.ok (bs ++ cs), t)
      | r => r
    | _ => a) (.ok [], s)

/-- How the end of a buffer ends the command, with the state `t` in place of the present one where it ends at once. -/
def State.bufEnds (s t : State) (h : Nat) : BufEnd → State
  | .whole => t.complete h stNoSpace 0 0 0
  | .fault det i => t.complete h stInvalid det i 0
  | .read r => s.onRead h r (fun st det => t.complete h st det 0 0) (fun _ => s)

/-- A command's data read (R109): `k` continues with the bytes; a fault or a failure ends the command; an outstanding read holds a tag. -/
def State.withData (s : State) (x : Handle) (d : CmdData) (k : State → Nat → List Byte → State) : State :=
  let ((segs, e), s) := s.buffer x d
  if e = .whole then
    let (r, s) := s.readSegs segs d.data
    s.onRead x.idx r (fun st det => s.complete x.idx st det 0 0) (fun bs => k s (segsLen segs) (bs.take (segsLen segs)))
  else s.bufEnds s x.idx e

/-- A command ends that gives `bs` to a buffer (R105, R496). A buffer too short takes nothing: OUT_OF_SPACE. Where a fault or a failed read cuts it short, the good segments before it are written and the command ends with that; a fault beyond the last byte is never reached (log entry 256). -/
def State.giveTo (s : State) (x : Handle) (b : Buffer) (bs : List Byte) (st det r0 r1 : Nat) : State :=
  if bs.length ≤ segsLen b.1 then (s.putSegs x.engine b.1 bs).complete x.idx st det r0 r1
  else s.bufEnds (if b.2 = .whole then s else s.putSegs x.engine b.1 bs) x.idx b.2

/-- A command ends OK that gives `bs` to its buffer, RESULT0 being the bytes. -/
def State.giveData (s : State) (x : Handle) (d : CmdData) (bs : List Byte) : State :=
  let (b, s) := s.buffer x d
  s.giveTo x b bs stOk 0 bs.length 0

/-- A record whose LEN0 differs from its fixed size: INVALID_PARAM, DETAIL 16 (R105). -/
def State.withRecord (s : State) (x : Handle) (d : CmdData) (size : Nat) (k : State → List Byte → State) : State :=
  s.withData x d (fun s n bs => if n = size then k s bs else s.complete x.idx stInvalid 16 0 0)

end Sys2Proof.Machine
end

