-- ==== Sys2Proof/Machine/Plan.lean ====
section
/-! DEFINITION. Tone plans (chapter 05): the plan record and tone entries (R114, R115), the checks of R116 and R117, the quantities of R111 and R112, the stagger slots (R120), and PLAN_LOAD and PLAN_CHECK. -/

namespace Sys2Proof.Machine

/-! ### Quantities of a plan (R111, R112, R120) -/

/-- Lane rate in kHz at depth `d` (R111). -/
def laneRateKhz (d : Nat) : Nat := 400000 / 2 ^ d

/-- Ticks of one lane sample at depth `d` (R111). -/
def sampleTicks (d : Nat) : Nat := 2 ^ (d - 1)

/-- P_k (R112). -/
def Plan.points (p : Plan) (t : Tone) : Nat := p.window / sampleTicks t.depth

/-- T_c,k in ticks (R112). -/
def Tone.chirpTicks (t : Tone) : Nat := t.nc * sampleTicks t.depth

/-- Coarse channel of a lane (R115): j of t = 8·(j − 2) + s. -/
def laneChan (lane : Nat) : Nat := lane / 8 + 2

/-- Slot s of a lane within its coarse channel. -/
def laneSlot (lane : Nat) : Nat := lane % 8

/-- N. -/
def Plan.n (p : Plan) : Nat := p.tones.length

/-- L = FRAME_TICKS / N. -/
def Plan.slotTicks (p : Plan) : Nat := p.frameTicks / p.n

/-- The smallest depth of the plan. -/
def Plan.minDepth (p : Plan) : Nat := (p.tones.map (·.depth)).foldl min 4

/-- P for the smallest depth (R116 RESULT0). -/
def Plan.pMinDepth (p : Plan) : Nat := p.window / sampleTicks p.minDepth

/-- The least P_k of the plan, which bounds captures under ALIGN = 0 (R217). -/
def Plan.pLeast (p : Plan) : Nat := (p.tones.map (fun t => p.points t)).foldl min p.window

/-- Bits of `i` below `b` reversed. -/
def revBits (b i : Nat) : Nat := (List.range b).foldl (fun acc k => acc + i / 2 ^ k % 2 * 2 ^ (b - 1 - k)) 0

/-- The least b with 2^b ≥ n. -/
def ceilLog2 (n : Nat) : Nat := bitLen (n - 1)

/-- Stagger slot s(k) (R120). -/
def Plan.slotOf (p : Plan) (k : Nat) : Nat :=
  match p.stagger with
  | 1 => k
  | 2 => ((p.tones[k]?).map (·.slot)).getD 0
  | _ =>
    let b := ceilLog2 p.n
    ((List.range p.n).filter (fun i => decide (revBits b i < revBits b k))).length

/-- The tone that fires in slot `n`. -/
def Plan.toneAt (p : Plan) (n : Nat) : Option Nat := (List.range p.n).find? (fun k => p.slotOf k == n)

/-! ### The record (R114, R115) -/

/-- The tone entry at a byte offset. -/
def parseTone (bs : List Byte) (o : Nat) : Tone :=
  { lane := field bs o 1, depth := field bs (o + 1) 1, slot := field bs (o + 2) 1, down := bit (field bs (o + 3) 1) 0,
    fKhz := sx 32 (field bs (o + 4) 4), bKhz := field bs (o + 8) 4, nc := field bs (o + 12) 1, edge := field bs (o + 13) 1,
    ampl := field bs (o + 14) 2, shifts := field bs (o + 16) 1 }

/-- The plan a record of N tones spells. -/
def parsePlan (bs : List Byte) : Plan :=
  { stagger := field bs 7 1, frameTicks := field bs 8 4, window := field bs 12 4, winOfs := field bs 16 2,
    lead := field bs 18 1, lag := field bs 19 1, align := bit (field bs 20 1) 0, userRef := bit (field bs 20 1) 1,
    div := field bs 21 1, gauge := field bs 22 1, alignM := field bs 23 1, ng := field bs 24 2,
    tones := (List.range (field bs 6 1)).map (fun k => parseTone bs (64 + 32 * k)) }

/-- The first reserved bit or byte of a record that is not 0, by ascending offset (R116 step 2): no other field of the record has a range without a reason code. -/
def planReservedBad (bs : List Byte) (n : Nat) : Option Nat :=
  let hdr := [(field bs 20 1 / 4 != 0, 20)] ++ (List.range 38).map (fun i => (field bs (26 + i) 1 != 0, 26 + i))
  let tone (k : Nat) : List (Bool × Nat) :=
    let o := 64 + 32 * k
    let d := field bs (o + 1) 1
    let sh := field bs (o + 16) 1
    [(field bs (o + 3) 1 / 2 != 0, o + 3), (decide (d ≤ 3) && sh / 2 ^ (2 * d) != 0, o + 16)] ++
    (List.range 15).map (fun i => (field bs (o + 17 + i) 1 != 0, o + 17 + i))
  firstBad (hdr ++ ((List.range n).map tone).flatten)

/-! ### The rules of R117 -/

/-- The first tone, with its predecessors in the record, that satisfies `bad`. -/
def firstTone (ts : List Tone) (bad : Nat → Tone → List Tone → Bool) : Option Nat :=
  (List.range ts.length).find? (fun k => match ts[k]? with
    | some t => bad k t (ts.take k)
    | none => false)

/-- Channel centre c_j in kHz (R117). -/
def chanCentreKhz (j : Nat) : Int := -1900000 + 200000 * j

/-- T_c,max in ticks. -/
def Plan.tcMax (p : Plan) : Nat := (p.tones.map Tone.chirpTicks).foldl max 0

/-- The SLOT fields are a permutation of 0 to N − 1. -/
def Plan.slotsPerm (p : Plan) : Bool :=
  (List.range p.n).all (fun i => (p.tones.filter (fun t => t.slot == i)).length == 1)

/-- RESULT0 of a plan-wide rule. -/
def planWide : Nat := 0xFFFFFFFF

/-- A plan-wide rule: broken or not. -/
def wide (b : Bool) : Option Nat := if b then some planWide else none

/-- Rules 0x01 to 0x19 of R117 on a parsed plan, in order of code: the code and RESULT0 of the first broken. -/
def Plan.rules (p : Plan) (magicOk : Bool) : List (Nat × Option Nat) :=
  let ts := p.tones
  [(0x01, wide !magicOk), (0x02, wide (p.n == 0 || decide (p.n > 128))),
   (0x03, wide (decide (p.frameTicks < 2000) || decide (p.frameTicks > 200000))),
   (0x04, wide (p.frameTicks % p.n != 0)),
   (0x05, wide (decide (p.window < 64) || decide (p.window > 199600) || decide (p.winOfs > 4095))),
   (0x06, wide (p.lead == 0 || decide (p.lead > 200) || p.lag == 0 || decide (p.lag > 200))),
   (0x07, firstTone ts (fun _ t pre => decide (t.lane > 127) || (match pre.getLast? with
      | some q => decide (t.lane ≤ q.lane)
      | none => false))),
   (0x08, firstTone ts (fun _ t _ => t.depth == 0 || decide (t.depth > 4))),
   (0x09, firstTone ts (fun _ t _ => decide (laneSlot t.lane ≥ 2 ^ (t.depth - 1)))),
   (0x0A, firstTone ts (fun _ t pre => pre.any (fun q => laneChan q.lane == laneChan t.lane && q.depth != t.depth)))] ++
  [(0x0B, firstTone ts (fun _ t _ =>
      decide (2 * (t.fKhz - chanCentreKhz (laneChan t.lane)).natAbs + laneRateKhz t.depth > 200000))),
   (0x0C, firstTone ts (fun _ t pre => pre.any (fun q => laneChan q.lane == laneChan t.lane &&
      decide ((t.fKhz - q.fKhz).natAbs < laneRateKhz t.depth)))),
   (0x0D, firstTone ts (fun _ t _ => decide (10 * t.bKhz > 8 * laneRateKhz t.depth))),
   (0x0E, firstTone ts (fun _ t _ => t.nc == 0 || decide (t.nc > 129))),
   (0x0F, firstTone ts (fun _ t _ => t.ampl == 0 || decide (t.ampl > 4095))),
   (0x10, firstTone ts (fun _ t _ => decide (t.edge > 8))),
   (0x11, wide (decide (p.frameTicks < p.winOfs + p.window + p.tcMax + 400))),
   (0x12, firstTone ts (fun _ t _ => decide (p.slotTicks < p.lead + t.chirpTicks + p.lag + 20))),
   (0x13, wide (decide (p.stagger > 2) || (p.stagger == 2 && !p.slotsPerm))),
   (0x14, if p.div == 1 || p.div == 2 || p.div == 4 then firstTone ts (fun _ t _ => decide (t.nc < 8 * p.div)) else some planWide)] ++
  [(0x15, if p.gauge == 0 then some planWide else firstTone ts (fun _ t _ => decide (p.gauge ≥ p.points t))),
   (0x16, wide (decide (p.ng < 14000) || decide (p.ng > 16000))),
   (0x17, wide (p.align && ts.any (fun t => t.depth != p.minDepth))),
   (0x18, wide (p.align && decide (p.pMinDepth * p.n > 2097152))),
   (0x19, wide (p.align && (decide (p.alignM < 4) || decide (p.alignM > 16))))]

/-- Rule 0x1A (R117): USER_REF with a loaded reference shorter than NC; `refLen` gives the length loaded for a lane. -/
def Plan.refRule (p : Plan) (refLen : Nat → Nat) : Option Nat :=
  if p.userRef then firstTone p.tones (fun _ t _ => decide (refLen t.lane < t.nc)) else none

/-- The first broken rule with its RESULT0. -/
def Plan.firstBroken (p : Plan) (magicOk : Bool) (refLen : Nat → Nat) : Option (Nat × Nat) :=
  ((p.rules magicOk ++ [(0x1A, p.refRule refLen)]).findSome? (fun (x : Nat × Option Nat) => x.2.map (fun r => (x.1, r))))

/-- The outcome of the checks of R116: the plan, or (status, DETAIL, RESULT0). -/
inductive PlanCheck where
  | ok (p : Plan)
  | bad (st det r0 : Nat)
  deriving DecidableEq, Repr

/-- The checks of R116, in its order: LEN0, reserved fields, the rules of R117. -/
def checkPlan (len : Nat) (bs : List Byte) (refLen : Nat → Nat) : PlanCheck :=
  let n := field bs 6 1
  if len < 7 ∨ len ≠ 64 + 32 * n then .bad stInvalid 16 0
  else match planReservedBad bs n with
    | some o => .bad stInvalid 0xFF o
    | none =>
      let p := parsePlan bs
      match p.firstBroken (field bs 0 4 == 0x4E414C50 && field bs 4 2 == 1) refLen with
      | some (c, r) => .bad stPlanInvalid c r
      | none => .ok p

/-- Loaded reference length of a lane (R161). -/
def State.refLen (s : State) (l : Nat) : Nat := Store.read 0 s.ph.refLens l

/-- The stored plan of an ID. -/
def State.plan? (s : State) (id : Nat) : Option Plan := (s.acq.plans.find? (fun x => x.1 == id)).map (·.2)

/-- Whether a plan ID is the running one. -/
def State.runsPlan (s : State) (id : Nat) : Bool := match s.acq.run with
  | some (i, _) => i == id
  | none => false

/-- A plan stored under its ID, replacing that ID's (R116). -/
def State.storePlan (s : State) (id : Nat) (p : Plan) : State :=
  { s with acq := { s.acq with plans := s.acq.plans.filter (fun x => x.1 != id) ++ [(id, p)] } }

/-- The stored plan of an ID removed. -/
def State.removePlan (s : State) (id : Nat) : State :=
  { s with acq := { s.acq with plans := s.acq.plans.filter (fun x => x.1 != id) } }

/-- PLAN_LOAD of plan ID `id` once its record is read (R116). -/
def State.planLoad (s : State) (h id len : Nat) (bs : List Byte) : State :=
  match checkPlan len bs (fun l => s.refLen l) with
  | .bad st det r0 => s.complete h st det r0 0
  | .ok p =>
    if (s.plan? id).isNone && decide (8 ≤ s.acq.plans.length) then s.complete h stNoSpace 0 0 0
    else (s.storePlan id p).complete h stOk 0 p.pMinDepth p.n

/-- PLAN_LOAD (R116): plan ID 0 is refused (R105), the running plan is kept, LEN0 = 0 removes. -/
def execPlanLoad (h : Fin 256) (d : CmdData) (s : State) : Out :=
  match s.cmd? h.val 0x10 with
  | none => .next s
  | some x =>
    let id := x.p 0
    .next (if id = 0 then s.complete h.val stInvalid 24 0 0
      else if s.runsPlan id then s.complete h.val stBusy 0x12 0 0
      else if x.len0 = 0 ∧ !x.chain then (s.removePlan id).complete h.val stOk 0 0 0
      else s.withData x d (fun s len bs => s.planLoad h.val id len bs))

/-- PLAN_CHECK (R116): the same checks, nothing stored. -/
def execPlanCheck (h : Fin 256) (d : CmdData) (s : State) : Out :=
  match s.cmd? h.val 0x11 with
  | none => .next s
  | some x =>
    .next (if x.p 0 = 0 then s.complete h.val stInvalid 24 0 0
      else s.withData x d (fun s len bs => match checkPlan len bs (fun l => s.refLen l) with
        | .bad st det r0 => s.complete h.val st det r0 0
        | .ok p => s.complete h.val stOk 0 p.pMinDepth p.n))

end Sys2Proof.Machine
end

