-- ==== Sys2Proof/Machine/Real.lean ====
section
/-! DEFINITION. Real functions in fixed point with 120 fraction bits: sine and cosine of rational turns, arctangent to a 16-bit phase, square root, natural logarithm and exponential; and the operations of IEEE 754 double precision, each rounded once to 53 bits (log entries 9, 96). -/

namespace Sys2Proof.Machine

/-- The fixed-point unit 2^120. -/
def fx1 : Int := 2 ^ 120

/-- π in fixed point. -/
def fxPi : Int := 4175892906503776358826876457663557747

/-- ln 2 in fixed point. -/
def fxLn2 : Int := 921350637599661305226344307672478455

/-- Product of two fixed-point numbers. -/
def fxMul (a b : Int) : Int := divRne (a * b) fx1

/-- Sum of the series t, t·f(k), … with term k + 2 = −term · x² / ((k+1)(k+2)), `fuel` terms: sine from t = x, k = 1; cosine from t = 1, k = 0. -/
def trigSeries (x2 : Int) : Nat → Nat → Int → Int
  | 0, _, _ => 0
  | fuel + 1, k, t => t + trigSeries x2 fuel (k + 2) (-(divRne (fxMul t x2) ((k + 1) * (k + 2) : Nat)))

/-- (cos φ, sin φ) for a small fixed-point angle. -/
def cosSinSmall (x : Int) : Int × Int :=
  let x2 := fxMul x x
  (trigSeries x2 20 0 fx1, trigSeries x2 20 1 x)

/-- (cos, sin) of 2π·num/den in fixed point, by octant. -/
def cosSinTurn (num : Int) (den : Nat) : Int × Int :=
  let t := num % den
  let o := 8 * t / den
  let r := 8 * t - o * den
  let q := fxPi / 4
  let (c, s) := cosSinSmall (if o % 2 = 0 then divRne (q * r) den else q - divRne (q * r) den)
  match o.toNat with
  | 0 => (c, s)
  | 1 => (s, c)
  | 2 => (-s, c)
  | 3 => (-c, s)
  | 4 => (-c, -s)
  | 5 => (-s, -c)
  | 6 => (s, -c)
  | _ => (c, -s)

/-- round-half-even of k·cos(2π·num/den). -/
def rcos (k : Int) (num : Int) (den : Nat) : Int := divRne (k * (cosSinTurn num den).1) fx1

/-- round-half-even of k·sin(2π·num/den). -/
def rsin (k : Int) (num : Int) (den : Nat) : Int := divRne (k * (cosSinTurn num den).2) fx1

/-- The vector (re, im) lies at or past the angle 2π·num/den within half a turn counter-clockwise. -/
def pastAngle (re im num : Int) (den : Nat) : Bool :=
  let (c, s) := cosSinTurn num den
  decide (0 ≤ im * c - re * s)

/-- Binary search for the phase of (re, im) in [lo, lo + 2^fuel) sixteen-bit units, to the nearest unit. -/
def phaseSearch (re im : Int) : Nat → Int → Int
  | 0, lo => lo
  | fuel + 1, lo =>
    let mid := lo + 2 ^ fuel
    if pastAngle re im (2 * mid - 1) 131072 then phaseSearch re im fuel mid else phaseSearch re im fuel lo

/-- rhe(atan2(im, re)·65,536/2π) mod 65,536 for (re, im) ≠ 0 (R166): the search starts on the quarter turn that holds the vector. -/
def phase16 (re im : Int) : Nat :=
  let lo : Int := if 0 < re ∧ 0 ≤ im then 0 else if re ≤ 0 ∧ 0 < im then 16384 else if re < 0 then 32768 else 49152
  ((phaseSearch re im 15 lo) % 65536).toNat

/-- floor of the square root, bit by bit. -/
def isqrtGo (x : Nat) : Nat → Nat → Nat
  | 0, r => r
  | fuel + 1, r => if (r + 2 ^ fuel) * (r + 2 ^ fuel) ≤ x then isqrtGo x fuel (r + 2 ^ fuel) else isqrtGo x fuel r

/-- floor(√x). -/
def isqrt (x : Nat) : Nat := isqrtGo x (bitLen x / 2 + 1) 0

/-- √x in fixed point, for a fixed-point x ≥ 0. -/
def fxSqrt (x : Int) : Int := (isqrt (x.toNat * 2 ^ 120) : Int)

/-- Series of 2·artanh: t + t·z²/3 + t·z⁴/5 + …, `fuel` terms. -/
def atanhSeries (z2 : Int) : Nat → Nat → Int → Int
  | 0, _, _ => 0
  | fuel + 1, k, t => divRne t k + atanhSeries z2 fuel (k + 2) (fxMul t z2)

/-- ln of num/den in fixed point, for positive num and den. -/
def fxLn (num den : Nat) : Int :=
  let e : Int := (bitLen num : Int) - (bitLen den : Int)
  let n : Int := if 0 ≤ e then num else num * 2 ^ e.natAbs
  let d : Int := if 0 ≤ e then den * 2 ^ e.natAbs else den
  let z := divRne ((n - d) * fx1) (n + d)
  e * fxLn2 + 2 * atanhSeries (fxMul z z) 60 1 z

/-- Series of exp: 1 + x + x²/2! + …, `fuel` terms from term k. -/
def expSeries (x : Int) : Nat → Nat → Int → Int
  | 0, _, _ => 0
  | fuel + 1, k, t => t + expSeries x fuel (k + 1) (divRne (fxMul t x) (k + 1 : Nat))

/-- exp of a fixed-point number. -/
def fxExp (x : Int) : Int :=
  let k := divRne (x * fx1) fxLn2
  let n := divRne k fx1
  let y := expSeries (x - n * fxLn2) 40 0 fx1
  if 0 ≤ n then y * 2 ^ n.natAbs else divRne y (2 ^ n.natAbs)

/-! ### IEEE 754 double precision (R160, R352, R369, R398) -/

/-- A number of the double format, as m·2^e with |m| ≤ 2^53. The values of this chip lie far inside the exponent range. -/
structure Dbl where
  m : Int
  e : Int
  deriving DecidableEq, Repr

/-- The double nearest to num/den, halves to even; den > 0. -/
def Dbl.ofRat (num : Int) (den : Nat) : Dbl :=
  let k : Int := (bitLen num.natAbs : Int) - (bitLen den : Int) - 53
  let at_ (k : Int) : Int := if 0 ≤ k then divRne num (den * 2 ^ k.natAbs) else divRne (num * 2 ^ k.natAbs) den
  -- |num/den| / 2^k lies in (2^52, 2^54)
  if den * 2 ^ 53 * 2 ^ k.toNat ≤ num.natAbs * 2 ^ (-k).toNat then ⟨at_ (k + 1), k + 1⟩ else ⟨at_ k, k⟩

/-- The integer part of its power of two over a common denominator: value = num/den. -/
def Dbl.num (a : Dbl) : Int := a.m * 2 ^ a.e.toNat

/-- The denominator, a power of two. -/
def Dbl.den (a : Dbl) : Nat := 2 ^ (-a.e).toNat

def Dbl.ofInt (n : Int) : Dbl := .ofRat n 1
def Dbl.add (a b : Dbl) : Dbl := .ofRat (a.num * b.den + b.num * a.den) (a.den * b.den)
def Dbl.neg (a : Dbl) : Dbl := ⟨-a.m, a.e⟩
def Dbl.sub (a b : Dbl) : Dbl := a.add b.neg
def Dbl.mul (a b : Dbl) : Dbl := .ofRat (a.num * b.num) (a.den * b.den)

/-- a/b for b ≠ 0. -/
def Dbl.div (a b : Dbl) : Dbl := .ofRat (a.num * b.den * (if b.num < 0 then -1 else 1)) (a.den * b.num.natAbs)

/-- √a for a ≥ 0, to 160 fraction bits and a sticky bit, then rounded. -/
def Dbl.sqrt (a : Dbl) : Dbl :=
  let x := a.num.toNat * 2 ^ 320
  let r := isqrt (x / a.den)
  .ofRat ((2 * r + (if r * r * a.den = x then 0 else 1) : Nat) : Int) (2 ^ 161)

/-- a ≤ b. -/
def Dbl.le (a b : Dbl) : Bool := decide (a.num * b.den ≤ b.num * a.den)

/-- The nearest integer, halves to even. -/
def Dbl.rhe (a : Dbl) : Int := divRne a.num a.den

/-- The greatest integer not above. -/
def Dbl.floor (a : Dbl) : Int := Int.fdiv a.num a.den

/-- The fixed-point value. -/
def Dbl.toFx (a : Dbl) : Int := divRne (a.num * fx1) a.den

/-- The double nearest to π. -/
def Dbl.pi : Dbl := ⟨884279719003555 * 2 ^ 3, -51⟩

/-- (cos, sin) of a fixed-point angle in radians, by the nearest quarter turn. -/
def cosSinRad (x : Int) : Int × Int :=
  let k := divRne (2 * x) fxPi
  let (c, s) := cosSinSmall (divRne (2 * x - k * fxPi) 2)
  match (k % 4).toNat with
  | 0 => (c, s)
  | 1 => (-s, c)
  | 2 => (-c, -s)
  | _ => (s, -c)

def Dbl.cos (a : Dbl) : Dbl := .ofRat (cosSinRad a.toFx).1 (2 ^ 120)
def Dbl.sin (a : Dbl) : Dbl := .ofRat (cosSinRad a.toFx).2 (2 ^ 120)

/-- ln a for a > 0. -/
def Dbl.ln (a : Dbl) : Dbl := .ofRat (fxLn a.num.toNat a.den) (2 ^ 120)

end Sys2Proof.Machine
end

