-- ==== Sys2Proof/Machine/Dts.lean ====
section
/-! DEFINITION. The Raman temperature path (chapter 08): its configuration record, shots, averages and their close, result slots, and DTS_CONFIG, DTS_START, DTS_STOP and DTS_READ. -/

namespace Sys2Proof.Machine

/-! ### Gate channels (R372, R378) -/

/-- A gate opens for `ticks` ticks: its opening is counted and its interval noted (R372, R380). -/
def State.gateOpens (s : State) (g ticks : Nat) : State :=
  let s := { s with src := { s.src with gates := vmod s.src.gates g (fun (x : Gate) => { x with start := s.tick, stop := s.tick + ticks }) } }
  s.set64 Reg.SRC_GATE_OPEN_LO Reg.SRC_GATE_OPEN_HI (s.fld64 Reg.SRC_GATE_OPEN_LO Reg.SRC_GATE_OPEN_HI g + 1) g

/-- The gate is open in the present tick. -/
def State.gateOpen (s : State) (g : Nat) : Bool := (s.src.gates[g]?).any (fun x => decide (x.start ≤ s.tick) && decide (s.tick < x.stop))

/-- The gate closes at once. -/
def State.gateShut (s : State) (g : Nat) : State :=
  { s with src := { s.src with gates := vmod s.src.gates g (fun (x : Gate) => { x with stop := min x.stop s.tick }) } }

/-- The fault code of the lowest latched channel of a mask in the bit order of R378. -/
def State.latchedCode (s : State) (mask : Nat) : Option Nat :=
  (((List.range 6).filter (fun i => mask.testBit i)).map (fun i => s.src.codes.getD i 0)).filter (· != 0) |>.min?

/-! ### Configuration record (R194) -/

/-- The configuration that a record spells. -/
def parseDts (bs : List Byte) : DtsCfg :=
  { bin := field bs 6 1, dual := bit (field bs 7 1) 0, oneCoil := bit (field bs 7 1) 1, points := field bs 8 4, shotOfs := field bs 12 4,
    shotTicks := field bs 16 4, pulse := field bs 20 2, winOfs := field bs 22 2, darkN := field bs 24 1, ref1 := field bs 25 1,
    ref2 := field bs 26 1, gpio := field bs 27 1, ref1First := field bs 28 4, ref1Count := field bs 32 2, ref2Count := field bs 34 2,
    ref2First := field bs 36 4, dalpha := sx 32 (field bs 40 4), gamma := field bs 44 4, resultOfs := field bs 48 4,
    slots := field bs 52 1, skip := field bs 53 1, loop := field bs 56 4, ng := field bs 60 2 }

/-- W_R: ticks of the window (R189). -/
def DtsCfg.window (c : DtsCfg) : Nat := c.points * 2 ^ c.bin

/-- Bytes of a record of a result slot (R199). -/
def DtsCfg.recBytes (c : DtsCfg) : Nat := if c.dual then 20 else 12

/-- Slot size (R199). -/
def DtsCfg.slotBytes (c : DtsCfg) : Nat := (64 + c.recBytes * c.points + 63) / 64 * 64

/-- Firn offset of slot `k`: 0 A, 1 B. -/
def DtsCfg.slotOfs (c : DtsCfg) (k : Nat) : Nat := c.resultOfs + k * c.slotBytes

/-- The offset of the first field outside its range, reserved bytes included (R116, R194). -/
def dtsBad (bs : List Byte) : Option Nat :=
  let c := parseDts bs
  let range (first count : Nat) : Bool := decide (c.points < first + count)
  firstBad [(field bs 0 4 != 0x4E4D5241, 0), (field bs 4 2 != 1, 4), (decide (2 < c.bin), 6), (decide (3 < field bs 7 1), 7),
    (c.points == 0 || decide ((if c.dual then 65536 else 131072) < c.points), 8), (decide (199999 < c.shotOfs), 12),
    (decide (c.shotTicks < 2000) || decide (200000 < c.shotTicks), 16), (decide (c.pulse < 2) || decide (4000 < c.pulse), 20),
    (decide (4095 < c.winOfs), 22), (decide (c.darkN < 16) || decide (64 < c.darkN), 24), (decide (7 < c.ref1), 25),
    (!c.oneCoil && (decide (7 < c.ref2) || c.ref2 == c.ref1), 26),
    (if c.dual then decide (31 < c.gpio) else c.gpio != 0xFF, 27), (decide (c.points ≤ c.ref1First), 28),
    (c.ref1Count == 0 || decide (1024 < c.ref1Count) || range c.ref1First c.ref1Count, 32),
    (c.ref2Count == 0 || decide (1024 < c.ref2Count) || range c.ref2First c.ref2Count, 34), (decide (c.points ≤ c.ref2First), 36),
    (decide (c.gamma < 100000) || decide (2000000 < c.gamma), 44),
    (c.resultOfs % 64 != 0 || decide (0x800000 < c.resultOfs + c.slots * c.slotBytes), 48), (c.slots != 1 && c.slots != 2, 52),
    (c.skip == 0, 53), (field bs 54 2 != 0, 54), (c.dual && (decide (c.loop < 2) || decide (c.points < c.loop)), 56),
    (decide (c.ng < 14000) || decide (16000 < c.ng), 60), (field bs 62 2 != 0, 62)]

/-- DTS_CONFIG (R194): BUSY while an average runs; a good record replaces the one held, and no slot holds a complete average. -/
def execDtsConfig (h : Fin 256) (d : CmdData) (s : State) : Out :=
  match s.cmd? h.val 0x50 with
  | none => .next s
  | some x =>
    .next (if s.dts.run.isSome then s.complete h.val stBusy 0x51 0 0
      else s.withRecord x d 64 (fun s bs =>
        match dtsBad bs with
        | some o => s.complete h.val stInvalid 0xFF o 0
        | none =>
          let s := { s with dts := { s.dts with cfg := some (parseDts bs), doneA := false, doneB := false, newest := none } }
          (((s.setF Reg.DTS_STATUS_STATE 1).setF Reg.DTS_STATUS_SLOT 0).setF Reg.DTS_STATUS_REF_BAD 0).complete h.val stOk 0 0 0))

/-! ### Fit and shots (R190, R191) -/

/-- Codes of DTS_STATUS.STATE (R204). -/
def dtsUnconfigured : Nat := 0
def dtsIdle : Nat := 1
def dtsAveraging : Nat := 2
def dtsSkipping : Nat := 3
def dtsClosing : Nat := 4

/-- The configuration fits the shot period (R191). -/
def State.dtsFits (s : State) (c : DtsCfg) : Bool :=
  match s.acq.run with
  | some (_, p) => decide (c.darkN + c.winOfs + c.window ≤ p.frameTicks) && decide (c.shotOfs < p.frameTicks)
  | none => decide (c.darkN + c.winOfs + c.window ≤ c.shotTicks)

/-- Empty accumulators of an average, and the measures taken over it. -/
def Dts.cleared (t : Dts) : Dts :=
  { t with reverse := false, shots := 0, accRa := [], accRst := [], revRa := [], revRst := [], darkRa := 0, darkRst := 0,
           revDarkRa := 0, revDarkRst := 0, first := none, last := 0, skips := 0, clip := false, coils := [] }

/-- A shot instant has come (R18, R190): SHOT_OFS ticks after the start of a frame, the dark frame of a switch included, while acquisition runs; else SHOT_TICKS after the last one, or at once for the first, as soon as its dark window fits behind the previous shot's (R191). None without a running DTS_START handle. -/
def State.shotDue (s : State) (r : DtsRun) (c : DtsCfg) : Bool :=
  r.handle.isSome &&
    (if s.acq.run.isSome then
      (s.acq.inFrame || s.acq.sw.any (·.dark)) && s.tick == s.acq.frameTick + c.shotOfs && s.dts.shotAt != some s.tick
    else s.dts.shotAt.all (fun t => decide (t + c.shotTicks ≤ s.tick)) && s.dts.windowEnd.all (fun e => decide (e + c.darkN ≤ s.tick)))

/-- The last window of a leg of 2^L shots has ended (R193, R198). -/
def State.legOver (s : State) (r : DtsRun) : Bool :=
  decide (s.dts.shots = 2 ^ r.l) && decide (s.fld Reg.DTS_STATUS_STATE = dtsAveraging) && s.dts.windowEnd.all (fun e => decide (e ≤ s.tick))

/-- Ticks of the close (R193): POINTS · 5 ns + 20 µs, the points term twice in dual-ended mode. -/
def DtsCfg.closeTicks (c : DtsCfg) : Nat := (if c.dual then 2 else 1) * c.points + 4000

/-- DTS_READ commands that wait for the slot being written: copied when it holds a complete average, else NOT_READY (R201). -/
def State.dtsServe (s : State) : State :=
  s.dts.waiting.foldl (fun (s : State) w =>
    match s.dts.cfg with
    | none => s.complete w.handle stNotReady 6 0 0
    | some c =>
      if (if w.sel = 0 then s.dts.doneA else s.dts.doneB) then
        match s.handle? w.handle with
        | some x => s.giveTo x w.buf (s.mem.firn.readN (c.slotOfs w.sel) c.slotBytes) stOk 0 c.slotBytes 0
        | none => s
      else s.complete w.handle stNotReady 6 0 0)
    { s with dts := { s.dts with waiting := [] } }

/-- The average ends without a result: its sums go, GATE_T stays closed, and its handle completes (R191, R202). -/
def State.dtsEnd (s : State) (status det r0 : Nat) : State :=
  match s.dts.run with
  | none => s
  | some r =>
    let s := { s with dts := { s.dts.cleared with run := none, dir := false, skipLeft := 0 } }.gateShut 1
    let s := (((s.setF Reg.DTS_STATUS_STATE dtsIdle).setF Reg.DTS_STATUS_REVERSE 0).setF Reg.DTS_SHOTS 0).dtsServe
    match r.handle with
    | some h => s.complete h status det r0 0
    | none => s

/-- The fit checked again when acquisition starts, stops or switches (R191): an average that no longer fits ends with ABORTED, DETAIL 3. -/
def State.dtsRefit (s : State) : State :=
  match s.dts.run, s.dts.cfg with
  | some _, some c => if s.dtsFits c then s else s.dtsEnd stAborted 3 s.dts.done
  | _, _ => s

/-- The level on GPIO_DIR (R198, R204): the direction of the average, or DTS_GPIO_TEST.DIR while none runs. -/
def State.dirPin (s : State) : Bool := if s.dts.run.isSome then s.dts.dir else s.on Reg.DTS_GPIO_TEST

/-- DTS_START (R30, R191, R202, R378). -/
def execDtsStart (h : Fin 256) (s : State) : Out :=
  match s.cmd? h.val 0x51 with
  | none => .next s
  | some x =>
    let l := x.p 0
    .next (if l < 10 ∨ 22 < l then s.complete h.val stInvalid 24 0 0
      else if s.dts.run.isSome then s.complete h.val stBusy 0x51 0 0
      else match s.dts.cfg with
        | none => s.complete h.val stNotReady 6 0 0
        | some c =>
          match s.latchedCode 0x20 with
          | some k => s.complete h.val stHwFault k 0 0
          | none =>
            if !s.on Reg.PWR_STATUS_REF_LOCK then s.complete h.val stNotReady 1 0 0
            else if !s.dtsFits c then s.complete h.val stInvalid 0xFE 0 0
            else
              let s := s.takeUp h.val
              ((({ s with dts := { s.dts.cleared with run := some ⟨some h.val, l, bit (x.p 1) 0⟩, done := 0, skipLeft := 0, dir := false,
                                                      shotAt := none, closeEnd := none } }.setF Reg.DTS_STATUS_STATE dtsAveraging).setF
                Reg.DTS_STATUS_REVERSE 0).setF Reg.DTS_SHOTS 0))

/-- DTS_STOP (R202): the average in progress goes; the running handle completes with ABORTED and the averages completed. -/
def execDtsStop (h : Fin 256) (s : State) : Out :=
  match s.cmd? h.val 0x52 with
  | none => .next s
  | some _ => .next ((s.complete h.val stOk 0 0 0).dtsEnd stAborted 1 s.dts.done)

/-- Codes added point by point into accumulators, `n` consecutive codes to a point (R189, R192). -/
def addPoints (n : Nat) : Nat → List Nat → List Nat → List Nat
  | 0, _, _ => []
  | p + 1, acc, codes => (acc.headD 0 + (codes.take n).sum) :: addPoints n p acc.tail (codes.drop n)

/-- A code of 0 or 16,383 is a clip (R188). -/
def clipped (codes : List Nat) : Bool := codes.any (fun c => c == 0 || c == 16383)

/-- The shot's codes added into the accumulators of the present leg (R192). -/
def Dts.accumulate (t : Dts) (c : DtsCfg) (now : Nat) (dRa dRst ra rst : List Nat) : Dts :=
  let n := 2 ^ c.bin
  let t := { t with shots := t.shots + 1, first := t.first.or (some now), last := now, clip := t.clip || clipped ra || clipped rst }
  if t.reverse then
    { t with revRa := addPoints n c.points t.revRa ra, revRst := addPoints n c.points t.revRst rst,
             revDarkRa := t.revDarkRa + dRa.sum, revDarkRst := t.revDarkRst + dRst.sum }
  else
    { t with accRa := addPoints n c.points t.accRa ra, accRst := addPoints n c.points t.accRst rst,
             darkRa := t.darkRa + dRa.sum, darkRst := t.darkRst + dRst.sum }

/-- The mean of the dark codes shown, its rounding left open (R204). -/
def State.showDark (s : State) (F : Field) (codes : List Nat) : State :=
  let (m, s) := s.freeRound codes.sum (max 1 codes.length : Nat)
  s.setF F m.toNat

/-- A shot fires at the present time and its codes are counted, skipped or accumulated; one that falls after the last shot of the leg, or in the close, is only fired (R190, R193). -/
def State.dtsShot (s : State) (r : DtsRun) (c : DtsCfg) (k : RamanCodes) : State :=
  let cut (n : Nat) (xs : List (BitVec 14)) : List Nat := (xs.take n).map (·.toNat)
  let (dRa, dRst, ra, rst) := (cut c.darkN k.darkRa, cut c.darkN k.darkRst, cut c.window k.ra, cut c.window k.rst)
  let s := s.gateOpens 1 c.pulse
  let s := { s with dts := { s.dts with windowEnd := some (s.tick + c.winOfs + c.window) } }
  let s := if clipped ra then s.incF Reg.DTS_CLIP_RA else s
  let s := if clipped rst then s.incF Reg.DTS_CLIP_RST else s
  let s := (s.showDark Reg.DTS_DARK_RA dRa).showDark Reg.DTS_DARK_RST dRst
  let st := s.fld Reg.DTS_STATUS_STATE
  if st = dtsSkipping then
    let left := s.dts.skipLeft - 1
    ({ s with dts := { s.dts with skipLeft := left } }.setF Reg.DTS_STATUS_STATE (if left = 0 then dtsAveraging else dtsSkipping))
  else if st = dtsAveraging ∧ s.dts.shots < 2 ^ r.l ∧ s.dts.closeEnd.all (fun e => decide (e + c.darkN ≤ s.tick)) then
    let s := { s with dts := s.dts.accumulate c s.now dRa dRst ra rst }
    s.setF Reg.DTS_SHOTS s.dts.shots
  else s

/-- RAMAN_SHOT (R190, R191): the shot of an instant that has come; given up when its dark window begins before the end of the previous shot's window. -/
def execRamanShot (k : RamanCodes) (s : State) : Out :=
  match s.dts.run, s.dts.cfg with
  | some r, some c =>
    if !s.shotDue r c then .next s
    else
      let s := { s.timersStart (r.handle.toList.map .handle) with dts := { s.dts with shotAt := some s.tick } }
      if s.dts.windowEnd.any (fun e => decide (s.tick < e + c.darkN)) then
        .next ({ s with dts := { s.dts with skips := s.dts.skips + 1 } }.incF Reg.DTS_SKIP)
      else .next (s.dtsShot r c k)
  | _, _ => .next s

/-- `n` free 14-bit codes: what a lane gives where the outside supplies none. -/
def freeCodes (from_ n : Nat) : List (BitVec 14) := (List.range n).map (fun i => BitVec.ofNat 14 (Config.freeNat (from_ + i)))

/-- The codes of a shot that comes due with none supplied (log entry 263). -/
def DtsCfg.freeShot (c : DtsCfg) (n : Nat) : RamanCodes :=
  ⟨freeCodes n c.darkN, freeCodes (n + c.darkN) c.darkN, freeCodes (n + 2 * c.darkN) c.window, freeCodes (n + 2 * c.darkN + c.window) c.window⟩

/-- What the Raman path does of itself in the present tick: the end of a leg, the close, its end, and the shots (R190, R193, R198). -/
def State.ramanNow (s : State) : Option Instr :=
  match s.dts.run, s.dts.cfg with
  | some r, some c =>
    if s.legOver r then some (if c.dual && !s.dts.reverse then .dtsLegEnd else .dtsCloseStart)
    else if decide (s.fld Reg.DTS_STATUS_STATE = dtsClosing) && decide (s.dts.closeFrom + c.closeTicks ≤ s.tick) then some .dtsCloseEnd
    else if s.shotDue r c then some (.ramanShot (c.freeShot s.free))
    else none
  | _, _ => none

/-- DTS_LEG_END (R198): after 2^L forward shots the direction output goes high and the reverse leg opens with its discards; after the reverse leg it goes low again. -/
def execDtsLegEnd (s : State) : Out :=
  match s.dts.run, s.dts.cfg with
  | some r, some c =>
    if c.dual && s.legOver r then
      if s.dts.reverse then .next ({ s with dts := { s.dts with dir := false } }.setF Reg.DTS_STATUS_REVERSE 0)
      else .next ((({ s with dts := { s.dts with dir := true, reverse := true, shots := 0, skipLeft := c.skip } }.setF
        Reg.DTS_STATUS_REVERSE 1).setF Reg.DTS_SHOTS 0).setF Reg.DTS_STATUS_STATE dtsSkipping)
    else .next s
  | _, _ => .next s

/-! ### Close (R193, R195 to R201) -/

/-- DTS_CLOSE_START (R193, R201): the last window of the average has ended; the slot is marked as being written. -/
def execDtsCloseStart (s : State) : Out :=
  match s.dts.run, s.dts.cfg with
  | some r, some c =>
    if s.legOver r && (!c.dual || s.dts.reverse) then
      let k := s.fld Reg.DTS_STATUS_SLOT
      let s := { s with dts := { s.dts with dir := false, closeFrom := s.tick, doneA := s.dts.doneA && k != 0, doneB := s.dts.doneB && k != 1 },
                        mem := { s.mem with firn := s.mem.firn.writeLe (c.slotOfs k + 4) 4 0xFFFFFFFF } }
      .next ((s.setF Reg.DTS_STATUS_REVERSE 0).setF Reg.DTS_STATUS_STATE dtsClosing)
    else .next s
  | _, _ => .next s

/-- X'[p] of a lane with the LOW mark (R193). -/
def darkCorrected (c : DtsCfg) (dark : Nat) (acc : List Nat) : List (Nat × Bool) :=
  let sub := divRne ((dark * 2 ^ c.bin : Nat) : Int) (c.darkN : Int)
  acc.map (fun (a : Nat) => let x := (a : Int) - sub; (x.toNat, decide (x < 0)))

/-- The four lists of X' of an average: anti-Stokes and Stokes, forward and reverse. -/
structure DtsSums where
  asF : List (Nat × Bool)
  stF : List (Nat × Bool)
  asR : List (Nat × Bool)
  stR : List (Nat × Bool)

/-- The dark-corrected sums of the average. -/
def Dts.sums (t : Dts) (c : DtsCfg) : DtsSums :=
  ⟨darkCorrected c t.darkRa t.accRa, darkCorrected c t.darkRst t.accRst, darkCorrected c t.revDarkRa t.revRa,
    darkCorrected c t.revDarkRst t.revRst⟩

/-- Σ X' over a range of points. -/
def rangeSum (xs : List (Nat × Bool)) (first count : Nat) : Nat := (((xs.drop first).take count).map (·.1)).sum

/-- ln R over forward points `first` … of `count`, in 120-bit fixed point; none where a sum is 0 (R195, R198). -/
def lnRange (c : DtsCfg) (u : DtsSums) (first count : Nat) : Option Int :=
  let one (a b : Nat) : Option Int := if a = 0 ∨ b = 0 then none else some (fxLn a b)
  let f := one (rangeSum u.asF first count) (rangeSum u.stF first count)
  if !c.dual then f
  else if c.loop < first + count then none
  else
    let rf := c.loop - first - count
    match f, one (rangeSum u.asR rf count) (rangeSum u.stR rf count) with
    | some a, some b => some (divRne (a + b) 2)
    | _, _ => none

/-- T_i of a coil as a sum of results in mK and their count; none when the channel is not converting (R196). -/
def Dts.coil (t : Dts) (ch : Nat) : Option (Int × Nat) :=
  let rs := t.coils.filter (fun r => r.ch == ch && t.first.any (fun f => decide (f ≤ r.stamp)) && decide (r.stamp ≤ t.last))
  if rs.isEmpty || rs.any (·.bad) then none else some ((rs.map (·.temp)).sum, rs.length)

/-- 1/T in 1/K, fixed point, of a mean of `n` results with sum `m` mK; a free value where the mean is 0. -/
def State.invTemp (s : State) (m : Int) (n : Nat) : Int × State :=
  if m = 0 then
    let (v, s) := s.freeVal 121
    (sx 121 v, s)
  else (if m < 0 then -(divRne (1000 * n * fx1) (-m)) else divRne (1000 * n * fx1) m, s)

/-- A value written into a header that the spec leaves open there. -/
def State.headMk (s : State) : Option (Int × Nat) → Int × State
  | some (m, n) => s.freeRound m n
  | none => let (v, s) := s.freeVal 32; ((v : Int), s)

/-- Δα·(z_a − z_b) in fixed point, where `d2` is twice the difference of the point numbers (R189, R197); 0 when dual-ended. -/
def DtsCfg.alphaZ (c : DtsCfg) (d2 : Int) : Int :=
  if c.dual then 0 else divRne (c.dalpha * d2 * 2 ^ c.bin * 10217 * 14671 * fx1) (40000000000000 * c.ng)

/-- Twice the mean point number of a range. -/
def mid2 (first count : Nat) : Int := 2 * first + count

/-- What the close takes into every point: ln R_1, 1/T_1 and γ in fixed point; none when the result set is REF_INVALID. -/
structure DtsFit where
  ln1 : Int
  inv1 : Int
  gamma : Int

/-- TEMP and RATIO_BAD of forward point `p` (R195, R197, R198). -/
def dtsTemp (c : DtsCfg) (u : DtsSums) (fit : Option DtsFit) (p : Nat) : Nat × Bool :=
  let fwdBad := rangeSum u.asF p 1 == 0 || rangeSum u.stF p 1 == 0
  if c.dual && decide (c.loop ≤ p) then (0, fwdBad)
  else match lnRange c u p 1 with
    | none => (0, true)
    | some lr =>
      match fit with
      | none => (0, false)
      | some f =>
        let inv := f.inv1 + divRne ((f.ln1 - lr - c.alphaZ (2 * p + 1 - mid2 c.ref1First c.ref1Count)) * fx1) f.gamma
        if inv ≤ 0 ∨ fx1 * 100 > 102398 * inv then (0, true) else ((divRne (64 * fx1) inv).toNat, false)

/-- A record of the result slot (R200). -/
def dtsRecord (c : DtsCfg) (u : DtsSums) (fit : Option DtsFit) (sh p : Nat) : List Byte :=
  let v (xs : List (Nat × Bool)) (i : Nat) : Nat := (shrRne ((xs.getD i (0, false)).1 : Int) sh).toNat
  let low (xs : List (Nat × Bool)) (i : Nat) : Bool := (xs.getD i (0, false)).2
  let (temp, bad) := dtsTemp c u fit p
  let q := c.loop - 1 - p
  let rev := c.dual && decide (p < c.loop)
  let lowAny := low u.asF p || low u.stF p || (rev && (low u.asR q || low u.stR q))
  leBytes 4 (v u.asF p) ++ leBytes 4 (v u.stF p) ++
    (if c.dual then leBytes 4 (if rev then v u.asR q else 0) ++ leBytes 4 (if rev then v u.stR q else 0) else []) ++
    leBytes 2 temp ++ leBytes 2 (b2n lowAny + 2 * b2n bad)

/-- γ of the average in fixed point, and GAMMA_CFG (R197). -/
def dtsGamma (c : DtsCfg) (ln1 ln2 inv1 inv2 : Int) (t1 t2 : Int × Nat) : Int × Bool :=
  let cfgG := divRne (c.gamma * fx1) 1000
  let near := decide ((t1.1 * t2.2 - t2.1 * t1.2).natAbs < 5000 * t1.2 * t2.2)
  let den := inv2 - inv1
  if c.oneCoil || near || den == 0 then (cfgG, true)
  else
    let num := (ln1 - ln2 + c.alphaZ (mid2 c.ref1First c.ref1Count - mid2 c.ref2First c.ref2Count)) * fx1
    let g := if den < 0 then divRne (-num) (-den) else divRne num den
    if g < 100 * fx1 ∨ 2000 * fx1 < g then (cfgG, true) else (g, false)

/-- ln R_i of a coil; a free value where a sum over its range is 0 or the range leaves the loop. -/
def State.coilLn (s : State) (c : DtsCfg) (u : DtsSums) (first count : Nat) : Int × State :=
  match lnRange c u first count with
  | some v => (v, s)
  | none => let (v, s) := s.freeVal 32; (sx 32 v * 2 ^ 96, s)

/-- The result slot of the average as bytes, and whether it carries REF_INVALID. -/
def State.dtsSlot (s : State) (c : DtsCfg) (l : Nat) : (List Byte × Bool) × State :=
  let u := s.dts.sums c
  let (ln1, s) := s.coilLn c u c.ref1First c.ref1Count
  let (ln2, s) := s.coilLn c u c.ref2First c.ref2Count
  let t1 := s.dts.coil c.ref1
  let t2 := if c.oneCoil then t1 else s.dts.coil c.ref2
  let refBad := t1.isNone || t2.isNone
  let (a1, a2) := (t1.getD (0, 1), t2.getD (0, 1))
  let (inv1, s) := s.invTemp a1.1 a1.2
  let (inv2, s) := s.invTemp a2.1 a2.2
  let (g, gcfg) := dtsGamma c ln1 ln2 inv1 inv2 a1 a2
  let fit := if refBad then none else some (DtsFit.mk ln1 inv1 g)
  let (m1, s) := s.headMk t1
  let (m2, s) := if c.oneCoil then ((0 : Int), s) else s.headMk t2
  let (mg, s) := if refBad then s.headMk none else if gcfg then ((c.gamma : Int), s) else s.freeRound (g * 1000) fx1
  let sh := l + c.bin - 18
  let low := (u.asF ++ u.stF ++ u.asR ++ u.stR).any (·.2)
  let flags := b2n refBad + 2 * b2n (if refBad then c.oneCoil else gcfg) + 4 * b2n c.dual + 8 * b2n s.dts.clip + 16 * b2n low +
    c.bin * 256 + sh * 4096
  let head := leBytes 4 0x52534452 ++ leBytes 4 (s.dts.done + 1) ++ leBytes 8 (s.dts.first.getD 0) ++ leBytes 8 s.dts.last ++
    leBytes 4 (2 ^ l) ++ leBytes 4 c.points ++ leBytes 4 (code 32 m1) ++ leBytes 4 (code 32 m2) ++ leBytes 4 (code 32 mg) ++
    leBytes 4 flags ++ leBytes 4 (code 32 (divRne (ln1 * 2 ^ 24) fx1)) ++ leBytes 4 (code 32 (divRne (ln2 * 2 ^ 24) fx1)) ++
    leBytes 4 s.dts.skips
  let recs := (List.range c.points).flatMap (dtsRecord c u fit sh)
  ((withCrc head ++ recs, refBad), s)

/-- DTS_CLOSE_END (R193, R201, R202): the slot is complete, DTS_DONE pulses, the handle has its PROGRESS entry, and a continuous average goes on. -/
def execDtsCloseEnd (s : State) : Out :=
  match s.dts.run, s.dts.cfg with
  | some r, some c =>
    if s.fld Reg.DTS_STATUS_STATE ≠ dtsClosing ∨ s.tick < s.dts.closeFrom + c.closeTicks then .next s
    else
      let k := s.fld Reg.DTS_STATUS_SLOT
      let ((bytes, refBad), s) := s.dtsSlot c r.l
      let n := s.dts.done + 1
      let s := { s with mem := { s.mem with firn := s.mem.firn.writeN (c.slotOfs k) bytes },
                        dts := { s.dts.cleared with done := n, closeEnd := some s.tick, newest := some k, doneA := s.dts.doneA || k == 0,
                                                    doneB := s.dts.doneB || k == 1, skipLeft := if c.dual then c.skip else 0 } }
      let s := (((s.setF Reg.DTS_SEQ n).setB Reg.DTS_STATUS_REF_BAD refBad).setF Reg.DTS_STATUS_SLOT (if c.slots = 2 then 1 - k else 0)).setF
        Reg.DTS_SHOTS 0
      let s := (s.pulse 0xC0).dtsServe
      let s := match r.handle with
        | some h => s.progress h n k
        | none => s
      if r.cont then .next (s.setF Reg.DTS_STATUS_STATE (if c.dual then dtsSkipping else dtsAveraging))
      else
        let s := { s with dts := { s.dts with run := none, skipLeft := 0 } }.setF Reg.DTS_STATUS_STATE dtsIdle
        .next (match r.handle with
          | some h => s.complete h stOk 0 1 0
          | none => s)
  | _, _ => .next s

/-- DTS_READ (R201): P0 0 the newest complete slot, 1 A, 2 B; it waits while that slot is being written. -/
def execDtsRead (h : Fin 256) (d : CmdData) (s : State) : Out :=
  match s.cmd? h.val 0x53 with
  | none => .next s
  | some x =>
    let writing : Option Nat := if s.fld Reg.DTS_STATUS_STATE = dtsClosing then some (s.fld Reg.DTS_STATUS_SLOT) else none
    let sel : Option Nat := match x.p 0 with
      | 0 => s.dts.newest
      | n + 1 => some n
    .next (if 2 < x.p 0 then s.complete h.val stInvalid 24 0 0
      else match s.dts.cfg, sel with
        | some c, some k =>
          if some k = writing then
            let (b, s) := s.buffer x d
            if b.2 = .whole ∧ c.slotBytes ≤ segsLen b.1 then
              let s := s.takeUp h.val
              { s with dts := { s.dts with waiting := s.dts.waiting ++ [⟨h.val, k, b⟩] } }
            else s.giveTo x b (zeros c.slotBytes) stOk 0 c.slotBytes 0
          else if (if k = 0 then s.dts.doneA else s.dts.doneB) then
            s.giveData x d (s.mem.firn.readN (c.slotOfs k) c.slotBytes)
          else s.complete h.val stNotReady 6 0 0
        | _, _ => s.complete h.val stNotReady 6 0 0)

end Sys2Proof.Machine
end

