-- ==== Sys2Proof/Machine/Chunk.lean ====
section
/-! DEFINITION. The groomer's quantiser, predictor, match search, Rice coder and chunk format, to the bit (R227 to R238). -/

namespace Sys2Proof.Machine

/-! ### Elements (R227) -/

/-- Width W of an element type. -/
def elemW (elem : Nat) : Nat := if elem % 2 = 0 then 16 else 32

/-- Size e of an element type in bytes. -/
def elemBytes (elem : Nat) : Nat := elemW elem / 8

/-- The type is signed: int16 and int32. -/
def elemSigned (elem : Nat) : Bool := decide (elem < 2)

/-- wrap_b(x). -/
def wrapB (b : Nat) (x : Int) : Int := sx b (code b x)

/-- A value read as its element type: W-bit wrapping, signed or unsigned. -/
def wrapElem (elem : Nat) (x : Int) : Int :=
  if elemSigned elem then wrapB (elemW elem) x else (code (elemW elem) x : Int)

/-- The elements a byte string holds. -/
def elemsOf (elem : Nat) (bs : List Byte) : List Int :=
  let e := elemBytes elem
  (List.range (bs.length / e)).map (fun i => wrapElem elem (field bs (i * e) e))

/-- The bytes of values. -/
def elemBytesOf (elem : Nat) (xs : List Int) : List Byte :=
  (xs.map (fun x => leBytes (elemBytes elem) (code (elemW elem) x))).flatten

/-! ### The quantiser (R228, R229) -/

/-- One value through the quantiser: q, y and the new error term. -/
def quantOne (elem k : Nat) (feedback : Bool) (x eps : Int) : Int × Int × Int :=
  if k = 0 then (x, x, eps)
  else
    let v := if feedback then x + eps else x
    let r := shrRne v k
    let q := wrapB (elemW elem - k) r
    (q, wrapElem elem (q * 2 ^ k), if feedback then v - r * 2 ^ k else eps)

/-- A run of values in element order, element `i` using ε of column `i mod stride`: q, y and the error terms. -/
def quantRun (elem k : Nat) (feedback : Bool) (stride : Nat) (xs : List Int) (eps : List Int) : List Int × List Int × List Int :=
  let r := xs.zipIdx.foldl (fun (acc : List Int × List Int × Array Int) (xi : Int × Nat) =>
    let c := xi.2 % stride
    let (q, y, e) := quantOne elem k feedback xi.1 (acc.2.2.getD c 0)
    (q :: acc.1, y :: acc.2.1, acc.2.2.setIfInBounds c e)) ([], [], (eps ++ List.replicate (stride - eps.length) 0).toArray)
  (r.1.reverse, r.2.1.reverse, r.2.2.toList)

/-! ### Predictor and window (R231, R232) -/

/-- What a chunk's coding depends on, beside the values. -/
structure ChunkFmt where
  elem : Nat
  k : Nat
  pred : Nat
  level : Nat
  stride : Nat
  deriving DecidableEq, Repr

/-- Width b of a quantised value. -/
def ChunkFmt.b (f : ChunkFmt) : Nat := elemW f.elem - f.k

/-- Distance to the reference. -/
def ChunkFmt.dist (f : ChunkFmt) : Nat := if f.pred = 0 then f.stride else 1

/-- Elements of the window. -/
def windowLen (elem : Nat) : Nat := 32768 / elemBytes elem

/-- D_max. -/
def ChunkFmt.dMax (f : ChunkFmt) : Nat := windowLen f.elem - f.dist

/-- DEPTH by level (R233). -/
def matchDepth (level : Nat) : Nat := if level = 0 then 0 else 2 ^ (level - 1)

/-- The symbol of a value against its reference. -/
def symOf (b : Nat) (q ref : Int) : Nat :=
  let r := wrapB b (q - ref)
  if 0 ≤ r then (2 * r).toNat else (-2 * r - 1).toNat

/-- The residual of a symbol. -/
def resOf (u : Nat) : Int := if u % 2 = 0 then (u / 2 : Nat) else -((u / 2 : Nat) : Int) - 1

/-- The symbols of all values of an array: a reference before its start is 0. -/
def symbols (f : ChunkFmt) (q : Array Int) : Array Nat :=
  ((List.range q.size).map (fun i => symOf f.b (q.getD i 0) (if i < f.dist then 0 else q.getD (i - f.dist) 0))).toArray

/-! ### Rice coder (R234) -/

/-- The least s below b with N·2^s ≥ A, or b − 1. -/
def riceS (b a n : Nat) : Nat := ((List.range b).find? (fun s => decide (a ≤ n * 2 ^ s))).getD (b - 1)

/-- The state after a literal. -/
def riceNext (a n u : Nat) : Nat × Nat := if n + 1 = 64 then ((a + u) / 2, 32) else (a + u, n + 1)

/-- The `n` bits of a number, most significant first. -/
def bitsOf (n x : Nat) : List Bool := (List.range n).map (fun i => x.testBit (n - 1 - i))

/-- The bits of a literal. -/
def riceBits (b a n u : Nat) : List Bool :=
  let s := riceS b a n
  if u / 2 ^ s < 24 then List.replicate (u / 2 ^ s) true ++ [false] ++ bitsOf s u
  else List.replicate 24 true ++ bitsOf b u

/-! ### Match search (R233) -/

/-- h(i). -/
def hashKey (u : Array Nat) (i : Nat) : Nat :=
  (u.getD i 0 ^^^ (u.getD (i + 1) 0 * 8) ^^^ (u.getD (i + 2) 0 * 64) ^^^ (u.getD (i + 3) 0 * 512)) % 4096

/-- The run of equal symbols from `c` and `i`, at most `n`. -/
def runLen (u : Array Nat) (c i : Nat) : Nat → Nat
  | 0 => 0
  | n + 1 => if u.getD c 0 = u.getD i 0 then runLen u (c + 1) (i + 1) n + 1 else 0

/-- The best match at `i` among the chain's first candidates: (run, distance). -/
def bestMatch (u : Array Nat) (i dMax most : Nat) : Nat → List Nat → Nat × Nat → Nat × Nat
  | 0, _, best => best
  | _, [], best => best
  | d + 1, c :: cs, best =>
    if dMax < i - c then best
    else
      let r := runLen u c i most
      bestMatch u i dMax most d cs (if best.1 < r then (r, i - c) else best)

/-- Chains by key, newest position first. -/
abbrev Chains := Array (List Nat)

/-- A position inserted at the head of its chain. -/
def chainPut (u : Array Nat) (ch : Chains) (i : Nat) : Chains :=
  let h := hashKey u i
  ch.setIfInBounds h (i :: ch.getD h [])

/-- The chains of the positions before `start`, with chunk boundaries every `per` elements and position 0 at element `base` of the job. -/
def chainsBefore (u : Array Nat) (start base per : Nat) : Chains :=
  (List.range start).foldl (fun (ch : Chains) i =>
    if (base + i) / per = (base + i + 3) / per ∧ i + 3 < start then chainPut u ch i else ch) (Array.replicate 4096 [])

/-- The coder's progress: position, chains, Rice state and the bits written, newest first. -/
structure Coder where
  i : Nat
  ch : Chains
  a : Nat
  n : Nat
  out : List Bool

/-- A position reached by the coder, inserted when its key lies inside the chunk. -/
def Coder.reach (c : Coder) (u : Array Nat) (stop : Nat) : Coder :=
  { c with i := c.i + 1, ch := if c.i + 3 < stop then chainPut u c.ch c.i else c.ch }

/-- `n` positions reached. -/
def Coder.skip (c : Coder) (u : Array Nat) (stop : Nat) : Nat → Coder
  | 0 => c
  | n + 1 => (c.reach u stop).skip u stop n

/-- One token (R233, R234, R236). -/
def Coder.token (c : Coder) (f : ChunkFmt) (u : Array Nat) (stop : Nat) : Coder :=
  let m := if f.level = 0 ∨ stop < c.i + 4 then (0, 0)
    else bestMatch u c.i f.dMax (min 259 (stop - c.i)) (matchDepth f.level) (c.ch.getD (hashKey u c.i) []) (0, 0)
  if 4 ≤ m.1 then
    let nb := bitLen m.2
    let tok := [true] ++ bitsOf 8 (m.1 - 4) ++ bitsOf 4 (nb - 1) ++ bitsOf (nb - 1) m.2
    ({ c with out := tok.reverse ++ c.out }).skip u stop m.1
  else
    let v := u.getD c.i 0
    let tok := (if f.level = 0 then [] else [false]) ++ riceBits f.b c.a c.n v
    let (a, n) := riceNext c.a c.n v
    ({ c with a := a, n := n, out := tok.reverse ++ c.out }).reach u stop

/-- Tokens until the chunk ends, at most `fuel`. -/
def Coder.run (c : Coder) (f : ChunkFmt) (u : Array Nat) (stop : Nat) : Nat → Coder
  | 0 => c
  | fuel + 1 => if c.i < stop then (c.token f u stop).run f u stop fuel else c

/-- Eight bits, most significant first, as a byte. -/
def byteOfBits (bs : List Bool) : Byte := BitVec.ofNat 8 (bs.foldl (fun a b => 2 * a + b2n b) 0)

/-- Bits packed into `n` bytes. -/
def packBits : Nat → List Bool → List Byte
  | 0, _ => []
  | n + 1, bs => byteOfBits ((bs ++ List.replicate 8 false).take 8) :: packBits n (bs.drop 8)

/-! ### The chunk (R235 to R237) -/

/-- FMT. -/
def ChunkFmt.word (f : ChunkFmt) (indep stored plain : Bool) : Nat :=
  f.elem + f.k * 4 + f.pred * 64 + b2n indep * 128 + b2n stored * 256 + b2n plain * 512 + f.level * 1024

/-- A chunk written: its bytes, the Rice state after it, and whether it is stored. -/
structure ChunkOut where
  bytes : List Byte
  a : Nat
  n : Nat
  stored : Bool

/-- The chunk of the values `q` after the history `hist` (empty for an INDEP chunk); `base` is the job's element number of the first of `hist`. -/
def encodeChunk (f : ChunkFmt) (indep : Bool) (hist q : List Int) (base a n : Nat) : ChunkOut :=
  let all := (hist ++ q).toArray
  let u := symbols f all
  let per := 65536 / elemBytes f.elem
  let c := (Coder.mk hist.length (chainsBefore u hist.length base per) a n []).run f u all.size q.length
  let inBytes := q.length * elemBytes f.elem
  let coded := padTo 4 (packBits ((c.out.length + 7) / 8) c.out.reverse)
  let stored := decide (inBytes ≤ coded.length)
  let pay := if stored then padTo 4 (elemBytesOf f.elem q) else coded
  let head := leBytes 4 0x4B484347 ++ leBytes 2 (f.word indep stored (f.level == 0 && !stored)) ++ leBytes 2 f.stride ++
    leBytes 4 inBytes ++ leBytes 4 pay.length
  { bytes := head ++ leBytes 4 (crc32c (head ++ pay)) ++ pay,
    a := if stored then a else c.a, n := if stored then n else c.n, stored := stored }

/-! ### The decoder (R238) -/

/-- The number spelled by the next `n` bits, and the rest. -/
def takeBits (n : Nat) (bs : List Bool) : Option (Nat × List Bool) :=
  if bs.length < n then none else some ((bs.take n).foldl (fun a b => 2 * a + b2n b) 0, bs.drop n)

/-- The leading one-bits, at most `n`, and the rest. -/
def takeOnes : Nat → List Bool → Nat × List Bool
  | 0, bs => (0, bs)
  | n + 1, true :: bs => let r := takeOnes n bs; (r.1 + 1, r.2)
  | _, bs => (0, bs)

/-- A literal read. -/
def readRice (b a n : Nat) (bs : List Bool) : Option (Nat × List Bool) :=
  let s := riceS b a n
  match takeOnes 24 bs with
  | (24, rest) => takeBits b rest
  | (h, _ :: rest) => (takeBits s rest).map (fun r => (h * 2 ^ s + r.1, r.2))
  | (_, []) => none

/-- A match read: L and D. -/
def readMatch (bs : List Bool) : Option (Nat × Nat × List Bool) :=
  match takeBits 8 bs with
  | none => none
  | some (l, r1) =>
    match takeBits 4 r1 with
    | none => none
    | some (m, r2) => (takeBits m r2).map (fun r => (l + 4, 2 ^ m + r.1, r.2))

/-- The decoder's progress: symbols so far (history first), Rice state, bits left. -/
structure Decoder where
  u : Array Nat
  a : Nat
  n : Nat
  bs : List Bool

/-- `n` symbols copied from `d` back. -/
def copyBack (u : Array Nat) (d : Nat) : Nat → Array Nat
  | 0 => u
  | n + 1 => copyBack (u.push (u.getD (u.size - d) 0)) d n

/-- One token read. -/
def Decoder.token (c : Decoder) (f : ChunkFmt) (plain : Bool) (stop : Nat) : Option Decoder :=
  let lit (bs : List Bool) : Option Decoder :=
    (readRice f.b c.a c.n bs).map (fun r =>
      let (a, n) := riceNext c.a c.n r.1
      ⟨c.u.push r.1, a, n, r.2⟩)
  if plain then lit c.bs
  else match c.bs with
    | [] => none
    | false :: rest => lit rest
    | true :: rest =>
      match readMatch rest with
      | none => none
      | some (l, d, r) =>
        if d ≤ f.dMax ∧ d ≤ c.u.size ∧ c.u.size + l ≤ stop then some ⟨copyBack c.u d l, c.a, c.n, r⟩ else none

/-- Tokens until every symbol is there. -/
def Decoder.run (c : Decoder) (f : ChunkFmt) (plain : Bool) (stop : Nat) : Nat → Option Decoder
  | 0 => if c.u.size = stop then some c else none
  | fuel + 1 => if c.u.size = stop then some c else
    match c.token f plain stop with
    | none => none
    | some c' => c'.run f plain stop fuel

/-- The values of the symbols from position `start` on, appended to the values before it. -/
def valuesFrom (f : ChunkFmt) (u : Array Nat) (q : Array Int) : Nat → Array Int
  | 0 => q
  | n + 1 =>
    let i := q.size
    let ref := if i < f.dist then 0 else q.getD (i - f.dist) 0
    let v := ref + resOf (u.getD i 0)
    valuesFrom f u (q.push (if elemSigned f.elem then wrapB f.b v else (code f.b v : Int))) n

/-- The header fields of a chunk. -/
structure ChunkHead where
  f : ChunkFmt
  indep : Bool
  stored : Bool
  plain : Bool
  inBytes : Nat
  payBytes : Nat

/-- The header of a byte string. -/
def chunkHead (bs : List Byte) : ChunkHead :=
  let w := field bs 4 2
  { f := { elem := w % 4, k := bits w 5 2, pred := bits w 6 6, level := bits w 13 10, stride := field bs 6 2 },
    indep := bit w 7, stored := bit w 8, plain := bit w 9, inBytes := field bs 8 4, payBytes := field bs 12 4 }

/-- A chunk decoded: its y bytes, the new history, Rice state and input bytes taken. -/
structure ChunkIn where
  y : List Byte
  q : List Int
  a : Nat
  n : Nat
  took : Nat
  head : ChunkHead

/-- A chunk at the start of a byte string decoded after the history of the job (R238); none when it fails. `prev` is the chunk before it. -/
def decodeChunk (bs : List Byte) (prev : Option ChunkFmt) (hist : List Int) (a n : Nat) : Option ChunkIn :=
  let h := chunkHead bs
  let f := h.f
  let e := elemBytes f.elem
  let pay := (bs.drop 20).take h.payBytes
  let fits := match prev with
    | some p => h.indep || decide (p.elem = f.elem ∧ p.k = f.k ∧ p.pred = f.pred ∧ p.stride = f.stride)
    | none => h.indep
  if field bs 0 4 ≠ 0x4B484347 ∨ bits (field bs 4 2) 15 14 ≠ 0 ∨ bs.length < 20 + h.payBytes ∨
      field bs 16 4 ≠ crc32c (bs.take 16 ++ pay) ∨ !fits ∨ h.inBytes % e ≠ 0 ∨ f.stride = 0 ∨ 8 < f.k ∨
      (!h.indep ∧ f.pred = 0 ∧ 32768 < f.stride * e) then none
  else
    let hist := if h.indep then [] else hist
    let (a, n) := if h.indep then (8, 2) else (a, n)
    let cnt := h.inBytes / e
    let hq := hist.toArray
    let done (q : List Int) (a n : Nat) : ChunkIn :=
      { y := elemBytesOf f.elem (q.map (fun v => v * 2 ^ f.k)),
        q := (hist ++ q).drop (hist.length + q.length - windowLen f.elem), a := a, n := n, took := 20 + h.payBytes, head := h }
    if h.stored then
      if pay.length < h.inBytes then none
      else some (done ((elemsOf f.elem (pay.take h.inBytes)).map (fun v => if elemSigned f.elem then wrapB f.b v else v)) a n)
    else
      let bits := (pay.map (fun x => bitsOf 8 x.toNat)).flatten
      let hs := symbols f hq
      match (Decoder.mk hs a n bits).run f h.plain (hist.length + cnt) cnt with
      | none => none
      | some c =>
        if 32 ≤ c.bs.length then none
        else some (done ((valuesFrom f c.u hq cnt).toList.drop hist.length) c.a c.n)

end Sys2Proof.Machine
end

