-- ==== Sys2Proof/Machine/Receiver.lean ====
section
/-! DEFINITION. Receiver lanes and the fall-line channeliser (chapter 06): the DC block, the coarse bank, the tone lanes, saturation reporting, the band-power monitor and the spare lane.
The ROM tables are the values of the formulas of R144, R145 and R151. -/

namespace Sys2Proof.Machine

/-! ### ROM -/

def protoRom0 : List Int := [0, 0, 0, 0, 0, 0, 0, 0, 0, 0, 0, 0, 1, 1, 1, 1, 1, 1, 1, 0]
def protoRom1 : List Int := [0, -2, -3, -4, -5, -6, -6, -5, -4, -1, 2, 5, 9, 13, 16, 18, 18, 16, 11, 4]
def protoRom2 : List Int := [-5, -15, -26, -36, -44, -48, -47, -40, -28, -11, 11, 36, 61, 83, 99, 107, 104, 89, 62, 23]
def protoRom3 : List Int := [-25, -76, -127, -172, -204, -218, -210, -178, -122, -45, 48, 148, 245, 328, 386, 410, 393, 331, 226, 82]
def protoRom4 : List Int := [-87, -269, -444, -593, -696, -738, -705, -592, -403, -147, 156, 479, 792, 1058, 1245, 1322, 1268, 1071, 732, 269]
def protoRom5 : List Int := [-288, -893, -1492, -2021, -2416, -2614, -2561, -2218, -1563, -595, 663, 2165, 3847, 5624, 7403, 9084, 10570, 11771, 12616, 13052]

/-- h[0] to h[119] of R145. -/
def protoRom : List Int := protoRom0 ++ protoRom1 ++ protoRom2 ++ protoRom3 ++ protoRom4 ++ protoRom5

def w40Rom0 : List (Int × Int) := [(131071, 0), (129457, 20504), (124656, 40503), (116785, 59505), (106039, 77042), (92681, 92681), (77042, 106039), (59505, 116785), (40503, 124656), (20504, 129457)]
def w40Rom1 : List (Int × Int) := [(0, 131071), (-20504, 129457), (-40503, 124656), (-59505, 116785), (-77042, 106039), (-92681, 92681), (-106039, 77042), (-116785, 59505), (-124656, 40503), (-129457, 20504)]
def w40Rom2 : List (Int × Int) := [(-131071, 0), (-129457, -20504), (-124656, -40503), (-116785, -59505), (-106039, -77042), (-92681, -92681), (-77042, -106039), (-59505, -116785), (-40503, -124656), (-20504, -129457)]
def w40Rom3 : List (Int × Int) := [(0, -131071), (20504, -129457), (40503, -124656), (59505, -116785), (77042, -106039), (92681, -92681), (106039, -77042), (116785, -59505), (124656, -40503), (129457, -20504)]

/-- W40[0] to W40[39] of R144. -/
def w40Rom : List (Int × Int) := w40Rom0 ++ w40Rom1 ++ w40Rom2 ++ w40Rom3

/-- The side coefficients of HB0 to HB5 (R151). -/
def hbRom : List (List Int) :=
  [[36864, -4096], [38400, -6400, 768], [39200, -7840, 1568, -160], [39690, -8820, 2268, -405, 35],
   [40259, -10065, 3355, -958, 203, -28, 2],
   [41524, -13324, 7405, -4708, 3128, -2092, 1380, -885, 545, -318, 172, -85, 36, -12, 2]]

/-- h[n] of the prototype, n = 0 to 239 (R145). -/
def proto (n : Nat) : Int := protoRom.toArray.getD (if n < 120 then n else 239 - n) 0

/-- W40[q] (R144). -/
def w40 (q : Int) : Int × Int := w40Rom.toArray.getD (q % 40).toNat (0, 0)

/-- The present value that a read of an RCV ROM register returns (R157). -/
def rcvRom (off : Nat) : Nat :=
  if 0x30400 ≤ off ∧ off < 0x305E0 then code 18 (proto ((off - 0x30400) / 4))
  else if 0x30600 ≤ off ∧ off < 0x30780 then
    code 18 (((hbRom.getD ((off - 0x30600) / 0x40) []).getD ((off - 0x30600) % 0x40 / 4)) 0)
  else 0

/-! ### Saturation and complex arithmetic -/

/-- sat16: a component clamped to ±32,767, and whether it was. -/
def sat16 (x : Int) : Int × Bool := (clampInt (-32767) 32767 x, decide (x < -32767 ∨ 32767 < x))

/-- A sample clamped in each component; `b` is marked when either was. -/
def CSample.sat (re im : Int) (fl b : Nat) : CSample :=
  let (r, c1) := sat16 re
  let (i, c2) := sat16 im
  ⟨r, i, if c1 || c2 then fl ||| b else fl⟩

/-! ### DC block (R136 to R139) -/

/-- The K in effect: 8 to 20, else 14 (R157). -/
def dcbK (k : Nat) : Nat := if 8 ≤ k ∧ k ≤ 20 then k else 14

/-- The estimator after a tick with code sum `S` (R138). -/
def dcbNext (a s : Int) (k : Nat) : Int := a + s - Int.fdiv (a + 2 ^ (k - 1)) (2 ^ k)

/-- The subtraction value D of an estimator (R138). -/
def dcbD (a : Int) (k : Nat) : Int := Int.fdiv (a * 13107 + 2 ^ (k + 17)) (2 ^ (k + 18))

/-- A code after INV: −512 becomes +511 (R136). -/
def invCode (inv : Bool) (x : Int) : Int := if inv then (if x = -512 then 511 else -x) else x

/-- A clip (R137). -/
def isClip (x : Int) : Bool := x == -512 || x == 511

/-- GATE_D is open in tick `t` of the running acquisition (R121). -/
def State.gateOpenAt (s : State) (t : Int) : Bool :=
  match s.acq.run with
  | none => false
  | some (_, p) =>
    let dark := (s.acq.sw.map (·.dark)).getD false
    if dark || !s.acq.inFrame || decide (t < 0) || decide ((s.fld64 Reg.GLB_FRAME_LO Reg.GLB_FRAME_HI : Int) < t / p.frameTicks) then false
    else
      let pos := (t % p.frameTicks).toNat
      match p.toneAt (pos / p.slotTicks) with
      | none => false
      | some k => match p.tones[k]? with
        | none => false
        | some tn => decide (pos % p.slotTicks < p.lead + tn.chirpTicks + p.lag)

/-- The codes of a converter lane after INV (R136). -/
def State.inverted (s : State) (l : Nat) (codes : List Int) : List Int := codes.map (invCode (s.on Reg.RCV_IN_CFG_INV l))

/-- A converter lane's clips of a tick counted, its codes taken after INV (R137). -/
def State.clipTick (s : State) (l : Nat) (xs : List Int) : State :=
  if xs.any isClip then (s.incF Reg.RCV_CLIP l).setF Reg.RCV_LANE_STATUS_CLIP 1 l else s

/-- One lane's tick through the DC block: its samples, and the state with the estimator and its status. `xs` the codes after INV and IQ_SWAP, `m` what their sum counts (R138). -/
def State.dcbTick (s : State) (l : Nat) (xs : List Int) (m : Int) (gate : Bool) : List Int × State :=
  let d := s.fldS Reg.RCV_DCB_EST l
  let ys := xs.map (· - d)
  let clip := xs.any isClip
  let frozen := s.on Reg.RCV_DCB_CTL_FREEZE l ||
    (s.on Reg.RCV_DCB_CTL_AUTO l && (gate || decide (s.rx.sinceClose < s.fld Reg.RCV_DCB_CTL_TAIL l))) ||
    (s.on Reg.RCV_DCB_CTL_CLIP_HOLD l && clip)
  let s := s.setB Reg.RCV_LANE_STATUS_FROZEN frozen l
  if frozen then (ys, s)
  else
    let k := dcbK (s.fld Reg.RCV_DCB_CTL_K l)
    let a := dcbNext (s.rx.dcbA.getD l 0) (m * xs.sum) k
    (ys, { s with rx := { s.rx with dcbA := vset s.rx.dcbA l a, updated := vset s.rx.updated l true } }.setS Reg.RCV_DCB_EST (dcbD a k) l)

/-! ### Coarse bank (R144, R147, R156) -/

/-- Coarse sample C_j[m] of a polarisation, `x i` its DC-block output at converter index `i`. -/
def coarseSample (x : Int → Int × Int) (j : Nat) (m : Int) : CSample :=
  let (a, b) := (List.range 240).foldl (fun (acc : Int × Int) (n : Nat) =>
    let i := 10 * m + 120 - n
    let (xr, xi) := x i
    let (wr, wi) := w40 ((19 - 2 * (j : Int)) * i)
    let h := proto n
    (acc.1 + h * (xr * wr - xi * wi), acc.2 + h * (xr * wi + xi * wr))) (0, 0)
  CSample.sat (shrRne a 30) (shrRne b 30) 0 1

/-- The complex samples of a polarisation over the ticks held, oldest first (R136). -/
def polSamples (ticks : List (List (List Int))) (li lq : Nat) : Array (Int × Int) :=
  ((ticks.reverse.map (fun t => (t.getD li []).zip (t.getD lq []))).flatten).toArray

/-- A new span of the band powers begins. -/
def Rx.pwrCleared (r : Rx) : Rx := { r with pwrX := Vector.replicate 20 0, pwrY := Vector.replicate 20 0, pwrN := 0 }

/-- The band powers of the samples summed shown, and the sums cleared: the mean of I² + Q² shifted right by 8 (R147). -/
def State.bankShow (s : State) : State :=
  let n := max 1 s.rx.pwrN
  let s := (List.range 20).foldl (fun (s : State) j =>
    (s.setF Reg.RCV_BANK_PWR_X (s.rx.pwrX.getD j 0 / n / 256) j).setF Reg.RCV_BANK_PWR_Y (s.rx.pwrY.getD j 0 / n / 256) j) s
  { s with rx := s.rx.pwrCleared }

/-- Coarse samples that the band powers are taken over: those of a frame, or 65,536 while acquisition is stopped (R147). -/
def State.bankSpan (s : State) : Nat :=
  match s.acq.run with
  | some (_, p) => 2 * p.frameTicks
  | none => 65536

/-- The coarse samples of the two indices from `m` on join the band powers; frame 0 begins a new span (R147). -/
def State.bankTick (s : State) (m : Int) (x0 x1 y0 y1 : List CSample) : State :=
  let pw (c : CSample) : Nat := (c.re * c.re + c.im * c.im).toNat
  let addP (acc : Vector Nat 20) (cs : List CSample) : Vector Nat 20 := acc.mapIdx (fun j a => a + pw (cs.getD j ⟨0, 0, 0⟩))
  let r := if m = 0 ∧ s.acq.run.isSome then s.rx.pwrCleared else s.rx
  let s : State := { s with rx := { r with pwrX := addP (addP r.pwrX x0) x1, pwrY := addP (addP r.pwrY y0) y1, pwrN := r.pwrN + 2 } }
  if s.bankSpan ≤ s.rx.pwrN then s.bankShow else s

/-- The coarse samples that become complete with the newest tick pushed onto the history: two indices, X and Y. -/
def State.coarseTick (s : State) : State :=
  let t := s.rx.next - 1
  let base := 20 * (t - ((s.rx.ticks.length : Int) - 1))
  let px := polSamples s.rx.ticks 0 1
  let py := polSamples s.rx.ticks 2 3
  let at' (a : Array (Int × Int)) (i : Int) : Int × Int := if i < base then (0, 0) else a.getD (i - base).toNat (0, 0)
  let mk (a : Array (Int × Int)) (m : Int) := (List.range 20).map (fun j => coarseSample (at' a) j m)
  let x0 := mk px (2 * t - 12)
  let x1 := mk px (2 * t - 11)
  let y0 := mk py (2 * t - 12)
  let y1 := mk py (2 * t - 11)
  let clamps (cs : List CSample) := (cs.filter (fun c => c.fl != 0)).length
  let clr (cs : List CSample) := cs.map (fun c => { c with fl := 0 })
  let nx := clamps x0 + clamps x1
  let ny := clamps y0 + clamps y1
  let s := (s.addF Reg.RCV_BANK_SAT_X nx).addF Reg.RCV_BANK_SAT_Y ny
  ({ s with rx := { s.rx with coarse := (clr x1, clr y1) :: (clr x0, clr y0) :: s.rx.coarse, satRcv := s.rx.satRcv + nx + ny } }).bankTick
    (2 * t - 12) x0 x1 y0 y1

/-- The codes of a tick: those given, or free ones while CONV is held in reset (R51, R53; log entry 272). -/
def State.convCodes (s : State) (c : RxTick) : RxTick × State :=
  if s.islUp 0 then (c, s)
  else
    let v (k : Nat) : List Int := (List.range 20).map (fun i => sx 10 (Config.freeNat (s.free + 20 * k + i) % 1024))
    (⟨v 0, v 1, v 2, v 3⟩, { s with free := s.free + 80 })

/-- One tick of converter codes taken through INV, IQ_SWAP, the DC block and the coarse bank (R136; log entry 273). -/
def State.rxTick (s : State) (c : RxTick) : State :=
  let (c, s) := s.convCodes c
  let gate := s.gateOpenAt s.rx.next
  let (a, b) := (s.inverted 0 c.xi, s.inverted 1 c.xq)
  let (e, f) := (s.inverted 2 c.yi, s.inverted 3 c.yq)
  let s := (((s.clipTick 0 a).clipTick 1 b).clipTick 2 e).clipTick 3 f
  let swX := s.on Reg.RCV_POL_CFG_IQ_SWAP_X
  let swY := s.on Reg.RCV_POL_CFG_IQ_SWAP_Y
  let (y0, s) := s.dcbTick 0 (if swX then b else a) 1 gate
  let (y1, s) := s.dcbTick 1 (if swX then a else b) 1 gate
  let (y2, s) := s.dcbTick 2 (if swY then f else e) 1 gate
  let (y3, s) := s.dcbTick 3 (if swY then e else f) 1 gate
  ({ s with rx := { s.rx with ticks := ([y0, y1, y2, y3] :: s.rx.ticks).take 13, next := s.rx.next + 1,
                              sinceClose := if gate then 0 else min 4096 (s.rx.sinceClose + 1) } }).coarseTick

/-- The ticks of converter codes since the last ones taken. -/
def State.rxTicks (s : State) (cs : List RxTick) : State := cs.foldl State.rxTick s

/-- BANK_PWR_UPDATE (R147): the ticks given are taken, and a span that they complete shows its band powers. -/
def execBankPwrUpdate (fresh : List RxTick) (s : State) : Out := .next (if s.runs 1 then s.rxTicks fresh else s)

/-! ### Tone lanes (R148 to R155) -/

/-- ω of a tone (R148). -/
def Tone.omega (t : Tone) : Nat := code 32 (divRne ((t.fKhz - chanCentreKhz (laneChan t.lane)) * 2 ^ 32) 400000)

/-- The default response of a position (R153). -/
def hbDefault (pos : Nat) : Nat := if pos = 1 then 5 else if pos = 2 then 4 else if pos = 3 then 2 else 1

/-- The response in use at stage `i` of a depth-`d` lane for a selection (R153). -/
def hbEff (sel d i : Nat) : Nat := if sel ≤ 5 then sel else hbDefault (d - i + 1)

/-- The selection field of stage `i`. -/
def hbSel (s : State) (lane i : Nat) : Nat :=
  match i with
  | 1 => s.fld Reg.TLA_HB_SEL_SEL1 lane
  | 2 => s.fld Reg.TLA_HB_SEL_SEL2 lane
  | 3 => s.fld Reg.TLA_HB_SEL_SEL3 lane
  | _ => s.fld Reg.TLA_HB_SEL_SEL4 lane

/-- Side coefficients of response `r`. -/
def hbSide (r : Nat) : List Int := hbRom.getD r []

/-- The lookahead of a lane in units of 0.125 ns (R155): 29.875 ns of the bank, and 2K − 1 input samples of each stage. -/
def lookahead (resp : List Nat) : Nat :=
  239 + ((List.range resp.length).map (fun i => (2 * (hbSide (resp.getD i 0)).length - 1) * (20 * 2 ^ i))).sum

/-- The lane input v[m] from a coarse sample (R148). -/
def ncoSample (omega : Nat) (m : Int) (c : CSample) : CSample :=
  let a := ((omega * m) % (2 ^ 32)) / 2 ^ 18
  let co := rcos 131071 a 16384
  let si := rsin 131071 a 16384
  CSample.sat (shrRne (c.re * co + c.im * si) 17) (shrRne (c.im * co - c.re * si) 17) c.fl 1

/-- One half-band stage (R149): `u q` its input, `bit` the flag its clamps set. -/
def hbStage (u : Int → CSample) (side : List Int) (shift flag : Nat) (q : Int) : CSample :=
  let c := u (2 * q)
  let (a, b, f) := (side.zipIdx).foldl (fun (acc : Int × Int × Nat) (hk : Int × Nat) =>
    let o : Int := 2 * (hk.2 : Int) + 1
    let l := u (2 * q - o)
    let r := u (2 * q + o)
    (acc.1 + hk.1 * (l.re + r.re), acc.2.1 + hk.1 * (l.im + r.im), acc.2.2 ||| l.fl ||| r.fl))
    (65536 * c.re, 65536 * c.im, c.fl)
  CSample.sat (shrRne a (16 + shift)) (shrRne b (16 + shift)) f (2 ^ flag)

/-- The stages still to run: the samples from `lo` to `hi` of the last stage's output, computed from the input of stage `i` given over the range that they need. -/
def cascade (sides : List (List Int)) (shifts i : Nat) (lo hi : Int) (input : Int → Int → Array CSample) : Array CSample :=
  match sides with
  | [] => input lo hi
  | side :: rest =>
    let o : Int := 2 * side.length - 1
    let stage (l h : Int) : Array CSample :=
      let b := 2 * l - o
      let arr := input b (2 * h + o)
      ((List.range (h - l + 1).toNat).map (fun (k : Nat) =>
        hbStage (fun q => arr.getD (q - b).toNat ⟨0, 0, 0⟩) side (bits shifts (2 * i - 1) (2 * i - 2)) i (l + k))).toArray
    cascade rest shifts (i + 1) lo hi stage

/-- The coarse samples of channel `j` of a polarisation from index `m0` to `m1`; samples not held read 0. -/
def State.coarseWin (s : State) (j : Nat) (y : Bool) (m0 m1 : Int) : Array CSample :=
  let newest := 2 * s.rx.next - 13
  ((List.range (m1 - m0 + 1).toNat).map (fun (k : Nat) =>
    let i := newest - (m0 + k)
    if i < 0 then (⟨0, 0, 0⟩ : CSample)
    else match s.rx.coarse[i.toNat]? with
      | none => ⟨0, 0, 0⟩
      | some c => ((if y then c.2 else c.1)[j]?).getD ⟨0, 0, 0⟩)).toArray

/-- The coarse samples held, once the next tick takes index 0: W40 has turned by half a turn where an odd number of ticks is cut away, and their signs change (R144). -/
def Rx.rebased (r : Rx) : List (List CSample × List CSample) :=
  let flip (cs : List CSample) : List CSample := cs.map (fun c => { c with re := -c.re, im := -c.im })
  if r.next % 2 = 0 then r.coarse else r.coarse.map (fun x => (flip x.1, flip x.2))

/-- Lane samples u_d[lo] to u_d[hi] of a firing of tone `t` anchored at coarse index `a` (R149). -/
def State.laneSamples (s : State) (t : Tone) (y : Bool) (a lo hi : Int) : Array CSample :=
  let sides := (List.range t.depth).map (fun i => hbSide (hbEff (hbSel s t.lane (i + 1)) t.depth (i + 1)))
  let om := t.omega
  cascade sides t.shifts 1 lo hi (fun l h =>
    let w := s.coarseWin (laneChan t.lane) y (a + l) (a + h)
    ((List.range (h - l + 1).toNat).map (fun (k : Nat) => ncoSample om (a + l + k) (w.getD k ⟨0, 0, 0⟩))).toArray)

/-- The coarse samples that a lane needs up to output `hi` have been formed (R155). -/
def State.laneReady (s : State) (t : Tone) (a hi : Int) : Bool :=
  let sides := (List.range t.depth).map (fun i => hbSide (hbEff (hbSel s t.lane (i + 1)) t.depth (i + 1)))
  decide (a + sides.foldr (fun side (h : Int) => 2 * h + (2 * (side.length : Int) - 1)) hi ≤ 2 * s.rx.next - 13)

/-- The saturation and power registers of a lane after the P_k samples of a firing of frame `frame` (R156, R158). -/
def State.laneReport (s : State) (lane frame : Nat) (xs ys : List CSample) : State :=
  let n (l : List CSample) := (l.filter (fun c => c.fl != 0)).length
  let fl := (xs ++ ys).foldl (fun a c => a ||| c.fl) 0
  let pw (l : List CSample) : Nat := (l.map (fun c => (c.re * c.re + c.im * c.im).toNat)).sum / max 1 l.length / 256
  let s := (s.addF Reg.TLA_SAT_X (n xs) lane).addF Reg.TLA_SAT_Y (n ys) lane
  let s : State := { s with rx := { s.rx with satTla := s.rx.satTla + n xs + n ys } }
  let s := if fl = 0 then s else
    (((s.orF Reg.TLA_SAT_STAGE_NCO (fl % 2) lane).orF Reg.TLA_SAT_STAGE_STAGE (fl / 2) lane).set64
      Reg.TLA_SAT_FRAME_LO Reg.TLA_SAT_FRAME_HI frame lane)
  (s.setF Reg.TLA_PWR_X (pw xs) lane).setF Reg.TLA_PWR_Y (pw ys) lane

/-- The entry of a block whose clamp counters advanced in the second that ends (R156, R451). -/
def State.satEntry (s : State) (row n : Nat) : State := if n = 0 then s else s.logEvt sevNotice 0x0303 row (leBytes 1 row ++ zeros 3 ++ leBytes 4 n)

/-- A whole second of ticks ends: at most one SATURATION entry for RCV and one for TLA (R156; log entry 274). -/
def State.satSecond (s : State) : State :=
  if s.tick % 200000000 = 0 then
    let s := (s.satEntry (rowOf 0x30000) s.rx.satRcv).satEntry (rowOf 0x100000) s.rx.satTla
    { s with rx := { s.rx with satRcv := 0, satTla := 0 } }
  else s

/-! ### Estimator writes (R140) -/

/-- A change of K from `k0` to `k1` on an estimator. -/
def dcbRescale (a : Int) (k0 k1 : Nat) : Int :=
  if k0 ≤ k1 then a * 2 ^ (k1 - k0) else Int.fdiv (a + 2 ^ (k0 - k1 - 1)) (2 ^ (k0 - k1))

/-- The estimator of lane `l` rescaled after its K field changed from `old`; D stays. -/
def State.dcbKChanged (s : State) (l old : Nat) : State :=
  let k1 := dcbK (s.fld Reg.RCV_DCB_CTL_K l)
  { s with rx := { s.rx with dcbA := vmod s.rx.dcbA l (fun a => dcbRescale a (dcbK old) k1) } }

/-- A write of D to RCV_DCB_PRESET: A = v·20·2^K, and D = v from the next tick. -/
def State.dcbPreset (s : State) (l : Nat) : State :=
  let v := s.fldS Reg.RCV_DCB_PRESET l
  ({ s with rx := { s.rx with dcbA := vset s.rx.dcbA l (v * 20 * 2 ^ dcbK (s.fld Reg.RCV_DCB_CTL_K l)) } }).setS Reg.RCV_DCB_EST v l

/-! ### Spare lane (R141 to R143) -/

/-- Codes of RCV_SP_STATUS.PHASE. -/
def spIdle : Nat := 0
def spSettle : Nat := 1
def spCompareIn : Nat := 2
def spCarry : Nat := 3
def spCompareOut : Nat := 4
def spReturn : Nat := 5

/-- SP itself is being measured: a visit to it, or to a DAC lane that is looped to it (R432, R433). -/
def State.spVisited (s : State) : Bool := s.cal.visit.any (fun v => decide (4 ≤ v.lane))

/-- A takeover of lane `l` begins, when SP is powered and idle (R141, R143); one asked for while SP itself is measured is ignored (log entry 275). -/
def State.spRequest (s : State) (l : Nat) : State :=
  if s.runs 1 ∧ s.fld Reg.RCV_SP_STATUS_PHASE = spIdle ∧ l < 4 ∧ !s.spVisited then
    ({ s.timerStart .settle with rx := { s.rx with compares := 0 } }.setF Reg.RCV_SP_STATUS_LANE l).setF Reg.RCV_SP_STATUS_PHASE spSettle
  else s

/-- SP released without a compare: every lane carries itself. -/
def State.spFree (s : State) : State :=
  let s := (List.range 4).foldl (fun (s : State) l => s.setF Reg.RCV_LANE_STATUS_ON_SP 0 l) s
  ({ s with rx := { s.rx with releasing := false } }.setF Reg.RCV_SP_STATUS_LANE 7).setF Reg.RCV_SP_STATUS_PHASE spIdle

/-- RCV_SP_CTL is locked by the background rotation (R143). -/
def State.spLocked (s : State) : Bool := s.on Reg.CAL_STATUS_BG_ON

/-- SP_REQ (R141): REQ with the LANE of RCV_SP_CTL. -/
def execSpReq (s : State) : Out := .next (if s.spLocked then s else s.spRequest (s.fld Reg.RCV_SP_CTL_LANE))

/-- SP_RELEASE (R143): the reconnected lane settles before the COMPARE_OUT step; PHASE stays CARRY until the settling ends. -/
def State.spRelease (s : State) : State :=
  if s.fld Reg.RCV_SP_STATUS_PHASE = spCarry then
    { (if s.rx.releasing then s else s.timerStart .settle) with rx := { s.rx with compares := 0, releasing := true } } else s

/-- SP_RELEASE (R143). -/
def execSpRelease (s : State) : Out := .next (if s.spLocked then s else s.spRelease)

/-- A write of PIN = 0: a completed takeover whose lane calibration no longer needs returns (R143; log entry 276). -/
def State.spUnpinned (s : State) : State := if s.cal.visit.isNone then s.spRelease else s

/-- SP_SETTLE_END (R141): the 2 µs settling ends and the compare begins. -/
def execSpSettleEnd (s : State) : Out :=
  .next (if !s.timerDue .settle (ticksUs 2) then s
    else if s.fld Reg.RCV_SP_STATUS_PHASE = spSettle then (s.timerStart .compare).setF Reg.RCV_SP_STATUS_PHASE spCompareIn
    else if s.fld Reg.RCV_SP_STATUS_PHASE = spCarry ∧ s.rx.releasing then
      { s.timerStart .compare with rx := { s.rx with releasing := false } }.setF Reg.RCV_SP_STATUS_PHASE spCompareOut
    else s)

/-- The limit of a compare: MATCH, 0 taken as 1 (R157). -/
def State.spMatch (s : State) : Nat := max 1 (s.fld Reg.RCV_SP_CTL_MATCH)

/-- The sum of squared differences and the count of the pairs in which neither code clipped (R142). -/
def spSums (pairs : List (Int × Int)) : Nat × Nat :=
  pairs.foldl (fun acc p => if isClip p.1 || isClip p.2 then acc else (acc.1 + ((p.1 - p.2) * (p.1 - p.2)).toNat, acc.2 + 1)) (0, 0)

/-- A failed compare (R143). -/
def State.spFail (s : State) (ph rms : Nat) : State :=
  let l := s.fld Reg.RCV_SP_STATUS_LANE
  let s := (s.setF Reg.RCV_SP_STATUS_MISMATCH 1).logEvt sevWarning 0x0302 5
    (leBytes 1 l ++ leBytes 1 ph ++ leBytes 2 rms)
  if ph = spCompareIn then s.spFree
  else ((s.setF Reg.RCV_SP_CTL_PIN 1).setF Reg.RCV_SP_STATUS_PHASE spCarry).signal 0

/-- A passed compare (R141): SP carries the lane, which passes to calibration; or the lane returns at the next tick boundary. -/
def State.spPass (s : State) (ph : Nat) : State :=
  let l := s.fld Reg.RCV_SP_STATUS_LANE
  if ph = spCompareIn then
    let s := (s.setF Reg.RCV_LANE_STATUS_ON_SP 1 l).setF Reg.RCV_SP_STATUS_PHASE spCarry
    if s.cal.visit.isNone then { s with cal := { s.cal with visit := some ⟨l, false, true⟩ } } else s
  else s.setF Reg.RCV_SP_STATUS_PHASE spReturn

/-- The tick boundary after a passed return: the DC block takes the lane's own codes, and SP is released (R141). -/
def State.spReturned (s : State) : State :=
  if s.fld Reg.RCV_SP_STATUS_PHASE = spReturn then (s.incF Reg.RCV_SP_COUNT).spFree else s

end Sys2Proof.Machine
end

