-- ==== Sys2Proof/Machine/Compress.lean ====
section
/-! DEFINITION. Compression, gauge products, the rotated vector sum, the phase series and tone alignment (R159 to R173). -/

namespace Sys2Proof.Machine

/-! ### References (R160, R161) -/

/-- The edge rule of R124 scaled to a peak of 1, in double precision: sample `n` of `len` with edge length `ne` (R160). -/
def envelope (n len ne : Nat) : Dbl :=
  let m := if len - ne ≤ n then len - 1 - n else n
  if m < ne then ((Dbl.ofInt 1).sub ((Dbl.pi.mul (.ofRat (2 * m + 1) 2)).div (.ofInt ne)).cos).div (.ofInt 2) else .ofInt 1

/-- ψ[n] = π·(B/r)·(n²/n_c − n), from left to right in double precision (R160, log entry 96). -/
def chirpPhase (t : Tone) (n : Nat) : Dbl :=
  let x := (Dbl.pi.mul ((Dbl.ofInt t.bKhz).div (.ofInt (laneRateKhz t.depth)))).mul ((Dbl.ofRat (n * n) t.nc).sub (.ofInt n))
  if t.down then x.neg else x

/-- The generated reference of a tone (R160). -/
def genRef (t : Tone) : List (Int × Int) :=
  (List.range t.nc).map (fun (n : Nat) =>
    let w := (Dbl.ofInt 2047).mul (envelope n t.nc (t.edge * t.nc / 16))
    let ψ := chirpPhase t n
    ((w.mul ψ.cos).rhe, (w.mul ψ.sin).rhe))

/-- The first NC entries of a lane's loaded reference (R161, R163). -/
def State.userRef (s : State) (t : Tone) : List (Int × Int) :=
  (List.range t.nc).map (fun n =>
    let v := Store.read 0 s.ph.refs (t.lane * 256 + n)
    (sx 12 (v % 4096), sx 12 (v / 4096)))

/-! ### Compression (R162) -/

/-- The bounds n_δ of the sub-bands. -/
def segBound (nc d i : Nat) : Nat := i * nc / d

/-- One compressed sample of a branch: `u i` the lane sample i places after the point, `lo` the first reference entry. -/
def compressOne (ref : List (Int × Int)) (lo : Nat) (u : Nat → CSample) (shift : Nat) : CSample :=
  let (a, b) := (ref.zipIdx).foldl (fun (acc : Int × Int) (rk : (Int × Int) × Nat) =>
    let z := u (lo + rk.2)
    (acc.1 + (rk.1.1 * z.re + rk.1.2 * z.im), acc.2 + (rk.1.1 * z.im - rk.1.2 * z.re))) (0, 0)
  CSample.sat (shrRne a shift) (shrRne b shift) 0 1

/-- z of branch δ at the points −G to P − 1, from lane samples that start at −G. -/
def compressBranch (ref : List (Int × Int)) (u : Array CSample) (d delta gain count : Nat) : List CSample :=
  let nc := ref.length
  let lo := segBound nc d delta
  let hi := segBound nc d (delta + 1)
  let shift := 11 + ceilLog2 (hi - lo) - gain
  let seg := (ref.drop lo).take (hi - lo)
  (List.range count).map (fun p => compressOne seg lo (fun i => u.getD (p + i) ⟨0, 0, 0⟩) shift)

/-- c of a branch at point p: rhe(z[p]·conj(z[p − G])/2^15) (R164). -/
def gaugeProd (z w : CSample) : Int × Int :=
  (shrRne (z.re * w.re + z.im * w.im) 15, shrRne (z.im * w.re - z.re * w.im) 15)

/-- The quadrant of a branch product against the sum (R165). -/
def quadrant (c sum : Int × Int) : Nat :=
  let re := c.1 * sum.1 + c.2 * sum.2
  let im := c.2 * sum.1 - c.1 * sum.2
  if im.natAbs ≤ re.natAbs then (if 0 ≤ re then 0 else 2) else if 0 < im then 1 else 3

/-- c · i^(−q). -/
def rotQ (c : Int × Int) (q : Nat) : Int × Int :=
  match q with
  | 0 => c
  | 1 => (c.2, -c.1)
  | 2 => (-c.1, -c.2)
  | _ => (-c.2, c.1)

/-- Componentwise sum. -/
def csum (cs : List (Int × Int)) : Int × Int := cs.foldl (fun a c => (a.1 + c.1, a.2 + c.2)) (0, 0)

/-- θ of a point from the branch products; none for NULL (R165, R166). -/
def pointTheta (cs : List (Int × Int)) : Option Nat :=
  let sum := csum cs
  let v := csum (cs.map (fun c => rotQ c (quadrant c sum)))
  if v.1 = 0 ∧ v.2 = 0 then none else some (phase16 v.1 v.2)

/-- The amplitude of a point (R177): floor of √(Σ|z|²/2D). -/
def pointAmp (zs : List CSample) : Nat := isqrt ((zs.map (fun c => (c.re * c.re + c.im * c.im).toNat)).sum / max 1 zs.length)

/-- What compression gives of one firing: θ and amplitude by point, and the clamped samples (R163). -/
structure Compressed where
  theta : List (Option Nat)
  amp : List Nat
  clamps : Nat
  deriving DecidableEq, Repr

/-- The compression of a firing of tone `t` with lane samples `ux`, `uy` from −G on. -/
def compressFiring (p : Plan) (t : Tone) (ref : List (Int × Int)) (ux uy : Array CSample) (gain : Nat) : Compressed :=
  let pts := p.points t
  let n := pts + p.gauge
  let zs := (List.range p.div).map (fun d => (compressBranch ref ux p.div d gain n).toArray) ++
    (List.range p.div).map (fun d => (compressBranch ref uy p.div d gain n).toArray)
  let z0 : CSample := ⟨0, 0, 0⟩
  { theta := (List.range pts).map (fun i => pointTheta (zs.map (fun z => gaugeProd (z.getD (i + p.gauge) z0) (z.getD i z0)))),
    amp := (List.range pts).map (fun i => pointAmp (zs.map (fun z => z.getD (i + p.gauge) z0))),
    clamps := (zs.map (fun z => (z.toList.filter (fun c => c.fl != 0)).length)).sum }

/-! ### Phase series and alignment (R167 to R173) -/

/-- One sample of one point, as the reducer takes it. -/
structure PointSample where
  delta : Int
  integ : Int
  phi : Nat
  amp : Nat
  null : Bool
  deriving DecidableEq, Repr

/-- wrap16 (chapter 07). -/
def wrap16 (x : Int) : Int := sx 16 (code 16 x)

/-- One advance of the Galois register (R172). -/
def lfsrNext (x : Nat) : Nat := if x % 2 = 1 then (x / 2) ^^^ 0xB400 else x / 2

/-- Alignment state codes (R173). -/
def alNone : Nat := 0
def alSchuss : Nat := 1
def alTraverse : Nat := 2
def alOff : Nat := 3

/-- The alignment state of a sample from the frame number j − 1 of the interval and the traverse count (R173). -/
def alignState (align : Bool) (age trav m : Nat) : Nat :=
  if !align then alOff else if age < 8 then alNone else if trav < 4 * 2 ^ m then alSchuss else alTraverse

/-- A new value of a cell at frame j of the interval (R171, R172), with the LFSR state; `x` the observation. -/
def cellUpdate (a j m : Nat) (x : Int) (freeze : Bool) (lf : Nat) : Nat × Nat :=
  if j = 1 then (code 16 x, lf)
  else if j ≤ 8 then (code 16 (a + divRne (wrap16 (x - a)) j), lf)
  else if freeze then (a, lf)
  else
    let lf' := lfsrNext lf
    (code 16 (a + Int.fdiv (wrap16 (x - a) + (lf' % 2 ^ m : Nat)) (2 ^ m)), lf')

/-- The cells of a tone updated in ascending point order. -/
def cellsUpdate (j m : Nat) (freeze : Bool) : List Nat → List (Option Nat) → List (Option Nat) → Nat → List Nat × Nat
  | a :: as, th :: ths, an :: ans, lf =>
    let (a', lf') := match th, an with
      | some t, some k => cellUpdate a j m (wrap16 ((t : Int) - k)) freeze lf
      | _, _ => (a, lf)
    let (rest, lf'') := cellsUpdate j m freeze as ths ans lf'
    (a' :: rest, lf'')
  | as, _, _, lf => (as, lf)

/-- One point of the aligned series (R167): offset, θ, last φ and I; `zero` where Δ = 0, `first` at n = 0. -/
def alignedPoint (a : Nat) (th : Option Nat) (phi : Nat) (integ : Int) (amp : Nat) (zero first : Bool) : PointSample :=
  match th with
  | none => ⟨0, if first then 0 else integ, if first then 0 else phi, amp, true⟩
  | some t =>
    let f := code 16 ((t : Int) - a)
    let d := if zero then 0 else wrap16 ((f : Int) - phi)
    ⟨d, if first then 0 else sx 32 (code 32 (integ + d)), f, amp, false⟩

/-- One point of a per-tone series (R168): θ, the previous θ if one is kept; without one Δ is 0, also where the store is too small for increments and the energy stage asks for them (log entry 264). -/
def tonePoint (th : Option Nat) (prev : Option Nat) (amp : Nat) : PointSample :=
  match th with
  | none => ⟨0, 0, prev.getD 0, amp, true⟩
  | some t => ⟨match prev with
      | some q => wrap16 ((t : Int) - q)
      | none => 0, 0, t, amp, false⟩

/-- Whether the alignment store holds the previous θ of every pair of an ALIGN = 0 plan (R168). -/
def Plan.keepsTheta (p : Plan) : Bool := decide ((p.tones.map (fun t => p.points t)).sum ≤ 2097152)

/-- An alignment step applied: offsets 0, LFSR and traverse count loaded, the interval begins (R169). -/
def State.applyStep (s : State) (cause : Nat) : State :=
  let s := { s with ph := { s.ph with cells := s.ph.cells.map (fun (c : List Nat) => c.map (fun _ => 0)), fresh := true, steps := s.ph.steps + 1 } }
  let s := { s with red := { s.red with cells := [] } }
  (((((s.setF Reg.CMP_LFSR 0xACE1).setF Reg.CMP_ALIGN_TRAV 0).setF Reg.CMP_ALIGN_AGE 0).setF Reg.CMP_ALIGN_STATUS_STATE alNone).setF
    Reg.CMP_ALIGN_STATUS_LAST_STEP cause).incF Reg.CMP_STEP_COUNT

/-- The end of a frame of the series: the age and, from j = 9 with FREEZE 0, the traverse count, which stops at its top (R172, R173, log entry 265). -/
def State.frameEnd (s : State) (p : Plan) : State :=
  let age := s.fld Reg.CMP_ALIGN_AGE
  let s := if p.align && decide (8 ≤ age) && !s.on Reg.CMP_ALIGN_CTL_FREEZE then s.setF Reg.CMP_ALIGN_TRAV (satN 32 (s.fld Reg.CMP_ALIGN_TRAV + 1)) else s
  let s := s.setF Reg.CMP_ALIGN_AGE (satN 32 (age + 1))
  s.setF Reg.CMP_ALIGN_STATUS_STATE (alignState p.align (s.fld Reg.CMP_ALIGN_AGE) (s.fld Reg.CMP_ALIGN_TRAV) p.alignM)

/-- The samples of a firing of tone `k` in slot `slot` from what compression gave, with the phase engine advanced (R167 to R172). -/
def State.phaseSamples (s : State) (p : Plan) (k slot : Nat) (c : Compressed) : List PointSample × State :=
  let nulls := (c.theta.filter (·.isNone)).length
  let s := s.addF Reg.CMP_NULL_COUNT nulls
  if p.align then
    let cells := s.ph.cells.getD k []
    let first := s.ph.first
    let zero := s.ph.fresh
    let pts : List PointSample := (List.range c.theta.length).map (fun i => alignedPoint (cells.getD i 0) ((c.theta[i]?).getD none)
      (s.ph.phi.getD i 0) (s.ph.integ.getD i 0) (c.amp.getD i 0) zero first)
    let anchor := if slot = 0 then c.theta else s.ph.anchor
    let (cells', lf) := if slot = 0 then (cells, s.fld Reg.CMP_LFSR)
      else cellsUpdate (s.fld Reg.CMP_ALIGN_AGE + 1) p.alignM (s.on Reg.CMP_ALIGN_CTL_FREEZE) cells c.theta anchor (s.fld Reg.CMP_LFSR)
    (pts, ({ s with ph := { s.ph with cells := setAt s.ph.cells k cells', anchor := anchor, phi := pts.map PointSample.phi,
                                      integ := pts.map PointSample.integ, fresh := false, first := false } }).setF Reg.CMP_LFSR lf)
  else
    let keep := p.keepsTheta
    let prev := s.ph.cells.getD k []
    let had := keep && s.ph.seen.getD k false
    let pts : List PointSample := (List.range c.theta.length).map (fun i => tonePoint ((c.theta[i]?).getD none)
      (if had then some (prev.getD i 0) else none) (c.amp.getD i 0))
    (pts, { s with ph := { s.ph with cells := if keep then setAt s.ph.cells k (pts.map PointSample.phi) else s.ph.cells,
                                     seen := setAt s.ph.seen k keep, fresh := false, first := false } })

/-- The record window of firing `n`, and what its filters look ahead to, has been converted (R121, R155). -/
def State.firingReady (s : State) (p : Plan) (n : Nat) : Bool :=
  ((p.toneAt (n % p.n)).bind (fun k => p.tones[k]?)).all (fun t =>
    s.laneReady t (2 * ((n / p.n * p.frameTicks + n % p.n * p.slotTicks + p.lead + p.winOfs : Nat) : Int)) (p.points t + t.nc - 2))

/-- The compression of the next firing, with the registers it moves (R159 to R163, R156). -/
def State.compressNext (s : State) (p : Plan) (t : Tone) (n : Nat) : Compressed × State :=
  let slot := n % p.n
  let frame := n / p.n
  let open_ : Int := frame * p.frameTicks + slot * p.slotTicks + p.lead + p.winOfs
  let a := 2 * open_
  let lo : Int := -(p.gauge : Int)
  let hi : Int := p.points t + t.nc - 2
  let ux := s.laneSamples t false a lo hi
  let uy := s.laneSamples t true a lo hi
  let own (u : Array CSample) := (u.toList.drop p.gauge).take (p.points t)
  let s := s.laneReport t.lane frame (own ux) (own uy)
  let ref := if p.userRef then s.userRef t else genRef t
  let c := compressFiring p t ref ux uy (s.fld Reg.CMP_CTL)
  (c, s.addF Reg.CMP_SAT_COUNT c.clamps)

end Sys2Proof.Machine
end

