-- ==== Sys2Proof/Machine/Reducer.lean ====
section
/-! DEFINITION. The reducer: output kinds, reduction groups, stream blocks and their headers, and the band and zone energies (R175 to R183, R498). -/

namespace Sys2Proof.Machine

/-! ### Kinds (R175) -/

def kInc : Nat := 0
def kInt : Nat := 1
def kDphase : Nat := 2
def kAmp : Nat := 3
def kBand : Nat := 4
def kZone : Nat := 5

/-- Bytes of an element. -/
def kindBytes (kind : Nat) : Nat :=
  match kind with
  | 1 => 4
  | 4 => 32
  | 5 => 4
  | _ => 2

/-- Element type of a kind in the groomer (R227). -/
def kindElem (kind : Nat) : Nat :=
  match kind with
  | 1 => 1
  | 3 => 2
  | _ => 0

/-- What a kind takes from a point's sample. -/
def kindValue (kind : Nat) (p : PointSample) : Int :=
  match kind with
  | 0 => p.delta
  | 1 => p.integ
  | 2 => wrap16 p.phi
  | _ => p.amp

/-! ### Groups (R176, R177) -/

/-- One firing's samples as the reducer takes them: the plan and place of the series. -/
structure SampleAt where
  plan : Nat
  align : Bool
  tone : Nat
  frame : Nat
  stamp : Nat
  age : Nat
  state : Nat
  /-- series index: n under ALIGN = 1, the frame number under ALIGN = 0 (R182) -/
  series : Nat
  /-- alignment steps before it -/
  epoch : Nat

/-- Consecutive runs of `m` values. -/
def runsOf (m : Nat) : Nat → List Int → List (List Int)
  | 0, _ => []
  | n + 1, xs => xs.take m :: runsOf m n (xs.drop m)

/-- The points of the stream's range. -/
def Stream.range (st : Stream) (pts : List PointSample) : List PointSample := (pts.drop st.first).take st.count

/-- The sums over M_s adjacent points of the range. -/
def Stream.pointSums (st : Stream) (pts : List PointSample) : List Int :=
  let vs := pts.map (kindValue st.kind)
  (runsOf st.mS (vs.length / st.mS) vs).map List.sum

/-- For each output point of the range: a NULL sample lies among its M_s points (R182). -/
def Stream.pointNulls (st : Stream) (pts : List PointSample) : List Bool :=
  (List.range (pts.length / st.mS)).map (fun q => ((pts.drop (q * st.mS)).take st.mS).any (·.null))

/-- Flags joined element by element. -/
def orLists : List Bool → List Bool → List Bool
  | x :: xs, y :: ys => (x || y) :: orLists xs ys
  | [], ys => ys
  | xs, [] => xs

/-- Lists added element by element; a missing element counts 0. -/
def addLists : List Int → List Int → List Int
  | x :: xs, y :: ys => (x + y) :: addLists xs ys
  | [], ys => ys
  | xs, [] => xs

/-- The weaker alignment state (R176): NONE, SCHUSS, TRAVERSE in order of the codes. -/
def weaker (a b : Nat) : Nat := min a b

/-- The reduced values of a group and the carries after it (R177). -/
def reduceGroup (kind q : Nat) (sums carry : List Int) : List Int × List Int :=
  if q ≤ 1 then (sums, carry)
  else if kind = kInc then
    let us := (sums.zipIdx).map (fun si => divRne (si.1 + carry.getD si.2 0) q)
    (us, (sums.zipIdx).map (fun si => si.1 + carry.getD si.2 0 - q * us.getD si.2 0))
  else (sums.map (fun s => divRne s q), carry)

/-! ### Blocks (R181, R182) -/

/-- Bytes of a block before padding. -/
def SBlock.size (b : SBlock) : Nat := 64 + b.payload.length

/-- Bytes a block occupies (R101). -/
def SBlock.padded (b : SBlock) : Nat := (b.size + 63) / 64 * 64

/-- FLAGS (R182). -/
def SBlock.flags (b : SBlock) (ovf : Bool) : Nat :=
  b.state % 4 + b2n b.groomed * 4 + b.k % 16 * 8 + b2n b.reduced * 128 + b2n ovf * 256 + b.tone % 128 * 512 + b2n b.nulls * 65536

/-- The 64-byte header (R182). -/
def SBlock.header (b : SBlock) (ovf : Bool) : List Byte :=
  withCrc (leBytes 4 0x4B4C4253 ++ leBytes 2 b.stream ++ leBytes 2 b.kind ++ leBytes 8 b.frame ++ leBytes 8 b.stamp ++
    leBytes 4 b.plan ++ leBytes 4 b.first ++ leBytes 4 b.points ++ leBytes 4 b.samples ++ leBytes 4 (b.flags ovf) ++
    leBytes 4 b.age ++ leBytes 8 b.series ++ zeros 4)

/-- A block as it is delivered: header, payload and the padding to 64 bytes (R101). -/
def SBlock.bytes (b : SBlock) (ovf : Bool) : List Byte := padTo 64 (b.header ovf ++ b.payload)

/-- The open block moved to the blocks that wait for delivery. -/
def Stream.closeBlock (st : Stream) : Stream :=
  match st.open_ with
  | none => st
  | some b => { st with open_ := none, ready := st.ready ++ [b] }

/-- A new block of a stream for an output sample that starts at `g`. -/
def Stream.newBlock (st : Stream) (plan : Nat) (g : Group) (step first points : Nat) (payload : List Byte) : SBlock :=
  { stream := st.id, kind := st.kind, frame := g.frame, stamp := g.stamp, plan := plan, first := first, points := points,
    samples := 1, state := g.state, tone := g.tone, nulls := g.nulls.any (· == true), reduced := decide (1 < st.mS ∨ 1 < st.mT), age := g.age,
    series := g.series, step := step, payload := payload, groomed := false, through := false, k := st.k, epoch := g.epoch,
    epochEnd := g.epochEnd }

/-- An output sample too long for one block, split in ascending point order; each part shows its own NULLS (R181, R182). -/
def Stream.splitBlocks (st : Stream) (plan : Nat) (g : Group) (step first : Nat) : Nat → Nat → List Byte → List SBlock
  | 0, _, _ => []
  | fuel + 1, done, bs =>
    if bs.isEmpty then []
    else
      let e := kindBytes st.kind
      let n := min (65536 / e) (bs.length / e)
      st.newBlock plan { g with nulls := (g.nulls.drop done).take n } step (first + done * st.mS) n (bs.take (n * e)) :: st.splitBlocks plan g step first fuel (done + n) (bs.drop (n * e))

/-- An output sample joins the open block, or opens one (R181): never across a change of state, a step, plan, tone or range. A group that a step falls into stays alone. -/
def Stream.append (st : Stream) (plan : Nat) (g : Group) (step first points : Nat) (payload : List Byte) : Stream :=
  if 65536 < payload.length then
    let st := st.closeBlock
    { st with ready := st.ready ++ st.splitBlocks plan g step first (payload.length / 65536 + 1) 0 payload }
  else
    let most := 65536 / max 1 payload.length
    let joins (b : SBlock) : Bool := b.plan == plan && b.state == g.state && b.tone == g.tone && b.points == points &&
      b.first == first && b.series + b.samples * step == g.series && b.epoch == b.epochEnd && b.epoch == g.epoch && g.epoch == g.epochEnd
    let b := match st.open_ with
      | some b => if joins b then { b with samples := b.samples + 1, payload := b.payload ++ payload, nulls := b.nulls || g.nulls.any (· == true) }
          else st.newBlock plan g step first points payload
      | none => st.newBlock plan g step first points payload
    let st := match st.open_ with
      | some o => if joins o then st else st.closeBlock
      | none => st
    let st := { st with open_ := some b }
    if most ≤ b.samples then st.closeBlock else st

/-- A group complete: reduced, quantised and put into a block whose input points start at `first`. -/
def Stream.emit (st : Stream) (plan first : Nat) (g : Group) : Stream × Group :=
  let (vs, carry) := reduceGroup st.kind (st.mS * st.mT) g.sums g.carry
  let el := kindElem st.kind
  let (_, ys, eps) := quantRun el st.k (st.kind == kInc) (max 1 vs.length) vs (st.eps.getD g.tone [])
  let st := if st.k = 0 then st else { st with eps := setAt (st.eps ++ List.replicate (g.tone + 1 - st.eps.length) []) g.tone eps }
  (st.append plan g st.mT first ys.length (elemBytesOf el ys), { g with count := 0, sums := [], carry := carry })

/-- A firing's samples, cut to a range that starts at input point `first`, through one stream of kinds 0 to 3 (R176). -/
def Stream.sample (st : Stream) (at_ : SampleAt) (first : Nat) (pts : List PointSample) : Stream :=
  let tone := if at_.align then 0 else at_.tone
  let old := st.groups.find? (fun g => g.tone == tone)
  let rest := st.groups.filter (fun g => g.tone != tone)
  let start : Group := ⟨tone, [], 0, at_.state, at_.frame, at_.stamp, at_.age, at_.series, [], (old.map (·.carry)).getD [], at_.epoch, at_.epoch⟩
  let cur := if at_.series % st.mT = 0 then some start else match old with
    | some g => if g.count = 0 ∨ g.series + g.count ≠ at_.series then none else some g
    | none => none
  match cur with
  | none => st
  | some g =>
    let g := { g with sums := addLists g.sums (st.pointSums pts), count := g.count + 1, state := weaker g.state at_.state, epochEnd := at_.epoch,
                      nulls := orLists g.nulls (st.pointNulls pts) }
    if g.count = st.mT then
      let (st, g) := st.emit at_.plan first g
      { st with groups := g :: rest }
    else { st with groups := g :: rest }

/-- An alignment step: the open block ends, and the error terms restart (R181, R229). -/
def Stream.step (st : Stream) : Stream := { st.closeBlock with eps := [] }

/-- The new frame 0 of a plan switch: incomplete groups are discarded, carries and error terms restart (R176, R177, R229). -/
def Stream.switched (st : Stream) : Stream := { st.closeBlock with groups := [], eps := [] }

/-! ### Error terms in the groomer context region (R229, R305) -/

/-- Offset in GCTX of the table of feedback terms of a consumer (R305). -/
def Dest.epsTable : Dest → Nat
  | .glacier => 0x400000
  | .ring r => 0x800000 + 0x400000 * r.val
  | .firn f => 0x2800000 + 0x400000 * f.val

/-- The stream has feedback terms that lie in GCTX; those of a stream without grooming, which opens without GCTX, lie with the stream (log entry 279). -/
def Stream.epsInMem (st : Stream) : Bool := st.groomed && st.kind == kInc && st.k != 0

/-- External offset of the terms of a tone: tone by tone, output points ascending (log entry 279). -/
def State.epsAt (s : State) (st : Stream) (tone : Nat) : Nat :=
  let i := match st.dest with
    | .glacier => (s.acq.run.map (fun x => ((x.2.tones.take tone).map (fun t => x.2.points t)).sum)).getD 0
    | _ => tone * (st.count / st.mS)
  s.rgnBase 2 + st.dest.epsTable + 2 * i

/-- The terms of a stream start at 0: it opens, the plan switches, or a step comes (R229). -/
def State.epsClear (s : State) (st : Stream) : State :=
  if st.epsInMem then { s with mem := { s.mem with ext := s.mem.ext.clear (s.rgnBase 2 + st.dest.epsTable) 0x400000 } } else s

/-- A firing's samples through one stream; the sample that completes a group reads its terms from GCTX and writes them back (R176, R229). -/
def State.streamSample (s : State) (at_ : SampleAt) (pts : List PointSample) (st : Stream) : Stream × State :=
  let own := st.range pts
  if !st.epsInMem || (at_.series + 1) % st.mT != 0 then (st.sample at_ st.first own, s)
  else
    let tone := if at_.align then 0 else at_.tone
    let n := 2 * (own.length / st.mS)
    let a := s.epsAt st tone
    let s := s.linesRead a n
    let old := elemsOf 0 (s.extGet a n)
    let st := ({ st with eps := List.replicate tone [] ++ [old] }).sample at_ st.first own
    ({ st with eps := [] }, s.extPut a (elemBytesOf 0 (st.eps.getD tone [])))

/-- CLOSE_MS runs from the moment at which a stream's block opens; `old` are the streams before (R181). -/
def State.blocksTimed (s : State) (old : List Stream) : State :=
  (s.red.streams.filter (fun st => match st.open_ with
    | none => false
    | some b => (old.find? (fun o => o.id == st.id)).all (fun o => o.open_.all (fun x => x.stamp != b.stamp)))).foldl
    (fun (s : State) st => s.timerStart (.block st.id)) s

/-- A firing's samples through the streams of kinds 0 to 3 that are not closing. -/
def State.streamSamples (s : State) (at_ : SampleAt) (pts : List PointSample) : State :=
  let (sts, s) := s.red.streams.foldl (fun (acc : List Stream × State) st =>
    if st.kind ≤ kAmp ∧ st.closing.isNone then
      let (st, s) := acc.2.streamSample at_ pts st
      (acc.1 ++ [st], s)
    else (acc.1 ++ [st], acc.2)) ([], s)
  { s with red := { s.red with streams := sts } }.blocksTimed s.red.streams

/-- An alignment step reaches the streams (R181, R229). -/
def State.streamsStep (s : State) : State :=
  let s := { s with red := { s.red with streams := s.red.streams.map Stream.step } }
  s.red.streams.foldl State.epsClear s

/-! ### Energies (R178, R179) -/

/-- Cells in use for a point count. -/
def cellCount (points c : Nat) : Nat := min 16384 (points / 2 ^ c)

/-- P of the series the energy stage follows: the tone of RED_E_CFG under ALIGN = 0, with no points where the plan has no such tone (log entry 267). -/
def State.energyPoints (s : State) (p : Plan) : Nat :=
  if p.align then p.pLeast else ((p.tones[s.fld Reg.RED_E_CFG_TONE]?).map (fun t => p.points t)).getD 0

/-- x of each cell for one sample: the sum of Δ over its points. -/
def cellSums (pts : List PointSample) (c cells : Nat) : List Int := (runsOf (2 ^ c) cells (pts.map (·.delta))).map List.sum

/-- Sums over halves of consecutive runs of 2^l samples: Σ of the squared details of level l. -/
def haarEnergy (xs : List Int) (l : Nat) : Nat :=
  ((runsOf (2 ^ l) (xs.length / 2 ^ l) xs).map (fun r =>
    let d := (r.take (2 ^ (l - 1))).sum - (r.drop (2 ^ (l - 1))).sum
    (d * d).toNat)).sum

/-- E_0 to E_7 of a cell from its samples of one interval (R178). -/
def cellBands (xs : List Int) (e c : Nat) : List Nat :=
  (List.range 8).map (fun b => satN 32 (haarEnergy xs (b + 1) / 2 ^ (e + c)))

/-- The energy of a zone from the cells' bands (R179). -/
def zoneEnergy (bands : List (List Nat)) (first cells mask : Nat) : Nat :=
  let tot := (((bands.drop first).take cells).map (fun (bs : List Nat) =>
    ((bs.zipIdx).map (fun (eb : Nat × Nat) => if mask.testBit eb.2 then eb.1 else 0)).sum)).sum
  satU 32 (divRne tot (max 1 cells))

/-- A zone reports: enabled, with cells, all of them in use (R179). -/
def State.zoneLive (s : State) (z cells : Nat) : Bool :=
  let n := s.fld Reg.RED_ZONE_CFG_CELLS z
  s.on Reg.RED_ZONE_CFG_EN z && decide (0 < n) && decide (s.fld Reg.RED_ZONE_CFG_FIRST_CELL z + n ≤ cells)

/-- The level of zone `z` set. -/
def State.setZone (s : State) (z : Nat) (b : Bool) : State :=
  if b then s.orF Reg.RED_ZONE_STATE (2 ^ (z % 32)) (z / 32) else s.clrF Reg.RED_ZONE_STATE (2 ^ (z % 32)) (z / 32)

/-- The level of zone `z` (R179). -/
def State.zoneHigh (s : State) (z : Nat) : Bool := (s.fld Reg.RED_ZONE_STATE (z / 32)).testBit (z % 32)

/-- A write of RED_ZONE_CFG: a zone that no longer reports is low, with energy 0, from then on (R179). -/
def State.zoneWritten (s : State) (z : Nat) : State :=
  if s.zoneLive z (s.fld Reg.RED_E_STATUS) then s
  else { s.setZone z false with red := { s.red with zones := setAt s.red.zones z 0 } }

/-- The level of a zone after an interval of energy `e`; with THR_LO above THR_HI the upper threshold goes first (R179, log entry 266). -/
def State.zoneLevel (s : State) (z e : Nat) : State :=
  if 256 * s.fld Reg.RED_ZONE_HI_THR_HI z < e then s.setZone z true
  else if e < 256 * s.fld Reg.RED_ZONE_LO z then s.setZone z false
  else s

/-- Every zone from the bands of the interval that ended. -/
def State.zonesDone (s : State) (bands : List (List Nat)) : State :=
  let es := (List.range 256).map (fun z => if s.zoneLive z bands.length then
    zoneEnergy bands (s.fld Reg.RED_ZONE_CFG_FIRST_CELL z) (s.fld Reg.RED_ZONE_CFG_CELLS z) (s.fld Reg.RED_ZONE_HI_BANDS z) else 0)
  let s := { s with red := { s.red with bands := bands, zones := es } }
  (es.zipIdx).foldl (fun (s : State) ez =>
    if s.zoneLive ez.2 bands.length then s.zoneLevel ez.2 ez.1 else s.setZone ez.2 false) s

/-- A firing's samples through the energy stage: they join the interval, which starts at a multiple of 2^e (R178). -/
def State.energySample (s : State) (at_ : SampleAt) (pts : List PointSample) : State :=
  let e := s.fld Reg.RED_E_CFG_INTERVAL
  if at_.align || at_.tone == s.fld Reg.RED_E_CFG_TONE then
    let x := cellSums pts (s.fld Reg.RED_E_CFG_CELL) (s.fld Reg.RED_E_STATUS)
    if at_.series % 2 ^ e = 0 then
      { s with red := { s.red with cells := [x], cellsAt := at_.series, cellsState := at_.state, cellsFrame := at_.frame,
                                   cellsStamp := at_.stamp, cellsAge := at_.age } }
    else if s.red.cells.isEmpty || decide (2 ^ e ≤ s.red.cells.length) then s
    else { s with red := { s.red with cells := x :: s.red.cells, cellsState := weaker s.red.cellsState at_.state } }
  else s

/-- A stream element of BAND or ZONE put into its block. -/
def Stream.energy (st : Stream) (plan : Nat) (g : Group) (step : Nat) (bands : List (List Nat)) (zones : List Nat) : Stream :=
  if st.kind = kBand then
    let cs := (bands.drop st.first).take st.count
    st.append plan g step st.first cs.length ((cs.map (fun (bs : List Nat) => (bs.map (fun e => leBytes 4 e)).flatten)).flatten)
  else if st.kind = kZone then st.append plan g step 0 256 ((zones.map (fun e => leBytes 4 e)).flatten)
  else st

/-- An energy interval has all its samples and waits for ENERGY_INTERVAL (R178). -/
def State.energyWhole (s : State) : Bool := s.red.cells.length == 2 ^ s.fld Reg.RED_E_CFG_INTERVAL

/-- The end of an energy interval: bands, zones, and the BAND and ZONE streams (R178, R179); nothing when the interval was cut short. -/
def State.energyDone (s : State) (plan : Nat) : State :=
  let e := s.fld Reg.RED_E_CFG_INTERVAL
  if s.red.cells.length ≠ 2 ^ e then s
  else
    let rows := s.red.cells.reverse
    let n := s.fld Reg.RED_E_STATUS
    let bands := (List.range n).map (fun c => cellBands (rows.map (fun (r : List Int) => r.getD c 0)) e (s.fld Reg.RED_E_CFG_CELL))
    let g : Group := ⟨if s.red.cellsState = alOff then s.fld Reg.RED_E_CFG_TONE else 0, [], 0, s.red.cellsState, s.red.cellsFrame,
      s.red.cellsStamp, s.red.cellsAge, s.red.cellsAt, [], [], s.ph.steps, s.ph.steps⟩
    let s := s.zonesDone bands
    { s with red := { s.red with cells := [], streams := s.red.streams.map (fun (st : Stream) => st.energy plan g (2 ^ e) bands s.red.zones) } }.blocksTimed
      s.red.streams

end Sys2Proof.Machine
end

