-- ==== Sys2Proof/Machine/Tiu.lean ====
section
/-! DEFINITION. The time-interval unit (R381 to R392): inputs, timestamps, interval channels, launch and reference delays, and code-density calibration. -/

namespace Sys2Proof.Machine

/-! ### Inputs (R381, R382) -/

/-- The input feeds a running section, as its encoder or its index. -/
def State.feedsSection (s : State) (i : Nat) : Bool := s.tiu.secs.any (fun o => o.any (fun k => k.running && (k.enc == i || k.index == i)))

/-- The input is being calibrated. -/
def State.tiCalibrating (s : State) (i : Nat) : Bool := s.tiu.cal.any (fun c => c.input == i)

/-- TIU_CONFIG (R381, R382). -/
def execTiuConfig (h : Fin 256) (s : State) : Out :=
  match s.cmd? h.val 0xC0 with
  | none => .next s
  | some x =>
    let (i, m, p) := (x.p 0, x.p 1, x.p 2)
    let elec := m % 4
    let edge := bits m 3 2
    .next (if 7 < i then s.complete h.val stInvalid 24 0 0
      else if elec = 3 ∨ edge = 3 ∨ (bit m 4 && elec != 2) = true ∨ 32 ≤ m then s.complete h.val stInvalid 28 0 0
      else if 8 < p then s.complete h.val stInvalid 32 0 0
      else if s.tiCalibrating i then s.complete h.val stBusy 0xC1 0 0
      else if s.feedsSection i then s.complete h.val stBusy 0xC2 0 0
      else
        let moved := s.fld Reg.TIU_IN_CFG_ELEC i != elec || s.fld Reg.TIU_IN_CFG_EDGE i != edge || s.on Reg.TIU_IN_CFG_FILTER i != bit m 4 ||
          s.fld Reg.TIU_IN_CFG_P i != p
        let s := (((s.setF Reg.TIU_IN_CFG_ELEC elec i).setF Reg.TIU_IN_CFG_EDGE edge i).setB Reg.TIU_IN_CFG_FILTER (bit m 4) i).setF
          Reg.TIU_IN_CFG_P p i
        let s := if moved && decide (i < 2) then
            (({ s with tiu := { s.tiu with done := [] } }).setF Reg.TIU_LAUNCH_DLY 0).setF Reg.TIU_REF_DLY 0
          else s
        s.complete h.val stOk 0 0 0)

/-! ### Timestamps (R384, R385, R391) -/

/-- Width of code `k` of input `i` in 1/1,024 bin (R391). -/
def State.codeWidth (s : State) (i k : Nat) : Nat := s.fld Reg.TIU_CAL_TAB (i * 128 + k)

/-- The centre of a code in whole bins, rounded half to even; 128 carries 1 ns (R385). -/
def State.codeCentre (s : State) (i k : Nat) : Nat :=
  (divRne ((2 * ((List.range k).map (s.codeWidth i)).sum + s.codeWidth i k : Nat) : Int) 2048).toNat

/-- Whether a passed edge at `t` bins is lost, and the input after it: dead time of 2.5 ns, and a queue of 16 that drains one edge per 4 ns (R384). -/
def TiIn.pass (x : TiIn) (t now : Nat) : Bool × TiIn :=
  let fill := x.fill - (t - x.fillAt)
  let dead := x.last.any (fun l => decide (t < l + 320))
  let full := decide (15 * 512 < fill)
  let lost := dead || full
  (lost, { x with last := some t, fill := if lost then fill else fill + 512, fillAt := t, seenAt := some now })

/-- The launch and reference edges that an edge at `t` bins of the time base makes (R389). -/
def Launch.edge (f : Launch) (i t win : Nat) : Launch :=
  if i = 0 then
    if f.launch.isNone && decide (f.start * 128 ≤ t) && decide (t ≤ f.start * 128 + 4000 * 128) then { f with launch := some t } else f
  else if i = 1 then
    if f.ref.isNone && f.launch.any (fun l => decide (l ≤ t) && decide (t ≤ l + win * 128)) then { f with ref := some t } else f
  else f

/-- A firing's chirp start noted while TI0 is on (R389). -/
def State.launchFire (s : State) (start : Nat) : State :=
  if s.on Reg.TIU_IN_CFG_ELEC 0 then { s with tiu := { s.tiu with firings := s.tiu.firings ++ [⟨start, none, none⟩] } } else s

/-- The mean of delays in 1/16 bin, its rounding left open (R389). -/
def State.delayMean (s : State) (F : Field) (ds : List Int) : State :=
  if ds.isEmpty then s.setF F 0
  else
    let (m, s) := s.freeRound (16 * ds.sum) ds.length
    s.setS F m

/-- The two running means over the last 64 firings (R389). -/
def State.launchMeans (s : State) : State :=
  let ls := s.tiu.done.filterMap (fun f => f.launch.map (fun l => (l : Int) - f.start * 128))
  let rs := s.tiu.done.filterMap (fun f => match f.launch, f.ref with
    | some l, some r => some ((r : Int) - l)
    | _, _ => none)
  (s.delayMean Reg.TIU_LAUNCH_DLY ls).delayMean Reg.TIU_REF_DLY rs

/-- Firings whose windows have passed are closed: a miss is counted, and the means are taken anew (R389). -/
def State.launchSettle (s : State) : State :=
  let win := s.fld Reg.TIU_REF_WIN
  let past (f : Launch) : Bool := match f.launch with
    | none => decide (f.start + 4000 < s.now)
    | some l => f.ref.isSome || decide (l / 128 + win < s.now)
  let (closed, live) := s.tiu.firings.partition past
  if closed.isEmpty then s
  else
    let s := s.addF Reg.TIU_LAUNCH_MISS (closed.filter (fun f => f.launch.isNone)).length
    ({ s with tiu := { s.tiu with firings := live, done := (closed.reverse ++ s.tiu.done).take 64 } }).launchMeans

/-- A frame starts: TI0_MISS shows whether the frame before it held no launch edge (R389). -/
def State.launchFrame (s : State) (firstFrame : Bool) : State :=
  { s with tiu := { s.tiu with ti0Miss := !firstFrame && !s.tiu.frameLaunch, frameLaunch := false } }

/-- Level of event TI0_MISS: low while acquisition is stopped, and while TI0 is off or calibrated (R389). -/
def State.ti0MissLevel (s : State) : Bool := s.tiu.ti0Miss && s.acqRuns && s.on Reg.TIU_IN_CFG_ELEC 0 && !s.tiCalibrating 0

/-- An edge kept for the interval channels: in the edges of its input, and as a START of each channel that names it (R388). -/
def State.intervalEdge (s : State) (i t : Nat) : State :=
  let keep (es : List Nat) : List Nat := t :: es.filter (fun u => decide (t ≤ u + 140000 * 128))
  let starts := s.tiu.starts.zipIdx.map (fun (x : List (Nat × Nat) × Nat) =>
    if s.fld Reg.TIU_IV_CFG_START x.2 = i ∧ s.on Reg.TIU_IV_CFG_WINDOW_NS x.2 then x.1 ++ [(t, s.tick)] else x.1)
  { s with tiu := { s.tiu with edges := vmod s.tiu.edges i keep, starts := starts } }

/-- A passed edge of input `i` counted and timestamped; its timestamp in bins of the time base, or none in WATCH (R384, R385, R401). -/
def State.tiPassed (s : State) (i cycle code : Nat) : Option Nat × State :=
  let c := s.codeCentre i code
  let t := cycle * 128 + c
  let (lost, x) := (s.tiu.ins.getD i TiIn.reset).pass t s.tick
  let s := { s with tiu := { s.tiu with ins := vset s.tiu.ins i x } }
  if lost then (none, (s.incF Reg.TIU_IN_LOST i).setF Reg.TIU_IN_STATUS_LOST 1 i)
  else
    let s := s.set64 Reg.TIU_IN_COUNT_LO Reg.TIU_IN_COUNT_HI (s.fld64 Reg.TIU_IN_COUNT_LO Reg.TIU_IN_COUNT_HI i + 2 ^ s.fld Reg.TIU_IN_CFG_P i) i
    if s.pstate = stWatch then (none, s)
    else
      let tb := s.now * 128 + c
      let s := (s.set64 Reg.TIU_IN_LAST_LO Reg.TIU_IN_LAST_HI (tb / 128) i).setF Reg.TIU_IN_LAST_FRAC_FRAC (tb % 128) i
      let s := (s.incF Reg.TIU_IN_LAST_FRAC_SEQ i).intervalEdge i t
      let s := if i = 6 then s.pulse 0xBC else if i = 7 then s.pulse 0xBD else s
      let live := s.tiu.firings.map (fun (f : Launch) => f.edge i tb (s.fld Reg.TIU_REF_WIN))
      let hit := i == 0 && decide (live ≠ s.tiu.firings)
      let s := { s with tiu := { s.tiu with firings := live, frameLaunch := s.tiu.frameLaunch || hit } }
      (some tb, s.launchSettle)

/-- ACTIVITY: an edge has passed within the last 1 ms (R401). -/
def State.tiActive (s : State) (i : Nat) : Bool :=
  (s.tiu.ins.getD i TiIn.reset).seenAt.any (fun t => decide (s.tick < t + ticksMs 1))

/-! ### Intervals (R388) -/

/-- The STOP edge nearest to `t` within ±w bins, the later of two equally near. -/
def nearest (t w : Nat) (es : List Nat) : Option Nat :=
  let d (u : Nat) : Nat := if t ≤ u then u - t else t - u
  (es.filter (fun u => decide (d u ≤ w))).foldl (fun (best : Option Nat) u =>
    match best with
    | none => some u
    | some b => if d u < d b ∨ (d u = d b ∧ b < u) then some u else best) none

/-- The mean of the last 2^AVG results in 1/16 bin, of as many as there are (R388). -/
def State.ivMean (s : State) (v : Nat) : Int :=
  let rs := (s.tiu.results.getD v []).take (2 ^ min 10 (s.fld Reg.TIU_IV_CFG_AVG v))
  if rs.isEmpty then 0 else divRne (16 * rs.sum) rs.length

/-- INTERVAL_RESULT (R388): the oldest START of a channel gets its result, WINDOW_NS + 100 ns after it. -/
def execIntervalResult (v : Fin 4) (s : State) : Out :=
  let w := s.fld Reg.TIU_IV_CFG_WINDOW_NS v.val
  match (if s.runs 7 then s.tiu.starts.getD v.val [] else []) with
  | [] => .next s
  | (t, from_) :: rest =>
    if s.tick < from_ + (w + 104) / 5 then .next s
    else
    let s := { s with tiu := { s.tiu with starts := vset s.tiu.starts v.val rest } }
    if w = 0 then .next s
    else match nearest t (w * 128) (s.tiu.edges.getD (s.fld Reg.TIU_IV_CFG_STOP v.val) []) with
      | none => .next (s.incF Reg.TIU_IV_MISS v.val)
      | some u =>
        let d := (u : Int) - t
        let r := clampInt (-(2 ^ 31 - 1)) (2 ^ 31 - 1) d
        let s := { s with tiu := { s.tiu with results := vmod s.tiu.results v.val (fun rs => (r :: rs).take 1024) } }
        let s := ((s.setS Reg.TIU_IV_RESULT r v.val).setB Reg.TIU_IV_FLAGS_NEAR (decide (d = 0)) v.val).setB Reg.TIU_IV_FLAGS_ORDER
          (decide (d < 0)) v.val
        let s := (s.setB Reg.TIU_IV_FLAGS_RANGE (decide (r ≠ d)) v.val).incF Reg.TIU_IV_FLAGS_SEQ v.val
        .next (s.setS Reg.TIU_IV_MEAN (s.ivMean v.val) v.val)

/-! ### Calibration (R391, R392) -/

/-- The next input under test, or the end of the calibration. -/
def State.tiuCalNext (s : State) (c : TiuCal) : State :=
  match c.left with
  | i :: rest => ({ s.timersStart (.density :: c.handle.toList.map .handle) with tiu := { s.tiu with cal := some { c with input := i, left := rest } } }).setF Reg.TIU_STATUS_CAL_BUSY (2 ^ i)
  | [] =>
    let s := ({ s with tiu := { s.tiu with cal := none } }).setF Reg.TIU_STATUS_CAL_BUSY 0
    match c.handle with
    | some h => s.complete h (if c.failed then stPartial else stOk) 0 c.worst 0
    | none => s

/-- TIU_CAL (R392). -/
def execTiuCal (h : Fin 256) (s : State) : Out :=
  match s.cmd? h.val 0xC1 with
  | none => .next s
  | some x =>
    let m := x.p 0
    let ins := (List.range 8).filter (fun i => m.testBit i)
    .next (if m = 0 ∨ 255 < m then s.complete h.val stInvalid 24 0 0
      else if ins.any s.feedsSection then s.complete h.val stBusy 0xC2 0 0
      else if s.tiu.cal.isSome then s.complete h.val stBusy 0xC1 0 0
      else (s.takeUp h.val).tiuCalNext ⟨some h.val, ins, 0, 0, false⟩)

/-- The code widths of a test (R391). -/
def codeWidths (counts : List Nat) : List Nat := (List.range 128).map (fun k => (shrRne ((counts.getD k 0 : Nat) : Int) 3).toNat)

/-- The maximum DNL of a table (R391). -/
def maxDnl (ws : List Nat) : Nat := (ws.map (fun (w : Nat) => ((w : Int) - 1024).natAbs)).foldl max 0

/-- The outcome of a test of input `i`: its DNL, and a new table or CAL_FAIL (R391). -/
def State.densityPut (s : State) (i : Nat) (counts : List Nat) : State :=
  let ws := codeWidths counts
  let s := s.setF Reg.TIU_IN_DNL (satN 16 (maxDnl ws)) i
  if maxDnl ws ≤ 512 then ws.zipIdx.foldl (fun (s : State) (w : Nat × Nat) => s.setF Reg.TIU_CAL_TAB w.1 (i * 128 + w.2)) { s with cal := { s.cal with tiu := true } }
  else s.setF Reg.TIU_IN_STATUS_CAL_FAIL 1 i

/-- CODE_DENSITY_DONE (R391, R392): the counts of the test under way, which takes 0.35 s ± 10 %; a table replaces the old one when its maximum DNL is at most 512. -/
def execCodeDensityDone (counts : List Nat) (s : State) : Out :=
  match (if s.runs 7 && s.timerDue .density (ticksMs 315) then s.tiu.cal else none) with
  | none => .next s
  | some c =>
    let dnl := maxDnl (codeWidths counts)
    .next ((s.densityPut c.input counts).tiuCalNext { c with worst := max c.worst dnl, failed := c.failed || decide (512 < dnl) })

end Sys2Proof.Machine
end

