-- ==== Sys2Proof/Machine/Skate.lean ====
section
/-! DEFINITION. The skate frame (R393 to R400): belt sections, their position and speed, their energy maps, and the edges of the time-interval inputs that drive them. -/

namespace Sys2Proof.Machine

/-! ### Sections (R393, R394) -/

/-- Bytes of a map. -/
def mapBytes : Nat := 147520

/-- The section of a number. -/
def State.sec? (s : State) (k : Nat) : Option SkSec := s.tiu.secs.getD k none

/-- The section of a number that runs. -/
def State.runningSec (s : State) (k : Nat) : Option SkSec := (s.sec? k).filter (·.running)

/-- A section set. -/
def State.setSec (s : State) (k : Nat) (x : SkSec) : State := { s with tiu := { s.tiu with secs := vset s.tiu.secs k (some x) } }

/-- A SKATE_START that waits for section `k` to stop. -/
def State.secWait (s : State) (k : Nat) : Option SkWait := s.tiu.waits.getD k none

/-- A queued SKATE_START set or removed. -/
def State.setSecWait (s : State) (k : Nat) (w : Option SkWait) : State := { s with tiu := { s.tiu with waits := vset s.tiu.waits k w } }

/-- SK_RUN, SK_STALL and STATE of a section shown: 0 OFF, 1 RUNNING, 2 STALLED. -/
def State.showSec (s : State) (k st : Nat) : State :=
  let s := s.setF Reg.TIU_SK_STATUS st k
  let s := if st = 0 then s.clrF Reg.TIU_STATUS_SK_RUN (2 ^ k) else s.orF Reg.TIU_STATUS_SK_RUN (2 ^ k)
  if st = 2 then s.orF Reg.TIU_STATUS_SK_STALL (2 ^ k) else s.clrF Reg.TIU_STATUS_SK_STALL (2 ^ k)

/-- The section that a record spells. -/
def parseSec (bs : List Byte) (h : Option Nat) : SkSec :=
  { handle := h, enc := field bs 6 1, index := field bs 7 1, first := field bs 8 4, cells := field bs 12 4, cpr := field bs 16 4,
    beltMm := field bs 20 4, cellUm := sx 32 (field bs 24 4), mapOfs := field bs 28 4, stallMs := field bs 32 2, avg := field bs 34 1,
    running := true, stoppers := [], edges := [], samples := [], since := 0, updates := 0, skipped := 0, smear := 0 }

/-- The offset of the first field of a section record outside its range (R394). -/
def secBad (bs : List Byte) (cellCount : Nat) : Option Nat :=
  let x := parseSec bs none
  firstBad [(field bs 0 4 != 0x45544B53, 0), (field bs 4 2 != 1, 4), (decide (x.enc < 2) || decide (7 < x.enc), 6),
    (x.index != 0xFF && (decide (x.index < 2) || decide (7 < x.index) || x.index == x.enc), 7), (decide (cellCount ≤ x.first), 8),
    (x.cells == 0 || decide (16384 < x.cells) || decide (cellCount < x.first + x.cells), 12),
    (decide (x.cpr < 16) || decide (2 ^ 31 ≤ x.cpr), 16), (decide (x.beltMm < 1000) || decide (10000000 < x.beltMm), 20),
    (x.cellUm == 0 || decide (100000000 < x.cellUm.natAbs), 24), (x.mapOfs % 64 != 0 || decide (0x7FFF00 < x.mapOfs + mapBytes), 28),
    (x.stallMs == 0, 32), (decide (8 < x.avg), 34), (field bs 35 5 != 0, 35)]

/-- Two spans share a byte. -/
def overlaps (a n b m : Nat) : Bool := decide (a < b + m) && decide (b < a + n)

/-- The map overlaps the map of another running section, or the ring of an open firn stream (R394). -/
def State.mapTaken (s : State) (k ofs : Nat) : Bool :=
  (List.range 4).any (fun j => j != k && (s.runningSec j).any (fun x => overlaps ofs mapBytes x.mapOfs mapBytes)) ||
  (List.range 4).any (fun f => s.red.streams.any (fun st => st.dest == Dest.firn (Fin.ofNat 4 f)) &&
    overlaps ofs mapBytes (s.mem.firn.readLe (0x7FFF00 + 64 * f + 8) 4) (s.mem.firn.readLe (0x7FFF00 + 64 * f + 12) 4))

/-- The header of a section's map (R399). -/
def State.secHeader (s : State) (k : Nat) (x : SkSec) (last : Nat) : List Byte :=
  withCrc (leBytes 4 0x50414D4B ++ leBytes 1 k ++ leBytes 1 x.avg ++ zeros 2 ++ leBytes 4 x.updates ++ leBytes 4 (s.fld Reg.TIU_SK_REVS k) ++
    leBytes 8 last ++ leBytes 4 x.cpr ++ leBytes 4 x.beltMm ++ leBytes 4 x.skipped ++ leBytes 4 x.smear ++ zeros 20)

/-- Bytes written into firn memory. -/
def State.firnPut (s : State) (a : Nat) (bs : List Byte) : State := { s with mem := { s.mem with firn := s.mem.firn.writeN a bs } }

/-- Section `k` starts: its map cleared, its position 0 (R394). -/
def State.secStart (s : State) (k : Nat) (x : SkSec) : State :=
  let x := { x with since := s.now }
  let s := (s.timerStart (.stall k)).resetFieldsOf [Reg.TIU_SK_POS, Reg.TIU_SK_REVS, Reg.TIU_SK_SPEED, Reg.TIU_SK_UPDATES, Reg.TIU_SK_INDEX_ERR] k
  let s := { s with mem := { s.mem with firn := s.mem.firn.clear x.mapOfs mapBytes } }
  ((s.firnPut x.mapOfs (s.secHeader k x 0)).setSec k x).showSec k 1

/-- The encoder and the index input of a section are on (R30). -/
def State.encOn (s : State) (x : SkSec) : Bool := s.on Reg.TIU_IN_CFG_ELEC x.enc && (x.index == 0xFF || s.on Reg.TIU_IN_CFG_ELEC x.index)

/-- The cells that a section's range is held against: those in use, or the most there can be while no acquisition runs, which then decides the outcome (R30, R394; log entry 278). -/
def State.cellLimit (s : State) : Nat := if s.acqRuns then s.fld Reg.RED_E_STATUS else 16384

/-- SKATE_START (R394, R475). -/
def execSkateStart (h : Fin 256) (d : CmdData) (s : State) : Out :=
  match s.cmd? h.val 0xC2 with
  | none => .next s
  | some c =>
    let k := c.p 0
    .next (if 3 < k then s.complete h.val stInvalid 24 0 0
      else s.withRecord c d 40 (fun s bs =>
        let x := parseSec bs (some h.val)
        match secBad bs s.cellLimit with
        | some o => s.complete h.val stInvalid 0xFF o 0
        | none =>
          if s.mapTaken k x.mapOfs then s.complete h.val stInvalid 0xFF 28 0
          else match s.runningSec k with
            | some y =>
              if y.stoppers.isEmpty || (s.secWait k).isSome then s.complete h.val stBusy 0xC2 0 0
              else (s.takeUp h.val).setSecWait k (some ⟨h.val, x⟩)
            | none => if s.acqRuns && s.encOn x then (s.takeUp h.val).secStart k x else s.complete h.val stNotReady 6 0 0))

/-- Section `k` stops: its handle and the stopping handles complete, and a queued start begins (R400, R475). -/
def State.secEnd (s : State) (k st det : Nat) : State :=
  match s.runningSec k with
  | none => s
  | some x =>
    let revs := s.fld Reg.TIU_SK_REVS k
    let s := (s.setSec k { x with running := false, handle := none, stoppers := [], samples := [] }).showSec k 0
    let s := match x.handle with
      | some h => s.complete h st det revs 0
      | none => s
    let s := x.stoppers.foldl (fun (s : State) h => s.complete h stOk 0 revs 0) s
    match s.secWait k with
    | none => s
    | some w =>
      let s := s.setSecWait k none
      if s.acqRuns && s.encOn w.sec && s.acq.ending.isNone then s.secStart k w.sec else s.complete w.handle stNotReady 6 0 0

/-- Every section stops. -/
def State.secsEnd (s : State) (st det : Nat) : State := (List.range 4).foldl (fun (s : State) k => s.secEnd k st det) s

/-- A queued SKATE_START cancelled by a request to shut down (R475). -/
def State.secUnqueue (s : State) (k : Nat) : State :=
  match s.secWait k with
  | some w => (s.setSecWait k none).complete w.handle stAborted 3 0 0
  | none => s

/-- SKATE_STOP (R400, R475). -/
def execSkateStop (h : Fin 256) (s : State) : Out :=
  match s.cmd? h.val 0xC3 with
  | none => .next s
  | some c =>
    .next (match s.named (c.p 0) with
      | none => s.complete h.val stStale 0 0 0
      | some y =>
        if y.op ≠ 0xC2 then s.complete h.val stStale 0 0 0
        else if y.done then s.stopIdle h.val y false
        else match (List.range 4).find? (fun k => (s.secWait k).any (fun w => w.handle == y.idx)) with
        | some k => (s.secUnqueue k).complete h.val stOk 0 (s.fld Reg.TIU_SK_REVS k) 0
        | none =>
          match (List.range 4).find? (fun k => (s.runningSec k).any (fun x => x.handle == some y.idx)) with
          | none => s.stopIdle h.val y false
          | some k =>
            let s := (s.takeUp h.val).secUnqueue k
            match s.runningSec k with
            | some x => s.setSec k { x with stoppers := x.stoppers ++ [h.val] }
            | none => s)

/-- SKATE_READ (R400). -/
def execSkateRead (h : Fin 256) (d : CmdData) (s : State) : Out :=
  match s.cmd? h.val 0xC4 with
  | none => .next s
  | some c =>
    let k := c.p 0
    .next (if 3 < k then s.complete h.val stInvalid 24 0 0
      else match s.sec? k with
        | none => s.complete h.val stNotReady 6 0 0
        | some x =>
          s.giveData c d (s.mem.firn.readN x.mapOfs mapBytes))

/-- A plan switch stops the sections whose cells pass the new cell count (R400). -/
def State.secsSwitch (s : State) : State :=
  (List.range 4).foldl (fun (s : State) k =>
    if (s.runningSec k).any (fun x => decide (s.fld Reg.RED_E_STATUS < x.first + x.cells)) then s.secEnd k stAborted 3 else s) s

/-! ### Position and speed (R395 to R397) -/

/-- An encoder edge of section `k` with timestamp `t` in bins. -/
def State.secEncoder (s : State) (k : Nat) (x : SkSec) (t : Nat) : State :=
  let p := s.fld Reg.TIU_IN_CFG_P x.enc
  let n := s.fld Reg.TIU_SK_POS k + 2 ^ p
  let s := (s.setF Reg.TIU_SK_POS (n % x.cpr) k).addF Reg.TIU_SK_REVS (n / x.cpr) k
  let prev := x.edges.head?
  let x := { x with edges := ((t, (prev.map (·.2)).getD 0 + 2 ^ p) :: x.edges.takeWhile (fun e => decide (t ≤ e.1 + 15360000000000))) }
  let s := (s.timerStart (.stall k)).setSec k x
  match prev with
  | none => s
  | some (u, _) =>
    let stalled := s.fld Reg.TIU_SK_STATUS k == 2
    let s := if stalled && decide (t - u ≤ x.stallMs * 128000000) then s.showSec k 1 else s
    if s.fld Reg.TIU_SK_STATUS k = 2 ∨ t ≤ u then s
    else s.setF Reg.TIU_SK_SPEED (satU 32 (divRne ((2 ^ p * x.beltMm * 10 ^ 12 * 128 : Nat) : Int) ((x.cpr * (t - u) : Nat) : Int))) k

/-- An index edge of section `k` (R397). -/
def State.secIndex (s : State) (k : Nat) (x : SkSec) : State :=
  let n := s.fld Reg.TIU_SK_POS k
  let r := if x.cpr ≤ 2 * n then x.cpr else 0
  let s := (s.setS Reg.TIU_SK_INDEX_ERR ((n : Int) - r) k).setF Reg.TIU_SK_POS 0 k
  if r = 0 then s else s.incF Reg.TIU_SK_REVS k

/-- TI_EDGE (R383 to R385, R388 to R390, R395, R397): an edge of an input that is on and not under test, and a pulse that the filter suppresses. -/
def execTiEdge (i : Fin 8) (e : TiEvent) (s : State) : Out :=
  if !s.on Reg.TIU_IN_CFG_ELEC i.val || s.tiCalibrating i.val then .next s
  else match e with
    | .glitch => .next (if s.on Reg.TIU_IN_CFG_FILTER i.val then s.incF Reg.TIU_IN_GLITCH i.val else s)
    | .edge cycle code =>
      let (t, s) := s.tiPassed i.val cycle.toNat code.val
      match t with
      | none => .next s
      | some t =>
        .next ((List.range 4).foldl (fun (s : State) k =>
          match s.runningSec k with
          | none => s
          | some x =>
            if x.enc = i.val then s.secEncoder k x t else if x.index = i.val then s.secIndex k x else s) s)

/-- ENCODER_STALL (R396): STALL_MS have passed since the last edge of the encoder, or since the section started. -/
def execEncoderStall (k : Fin 4) (s : State) : Out :=
  .next (if (s.runningSec k.val).any (fun x => s.timerDue (.stall k.val) (ticksMs x.stallMs)) && s.fld Reg.TIU_SK_STATUS k.val == 1 then (s.showSec k.val 2).setF Reg.TIU_SK_SPEED 0 k.val else s)

/-- The fraction of pos(t), as num/den below 1, from the two newest edges (R395). -/
def edgeFraction (edges : List (Nat × Nat)) (t : Nat) : Nat × Nat :=
  match edges with
  | (a, _) :: (b, _) :: _ => if a ≤ b ∨ t ≤ a then (0, 1) else if (t - a) * 65536 < (a - b) * 65535 then (t - a, a - b) else (65535, 65536)
  | _ => (0, 1)

/-- STAMPs of the first samples of energy intervals that are open or have begun to fire: of the interval being gathered, and of firings still to be processed (R178, R398). -/
def State.energyStamps (s : State) (p : Plan) : List Nat :=
  let e := s.fld Reg.RED_E_CFG_INTERVAL
  let firsts := s.acq.stamps.zipIdx.filterMap (fun x =>
    let n := s.ph.nextN + x.2
    let first := if p.align then n % 2 ^ e = 0 else p.toneAt (n % p.n) = some (s.fld Reg.RED_E_CFG_TONE) ∧ n / p.n % 2 ^ e = 0
    if first then some x.1 else none)
  if s.red.cells.isEmpty then firsts else s.red.cellsStamp :: firsts

/-- t_mid − STAMP of an interval: (2^e − 1)/(2R) in whole ns (R398). -/
def State.halfInterval (s : State) (p : Plan) : Nat :=
  (2 ^ s.fld Reg.RED_E_CFG_INTERVAL - 1) * 5 * p.frameTicks / (2 * (if p.align then p.n else 1))

/-- The t_mid that section `k` has reached and not yet evaluated, the first one. -/
def State.midDue (s : State) (k : Nat) : Option Nat :=
  match s.runningSec k, s.acq.run with
  | some x, some (_, p) =>
    ((s.energyStamps p).map (· + s.halfInterval p)).find? (fun t => decide (x.since ≤ t) && decide (t ≤ s.now) && x.samples.all (fun q => q.time != t))
  | _, _ => none

/-- SKATE_POS_SAMPLE (R398): the time base has reached t_mid of an interval, and section `k` takes its position. -/
def execSkatePosSample (k : Fin 4) (s : State) : Out :=
  match s.runningSec k.val, s.midDue k.val with
  | none, _ => .next s
  | _, none => .next s
  | some x, some t =>
    let (num, den) := edgeFraction x.edges (t * 128)
    .next (s.setSec k.val { x with samples := x.samples ++ [⟨t, s.fld Reg.TIU_SK_POS k.val, num, den, s.fld Reg.TIU_SK_STATUS k.val == 2⟩] })

/-! ### Maps (R398, R399) -/

/-- Map cell m of energy cell `j` of the section: u = (pos/CPR − x_k/(1,000·BELT_MM)) mod 1 in double precision (R398). -/
def SkSec.mapCell (x : SkSec) (q : SkSample) (j : Nat) : Nat :=
  let pos := (Dbl.ofInt q.n).add (.ofRat q.num q.den)
  let xk := (Dbl.ofRat (2 * j + 1) 2).mul (.ofInt x.cellUm)
  let v := (pos.div (.ofInt x.cpr)).sub (xk.div (.ofInt (1000 * x.beltMm)))
  min 4095 ((Dbl.ofInt 4096).mul (v.sub (.ofInt v.floor))).floor.toNat

/-- One energy cell worked into the map at `ofs` (R398). -/
def mapUpdate (m : Memory) (ofs avg cell : Nat) (es : List Nat) : Memory :=
  let ha := ofs + 131136 + 4 * cell
  let hits := m.readLe ha 4
  let m := es.zipIdx.foldl (fun (m : Memory) (e : Nat × Nat) =>
    let a := ofs + 64 + 32 * cell + 4 * e.2
    let old : Int := m.readLe a 4
    m.writeLe a 4 (if hits = 0 then e.1 else (old + Int.fdiv ((e.1 : Int) - old) (2 ^ avg)).toNat)) m
  m.writeLe ha 4 (min (hits + 1) (2 ^ 32 - 1))

/-- Edges counted up to time `t` in bins, with the fraction of R395, as a number over `den`. -/
def posAt (edges : List (Nat × Nat)) (t : Nat) : Nat × Nat :=
  let es := edges.dropWhile (fun e => decide (t < e.1))
  let (num, den) := edgeFraction es t
  ((es.headD (0, 0)).2 * den + num, den)

/-- |Δpos|·4,096 > CPR over an interval from `t0` to `t1` ns (R398). -/
def SkSec.smeared (x : SkSec) (t0 t1 : Nat) : Bool :=
  let (a, da) := posAt x.edges (t0 * 128)
  let (b, db) := posAt x.edges (t1 * 128)
  decide (x.cpr * (da * db) < (b * da - a * db) * 4096)

/-- The energies of an interval worked into the map of section `k`; the section then stops when it was asked to (R398, R400). -/
def State.secApply (s : State) (k t0 t1 : Nat) : State :=
  match s.runningSec k with
  | none => s
  | some x =>
    let due := x.samples.filter (fun q => decide (t0 ≤ q.time))
    let s := match due with
      | [] => s.setSec k { x with samples := [] }
      | q :: rest =>
        if q.stalled then
          let x := { x with samples := rest, skipped := x.skipped + 1 }
          (s.incF Reg.TIU_SK_SKIPPED k).setSec k x
        else
          let sm := x.smeared t0 t1
          let x := { x with samples := rest, updates := x.updates + 1, smear := x.smear + b2n sm }
          let m := (List.range x.cells).foldl (fun (m : Memory) j =>
            mapUpdate m x.mapOfs x.avg (x.mapCell q j) (s.red.bands.getD (x.first + j) [])) s.mem.firn
          let s := ({ s with mem := { s.mem with firn := m } }).setSec k x
          let s := if sm then s.incF Reg.TIU_SK_SMEAR k else s
          (s.setF Reg.TIU_SK_UPDATES x.updates k).firnPut x.mapOfs (s.secHeader k x q.time)
    if x.stoppers.isEmpty then s else s.secEnd k stOk 0

/-- What the energy stage and the sections do of themselves in the present tick: an interval that is complete, or a position at t_mid (R178, R398). -/
def State.beltNow (s : State) : Option Instr :=
  if s.energyWhole then some .energyInterval
  else (findIdxBelow (fun k => (s.midDue k).isSome) 4).map (fun k => .skatePosSample (Fin.ofNat 4 k))

/-- ENERGY_INTERVAL (R178, R398): the energies of an interval are complete. -/
def execEnergyInterval (s : State) : Out :=
  let e := s.fld Reg.RED_E_CFG_INTERVAL
  if !s.energyWhole then .next s
  else
    let t0 := s.red.cellsStamp
    let per : Nat := match s.acq.run with
      | some (_, p) => if p.align then 5 * p.frameTicks * 2 ^ e / p.n else 5 * p.frameTicks * 2 ^ e
      | none => 0
    let s := s.energyDone (s.fld Reg.PRB_PLAN_ID)
    .next ((List.range 4).foldl (fun (s : State) k => s.secApply k t0 (t0 + per)) s)

end Sys2Proof.Machine
end

