-- ==== Sys2Proof/Machine/Groomer.lean ====
section
/-! DEFINITION. Groomer jobs (R241 to R246): GRM_COMPRESS, GRM_DECOMPRESS, GRM_RESUME, GRM_CTX_DROP, the chunks of a job, and saved contexts. -/

namespace Sys2Proof.Machine

/-! ### Slots (R244, R248) -/

/-- Codes of a slot. -/
def slotFree : Nat := 0
def slotActive : Nat := 1
def slotSaved : Nat := 2

/-- The state of a context slot. -/
def State.slotState (s : State) (i : Nat) : Nat := s.fld Reg.GRM_SLOT_STATE (i / 16) / 4 ^ (i % 16) % 4

/-- The state of a context slot set. -/
def State.setSlot (s : State) (i v : Nat) : State :=
  s.setF Reg.GRM_SLOT_STATE (putBits (s.fld Reg.GRM_SLOT_STATE (i / 16)) (2 * (i % 16) + 1) (2 * (i % 16)) v) (i / 16)

/-- External offset of a saved context (R245, R305). -/
def State.ctxOfs (s : State) (i : Nat) : Nat := s.rgnBase 2 + i * 40960

/-- Jobs put on the instances that are free, in the order fetched (R246). -/
def grmAssign : List GJob → List Nat → List GJob
  | [], _ => []
  | j :: js, busy =>
    if j.inst.isSome then j :: grmAssign js busy
    else if !j.compress then { j with inst := some 2 } :: grmAssign js busy
    else match [0, 1].find? (fun i => !busy.contains i) with
      | some i => { j with inst := some i } :: grmAssign js (i :: busy)
      | none => j :: grmAssign js busy

/-- Instances taken, and GRM_STATUS.JOBS shown (R246, R248). -/
def State.grmShow (s : State) : State :=
  let jobs := grmAssign s.grm.jobs (s.grm.jobs.filterMap (·.inst))
  { s with grm := { s.grm with jobs := jobs } }.setF Reg.GRM_STATUS_JOBS jobs.length

/-- A user of the decompress instance waits for its turns; it no longer does (R246). -/
def State.turnJoin (s : State) (h : Nat) : State := { s with grm := { s.grm with turns := s.grm.turns ++ [h] } }
def State.turnLeave (s : State) (h : Nat) : State := { s with grm := { s.grm with turns := s.grm.turns.filter (· != h) } }

/-- A user of the decompress instance has had its turn. -/
def State.turnOver (s : State) (h : Nat) : State :=
  if s.grm.turns.contains h then (s.turnLeave h).turnJoin h else s

/-- User `h` of the decompress instance has the turn. -/
def State.hasTurn (s : State) (h : Nat) : Bool := s.grm.turns.head? == some h

/-- The job of a handle. -/
def State.job? (s : State) (h : Nat) : Option GJob := s.grm.jobs.find? (fun j => j.handle == h)

/-- A job leaves the groomer, its slot in state `v`, and its handle completes; RESULT0 and RESULT1 count whole chunks (R242 to R244). -/
def State.jobEnd (s : State) (j : GJob) (v st det r0 r1 : Nat) : State :=
  let s := { s with grm := { s.grm with jobs := s.grm.jobs.filter (fun x => x.handle != j.handle) } }.turnLeave j.handle
  let s := match j.slot with
    | some i => s.setSlot i v
    | none => s
  (s.grmShow).complete j.handle st det r0 r1

/-- A job ends after its last whole chunk, its slot free. -/
def State.jobStop (s : State) (j : GJob) (st det : Nat) : State := s.jobEnd j slotFree st det j.outDone j.inDone

/-! ### Starting jobs (R241, R244, R246) -/

/-- What keeps a new job from starting: sixteen jobs, or its slot (R244, R246). -/
def State.jobRefused (s : State) (slot : Option Nat) : Option (Nat × Nat) :=
  if 16 ≤ s.grm.jobs.length then some (stBusy, (s.grm.jobs.getLast?.map (·.op)).getD 0)
  else match slot with
    | none => none
    | some i =>
      if s.slotState i = slotActive then some (stBusy, ((s.grm.jobs.find? (fun j => j.slot == some i)).map (·.op)).getD 0)
      else if s.slotState i = slotSaved then some (stLocked, 0)
      else if s.rgnSize 2 = 0 then some (stNotReady, 3)
      else none

/-- A job queued: its slot ACTIVE, and an instance taken when one is free. -/
def State.jobPut (s : State) (j : GJob) : State :=
  let s := s.takeUp j.handle
  let s := match j.slot with
    | some i => s.setSlot i slotActive
    | none => s
  let s := if j.compress then s else s.turnJoin j.handle
  ({ s with grm := { s.grm with jobs := s.grm.jobs ++ [j] } }).grmShow

/-- P4 as a slot (R241). -/
def slotOf (p4 : Nat) : Option (Option Nat) := if p4 < 64 then some (some p4) else if p4 = 0xFF then some none else none

/-- The faulty field of a GRM_COMPRESS by offset, but for the input length (R241). -/
def compressBad (x : Handle) : Option Nat :=
  let p3 := x.p 3
  let elem := bits p3 21 20
  let k := bits p3 11 8
  let fb := !bit p3 17
  let stride := x.p 5
  firstBad [(decide (9 < p3 % 16) || decide (8 < k) || (decide (0 < k) && decide (2 ≤ elem)) || (fb && elem == 1), 36),
    ((slotOf (x.p 4)).isNone, 40),
    (stride == 0 || decide (32768 < stride * elemBytes elem) || (fb && decide (0 < k) && decide (4064 < stride)), 44)]

/-- A job of command `x` queued with its output list, whose address the entry holds at offset `pd`; a list that cannot be read ends the command by `fail`. -/
def State.jobStart (s : State) (x : Handle) (pd ptr count : Nat) (outl : CmdData) (fail : State → Nat → Nat → State) (j : GJob) : State :=
  let ((outs, e), s) := s.listBuffer pd ptr count true outl
  match e with
  | .read r => s.onRead x.idx r (fail s) (fun _ => s)
  | e => s.jobPut { j with outs := outs, outEnd := e }

/-- The input list of a job read (R241, R496): `k` goes on with its segments and its end, whole or at a fault. -/
def State.jobInput (s : State) (h ptr count : Nat) (inl : CmdData) (fail : State → Nat → Nat → State)
    (k : State → Buffer → State) : State :=
  let (b, s) := s.listBuffer 8 ptr count false inl
  match b.2 with
  | .read r => s.onRead h r (fail s) (fun _ => s)
  | _ => k s b

/-- GRM_COMPRESS (R241, R242): the input length is checked first, where the list has no fault. -/
def execGrmCompress (h : Fin 256) (inl outl : CmdData) (s : State) : Out :=
  match s.cmd? h.val 0x40 with
  | none => .next s
  | some x =>
    let p3 := x.p 3
    let elem := bits p3 21 20
    let slot := (slotOf (x.p 4)).getD none
    let fail (s : State) (st det : Nat) : State := s.complete h.val st det 0 0
    .next (s.jobInput h.val x.ptr0 x.len0 inl fail (fun s b =>
      if b.2 = .whole ∧ segsLen b.1 % elemBytes elem ≠ 0 then s.complete h.val stInvalid 16 0 0
      else match compressBad x with
        | some o => s.complete h.val stInvalid o 0 0
        | none =>
          match s.jobRefused slot with
          | some (st, det) => s.complete h.val st det 0 0
          | none => s.jobStart x 24 (x.p 0 + x.p 1 * 2 ^ 32) (x.p 2) outl fail
              { handle := h.val, op := 0x40, compress := true, inst := none, level := p3 % 16, k := bits p3 11 8,
                pred := bits p3 16 16, qmode := bits p3 17 17, elem := elem, stride := x.p 5, slot := slot,
                inList := x.ptr0, inElems := x.len0, ins := b.1, inEnd := b.2, inDone := 0, outDone := 0,
                outs := [], outEnd := .whole, hist := [], a := 8, n := 2, eps := List.replicate (x.p 5) 0,
                begun := false, plain := p3 % 16 == 0 }))

/-- GRM_DECOMPRESS (R241, R242). -/
def execGrmDecompress (h : Fin 256) (inl outl : CmdData) (s : State) : Out :=
  match s.cmd? h.val 0x41 with
  | none => .next s
  | some x =>
    let fail (s : State) (st det : Nat) : State := s.complete h.val st det 0 0
    .next (match slotOf (x.p 4) with
      | none => s.complete h.val stInvalid 40 0 0
      | some slot =>
        match s.jobRefused slot with
        | some (st, det) => s.complete h.val st det 0 0
        | none => s.jobInput h.val x.ptr0 x.len0 inl fail (fun s b =>
            s.jobStart x 24 (x.p 0 + x.p 1 * 2 ^ 32) (x.p 2) outl fail
              { handle := h.val, op := 0x41, compress := false, inst := none, level := 0, k := 0, pred := 0, qmode := 0, elem := 0,
                stride := 1, slot := slot, inList := x.ptr0, inElems := x.len0, ins := b.1, inEnd := b.2, inDone := 0, outDone := 0,
                outs := [], outEnd := .whole, hist := [], a := 8, n := 2, eps := [], begun := false, plain := false }))

/-! ### Saved contexts (R245) -/

/-- The format a job's last chunk had. -/
def GJob.fmt (j : GJob) : ChunkFmt := ⟨j.elem, j.k, j.pred, j.level, j.stride⟩

/-- Bytes 32,768 to 32,827 of a context. -/
def GJob.ctxHead (j : GJob) : List Byte :=
  leBytes 4 0x58544347 ++ leBytes 1 (b2n !j.compress) ++ leBytes 1 j.level ++ leBytes 2 (j.fmt.word false false j.plain) ++
    leBytes 4 j.stride ++ leBytes 4 j.hist.length ++ leBytes 8 j.inList ++ leBytes 8 j.inElems ++ leBytes 8 j.inDone ++
    leBytes 8 j.outDone ++ leBytes 4 j.a ++ leBytes 4 j.n ++ leBytes 4 j.qmode

/-- The 40 KiB of a saved context. -/
def GJob.context (j : GJob) : List Byte :=
  let win := elemBytesOf j.elem j.hist
  let eps := ((j.eps.take 4064).map (fun e => leBytes 2 (code 16 e))).flatten
  let eps := eps ++ zeros (8128 - eps.length)
  win ++ zeros (32768 - win.length) ++ j.ctxHead ++ leBytes 4 (crc32c (j.ctxHead ++ eps)) ++ eps

/-- The context of a byte string is whole: its CRC holds. -/
def ctxGood (bs : List Byte) : Bool := field bs 32828 4 == crc32c ((bs.drop 32768).take 60 ++ (bs.drop 32832).take 8128)

/-- A job as its saved context gives it; lists are put in by GRM_RESUME. -/
def ctxJob (bs : List Byte) (h slot : Nat) : GJob :=
  let fmt := field bs 32774 2
  let elem := fmt % 4
  let stride := field bs 32776 2
  { handle := h, op := 0x42, compress := field bs 32772 1 == 0, inst := none, level := field bs 32773 1, k := bits fmt 5 2,
    pred := bits fmt 6 6, qmode := field bs 32824 4 % 2, elem := elem, stride := stride, slot := some slot, inList := field bs 32784 8,
    inElems := field bs 32792 4, ins := [], inEnd := .whole, inDone := field bs 32800 8, outDone := field bs 32808 8, outs := [],
    outEnd := .whole, hist := (elemsOf elem (bs.take 32768)).take (field bs 32780 4), a := field bs 32816 4,
    n := field bs 32820 2,
    eps := (List.range (min stride 4064)).map (fun i => sx 16 (field bs (32832 + 2 * i) 2)),
    begun := decide (0 < field bs 32800 8), plain := bit fmt 9 }

/-- GRM_RESUME (R243, R244): the new output list, and the input from the list of the context at the saved offset. -/
def execGrmResume (h : Fin 256) (inl outl : CmdData) (s : State) : Out :=
  match s.cmd? h.val 0x42 with
  | none => .next s
  | some x =>
    let i := x.p 0
    let bs := s.extGet (s.ctxOfs i) 40960
    .next (if 63 < i ∨ s.slotState i = slotFree then s.complete h.val stInvalid 24 0 0
      else if 16 ≤ s.grm.jobs.length then s.complete h.val stBusy ((s.grm.jobs.getLast?.map (·.op)).getD 0) 0 0
      else if s.slotState i = slotActive then
        s.complete h.val stBusy (((s.grm.jobs.find? (fun j => j.slot == some i)).map (·.op)).getD 0) 0 0
      else if !s.memReady then s
      else if s.poisoned (s.ctxOfs i) 40960 then (s.setSlot i slotFree).complete h.val stDataError 2 0 0
      else if !ctxGood bs then (s.setSlot i slotFree).complete h.val stDataError 3 0 0
      else
        let j := ctxJob bs h.val i
        let fail (s : State) (st det : Nat) : State := (s.setSlot i slotFree).complete h.val st det 0 0
        (s.linesRead (s.ctxOfs i) 40960).jobInput h.val j.inList j.inElems inl fail (fun s b =>
          s.jobStart x 28 (x.p 1 + x.p 2 * 2 ^ 32) (x.p 3) outl fail { j with ins := b.1, inEnd := b.2 }))

/-- GRM_CTX_DROP (R244). -/
def execGrmCtxDrop (h : Fin 256) (s : State) : Out :=
  match s.cmd? h.val 0x43 with
  | none => .next s
  | some x =>
    let i := x.p 0
    .next (if 63 < i then s.complete h.val stInvalid 24 0 0
      else if s.slotState i = slotActive then
        s.complete h.val stBusy (((s.grm.jobs.find? (fun j => j.slot == some i)).map (·.op)).getD 0) 0 0
      else (s.setSlot i slotFree).complete h.val stOk 0 0 0)

/-! ### Chunks (R242, R243) -/

/-- The segments after `n` bytes have been used. -/
def dropSegs : List (Nat × Nat) → Nat → List (Nat × Nat)
  | [], _ => []
  | (a, l) :: segs, n => if l ≤ n then dropSegs segs (n - l) else (a + n, l - n) :: segs

/-- The first `n` bytes of segments. -/
def takeSegs : List (Nat × Nat) → Nat → List (Nat × Nat)
  | [], _ => []
  | (a, l) :: segs, n => if n = 0 then [] else (a, min l n) :: takeSegs segs (n - min l n)

/-- Input bytes that the job has still to take. -/
def GJob.left (j : GJob) : Nat := segsLen j.ins - j.inDone

/-- The queue engine that writes the output of a job. -/
def State.jobEngine (s : State) (j : GJob) : Nat := ((s.handle? j.handle).map Handle.engine).getD 0

/-- The groomer reaches its context memory, and external memory in stand-alone operation (R309). -/
def State.jobReady (s : State) (j : GJob) : Bool := s.memReady || (j.slot.isNone && !s.pw.standalone)

/-- The job takes no further space: OUT_OF_SPACE saves the context in its slot, or a fault of the output list ends it (R243, R496).
How much of the unfinished chunk already lies in the buffers is a free value. -/
def State.jobNoRoom (s : State) (j : GJob) (b : Buffer) (bs : List Byte) : State :=
  match b.2 with
  | .fault det i => s.jobEnd j slotFree stInvalid det i 0
  | .read r => s.onRead j.handle r (fun st det => s.jobStop j st det) (fun _ => s)
  | .whole =>
    let (v, s) := s.freeVal 32
    let s := s.putSegs (s.jobEngine j) b.1 (bs.take (v % (segsLen b.1 + 1)))
    match j.slot with
    | none => s.jobEnd j slotFree stNoSpace 0 j.outDone j.inDone
    | some i => (s.extPut (s.ctxOfs i) j.context).jobEnd j slotSaved stNoSpace 0 j.outDone j.inDone

/-- A whole chunk written; the job goes on, or completes at the end of its input. -/
def State.jobWrote (s : State) (old j : GJob) (bs : List Byte) : State :=
  let b := s.clipBuffer (old.outs, old.outEnd)
  if segsLen b.1 < bs.length then s.jobNoRoom old b bs
  else
    let s := s.putSegs (s.jobEngine j) b.1 bs
    let j := { j with outs := dropSegs old.outs bs.length, outDone := old.outDone + bs.length, begun := true }
    let s := { s with grm := { s.grm with jobs := s.grm.jobs.map (fun (x : GJob) => if x.handle == j.handle then j else x) } }.turnOver j.handle
    let s := if old.compress then
        (s.set64 Reg.GRM_C_IN_LO Reg.GRM_C_IN_HI (s.fld64 Reg.GRM_C_IN_LO Reg.GRM_C_IN_HI + (j.inDone - old.inDone))).set64
          Reg.GRM_C_OUT_LO Reg.GRM_C_OUT_HI (s.fld64 Reg.GRM_C_OUT_LO Reg.GRM_C_OUT_HI + bs.length)
      else s.set64 Reg.GRM_D_OUT_LO Reg.GRM_D_OUT_HI (s.fld64 Reg.GRM_D_OUT_LO Reg.GRM_D_OUT_HI + bs.length)
    if j.left = 0 ∧ j.inEnd = .whole then s.jobStop j stOk 0 else s

/-- The job meets the end of its input list: a fault ends it (R496). -/
def State.jobListEnd (s : State) (j : GJob) : State :=
  match j.inEnd with
  | .fault det i => s.jobEnd j slotFree stInvalid det i 0
  | _ => s.jobStop j stOk 0

/-- The next chunk of a compress job from its input bytes; a list cut short by a fault gives whole chunks only. -/
def State.compressStep (s : State) (j : GJob) (bs : List Byte) : State :=
  let e := elemBytes j.elem
  let len := min 65536 j.left
  if len < 65536 ∧ j.inEnd ≠ .whole then s.jobListEnd j
  else
    let xs := elemsOf j.elem ((bs ++ zeros len).take len)
    let done := j.inDone / e
    let at0 := done % j.stride
    let (q, _, eps) := quantRun j.elem j.k (j.qmode == 0) j.stride xs (j.eps.rotateLeft at0)
    let c := encodeChunk j.fmt (!j.begun) j.hist q (done - j.hist.length) j.a j.n
    let j' := { j with inDone := j.inDone + len, hist := (j.hist ++ q).drop (j.hist.length + q.length - windowLen j.elem), a := c.a, n := c.n,
                       eps := eps.rotateRight at0, plain := j.level == 0 && !c.stored }
    let s := if c.stored && decide (c.bytes.length ≤ segsLen (s.clipBuffer (j.outs, j.outEnd)).1) then s.incF Reg.GRM_STORED else s
    s.jobWrote j j' c.bytes

/-- The bytes at hand are fewer than the chunk that begins with them. -/
def chunkCut (bs : List Byte) : Bool := decide (bs.length < 20) || decide (bs.length < 20 + field bs 12 4)

/-- The next chunk of a decompress job, at the start of its remaining input bytes (R238, R246). -/
def State.decompressStep (s : State) (j : GJob) (bs : List Byte) : State :=
  let bs := bs.take j.left
  match decodeChunk bs (if j.begun then some j.fmt else none) j.hist j.a j.n with
  | none => if chunkCut bs ∧ j.inEnd ≠ .whole then s.jobListEnd j else (s.incF Reg.GRM_DATA_ERR).jobStop j stDataError 3
  | some c =>
    let f := c.head.f
    let j' := { j with inDone := j.inDone + c.took, hist := c.q, a := c.a, n := c.n, elem := f.elem, k := f.k, pred := f.pred, level := f.level,
                       stride := f.stride, plain := c.head.plain }
    s.jobWrote j j' c.y

/-- The input bytes of the next chunk: what the host answers, or the internal map in stand-alone operation, where a chunk to decode begins with its 20-byte header (R110, R235). -/
def State.chunkIn (s : State) (j : GJob) (d : HostData) : HostData × State :=
  let rest := dropSegs j.ins j.inDone
  if !s.pw.standalone then (d, s)
  else if j.compress then s.readSegs (takeSegs rest (min 65536 j.left)) d
  else match s.readSegs (takeSegs rest 20) d with
    | (.ok hd, s) => s.readSegs (takeSegs rest (20 + field hd 12 4)) d
    | r => r

/-- JOB_CHUNK_DONE (R242, R243, R246): the next chunk of the job of handle `h`, whose input bytes from the present offset are `d`; the decompress instance takes its users in turn. -/
def execJobChunkDone (h : Fin 256) (d : HostData) (s : State) : Out :=
  match s.job? h.val with
  | none => .next s
  | some j =>
    if j.inst.isNone || !s.runs 6 || !s.jobReady j || (!j.compress && !s.hasTurn h.val) then .next s
    else
      let (d, s) := (s.timerStart (.handle h.val)).chunkIn j d
      .next (s.onRead h.val d (fun st det => s.jobStop j st det) (fun bs => if j.compress then s.compressStep j bs else s.decompressStep j bs))

end Sys2Proof.Machine
end

