-- ==== Sys2Proof/Machine/Glacier.lean ====
section
/-! DEFINITION. The glacier ring and captures (R215 to R222): segments, pins and depth, the requests, the copier, stored captures and CAPTURE_READ.
A capture's bytes gather in its record and are placed in the capture region when its copy is done (log entry 20). -/

namespace Sys2Proof.Machine

/-- Bytes of a segment. -/
def segBytes : Nat := 0x4000000

/-- Segments of the glacier region. -/
def State.segCount (s : State) : Nat := s.rgnSize 0 / segBytes

/-- Nanoseconds of `d` steps of a series of `frameTicks` and `n` (R498), rounded down. -/
def nominalNs (align : Bool) (frameTicks n d : Nat) : Nat := if align then d * 5 * frameTicks / max 1 n else d * 5 * frameTicks

/-! ### Pins and depth -/

/-- A block's samples meet the window of a capture (R220). -/
def Cap.meets (c : Cap) (b : GBlk) : Bool := decide (c.start ≤ b.last) && decide (b.stamp < c.stop)

/-- A block's points meet the points of a capture. -/
def Cap.meetsPts (c : Cap) (b : GBlk) : Bool := decide (b.first < c.first + c.points) && decide (c.first < b.first + b.points)

/-- A capture has still to consider a block: not before its place, not after the acquisition that its window ended with (R220, R221). -/
def Cap.ahead (c : Cap) (b : GBlk) : Bool := decide (c.next ≤ b.serial) && c.limit.all (fun l => decide (b.serial < l))

/-- A segment is pinned: complete, and a capture not yet stored has still to copy a block of its window from it (R220). -/
def State.pinned (s : State) (g : GSeg) : Bool :=
  g.complete && s.slm.caps.any (fun c => !c.stored && !c.oos && g.blks.any (fun b => c.ahead b && c.meets b))

/-- Blocks in segments, oldest first. -/
def segBlks (gs : List GSeg) : List GBlk := (gs.map (·.blks)).flatten

/-- Blocks that the ring of the present acquisition retains, oldest first. -/
def State.retained (s : State) : List GBlk := segBlks (s.slm.segs.filter (fun g => !g.old))

/-- STAMP of the oldest retained block; before the first, the chirp start of the first firing of frame 0, and no earlier than now while frame 0 is still to come (R217). -/
def State.oldestStamp (s : State) : Nat :=
  match s.retained with
  | b :: _ => b.stamp
  | [] => if s.acq.inFrame then s.fld64 Reg.PRB_FRAME0_LO Reg.PRB_FRAME0_HI + 5 * s.fld Reg.PRB_GATE_LEAD else s.now

/-- SLM_GL_PINNED, SLM_GL_DEPTH_MS and SLM_GL_OLDEST from the ring. -/
def State.glRefresh (s : State) : State :=
  let s := s.setF Reg.SLM_GL_PINNED ((s.slm.segs.filter (fun g => s.pinned g)).length)
  match s.retained with
  | [] => (s.setF Reg.SLM_GL_DEPTH_MS 0).set64 Reg.SLM_GL_OLDEST_LO Reg.SLM_GL_OLDEST_HI 0
  | b :: bs =>
    (s.setF Reg.SLM_GL_DEPTH_MS (satN 32 ((((b :: bs).getLast?.getD b).stamp - b.stamp) / 1000000))).set64
      Reg.SLM_GL_OLDEST_LO Reg.SLM_GL_OLDEST_HI b.stamp

/-! ### The writer (R216) -/

/-- External offset of a segment. -/
def State.segOff (s : State) (pos : Nat) : Nat := s.rgnBase 0 + pos * segBytes

/-- The 64-byte header of a segment. -/
def GSeg.header (g : GSeg) : List Byte :=
  let b := g.blks.head?
  withCrc (leBytes 4 0x52474C47 ++ leBytes 4 (if g.complete then g.seq else 0xFFFFFFFF) ++ leBytes 8 ((b.map (·.stamp)).getD 0) ++
    leBytes 8 ((b.map (·.frame)).getD 0) ++ leBytes 4 g.blks.length ++ leBytes 4 g.used ++ leBytes 4 ((b.map (·.plan)).getD 0) ++ zeros 24)

/-- The segment list with the newest segment changed. -/
def State.updSeg (s : State) (f : GSeg → GSeg) : State :=
  { s with slm := { s.slm with segs := modAt s.slm.segs (s.slm.segs.length - 1) f } }

/-- The segment being written. -/
def State.openSeg (s : State) : Option GSeg :=
  match s.slm.segs.getLast? with
  | some g => if g.complete then none else some g
  | none => none

/-- The open segment completes and its header is written (R216). -/
def State.segDone (s : State) : State :=
  match s.openSeg with
  | none => s
  | some g => ((s.updSeg (fun g => { g with complete := true })).extPut (s.segOff g.pos) ({ g with complete := true }).header).glRefresh

/-- Where the next segment goes: the first position not yet used, else that of the oldest segment that is not pinned (R216). -/
def State.nextPos (s : State) : Option Nat :=
  match findIdxBelow (fun p => !s.slm.segs.any (fun g => g.pos == p)) s.segCount with
  | some p => some p
  | none => (s.slm.segs.find? (fun g => g.complete && !s.pinned g)).map (·.pos)

/-- A segment begun; none when every segment is pinned. -/
def State.segBegin (s : State) : Option State :=
  match s.nextPos with
  | none => none
  | some p =>
    let g : GSeg := ⟨p, s.slm.seq + 1, 64, false, [], false⟩
    some ({ s with slm := { s.slm with segs := s.slm.segs.filter (fun (x : GSeg) => x.pos != p) ++ [g], seq := s.slm.seq + 1 } }.extPut
      (s.segOff p) g.header)

/-- FRAME_TICKS and N of a plan: the running one, or a stored one. -/
def State.planTimes (s : State) (id : Nat) : Nat × Nat :=
  match s.acq.run with
  | some (i, p) => if i = id then (p.frameTicks, p.n) else
      ((s.acq.plans.find? (fun x => x.1 == id)).map (fun x => (x.2.frameTicks, x.2.n))).getD (0, 1)
  | none => ((s.acq.plans.find? (fun x => x.1 == id)).map (fun x => (x.2.frameTicks, x.2.n))).getD (0, 1)

/-- A feed block put into the open segment. -/
def State.segPut (s : State) (g : GSeg) (b : SBlock) (ovf : Bool) : State :=
  let off := s.segOff g.pos + g.used
  let (ft, n) := s.planTimes b.plan
  let r : GBlk := { serial := s.slm.serial, off := off, len := b.padded, stamp := b.stamp,
                    last := b.stamp + nominalNs (b.state != alOff) ft n ((b.samples - 1) * b.step), frame := b.frame, plan := b.plan,
                    first := b.first, points := b.points, ovf := ovf }
  let g' := { g with used := g.used + b.padded, blks := g.blks ++ [r] }
  ((({ s with slm := { s.slm with serial := s.slm.serial + 1 } }).updSeg (fun _ => g')).extPut off (b.bytes ovf)).extPut
    (s.segOff g.pos) g'.header

/-- A feed block written into the ring (R216); none without credit (R21). -/
def State.glWrite (s : State) (b : SBlock) (ovf : Bool) : Option State :=
  let fits (g : GSeg) : Bool := decide (g.used + b.padded ≤ segBytes)
  match s.openSeg with
  | some g =>
    if fits g then some (s.segPut g b ovf).glRefresh
    else
      match s.segDone.segBegin with
      | none => none
      | some s' => (s'.openSeg).map (fun g' => (s'.segPut g' b ovf).glRefresh)
  | none =>
    match s.segBegin with
    | none => none
    | some s' => (s'.openSeg).map (fun g' => (s'.segPut g' b ovf).glRefresh)

/-- SEGMENT_COMPLETE (R216): the open segment, holding blocks, takes no further one. -/
def execSegmentComplete (s : State) : Out :=
  match s.openSeg with
  | some g => .next (if g.blks.isEmpty then s else s.segDone)
  | none => .next s

/-! ### Requests (R217 to R219) -/

/-- The glacier ring runs (R215). -/
def State.ringRuns (s : State) : Bool := s.on Reg.SLM_GL_CTL_RUN

/-- The DONE entry of the handle at a place in the order of handles has not been written. -/
def State.owesDone (s : State) (order : Nat) : Bool := s.hq.handles.any (fun x => x.order == order)

/-- A capture holds its slot: from its request until its DONE entry is written (R218). -/
def State.capHolds (s : State) (c : Cap) : Bool := !c.stored || s.owesDone c.order

/-- Capture slot `k` is held. -/
def State.slotHeld (s : State) (k : Nat) : Bool :=
  s.slm.caps.any (fun c => !c.stored && c.slot == k) || (s.slm.taken.getD k none).any s.owesDone

/-- The slots held, as SLM_STATUS.SLOTS and HQE_STATUS.CAP_FREE and CAP_NONE show them (R85, R218). -/
def State.slotsHeld (s : State) : List Nat := (List.range 8).filter s.slotHeld

/-- The lowest free capture slot (R218). -/
def State.freeSlot (s : State) : Option Nat := findIdxBelow (fun k => !s.slotHeld k) 8

/-- A request against the running plan (R217): none when it may start, else the status, DETAIL and the counter of a FIRE. -/
def State.capBad (s : State) (t post first points avg : Nat) : Option (Nat × Nat × Option Field) :=
  let p := ((s.acq.run).map (fun x => x.2.pLeast)).getD 0
  let ms := avg % 65536
  let mt := avg / 65536
  if !s.ringRuns then some (stNotReady, 6, some Reg.SLM_CAP_NOTREADY)
  else if p ≤ first then some (stInvalid, 40, some Reg.SLM_CAP_BADRANGE)
  else if points = 0 ∨ p < first + points then some (stInvalid, 44, some Reg.SLM_CAP_BADRANGE)
  else if ms = 0 ∨ 1024 < ms ∨ mt = 0 ∨ points % ms ≠ 0 then some (stInvalid, 48, some Reg.SLM_CAP_BADRANGE)
  else if 30000 < post then some (stInvalid, 36, none)
  else if t + post * 1000000 < s.oldestStamp ∨ s.now + 60000000000 < t then some (stInvalid, 24, none)
  else none

/-- The window of a trigger: start, end and PRE_SHORT (R217). -/
def State.capWindow (s : State) (t pre post : Nat) : Nat × Nat × Bool :=
  let old := s.oldestStamp
  (max (t - pre * 1000000) old, t + post * 1000000, decide (t < old + pre * 1000000))

/-- The capture ID after one (R218). -/
def nextCapId (n : Nat) : Nat := if n = 0xFFFFFF then 1 else n + 1

/-- What a capture is asked for with: its trigger time, PRE and POST in ms, points, and averaging. -/
structure CapReq where
  t : Nat
  pre : Nat
  post : Nat
  first : Nat
  points : Nat
  avg : Nat

/-- The ring runs and frame 0 of the acquisition is still to come. -/
def State.ringEarly (s : State) : Bool := s.ringRuns && s.fld Reg.PRB_STATE_STATE == prbStarting && s.retained.isEmpty

/-- A capture begun in slot `k` for handle `x`. -/
def State.capBegin (s : State) (k : Nat) (x : Handle) (gate : Nat) (host lift : Bool) (q : CapReq) (wait : Option (Nat × Nat × Nat)) : State :=
  let (a, b, short) := s.capWindow q.t q.pre q.post
  let c : Cap := { id := s.slm.nextId, slot := k, order := x.order, stored := false, handle := x.idx, gate := gate, host := host, lift := lift,
                   extended := false, preShort := short, truncated := false, lost := false, ovf := false, oos := false, trigger := q.t, start := a,
                   stop := b, first := q.first, points := q.points, avg := q.avg, ended := false, liftWait := wait, extWait := none,
                   early := if s.ringEarly then some q.pre else none, limit := none, next := ((s.retained.head?).map (·.serial)).getD s.slm.serial,
                   base := 0, bytes := 0, blocks := 0, data := [], plans := [] }
  ({ s with slm := { s.slm with caps := s.slm.caps ++ [c], nextId := nextCapId s.slm.nextId, taken := vset s.slm.taken k (some x.order) } }).glRefresh

/-- The capture that runs in slot `k` changed. -/
def State.updCap (s : State) (k : Nat) (f : Cap → Cap) : State :=
  { s with slm := { s.slm with caps := s.slm.caps.map (fun c => if !c.stored && c.slot == k then f c else c) } }

/-- The capture that runs in slot `k`. -/
def State.cap? (s : State) (k : Nat) : Option Cap := s.slm.caps.find? (fun c => !c.stored && c.slot == k)

/-- The captures that run in slot `k` leave it: nothing is stored, and their handle ends (R217). -/
def State.capRefuse (s : State) (k : Nat) : State :=
  match s.cap? k with
  | some c => ({ s with slm := { s.slm with caps := s.slm.caps.filter (fun x => x.stored || x.slot != k) } }.complete c.handle stInvalid 24 0 0).glRefresh
  | none => s

/-- Frame 0 begins: windows requested before it start no earlier than its first chirp, and one that ends before that chirp is refused (R217; log entry 259). -/
def State.capFrame0 (s : State) : State :=
  (List.range 8).foldl (fun (s : State) k => match s.cap? k with
    | some c =>
      match c.early with
      | none => s
      | some pre =>
        if c.stop < s.oldestStamp then s.capRefuse k
        else
          let (a, _, short) := s.capWindow c.trigger pre 0
          s.updCap k (fun c => { c with early := none, start := a, preShort := short })
    | none => s) s

/-- CAPTURE (R217, R218). -/
def execCapture (h : Fin 256) (s : State) : Out :=
  match s.cmd? h.val 0x33 with
  | none => .next s
  | some x =>
    let t := x.p 0 + x.p 1 * 2 ^ 32
    .next (match s.capBad t (x.p 3) (x.p 4) (x.p 5) (x.p 6) with
      | some (st, det, _) => s.complete h.val st det 0 0
      | none =>
        match s.freeSlot with
        | none => s.complete h.val stBusy 0x33 0 0
        | some k => (s.takeUp h.val).capBegin k x 0 true false ⟨t, x.p 2, x.p 3, x.p 4, x.p 5, x.p 6⟩ none)

/-! ### The copier (R220) -/

/-- The capture header (R221). -/
def Cap.header (c : Cap) : List Byte :=
  let fl := c.gate % 16 + b2n c.host * 16 + b2n c.lift * 32 + b2n c.extended * 64 + b2n c.preShort * 128 + b2n c.truncated * 256 +
    b2n c.lost * 512 + b2n c.ovf * 1024 + b2n c.oos * 2048
  withCrc (leBytes 4 0x50414343 ++ leBytes 4 c.id ++ leBytes 8 c.trigger ++ leBytes 8 c.start ++ leBytes 8 c.stop ++ leBytes 4 c.first ++
    leBytes 4 c.points ++ leBytes 4 c.avg ++ leBytes 4 fl ++ leBytes 8 c.bytes ++ leBytes 4 c.blocks)

/-- Bytes of the capture region that captures occupy. -/
def State.capUsed (s : State) : Nat := (s.slm.caps.map (fun c => 64 + c.bytes)).sum

/-- Room made for `n` bytes by evicting the oldest stored captures, at most `fuel`; false when the oldest one still holds its slot or is being read (R220). -/
def State.capRoom (s : State) (n : Nat) : Nat → State × Bool
  | 0 => (s, decide (s.capUsed + n ≤ s.rgnSize 1))
  | fuel + 1 =>
    if s.capUsed + n ≤ s.rgnSize 1 then (s, true)
    else
      match s.slm.caps.find? (·.stored) with
      | some c =>
        if s.capHolds c || s.slm.reads.any (fun r => r.id == c.id) then (s, false)
        else ({ s with slm := { s.slm with caps := s.slm.caps.filter (fun x => x.id != c.id) } } : State).capRoom n fuel
      | none => (s, false)

/-- A block that the capture of slot `k` takes, read from the ring: left out when a line of it is poisoned (R221). -/
def State.copyTake (s : State) (k : Nat) (b : GBlk) : State :=
  let s := s.linesRead b.off b.len
  if s.poisoned b.off b.len then s.updCap k (fun c => { c with lost := true })
  else
    let (s, ok) := s.capRoom b.len s.slm.caps.length
    if !ok then s.updCap k (fun c => { c with oos := true })
    else
      let (ft, n) := s.planTimes b.plan
      s.updCap k (fun c => { c with data := c.data ++ s.extGet b.off b.len, bytes := c.bytes + b.len, blocks := c.blocks + 1, ovf := c.ovf || b.ovf,
                                    plans := if c.plans.any (fun x => x.1 == b.plan) then c.plans else c.plans ++ [(b.plan, ft, n)] })

/-- One block considered by the copier for the capture of slot `k`. -/
def State.copyBlock (s : State) (k : Nat) (c : Cap) (b : GBlk) : State :=
  let s := s.updCap k (fun c => { c with next := b.serial + 1 })
  if c.meets b && c.meetsPts b then s.copyTake k b else s

/-- The blocks the copier may take now for a capture: those of the ring from its place on, short of the end of a window still open. -/
def State.copyable (s : State) (c : Cap) : List GBlk :=
  (segBlks s.slm.segs).filter (fun b => c.ahead b && (c.ended || decide (b.stamp < c.stop)))

/-- The copier advances the capture of slot `k` by one block. -/
def State.copyStep (s : State) (k : Nat) : State :=
  match s.cap? k with
  | none => s
  | some c =>
    if c.liftWait.isSome || c.early.isSome || c.oos then s
    else match s.copyable c with
      | b :: _ => (s.copyBlock k c b).glRefresh
      | [] => s

/-- The copier takes every block it may for slot `k`, at most `n`. -/
def State.copyAll (s : State) (k : Nat) : Nat → State
  | 0 => s
  | n + 1 => (s.copyStep k).copyAll k n

/-- One step of the copier for every slot, while external memory takes its accesses (R220, R309). -/
def State.copyTick (s : State) : State := if s.memReady then (List.range 8).foldl (fun (s : State) k => s.copyStep k) s else s

/-- The copier's oldest block read is lost to a fabric timeout: the block of the lowest slot that copies is left out, as a poisoned one (R221, R309; log entry 260). -/
def State.copyLost (s : State) : State :=
  match (List.range 8).find? (fun k => (s.cap? k).any (fun c => !(s.copyable c).isEmpty)) with
  | none => s
  | some k =>
    match ((s.cap? k).map s.copyable).bind List.head? with
    | some b => (s.updCap k (fun c => { c with next := b.serial + 1, lost := true })).glRefresh
    | none => s

/-- Bytes written into the capture region at a ring offset, wrapping at its end (R220). -/
def State.capPut (s : State) (o : Nat) (bs : List Byte) : State :=
  let size := s.rgnSize 1
  let k := min bs.length (size - o)
  (s.extPut (s.rgnBase 1 + o) (bs.take k)).extPut (s.rgnBase 1) (bs.drop k)

/-- Bytes of the capture region from a ring offset on. -/
def State.capGet (s : State) (o n : Nat) : List Byte :=
  let size := s.rgnSize 1
  let k := min n (size - o)
  s.extGet (s.rgnBase 1 + o) k ++ s.extGet (s.rgnBase 1) (n - k)

/-- A line of the capture region from a ring offset on carries poison. -/
def State.capPoisoned (s : State) (o n : Nat) : Bool :=
  let k := min n (s.rgnSize 1 - o)
  s.poisoned (s.rgnBase 1 + o) k || s.poisoned (s.rgnBase 1) (n - k)

/-- Lines of the capture region read from a ring offset on. -/
def State.capLines (s : State) (o n : Nat) : State :=
  let k := min n (s.rgnSize 1 - o)
  (s.linesRead (s.rgnBase 1 + o) k).linesRead (s.rgnBase 1) (n - k)

/-- The capture of slot `k` stored, and its handle ends (R218, R220, R221). -/
def State.capFinish (s : State) (k : Nat) : State :=
  let (s, room) := s.capRoom 0 s.slm.caps.length
  match s.cap? k with
  | none => s
  | some c =>
    let c := { c with oos := c.oos || !room, stored := true, ended := true, base := s.slm.capAt }
    let others := s.slm.caps.filter (fun x => x.stored || x.slot != k)
    let put := if room then { s with slm := { s.slm with caps := others ++ [{ c with data := [] }],
                                                         capAt := (s.slm.capAt + 64 + c.bytes) % max 1 (s.rgnSize 1) } }.capPut c.base (c.header ++ c.data)
      else { s with slm := { s.slm with caps := others } }
    let st := if c.oos then stNoSpace else if c.truncated || c.lost then stPartial else stOk
    (put.glRefresh).complete c.handle st 0 (satN 32 c.bytes) c.id

/-- CAPTURE_WINDOW_END (R217, R220): the window of the capture in a slot is over; one over before the ring's first block is refused. -/
def execCaptureWindowEnd (slot : Fin 8) (s : State) : Out :=
  match s.cap? slot.val with
  | none => .next s
  | some c =>
    .next (if s.now < c.stop || c.liftWait.isSome || c.ended then s
      else if c.early.isSome then s.capRefuse slot.val
      else (s.updCap slot.val (fun c => { c with ended := true })).glRefresh)

/-- CAPTURE_COPY_DONE (R220): the copier finishes a capture whose window has ended, or that ran out of space. -/
def execCaptureCopyDone (slot : Fin 8) (s : State) : Out :=
  match s.cap? slot.val with
  | none => .next s
  | some c => .next (if s.memReady && (c.ended || c.oos) then (s.copyAll slot.val (segBlks s.slm.segs).length).capFinish slot.val else s)

/-- Acquisition ends inside a window: the window ends just after the last sample of the last block written, or at its start with none (R221; log entry 261). -/
def State.capTruncate (s : State) : State :=
  let cut (c : Cap) : Nat := match s.retained.getLast? with
    | some b => max c.start (min c.stop (b.last + 1))
    | none => c.start
  { s with slm := { s.slm with caps := s.slm.caps.map (fun c =>
      if c.stored || c.ended then c
      else { c with ended := true, truncated := true, liftWait := none, extWait := none, early := none, limit := some s.slm.serial, stop := cut c }) } }

/-! ### CAPTURE_READ (R222) -/

/-- One sample read back: its place in the series and the values of points from `first` on. -/
structure ReadSample where
  at_ : SampleAt
  kind : Nat
  first : Nat
  vals : List Int
  nulls : List Bool

/-- Blocks of a stored capture: header bytes and payload (ungroomed), with the blocks that failed to decode and the bytes the decoder wrote. -/
structure ReadBlocks where
  good : List (List Byte × List Byte)
  bad : Nat
  wrote : Nat

/-- The copied blocks taken apart; a groomed one is decoded (R238, R240). Its length follows from its chunk's header or from its element counts. -/
def readBlocks : Nat → List Byte → ReadBlocks
  | 0, _ => ⟨[], 0, 0⟩
  | fuel + 1, bs =>
    if bs.length < 64 then ⟨[], 0, 0⟩
    else
      let kind := field bs 6 2
      let groomed := bit (field bs 40 4) 2
      let n := if groomed then 20 + field bs 76 4 else field bs 32 4 * field bs 36 4 * kindBytes kind
      let len := (64 + n + 63) / 64 * 64
      let rest := readBlocks fuel (bs.drop len)
      let pay := (bs.drop 64).take n
      if groomed then
        match decodeChunk pay none [] 8 2 with
        | some c => ⟨(bs.take 64, c.y) :: rest.good, rest.bad, rest.wrote + c.y.length⟩
        | none => ⟨rest.good, rest.bad + 1, rest.wrote⟩
      else ⟨(bs.take 64, pay) :: rest.good, rest.bad, rest.wrote⟩

/-- The samples of a block that lie in the window and the point range. -/
def Cap.samplesOf (c : Cap) (b : List Byte × List Byte) : List ReadSample :=
  let h := b.1
  let kind := field h 6 2
  let plan := field h 24 4
  let first := field h 28 4
  let points := field h 32 4
  let fl := field h 40 4
  let align := fl % 4 != alOff
  let (ft, n) := ((c.plans.find? (fun x => x.1 == plan)).map (·.2)).getD (0, 1)
  let ser0 := field h 48 8
  let vals := elemsOf (kindElem kind) b.2
  (List.range (field h 36 4)).filterMap (fun i =>
    let stamp := field h 16 8 + nominalNs align ft n i
    if c.start ≤ stamp ∧ stamp < c.stop then
      let series := ser0 + i
      let frame := if align then series / max 1 n else series
      let row := (vals.drop (i * points)).take points
      let lo := max first c.first
      let hi := min (first + points) (c.first + c.points)
      some { at_ := ⟨plan, align, bits fl 15 9, frame, stamp, field h 44 4 + (frame - field h 8 8), fl % 4, series,
               if align then field h 8 8 - field h 44 4 else 0⟩, kind := kind,
             first := lo, vals := (row.drop (lo - first)).take (hi - lo), nulls := List.replicate (hi - lo) (bit fl 16) }
    else none)

/-- Parts of one sample from consecutive blocks joined (R181). -/
def joinSamples : List ReadSample → List ReadSample
  | [] => []
  | x :: xs =>
    match joinSamples xs with
    | y :: ys =>
      if x.at_.plan = y.at_.plan ∧ x.at_.series = y.at_.series ∧ x.at_.tone = y.at_.tone ∧ x.first + x.vals.length = y.first then
        { x with vals := x.vals ++ y.vals, nulls := x.nulls ++ y.nulls } :: ys
      else x :: y :: ys
    | [] => [x]

/-- A value as the reducer takes a point. -/
def pointOf (kind : Nat) (nulls : Bool) (v : Int) : PointSample :=
  match kind with
  | 0 => ⟨v, 0, 0, 0, nulls⟩
  | _ => ⟨0, 0, code 16 v, 0, nulls⟩

/-- The read-out of a capture: its header and the reduced blocks (R222), the blocks lost and the decoder's bytes. -/
def State.capReadOut (s : State) (c : Cap) : List Byte × Nat × Nat :=
  let rb := readBlocks c.blocks (s.capGet ((c.base + 64) % max 1 (s.rgnSize 1)) c.bytes)
  let samples := joinSamples ((rb.good.map (fun b => c.samplesOf b)).flatten)
  let st0 : Stream := { id := c.id % 65536, handle := none, dest := .glacier, kind := kInc, first := 0, count := 2 ^ 32, mS := max 1 (c.avg % 65536),
                        mT := max 1 (c.avg / 65536), groomed := false, k := 0, groups := [], open_ := none, ready := [], ovf := false,
                        eps := [], delivered := 0, discarded := 0, closing := none }
  let (st, _) := samples.foldl (fun (a : Stream × Option Nat) x =>
    let st := if a.2.any (· != x.at_.plan) then a.1.switched else a.1
    (({ st with kind := x.kind }).sample x.at_ x.first (List.zipWith (pointOf x.kind) x.nulls x.vals), some x.at_.plan)) (st0, none)
  (c.header ++ (st.closeBlock.ready.map (fun b => b.bytes false)).flatten, rb.bad, rb.wrote)

/-- Groomed blocks among the copied ones. -/
def groomedBlocks : Nat → List Byte → Nat
  | 0, _ => 0
  | fuel + 1, bs =>
    if bs.length < 64 then 0
    else
      let g := bit (field bs 40 4) 2
      let n := if g then 20 + field bs 76 4 else field bs 32 4 * field bs 36 4 * kindBytes (field bs 6 2)
      b2n g + groomedBlocks fuel (bs.drop ((64 + n + 63) / 64 * 64))

/-- The bytes of a stored capture after its header. -/
def State.capBody (s : State) (c : Cap) : List Byte := s.capGet ((c.base + 64) % max 1 (s.rgnSize 1)) c.bytes

/-- CAPTURE_READ (R222): the read begins; its groomed blocks take their turns on the decompress instance (R246). -/
def execCaptureRead (h : Fin 256) (d : CmdData) (s : State) : Out :=
  match s.cmd? h.val 0x34 with
  | none => .next s
  | some x =>
    match s.slm.caps.find? (fun c => c.id == x.p 0) with
    | none => .next (s.complete h.val stInvalid 24 0 0)
    | some c =>
      if s.capHolds c then .next (s.complete h.val stBusy 0x33 0 0)
      else
        let (b, s) := (s.takeUp h.val).buffer x d
        .next { s with slm := { s.slm with reads := s.slm.reads ++ [⟨h.val, c.id, b, groomedBlocks c.blocks (s.capBody c)⟩] },
                       grm := { s.grm with turns := s.grm.turns ++ [h.val] } }

/-- A read-out written to its buffer, and its handle ends (R222, R240): a poisoned line of the stored capture gives nothing (log entry 262). -/
def State.readDeliver (s : State) (r : CapRead) (x : Handle) (c : Cap) : State :=
  let s := s.capLines c.base (64 + c.bytes)
  if s.capPoisoned c.base (64 + c.bytes) then s.complete r.handle stDataError 2 0 0
  else
    let (bs, bad, wrote) := s.capReadOut c
    let s := (s.addF Reg.GRM_DATA_ERR bad).set64 Reg.GRM_D_OUT_LO Reg.GRM_D_OUT_HI (s.fld64 Reg.GRM_D_OUT_LO Reg.GRM_D_OUT_HI + wrote)
    if bad = 0 then s.giveTo x r.buf bs stOk 0 (satN 32 bs.length) 0 else s.giveTo x r.buf bs stDataError 3 (satN 32 bs.length) 0

/-- A read under way leaves the list, and the decompress instance. -/
def State.readGone (s : State) (h : Nat) : State :=
  { s with slm := { s.slm with reads := s.slm.reads.filter (fun r => r.handle != h) } }.turnLeave h

/-- One tick of the CAPTURE_READ commands: the one with the turn decodes its next groomed block, or delivers (R222, R246). -/
def State.readTick (s : State) : State :=
  match s.slm.reads.find? (fun r => s.hasTurn r.handle) with
  | none => s
  | some r =>
    if !s.memReady then s
    else if 0 < r.left then
      { s.timerStart (.handle r.handle) with slm := { s.slm with reads := s.slm.reads.map (fun (y : CapRead) => if y.handle == r.handle then { y with left := y.left - 1 } else y) } }.turnOver r.handle
    else match s.handle? r.handle, s.slm.caps.find? (fun c => c.id == r.id) with
      | some x, some c => (s.readGone r.handle).readDeliver r x c
      | _, _ => (s.readGone r.handle).complete r.handle stAborted 2 0 0

end Sys2Proof.Machine
end

