-- ==== Sys2Proof/Machine/Queues.lean ====
section
/-! DEFINITION. The queue engines (chapter 04): doorbells, submission fetches, fences, the handle bound, held entries, coalescing, stream-ring buffers and fill entries, reads of host memory, and the link's D-states. -/

namespace Sys2Proof.Machine

/-! ### Submission (R93 to R97) -/

/-- Host-command indices held. -/
def State.heldHandles (s : State) : Nat := (s.hq.handles.filter (fun x => x.idx < 248)).length

/-- Entries of submission queue `q`. -/
def State.sqSize (s : State) (q : Nat) : Nat := ringSize (s.fld Reg.SQ_CFG_LOG2SIZE q) 12

/-- Queue `q` has an outstanding submission fetch. -/
def State.fetching (s : State) (q : Nat) : Bool :=
  s.hq.reads.any (fun r => r.target == ReadTarget.fetch (Fin.ofNat 16 q) && !r.dead)

/-- The queue engines' microcode runs: beside firmware or resident loader, and on through a restart of SUMMIT (R29, R442, R455). -/
def State.hqeRuns (s : State) : Bool := s.pw.phase == .firmware || s.pw.phase == .loader || s.pw.restart

/-- The engine may fetch from queue `q`: enabled, holding entries, not stopped on an error, its completion queue open (R93, R99, R109). -/
def State.sqReady (s : State) (q : Nat) : Bool :=
  s.on Reg.SQ_CFG_EN q && s.engineOn q 8 && !s.on Reg.SQ_STATUS_FETCH_ERR q && !s.fetching q &&
  s.fld Reg.SQ_STATUS_HEAD q != s.fld Reg.SQ_STATUS_TAIL q &&
  s.cqOpen (s.fld Reg.SQ_CFG_CQ q) && !s.hq.held.any (fun x => x.cq.val == s.fld Reg.SQ_CFG_CQ q) &&
  s.hqeRuns && s.canPut

/-- The queue that engine `e` serves next, round robin after the one served last (R93). -/
def State.pickSq (s : State) (e : Nat) : Option Nat :=
  let last := if e = 0 then s.hq.rr0 else s.hq.rr1 - 8
  ((List.range 8).map (fun k => e * 8 + (last + 1 + k) % 8)).find? (fun q => s.sqReady q)

/-- The lowest free host-command index (R95). -/
def State.freeIdx (s : State) : Option Nat :=
  findIdxBelow (fun i => !s.hq.handles.any (fun x => x.idx == i)) 248

/-- The generation that follows: 1 to 255 and back to 1 (R95). -/
def nextGen (g : Nat) : Nat := g % 255 + 1

/-- A held command of queue `q` is behind a fence: its own, with earlier commands of the queue not done, or that of an earlier command (R93). -/
def State.fencedAt (s : State) (q order : Nat) (fence : Bool) : Bool :=
  s.hq.handles.any (fun x => x.sq.val == q && x.idx < 248 && decide (x.order < order) && (fence || !x.started))

/-- HQ_STALL at the handle bound (R97). -/
def State.stallAtBound (s : State) : State := if 248 ≤ s.heldHandles then s.setF Reg.HQE_STATUS_HQ_STALL 1 else s

/-- An entry of queue `q` taken: HEAD advances, the command gets its handle, and ACCEPT or, for a refused entry, ACCEPT_DONE (R87, R93 to R96). -/
def State.takeEntry (s : State) (q : Nat) (bs : List Byte) : State :=
  match s.freeIdx with
  | none => s
  | some i =>
    let e := parseEntry bs
    let s := s.setF Reg.SQ_STATUS_HEAD ((s.fld Reg.SQ_STATUS_HEAD q + 1) % s.sqSize q) q
    let g := nextGen (Store.read 0 s.hq.gens i)
    let ord := s.hq.nextOrder
    let bad := entryBad e (s.fld Reg.HQE_CTO)
    let refuse := s.loaderPers && loaderRefuses e.op
    let waits := s.fencedAt q ord (bit e.flags 0)
    let x : Handle :=
      { idx := i, gen := g, op := e.op, flags := e.flags, tag := e.tag, wdog := e.wdog, ptr0 := e.ptr0, len0 := e.len0,
        params := e.params, sq := Fin.ofNat 16 q, cq := Fin.ofNat 16 (s.fld Reg.SQ_CFG_CQ q), order := ord, started := !waits, accepted := false,
        running := false, done := false }
    let s := s.timerStart (.handle i)
    let s := ({ s with hq := { s.hq with handles := s.hq.handles ++ [x], gens := Store.write 0 s.hq.gens i g,
                                         nextOrder := ord + 1 } }).updFree
    (match bad with
    | some off => s.complete i stInvalid off 0 0
    | none =>
      if refuse && !waits then s.complete i stNotReady 4 0 0
      else if opAtOnce e.op && !waits then s
      else s.accept i).stallAtBound

/-- A fetch error reported: HQE_ERR, and AER for a timeout (R109). -/
def State.fetchErr (s : State) (F : Field) : State := (if F = Reg.HQE_ERR_FETCH_TMO then s.aerSet aerTimeout else s).hqErr F

/-- Queue `q` stopped by a failed fetch (R109). -/
def State.fetchFail (s : State) (q : Nat) (F : Field) : State := (s.setF Reg.SQ_STATUS_FETCH_ERR 1 q).fetchErr F

/-- A failed read of buffer ring `r` (R109). -/
def State.bufFail (s : State) (r : Nat) (F : Field) : State := (s.setF Reg.SR_STATUS_BUF_ERR 1 r).fetchErr F

/-- What the entry at the head of queue `q` reads as (R110). -/
def State.readSq (s : State) (q : Nat) (d : HostData) : HostData × State :=
  s.hostRead (s.ringBase (Reg.SQ_BASE_LO.addr q) + 64 * s.fld Reg.SQ_STATUS_HEAD q) 64 d

/-- The engine's round-robin place after serving `q`. -/
def State.served (s : State) (e q : Nat) : State :=
  { s with hq := if e = 0 then { s.hq with rr0 := q } else { s.hq with rr1 := q } }

/-- SUBMISSION_FETCH (R93): one entry of the engine's next queue; at the handle bound, and until fetching resumes, none (R97). -/
def State.fetch (s : State) (e : Nat) (d : HostData) : State :=
  match s.pickSq e with
  | none => s
  | some q =>
    if s.on Reg.HQE_STATUS_HQ_STALL ∨ 248 ≤ s.heldHandles then s.stallAtBound
    else
      let (d, s) := (s.served e q).readSq q d
      match d with
      | .ok bs => s.takeEntry q bs
      | .outstanding =>
        { s.timerStart (.read s.hq.nextTag) with hq := { s.hq with reads := s.hq.reads ++ [⟨s.hq.nextTag, .fetch (Fin.ofNat 16 q), false⟩], nextTag := s.hq.nextTag + 1 } }
      | .timeout => s.fetchFail q Reg.HQE_ERR_FETCH_TMO
      | .poisoned => s.fetchFail q Reg.HQE_ERR_FETCH_POISON
      | .refused => s.fetchFail q Reg.HQE_ERR_FETCH_POISON

def execSubmissionFetch (engine : Fin 2) (d : HostData) (s : State) : Out := .next (s.fetch engine.val d)

/-- A held command may start: what it waits for is done (R93). -/
def State.fenceOver (s : State) (x : Handle) : Bool := !s.fencedAt x.sq x.order (bit x.flags 0)

/-- FENCE_RELEASE (R93): the command starts; one that LOADER personality refuses ends (R29). -/
def execFenceRelease (h : Fin 256) (s : State) : Out :=
  match s.handle? h.val with
  | some x =>
    if !x.started && s.fenceOver x then
      let s := (s.updHandle h.val (fun y => { y with started := true })).timerStart (.handle h.val)
      .next (if s.loaderPers && loaderRefuses x.op then s.complete h.val stNotReady 4 0 0 else s)
    else .next s
  | none => .next s

/-- FETCH_RESUME (R97). -/
def execFetchResume (s : State) : Out :=
  .next (if s.heldHandles < 248 then s.setF Reg.HQE_STATUS_HQ_STALL 0 else s)

/-! ### Completion queues -/

/-- The first entry kept for queue `c` written, when the queue takes it (R99). -/
def State.writeHeld1 (s : State) (c : Nat) : State :=
  match s.hq.held.find? (fun x => x.cq.val == c) with
  | none => s
  | some x =>
    if s.cqOpen c then
      let s := ({ s with hq := { s.hq with held := s.hq.held.erase x } }).cqPut c x.e
      match x.frees with
      | some h => s.freeHandle h
      | none => s
    else s

/-- Entries kept for queue `c` written in order, at most `n` of them. -/
def State.writeHeld (s : State) (c : Nat) : Nat → State
  | 0 => s
  | n + 1 => (s.writeHeld1 c).writeHeld c n

/-- HELD_ENTRY_WRITE (R99). -/
def execHeldEntryWrite (c : Fin 16) (s : State) : Out := .next (s.writeHeld c.val s.hq.held.length)

/-- A doorbell value within its ring. -/
def State.dbRange (s : State) : State := s.hqErr Reg.HQE_ERR_DB_RANGE

/-- SQ_TAIL_DB (R82). -/
def execSqTailDb (q : Fin 16) (v : Word) (s : State) : Out :=
  let t := v.toNat % 4096
  .next (if !s.islUp 3 then s else if t < s.sqSize q.val then s.setF Reg.SQ_STATUS_TAIL t q.val else s.dbRange)

/-- An index moves from `old` to `new` without passing `lim`, in a ring of `n` entries. -/
def noPass (n old new lim : Nat) : Bool := decide ((new + n - old) % n ≤ (lim + n - old) % n)

/-- CQ_HEAD_DB (R82). -/
def execCqHeadDb (c : Fin 16) (v : Word) (s : State) : Out :=
  let h := v.toNat % 16384
  let n := s.cqSize c.val
  .next (if !s.islUp 3 then s else if h < n && noPass n (s.fld Reg.CQ_STATUS_HEAD c.val) h (s.fld Reg.CQ_STATUS_TAIL c.val) then
    let s := s.setF Reg.CQ_STATUS_HEAD h c.val
    s.setB Reg.CQ_STATUS_FULL (s.cqFull c.val) c.val
  else s.dbRange)

/-- COAL_TIMER (R84): the coalescing time of a ring passes. -/
def execCoalTimer (r : RingId) (s : State) : Out :=
  let n := ringNo r
  let irq := if n < 16 then s.on Reg.CQ_CFG_IRQ_EN n else s.on Reg.SR_CFG_IRQ_EN (n - 16)
  let us := if n < 16 then s.fld Reg.CQ_COAL_TIME_US n else s.fld Reg.SR_COAL_TIME_US (n - 16)
  if irq && s.hq.coalTimers.contains n && s.timerDue (.coal n) (ticksUs us) then
    let vec := if n < 16 then s.fld Reg.CQ_CFG_VEC n else s.fld Reg.SR_CFG_VEC (n - 16)
    .next (({ s with hq := { s.hq with coal := Store.erase s.hq.coal n, coalTimers := s.hq.coalTimers.filter (· != n) } }).signal vec)
  else .next s

/-! ### Stream rings (R100 to R104, R497) -/

/-- Ring state `r`. -/
def State.sr (s : State) (r : Nat) : SrState := s.hq.srs.getD r SrState.reset

/-- Ring state `r` changed. -/
def State.updSr (s : State) (r : Nat) (f : SrState → SrState) : State :=
  { s with hq := { s.hq with srs := vmod s.hq.srs r f } }

/-- Entries of stream ring `r`. -/
def State.srSize (s : State) (r : Nat) : Nat := ringSize (s.fld Reg.SR_CFG_LOG2SIZE r) 12

/-- The fill ring of `r` is full (R91). -/
def State.fillFull (s : State) (r : Nat) : Bool :=
  (s.fld Reg.SR_STATUS_FILL_TAIL r + s.srSize r - (s.sr r).fillHead) % s.srSize r == s.srSize r - 1

/-- NOBUF follows the posted buffers (R85). -/
def State.updNobuf (s : State) (r : Nat) : State := s.setB Reg.SR_STATUS_NOBUF (s.sr r).bufs.isEmpty r

/-- A posted buffer keeps the rules of R100, and holds the largest block of the open stream (R101). -/
def PostedBuf.good (b : PostedBuf) (maxBlock : Nat) : Bool :=
  b.addr % 64 == 0 && b.len % 64 == 0 && decide (4096 ≤ b.len) && decide (b.len ≤ 0x1000000) && decide (maxBlock ≤ b.len)

/-- A fill entry written (R92, R102). -/
def State.fillPut (s : State) (r : Nat) (f : FillRet) : State :=
  let t := s.fld Reg.SR_STATUS_FILL_TAIL r
  let x := s.sr r
  let base := s.ringBase (Reg.SR_FILL_BASE_LO.addr r)
  let t' := (t + 1) % s.srSize r
  let hd := leBytes 4 f.cookie ++ leBytes 4 f.bytes ++ leBytes 2 f.blocks ++ leBytes 1 f.status ++ leBytes 1 (b2n x.drop)
  let tl := leBytes 2 x.streamId ++ leBytes 1 0 ++ leBytes 1 (x.phase * 128)
  let s := (s.hostPut (base + 16 * t) hd).hostPut (base + 16 * t + 12) tl
  let s := (s.setF Reg.SR_STATUS_FILL_TAIL t' r).updSr r (fun y =>
    { y with drop := false, ret := none, phase := if t' = 0 then 1 - y.phase else y.phase })
  s.ringWrote (16 + r) false

/-- A fill entry of ring `r` can be written now. -/
def State.fillOpen (s : State) (r : Nat) : Bool := !s.fillFull r && s.engineOn r 4 && s.canPut

/-- A buffer due for return: its fill entry is written, or waits for a free one (R497). -/
def State.returnBuf (s : State) (r : Nat) (f : FillRet) : State :=
  let s := s.updSr r (fun y => { y with cur := none })
  if s.fillOpen r then s.fillPut r f else s.updSr r (fun y => { y with ret := some f })

/-- The next posted buffer leaves the buffer ring: BUF_HEAD advances. -/
def State.popBuf (s : State) (r : Nat) : State :=
  ((s.updSr r (fun y => { y with bufs := y.bufs.drop 1 })).setF Reg.SR_STATUS_BUF_HEAD
    ((s.fld Reg.SR_STATUS_BUF_HEAD r + 1) % s.srSize r) r).updNobuf r

/-- Posted buffers that break R100 or R101 and stand next in ring order are returned unused, at most `n` of them. -/
def State.returnBad (s : State) (r : Nat) : Nat → State
  | 0 => s
  | n + 1 =>
    let x := s.sr r
    match x.bufs with
    | [] => s
    | b :: _ =>
      if x.cur.isSome || x.ret.isSome || b.good x.maxBlock || !s.on Reg.SR_CFG_EN r then s
      else ((s.popBuf r).returnBuf r ⟨b.cookie, 0, 0, stInvalid⟩).returnBad r n

/-- The buffer being filled returned with a status (R103); entries behind it that break the rules follow it. -/
def State.returnCur (s : State) (r st : Nat) : State :=
  match (s.sr r).cur with
  | none => s
  | some c => (s.returnBuf r ⟨c.buf.cookie, c.bytes, c.blocks, st⟩).returnBad r (s.sr r).bufs.length

/-- The buffer a ring fills: the held one, or the next good posted buffer taken. -/
def State.takeBuf (s : State) (r : Nat) : State :=
  let s := s.returnBad r ((s.sr r).bufs.length)
  let x := s.sr r
  match x.cur, x.ret, x.bufs with
  | none, none, b :: _ =>
    if b.good x.maxBlock then (s.popBuf r).updSr r (fun y => { y with cur := some ⟨b, 0, 0⟩ }) else s
  | _, _, _ => s

/-- A buffer-ring entry read (R100). -/
def parseBuf (bs : List Byte) : PostedBuf := ⟨field bs 0 8, field bs 8 4, field bs 12 4⟩

/-- A read of an entry of buffer ring `r` is outstanding. -/
def State.bufReading (s : State) (r : Nat) : Bool := s.hq.reads.any (fun x => x.target == .bufRing (Fin.ofNat 8 r) && !x.dead)

/-- The engine may read buffer ring `r`: ring and engine enabled, the link open (R80, R85). -/
def State.bufFetchable (s : State) (r : Nat) : Bool := s.on Reg.SR_CFG_EN r && s.engineOn r 4 && s.canPut

/-- Entries of buffer ring `r` that wait are read: one read is outstanding (R109). -/
def State.bufRead (s : State) (r : Nat) : State :=
  if s.bufFetchable r && !s.bufReading r && (s.sr r).fetched != (s.sr r).bufTail then
    { s.timerStart (.read s.hq.nextTag) with hq := { s.hq with reads := s.hq.reads ++ [⟨s.hq.nextTag, .bufRing (Fin.ofNat 8 r), false⟩], nextTag := s.hq.nextTag + 1 } }
  else s

/-- The reads of buffer rings that resume with an engine or the link; not those stopped by a failed fetch (R80, R109). -/
def State.bufResume (s : State) : State :=
  (List.range 8).foldl (fun (s : State) r => if s.on Reg.SR_STATUS_BUF_ERR r then s else s.bufRead r) s

/-- What the next entry of buffer ring `r` reads as (R110). -/
def State.readBuf (s : State) (r : Nat) (d : HostData) : HostData × State :=
  s.hostRead (s.ringBase (Reg.SR_BUF_BASE_LO.addr r) + 16 * (s.sr r).fetched) 16 d

/-- Entries of buffer ring `r` read in order, from the last one fetched up to the tail (R104, R109); the read of one that has no answer yet is outstanding. -/
def State.fetchBufs (s : State) (r : Nat) : List HostData → State
  | [] => s.bufRead r
  | d :: ds =>
    let x := s.sr r
    if x.fetched = x.bufTail then s
    else match s.readBuf r d with
      | (.ok bs, s) =>
        let s := (s.updSr r (fun y => { y with bufs := y.bufs ++ [parseBuf bs], fetched := (y.fetched + 1) % s.srSize r })).setF
          Reg.SR_STATUS_BUF_ERR 0 r
        (s.updNobuf r).fetchBufs r ds
      | (.outstanding, s) => s.bufRead r
      | (.timeout, s) => s.bufFail r Reg.HQE_ERR_FETCH_TMO
      | (.poisoned, s) => s.bufFail r Reg.HQE_ERR_FETCH_POISON
      | (.refused, s) => s.bufFail r Reg.HQE_ERR_FETCH_POISON

/-- SR_BUF_DB (R82): the new tail, and what the entries it announces read as; while the ring or its engine is off, or a read of the ring is outstanding, they wait. -/
def execSrBufDb (r : Fin 8) (v : Word) (entries : List HostData) (s : State) : Out :=
  let t := v.toNat % 4096
  .next (if !s.islUp 3 then s else if t < s.srSize r.val then
    let s := s.updSr r.val (fun y => { y with bufTail := t })
    let s := if s.bufFetchable r.val && !s.bufReading r.val then s.fetchBufs r.val entries else s
    s.returnBad r.val ((s.sr r.val).bufs.length)
  else s.dbRange)

/-- SR_FILL_DB (R82). -/
def execSrFillDb (r : Fin 8) (v : Word) (s : State) : Out :=
  let h := v.toNat % 4096
  let n := s.srSize r.val
  .next (if !s.islUp 3 then s else if h < n && noPass n (s.sr r.val).fillHead h (s.fld Reg.SR_STATUS_FILL_TAIL r.val) then
    s.updSr r.val (fun y => { y with fillHead := h })
  else s.dbRange)

/-! ### Reads of host memory (R109) and D-states (R80) -/

/-- A read record removed. -/
def State.dropRead (s : State) (t : Nat) : State :=
  { s with hq := { s.hq with reads := s.hq.reads.filter (fun r => r.tag != t) } }

/-- A read record marked failed or written off; its tag stays held. -/
def State.killRead (s : State) (t : Nat) : State :=
  { s with hq := { s.hq with reads := s.hq.reads.map (fun r => if r.tag == t then { r with dead := true } else r) } }

/-- A late completion discarded as an Unexpected Completion. -/
def State.unexpected (s : State) : State := ((s.incF Reg.HQE_UNEXP_COUNT).aerSet aerUnexpected).hqErr Reg.HQE_ERR_UNEXP_CPL

/-- What a failed read does, by what it was for. -/
def State.readFailed (s : State) (t : ReadTarget) (tmo : Bool) (st det : Nat) : State :=
  let F := if tmo then Reg.HQE_ERR_FETCH_TMO else Reg.HQE_ERR_FETCH_POISON
  match t with
  | .fetch q => s.fetchFail q F
  | .bufRing r => s.bufFail r F
  | .cmd h => if tmo then (s.aerSet aerTimeout).complete h st det 0 0 else s.complete h st det 0 0

/-- What an outstanding read returns now: stand-alone operation reads the internal map again (R110). -/
def State.readAgain (s : State) (t : ReadTarget) (d : HostData) : HostData × State :=
  match t with
  | .fetch q => s.readSq q d
  | .bufRing r => s.readBuf r d
  | .cmd _ => (d, s)

/-- HOST_READ_COMPLETION (R109): the completions of the read of a tag arrive. -/
def execHostReadCompletion (tag : Nat) (d : HostData) (s : State) : Out :=
  match s.hq.reads.find? (fun r => r.tag == tag) with
  | none => .next (match d with
    | .outstanding => s
    | .timeout => s
    | _ => if s.islUp 3 then s.unexpected else s)
  | some r =>
    if r.dead then .next s
    else .next (match s.readAgain r.target d with
      | (.outstanding, _) => s
      | (.timeout, _) => s
      | (.poisoned, s) => (s.killRead tag).readFailed r.target false stDataError (if s.pw.standalone then 2 else 1)
      | (.refused, s) => (s.killRead tag).readFailed r.target false stDataError 4
      | (.ok bs, s) =>
        let s := s.dropRead tag
        match r.target with
        | .fetch q => s.takeEntry q bs
        | .bufRing x => (s.fetchBufs x [.ok bs]).returnBad x ((s.sr x).bufs.length + 1)
        | .cmd _ => s)

/-- HQE_CTO_EXPIRY (R109): the completion timeout of the read of a tag passes, and the tag is released. -/
def execHqeCtoExpiry (tag : Nat) (s : State) : Out :=
  match s.hq.reads.find? (fun r => r.tag == tag) with
  | none => .next s
  | some r =>
    if !s.timerDue (.read tag) (ticksMs (s.fld Reg.HQE_CTO)) then .next s
    else
    let s := s.dropRead tag
    .next (if r.dead then s else (s.timeoutEvt (!s.pw.standalone) (rowOf 0x10000)).readFailed r.target true stTimeout (if s.pw.standalone then 3 else 2))

/-- Pending interrupts sent once the link carries them and no mask holds them (R80, R81, R83). -/
def State.flushPba (s : State) : State :=
  { s with irqOut := s.irqOut ++ s.hq.pba.filter s.vecOpen, hq := { s.hq with pba := s.hq.pba.filter (fun v => !s.vecOpen v) } }

/-- What resumes when the link carries requests again: kept data writes, pending interrupts, reads of buffer rings (R80, R83). -/
def State.linkResume (s : State) : State := s.flushWrites.flushPba.bufResume

/-- D3HOT_ENTRY (R80); D3hot does not exist in stand-alone operation (R110). -/
def execD3hotEntry (s : State) : Out :=
  .next (if s.pw.standalone || !s.pw.linkUp then s else { s with pw := { s.pw with d3hot := true } })

/-- D0_RETURN (R80). -/
def execD0Return (s : State) : Out := .next ({ s with pw := { s.pw with d3hot := false } }).linkResume

/-- LINK_L0 (R58, R337): the link, training or retrained by the host in WATCH, reaches L0: trained to a speed and width; PEWAKE_L released, pending interrupts sent. -/
def execLinkL0 (speed : Fin 16) (width : Fin 64) (s : State) : Out :=
  .next (if s.pw.standalone || s.pw.perstLow || !(s.pw.linkTraining || s.pw.linkUp || (s.awake && s.pstate == stWatch)) then s
    else ({ s with pw := { s.pw with linkUp := true, linkTraining := false, linkSpeed := speed.val, linkWidth := width.val,
                                     pewake := false } }).linkResume)

/-- PEWAKE_TIMEOUT (R58): PEWAKE_L is released after 1 s without L0. -/
def execPewakeTimeout (s : State) : Out := .next (if s.timerDue .pewake (ticksS 1) then { s with pw := { s.pw with pewake := false } } else s)

/-! ### Information commands -/

/-- NOP (R105). -/
def execNop (h : Fin 256) (s : State) : Out :=
  match s.cmd? h.val 0x00 with
  | none => .next s
  | some _ => .next (s.complete h.val stOk 0 0 0)

/-- The 256 bytes of IDENTIFY (R105); the firmware versions are those of the running generation's parts. -/
def State.identify (s : State) : List Byte :=
  let link := if s.pw.linkUp && !s.pw.standalone then s.pw.linkSpeed + s.pw.linkWidth * 16 else 0
  leBytes 4 0x612801B0 ++ leBytes 4 (s.fld Reg.SUM_GEN_LO) ++ leBytes 1 (b2n s.loaderPers) ++
  leBytes 1 (b2n s.pw.standalone) ++ leBytes 2 link ++ leBytes 4 (s.fld Reg.MEM_SIZE) ++
  leBytes 2 Config.vendorId.toNat ++ leBytes 2 (s.fld Reg.HQE_STATUS_FREE) ++ zeros 4 ++
  leBytes 16 Config.uid.toNat ++ leBytes 4 s.sum.sumVer ++ leBytes 4 s.sum.hqeVer ++ zeros 208

/-- IDENTIFY (R105). -/
def execIdentify (h : Fin 256) (d : CmdData) (s : State) : Out :=
  match s.cmd? h.val 0x01 with
  | none => .next s
  | some x => .next (s.giveData x d s.identify)

/-- QUERY (R105): the spec gives no codes for the unit state and the progress count, so both are free values (log entry 8). -/
def execQuery (h : Fin 256) (s : State) : Out :=
  match s.cmd? h.val 0x03 with
  | none => .next s
  | some x =>
    match s.handle? (x.p 0 % 256) with
    | some y =>
      if y.gen = x.p 0 / 256 % 256 then
        let (a, s) := s.freeVal 32
        let (b, s) := s.freeVal 24
        .next (s.complete h.val stOk 0 a b)
      else .next (s.complete h.val stStale 0 0 0)
    | none => .next (s.complete h.val stStale 0 0 0)

end Sys2Proof.Machine
end

