-- ==== Sys2Proof/Machine/RidgeIrq.lean ====
section
/-! DEFINITION. The interrupt sources of the ridge cores (R269), which blocks outside the cores raise too. -/

namespace Sys2Proof.Machine

/-- Codes of RDG_STATUS.STATE (R279). -/
def rStopped : Nat := 1
def rRunning : Nat := 2
def rWaiting : Nat := 3
def rHalted : Nat := 4

/-- Core `c`. -/
def State.rc (s : State) (c : Nat) : Rcore := s.rdg.getD c Rcore.reset

/-- A change of core `c`. -/
def State.updRc (s : State) (c : Nat) (f : Rcore → Rcore) : State := { s with rdg := vmod s.rdg c f }

/-- The core executes bundles. -/
def State.rRuns (s : State) (c : Nat) : Bool := s.fld Reg.RDG_STATUS c == rRunning

/-- The core is RUNNING or WAITING. -/
def State.rLive (s : State) (c : Nat) : Bool := s.rRuns c || s.fld Reg.RDG_STATUS c == rWaiting

/-- The island of the core is held in reset by PWR_ISL_RST (R53). -/
def State.rHeld (s : State) (c : Nat) : Bool := (s.fld Reg.PWR_ISL_RST).testBit (16 + c)

/-- Some source is both enabled and pending. -/
def State.rPending (s : State) (c : Nat) : Bool := (s.fld Reg.RDG_IEN c &&& s.fld Reg.RDG_IPEND c) != 0

/-- `n` core cycles counted (R279). -/
def State.rCycles (s : State) (c n : Nat) : State :=
  s.set64 Reg.RDG_CYCLE_LO Reg.RDG_CYCLE_HI (s.fld64 Reg.RDG_CYCLE_LO Reg.RDG_CYCLE_HI c + n) c

/-- A WAITING core goes on once an enabled source is pending (R272); the cycles it waited are a free value (log entry 28). -/
def State.rWake (s : State) (c : Nat) : State :=
  if s.fld Reg.RDG_STATUS c == rWaiting && s.rPending c then
    let (n, s) := s.freeVal 32
    (s.rCycles c n).setF Reg.RDG_STATUS rRunning c
  else s

/-- Source `n` pending on core `c` (R269). -/
def State.rPend (s : State) (c n : Nat) : State := (s.orF Reg.RDG_IPEND (2 ^ n) c).rWake c

/-- A block was written to firn stream slot `f`: source 7 of the cores that watch it. -/
def State.rStream (s : State) (f : Nat) : State :=
  (List.range 8).foldl (fun (s : State) c => if (s.fld Reg.RDG_STRM_WATCH c).testBit f then s.rPend c 7 else s) s

/-- Event 0xE2 pulses: source 6 of every core. -/
def State.rFrame (s : State) : State := (List.range 8).foldl (fun (s : State) c => if s.rHeld c then s else s.rPend c 6) s

end Sys2Proof.Machine
end

