-- ==== Sys2Proof/Machine/Streams.lean ====
section
/-! DEFINITION. Streams: opening and closing, grooming and delivery of blocks to stream rings, firn rings and the glacier feed (R21, R101 to R104, R180, R239, R267), and the processing of a firing (R167). -/

namespace Sys2Proof.Machine

/-- The stream of an ID. -/
def State.stream? (s : State) (id : Nat) : Option Stream := s.red.streams.find? (fun st => st.id == id)

/-- The stream of an ID changed. -/
def State.updStream (s : State) (id : Nat) (f : Stream → Stream) : State :=
  { s with red := { s.red with streams := s.red.streams.map (fun st => if st.id == id then f st else st) } }

/-! ### Grooming (R239) -/

/-- The groomer's level for a stream: SLM_GL_CTL.LEVEL for the feed, else GRM_STREAM_CFG.LEVEL with 3 taken as 2. -/
def State.groomLevel (s : State) (st : Stream) : Nat :=
  if st.dest = .glacier then s.fld Reg.SLM_GL_CTL_LEVEL else min 2 (s.fld Reg.GRM_STREAM_CFG_LEVEL)

/-- A block groomed into one INDEP chunk, or left as it is when the chunk is not shorter (R239). -/
def State.groomOne (s : State) (st : Stream) (b : SBlock) : State × SBlock :=
  let el := kindElem b.kind
  let f : ChunkFmt := ⟨el, b.k, s.fld Reg.GRM_STREAM_CFG_PRED, s.groomLevel st, b.points⟩
  let q := (elemsOf el b.payload).map (fun y => Int.fdiv y (2 ^ b.k))
  let c := encodeChunk f true [] q 0 8 2
  let s := s.set64 Reg.GRM_C_IN_LO Reg.GRM_C_IN_HI (s.fld64 Reg.GRM_C_IN_LO Reg.GRM_C_IN_HI + b.payload.length)
  if c.bytes.length < b.payload.length then
    (s.set64 Reg.GRM_C_OUT_LO Reg.GRM_C_OUT_HI (s.fld64 Reg.GRM_C_OUT_LO Reg.GRM_C_OUT_HI + c.bytes.length),
      { b with payload := c.bytes, groomed := true, through := true })
  else
    ((s.set64 Reg.GRM_C_OUT_LO Reg.GRM_C_OUT_HI (s.fld64 Reg.GRM_C_OUT_LO Reg.GRM_C_OUT_HI + b.payload.length)).incF Reg.GRM_STORED,
      { b with through := true })

/-- A block that has still to pass the groomer. -/
def Stream.owesGroom (st : Stream) (b : SBlock) : Bool := st.groomed && !b.through

/-- A block lost for a stream: counted at its consumer, and OVERFLOW set in the next one (R21, R104). -/
def State.lose (s : State) (st : Stream) : State :=
  let s := s.updStream st.id (fun y => { y with ovf := true, discarded := y.discarded + 1 })
  match st.dest with
  | .ring r => (s.incF Reg.SR_DROP r).updSr r (fun y => { y with drop := true })
  | .glacier => s.incF Reg.RED_DROP_GLACIER
  | .firn f =>
    let at_ := 0x7FFF00 + 64 * f + 32
    { s.incF Reg.RED_DROP_FIRN with mem := { s.mem with firn := s.mem.firn.writeLe at_ 4 (s.mem.firn.readLe at_ 4 + 1) } }

/-- The place of a stream in the groomer's order: the feed, then stream rings, then firn slots (R240). -/
def Stream.groomRank (st : Stream) : Nat :=
  match st.dest with
  | .glacier => 0
  | .ring r => 1 + r
  | .firn f => 9 + f

/-- The stream whose block the groomer takes next. -/
def State.nextGroom (s : State) : Option Stream :=
  (List.range 13).findSome? (fun k => s.red.streams.find? (fun st => st.groomRank == k && st.ready.any (fun b => st.owesGroom b)))

/-- The first block of a stream that owes grooming replaced, or removed. -/
def replaceFirst (st : Stream) (f : SBlock → List SBlock) : List SBlock → List SBlock
  | [] => []
  | b :: bs => if st.owesGroom b then f b ++ bs else b :: replaceFirst st f bs

/-- GROOM_BLOCK (R239, R240): the next block in priority order is groomed; `short` when both instances lack the throughput for it, and it is lost. -/
def execGroomBlock (short : Bool) (s : State) : Out :=
  match s.nextGroom with
  | none => .next s
  | some st =>
    if short then
      .next ((s.updStream st.id (fun y => { y with ready := replaceFirst st (fun _ => []) y.ready })).lose st |>.setF Reg.GRM_STATUS_FEED_SHORT 1)
    else
      match st.ready.find? (fun b => st.owesGroom b) with
      | none => .next s
      | some b =>
        let (s, b') := s.groomOne st b
        .next (s.updStream st.id (fun y => { y with ready := replaceFirst st (fun _ => [b']) y.ready }))

/-! ### Delivery (R21, R101, R104, R267) -/

/-- A block written into the buffer that a ring holds, with Relaxed Ordering where HQE_CTL and the host both permit it (R103). -/
def State.ringWrite (s : State) (r : Nat) (c : CurBuf) (bs : List Byte) : State :=
  ((if c.bytes = 0 then s.timerStart (.flush r) else s).hostPutRo (s.on Reg.HQE_CTL_RO_STREAM && s.hostRo) (c.buf.addr + c.bytes) bs).updSr r (fun y => { y with cur := some { c with bytes := c.bytes + bs.length, blocks := c.blocks + 1 } })

/-- A block for a stream ring, and whether it was delivered (R104). A held buffer that it does not fit is returned, with credit or without (R101, R103, R497). -/
def State.deliverRing (s : State) (r n : Nat) (bs : List Byte) : State × Bool :=
  if !s.on Reg.SR_CFG_EN r || !s.engineOn r 4 || !s.canPut || s.on Reg.SR_STATUS_BUF_ERR r then (s, false)
  else
    let s := match (s.sr r).cur with
      | some c => if c.bytes + n ≤ c.buf.len then s else s.returnCur r stOk
      | none => s
    let s := s.takeBuf r
    match (s.sr r).cur with
    | some c => if c.bytes + n ≤ c.buf.len then (s.ringWrite r c bs, true) else (s, false)
    | none => (s, false)

/-- Firn offset of the control record of slot `f` (R267). -/
def firnRec (f : Nat) : Nat := 0x7FFF00 + 64 * f

/-- A block delivered to a firn ring; none without credit (R267). -/
def State.deliverFirn (s : State) (f n : Nat) (bs : List Byte) : Option State :=
  let m := s.mem.firn
  let base := m.readLe (firnRec f + 8) 4
  let size := m.readLe (firnRec f + 12) 4
  let wr := m.readLe (firnRec f + 16) 4
  let rd := m.readLe (firnRec f + 20) 4
  let wraps := decide (size < wr + n)
  let adv := if wraps then size - wr + n else n
  if (wr + size - rd) % max 1 size + adv + 64 ≤ size then
    let m := if wraps then (m.writeLe (base + wr) 4 0x50494B53).writeN base bs else m.writeN (base + wr) bs
    let wr' := (wr + adv) % max 1 size
    let m := (m.writeLe (firnRec f + 16) 4 wr').writeLe (firnRec f + 24) 8 (m.readLe (firnRec f + 24) 8 + 1)
    some ({ s with mem := { s.mem with firn := m } }.rStream f)
  else none

/-- A block delivered to its stream's consumer, or discarded for it (R21). -/
def State.deliver (s : State) (st : Stream) (b : SBlock) : State :=
  let bs := b.bytes st.ovf
  let (s, ok) := match st.dest with
    | .ring r => s.deliverRing r bs.length bs
    | .firn f => ((s.deliverFirn f bs.length bs).getD s, (s.deliverFirn f bs.length bs).isSome)
    | .glacier => ((s.glWrite b st.ovf).getD s, (s.glWrite b st.ovf).isSome)
  if ok then (s.timersStart (st.handle.toList.map .handle)).updStream st.id (fun y => { y with ovf := false, delivered := y.delivered + 1 }) else s.lose st

/-- The oldest complete block of a stream leaves it, once it owes no grooming. -/
def State.deliverFirst (s : State) (id : Nat) : State :=
  match s.stream? id with
  | none => s
  | some st =>
    match st.ready with
    | [] => s
    | b :: bs => if st.owesGroom b then s else (s.updStream id (fun y => { y with ready := bs })).deliver st b

/-- STREAM_BLOCK_COMPLETE (R21): a block of a host or firn stream. -/
def execStreamBlockComplete (id : BitVec 16) (s : State) : Out := .next (if id = 0 then s else s.deliverFirst id.toNat)

/-- GLACIER_BLOCK_WRITE (R216). -/
def execGlacierBlockWrite (s : State) : Out := .next (s.deliverFirst 0)

/-- BLOCK_CLOSE_TIMER (R181). -/
def execBlockCloseTimer (id : BitVec 16) (s : State) : Out :=
  .next (if s.timerDue (.block id.toNat) (ticksMs (max 1 (s.fld Reg.RED_CTL))) then s.updStream id.toNat Stream.closeBlock else s)

/-- SR_FLUSH_TIMER (R103). -/
def execSrFlushTimer (r : Fin 8) (s : State) : Out :=
  match (s.sr r.val).cur with
  | some c => .next (if c.bytes = 0 || !s.timerDue (.flush r.val) (ticksUs (max 10 (s.fld Reg.SR_FLUSH r.val))) then s else s.returnCur r.val stPartial)
  | none => .next s

/-! ### Closing (R103, R175 to R183) -/

/-- Every complete block groomed and delivered, at most `n`. -/
def State.drainStream (s : State) (id : Nat) : Nat → State
  | 0 => s
  | n + 1 =>
    match s.stream? id with
    | none => s
    | some st =>
      match st.ready with
      | [] => s
      | b :: bs =>
        let (s, b) := if st.owesGroom b then s.groomOne st b else (s, b)
        ((s.updStream id (fun y => { y with ready := bs })).deliver st b).drainStream id n

/-- The stream removed, its handle and the closer's completed. -/
def State.finishClose (s : State) (st : Stream) (status det : Nat) (closer : Option Nat) : State :=
  let s := { s with red := { s.red with streams := s.red.streams.filter (fun y => y.id != st.id) } }
  let s := match st.dest with
    | .ring r => (s.setF Reg.SR_STATUS_OPEN 0 r).updSr r (fun y => { y with streamId := 0, maxBlock := 0 })
    | .firn f => { s with mem := { s.mem with firn := s.mem.firn.writeLe (firnRec f + 6) 2 2 } }
    | .glacier => s
  let s := match st.handle with
    | some h => s.complete h status det st.delivered st.discarded
    | none => s
  match closer with
  | some h => s.completeStop h st.delivered st.discarded
  | none => s

/-- A stream closes: its incomplete group is discarded, its blocks leave, its buffer is returned with `fill`; it ends when no return waits (R103, R497). -/
def State.closeStream (s : State) (id status det : Nat) (closer : Option Nat) (fill : Nat) : State :=
  let s := s.updStream id (fun st => { st.closeBlock with groups := [] })
  let s := s.drainStream id (((s.stream? id).map (fun st => st.ready.length)).getD 0)
  match s.stream? id with
  | none => s
  | some st =>
    match st.dest with
    | .ring r =>
      let s := s.returnCur r fill
      if (s.sr r).ret.isSome then s.updStream id (fun y => { y with closing := some (status, det, closer, fill) })
      else s.finishClose st status det closer
    | _ => s.finishClose st status det closer

/-! ### Opening (R180) -/

/-- What STREAM_OPEN and STREAM_FIRN ask for. -/
structure StreamReq where
  kind : Nat
  first : Nat
  count : Nat
  mS : Nat
  mT : Nat
  groomed : Bool
  k : Nat
  /-- a bit of P1 [31:4] is set; a reserved bit of P5 is set -/
  kindRsvd : Bool
  groomRsvd : Bool

/-- The request of parameter words from index `i` on. -/
def Handle.streamReq (x : Handle) (i : Nat) : StreamReq :=
  ⟨x.p i % 16, x.p (i + 1), x.p (i + 2), x.p (i + 3) % 65536, x.p (i + 3) / 65536, bit (x.p (i + 4)) 0, bits (x.p (i + 4)) 11 8,
    x.p i / 16 != 0, x.p (i + 4) &&& 0xF01 != x.p (i + 4)⟩

/-- Bytes of one output sample. -/
def StreamReq.row (q : StreamReq) : Nat := (if q.kind = kZone then 256 else q.count / max 1 q.mS) * kindBytes q.kind

/-- The largest block the request produces, as it lies in a buffer (R101, R181). -/
def StreamReq.maxBlock (q : StreamReq) : Nat :=
  let n := q.row
  (64 + (if n = 0 ∨ 65536 < n then 65536 else 65536 / n * n) + 63) / 64 * 64

/-- The kind is allowed under a plan (R175). -/
def kindAllowed (kind : Nat) (p : Plan) : Bool :=
  decide (kind ≤ 5) && (kind != kInt || p.align) && (kind != kInc || p.align || p.keepsTheta)

/-- The kind, range and reduction rows of R180, offsets starting at `o`: the DETAIL of the first that fails. -/
def State.reqBad (s : State) (p : Plan) (q : StreamReq) (o : Nat) : Option Nat :=
  let lim := if q.kind = kBand then cellCount (s.energyPoints p) (s.fld Reg.RED_E_CFG_CELL) else p.pLeast
  if q.kindRsvd || !kindAllowed q.kind p then some o
  else if lim ≤ q.first then some (o + 4)
  else if q.count = 0 ∨ lim < q.first + q.count then some (o + 8)
  else if q.mS = 0 ∨ 1024 < q.mS ∨ q.mT = 0 ∨ q.count % q.mS ≠ 0 ∨
      ((q.kind = kDphase ∨ q.kind = kBand ∨ q.kind = kZone) ∧ (q.mS ≠ 1 ∨ q.mT ≠ 1)) ∨ (q.kind = kAmp ∧ q.mS * q.mT < 16) then some (o + 12)
  else if 8 < q.k ∨ (q.kind = kAmp ∧ q.k ≠ 0) ∨ q.groomRsvd then some (o + 16)
  else none

/-- A groomed stream needs the GCTX region (R305). -/
def State.gctxMissing (s : State) (q : StreamReq) : Bool := q.groomed && decide (q.kind ≤ kAmp) && s.rgnSize 2 == 0

/-- The stream of a request; BAND and ZONE are never groomed (R227). -/
def StreamReq.stream (q : StreamReq) (id h : Nat) (dest : Dest) : Stream :=
  let plain := q.kind = kBand ∨ q.kind = kZone
  { id := id, handle := some h, dest := dest, kind := q.kind, first := q.first, count := q.count, mS := q.mS, mT := q.mT,
    groomed := if plain then false else q.groomed, k := if plain then 0 else q.k, groups := [], open_ := none, ready := [], ovf := false,
    eps := [], delivered := 0, discarded := 0, closing := none }

/-- STREAM_OPEN checked and opened (R180). -/
def State.openRing (s : State) (x : Handle) : State :=
  let r := x.p 0
  let q := x.streamReq 1
  match s.acq.run with
  | none => s.complete x.idx stNotReady 6 0 0
  | some (_, p) =>
    if 7 < r ∨ !s.on Reg.SR_CFG_EN r then s.complete x.idx stInvalid 24 0 0
    else if s.on Reg.SR_STATUS_OPEN r then s.complete x.idx stBusy 0x20 0 0
    else match s.reqBad p q 28 with
      | some det => s.complete x.idx stInvalid det 0 0
      | none =>
        if (s.sr r).bufs.any (fun b => decide (b.len < q.maxBlock)) then s.complete x.idx stInvalid 24 0 0
        else if s.gctxMissing q then s.complete x.idx stNotReady 3 0 0
        else
          let s := ((s.takeUp x.idx).setF Reg.SR_STATUS_OPEN 1 r).updSr r (fun y => { y with streamId := x.word, maxBlock := q.maxBlock })
          let st := q.stream x.word x.idx (.ring (Fin.ofNat 8 r))
          { s with red := { s.red with streams := s.red.streams ++ [st] } }.epsClear st

/-- The stream on ring `r` is closing. -/
def State.ringClosing (s : State) (r : Nat) : Bool :=
  s.red.streams.any (fun st => decide (r < 8) && st.dest == Dest.ring (Fin.ofNat 8 r) && st.closing.isSome)

/-- STREAM_OPEN (R180, R475): on a ring whose STREAM_CLOSE has not completed it waits; a second one then finds the queued request. -/
def execStreamOpen (h : Fin 256) (s : State) : Out :=
  match s.cmd? h.val 0x20 with
  | none => .next s
  | some x =>
    let r := x.p 0
    .next (if s.ringClosing r then
      if s.red.waiting.any (fun w => w.2 == r) then s.complete h.val stBusy 0x20 0 0
      else { s.takeUp h.val with red := { s.red with waiting := s.red.waiting ++ [(h.val, r)] } }
    else s.openRing x)

/-- The firn slot of a new stream: the lowest that has been free since reset, else the lowest closed one (R267). -/
def State.firnSlot (s : State) : Option Nat :=
  let open_ (f : Nat) : Bool := s.red.streams.any (fun st => st.dest == Dest.firn (Fin.ofNat 4 f))
  match findIdxBelow (fun f => !open_ f && s.mem.firn.readLe (firnRec f + 6) 2 == 0) 4 with
  | some f => some f
  | none => findIdxBelow (fun f => !open_ f) 4

/-- The control record of a new firn stream (R267). -/
def firnRecord (id base size : Nat) : List Byte :=
  leBytes 4 0x4E524946 ++ leBytes 2 id ++ leBytes 2 1 ++ leBytes 4 base ++ leBytes 4 size ++ zeros 48

/-- STREAM_FIRN (R180, R267). -/
def execStreamFirn (h : Fin 256) (s : State) : Out :=
  match s.cmd? h.val 0x22 with
  | none => .next s
  | some x =>
    let q := x.streamReq 2
    .next (match s.acq.run with
      | none => s.complete h.val stNotReady 6 0 0
      | some (_, p) =>
        if x.p 0 % 64 ≠ 0 ∨ 0x7FFF00 ≤ x.p 0 then s.complete h.val stInvalid 24 0 0
        else if x.p 1 % 64 ≠ 0 ∨ 0x7FFF00 < x.p 0 + x.p 1 then s.complete h.val stInvalid 28 0 0
        else match s.reqBad p q 32 with
          | some det => s.complete h.val stInvalid det 0 0
          | none =>
            match s.firnSlot with
            | none => s.complete h.val stBusy 0x22 0 0
            | some f =>
              if x.p 1 < q.maxBlock then s.complete h.val stInvalid 28 0 0
              else if s.gctxMissing q then s.complete h.val stNotReady 3 0 0
              else
                let s := s.takeUp h.val
                let st := q.stream x.word h.val (.firn (Fin.ofNat 4 f))
                { s with mem := { s.mem with firn := s.mem.firn.writeN (firnRec f) (firnRecord x.word (x.p 0) (x.p 1)) },
                         red := { s.red with streams := s.red.streams ++ [st] } }.epsClear st)

/-- STREAM_CLOSE (R96, R103, R475): a queued STREAM_OPEN that it names is cancelled. -/
def execStreamClose (h : Fin 256) (s : State) : Out :=
  match s.cmd? h.val 0x21 with
  | none => .next s
  | some x =>
    .next (match s.named (x.p 0) with
      | none => s.complete h.val stStale 0 0 0
      | some y =>
        if y.op ≠ 0x20 ∧ y.op ≠ 0x22 then s.complete h.val stStale 0 0 0
        else if y.done then s.stopIdle h.val y true
        else if s.red.waiting.any (fun w => w.1 == y.idx) then
          let s := { s with red := { s.red with waiting := s.red.waiting.filter (fun w => w.1 != y.idx) } }
          (s.complete y.idx stAborted 3 0 0).complete h.val stOk 0 0 0
        else match s.red.streams.find? (fun st => st.handle == some y.idx) with
          | none => s.stopIdle h.val y true
          | some st =>
            if st.closing.isSome then s.complete h.val stBusy 0x21 0 0
            else (s.takeUp h.val).closeStream st.id stOk 0 (some h.val) stPartial)

/-- A STREAM_OPEN that waited for ring `r` carried out. -/
def State.openWaiting (s : State) (r : Nat) : State :=
  match s.red.waiting.find? (fun w => w.2 == r) with
  | none => s
  | some w =>
    let s := { s with red := { s.red with waiting := s.red.waiting.filter (fun v => v.2 != r) } }
    match s.handle? w.1 with
    | some x => s.openRing x
    | none => s

/-- PENDING_RETURN_WRITE (R497): the waiting return is written once the fill ring has room; a close that waited for it completes. -/
def execPendingReturnWrite (r : Fin 8) (s : State) : Out :=
  match (s.sr r.val).ret with
  | none => .next s
  | some f =>
    if !s.fillOpen r.val then .next s
    else
      let s := s.fillPut r.val f
      let s := match s.red.streams.find? (fun st => st.dest == Dest.ring r && st.closing.isSome) with
        | some st =>
          match st.closing with
          | some (status, det, closer, _) => (s.finishClose st status det closer).openWaiting r.val
          | none => s
        | none => s
      .next (s.returnBad r.val ((s.sr r.val).bufs.length))

/-- Every stream closes: the acquisition ends (R26, R181). -/
def State.closeAll (s : State) (status det fill : Nat) : State :=
  s.red.streams.foldl (fun (s : State) st => if st.closing.isSome then s else s.closeStream st.id status det none fill) s

/-! ### Firings, steps and energies -/

/-- The steps whose first series index has been reached are applied, oldest first. -/
def State.stepsDue (s : State) : State :=
  let due := s.ph.stepAt.filter (fun x => decide (x.1 ≤ s.ph.nextN))
  let s := { s with ph := { s.ph with stepAt := s.ph.stepAt.filter (fun x => !decide (x.1 ≤ s.ph.nextN)) } }
  due.foldl (fun (s : State) x => (s.applyStep x.2).streamsStep) s

/-- A firing of tone `k` in slot `slot`, series firing `n`, through compression, the phase engine, the streams and the energy stage. -/
def State.processFiring (s : State) (id : Nat) (p : Plan) (n : Nat) : State :=
  let s := s.stepsDue
  let slot := n % p.n
  match p.toneAt slot with
  | none => s
  | some k =>
    match p.tones[k]? with
    | none => s
    | some t =>
      let (c, s) := s.compressNext p t n
      let age := s.fld Reg.CMP_ALIGN_AGE
      let at_ : SampleAt := ⟨id, p.align, k, n / p.n, s.acq.stamps.headD 0, age, alignState p.align age (s.fld Reg.CMP_ALIGN_TRAV) p.alignM,
        if p.align then n else n / p.n, s.ph.steps⟩
      let (pts, s) := s.phaseSamples p k slot c
      let s := s.streamSamples at_ pts
      let s := s.energySample at_ pts
      let s := if slot + 1 = p.n then s.frameEnd p else s
      { s with acq := { s.acq with stamps := s.acq.stamps.drop 1 }, ph := { s.ph with nextN := n + 1 } }

/-- FIRING_PROCESSED (R167): the converter codes since the last ones taken, and the next firing in order once its window has been converted and the energies of a complete interval are out. -/
def execFiringProcessed (fresh : List RxTick) (s : State) : Out :=
  if !s.runs 1 then .next s
  else
  let s := s.rxTicks fresh
  match s.acq.run with
  | some (id, p) =>
    .next (if s.ph.nextN < s.acq.fired && !s.energyWhole && s.firingReady p s.ph.nextN then s.processFiring id p s.ph.nextN else s)
  | none => .next s

/-- ALIGN_RESET (R169, R174). -/
def execAlignReset (h : Fin 256) (s : State) : Out :=
  match s.cmd? h.val 0x15 with
  | none => .next s
  | some _ =>
    .next (match s.acq.run with
      | none => s.complete h.val stNotReady 6 0 0
      | some (_, p) =>
        if p.align then { s.takeUp h.val with ph := { s.ph with stepPend := max s.ph.stepPend 4, resetHandles := s.ph.resetHandles ++ [h.val] } }
        else s.complete h.val stOk 0 0 0)

/-- A rising edge of the re-lock event asks for a step under an ALIGN = 1 plan (R169). -/
def State.relock (s : State) : State :=
  match s.acq.run with
  | some (_, p) => if p.align && s.on Reg.CMP_ALIGN_CTL_RELOCK_EN then { s with ph := { s.ph with stepPend := max s.ph.stepPend 3 } } else s
  | none => s

/-- RELOCK_EDGE (R169). -/
def execRelockEdge (s : State) : Out := .next s.relock

end Sys2Proof.Machine
end

