-- ==== Sys2Proof/Machine/Acq.lean ====
section
/-! DEFINITION. Acoustic acquisition (R30, R120 to R134): starting, frames and firings, plan switches, the request to stop, and the modulator bias loops. -/

namespace Sys2Proof.Machine

/-! ### Chirp synthesis (R123 to R125) -/

/-- F of a tone: the start frequency in 2^48 units of 4.0 GHz, wrapped to 48 bits. -/
def Tone.dacF (t : Tone) : Nat :=
  let b : Int := t.bKhz
  code 48 (divRne ((if t.down then 2 * t.fKhz + b else 2 * t.fKhz - b) * 2 ^ 48) 8000000)

/-- N_s: DAC samples of a chirp. -/
def Tone.dacSamples (t : Tone) : Nat := 20 * t.chirpTicks

/-- K of a tone, negated for a falling sweep. -/
def Tone.dacK (t : Tone) : Nat :=
  let k := divRne ((t.bKhz : Int) * 2 ^ 48) (4000000 * t.dacSamples)
  code 48 (if t.down then -k else k)

/-- N_e. -/
def Tone.dacEdge (t : Tone) : Nat := t.edge * t.dacSamples / 16

/-- θ[n] (R123). -/
def dacPhase (f k n : Nat) : Nat := (n * f + k * (n * (n - 1) / 2)) % 2 ^ 48

/-- w[n] (R124). -/
def dacEnvelope (n ns ne : Nat) : Int :=
  let m := if ns - ne ≤ n then ns - 1 - n else n
  if m < ne then divRne (65535 * (fx1 - (cosSinTurn (2 * m + 1) (4 * ne)).1)) (2 * fx1) else 65535

/-- The codes on PI and PQ (R125): of sample `n` of a chirp, or the constant codes. -/
def DacOut.codes (o : DacOut) (n : Nat) : Int × Int :=
  match o with
  | .idle => (0, 0)
  | .const i q => (i, q)
  | .chirp f k ns ne ampl =>
    if ns ≤ n then (0, 0)
    else
      let a : Nat := dacPhase f k n / 2 ^ 32
      let w := dacEnvelope n ns ne
      (divRne (ampl * w * rcos 32767 a 65536) (2 ^ 32), divRne (ampl * w * rsin 32767 a 65536) (2 ^ 32))

/-- What the lanes carry for a firing of a tone. -/
def Tone.dac (t : Tone) : DacOut := .chirp t.dacF t.dacK t.dacSamples t.dacEdge t.ampl

/-! ### Running plan in the registers (R134) -/

/-- PRB_SLOT_MAP word `w` of a plan. -/
def Plan.slotWord (p : Plan) (w : Nat) : Nat :=
  leNat ((List.range 4).map (fun b => BitVec.ofNat 8 (match (p.toneAt (4 * w + b)).bind (fun k => p.tones[k]?) with
    | some t => t.lane
    | none => 0xFF)))

/-- The plan fields show a plan. -/
def State.showPlan (s : State) (id : Nat) (p : Plan) : State :=
  let depths := (List.range 4).map (fun i => if p.tones.any (fun t => t.depth == i + 1) then 2 ^ i else 0)
  let s := (((s.setF Reg.PRB_PLAN_ID id).setF Reg.PRB_FRAME p.frameTicks).setF Reg.PRB_TONES_N p.n).setB Reg.PRB_TONES_ALIGN p.align
  let s := ((s.setF Reg.PRB_TONES_DEPTHS depths.sum).setF Reg.PRB_WINDOW_W p.window).setF Reg.PRB_WINDOW_WIN_OFS p.winOfs
  let s := ((s.setF Reg.PRB_GATE_LEAD p.lead).setF Reg.PRB_GATE_LAG p.lag).setF Reg.PRB_GATE_STAGGER p.stagger
  (List.range 32).foldl (fun (s : State) w => s.setF Reg.PRB_SLOT_MAP (p.slotWord w) w) s

/-- The plan fields read 0. -/
def State.hidePlan (s : State) : State :=
  s.resetFields [Reg.PRB_PLAN_ID, Reg.PRB_FRAME, Reg.PRB_TONES_N, Reg.PRB_TONES_ALIGN, Reg.PRB_TONES_DEPTHS, Reg.PRB_WINDOW_W,
    Reg.PRB_WINDOW_WIN_OFS, Reg.PRB_GATE_LEAD, Reg.PRB_GATE_LAG, Reg.PRB_GATE_STAGGER, Reg.PRB_SLOT_MAP]

/-! ### Starting (R30, R131, R215) -/

/-- The converter clock is locked to the selected reference. -/
def State.convLocked (s : State) : Bool := s.on Reg.PWR_STATUS_CONV_LOCK && s.refPresent && !s.pw.holdover

/-- The glacier ring can run: a GLACIER region in trained memory, and GCTX when the feed is groomed (R30, R305). -/
def State.ringReady (s : State) : Bool :=
  decide (0 < s.rgnSize 0) && (!s.on Reg.SLM_GL_CTL_GROOM || decide (0 < s.rgnSize 2))

/-- The glacier feed of a plan (R215). -/
def State.feed (s : State) (p : Plan) : Stream :=
  { id := 0, handle := none, dest := .glacier, kind := if p.align || p.keepsTheta then kInc else kDphase, first := 0, count := 2 ^ 32,
    mS := 1, mT := 1, groomed := s.on Reg.SLM_GL_CTL_GROOM, k := s.fld Reg.SLM_GL_CTL_K, groups := [], open_ := none, ready := [],
    ovf := false, eps := [], delivered := 0, discarded := 0, closing := none }

/-- Acquisition begins under a plan; frame 0 follows. -/
def State.acqBegin (s : State) (h id : Nat) (p : Plan) (ring : Bool) : State :=
  let s := (s.takeUp h).setF Reg.PRB_DAC_TEST 0
  let s := { s with acq := { s.acq with run := some (id, p), handle := some h, ring := ring, frames := 0, inFrame := false, fired := 0,
                                        stamps := [], sw := none, ending := none, queued := none, silent := false, dac := .idle },
                    ph := { s.ph with stepPend := if p.align then 1 else 0 } }
  let s := (s.showPlan id p).setF Reg.PRB_STATE_STATE prbStarting
  let s := s.dtsRefit
  if ring then
    ((({ s with slm := { s.slm with segs := (s.slm.segs.filter (fun g => s.pinned g)).map (fun (g : GSeg) => { g with old := true }), seq := 0 }, red := { s.red with streams := s.red.streams ++ [s.feed p] } }).setF
      Reg.SLM_GL_CTL_RUN 1).setF Reg.SLM_GL_SEGS s.segCount).glRefresh.epsClear (s.feed p)
  else s

/-- Rule 0x1A when a plan is put to use, by tone (R117). -/
def State.refBad (s : State) (p : Plan) : Option Nat := p.refRule (fun l => s.refLen l)

/-- ACQ_START checked (R30, R117, R378): none when it may start, else status, DETAIL and RESULT0. -/
def State.startBad (s : State) (id : Nat) (ring : Bool) : Option (Nat × Nat × Nat) :=
  if !s.convLocked then some (stNotReady, 1, 0)
  else if !s.on Reg.CAL_STATUS_LOADED then some (stNotReady, 2, 0)
  else match s.latchedCode 0x1F with
    | some k => some (stHwFault, k, 0)
    | none =>
      if ring && !s.ringReady then some (stNotReady, 3, 0)
      else match s.plan? id with
        | none => some (stPlanInvalid, 0x1B, planWide)
        | some p => (s.refBad p).map (fun k => (stPlanInvalid, 0x1A, k))

/-- ACQ_START of handle `h` with no acquisition under way. -/
def State.acqStart (s : State) (h id : Nat) (ring : Bool) : State :=
  match s.startBad id ring with
  | some (st, det, r0) => s.complete h st det r0 0
  | none =>
    match s.plan? id with
    | some p => s.acqBegin h id p ring
    | none => s

/-- ACQ_START (R131, R132, R475): BUSY while acquisition runs; behind a draining stop it waits. -/
def execAcqStart (h : Fin 256) (s : State) : Out :=
  match s.cmd? h.val 0x12 with
  | none => .next s
  | some x =>
    let ring := bit (x.p 1) 0
    .next (match s.acq.run with
      | none => s.acqStart h.val (x.p 0) ring
      | some _ =>
        if s.acq.ending.isSome && s.acq.queued.isNone then
          ({ s.takeUp h.val with acq := { s.acq with queued := some (h.val, x.p 0, ring) } }).showState stStopping
        else s.complete h.val stBusy 0x12 0 0)

/-! ### Frames (R14, R121) -/

/-- The state of the phase engine and the receiver at a frame 0. -/
def State.freshSeries (s : State) (p : Plan) : State :=
  let zeros' := p.tones.map (fun t => List.replicate (p.points t) 0)
  let s := { s with ph := { s.ph with cells := zeros', anchor := [], phi := List.replicate p.pLeast 0, integ := List.replicate p.pLeast 0,
                                      fresh := true, first := true, seen := List.replicate p.n false, stepAt := [], nextN := 0 },
                    rx := { s.rx with next := 0, coarse := s.rx.rebased, updated := Vector.replicate 4 false },
                    acq := { s.acq with fired := 0, stamps := [] }, red := { s.red with cells := [] } }
  let s := (s.setF Reg.CMP_ALIGN_AGE 0).setF Reg.CMP_ALIGN_STATUS_STATE (if p.align then alNone else alOff)
  s.setF Reg.RED_E_STATUS (cellCount (s.energyPoints p) (s.fld Reg.RED_E_CFG_CELL))

/-- The commands that a frame advances: the acquisition, its streams and captures, and the skate sections (R108, R398). -/
def State.frameHandles (s : State) : List Nat :=
  s.acq.handle.toList ++ s.red.streams.filterMap (·.handle) ++ s.slm.caps.map (·.handle) ++ (s.tiu.secs.toList.filterMap id).filterMap (·.handle)

/-- A frame begins: the FRAME event, and the step that waits (R169). -/
def State.frameBegin (s : State) (zero : Bool) : State :=
  let s := ({ (s.launchSettle.timersStart (s.frameHandles.map .handle)) with acq := { s.acq with inFrame := true, frameTick := s.tick } }.launchFrame zero).pulse 0xE2
  if s.ph.stepPend = 0 then s
  else
    let s := s.ph.resetHandles.foldl (fun (s : State) h => s.complete h stOk 0 0 0) s
    { s with ph := { s.ph with stepAt := s.ph.stepAt ++ [(s.acq.fired, s.ph.stepPend)], stepPend := 0, resetHandles := [] } }

/-- Frame 0 of a plan begins (R14, R121, R131). -/
def State.frame0 (s : State) (p : Plan) : State :=
  let s := (s.freshSeries p).frameBegin true
  let s := (s.set64 Reg.PRB_FRAME0_LO Reg.PRB_FRAME0_HI s.now).set64 Reg.GLB_FRAME_LO Reg.GLB_FRAME_HI 0
  (s.setF Reg.PRB_STATE_STATE (if s.acq.sw.isSome then prbSwitching else prbRun)).capFrame0

/-- The frame in progress ends: it is counted, and a lane whose estimator a whole frame never updated shows STALE (R139). -/
def State.frameOver (s : State) (whole : Bool) : State :=
  let s := { s with acq := { s.acq with inFrame := false, frames := s.acq.frames + 1 } }
  let s := if !whole then s else (List.range 4).foldl (fun (s : State) l => if s.rx.updated.getD l false then s else s.setF Reg.RCV_LANE_STATUS_STALE 1 l) s
  { s with rx := { s.rx with updated := Vector.replicate 4 false } }

/-- GLB_FRAME. -/
def State.frameNo (s : State) : Nat := s.fld64 Reg.GLB_FRAME_LO Reg.GLB_FRAME_HI

/-- Ticks since the frame in progress, or the dark frame, began (R121). -/
def State.frameAge (s : State) : Nat := s.tick - s.acq.frameTick

/-- Every tone of the frame in progress has fired, and its FRAME_TICKS have passed (R120, R121). -/
def State.frameFull (s : State) (p : Plan) : Bool :=
  s.acq.inFrame && decide ((s.frameNo + 1) * p.n ≤ s.acq.fired) && decide (p.frameTicks ≤ s.frameAge)

/-- The next frame begins now (R121): its predecessor is over and nothing else follows it. -/
def State.frameDue (s : State) (p : Plan) : Bool :=
  (s.frameFull p || (!s.acq.inFrame && decide (p.frameTicks ≤ s.frameAge))) && s.acq.ending.isNone && s.acq.sw.isNone

/-- FRAME_START (R121): frame 0 after the start, or the next frame, FRAME_TICKS after the one before. -/
def execFrameStart (s : State) : Out :=
  match s.acq.run with
  | none => .next s
  | some (_, p) =>
    if s.fld Reg.PRB_STATE_STATE = prbStarting then
      let s := if s.fld Reg.PWR_STATUS_STATE = stStarting then s.showState s.pstate else s
      .next (s.frame0 p)
    else if s.frameDue p then
      let s := if s.acq.inFrame then s.frameOver true else s
      .next ((s.set64 Reg.GLB_FRAME_LO Reg.GLB_FRAME_HI (s.frameNo + 1)).frameBegin false)
    else .next s

/-- The next firing of the frame in progress is due: its slot has come, L ticks after the one before (R121); none while GATE_D is latched off (R377). -/
def State.firingDue (s : State) (p : Plan) : Bool :=
  s.acq.inFrame && decide (s.acq.fired < (s.frameNo + 1) * p.n) && decide ((s.acq.fired - s.frameNo * p.n) * p.slotTicks ≤ s.frameAge) &&
    (s.latchedCode 0x10).isNone

/-- TONE_FIRING (R121, R127): GATE_D opens at the start of the next slot, and the chirp follows after GATE_LEAD. -/
def execToneFiring (s : State) : Out :=
  match s.acq.run with
  | none => .next s
  | some (_, p) =>
    match (p.toneAt (s.acq.fired % p.n)).bind (fun k => p.tones[k]?) with
    | none => .next s
    | some t =>
      if s.firingDue p then
        let s := s.launchFire (s.now + 5 * p.lead)
        let s := s.gateOpens 0 (p.lead + t.chirpTicks + p.lag)
        let s := { s with acq := { s.acq with fired := s.acq.fired + 1, stamps := s.acq.stamps ++ [s.now + 5 * p.lead], dac := t.dac } }
        .next (s.set64 Reg.PRB_FIRE_LO Reg.PRB_FIRE_HI (s.fld64 Reg.PRB_FIRE_LO Reg.PRB_FIRE_HI + 1))
      else .next s

/-! ### Plan switches (R133) -/

/-- Rule 0x1C (R117): an open stream reaches past the new plan; of a BAND stream past its cells, and P is the least P_k under ALIGN = 0, as R180 has both (log entry 269). -/
def State.rangeBad (s : State) (p : Plan) : Bool :=
  let cells := cellCount (s.energyPoints p) (s.fld Reg.RED_E_CFG_CELL)
  s.red.streams.any (fun st => st.id != 0 && decide ((if st.kind = kBand then cells else p.pLeast) < st.first + st.count))

/-- PLAN_SWITCH (R133); one that arrives before frame 0 waits for the end of that frame. -/
def execPlanSwitch (h : Fin 256) (s : State) : Out :=
  match s.cmd? h.val 0x14 with
  | none => .next s
  | some x =>
    let id := x.p 0
    .next (if s.acq.run.isNone || s.acq.ending.isSome then s.complete h.val stNotReady 6 0 0
      else if s.runsPlan id then s.complete h.val stOk 0 id 0
      else if s.acq.sw.isSome then s.complete h.val stBusy 0x14 0 0
      else match s.plan? id with
        | none => s.complete h.val stPlanInvalid 0x1B planWide 0
        | some p =>
          match s.refBad p with
          | some k => s.complete h.val stPlanInvalid 0x1A k 0
          | none =>
            if s.rangeBad p then s.complete h.val stPlanInvalid 0x1C planWide 0
            else
              let s := { s.takeUp h.val with acq := { s.acq with sw := some ⟨h.val, id, p, false⟩ } }
              if s.fld Reg.PRB_STATE_STATE = prbStarting then s else s.setF Reg.PRB_STATE_STATE prbSwitching)

/-- The streams at a switch: those the new plan cannot carry close, the others restart (R177, R183). -/
def State.switchStreams (s : State) (p : Plan) : State :=
  let s := (s.red.streams.filter (fun st => st.id != 0 && !kindAllowed st.kind p)).foldl
    (fun (s : State) st => s.closeStream st.id stAborted 3 none stPartial) s
  let s : State := { s with red := { s.red with streams := s.red.streams.map (fun (st : Stream) =>
      if st.id == 0 then { st.switched with kind := (s.feed p).kind } else st.switched) } }
  s.red.streams.foldl State.epsClear s

/-- A switch goes on (R133): the frame in progress is over, or the dark frame is and every old window has been processed. -/
def State.switchDue (s : State) (old : Plan) (w : PendSwitch) : Bool :=
  s.acq.ending.isNone && (if w.dark then decide (old.frameTicks ≤ s.frameAge) && s.acq.stamps.isEmpty else s.frameFull old)

/-- The ALIGN_RESET commands that wait when a plan without alignment takes over complete with OK, as one under such a plan does (R174; log entry 268). -/
def State.resetsMoot (s : State) : State :=
  let s := s.ph.resetHandles.foldl (fun (s : State) h => s.complete h stOk 0 0 0) s
  { s with ph := { s.ph with resetHandles := [] } }

/-- PLAN_SWITCH_APPLY (R133): at the end of the frame the dark frame begins; at its end frame 0 of the new plan. -/
def execPlanSwitchApply (s : State) : Out :=
  match s.acq.run, s.acq.sw with
  | some (_, old), some w =>
    if !s.switchDue old w then .next s
    else if w.dark then
      let s := (s.switchStreams w.plan).showPlan w.id w.plan
      let s := { s with acq := { s.acq with run := some (w.id, w.plan), sw := none },
                        ph := { s.ph with stepPend := if w.plan.align then max s.ph.stepPend 2 else 0 } }
      let s := if w.plan.align then s else s.resetsMoot
      let s := ((s.frame0 w.plan).setF Reg.PRB_STATE_DARK 0).dtsRefit.secsSwitch
      let s := match s.acq.handle with
        | some h => s.progress h w.id 0
        | none => s
      .next (s.complete w.handle stOk 0 w.id 0)
    else
      let s := s.frameOver true
      .next (({ s with acq := { s.acq with frameTick := s.tick, sw := some { w with dark := true } } }).setF Reg.PRB_STATE_DARK 1)
  | _, _ => .next s

/-- What the acquisition does of itself in the present tick, once frame 0 has begun: the next frame, the switch, or a firing (R121, R133). -/
def State.probeNow (s : State) : Option Instr :=
  match s.acq.run with
  | none => none
  | some (_, p) =>
    if s.fld Reg.PRB_STATE_STATE = prbStarting then none
    else if s.frameDue p then some .frameStart
    else if s.acq.sw.any (s.switchDue p) then some .planSwitchApply
    else if s.firingDue p then some .toneFiring
    else none

/-! ### Stopping (R26, R46, R52, R132) -/

/-- The lower code of two faults that end one acquisition: in the same DATAPATH tick (R470), or two SRC channels in one frame (R378). -/
def State.lowerCode (s : State) (e : AcqEnd) (det : Nat) : Nat :=
  let src (c : Nat) : Bool := decide (0x10 ≤ c) && decide (c ≤ 0x27)
  if s.tick = e.since || (src det && src e.detail) then min det e.detail else e.detail

/-- The acquisition is asked to end with a status and DETAIL; a switch that waits is given up. The first cause stands, and of two faults the lower code under R378 and R470. -/
def State.acqEnd (s : State) (status det : Nat) (stopper : Option Nat) : State :=
  if s.acq.run.isNone then s
  else
    let add := stopper.toList
    match s.acq.ending with
    | some e =>
      let d := if status = stHwFault ∧ e.status = stHwFault then s.lowerCode e det else e.detail
      { s with acq := { s.acq with ending := some { e with detail := d, stoppers := e.stoppers ++ add } } }
    | none =>
      let s := match s.acq.sw with
        | some w => s.complete w.handle stAborted 1 0 0
        | none => s
      { s with acq := { s.acq with sw := none, ending := some ⟨status, det, add, s.tick⟩ } }.setF Reg.PRB_STATE_STATE prbStopping

/-- A queued ACQ_START is cancelled by a request to shut down (R475). -/
def State.unqueueStart (s : State) : State :=
  match s.acq.queued with
  | some (h, _) => ({ s with acq := { s.acq with queued := none } }.complete h stAborted 3 0 0).showState s.pstate
  | none => s

/-- ACQ_STOP (R96, R132, R475). -/
def execAcqStop (h : Fin 256) (s : State) : Out :=
  match s.cmd? h.val 0x13 with
  | none => .next s
  | some x =>
    .next (match s.named (x.p 0) with
      | none => s.complete h.val stStale 0 0 0
      | some y =>
        if y.op ≠ 0x12 then s.complete h.val stStale 0 0 0
        else if s.acq.queued.any (fun q => q.1 == y.idx) then (s.unqueueStart).complete h.val stOk 0 0 0
        else if s.acq.handle = some y.idx ∧ !y.done then ((s.takeUp h.val).unqueueStart).acqEnd stAborted 1 (some h.val)
        else s.stopIdle h.val y false)

/-! ### Bias loops (R128 to R130) -/

/-- DITHER, 0 taken as 1 (R134). -/
def State.mbDither (s : State) : Nat := max 1 (s.fld Reg.PRB_MB_CTL_DITHER)

/-- The pattern of the lanes in position `i` of the cycle of eight measurements (R129). -/
def State.mbPattern (s : State) (i : Nat) : DacOut :=
  let p : Int := s.fld Reg.PRB_MB_PILOT
  match i with
  | 4 => .const p 0
  | 5 => .const 0 p
  | 6 => .const p p
  | _ => .idle

/-- The position that a measurement under way holds: 100 ns of settling and 200 ns of integration (R129). -/
def State.mbActive (s : State) : Option Nat :=
  match s.acq.mbLast with
  | some (t, i) => if s.tick < t + 60 then some i else none
  | none => none

/-- The dither on output `i` in a measurement under way (R129): MB0 in positions 0 and 1, MB1 in 2 and 3, up and then down. -/
def State.mbOffset (s : State) (i : Nat) : Int :=
  match s.mbActive with
  | some n => if n < 4 ∧ n / 2 = i then (if n % 2 = 0 then s.mbDither else -(s.mbDither : Int)) else 0
  | none => 0

/-- The code that drives output MB*i* (R128, R129). -/
def State.mbPin (s : State) (i : Nat) : Int := s.fld Reg.PRB_MB_OUT i + s.mbOffset i

/-- What the DAC lanes carry: a bias pattern only while its measurement lasts (R125, R129). -/
def State.dacNow (s : State) : DacOut :=
  match s.acq.dac with
  | .const i q => if s.acq.run.isSome && s.mbActive.isNone then .idle else .const i q
  | d => d

/-- A measurement may begin (R129, R130): one in an idle interval of 400 ns or more between two openings, and one every 400 ns while nothing fires, the dark frame included. -/
def State.mbDue (s : State) : Bool :=
  let g := s.src.gates.getD 0 Gate.reset
  let since : Nat := match s.acq.mbLast with
    | some (t, _) => s.tick - t
    | none => 80
  match s.acq.run with
  | some (_, p) =>
    if s.acq.inFrame then decide (g.stop - g.start + 80 ≤ p.slotTicks) && s.acq.mbLast.all (fun x => decide (x.1 < g.stop)) else decide (80 ≤ since)
  | none => decide (80 ≤ since)

/-- A DAC lane is visited: the MB outputs are held (R432). -/
def State.dacVisited (s : State) : Bool := s.cal.visit.any (fun v => decide (4 < v.lane))

/-- MB_MEASUREMENT (R129): one measurement of the cycle, in an idle interval; none while constant test codes drive the lanes. -/
def execMbMeasurement (s : State) : Out :=
  if !s.fieldUp || s.dacVisited || s.on Reg.PRB_DAC_TEST || s.gateOpen 0 || !s.mbDue then .next s
  else
    let pos := (s.acq.mbPos + 1) % 8
    .next ({ s with acq := { s.acq with dac := s.mbPattern s.acq.mbPos, mbLast := some (s.tick, s.acq.mbPos), mbPos := pos,
                                        mbCycles := s.acq.mbCycles + (if pos = 0 then 1 else 0) } }.setF Reg.PRB_MB_STATUS_STARVED 0)

/-- LOCK of a loop after a correction of `c` codes, before its limit (R130). -/
def State.mbLock (s : State) (i : Nat) (c : Int) : State :=
  let d := s.mbDither
  let n := if 4 * c.natAbs ≤ d then s.acq.mbSmall.getD i 0 + 1 else 0
  let s := { s with acq := { s.acq with mbSmall := vset s.acq.mbSmall i n } }
  if 8 ≤ n then s.orF Reg.PRB_MB_STATUS_LOCK (2 ^ i) else if d < c.natAbs then s.clrF Reg.PRB_MB_STATUS_LOCK (2 ^ i) else s

/-- One enabled loop's correction: its error, scaled by 2^−GAIN, is a free value (log entry 21), and the output moves by it within ±DITHER (R129). -/
def State.mbCorrect (s : State) (i : Nat) : State :=
  if !(s.fld Reg.PRB_MB_CTL_EN).testBit i || (s.fld Reg.PRB_MB_STATUS_RAIL).testBit i then s
  else
    let (v, s) := s.freeVal 17
    let d : Int := s.mbDither
    let s := s.mbLock i (sx 17 v)
    let c := clampInt (-d) d (sx 17 v)
    let out : Int := s.fld Reg.PRB_MB_OUT i
    if s.on Reg.PRB_MB_CTL_HOLD then s
    else if out + c < 0 ∨ 65535 < out + c then
      (((s.setF Reg.PRB_MB_OUT (if out + c < 0 then 0 else 65535) i).orF Reg.PRB_MB_STATUS_RAIL (2 ^ i)).logEvt sevWarning 0x0301 3
        (leBytes 1 i)).signal 0
    else s.setF Reg.PRB_MB_OUT (out + c).toNat i

/-- MB_CORRECTION (R129): every 64 cycles, unless the loops are starved or hold for constant test codes (R134). -/
def execMbCorrection (s : State) : Out :=
  if s.acq.mbCycles < 64 ∨ s.dacVisited ∨ s.on Reg.PRB_MB_STATUS_STARVED ∨ s.on Reg.PRB_DAC_TEST then .next s
  else
    let s := { s with acq := { s.acq with mbCycles := 0 } }
    .next ((List.range 3).foldl State.mbCorrect s)

/-- MB_STARVED (R130). -/
def execMbStarved (s : State) : Out := .next (if s.fieldUp then s.setF Reg.PRB_MB_STATUS_STARVED 1 else s)

end Sys2Proof.Machine
end

