-- ==== Sys2Proof/Machine/Slalom.lean ====
section
/-! DEFINITION. The event fabric, the slalom sequencer and lift sync (R205 to R214, R219, R223 to R225). -/

namespace Sys2Proof.Machine

/-! ### The event fabric (R205 to R208) -/

/-- ZSEL*i* (R206). -/
def State.zsel (s : State) (i : Nat) : Bool :=
  let first := s.fld Reg.SLM_ZSEL_FIRST i
  let n := min (s.fld Reg.SLM_ZSEL_COUNT i) (256 - first)
  let zs := (List.range n).map (fun k => s.zoneHigh (first + k))
  if n = 0 then false else if s.on Reg.SLM_ZSEL_ALL i then zs.all id else zs.any id

/-- The LIFT_ARM line is asserted, by this unit or another. -/
def State.liftArmLine (s : State) : Bool := s.slm.liftOut || s.slm.liftIn

/-- The level of an event that is not a pulse (R205). -/
def State.levelOf (s : State) (e : Nat) : Bool :=
  if e < 0x80 then s.zsel e
  else if e < 0x88 then s.slm.pinLevel.testBit (e - 0x80)
  else if 0x90 ≤ e ∧ e < 0xB0 then (s.fld Reg.RDG_EVT ((e - 0x90) / 4)).testBit ((e - 0x90) % 4)
  else if e = 0xB0 then s.liftArmLine
  else if e = 0xB2 then s.on Reg.SLM_STATUS_LIFT_STUCK
  else if 0xB8 ≤ e ∧ e < 0xBC then (s.fld Reg.TIU_STATUS_SK_STALL).testBit (e - 0xB8)
  else if e = 0xBE then s.ti0MissLevel
  else if e = 0xC1 then s.on Reg.DTS_STATUS_REF_BAD
  else if e = 0xE0 then s.acqRuns
  else if e = 0xE1 then s.fld Reg.CMP_ALIGN_STATUS_STATE == alTraverse
  else if e = 0xE3 then s.on Reg.SRC_STATUS_FAULT
  else if e = 0xE4 then s.on Reg.PWR_STATUS_REF_LOST
  else if e = 0xE7 then true
  else if 0xE8 ≤ e ∧ e < 0xF0 then s.slm.pinLevel.testBit (e - 0xE8 + 8)
  else if 0xF0 ≤ e ∧ e < 0x100 then (s.fld Reg.SLM_SW_EVT).testBit (e - 0xF0)
  else false

/-- The level of an event in the present tick: its source's level, or its pulse. -/
def State.evtLevel (s : State) (e : Nat) : Bool := s.levelOf e || s.pulses.contains e

/-- The snapshot of all 256 levels, bit per ID. -/
def State.snapshot (s : State) : Nat := ((List.range 256).map (fun e => if s.evtLevel e then 2 ^ e else 0)).sum

/-- One sample of the trigger and GPIO pins: a level takes effect when it agrees with the sample before (R208). -/
def State.pinTick (s : State) : State :=
  let level (i : Nat) : Bool := if s.pins.testBit i == s.slm.pinSeen.testBit i then s.pins.testBit i else s.slm.pinLevel.testBit i
  { s with slm := { s.slm with pinLevel := ((List.range 16).map (fun i => if level i then 2 ^ i else 0)).sum, pinSeen := s.pins } }

/-- TRIGGER_INPUT (R208): a trigger pin (0 to 7) or a GPIO input (8 to 15) takes a new level. -/
def execTriggerInput (pin : Fin 16) (level : Bool) (s : State) : Out :=
  let m := 2 ^ pin.val
  .next { s with pins := if level then s.pins ||| m else s.pins - (s.pins &&& m) }

/-- A periodic timer's count restarts (R207). -/
def State.ptWritten (s : State) (n : Nat) : State :=
  { s with slm := { s.slm with ptLeft := vset s.slm.ptLeft n (s.fld Reg.SLM_PT n) } }

/-- PERIODIC_TIMER (R207): PT*n* pulses, when it runs and its count is over. -/
def execPeriodicTimer (n : Fin 4) (s : State) : Out :=
  .next (if s.fld Reg.SLM_PT n.val = 0 ∨ 1 < s.slm.ptLeft.getD n.val 0 then s else (s.pulse (0x88 + n.val)).ptWritten n.val)

/-- One tick of the periodic timers. -/
def State.ptTick (s : State) : State :=
  (List.range 4).foldl (fun (s : State) n =>
    let k := s.slm.ptLeft.getD n 0
    if s.fld Reg.SLM_PT n = 0 then s
    else if k ≤ 1 then (s.pulse (0x88 + n)).ptWritten n
    else { s with slm := { s.slm with ptLeft := vset s.slm.ptLeft n (k - 1) } }) s

/-! ### Lift state (R223) -/

/-- SLM_STATUS.LIFT_ARMED (R223): a master while it asserts LIFT_ARM; a member armed with P1 [1] while the line is asserted. -/
def State.liftRefresh (s : State) : State :=
  s.setB Reg.SLM_STATUS_LIFT_ARMED (s.on Reg.SLM_STATUS_ARMED && ((s.slm.asMaster && s.slm.liftOut) || (s.slm.asMember && s.liftArmLine)))

/-- LIFT_ARM_CHANGE (R223): the line as other units drive it. -/
def execLiftArmChange (asserted : Bool) (s : State) : Out := .next ({ s with slm := { s.slm with liftIn := asserted } }.liftRefresh)

/-! ### Gates (R209 to R214) -/

/-- E of a condition on a snapshot (R211). -/
def gateExpr (cond snap : Nat) : Bool :=
  let a := snap.testBit (cond % 256)
  let b := snap.testBit (cond / 256 % 256)
  match bits cond 18 16 with
  | 0 => a
  | 1 => a && b
  | 2 => a || b
  | 3 => a && !b
  | _ => a != b

/-- A tick is a match (R211). -/
def gateMatch (cond now prev : Nat) : Bool :=
  let e := gateExpr cond now
  let e' := gateExpr cond prev
  match bits cond 21 20 with
  | 0 => e
  | 1 => e && !e'
  | 2 => !e && e'
  | _ => e != e'

/-- A gate becomes active: counter 0, timer at TIMER, evaluation from the next tick (R212). -/
def State.enterGate (s : State) (g : Nat) : State :=
  (({ s with slm := { s.slm with entered := true } }.setF Reg.SLM_STATUS_GATE g).setF Reg.SLM_GATE_CNT 0 g).setF Reg.SLM_GATE_TMR
    (s.fld Reg.SLM_GATE_TIMER g) g

/-- The active gate left. -/
def State.leaveGate (s : State) : State :=
  let g := s.fld Reg.SLM_STATUS_GATE
  if g < 16 then (s.setF Reg.SLM_GATE_CNT 0 g).setF Reg.SLM_GATE_TMR 0 g else s

/-- The sequencer disarms, and the arming handle completes (R212, R214, R225). -/
def State.disarm (s : State) (status det : Nat) : State :=
  let s := (s.leaveGate.setF Reg.SLM_STATUS_ARMED 0).setF Reg.SLM_STATUS_GATE 0x1F
  let s := match s.slm.handle with
    | some h => s.complete h status det s.slm.fires s.slm.drops
    | none => s
  { s with slm := { s.slm with handle := none, asMaster := false, asMember := false, liftOut := false, entered := false } }.liftRefresh

/-- A successor takes over; END disarms with OK (R212). -/
def State.goGate (s : State) (n : Nat) : State := if n < 16 then s.leaveGate.enterGate n else s.disarm stOk 0

/-- The running capture that gate `g` requested last and that is still inside its post window (R219). -/
def State.gateCap (s : State) (g : Nat) : Option Cap :=
  s.slm.caps.reverse.find? (fun c => !c.stored && !c.host && c.gate == g && !c.ended && !c.oos && decide (s.now < c.stop))

/-- T of a FIRE: the lift latch of an edge that came with the match on a lift-armed unit, else the tick's time (R217, R224). -/
def State.fireTime (s : State) : Nat :=
  if s.on Reg.SLM_STATUS_LIFT_ARMED && s.slm.latchNew then s.fld64 Reg.SLM_LIFT_LATCH_LO Reg.SLM_LIFT_LATCH_HI else s.now

/-- A FIRE on a lift-armed unit waits 2 µs for the next edge (R224). -/
def State.fireWaits (s : State) : Bool := s.on Reg.SLM_STATUS_LIFT_ARMED && !s.slm.latchNew

/-- A capture requested by gate `g` at time `t` (R98, R217 to R219). -/
def State.fireCapture (s : State) (g t : Nat) : State :=
  let win := s.fld Reg.SLM_GATE_WIN g
  let pre := win % 65536
  let post := win / 65536
  let first := s.fld Reg.SLM_GATE_FIRST g
  let points := s.fld Reg.SLM_GATE_POINTS g
  let avg := s.fld Reg.SLM_GATE_AVG g
  match s.capBad t post first points avg with
  | some (_, _, some F) => s.incF F
  | some (_, _, none) => s
  | none =>
    match s.freeSlot with
    | none => ({ s with slm := { s.slm with drops := s.slm.drops + 1 } }.incF Reg.SLM_CAP_DROP).pulse 0xE5
    | some k =>
      let idx := 248 + k
      let gen := nextGen (Store.read 0 s.hq.gens idx)
      let (tag, sq, cq, word) := match (s.slm.handle).bind (fun h => s.handle? h) with
        | some x => (x.tag, x.sq, x.cq, x.word)
        | none => (0, 0, 0, 0)
      let x : Handle := { idx := idx, gen := gen, op := 0x33, flags := 0, tag := tag, wdog := 0, ptr0 := 0, len0 := 0, params := [], sq := sq,
                          cq := cq, order := s.hq.nextOrder, started := true, accepted := false, running := true, done := false }
      let s := { s with hq := { s.hq with handles := s.hq.handles ++ [x], gens := Store.write 0 s.hq.gens idx gen, nextOrder := s.hq.nextOrder + 1 } }
      let wait := if s.fireWaits then some (t + 2000, pre, post) else none
      (s.acceptWith idx word g).capBegin k x g false (s.on Reg.SLM_STATUS_LIFT_ARMED && s.slm.latchNew) ⟨t, pre, post, first, points, avg⟩ wait

/-- The end of a capture extended by a fire at `t` with a POST in ns (R219). -/
def Cap.extendTo (c : Cap) (t post : Nat) : Nat := max c.stop (min (t + post) (c.trigger + 30000000000))

/-- FIRE of gate `g` (R213, R219): POLICY decides while its last capture is inside its post window. -/
def State.fire (s : State) (g : Nat) : State :=
  let t := s.fireTime
  let s := { s with slm := { s.slm with fires := s.slm.fires + 1 } }.incF Reg.SLM_FIRES
  let s := if bit (s.fld Reg.SLM_GATE_ACT g) 4 && s.on Reg.SLM_STATUS_LIFT_ARMED then { s with slm := { s.slm with fireOut := true } } else s
  match s.gateCap g, bits (s.fld Reg.SLM_GATE_ACT g) 9 8 with
  | some c, 1 =>
    let post := s.fld Reg.SLM_GATE_WIN g / 65536 * 1000000
    let stop := c.extendTo t post
    if stop = c.stop then s.incF Reg.SLM_GATE_IGN g
    else (s.updCap c.slot (fun x => { x with stop := stop, extended := true,
                                             extWait := if s.fireWaits then some (t + 2000, c.stop, post) else x.extWait })).glRefresh
  | some _, 2 => s.incF Reg.SLM_GATE_IGN g
  | _, _ => s.fireCapture g t

/-- The actions of gate `g`, in the order MARK, COUNT, ARM_REMOTE, FIRE (R212, R213). -/
def State.gateActions (s : State) (g : Nat) : State :=
  let act := s.fld Reg.SLM_GATE_ACT g
  let s := if bit act 3 then (s.pulse (0xD0 + g)).set64 Reg.SLM_GATE_MARK_LO Reg.SLM_GATE_MARK_HI s.now g else s
  let s := if bit act 2 then s.incF Reg.SLM_GATE_HITS g else s
  let s := if bit act 1 && s.slm.asMaster then { s with slm := { s.slm with liftOut := true } }.liftRefresh else s
  if bit act 0 then s.fire g else s

/-- The active gate's counter reaches COUNT_N (R212). -/
def State.gateDone (s : State) : State :=
  let g := s.fld Reg.SLM_STATUS_GATE
  if s.on Reg.SLM_STATUS_ARMED && decide (g < 16) then (s.gateActions g).goGate (s.fld Reg.SLM_GATE_NEXT g % 32) else s

/-- The active gate's timer reaches 0 (R212). -/
def State.gateTimedOut (s : State) : State :=
  let g := s.fld Reg.SLM_STATUS_GATE
  if s.on Reg.SLM_STATUS_ARMED && decide (g < 16) && s.on Reg.SLM_GATE_TIMER g then s.goGate (bits (s.fld Reg.SLM_GATE_NEXT g) 12 8) else s

/-- GATE_MATCH_COMPLETE (R212): a match that brings the counter of the active gate to COUNT_N; the tick in which a gate becomes active has none. -/
def execGateMatchComplete (s : State) : Out :=
  let g := s.fld Reg.SLM_STATUS_GATE
  .next (if s.slm.entered || decide (s.fld Reg.SLM_GATE_CNT g + 1 < s.fld Reg.SLM_GATE_COUNT g) then s else s.gateDone)

/-- GATE_TIMEOUT (R212): the timer of the active gate is in its last tick. -/
def execGateTimeout (s : State) : Out :=
  .next (if s.slm.entered || decide (1 < s.fld Reg.SLM_GATE_TMR (s.fld Reg.SLM_STATUS_GATE)) then s else s.gateTimedOut)

/-- One tick of the active gate on the snapshot `now` (R211, R212). -/
def State.gateTick (s : State) (now : Nat) : State :=
  if !s.on Reg.SLM_STATUS_ARMED then s
  else
  let s := s.timersStart (s.slm.handle.toList.map .handle)
  if s.slm.entered then { s with slm := { s.slm with entered := false } }
  else
    let g := s.fld Reg.SLM_STATUS_GATE
    let s := if gateMatch (s.fld Reg.SLM_GATE_COND g) now s.evtPrev then s.incF Reg.SLM_GATE_CNT g else s
    if s.fld Reg.SLM_GATE_COUNT g ≤ s.fld Reg.SLM_GATE_CNT g then s.gateDone
    else if s.fld Reg.SLM_GATE_TIMER g = 0 then s
    else
      let s := s.setF Reg.SLM_GATE_TMR (s.fld Reg.SLM_GATE_TMR g - 1) g
      if s.fld Reg.SLM_GATE_TMR g = 0 then s.gateTimedOut else s

/-- One tick of the fabric: the snapshot is taken, the active gate evaluates it, and a rising re-lock event asks for a step (R169, R205). -/
def State.fabricTick (s : State) : State :=
  let s := s.pinTick.ptTick
  let now := s.snapshot
  let e := s.fld Reg.CMP_ALIGN_CTL_RELOCK_EVT
  let s := { s with pulses := [] }
  let s := if now.testBit e && !s.evtPrev.testBit e then s.relock else s
  let s := s.gateTick now
  { s with evtPrev := now, slm := { s.slm with latchNew := false } }

/-! ### Programs (R209, R210) -/

/-- The first field of a gate entry at offset `o` outside its range. -/
def gateBad (bs : List Byte) (o : Nat) : Option Nat :=
  let w (i : Nat) := field bs (o + i) 4
  let succ (n : Nat) : Bool := decide (n < 16) || n == 0x1F
  let ms := w 32 % 65536
  firstBad ([(decide (4 < bits (w 0) 18 16) || bit (w 0) 19 || decide (2 ^ 22 ≤ w 0), o), (w 4 == 0, o + 4),
    (!succ (bits (w 12) 4 0) || !succ (bits (w 12) 12 8) || bits (w 12) 7 5 != 0 || decide (2 ^ 13 ≤ w 12), o + 12),
    (bits (w 16) 9 8 == 3 || bits (w 16) 7 5 != 0 || decide (2 ^ 10 ≤ w 16), o + 16), (decide (30000 < w 20 / 65536), o + 20),
    (w 28 == 0, o + 28), (ms == 0 || decide (1024 < ms) || w 32 / 65536 == 0 || w 28 % max 1 ms != 0, o + 32)] ++
    (List.range 12).map (fun i => (field bs (o + 36 + i) 1 != 0, o + 36 + i)))

/-- The first field of a gate program outside its range, by ascending offset (R210, R116). -/
def programBad (bs : List Byte) (n : Nat) : Option Nat :=
  match firstBad ([(field bs 0 4 != 0x4D4C4C53, 0), (field bs 4 2 != 1, 4), (n == 0 || decide (16 < n), 6)] ++
      (List.range 8).map (fun i => (field bs (8 + i) 1 != 0, 8 + i))) with
  | some o => some o
  | none => (List.range n).findSome? (fun g => gateBad bs (16 + 48 * g))

/-- Gate `g` loaded with its nine words (R210). -/
def State.loadGate (s : State) (g : Nat) (w : List Nat) : State :=
  ([Reg.SLM_GATE_COND, Reg.SLM_GATE_COUNT, Reg.SLM_GATE_TIMER, Reg.SLM_GATE_NEXT, Reg.SLM_GATE_ACT, Reg.SLM_GATE_WIN, Reg.SLM_GATE_FIRST,
    Reg.SLM_GATE_POINTS, Reg.SLM_GATE_AVG].zip w).foldl (fun (s : State) fw => s.setF fw.1 fw.2 g) s

/-- The words of a gate that a program does not name: NEVER, no timer, no actions, both successors END (R209). -/
def gateIdle : List Nat := [0xE6, 1, 0, 0x1F1F, 0, 0, 0, 1, 0x10001]

/-- A whole program loaded. -/
def State.loadProgram (s : State) (bs : List Byte) (n : Nat) : State :=
  let s := (List.range 16).foldl (fun (s : State) g =>
    s.loadGate g (if g < n then (List.range 9).map (fun i => field bs (16 + 48 * g + 4 * i) 4) else gateIdle)) s
  { s with slm := { s.slm with loaded := true } }

/-- SLM_LOAD (R209, R210). -/
def execSlmLoad (h : Fin 256) (d : CmdData) (s : State) : Out :=
  match s.cmd? h.val 0x30 with
  | none => .next s
  | some x =>
    .next (if s.on Reg.SLM_STATUS_ARMED then s.complete h.val stBusy 0x31 0 0
      else s.withData x d (fun s len bs =>
        let n := field bs 6 2
        if len < 8 ∨ len ≠ 16 + 48 * n then s.complete h.val stInvalid 16 0 0
        else match programBad bs n with
          | some o => s.complete h.val stInvalid 0xFF o 0
          | none => (s.loadProgram bs n).complete h.val stOk 0 n 0))

/-- LIFT_CLK is present: a master drives it from REF10M (R223). -/
def State.liftClkHere (s : State) : Bool := if s.fld Reg.SLM_STATUS_ROLE = 1 then s.pw.ref10m else s.pw.liftClk

/-- SLM_ARM (R214, R223, R225). -/
def execSlmArm (h : Fin 256) (s : State) : Out :=
  match s.cmd? h.val 0x31 with
  | none => .next s
  | some x =>
    let g := x.p 0
    let m := bit (x.p 1) 0
    let b := bit (x.p 1) 1
    let role := s.fld Reg.SLM_STATUS_ROLE
    .next (if 15 < g then s.complete h.val stInvalid 24 0 0
      else if !s.slm.loaded then s.complete h.val stNotReady 6 0 0
      else if s.on Reg.SLM_STATUS_ARMED then s.complete h.val stBusy 0x31 0 0
      else if (m && role != 1) || (b && role != 2) then s.complete h.val stInvalid 28 0 0
      else if (m || b) && !(s.liftClkHere && s.on Reg.GLB_TB_STATUS_DISCIPLINED) then s.complete h.val stNotReady 1 0 0
      else if s.on Reg.SLM_STATUS_LIFT_STUCK then s.complete h.val stNotReady 6 0 0
      else
        let s := { s.takeUp h.val with slm := { s.slm with handle := some h.val, asMaster := m, asMember := b, fires := 0, drops := 0, liftOut := m && s.on Reg.SLM_LIFT_CTL_ARM_AT_START } }
        ((s.setF Reg.SLM_STATUS_ARMED 1).enterGate g).liftRefresh)

/-- SLM_DISARM (R96, R214). -/
def execSlmDisarm (h : Fin 256) (s : State) : Out :=
  match s.cmd? h.val 0x32 with
  | none => .next s
  | some x =>
    .next (match s.named (x.p 0) with
      | none => s.complete h.val stStale 0 0 0
      | some y =>
        if y.op ≠ 0x31 then s.complete h.val stStale 0 0 0
        else if s.slm.handle = some y.idx ∧ !y.done then (s.disarm stOk 0).complete h.val stOk 0 s.slm.fires 0
        else s.stopIdle h.val y false)

/-- LIFT_CFG (R223). -/
def execLiftCfg (h : Fin 256) (s : State) : Out :=
  match s.cmd? h.val 0x35 with
  | none => .next s
  | some x =>
    .next (if 2 < x.p 0 then s.complete h.val stInvalid 24 0 0
      else if 31 < x.p 1 then s.complete h.val stInvalid 28 0 0
      else if s.on Reg.SLM_STATUS_ARMED then s.complete h.val stBusy 0x31 0 0
      else ((s.setF Reg.SLM_STATUS_ROLE (x.p 0)).setF Reg.SLM_LIFT_CTL_ADDR (x.p 1)).complete h.val stOk 0 0 0)

/-! ### Lift fires (R224, R225) -/

/-- A capture whose T waited takes the lift latch; an end that an EXTEND has moved stays (R224). -/
def State.capLatch (s : State) (c : Cap) (t : Nat) : Cap :=
  match c.liftWait with
  | some (until_, pre, post) =>
    if s.now ≤ until_ then
      let (a, b, short) := s.capWindow t pre post
      { c with trigger := t, start := a, stop := if c.extended then max b c.stop else b, preShort := short, lift := true, liftWait := none }
    else c
  | none => c

/-- An EXTEND that waited takes the lift latch as its time (R219, R224). -/
def State.extLatch (s : State) (c : Cap) (t : Nat) : Cap :=
  match c.extWait with
  | some (until_, base, post) =>
    if s.now ≤ until_ then { c with stop := Cap.extendTo { c with stop := base } t post, extWait := none } else c
  | none => c

/-- A wait for a lift edge that has lasted 2 µs is over: the tick's time stands (R224). -/
def State.latchOver (s : State) (c : Cap) : Cap :=
  { c with liftWait := c.liftWait.filter (fun w => decide (s.now < w.1)), extWait := c.extWait.filter (fun w => decide (s.now < w.1)) }

/-- LIFT_FIRE_EDGE (R224): an edge of a line not yet asserted; a unit that is not lift-armed ignores it. -/
def execLiftFireEdge (s : State) : Out :=
  if s.slm.fireLine then .next s
  else
    let s := { s with slm := { s.slm with fireLine := true } }
    if s.on Reg.SLM_STATUS_LIFT_ARMED then
      let t := s.now - min 2000 (s.fld Reg.SLM_LIFT_COMP)
      let s := ((s.set64 Reg.SLM_LIFT_LATCH_LO Reg.SLM_LIFT_LATCH_HI t).incF Reg.SLM_LIFT_COUNT).pulse 0xB1
      .next ({ s with slm := { s.slm with caps := s.slm.caps.map (fun c => s.extLatch (s.capLatch c t) t), latchNew := true } }.glRefresh)
    else .next s

/-- LIFT_FIRE_RELEASE (R224): the line falls. -/
def execLiftFireRelease (s : State) : Out := .next { s with slm := { s.slm with fireOut := false, fireLine := false } }

/-- LIFT_LATCH_TIMEOUT (R224): 2 µs have passed since a match without an edge; the captures that waited keep the tick's time. -/
def execLiftLatchTimeout (s : State) : Out := .next ({ s with slm := { s.slm with caps := s.slm.caps.map s.latchOver } }.glRefresh)

/-- LIFT_STUCK (R225): on a lift-armed unit with LIFT_FIRE held beyond 10 µs. -/
def execLiftStuck (s : State) : Out :=
  .next (if s.slm.fireLine && s.on Reg.SLM_STATUS_LIFT_ARMED then (s.setF Reg.SLM_STATUS_LIFT_STUCK 1).disarm stHwFault 0x30 else s)

end Sys2Proof.Machine
end

