-- ==== Sys2Proof/Machine/AcqEnd.lean ====
section
/-! DEFINITION. The end of acoustic acquisition (R26, R132, R221, R400, R472, R475): what a drained stop completes and leaves. -/

namespace Sys2Proof.Machine

/-- What streams and belt sections that depend on the acquisition end with: OK after ACQ_STOP, else the acquisition's own status (R26, R400, R472). -/
def AcqEnd.others (e : AcqEnd) : Nat × Nat :=
  if e.status = stHwFault ∨ (e.status = stAborted ∧ e.detail = 2) then (e.status, e.detail) else (stOk, 0)

/-- Fill status of a buffer that the end returns: ABORTED on a power change, a reset or an abort (R26, R102), else PARTIAL. -/
def State.endFill (s : State) (e : AcqEnd) : Nat :=
  if (e.status = stAborted ∧ e.detail = 2) ∨ e.status = stTimeout ∨ e.stoppers.any (fun i => (s.handle? i).any (fun x => x.op == 0x02)) = true then
    stAborted
  else stPartial

/-- The units that followed the acquisition end with it. -/
def State.dependantsEnd (s : State) (e : AcqEnd) : State :=
  let (st, det) := e.others
  let s := s.closeAll st det (s.endFill e)
  let s := s.secsEnd st det
  let s := s.ph.resetHandles.foldl (fun (s : State) h => s.complete h e.status e.detail 0 0) s
  s.capTruncate

/-- The registers of the acquisition blocks after the end. -/
def State.acqIdle (s : State) : State :=
  let s := s.hidePlan.gateShut 0
  let s := (((s.setF Reg.PRB_STATE_STATE prbIdle).setF Reg.PRB_STATE_DARK 0).setF Reg.SLM_GL_CTL_RUN 0).setF Reg.CMP_ALIGN_STATUS_STATE alOff
  { s with acq := { s.acq with run := none, handle := none, inFrame := false, fired := 0, stamps := [], sw := none, ending := none,
                               silent := false, dac := .idle, ring := false },
           ph := { s.ph with stepPend := 0, stepAt := [], resetHandles := [] }, red := { s.red with cells := [] }, rx := s.rx.pwrCleared,
           tiu := { s.tiu with ti0Miss := false, frameLaunch := false } }

/-- The acquisition has ended under `e`: its handle completes with the frames it delivered, then the ACQ_STOP and ABORT commands (R105, R132). -/
def State.acqOver (s : State) (e : AcqEnd) : State :=
  let s := if s.acq.inFrame then s.frameOver (s.acq.run.any (fun x => s.frameFull x.2)) else s
  let (h, silent, n) := (s.acq.handle, s.acq.silent, s.acq.frames)
  let s := ((s.dependantsEnd e).acqIdle.glRefresh).dtsRefit
  let s := match h with
    | some i => if silent then s else s.complete i e.status e.detail (n % 2 ^ 32) (n / 2 ^ 32)
    | none => s
  e.stoppers.foldl (fun (s : State) i => s.completeStop i (n % 2 ^ 32) 0) s

/-- A queued ACQ_START begins once the drain is over (R132, R475). -/
def State.startQueued (s : State) : State :=
  match s.acq.queued with
  | none => s
  | some (h, id, ring) =>
    let s := ({ s with acq := { s.acq with queued := none } }).showState stStarting
    let s := s.acqStart h id ring
    if s.acqRuns then s else s.showState s.pstate

/-- ACQ_STOP_DRAINED (R132): the frame in progress is over and its windows have been processed, or a fault has ended the firing; the rings have flushed. -/
def execAcqStopDrained (s : State) : Out :=
  match s.acq.run, s.acq.ending with
  | some (_, p), some e =>
    if ((s.acq.inFrame && !s.frameFull p) || !s.acq.stamps.isEmpty) && e.status != stHwFault then .next s else .next ((s.acqOver e).startQueued)
  | _, _ => .next s

end Sys2Proof.Machine
end

