-- ==== Sys2Proof/Machine/Cal.lean ====
section
/-! DEFINITION. Trims, calibration visits, the background rotation and the calibration store (R428 to R440), and the spare-lane compare that both the rotation and the host use (R142). -/

namespace Sys2Proof.Machine

/-- A change of the calibration state. -/
def State.updCal (s : State) (f : Cal → Cal) : State := { s with cal := f s.cal }

/-! ### Codes and measurements (R428, R429) -/

/-- The signed codes of a trim word: OFS, GAIN, SKEW, IQPH. -/
def codesOf (w : Nat) : List Int := (List.range 4).map (fun i => sx 8 (w / 256 ^ i))

/-- The trim word of four codes. -/
def codesWord (l : List Int) : Nat := ((l.zipIdx).map (fun x => code 8 x.1 * 256 ^ x.2)).sum

/-- Five times the intercept φ, in 2⁻⁴⁰ rad: φ = θ_1 − (θ_2 − θ_1)/5. -/
def measPhi (m : LaneMeas) : Int := 6 * m.th1 - m.th2

/-- The skew τ in steps of 0.25 ps, as a number over fxPi. -/
def measSkew (m : LaneMeas) : Int := (m.th2 - m.th1) * 1600 * 2 ^ 80

/-- The full-scale difference of step 2, in 2⁻²⁴ LSB: 1.5 × 512 LSB, or 2 × 1,536 DAC codes (R432). -/
def stepTwo (dac : Bool) : Int := (if dac then 3072 else 768) * 2 ^ 24

/-- The codes that a measurement asks for: the present codes less each error over its step, rounded half-even. `e` is five times e_φ of a Q lane in 2⁻⁴⁰ rad; `pi` marks the lane PI, whose SKEW stays 0. -/
def newCodes (dac pi q : Bool) (e : Int) (old : List Int) (m : LaneMeas) : List Int :=
  let o (i : Nat) : Int := old.getD i 0
  [o 0 - divRne m.m0 (if dac then 2 ^ 22 else 2 ^ 21),
   o 1 - divRne (2000 * (m.mp - m.mm - stepTwo dac)) (stepTwo dac),
   if pi then o 2 else o 2 - divRne (measSkew m) fxPi,
   if q then o 3 - divRne e (5 * 2 ^ 30) else o 3]

/-- Each code moved by at most `n` towards the computed one (R430). -/
def stepCodes (n : Nat) (old new : List Int) : List Int :=
  old.zipWith (fun a b => a + clampInt (-(n : Int)) n (b - a)) new

/-- A code lies outside −128 to +127. -/
def offRail (l : List Int) : Bool := l.any (fun c => decide (c < -128 ∨ 127 < c))

/-- Five times e_φ of a Q lane at position `q`: its intercept less the newest of its I lane; a free value while that was never measured (log entry 25). -/
def State.calE (s : State) (q : Nat) (m : LaneMeas) : Int × State :=
  match s.cal.res.getD (q - 1) none with
  | some r => (measPhi m - r.phi, s)
  | none =>
    let (v, s) := s.freeVal 44
    (measPhi m - sx 44 v, s)

/-- A residual put in a 16-bit signed field; one beyond the field's range is a free value (log entry 25). -/
def State.putRes (s : State) (F : Field) (i : Nat) (num den : Int) : State :=
  let (r, s) := s.freeRound num den
  if -32768 ≤ r ∧ r ≤ 32767 then s.setS F r i
  else
    let (v, s) := s.freeVal 16
    s.setF F v i

/-- The quality figures of a lane or position (R431), from the codes before and after. -/
def State.putQual (s : State) (i : Nat) (old new : List Int) (m : LaneMeas) : State :=
  let d (k : Nat) : Int := new.getD k 0 - old.getD k 0
  (s.putRes Reg.CAL_QUAL_OFS_RES i (m.m0 + d 0 * 2 ^ 21) (2 ^ 16)).putRes Reg.CAL_QUAL_SKEW_RES i (5 * (measSkew m + d 2 * fxPi)) (2 * fxPi)

/-- The image rejection of two lanes' residuals in 0.1 dB (R431); none where the formula gives no value of the field. -/
def irr (i q : CalRes) : Option Nat :=
  let den := q.den * i.num
  let num := q.num * i.den
  if den ≤ 0 ∨ num < 0 then none
  else
    let r := divRne (num * fx1) den
    let c := (cosSinTurn (q.eRes * 2 ^ 80) (10 * fxPi).toNat).1
    let top := fx1 + 2 * fxMul r c + fxMul r r
    let bot := fx1 - 2 * fxMul r c + fxMul r r
    if bot ≤ 0 then some 1200
    else
      let v := divRne (100 * fxLn top.toNat bot.toNat) (fxLn 10 1)
      if v < 0 then none else some (min 1200 v.toNat)

/-- CAL_IRR of polarisation `x` formed from the newest residuals of both lanes; a free value where the spec gives none (log entry 25). -/
def State.putIrr (s : State) (x : Nat) : State :=
  let v := match s.cal.res.getD (2 * x) none, s.cal.res.getD (2 * x + 1) none with
    | some i, some q => irr i q
    | _, _ => none
  match v with
  | some n => s.setF Reg.CAL_IRR n x
  | none =>
    let (n, s) := s.freeVal 11
    s.setF Reg.CAL_IRR n x

/-- What a measurement leaves of converter lane `l` (R431). -/
def calResOf (q : Bool) (e : Int) (old new : List Int) (m : LaneMeas) : CalRes :=
  { phi := measPhi m, eRes := if q then e + (new.getD 3 0 - old.getD 3 0) * 5 * 2 ^ 30 else 0,
    num := (m.mp - m.mm) * (2000 + new.getD 1 0), den := stepTwo false * (2000 + old.getD 1 0) }

/-- The trim register and instance of a lane; SP has one for each position. -/
def trimReg (lane pos : Nat) : Field × Nat :=
  if lane < 4 then (Reg.CAL_RX_TRIM, lane) else if lane = 4 then (Reg.CAL_SP_TRIM, pos) else (Reg.CAL_DAC_TRIM, lane - 5)

/-- The computed codes of a lane at a position, with five times e_φ. -/
def State.calCodes (s : State) (lane pos : Nat) (m : LaneMeas) : (List Int × Int) × State :=
  let q := decide (lane ≤ 4) && pos % 2 == 1
  let (e, s) := if q then s.calE pos m else (0, s)
  ((newCodes (decide (4 < lane)) (lane == 5) q e (codesOf (s.fld (trimReg lane pos).1 (trimReg lane pos).2)) m, e), s)

/-- Codes `new` written at a lane's position, and its quality figures formed (R430, R431). -/
def State.calWrite (s : State) (lane pos : Nat) (new : List Int) (e : Int) (m : LaneMeas) : State :=
  let (F, i) := trimReg lane pos
  let old := codesOf (s.fld F i)
  let s := s.setF F (codesWord new) i
  if 4 < lane then s
  else
    let s := s.putQual (if lane < 4 then lane else 4 + pos) old new m
    if lane < 4 then
      (s.updCal (fun (c : Cal) => { c with res := vset c.res lane (some (calResOf (pos % 2 == 1) e old new m)) })).putIrr (lane / 2)
    else s

/-- The measurements of a visit applied (R430): every position's codes, or none when one would pass a rail. -/
def State.calApply (s : State) (v : CalVisit) (ms : List LaneMeas) : Bool × State :=
  let pos (k : Nat) : Nat := if v.lane < 4 then v.lane else k
  let ks := if v.lane = 4 then [0, 1, 2, 3] else [0]
  let (xs, s) := ks.foldl (fun (acc : List (Nat × List Int × Int × LaneMeas) × State) k =>
    let m := ms.getD k ⟨0, 0, 0, 0, 0⟩
    let (c, s) := acc.2.calCodes v.lane (pos k) m
    (acc.1 ++ [(pos k, c.1, c.2, m)], s)) ([], s)
  let rail := xs.any (fun x => offRail x.2.1)
  let lim := max 1 (s.fld Reg.CAL_BG_CTL_MAX_STEP)
  let s := xs.foldl (fun (s : State) x =>
    let (F, i) := trimReg v.lane x.1
    let old := codesOf (s.fld F i)
    s.calWrite v.lane x.1 (if rail then old else if v.byRun || v.byReq then x.2.1 else stepCodes lim old x.2.1) x.2.2.1 x.2.2.2) s
  let s := if rail then
      ((s.setF Reg.CAL_STATUS_RAIL 1).orF Reg.CAL_LANE_RAIL (2 ^ v.lane)).logEvt sevWarning 0x0403 (rowOf 0xE0000) (leBytes 1 0 ++ leBytes 1 v.lane)
    else s.updCal (fun (c : Cal) => { c with measured := c.measured ||| 2 ^ v.lane })
  (!rail, s)

/-! ### CAL_RUN and the rotation (R433, R434) -/

/-- Lanes XI, XQ, YI, YQ, PI and PQ, whose codes LOADED asks for (R436). -/
def calNeeded : Nat := 0x6F

/-- SP lies between two states: a takeover or a return is under way. -/
def State.spMoving (s : State) : Bool :=
  !(s.fld Reg.RCV_SP_STATUS_PHASE == spIdle || (s.fld Reg.RCV_SP_STATUS_PHASE == spCarry && !s.rx.releasing))

/-- SP carries lane `l`. -/
def State.spHolds (s : State) (l : Nat) : Bool :=
  s.fld Reg.RCV_SP_STATUS_PHASE == spCarry && s.fld Reg.RCV_SP_STATUS_LANE == l && !s.rx.releasing

/-- A visit to lane `l` can begin: SP free or already carrying it; a DAC lane while acquisition is stopped. -/
def State.calCan (s : State) (l : Nat) : Bool :=
  if l < 4 then s.fld Reg.RCV_SP_STATUS_PHASE == spIdle || s.spHolds l
  else if l = 4 then s.fld Reg.RCV_SP_STATUS_PHASE == spIdle
  else !s.acqRuns

/-- A visit begins; a converter lane that SP does not carry is taken over first, and its measurement begins with the carry (R141). -/
def State.calBegin (s : State) (v : CalVisit) : State :=
  let s := s.updCal (fun (c : Cal) => { c with visit := some v })
  if v.lane < 4 && !s.spHolds v.lane then s.spRequest v.lane else s.timerStart .visit

/-- The ticks that the measurement of a lane takes: 40 ms for a converter lane, 164 ms for SP at its four positions, 20 ms for a DAC lane (R429, R432, R433). -/
def visitTicks (l : Nat) : Nat := ticksMs (if l < 4 then 40 else if l = 4 then 164 else 20)

/-- The next of the lanes left that can be visited is; with none left CAL_RUN completes (R434). -/
def State.calGo (s : State) (r : CalRun) : List Nat → State
  | [] =>
    ((s.updCal (fun (c : Cal) => { c with run := none })).setF Reg.CAL_STATUS_RUN_BUSY 0).complete r.handle
      (if r.applied = r.mask then stOk else stPartial) 0 r.applied 0
  | l :: ls =>
    if s.calCan l then (s.updCal (fun (c : Cal) => { c with run := some { r with left := ls } })).calBegin ⟨l, true, false⟩
    else s.calGo r ls

/-- CAL_RUN goes on once no visit is under way and SP stands still. -/
def State.calNext (s : State) : State :=
  match s.cal.run with
  | some r => if s.cal.visit.isNone && !s.spMoving then (s.timerStart (.handle r.handle)).calGo r r.left else s
  | none => s

/-- CAL_RUN (R434). -/
def execCalRun (h : Fin 256) (s : State) : Out :=
  match s.cmd? h.val 0x70 with
  | none => .next s
  | some x =>
    let m := x.p 0
    .next (if m = 0 ∨ 127 < m then s.complete h.val stInvalid 24 0 0
      else if s.cal.run.isSome then s.complete h.val stBusy 0x70 0 0
      else if 32 ≤ m ∧ s.acqRuns then s.complete h.val stBusy 0x12 0 0
      else if 32 ≤ m ∧ s.loaderPers then s.complete h.val stNotReady 4 0 0
      else
        let r : CalRun := ⟨h.val, m, (List.range 7).filter (fun l => m.testBit l), 0⟩
        (((s.takeUp h.val).setF Reg.CAL_STATUS_RUN_BUSY 1).updCal (fun (c : Cal) => { c with run := some r })).calNext)

/-- CAL_BG (R433). -/
def execCalBg (h : Fin 256) (s : State) : Out :=
  match s.cmd? h.val 0x71 with
  | none => .next s
  | some x =>
    let s := if s.on Reg.CAL_STATUS_BG_ON then s else s.timerStart .rotation
    .next ((s.setF Reg.CAL_STATUS_BG_ON (x.p 0)).complete h.val stOk 0 0 0)

/-- The rotation skips a lane that is pinned, and SP while SP carries a lane (R433). -/
def State.bgSkips (s : State) (l : Nat) : Bool :=
  if l < 4 then s.on Reg.RCV_SP_CTL_PIN && s.spHolds l else s.fld Reg.RCV_SP_STATUS_PHASE != spIdle

/-- The period of the rotation in s: values outside 10 to 3,600 are taken as 60 (R440). -/
def State.bgPeriod (s : State) : Nat :=
  let p := s.fld Reg.CAL_BG_CTL_PERIOD_S
  if 10 ≤ p ∧ p ≤ 3600 then p else 60

/-- CAL_BG_TIMER (R433): the next lane that the rotation does not skip is visited, in RUN and with no CAL_RUN. -/
def execCalBgTimer (s : State) : Out :=
  if !s.on Reg.CAL_STATUS_BG_ON || s.cal.run.isSome || s.cal.visit.isSome || !(s.pstate == stRun) ||
      !s.timerDue .rotation (ticksS s.bgPeriod) then .next s
  else
    let n := s.fld Reg.CAL_STATUS_BG_NEXT
    match ((List.range 5).map (fun i => (n + i) % 5)).find? (fun l => !s.bgSkips l) with
    | none => .next s
    | some l =>
      let s := (s.timerStart .rotation).setF Reg.CAL_STATUS_BG_NEXT ((l + 1) % 5)
      .next (if s.calCan l then s.calBegin ⟨l, false, false⟩ else s)

/-- CAL_VISIT_DONE (R429, R430): the measurement of the lane visited ends, at SP position `k` in `m`, `p1`, `p2`, `p3`. The lane reconnects with its new codes; a pinned lane stays on SP. -/
def execCalVisitDone (m p1 p2 p3 : LaneMeas) (s : State) : Out :=
  match s.cal.visit with
  | none => .next s
  | some v =>
    if (v.lane < 4 && !s.spHolds v.lane) || !s.timerDue .visit (visitTicks v.lane) then .next s
    else
      let (ok, s) := s.calApply v [m, p1, p2, p3]
      let s := s.updCal (fun (c : Cal) =>
        { c with visit := none, held := if ok && v.byRun then c.held ||| 2 ^ v.lane else c.held,
                 run := c.run.map (fun (r : CalRun) => if ok && v.byRun then { r with applied := r.applied ||| 2 ^ v.lane } else r) })
      let s := if s.cal.held &&& calNeeded = calNeeded then s.setF Reg.CAL_STATUS_LOADED 1 else s
      let s := if v.byRun || v.byReq then s else s.incF Reg.CAL_BG_COUNT
      let s := if v.lane < 4 && !s.on Reg.RCV_SP_CTL_PIN then s.spRelease else s
      .next s.calNext

/-- A visit under way is discarded and CAL_RUN ends with a status: WATCH or STANDBY entry, or an ABORT (R433). -/
def State.calEnd (s : State) (st det : Nat) : State :=
  let r := s.cal.run
  let s := (s.updCal (fun (c : Cal) => { c with visit := none, run := none })).setF Reg.CAL_STATUS_RUN_BUSY 0
  match r with
  | some x => s.complete x.handle st det x.applied 0
  | none => s

/-- The end of a compare: a visit to the lane is abandoned when SP did not take it over, and CAL_RUN goes on when SP stands still. -/
def State.calCompared (s : State) : State :=
  let lost := s.cal.visit.any (fun v => decide (v.lane < 4) && s.fld Reg.RCV_SP_STATUS_PHASE == spIdle)
  (if lost then s.updCal (fun (c : Cal) => { c with visit := none })
    else if s.cal.visit.any (fun v => s.spHolds v.lane) then s.timerStart .visit else s).calNext

/-- A tick of the spare lane: a return ends, and CAL_RUN goes on (R141, R434). -/
def State.spTick (s : State) : State := if s.fld Reg.RCV_SP_STATUS_PHASE = spReturn then s.spReturned.calNext else s

/-- The ticks that a compare over 16,384 pairs at 4.0 GS/s takes (R141). -/
def compareTicks : Nat := 820

/-- SP_COMPARE_END (R142): passes at an RMS of at most MATCH LSB, repeats up to eight times when more than a quarter of the pairs are left out, and then fails. -/
def execSpCompareEnd (pairs : List (Int × Int)) (s : State) : Out :=
  let ph := s.fld Reg.RCV_SP_STATUS_PHASE
  if (ph ≠ spCompareIn ∧ ph ≠ spCompareOut) ∨ !s.timerDue .compare compareTicks then .next s
  else
    let (sq, n) := spSums pairs
    let rms := satN 16 (isqrt (sq * 65536 / max 1 n))
    let s := s.setF Reg.RCV_SP_STATUS_RMS rms
    if 4 * (pairs.length - n) > pairs.length then
      if s.rx.compares < 8 then .next { s.timerStart .compare with rx := { s.rx with compares := s.rx.compares + 1 } }
      else .next (s.spFail ph rms).calCompared
    else if sq ≤ s.spMatch * s.spMatch * n then .next (s.spPass ph).calCompared
    else .next (s.spFail ph rms).calCompared

/-! ### The calibration store (R435 to R439) -/

/-- MRAM offset of copy A (0) or B (1). -/
def calCopyAt (c : Nat) : Nat := 0x20000 + 0x8000 * c

/-- Bytes of a copy's record. -/
def calSize : Nat := 2368

/-- FLAGS of a record: RX and DAC when every lane of the section holds measured codes, SAD and TIU when their values are measured. -/
def State.calFlags (s : State) : Nat :=
  b2n (s.cal.measured &&& 0xF == 0xF) + 2 * b2n (s.cal.measured &&& 0x60 == 0x60) + 4 * b2n s.cal.sad + 8 * b2n s.cal.tiu

/-- Bytes 64 to 2,367 of a record from the live values (R435). -/
def State.calBody (s : State) : List Byte :=
  (List.range 4).flatMap (fun i => leBytes 4 (s.fld Reg.CAL_RX_TRIM i)) ++ (List.range 4).flatMap (fun i => leBytes 4 (s.fld Reg.CAL_SP_TRIM i)) ++
  (List.range 2).flatMap (fun i => leBytes 4 (s.fld Reg.CAL_DAC_TRIM i)) ++ zeros 24 ++
  (List.range 9).flatMap (fun i => leBytes 4 (code 32 (s.fldS Reg.SAD_CAL_OFS i)) ++ leBytes 4 (code 32 (s.fldS Reg.SAD_CAL_GAIN i))) ++ zeros 56 ++
  (List.range 1024).flatMap (fun i => leBytes 2 (s.fld Reg.TIU_CAL_TAB i)) ++
  (List.range 8).flatMap (fun i => leBytes 2 (s.fld Reg.CAL_QUAL_OFS_RES i) ++ leBytes 2 (s.fld Reg.CAL_QUAL_SKEW_RES i)) ++
  (List.range 2).flatMap (fun i => leBytes 2 (s.fld Reg.CAL_IRR i)) ++ zeros 28

/-- The record of a generation, CHECK over its other bytes (R435). -/
def State.calRecord (s : State) (gen : Nat) : List Byte :=
  let head := leBytes 4 0x4C414343 ++ leBytes 2 1 ++ leBytes 2 s.calFlags ++ leBytes 4 gen ++ leBytes 4 calSize ++ leBytes 8 s.now ++ zeros 36
  let body := s.calBody
  head ++ leBytes 4 (crc32c (head ++ body)) ++ body

/-- A copy is valid (R436): its generation. -/
def calValid (bs : List Byte) : Option Nat :=
  let g := field bs 8 4
  if field bs 0 4 == 0x4C414343 && field bs 4 2 == 1 && field bs 12 4 == calSize && field bs 60 4 == crc32c (bs.take 60 ++ bs.drop 64) &&
    decide (1 ≤ g) && decide (g ≤ 0xFFFFFFFE) then some g else none

/-- The record in copy `c`. -/
def State.calCopy (s : State) (c : Nat) : List Byte := s.mem.mram.readN (calCopyAt c) calSize

/-- The copy that a boot selects: the valid one of the higher generation, A on a tie. -/
def State.calPick (s : State) : Option (Nat × Nat) :=
  match calValid (s.calCopy 0), calValid (s.calCopy 1) with
  | some a, some b => if a < b then some (1, b) else some (0, a)
  | some a, none => some (0, a)
  | none, some b => some (1, b)
  | none, none => none

/-- The values of a selected record handed to the blocks, section by section (R436). -/
def State.calLoadFrom (s : State) (bs : List Byte) : State :=
  let fl := field bs 6 2
  let rx := fl.testBit 0
  let dac := fl.testBit 1
  let s := if rx then (List.range 4).foldl (fun (s : State) i =>
      (s.setF Reg.CAL_RX_TRIM (field bs (64 + 4 * i) (3 + i % 2)) i).setF Reg.CAL_SP_TRIM (field bs (80 + 4 * i) (3 + i % 2)) i) s else s
  let s := if dac then (List.range 2).foldl (fun (s : State) i => s.setF Reg.CAL_DAC_TRIM (field bs (96 + 4 * i) 3) i) s else s
  let s := if fl.testBit 2 then (List.range 9).foldl (fun (s : State) i =>
      (s.setF Reg.SAD_CAL_OFS (field bs (128 + 8 * i) 4) i).setF Reg.SAD_CAL_GAIN (field bs (132 + 8 * i) 4) i) s else s
  let s := if fl.testBit 3 then (List.range 1024).foldl (fun (s : State) i => s.setF Reg.TIU_CAL_TAB (field bs (256 + 2 * i) 2) i) s else s
  let m := (if rx then 0x1F else 0) + (if dac then 0x60 else 0)
  (s.updCal (fun (c : Cal) => { c with held := m, measured := m, sad := fl.testBit 2, tiu := fl.testBit 3 })).setB Reg.CAL_STATUS_LOADED (rx && dac)

/-- The store selected and loaded at boot (R436). -/
def State.calLoad (s : State) : State :=
  match s.calPick with
  | some (c, g) => ((s.setF Reg.CAL_STATUS_STORE (c + 1)).setF Reg.CAL_GEN g).calLoadFrom (s.calCopy c)
  | none => (s.setF Reg.CAL_STATUS_STORE 0).logEvt sevWarning 0x0403 (rowOf 0xE0000) (leBytes 1 2)

/-- One lane's check at boot (R437): its residuals with the loaded codes; true when it drifted. -/
def State.calCheckLane (s : State) (lane pos : Nat) (m : LaneMeas) : State :=
  let (c, s) := s.calCodes lane pos m
  let (F, i) := trimReg lane pos
  let s := s.calWrite lane pos (codesOf (s.fld F i)) c.2 m
  let low := decide (lane < 4) && s.cal.res.all (·.isSome) && decide (s.fld Reg.CAL_IRR (lane / 2) < 600)
  if decide (2 * 2 ^ 24 < m.m0.natAbs) || low then
    (s.setF Reg.CAL_STATUS_DRIFT 1).logEvt sevWarning 0x0403 (rowOf 0xE0000) (leBytes 1 1 ++ leBytes 1 lane)
  else s

/-- The check of R55 and R437: XI, XQ, YI, YQ, SP at its four positions, PI and PQ each make one measurement and change no code. -/
def State.calCheck (s : State) (ms : List LaneMeas) : State :=
  let one (s : State) (k : Nat) (lane pos : Nat) : State :=
    match ms[k]? with
    | some m => s.calCheckLane lane pos m
    | none => s
  let s := (List.range 4).foldl (fun (s : State) l => one s l l l) s
  let s := (List.range 4).foldl (fun (s : State) q => one s (4 + q) 4 q) s
  (List.range 2).foldl (fun (s : State) k => one s (8 + k) (5 + k) 0) s

/-- CAL_STORE (R438): `readBack` tells whether the copy read back as written. Writes that a brown-out blocks read back unchanged (R41). -/
def execCalStore (h : Fin 256) (readBack : Bool) (s : State) : Out :=
  match s.cmd? h.val 0x72 with
  | none => .next s
  | some _ =>
    .next (if s.cal.run.isSome then s.complete h.val stBusy 0x70 0 0
      else
        let st := s.fld Reg.CAL_STATUS_STORE
        let g := s.fld Reg.CAL_GEN
        if st ≠ 0 ∧ g = 0xFFFFFFFE then s.complete h.val stNoSpace 0 0 0
        else
          let gen := if st = 0 then 1 else g + 1
          let c := if st = 1 then 1 else 0
          if readBack && !s.pw.brownBlock then
            let s := { s with mem := { s.mem with mram := s.mem.mram.writeN (calCopyAt c) (s.calRecord gen) } }
            ((s.setF Reg.CAL_STATUS_STORE (c + 1)).setF Reg.CAL_GEN gen).complete h.val stOk 0 gen 0
          else
            -- the copy holds the record with an unknown CHECK (log entry 25)
            let (v, s) := s.freeVal 32
            let bs := s.calRecord gen
            let bad := bs.take 60 ++ leBytes 4 v ++ bs.drop 64
            let s := if s.pw.brownBlock then s else { s with mem := { s.mem with mram := s.mem.mram.writeN (calCopyAt c) bad } }
            let (w, s) := s.freeVal 8
            ((s.setF Reg.CAL_STATUS_STORE_ERR 1).logEvt sevWarning 0x0403 (rowOf 0xE0000) (leBytes 1 w)).complete h.val stHwFault 0x60 0 0)

/-- CAL_REPORT (R439). -/
def execCalReport (h : Fin 256) (d : CmdData) (s : State) : Out :=
  match s.cmd? h.val 0x73 with
  | none => .next s
  | some x =>
    .next (s.giveData x d (s.calRecord 0))

end Sys2Proof.Machine
end

