-- ==== Sys2Proof/Machine/Panel.lean ====
section
/-! DEFINITION. Panel scan-out (R418 to R427, R475): the timing record, the link mapping, fetch and palette, static refresh reduction, and pin read-back. -/

namespace Sys2Proof.Machine

/-- A change of the panel state. -/
def State.updPnl (s : State) (f : Pnl → Pnl) : State := { s with pnl := f s.pnl }

/-! ### The timing record (R418, R419) -/

/-- Codes of PNL_STATUS.STATE. -/
def pnlOff : Nat := 0
def pnlStarting : Nat := 1
def pnlRun : Nat := 2
def pnlStopping : Nat := 3

/-- The panel is enabled: its state is not OFF. -/
def State.panelOn (s : State) : Bool := s.fld Reg.PNL_STATUS_STATE != pnlOff

/-- H_TOTAL and V_TOTAL of a record. -/
def recHTotal (bs : List Byte) : Nat := field bs 12 2 + field bs 14 2 + field bs 16 2 + field bs 18 2
def recVTotal (bs : List Byte) : Nat := field bs 20 2 + field bs 22 2 + field bs 24 2 + field bs 26 2

/-- `v` lies outside [lo, hi]. -/
def outside (v lo hi : Nat) : Bool := decide (v < lo) || decide (hi < v)

/-- The first field of a record out of range, by byte offset. -/
def pnlFieldBad (bs : List Byte) : Option Nat :=
  let fl := field bs 6 2
  let need := field bs 12 2 * (if fl.testBit 2 then 4 else 1)
  let st := field bs 28 4
  firstBad [(field bs 0 4 != 0x544C4E50, 0), (field bs 4 2 != 1, 4), (fl % 4 == 3 || fl / 32 != 0, 6),
    (outside (field bs 8 4) 25000 165000, 8), (outside (field bs 12 2) 64 1920, 12), (outside (field bs 14 2) 1 1023, 14),
    (outside (field bs 16 2) 1 1023, 16), (outside (field bs 18 2) 1 1023, 18), (outside (field bs 20 2) 32 1200, 20),
    (outside (field bs 22 2) 1 255, 22), (outside (field bs 24 2) 1 63, 24), (outside (field bs 26 2) 1 255, 26),
    (st % 64 != 0 || outside st need 8192, 28)]

/-- The horizontal blanking is shorter than 32 pixels. -/
def pnlBlankBad (bs : List Byte) : Bool := decide (recHTotal bs - field bs 12 2 < 32)

/-- The refresh rate lies outside 20 to 120 Hz. -/
def pnlRateBad (bs : List Byte) : Bool :=
  outside (field bs 8 4 * 1000) (20 * recHTotal bs * recVTotal bs) (120 * recHTotal bs * recVTotal bs)

/-- A valid record stored; the PLL reaches PCLK_KHZ within ±0.05 %, a free value (log entry 24). -/
def State.pnlStore (s : State) (bs : List Byte) : State :=
  let p := field bs 8 4
  let w := p / 2000
  let (e, s) := s.freeVal 32
  let s := s.updPnl (fun (x : Pnl) => { x with pclk := some p })
  let s := (s.setF Reg.PNL_CFG (field bs 6 2)).setF Reg.PNL_PCLK (p - w + e % (2 * w + 1))
  let s := (s.setF Reg.PNL_HTIM0_H_ACTIVE (field bs 12 2)).setF Reg.PNL_HTIM0_H_FP (field bs 14 2)
  let s := (s.setF Reg.PNL_HTIM1_H_SYNC (field bs 16 2)).setF Reg.PNL_HTIM1_H_BP (field bs 18 2)
  let s := (s.setF Reg.PNL_VTIM0_V_ACTIVE (field bs 20 2)).setF Reg.PNL_VTIM0_V_FP (field bs 22 2)
  let s := (s.setF Reg.PNL_VTIM1_V_SYNC (field bs 24 2)).setF Reg.PNL_VTIM1_V_BP (field bs 26 2)
  s.setF Reg.PNL_STRIDE (field bs 28 4)

/-- PNL_MODE (R419). The offset reported for a short horizontal blanking is one of its fields', a free value (log entry 24). -/
def execPnlMode (h : Fin 256) (d : CmdData) (s : State) : Out :=
  match s.cmd? h.val 0xD0 with
  | none => .next s
  | some x =>
    .next (s.withRecord x d 32 (fun s bs =>
      match pnlFieldBad bs with
      | some o => s.complete h.val stInvalid 0xFF o 0
      | none =>
        if pnlBlankBad bs then
          let (o, s) := s.freeVal 2
          s.complete h.val stInvalid 0xFF (12 + 2 * o) 0
        else if pnlRateBad bs then s.complete h.val stInvalid 0xFF 8 0
        else if s.panelOn then s.complete h.val stBusy 0xD2 0 0
        else (s.pnlStore bs).complete h.val stOk 0 0 0))

/-! ### Palette and enable (R421, R423, R475) -/

/-- The palette that 1,024 bytes spell takes effect. -/
def State.palPut (s : State) (bs : List Byte) : State :=
  (List.range 256).foldl (fun (s : State) i => s.setF Reg.PNL_PAL (field bs (4 * i) 3) i) s

/-- PNL_PALETTE (R423). -/
def execPnlPalette (h : Fin 256) (d : CmdData) (s : State) : Out :=
  match s.cmd? h.val 0xD1 with
  | none => .next s
  | some x =>
    .next (s.withRecord x d 1024 (fun s bs =>
      match firstBad ((List.range 256).map (fun i => (field bs (4 * i + 3) 1 != 0, 4 * i + 3))) with
      | some o => s.complete h.val stInvalid 0xFF o 0
      | none =>
        if s.panelOn then (s.takeUp h.val).updPnl (fun (p : Pnl) => { p with palettes := p.palettes ++ [(h.val, bs)] })
        else (s.palPut bs).complete h.val stOk 0 0 0))

/-- Every handle of a list completed with OK. -/
def State.completeAll (s : State) (hs : List Nat) : State := hs.foldl (fun (s : State) h => s.complete h stOk 0 0 0) s

/-- What PNL_ENABLE 1 lacks (R421), as DETAIL. -/
def State.pnlLacks (s : State) : Option Nat :=
  if s.pnl.pclk.isNone then some 6 else if s.rgnSize 6 ≠ 0x1000000 then some 3 else none

/-- PNL_ENABLE 1 with its needs met. -/
def State.pnlStart (s : State) (h : Nat) : State :=
  if s.fld Reg.PNL_STATUS_STATE = pnlOff then
    ((s.takeUp h).updPnl (fun (p : Pnl) => { p with starters := [h], prev := none, same := 0 })).setF Reg.PNL_STATUS_STATE pnlStarting
  else if s.fld Reg.PNL_STATUS_STATE ≠ pnlStopping then s.complete h stOk 0 0 0
  else if s.pnl.again.isSome then s.complete h stBusy 0xD2 0 0
  else (s.takeUp h).updPnl (fun (p : Pnl) => { p with again := some h })

/-- A queued re-enable is cancelled (R475). -/
def State.pnlCancel (s : State) : State :=
  match s.pnl.again with
  | some h => (s.updPnl (fun (p : Pnl) => { p with again := none })).complete h stAborted 3 0 0
  | none => s

/-- Scan-out over: every pair at a constant 0 and the drivers off. A palette that waited takes effect. -/
def State.pnlOver (s : State) : State :=
  let pals := s.pnl.palettes
  let s := s.updPnl (fun (p : Pnl) => { p with stoppers := [], palettes := [], inActive := false, link := [] })
  let s := (s.setF Reg.PNL_STATUS_STATE pnlOff).setF Reg.PNL_STATUS_DIV 0
  pals.foldl (fun (s : State) x => (s.palPut x.2).complete x.1 stOk 0 0 0) s

/-- Scan-out ends at the end of the frame in progress, or at once before the first frame; `h` is the command that asked, if one did. -/
def State.pnlStop (s : State) (h : Option Nat) : State :=
  let s := s.pnlCancel
  if s.fld Reg.PNL_STATUS_STATE = pnlStarting then
    let s := s.pnl.starters.foldl (fun (s : State) i => s.complete i stAborted (if h.isSome then 3 else 2) 0 0) s
    let s := (s.updPnl (fun (p : Pnl) => { p with starters := [] })).pnlOver
    match h with
    | some i => s.complete i stOk 0 0 0
    | none => s
  else if s.panelOn then
    let s := s.setF Reg.PNL_STATUS_STATE pnlStopping
    match h with
    | some i => (s.takeUp i).updPnl (fun (p : Pnl) => { p with stoppers := p.stoppers ++ [i] })
    | none => s
  else match h with
    | some i => s.complete i stOk 0 0 0
    | none => s

/-- PNL_ENABLE (R421, R475). A panel already enabled changes nothing; one that is stopping takes the request after the stop. -/
def execPnlEnable (h : Fin 256) (s : State) : Out :=
  match s.cmd? h.val 0xD2 with
  | none => .next s
  | some x =>
    .next (if x.p 0 % 2 = 0 then s.pnlStop (some h.val)
      else match s.pnlLacks with
        | some det => s.complete h.val stNotReady det 0 0
        | none => s.pnlStart h.val)

/-! ### The link (R420) -/

/-- Seven slots, slot 0 first, as a number whose bit 6 is slot 0. -/
def slots (l : List Bool) : Nat := l.foldl (fun a b => 2 * a + b2n b) 0

/-- Bits of a colour, from `hi` down to `lo`. -/
def down (x hi lo : Nat) : List Bool := ((List.range (hi + 1 - lo)).map (fun i => x.testBit (hi - i)))

/-- D0, D1, D2, D3 and CLK of one pixel clock under a MAP: 0 VESA, 1 JEIDA, 2 18-bit. -/
def linkWord (map r g b : Nat) (de vs hs : Bool) : List Nat :=
  if map = 0 then
    [slots (g.testBit 0 :: down r 5 0), slots (down b 1 0 ++ down g 5 1), slots ([de, vs, hs] ++ down b 5 2),
     slots ([false] ++ down b 7 6 ++ down g 7 6 ++ down r 7 6), 0b1100011]
  else
    [slots (g.testBit 2 :: down r 7 2), slots (down b 3 2 ++ down g 7 3), slots ([de, vs, hs] ++ down b 7 4),
     (if map = 1 then slots ([false] ++ down b 1 0 ++ down g 1 0 ++ down r 1 0) else 0), 0b1100011]

/-! ### Frames (R422 to R426) -/

/-- H_TOTAL and V_TOTAL of the stored record (R419). -/
def State.pnlHTotal (s : State) : Nat :=
  s.fld Reg.PNL_HTIM0_H_ACTIVE + s.fld Reg.PNL_HTIM0_H_FP + s.fld Reg.PNL_HTIM1_H_SYNC + s.fld Reg.PNL_HTIM1_H_BP
def State.pnlVTotal (s : State) : Nat :=
  s.fld Reg.PNL_VTIM0_V_ACTIVE + s.fld Reg.PNL_VTIM0_V_FP + s.fld Reg.PNL_VTIM1_V_SYNC + s.fld Reg.PNL_VTIM1_V_BP

/-- Ticks that `n` lines take at the achieved pixel clock, the last one begun left out (R418, R419). -/
def State.lineTicks (s : State) (n : Nat) : Nat := n * s.pnlHTotal * 200000 / max 1 (s.fld Reg.PNL_PCLK)

/-- Lines of the frame in progress: the front porch is extended by (DIV − 1)·V_TOTAL lines (R425). -/
def State.frameLines (s : State) : Nat := 2 ^ s.fld Reg.PNL_STATUS_DIV * s.pnlVTotal

/-- A frame starts: PNL_FB_OFS sampled, pending palettes applied (R422, R423). -/
def State.frameOpen (s : State) : State :=
  let o := s.fld Reg.PNL_FB_OFS
  let pals := s.pnl.palettes
  let s := (s.timerStart .frame).updPnl (fun (p : Pnl) =>
    { p with ofs := o, palettes := [], inActive := true, line := 0, crc := crcInit 1,
             same := if pals.isEmpty && o == p.ofs then p.same else 0 })
  pals.foldl (fun (s : State) x => (s.palPut x.2).complete x.1 stOk 0 0 0) s

/-- PANEL_FRAME_START (R421, R422, R425): the boundary between frames, once the lines of the frame in progress have passed. A stopping panel ends there and a queued PNL_ENABLE takes its turn (R475). -/
def execPanelFrameStart (s : State) : Out :=
  let st := s.fld Reg.PNL_STATUS_STATE
  if s.pnl.inActive || !s.runs 8 || (st != pnlStarting && !s.timerDue .frame (s.lineTicks s.frameLines)) then .next s
  else if st = pnlStopping then
    let hs := s.pnl.stoppers
    let s := s.pnlOver.completeAll hs
    .next (match s.pnl.again with
      | some h => (s.updPnl (fun (p : Pnl) => { p with again := none, starters := [h], prev := none, same := 0 })).setF Reg.PNL_STATUS_STATE pnlStarting
      | none => s)
  else if st = pnlStarting then
    let hs := s.pnl.starters
    .next (((s.updPnl (fun (p : Pnl) => { p with starters := [] })).setF Reg.PNL_STATUS_STATE pnlRun).frameOpen.completeAll hs)
  else if st = pnlRun then .next s.frameOpen
  else .next s

/-- A pixel of the frame buffer as (R, G, B), `o` its offset in the PANEL region; index 0, or black, where its line is poisoned (R422, R424). -/
def State.pixel (s : State) (xrgb : Bool) (o : Nat) : Nat × Nat × Nat :=
  let a := s.rgnBase 6 + o
  let bad := s.poisoned a 1
  let v := if xrgb then (if bad then 0 else leNat (s.extGet a 3))
    else s.fld Reg.PNL_PAL (if bad then 0 else leNat (s.extGet a 1))
  (bits v 23 16, bits v 15 8, v % 256)

/-- `n` bytes of the frame buffer fetched from offset `o`, wrapping at 16 MiB. -/
def State.pnlLines (s : State) (o n : Nat) : State :=
  let o := o % 0x1000000
  let k := min n (0x1000000 - o)
  (s.linesRead (s.rgnBase 6 + o) k).linesRead (s.rgnBase 6) (n - k)

/-- LINE_FETCH (R422, R424): the next line of the active area, of which `present` pixels arrived in time, none while external memory gives no credit; the rest is black. -/
def execLineFetch (present : Fin 2048) (s : State) : Out :=
  if s.runs 8 && s.pnl.inActive && decide (s.pnl.line < s.fld Reg.PNL_VTIM0_V_ACTIVE) then
    let fl := s.fld Reg.PNL_CFG
    let map := fl % 4
    let xrgb := fl.testBit 2
    let w := s.fld Reg.PNL_HTIM0_H_ACTIVE
    let sz := if xrgb then 4 else 1
    let o := s.pnl.ofs * 64 + s.pnl.line * s.fld Reg.PNL_STRIDE
    let at' (x : Nat) : Nat := (o + sz * x) % 0x1000000
    let n := if s.memReady then min present.val w else 0
    let px := (List.range w).map (fun x => if x < n then s.pixel xrgb (at' x) else (0, 0, 0))
    let cut (v : Nat) : Nat := if map = 2 then v / 4 * 4 else v
    let crc := px.foldl (fun c p => crcByte 1 (crcByte 1 (crcByte 1 c (BitVec.ofNat 8 (cut p.1))) (BitVec.ofNat 8 (cut p.2.1))) (BitVec.ofNat 8 (cut p.2.2))) s.pnl.crc
    let link := px.map (fun p => linkWord map p.1 p.2.1 p.2.2 true (!fl.testBit 4) (!fl.testBit 3))
    let bad := (List.range n).any (fun x => s.poisoned (s.rgnBase 6 + at' x) 1)
    let s := (s.pnlLines o (sz * n)).updPnl (fun (p : Pnl) => { p with line := p.line + 1, crc := crc, link := link })
    let s := if bad then s.setF Reg.PNL_STATUS_FETCH_ERR 1 else s
    .next (if n < w then (s.setF Reg.PNL_STATUS_UNDERRUN 1).incF Reg.PNL_UNDERRUN_COUNT else s)
  else .next s

/-- The refresh divisor of R425 as its code: 2 for ÷4, 1 for ÷2, 0 for ÷1. -/
def State.pnlDiv (s : State) : Nat :=
  let ok (d : Nat) : Bool := decide (max 1 (s.fld Reg.PNL_REDUCE_MIN_HZ) * d * s.pnlHTotal * s.pnlVTotal ≤ s.pnl.pclk.getD 0 * 1000)
  if !s.on Reg.PNL_REDUCE_EN || decide (s.pnl.same < 8) then 0
  else if s.on Reg.PNL_REDUCE_MAX4 && ok 4 then 2
  else if ok 2 then 1
  else 0

/-- The signatures of a frame differ (R426): at most one log entry and one signal per second. -/
def State.pnlMismatch (s : State) (pipe pins : Nat) : State :=
  let s := (s.setF Reg.PNL_STATUS_MISMATCH 1).incF Reg.PNL_MISMATCH_COUNT
  if s.pnl.loggedAt.any (fun t => decide (s.tick < t + ticksS 1)) then s
  else
    let s := s.updPnl (fun (p : Pnl) => { p with loggedAt := some s.tick })
    (s.logEvt sevWarning 0x0402 (rowOf 0xD0000) (leBytes 4 pipe ++ leBytes 4 pins)).signal 0

/-- Lines from the start of a frame to the end of its active area (R418). -/
def State.activeEnd (s : State) : Nat := s.fld Reg.PNL_VTIM1_V_SYNC + s.fld Reg.PNL_VTIM1_V_BP + s.fld Reg.PNL_VTIM0_V_ACTIVE

/-- PANEL_ACTIVE_END (R425, R426): the last line of the active area has been sent; `pins` is the signature of what the pad receivers recovered, `clkOk` tells whether they recovered the clock pattern of R420. -/
def execPanelActiveEnd (pins : Word) (clkOk : Bool) (s : State) : Out :=
  if s.runs 8 && s.pnl.inActive && s.pnl.line == s.fld Reg.PNL_VTIM0_V_ACTIVE && s.timerDue .frame (s.lineTicks s.activeEnd) then
    let sig := s.pnl.crc ^^^ crcXor 1
    let s := s.updPnl (fun (p : Pnl) => { p with inActive := false, prev := some sig, same := if p.prev == some sig then p.same + 1 else 0 })
    let s := (s.setF Reg.PNL_CRC_PIPE sig).setF Reg.PNL_CRC_PINS pins.toNat
    let s := s.set64 Reg.PNL_FRAMES_LO Reg.PNL_FRAMES_HI (s.fld64 Reg.PNL_FRAMES_LO Reg.PNL_FRAMES_HI + 1)
    let s := s.setF Reg.PNL_STATUS_DIV s.pnlDiv
    let s := if sig = pins.toNat then s else s.pnlMismatch sig pins.toNat
    .next (if clkOk then s else s.setF Reg.PNL_STATUS_CLK_ERR 1)
  else .next s

end Sys2Proof.Machine
end

