-- ==== Sys2Proof/Machine/MemCtl.lean ====
section
/-! DEFINITION. The memory controller (R300 to R323, R499): the space and its regions, line requests and their errors, refresh, rank migration, frequency change and training.
The bulk accesses of a unit take effect in that unit's own commands; MEM_REQUEST is one line access as the controller serves it. -/

namespace Sys2Proof.Machine

/-- A change of the records in MRAM; a brown-out keeps it out (R41, R318, R322). -/
def State.recPut (s : State) (f : MemRecord → MemRecord) : State :=
  if s.pw.brownBlock then s else s.updMc (fun (m : Mc) => { m with record := f m.record })

/-! ### Regions (R304, R499) -/

/-- The size rule of region `n`, in MiB. -/
def rgnSizeOk (n size : Nat) : Bool :=
  match n with
  | 0 => size == 0 || (decide (128 ≤ size) && decide (size ≤ 131072) && size % 64 == 0)
  | 1 => size % 64 == 0
  | 2 => size == 0 || size == 64
  | 3 => true
  | 4 => size == 1
  | 5 => size == 64
  | _ => size == 0 || size == 16

/-- Two regions of non-zero size overlap. -/
def rgnOverlap (a b : Nat × Nat) : Bool := a.2 != 0 && b.2 != 0 && decide (a.1 < b.1 + b.2) && decide (b.1 < a.1 + a.2)

/-- Region `n` of a table of (base, size) meets its rule. -/
def State.rgnOk (s : State) (t : List (Nat × Nat)) (n : Nat) : Bool :=
  let r := t.getD n (0, 0)
  rgnSizeOk n r.2 && (r.2 == 0 || decide (r.1 + r.2 ≤ s.fld Reg.MEM_SIZE)) &&
    (List.range 7).all (fun k => k == n || !rgnOverlap r (t.getD k (0, 0)))

/-- The table in effect, and the staged one. -/
def State.rgnTable (s : State) : List (Nat × Nat) := (List.range 7).map (fun n => (s.fld Reg.MEM_RGN_EBASE n, s.fld Reg.MEM_RGN_ESIZE n))
def State.rgnStaged (s : State) : List (Nat × Nat) := (List.range 7).map (fun n => (s.fld Reg.MEM_RGN_BASE n, s.fld Reg.MEM_RGN_SIZE n))

/-- Every stored capture discarded. -/
def State.capsDrop (s : State) : State := { s with slm := { s.slm with caps := s.slm.caps.filter (fun c => !c.stored) } }

/-- A table put in effect; one that alters CAPTURE discards every stored capture. -/
def State.rgnPut (s : State) (t : List (Nat × Nat)) : State :=
  let moved := t.getD 1 (0, 0) != s.rgnTable.getD 1 (0, 0)
  let s := (List.range 7).foldl (fun (s : State) n =>
    (s.setF Reg.MEM_RGN_EBASE (t.getD n (0, 0)).1 n).setF Reg.MEM_RGN_ESIZE (t.getD n (0, 0)).2 n) s
  if moved then { s.capsDrop with slm := { s.capsDrop.slm with capAt := 0 } } else s

/-- The pair of region `n` written: checked against the table in effect for the others; ERR names it when it fails. -/
def State.rgnPair (s : State) (n : Nat) : State :=
  let t := setAt s.rgnTable n (s.rgnStaged.getD n (0, 0))
  if s.rgnOk t n then (s.rgnPut t).setF Reg.MEM_RGN_CTL_ERR 7 else s.setF Reg.MEM_RGN_CTL_ERR n

/-- MEM_RGN_CTL.COMMIT: the whole staging table together; ERR names the first region that fails. -/
def State.rgnCommit (s : State) : State :=
  let t := s.rgnStaged
  match (List.range 7).find? (fun n => !s.rgnOk t n) with
  | none => (s.rgnPut t).setF Reg.MEM_RGN_CTL_ERR 7
  | some n => s.setF Reg.MEM_RGN_CTL_ERR n

/-- A layout loaded at boot, pair by pair onto the empty table (R499): a region whose pair fails stays at size 0, with a log entry. -/
def State.rgnLoad (s : State) (t : List (Nat × Nat)) : State :=
  let (s, e) := (List.range 7).foldl (fun (acc : State × Option Nat) n =>
    let p := t.getD n (0, 0)
    let s := ((acc.1.setF Reg.MEM_RGN_BASE p.1 n).setF Reg.MEM_RGN_SIZE p.2 n).rgnPair n
    if s.fld Reg.MEM_RGN_CTL_ERR = 7 then (s, acc.2)
    else (s.logEvt sevWarning 0x0205 (rowOf 0x90000) (leBytes 1 n ++ leBytes 1 n), some n)) (s.rgnPut (List.replicate 7 (0, 0)), none)
  s.setF Reg.MEM_RGN_CTL_ERR (e.getD 7)

/-! ### Migration (R316 to R319) -/

/-- The spare of channel `c` can take a rank: it exists, holds none, and no migration runs or waits. -/
def State.spareFree (s : State) (c : Nat) : Bool :=
  (s.mc.spare.getD c none).isSome && !s.on Reg.MEM_CH_STATUS_SPARE_USED c && (s.mc.mig.getD c none).isNone && (s.mc.want.getD c none).isNone

/-- A rank's migration asked for (R317). -/
def State.migWant (s : State) (c r : Nat) : State := s.updMc (fun (m : Mc) => { m with want := vset m.want c (some r) })

/-- A MEM_MIGRATION entry. -/
def State.migLog (s : State) (c r what : Nat) : State :=
  s.logEvt sevNotice 0x0202 (rowOf 0x90000) (leBytes 1 c ++ leBytes 1 r ++ leBytes 1 what)

/-- An uncorrectable re-read of rank `r` asks for a migration, or misses one while another rank migrates (R317, R318). -/
def State.migOnUe (s : State) (c r : Nat) : State :=
  match s.mc.mig.getD c none with
  | some m =>
    if r = m ∨ s.mc.spare.getD c none = some r then s
    else (s.setF Reg.MEM_CH_STATUS_RETIRE_MISSED 1 c).migLog c r 2
  | none => if s.spareFree c ∧ s.mc.spare.getD c none ≠ some r then s.migWant c r else s

/-- A corrected read counts towards CE_THR of its rank within one hour (R317). -/
def State.migOnCe (s : State) (c r : Nat) : State :=
  let ces := ⟨c, r, s.tick⟩ :: s.mc.ces.filter (fun x => decide (s.tick < x.time + ticksS 3600))
  let s := s.updMc (fun (m : Mc) => { m with ces := ces })
  let thr := s.fld Reg.MEM_CH_CFG_CE_THR c
  let n := (ces.filter (fun x => x.ch == c && x.rank == r)).length
  if thr ≠ 0 ∧ thr ≤ n ∧ s.spareFree c ∧ s.mc.spare.getD c none ≠ some r then s.migWant c r else s

/-- A rank number written to MEM_MIG_CTL.RETIRE of channel `c`, which clears itself to 7 (R317, R318). The spare, a retired rank and a channel with no free spare set ERR; a rank that is none of these and not in the space is turned away before (`State.unlisted`, log entry 285). -/
def State.retire (s : State) (c : Nat) : State :=
  let r := s.fld Reg.MEM_MIG_CTL_RETIRE c
  let s := s.setF Reg.MEM_MIG_CTL_RETIRE 7 c
  if r = 7 then s
  else if s.spareFree c && (s.mc.order.getD c []).contains r then s.migWant c r
  else s.setF Reg.MEM_MIG_CTL_ERR 1 c

/-- MIGRATION_START (R318): dual writes on, the copy at line 0, the start recorded. -/
def execMigrationStart (ch : Fin 2) (s : State) : Out :=
  match s.mc.want.getD ch.val none with
  | none => .next s
  | some r =>
    let s := s.updMc (fun (m : Mc) => { m with want := vset m.want ch.val none, mig := vset m.mig ch.val (some r), migAcc := vset m.migAcc ch.val 0 })
    let s := s.recPut (fun (m : MemRecord) => { m with migrating := vset m.migrating ch.val (some r) })
    .next (((s.setF Reg.MEM_CH_STATUS_MIG 1 ch.val).setF Reg.MEM_MIG_PTR 0 ch.val).migLog ch.val r 0)

/-- Lines of a rank of channel `c`. -/
def State.rankLines (s : State) (c : Nat) : Nat := s.mc.mib.getD c 0 * 0x4000

/-- External offset of a byte of channel `c` (R301). -/
def State.extOf (s : State) (c o : Nat) : Nat :=
  if s.on Reg.MEM_STATUS_INTLV then o / 256 * 512 + c * 256 + o % 256 else if c = 0 then o else s.chBytes 0 + o

/-- Two requests for one line, of which the older stands between the read and the write of a part of it (R307). -/
def MemReq.inRmw (e : MemReq) (off : Nat) : Bool := e.off / 64 == off / 64 && e.group.isSome && e.write.isSome

/-- The next line of a migrating rank copied: one read through R311 and one write on the spare, with its poison if it carries any. -/
def State.migLine (s : State) (c r : Nat) : State :=
  let pos := ((s.mc.order.getD c []).findIdx? (· == r)).getD 0
  let off := s.extOf c ((pos * s.rankLines c + s.fld Reg.MEM_MIG_PTR c) * 64)
  if s.mc.flight.any (·.inRmw off) then s else ((s.linesRead off 64).memCount c 0 1).incF Reg.MEM_MIG_PTR c

/-- The copy of a running migration moves on: part of the idle step, at most a line per tick, and RATE GB/s when RATE is not 0. -/
def State.migTick (s : State) : State :=
  (List.range 2).foldl (fun (s : State) c =>
    match s.mc.mig.getD c none with
    | none => s
    | some r =>
      if !s.memCredit c || decide (s.rankLines c ≤ s.fld Reg.MEM_MIG_PTR c) then s
      else
        let rate := s.fld Reg.MEM_MIG_CTL_RATE c
        let acc := min 64 (s.mc.migAcc.getD c 0 + 5 * rate)
        let put (n : Nat) (s : State) : State := s.updMc (fun (m : Mc) => { m with migAcc := vset m.migAcc c n })
        if rate = 0 then (put 0 s).migLine c r
        else if acc < 64 then put acc s
        else (put 0 s).migLine c r) s

/-- MIGRATION_DONE (R318): the pointer has reached the end, and the spare takes the rank's place. -/
def execMigrationDone (ch : Fin 2) (s : State) : Out :=
  let c := ch.val
  match s.mc.mig.getD c none, s.mc.spare.getD c none with
  | some r, some sp =>
    if s.fld Reg.MEM_MIG_PTR c < s.rankLines c then .next s
    else
      let s := s.updMc (fun (m : Mc) => { m with mig := vset m.mig c none, order := vmod m.order c (fun o => o.map (fun x => if x = r then sp else x)) })
      let s := s.recPut (fun (m : MemRecord) => { m with migrating := vset m.migrating c none, retired := vset m.retired c (some r) })
      let s := (s.setF Reg.MEM_CH_STATUS_MIG 0 c).setF Reg.MEM_CH_STATUS_SPARE_USED 1 c
      .next (((s.orF Reg.MEM_CH_STATUS_RETIRED (2 ^ r) c).migLog c r 1).signal 0)
  | _, _ => .next s

/-! ### Refresh (R314, R315) -/

/-- The controller refreshes rank `r` of channel `c`: trained, not retired, not in self-refresh. -/
def State.refreshes (s : State) (c r : Nat) : Bool :=
  (s.fld Reg.MEM_CH_STATUS_RANKS c).testBit r && !(s.fld Reg.MEM_CH_STATUS_RETIRED c).testBit r && !s.mc.selfRef

/-- `n` refresh commands issued on channel `c`. -/
def State.refIssue (s : State) (c n : Nat) : State := s.set64 Reg.MEM_REF_LO Reg.MEM_REF_HI (s.fld64 Reg.MEM_REF_LO Reg.MEM_REF_HI c + n) c

/-- REFRESH (R314, R315): the interval of a rank passes. While class 1 or 2 traffic is served (`busy`) up to 4 refreshes are owed, unless the channel is hot; owed ones are issued once the traffic stops. -/
def execRefresh (ch : Fin 2) (rank : Fin 4) (busy : Bool) (s : State) : Out :=
  let c := ch.val
  if !s.refreshes c rank.val || !s.timerDue (.refresh c rank.val) (if s.on Reg.MEM_CH_STATUS_HOT c then 390 else 780) then .next s
  else
    let s := s.timerStart (.refresh c rank.val)
    let owed := (s.mc.owed.getD c (Vector.replicate 4 0)).getD rank.val 0
    let put (n : Nat) (s : State) : State := s.updMc (fun (m : Mc) => { m with owed := vmod m.owed c (fun l => vset l rank.val n) })
    if s.on Reg.MEM_CH_STATUS_HOT c then .next (s.refIssue c 1)
    else if busy then
      if owed < 4 then
        .next ((put (owed + 1) s).setF Reg.MEM_REF_MAXOWED (max (s.fld Reg.MEM_REF_MAXOWED c) (owed + 1)) c)
      else .next (s.refIssue c 1)
    else .next ((put 0 s).refIssue c (owed + 1))

/-- Every refresh owed on channel `c` issued. -/
def State.refFlush (s : State) (c : Nat) : State :=
  let n := (s.mc.owed.getD c (Vector.replicate 4 0)).sum
  (s.updMc (fun (m : Mc) => { m with owed := vmod m.owed c (fun l => l.map (fun _ => 0)) })).refIssue c n

/-- MEM_TEMP_POLL (R314): each rank's range, 0 at or below 85 °C, 1 above, 2 the device's maximum. -/
def execMemTempPoll (ch : Fin 2) (ranges : List (Fin 3)) (s : State) : Out :=
  let c := ch.val
  if !s.timerDue (.poll c) (ticksMs 32) then .next s
  else
  let s := s.timerStart (.poll c)
  let hot := ranges.any (fun r => decide (1 ≤ r.val))
  let s := if hot && !s.on Reg.MEM_CH_STATUS_HOT c then s.refFlush c else s
  let s := s.setB Reg.MEM_CH_STATUS_HOT hot c
  .next (if ranges.any (fun r => r.val == 2) then
      (((s.setF Reg.MEM_CH_STATUS_OVERTEMP 1 c).logEvt sevWarning 0x0203 (rowOf 0x90000) (leBytes 1 c ++ leBytes 1 1)).signal 0)
    else s)

/-- Every rank put into self-refresh, owed refreshes first (R320). -/
def State.selfRefresh (s : State) : State := ((s.refFlush 0).refFlush 1).updMc (fun (m : Mc) => { m with selfRef := true })

/-- A frequency change whose requests in flight have drained enters self-refresh (R321). -/
def State.freqSleep (s : State) : State :=
  if s.mc.freq.isSome && s.mc.flight.isEmpty && !s.mc.selfRef then s.selfRefresh else s

/-! ### Line requests (R306 to R313) -/

/-- The DQ groups in error of a first read, each once. -/
def failingGroups : FirstRead → List Nat
  | .errors gs => (gs.map (·.val)).eraseDups
  | .stalled => []

/-- The class of a source (R306). -/
def memClass (src : Nat) : Nat := if src = 0 ∨ src = 17 then 1 else if src = 18 ∨ src = 19 then 3 else 2

/-- The answer to a requester; the scrub has none. -/
def State.memReply (s : State) (src status detail : Nat) (data : List Byte) : State :=
  if src = 19 then s else s.updMc (fun (m : Mc) => { m with replies := m.replies ++ [⟨src, status, detail, data⟩] })

/-- A request whose line is good: read data returned, or a write stored. A partial write to a poisoned line leaves it poisoned and is counted (R311). -/
def State.memGood (s : State) (q : MemReq) : State :=
  let (c, _, _, home) := s.lineAt q.off
  match q.write with
  | none => s.memReply q.src stOk 0 (s.extGet (q.off / 64 * 64) 64)
  | some bs =>
    let s := if bs.length < 64 && s.poisoned q.off 1 then s.incF Reg.MEM_POISON_WR c else s
    let s := s.memCount c 0 (if s.mc.mig.getD c none = some home then 2 else 1)
    (s.extStore q.off bs).memReply q.src stOk 0 []

/-- The read of a line by its first outcome: what stays in flight, and the state (R310, R311). -/
def State.memRead (s : State) (q : MemReq) : Option MemReq × State :=
  let (c, _, r, _) := s.lineAt q.off
  let s := s.memCount c 1 0
  if s.poisoned q.off 1 then (some { q with group := some ((failingGroups q.first).headD 0) }, s)
  else match failingGroups q.first with
    | [] => (none, s.memGood q)
    | [_] => (none, (((s.memCount c 0 1).incF Reg.MEM_CE c).migOnCe c r).memGood q)
    | g :: _ => (some { q with group := some g }, s)

/-- A request served: what stays of it in flight, and the state. -/
def State.memServe (s : State) (q : MemReq) : Option MemReq × State :=
  if q.first = .stalled then (some q, s)
  else match q.write with
    | some b => if b.length = 64 || s.poisoned q.off 1 then (none, s.memGood q) else s.memRead q
    | none => s.memRead q

/-- An offset lies in the MAILBOX region. -/
def State.inMailbox (s : State) (off : Nat) : Bool := decide (s.rgnBase 4 ≤ off) && decide (off < s.rgnBase 4 + s.rgnSize 4)

/-- An older request `e` in flight holds `q` back: one of the same source, a part of the same line between its read and its write, or, in the mailbox, an accepted write of the line that `q` reads (R307, R308). -/
def State.memBehind (s : State) (q e : MemReq) : Bool :=
  e.src == q.src || e.inRmw q.off || (q.write.isNone && e.write.isSome && e.off / 64 == q.off / 64 && s.inMailbox q.off)

/-- A request in flight that can be served: not stalled, not waiting for its re-read, and no older one holds it back. -/
def State.memServable (s : State) (i : Nat) : Bool :=
  match s.mc.flight[i]? with
  | none => false
  | some q => q.first != .stalled && q.group.isNone && !(s.mc.flight.take i).any (s.memBehind q)

/-- The requests in flight that nothing holds back any longer served, oldest first. -/
def State.memSettle (s : State) : Nat → State
  | 0 => s
  | k + 1 =>
    match findIdxBelow s.memServable s.mc.flight.length with
    | none => s
    | some i =>
      match s.mc.flight[i]? with
      | none => s
      | some q =>
        let (stay, t) := s.memServe q
        (t.updMc (fun (m : Mc) => { m with flight := m.flight.take i ++ stay.toList ++ m.flight.drop (i + 1) })).memSettle k

/-- A request accepted. -/
def State.memAccept (s : State) (q : MemReq) : State :=
  let q := { q with accepted := s.tick }
  if s.mc.flight.any (s.memBehind q) then s.updMc (fun (m : Mc) => { m with flight := m.flight ++ [q] })
  else
    let (stay, t) := s.memServe q
    t.updMc (fun (m : Mc) => { m with flight := m.flight ++ stay.toList })

/-- A request waiting for credit can be accepted: its channel has credit, and none of its source waits before it. -/
def State.memGrantable (s : State) (i : Nat) : Bool :=
  match s.mc.queue[i]? with
  | none => false
  | some q => s.memCredit (s.chanOf q.off).1 && !(s.mc.queue.take i).any (fun e => e.src == q.src)

/-- The waiting request that is accepted next: the lowest class, and round robin by source within it (R306). -/
def State.memPick (s : State) : Option Nat :=
  let key (i : Nat) : Nat := match s.mc.queue[i]? with
    | none => 0
    | some q => memClass q.src * 32 + (q.src + 31 - s.mc.turn.getD (memClass q.src - 1) 0) % 32
  ((List.range s.mc.queue.length).filter s.memGrantable).foldl (fun (best : Option Nat) i =>
    match best with
    | none => some i
    | some b => if key i < key b then some i else some b) none

/-- Waiting requests accepted while there is credit. -/
def State.memPump (s : State) : Nat → State
  | 0 => s
  | k + 1 =>
    match s.memPick with
    | none => s
    | some i =>
      match s.mc.queue[i]? with
      | none => s
      | some q =>
        ((s.updMc (fun (m : Mc) => { m with queue := m.queue.eraseIdx i, turn := vset m.turn (memClass q.src - 1) q.src })).memAccept q).memPump k

/-- What follows when a request has left the controller or credit has come back. -/
def State.memGoOn (s : State) : State :=
  let s := s.memSettle s.mc.flight.length
  (s.memPump s.mc.queue.length).freqSleep

/-- A request of a source: accepted with credit, else waiting for it; the ring writer does not wait (R20, R21, R309). -/
def State.memAsk (s : State) (q : MemReq) : State :=
  if s.memCredit (s.chanOf q.off).1 && !s.mc.queue.any (fun e => e.src == q.src) then s.memAccept q
  else if q.src = 0 then s
  else s.updMc (fun (m : Mc) => { m with queue := m.queue ++ [q] })

/-- MEM_REQUEST (R303, R306 to R311): source `src` reads the line of an external offset, or writes bytes within it. Beyond the trained space it ends with a bus error. -/
def execMemRequest (src : Fin 20) (a : BitVec 38) (w : Option (List Byte)) (first : FirstRead) (s : State) : Out :=
  let off := a.toNat
  .next (if !s.runs 2 then s
    else if s.spaceBytes ≤ off then s.memReply src.val stInvalid 0 []
    else match w.map (fun b => b.take (64 - off % 64)) with
      | some [] => s.memReply src.val stOk 0 []
      | bs => s.memAsk ⟨src.val, off, bs, first, none, s.tick⟩)

/-- The error word of MEM_ERR_INFO. -/
def errWord (c sub rank src group : Nat) : Nat := c + 2 * sub + 4 * rank + 16 * src + 512 * group

/-- The DATA bytes of a MEM_UE or MEM_REREAD entry (R451). -/
def State.ueData (s : State) (q : MemReq) : List Byte :=
  let (c, sub, r, _) := s.lineAt q.off
  leBytes 6 (q.off / 64 * 64) ++ zeros 2 ++ leBytes 2 (errWord c sub r q.src (q.group.getD 0))

/-- The capture of an uncorrectable error (R312). -/
def State.ueCapture (s : State) (q : MemReq) : State :=
  let (c, sub, r, _) := s.lineAt q.off
  let o := q.off / 64 * 64
  if s.on Reg.MEM_ERR_STATUS_UE then s.setF Reg.MEM_ERR_STATUS_MULTI 1
  else
    let s := ((s.setF Reg.MEM_ERR_STATUS_UE 1).setF Reg.MEM_ERR_ADR_LO o).setF Reg.MEM_ERR_ADR_HI (o / 2 ^ 32)
    let s := ((s.setF Reg.MEM_ERR_INFO_CH c).setF Reg.MEM_ERR_INFO_SUB sub).setF Reg.MEM_ERR_INFO_RANK r
    (s.setF Reg.MEM_ERR_INFO_SOURCE q.src).setF Reg.MEM_ERR_INFO_GROUP (q.group.getD 0)

/-- An uncorrectable re-read (R311, R312, R317): the line is poisoned and captured, its entry logged, vector 0 signalled even when the entry meets the rate limit. -/
def State.memUe (s : State) (q : MemReq) : State :=
  let (c, _, r, _) := s.lineAt q.off
  let dat := s.ueData q
  let s := ((s.memCount c 0 1).ueCapture q).incF Reg.MEM_UE c
  let s := s.updMc (fun (m : Mc) => { m with poison := m.poison ++ [q.off / 64] })
  let s := if s.logLimited 0x0200 (rowOf 0x90000) then s.signal 0 else s
  ((s.logEvt sevFault 0x0200 (rowOf 0x90000) dat).migOnUe c r).memReply q.src stDataError 2 []

/-- The outcome of a re-read (R311, R318): poison found, clean or corrected data, good data of the migrating rank after a failed read of the spare, or an uncorrectable error. -/
def State.memReread (s : State) (q : MemReq) (good fallback : Bool) : State :=
  let (c, _, r, home) := s.lineAt q.off
  let s := s.memCount c 1 0
  if s.poisoned q.off 1 then (s.incF Reg.MEM_POISON_RD c).memReply q.src stDataError 2 []
  else if good then (((s.memCount c 0 1).incF Reg.MEM_REREAD_OK c).logEvt sevWarning 0x0201 (rowOf 0x90000) (s.ueData q)).memGood q
  else if fallback && r != home then (s.memCount c 1 1).memGood q
  else s.memUe q

/-- MEM_REREAD_DONE (R311, R318): the re-read of the oldest failed line of a source ends, clean or corrected when `good`; `fallback` tells that the migrating rank still holds good data when the read came from the spare. -/
def execMemRereadDone (src : Fin 20) (good fallback : Bool) (s : State) : Out :=
  match s.mc.flight.find? (fun q => q.src == src.val && q.group.isSome) with
  | none => .next s
  | some q =>
    .next (if !s.runs 2 then s
      else ((s.updMc (fun (m : Mc) => { m with flight := m.flight.erase q })).memReread q good fallback).memGoOn)

/-! ### Scrub (R313) -/

/-- The sweep can go on at the line of an offset: it is the next one, its channel's last read lies 64 MiB/s back, and a new sweep waits until HOURS have passed since the last began. -/
def State.scrubDue (s : State) (off : Nat) : Bool :=
  let ago (t n : Nat) : Bool := decide (t + n ≤ s.tick)
  s.runs 2 && s.on Reg.MEM_SCRUB && decide (off < s.spaceBytes) && off / 64 == s.mc.scrubAt &&
    (s.mc.scrubLast.getD (s.chanOf off).1 none).all (fun t => ago t 191) &&
    (!s.mc.scrubRests || ago s.mc.scrubFrom (ticksS (s.fld Reg.MEM_SCRUB * 3600)))

/-- SCRUB (R313): the background scrub reads the next line of its sweep. -/
def execScrub (a : BitVec 38) (first : FirstRead) (s : State) : Out :=
  let off := a.toNat
  let c := (s.chanOf off).1
  if !s.scrubDue off || !s.memCredit c || s.mc.queue.any (fun e => e.src == 19) then .next s
  else
    let last := decide (s.spaceBytes ≤ off / 64 * 64 + 64)
    let s := s.updMc (fun (m : Mc) =>
      { m with scrubAt := if last then 0 else m.scrubAt + 1, scrubFrom := if m.scrubAt = 0 then s.tick else m.scrubFrom, scrubRests := last,
               scrubLast := vset m.scrubLast c (some s.tick) })
    .next (s.memAccept ⟨19, off / 64 * 64, none, first, none, s.tick⟩)

/-! ### Self-refresh, frequency and training (R320 to R322) -/

/-- Entry into WATCH: every rank put into self-refresh. -/
def State.memSleep (s : State) : State := s.selfRefresh

/-- Self-refresh left; a frequency change that WATCH interrupted stays in it. -/
def State.memWake (s : State) : State := (s.updMc (fun (m : Mc) => { m with selfRef := m.freq.isSome })).memGoOn

/-- What refuses a frequency change (R321). -/
def State.freqRefused (s : State) : Bool := s.ringRuns || s.panelOn || s.mc.mig.any (·.isSome)

/-- MEM_FREQ_CTL.GO: a change begins and credit is withheld, or it is refused with ERR. -/
def State.freqGo (s : State) : State :=
  if s.freqRefused then s.setF Reg.MEM_FREQ_CTL_ERR 1
  else (s.updMc (fun (m : Mc) => { m with freq := some (s.fld Reg.MEM_FREQ_CTL_TARGET) })).freqSleep

/-- FREQ_CHANGE_DONE (R321): self-refresh is left, CUR shows the target, the timing sets exchange roles, a speed without trained values has been trained, and credit is back. -/
def execFreqChangeDone (s : State) : Out :=
  match s.mc.freq with
  | none => .next s
  | some t =>
    if !s.mc.selfRef || !s.runs 2 then .next s
    else
      let sp := s.mc.record.speeds
      let s := s.recPut (fun (m : MemRecord) => { m with speeds := if sp.contains t then sp else sp ++ [t] })
      .next (((s.updMc (fun (m : Mc) => { m with freq := none, setB := !m.setB, speed := t, selfRef := false })).setF Reg.MEM_FREQ_CTL_CUR t).memGoOn)

/-- A channel's trained ranks put in place: the spare out of the space, or in the place of a retired rank; at most 64 GiB (R301, R316, R318). -/
def State.trainCh (s : State) (c : Nat) (t : Option RankSet) : State :=
  match t with
  | none =>
    (s.updMc (fun (m : Mc) => { m with mib := vset m.mib c 0, order := vset m.order c [], spare := vset m.spare c none })).setF
      Reg.MEM_CH_STATUS_RANKS 0 c
  | some x =>
    let gone := s.mc.record.retired.getD c none
    let rs := (List.range 4).filter (fun r => x.mask.getLsbD r)
    let sp := match gone with
      | some g => (rs.filter (· != g)).getLast?
      | none => if s.on Reg.MEM_CH_CFG_SPARE c && decide (2 ≤ rs.length) then rs.getLast? else none
    -- the retired rank's place is the spare's, whether that rank still trains or not
    let base := ((List.range 4).filter (fun r => (rs.contains r || gone == some r) && some r != sp)).filterMap (fun r => if gone = some r then sp else some r)
    let s := s.updMc (fun (m : Mc) => { m with mib := vset m.mib c x.mib, order := vset m.order c (base.take (65536 / x.mib)), spare := vset m.spare c sp })
    let s := s.setF Reg.MEM_CH_STATUS_RANKS x.mask.toNat c
    match gone with
    | some g => (s.setF Reg.MEM_CH_STATUS_SPARE_USED 1 c).setF Reg.MEM_CH_STATUS_RETIRED (2 ^ g) c
    | none => s

/-- The channels trained at speed `sp`, and the space that follows (R301, R320, R322); the scrub starts over. Channels are alike when they add equal ranks in equal number. -/
def State.memTrain (s : State) (t0 t1 : Option RankSet) (sp : Nat) : State :=
  let s := (s.trainCh 0 t0).trainCh 1 t1
  let n (c : Nat) : Nat := (s.mc.order.getD c []).length
  let alike := s.mc.mib.getD 0 0 == s.mc.mib.getD 1 0 && n 0 == n 1
  let s := s.setF Reg.MEM_STATUS_TRAINED (b2n t0.isSome + 2 * b2n t1.isSome)
  let s := s.setB Reg.MEM_STATUS_INTLV (t0.isSome && t1.isSome && alike && s.on Reg.MEM_CFG_INTLV)
  let s := s.setF Reg.MEM_SIZE ((s.chBytes 0 + s.chBytes 1) / 0x100000)
  let s := (List.range 2).foldl (fun (s : State) c => s.setB Reg.MEM_CH_STATUS_MIG (s.mc.mig.getD c none).isSome c) s
  let sps := s.mc.record.speeds
  let s := s.recPut (fun (m : MemRecord) => { m with sets := #v[t0, t1], speeds := if sps.contains sp then sps else sps ++ [sp] })
  ((s.updMc (fun (m : Mc) => { m with selfRef := false, freq := none, speed := sp, scrubAt := 0, scrubRests := false,
                                      scrubLast := #v[none, none] })).setF Reg.MEM_FREQ_CTL_CUR sp).memGoOn

/-- A cold reset or STANDBY: contents are lost, a migration's rank stays retired, and the records that MEM_SPARE_CLR named go (R318, R319). -/
def State.memCold (s : State) : State :=
  let r := s.mc.record
  let pick (c : Nat) : Option Nat :=
    if r.clear.getD c false then none else (r.retired.getD c none).or (r.migrating.getD c none)
  { s with mc := { Mc.reset with replies := s.mc.replies,
                                 record := { r with retired := #v[pick 0, pick 1], migrating := #v[none, none], clear := #v[false, false] } },
           mem := { s.mem with ext := [] } }

/-- A request in flight drained before a warm reset; how a re-read not yet ended goes is a free choice. -/
def State.memFinish (s : State) (q : MemReq) : State :=
  let (v, s) := s.freeVal 1
  if q.group.isSome then s.memReread q (v == 1) false
  else match s.memServe { q with first := if q.first = .stalled then .errors [] else q.first } with
    | (some r, t) => t.memReread r (v == 1) false
    | (none, t) => t

/-- Every request in flight drained, oldest first (R320). -/
def State.memDrain (s : State) : State := s.mc.flight.foldl State.memFinish (s.updMc (fun (m : Mc) => { m with flight := [], queue := [] }))

/-- A warm reset: contents, poison and records stay in self-refresh; a migration restarts its copy from line 0 (R318, R320). -/
def State.memWarm (s : State) : State :=
  { s with mc := { Mc.reset with replies := s.mc.replies, poison := s.mc.poison, record := s.mc.record, selfRef := true, speed := s.mc.speed,
                                 mig := s.mc.record.migrating } }

end Sys2Proof.Machine
end

