-- ==== Sys2Proof/Machine/Patrol.lean ====
section
/-! DEFINITION. The patrol link, the telegram buffer and the trip outputs (R402 to R412, R474). -/

namespace Sys2Proof.Machine

/-! ### Contributors and conditions (R407 to R409) -/

/-- A change of the patrol state. -/
def State.updPat (s : State) (f : Pat → Pat) : State := { s with pat := f s.pat }

/-- A DEGRADED condition holds (R408). -/
def State.degraded (s : State) : Bool :=
  s.src.codes.any (· != 0) || s.on Reg.PWR_STATUS_REF_LOST || s.loaderPers ||
  (s.on Reg.PAT_DEG_MASK_MEM && s.on Reg.MEM_STATUS_DEGRADED) ||
  (s.on Reg.PAT_DEG_MASK_SPARE && (s.on Reg.MEM_CH_STATUS_SPARE_USED 0 || s.on Reg.MEM_CH_STATUS_SPARE_USED 1)) ||
  (s.on Reg.PAT_DEG_MASK_NOACQ && decide (s.pstate = stRun) && !s.acqRuns)

/-- The state is WATCH. -/
def State.inWatch (s : State) : Bool := s.pstate == stWatch

/-- The command slot (R407). -/
def State.cmdSlot (s : State) : TgSlot := ⟨s.fld64 Reg.PAT_TG_ZONE_LO Reg.PAT_TG_ZONE_HI, s.fld Reg.PAT_TG_ALARM⟩

/-- The live contributors (R407). -/
def State.liveSlots (s : State) : List TgSlot :=
  if s.inWatch then [s.pat.cairn]
  else
    s.cmdSlot :: (if s.loaderPers then [] else
      (s.pat.ridge.toList.zipIdx.filter (fun x => s.on Reg.RDG_TG_CTL_EN x.2)).map (·.1))

/-- ZONE of the telegram. -/
def State.tgZone (s : State) : Nat := s.liveSlots.foldl (fun z x => z ||| x.zone) 0

/-- The alarm level (R408). -/
def State.tgAlarm (s : State) : Nat :=
  max ((s.liveSlots.map (fun x => min 13 x.alarm)).foldl max 0) (max (b2n s.inWatch) (if s.degraded then 14 else 0))

/-- AGE in ms (R405, R410). -/
def State.tgAge (s : State) : Nat :=
  match s.pat.refreshed with
  | none => 65535
  | some t => min 65535 ((s.tick - t) / ticksMs 1)

/-! ### Trip outputs (R411, R412) -/

/-- An enabled hardware condition of trip output `t` holds, under the given event levels. -/
def State.tripCond (s : State) (lv : Nat → Bool) (t : Nat) : Bool :=
  (s.on Reg.PAT_TRIP_CFG_EVT_EN t && lv (s.fld Reg.PAT_TRIP_CFG_EVT t)) || (s.on Reg.PAT_TRIP_CFG_DEG t && s.degraded) ||
  (s.on Reg.PAT_TRIP_CFG_STALE t && s.pat.stale)

/-- The level of trip output `t`. -/
def State.tripOut (s : State) (t : Nat) : Bool :=
  s.pat.hold || (s.fld Reg.PAT_TRIP_STATUS_SW).testBit t || (s.fld Reg.PAT_TRIP_STATUS_LATCHED).testBit t ||
  s.tripCond (fun e => s.evtPrev.testBit e) t

/-- LATCHED of output `t` set while a condition holds and LATCH = 1. -/
def State.tripLatch (s : State) (lv : Nat → Bool) (t : Nat) : State :=
  if s.on Reg.PAT_TRIP_CFG_LATCH t && s.tripCond lv t then s.orF Reg.PAT_TRIP_STATUS_LATCHED (2 ^ t) else s

/-- The latches after a snapshot: part of the idle step. -/
def State.tripTick (s : State) : State := (List.range 2).foldl (fun (s : State) t => s.tripLatch (fun e => s.evtPrev.testBit e) t) s

/-- TRIP_CONDITION (R411): a hardware condition of output `t` appears or goes. -/
def execTripCondition (t : Fin 2) (s : State) : Out := .next (s.tripLatch s.evtLevel t.val)

/-- A w1c of LATCHED: it succeeds for an output while none of its enabled conditions holds. -/
def State.tripClear (s : State) (m : Nat) : State :=
  (List.range 2).foldl (fun (s : State) t =>
    if m.testBit t && !s.tripCond s.evtLevel t then s.clrF Reg.PAT_TRIP_STATUS_LATCHED (2 ^ t) else s) s

/-- TRIP_LATCH_CLEAR (R411). -/
def execTripLatchClear (m : Fin 4) (s : State) : Out := .next (s.tripClear m.val)

/-- TRIP (R411). -/
def execTrip (h : Fin 256) (s : State) : Out :=
  match s.cmd? h.val 0xE2 with
  | none => .next s
  | some x =>
    .next (if 3 < x.p 0 then s.complete h.val stInvalid 24 0 0
      else (s.setF Reg.PAT_TRIP_STATUS_SW (x.p 0)).complete h.val stOk 0 0 0)

/-! ### The telegram buffer (R409, R410) -/

/-- The refresh source in RUN and LOADER: 0 PAT_TELEGRAM, 1 to 8 a ridge core; 9 to 15 taken as 0. -/
def State.tgSource (s : State) : Nat :=
  let v := s.fld Reg.PAT_CTL_SRC
  if v ≤ 8 then v else 0

/-- The refresh source refreshes the buffer: the alive counter advances, AGE starts again, STALE clears. -/
def State.tgRefresh (s : State) : State :=
  (s.updPat (fun (p : Pat) => { p with refreshed := some s.tick, stale := false })).setF Reg.PAT_STATUS_ALIVE (s.fld Reg.PAT_STATUS_ALIVE + 1)

/-- The telegram port of ridge core `i` commits (R274, R409). -/
def State.tgCommit (s : State) (i : Nat) (x : TgSlot) : State :=
  let s := s.updPat (fun (p : Pat) => { p with ridge := vset p.ridge i x })
  if s.tgSource = i + 1 ∧ !s.inWatch then s.tgRefresh else s

/-- TGRAM commits the cairn slot; it is the refresh source in WATCH (R331, R409). -/
def State.tgCairn (s : State) (x : TgSlot) : State :=
  let s := s.updPat (fun (p : Pat) => { p with cairn := x })
  if s.inWatch then s.tgRefresh else s

/-- WATCH entry clears the command and ridge slots; RUN entry clears the cairn slot (R407). -/
def State.tgEnterWatch (s : State) : State :=
  (((s.updPat (fun (p : Pat) => { p with ridge := Vector.replicate 8 ⟨0, 0⟩ })).setF Reg.PAT_TG_ZONE_LO 0).setF Reg.PAT_TG_ZONE_HI 0).setF
    Reg.PAT_TG_ALARM 0
def State.tgEnterRun (s : State) : State := s.updPat (fun (p : Pat) => { p with cairn := ⟨0, 0⟩ })

/-- PAT_TELEGRAM (R407, R409): it always completes with OK. -/
def execPatTelegram (h : Fin 256) (s : State) : Out :=
  match s.cmd? h.val 0xE1 with
  | none => .next s
  | some x =>
    let s := ((s.setF Reg.PAT_TG_ZONE_LO (x.p 0)).setF Reg.PAT_TG_ZONE_HI (x.p 1)).setF Reg.PAT_TG_ALARM (x.p 2)
    let s := if s.tgSource = 0 ∧ !s.inWatch then s.tgRefresh else s
    .next (s.complete h.val stOk 0 (s.fld Reg.PAT_STATUS_ALIVE) 0)

/-- PAT_CONFIG (R410): the address goes to PAT_CTL and to MRAM, which a brown-out blocks (R41). -/
def execPatConfig (h : Fin 256) (s : State) : Out :=
  match s.cmd? h.val 0xE0 with
  | none => .next s
  | some x =>
    let a := x.p 0
    .next (if a = 0 ∨ 31 < a then s.complete h.val stInvalid 24 0 0
      else
        let s := if s.pw.brownBlock then s else s.updPat (fun (p : Pat) => { p with mramAddr := a })
        (s.setF Reg.PAT_CTL_ADDR a).complete h.val stOk 0 0 0)

/-- STALE set once AGE exceeds STALE_MS (R409): part of the idle step. -/
def State.staleTick (s : State) : State :=
  if max 1 (s.fld Reg.PAT_CTL_STALE_MS) < s.tgAge then s.updPat (fun (p : Pat) => { p with stale := true }) else s

/-- STALE_TIMEOUT (R409): AGE exceeds STALE_MS. -/
def execStaleTimeout (s : State) : Out := .next s.staleTick

/-! ### Poll and reply (R403 to R406) -/

/-- STATE of the reply (R405). -/
def State.tgState (s : State) : Nat :=
  b2n s.acqRuns + 2 * b2n s.inWatch + 4 * b2n s.degraded + 8 * b2n s.pat.stale + 16 * b2n s.loaderPers + 32 * b2n (s.tripOut 0) + 64 * b2n (s.tripOut 1)

/-- The 20 bytes of a reply (R405). -/
def State.reply (s : State) (seq cmd : Byte) : List Byte :=
  withCrc (leBytes 1 (0x80 + s.fld Reg.PAT_CTL_ADDR) ++ [seq, cmd] ++ leBytes 1 s.tgState ++ leBytes 1 s.tgAlarm ++
    leBytes 1 (s.fld Reg.PAT_STATUS_ALIVE) ++ leBytes 8 s.tgZone ++ leBytes 2 s.tgAge)

/-- The replier and its receiver run: CAIRN is out of reset and powered (R410). -/
def State.patAlive (s : State) : Bool := s.islUp 10

/-- A whole poll checked, and answered when it meets every condition of R404. -/
def State.pollDone (s : State) (bs : List Byte) : State :=
  let s := s.updPat (fun (p : Pat) => { p with poll := [] })
  let a := s.fld Reg.PAT_CTL_ADDR
  if field bs 3 1 ≠ crc8 (bs.take 3) then s.incF Reg.PAT_CRC_ERR
  else if field bs 0 1 ≠ a ∨ a = 0 then s.incF Reg.PAT_OTHER
  else if field bs 2 1 ≠ 1 then s.incF Reg.PAT_CMD_ERR
  else
    let s := (s.incF Reg.PAT_POLLS).set64 Reg.PAT_LAST_POLL_LO Reg.PAT_LAST_POLL_HI s.now
    if s.on Reg.PAT_CTL_EN then
      (s.timerStart .reply).updPat (fun (p : Pat) => { p with reply := some (s.reply (bs.getD 1 0) (bs.getD 2 0)) })
    else s

/-- One byte received: the rest of a poll with a framing error goes, and the fourth byte completes a poll. Nothing is heard while the driver is enabled, and what comes between an answered poll and its driver is no poll before the line is idle again (R403, R406). -/
def State.pollByte (s : State) (b : Byte) : State :=
  if s.pat.reply.isSome || s.on Reg.PAT_STATUS_DRIVING then s
  else if s.pat.drop ≠ 0 then s.updPat (fun (p : Pat) => { p with drop := p.drop - 1 })
  else
    let all := s.pat.poll ++ [b]
    if all.length < 4 then s.updPat (fun (p : Pat) => { p with poll := all }) else s.pollDone all

/-- A byte whose stop bit reads 0: it goes, and so does the rest of its poll (R403). -/
def State.pollFraming (s : State) : State :=
  if s.on Reg.PAT_STATUS_DRIVING then s
  else
    let left := if s.pat.drop ≠ 0 then s.pat.drop - 1 else 3 - s.pat.poll.length
    (s.updPat (fun (p : Pat) => { p with poll := [], drop := left })).incF Reg.PAT_FRAME_ERR

/-- PATROL_POLL (R403, R404): bytes received in a row; with `framing`, the last one's stop bit read 0. -/
def execPatrolPoll (bs : List Byte) (framing : Bool) (s : State) : Out :=
  if !s.patAlive then .next s
  else
    let s := s.timerStart .gap
    .next (if framing then ((bs.take (bs.length - 1)).foldl State.pollByte s).pollFraming else bs.foldl State.pollByte s)

/-- The driver of a reply is enabled 1.84 µs after the end of its poll: part of the idle step (R406). -/
def State.replyTick (s : State) : State :=
  if s.pat.reply.isSome && s.timerDue .reply 368 then s.setF Reg.PAT_STATUS_DRIVING 1 else s

/-- REPLY_END (R406): 18.08 µs after the end of the poll the driver is released. -/
def execReplyEnd (s : State) : Out :=
  match s.pat.reply with
  | none => .next s
  | some r => .next (if !s.timerDue .reply 3616 then s else (((s.updPat (fun (p : Pat) => { p with reply := none, sent := p.sent ++ [r] })).setF Reg.PAT_STATUS_DRIVING 0).incF Reg.PAT_REPLIES))

/-- POLL_GAP_TIMEOUT (R403): the line has been idle for longer than 1.6 µs, and a partial poll is discarded. -/
def execPollGapTimeout (s : State) : Out :=
  .next (if s.timerDue .gap 321 then s.updPat (fun (p : Pat) => { p with poll := [], drop := 0 }) else s)

/-- LINE_BREAK (R474): one framing error for the whole break; the next start bit begins a poll. -/
def execLineBreak (s : State) : Out :=
  if !s.patAlive || s.on Reg.PAT_STATUS_DRIVING then .next s
  else .next ((s.updPat (fun (p : Pat) => { p with poll := [], drop := 0 })).incF Reg.PAT_FRAME_ERR)

end Sys2Proof.Machine
end

