-- ==== Sys2Proof/Machine/Wake.lean ====
section
/-! DEFINITION. The request of the watch side for RUN (R334, R336). -/

namespace Sys2Proof.Machine

/-- The way from WATCH to RUN begins: PEWAKE_L is driven low and the link retrains, unless the part stands alone or the host has retrained it (R57, R58, R337). -/
def State.toRunBegin (s : State) (hs : List Nat) (cairn : Bool) : State :=
  let down := !s.pw.standalone && !s.pw.linkUp
  { s.timerStart .pewake with pw := { s.pw with trans := some ⟨1, 2, hs, cairn⟩, pewake := down, linkTraining := down } }

/-- The last wake source kept in VBT_RET[0] [5:1], coded as in PWR_WAKE_SRC (R341; log entry 280). -/
def State.keepSource (s : State) (src : Nat) : State :=
  { s with vb := { s.vb with ret := vmod s.vb.ret 0 (fun v => v % 2 + 2 * (src % 32)) } }

/-- A wake reason of the cairn (R336): in WATCH with no transition under way it starts WATCH to RUN; the first reason stands, and one that meets the way to STANDBY is dropped, and STATE shows STOPPING (R337). -/
def State.wakeRun (s : State) (reason : Nat) : State :=
  if s.pstate == stWatch && s.pw.trans.isNone then
    (((s.toRunBegin [] true).setF Reg.CRN_WAKE_REASON reason).setF Reg.PWR_WAKE_SRC_CAIRN_RULE 1).keepSource 16
  else if s.pstate == stWatch && s.pw.trans.any (fun t => t.dst != 2) then s.showState stStopping
  else s

end Sys2Proof.Machine
end

