-- ==== Sys2Proof/Machine/Vbat.lean ====
section
/-! DEFINITION. The VBAT domain: the RTC, the wake inputs, the tamper latch, the retention registers, and their mirror in CAIRN (R338 to R344). -/

namespace Sys2Proof.Machine

/-- A change of the VBAT domain. -/
def State.updVb (s : State) (f : Vbat → Vbat) : State := { s with vb := f s.vb }

/-- CAIRN is clocked: not in STANDBY, not held in reset. -/
def State.cairnAlive (s : State) : Bool := s.islUp 10

/-- The offset of a VBT register awaits commit. -/
def State.vbtPends (s : State) (off : Nat) : Bool := s.vb.writes.any (fun w => w.1 == off)

/-- VBT_COMMIT from the writes that wait. -/
def State.vbtShow (s : State) : State :=
  (s.setB Reg.VBT_COMMIT_PENDING (!s.vb.writes.isEmpty)).setF Reg.VBT_COMMIT_QUEUED s.vb.writes.length

/-- VBT_WAKE_CFG as its word, into the fields of the mirror. -/
def State.mirrorCfg (s : State) (v : Nat) : State :=
  let s := ((s.setF Reg.VBT_WAKE_CFG_EN v).setF Reg.VBT_WAKE_CFG_THR0 (v / 16)).setF Reg.VBT_WAKE_CFG_THR1 (v / 64)
  (s.setF Reg.VBT_WAKE_CFG_POL0 (v / 256)).setF Reg.VBT_WAKE_CFG_POL1 (v / 512)

/-- The mirror shows the written value of the register at an offset (R344). -/
def State.mirrorPut (s : State) (off v : Nat) : State :=
  if off = 0xF0200 then s.set64 Reg.VBT_RTC_LO Reg.VBT_RTC_HI v
  else if off = 0xF0208 then s.set64 Reg.VBT_ALARM_LO Reg.VBT_ALARM_HI v
  else if off = 0xF0210 then s.mirrorCfg v
  else if off = 0xF0214 then (s.clrF Reg.VBT_WAKE_ST_RTC (v % 2)).clrF Reg.VBT_WAKE_ST_TAMPER (v / 2 % 2)
  else s.setF Reg.VBT_RET v ((off - 0xF0240) / 4)

/-- A write of a VBT register accepted by the mirror, or dropped when 4 wait (R344): the CAIRN bit of GLB_XING_OVERRUN, and OVERRUN. -/
def State.vbtWrite (s : State) (ini : Initiator) (off v : Nat) : State :=
  if 4 ≤ s.vb.writes.length then (s.orF Reg.GLB_XING_OVERRUN (2 ^ islandOf off)).regErr errOverrun ini off true
  else ((s.updVb (fun (b : Vbat) => { b with writes := b.writes ++ [(off, v)] })).mirrorPut off v).vbtShow

/-- A write committed to the VBAT island. -/
def Vbat.commit (b : Vbat) (off v : Nat) : Vbat :=
  if off = 0xF0200 then { b with rtc := v % 2 ^ 48, matched := false }
  else if off = 0xF0208 then { b with alarm := v % 2 ^ 48, matched := false }
  else if off = 0xF0210 then { b with cfg := v % 1024 }
  else if off = 0xF0214 then { b with stRtc := b.stRtc && !v.testBit 0, stTamper := b.stTamper && !v.testBit 1 }
  else { b with ret := vset b.ret ((off - 0xF0240) / 4) (v % 2 ^ 32) }

/-- VBT_COMMIT (R344): the oldest write that waits. -/
def execVbtCommit (s : State) : Out :=
  match s.vb.writes with
  | [] => .next s
  | (off, v) :: ws => .next (s.updVb (fun (b : Vbat) => { (b.commit off v) with writes := ws })).vbtShow

/-- Every VBT register copied into the mirror, but for those that await commit. -/
def State.mirrorCopy (s : State) : State :=
  let b := s.vb
  let put (off v : Nat) (s : State) : State := if s.vbtPends off then s else s.mirrorPut off v
  let s := put 0xF0210 b.cfg (put 0xF0208 b.alarm (put 0xF0200 b.rtc s))
  let s := if s.vbtPends 0xF0214 then s else (s.setB Reg.VBT_WAKE_ST_RTC b.stRtc).setB Reg.VBT_WAKE_ST_TAMPER b.stTamper
  let s := s.set64 Reg.VBT_TAMPER_TIME_LO Reg.VBT_TAMPER_TIME_HI b.tamperTime
  (List.range 16).foldl (fun (s : State) n => put (0xF0240 + 4 * n) (b.ret.getD n 0) s) s

/-! ### Waking STANDBY (R57, R59, R338 to R340) -/

/-- PWR_WAKE_SRC of the wake sources latched, by bit. -/
def State.showWake (s : State) : State :=
  let m := s.pw.wakeLatch
  let put (n : Nat) (F : Field) (s : State) : State := if m.testBit n then s.setF F 1 else s
  let s := put 3 Reg.PWR_WAKE_SRC_TAMPER (put 2 Reg.PWR_WAKE_SRC_WAKE1 (put 1 Reg.PWR_WAKE_SRC_WAKE0 (put 0 Reg.PWR_WAKE_SRC_RTC s)))
  { s with pw := { s.pw with wakeLatch := 0 } }

/-- The part is entering STANDBY, in it, or on its way out to WATCH. -/
def State.nearStandby (s : State) : Bool := s.pw.standby || s.pw.toWatch || s.pw.trans.any (fun t => t.dst == 3)

/-- A wake source, by its bit of PWR_WAKE_SRC: it is latched while STANDBY holds, is entered or is left (R59). Elsewhere it takes no power action. -/
def State.wakeEvent (s : State) (src : Nat) : State :=
  if s.nearStandby then { s with pw := { s.pw with wakeLatch := s.pw.wakeLatch ||| 2 ^ src } } else s

/-- The RTC equals the alarm, which acts once for each match: it wakes STANDBY when RTC_EN is 1, else it sets VBT_WAKE_ST.RTC (R338). -/
def State.alarmCheck (s : State) : State :=
  if s.vb.rtc != s.vb.alarm || s.vb.matched then s
  else
    let s := s.updVb (fun (b : Vbat) => { b with matched := true })
    if s.pw.standby && s.vb.cfg.testBit 0 then s.wakeEvent 0 else s.updVb (fun (b : Vbat) => { b with stRtc := true })

/-- RTC_ALARM (R338). -/
def execRtcAlarm (s : State) : Out := .next s.alarmCheck

/-- Whole ticks in a period of the 32.768 kHz crystal (R338). -/
def crystalTicks : Nat := 6103

/-- VBT_MIRROR_COPY (R338, R344): a crystal period passes; the RTC counts it and is compared with the alarm, and a clocked CAIRN takes a new copy. -/
def execVbtMirrorCopy (s : State) : Out :=
  if !s.timerDue .mirror crystalTicks then .next s
  else
    let s := ((s.timerStart .mirror).updVb (fun (b : Vbat) => { b with rtc := (b.rtc + 1) % 2 ^ 48, matched := false })).alarmCheck
    .next (if s.cairnAlive then s.mirrorCopy else s)

/-- A filtered level among those of port 24 (R333). -/
def State.wakeLevel (s : State) (bit : Nat) (level : Bool) : State :=
  s.updVb (fun (b : Vbat) => { b with levels := if level then b.levels ||| 2 ^ bit else b.levels - (b.levels &&& 2 ^ bit) })

/-- WAKE_PIN (R339): the filtered state of a wake comparator; an assertion fires once, and a deassertion re-arms the pin. -/
def execWakePin (pin : Fin 2) (level : Bool) (s : State) : Out :=
  let s := s.wakeLevel pin.val level
  let armed := s.vb.armed.getD pin.val false
  let s := s.updVb (fun (b : Vbat) => { b with armed := vset b.armed pin.val (!level) })
  .next (if level && armed && s.vb.cfg.testBit (1 + pin.val) then s.wakeEvent (1 + pin.val) else s)

/-- TAMPER_ASSERT (R340): the filtered state of TAMPER; an assertion sets the latch and its time, and wakes when TAMPER_EN is 1. -/
def execTamperAssert (level : Bool) (s : State) : Out :=
  let was := s.vb.levels.testBit 2
  let s := s.wakeLevel 2 level
  if !level || was then .next s
  else
    let s := s.updVb (fun (b : Vbat) => { b with stTamper := true, tamperTime := b.rtc })
    .next (if s.vb.cfg.testBit 3 then s.wakeEvent 3 else s)

end Sys2Proof.Machine
end

