-- ==== Sys2Proof/Machine/Cairn.lean ====
section
/-! DEFINITION. The watch slice and the cairn sequencer (R324 to R337, R343): the watch record, the zone energies, the instructions, and their decoding. -/

namespace Sys2Proof.Machine

/-- A change of the cairn state. -/
def State.updCrn (s : State) (f : Crn → Crn) : State := { s with crn := f s.crn }

/-! ### The watch record (R324, R325) -/

/-- The 32 bytes of CRN_WREC. -/
def State.wrec (s : State) : List Byte := (List.range 8).flatMap (fun w => leBytes 4 (s.fld Reg.CRN_WREC w))

/-- The watch tone: a tone of lane rate 25 MS/s, that of depth 4. -/
def watchTone (r : List Byte) : Tone :=
  { lane := 0, depth := 4, slot := 0, down := bit (field r 27 1) 0, fKhz := sx 32 (field r 0 4), bKhz := field r 4 4, nc := field r 19 1,
    edge := field r 22 1, ampl := field r 20 2, shifts := field r 23 1 }

/-- The plan of the slice: one tone, D = 1. -/
def watchPlan (r : List Byte) : Plan :=
  { stagger := 0, frameTicks := field r 8 4, window := field r 12 4, winOfs := field r 16 2, lead := field r 24 1, lag := field r 25 1,
    align := false, userRef := false, div := 1, gauge := field r 18 1, alignM := 0, ng := 0, tones := [watchTone r] }

/-- CHAN of a record. -/
def watchChan (r : List Byte) : Nat := field r 26 1

/-- The first rule of R325 that a record breaks, in order of code. -/
def watchBroken (r : List Byte) : Option Nat :=
  let p := watchPlan r
  let t := watchTone r
  let j := watchChan r
  let bad (l : List (Nat × Bool)) : Option Nat := (l.find? (·.2)).map (·.1)
  bad [(0x03, decide (p.frameTicks < 2000 ∨ 200000 < p.frameTicks)),
    (0x05, decide (p.window < 64 ∨ 199600 < p.window ∨ 4095 < p.winOfs)),
    (0x06, decide (p.lead = 0 ∨ 200 < p.lead ∨ p.lag = 0 ∨ 200 < p.lag)),
    (0x0B, decide (j < 8 ∨ 11 < j ∨ 120000 < 2 * (t.fKhz - chanCentreKhz j).natAbs + 25000)),
    (0x0D, decide (20000 < t.bKhz)), (0x0E, decide (t.nc = 0 ∨ 129 < t.nc)), (0x0F, decide (t.ampl = 0 ∨ 4095 < t.ampl)),
    (0x10, decide (8 < t.edge)), (0x11, decide (p.frameTicks < p.winOfs + p.window + t.chirpTicks + 400)),
    (0x12, decide (p.frameTicks < p.lead + t.chirpTicks + p.lag + 20)), (0x15, decide (p.gauge = 0 ∨ p.points t ≤ p.gauge))]

/-- A reserved field of a record is set. -/
def watchReserved (r : List Byte) : Bool :=
  field r 23 1 % 4 != 0 || field r 27 1 / 2 != 0 || field r 28 1 / 16 != 0 || field r 29 3 != 0

/-- What stops a WATCH entry: status, DETAIL and RESULT0 (R325). -/
def State.watchBad (s : State) : Option (Nat × Nat × Nat) :=
  if !s.crn.valid || watchReserved s.wrec then some (stNotReady, 6, 0)
  else (watchBroken s.wrec).map (fun c => (stPlanInvalid, c, planWide))

/-- The chirp on PI and PQ in WATCH, at 1.0 GS/s (R326). -/
def watchDac (r : List Byte) : DacOut :=
  let t := watchTone r
  let b : Int := t.bKhz
  let ns := 40 * t.nc
  let f := code 48 (divRne ((if t.down then 2 * t.fKhz + b else 2 * t.fKhz - b) * 2 ^ 48) 2000000)
  let k := divRne (b * 2 ^ 48) (1000000 * ns)
  .chirp f (code 48 (if t.down then -k else k)) ns (t.edge * ns / 16) t.ampl

/-! ### The watch slice (R326 to R328) -/

/-- ω of the watch tone. -/
def watchOmega (r : List Byte) : Nat :=
  code 32 (divRne (((watchTone r).fKhz - chanCentreKhz (watchChan r)) * 2 ^ 32) 200000)

/-- Watch-channel samples that a frame needs before its window opens: 8 · G, and what the three stages reach back. -/
def watchBack (g : Nat) : Nat := 8 * g + 149

/-- The lane output of a frame from −G on; `x` the watch-channel samples from `watchBack` before the window, `a` the index of its first. -/
def watchLane (r : List Byte) (a : Int) (x : Array (Int × Int)) : Array CSample :=
  let p := watchPlan r
  let t := watchTone r
  let om := watchOmega r
  let back : Int := watchBack p.gauge
  cascade [hbSide 2, hbSide 4, hbSide 5] t.shifts 2 (-(p.gauge : Int)) (p.points t + t.nc - 2) (fun l h =>
    ((List.range (h - l + 1).toNat).map (fun (k : Nat) =>
      let i := l + k
      let z := if i + back < 0 then (0, 0) else x.getD (i + back).toNat (0, 0)
      ncoSample om (a + i) ⟨z.1, z.2, 0⟩)).toArray)

/-- The compressed samples of a frame from −G on (R159 to R162 on polarisation X, D = 1). -/
def watchZ (r : List Byte) (a : Int) (x : Array (Int × Int)) (gain : Nat) : List CSample :=
  let p := watchPlan r
  let t := watchTone r
  compressBranch (genRef t) (watchLane r a x) 1 0 gain (p.points t + p.gauge)

/-- θ of each point of a frame from its compressed samples (R164 to R166). -/
def watchTheta (r : List Byte) (zs : List CSample) : List (Option Nat) :=
  let p := watchPlan r
  let t := watchTone r
  let z := zs.toArray
  (List.range (p.points t)).map (fun i => pointTheta [gaugeProd (z.getD (i + p.gauge) ⟨0, 0, 0⟩) (z.getD i ⟨0, 0, 0⟩)])

/-- Ticks that GATE_D stays open in a frame of the slice (R121, R326). -/
def watchGate (p : Plan) (t : Tone) : Nat := p.lead + t.chirpTicks + p.lag

/-- One tick of the codes of XI and XQ in WATCH: clips, and the DC block with S_t four times their sum (R137, R138, R326). -/
def State.watchTick (s : State) (c : WatchTick) : State :=
  let p := watchPlan s.wrec
  let gate := decide (s.crn.rxTicks % max 1 p.frameTicks < watchGate p (watchTone s.wrec))
  let (a, b) := (s.inverted 0 c.xi, s.inverted 1 c.xq)
  let s := (s.clipTick 0 a).clipTick 1 b
  let sw := s.on Reg.RCV_POL_CFG_IQ_SWAP_X
  let (_, s) := s.dcbTick 0 (if sw then b else a) 4 gate
  let (_, s) := s.dcbTick 1 (if sw then a else b) 4 gate
  { s with rx := { s.rx with sinceClose := if gate then 0 else min 4096 (s.rx.sinceClose + 1) },
           crn := { s.crn with rxTicks := s.crn.rxTicks + 1 } }

/-- A frame of the slice begins in this tick: GATE_D opens, unless it is latched off (R326, R377). -/
def State.watchLaunch (s : State) : State :=
  let p := watchPlan s.wrec
  if s.on Reg.CRN_STATUS_SLICE ∧ s.crn.startTick ≤ s.tick ∧ (s.tick - s.crn.startTick) % max 1 p.frameTicks = 0 ∧ (s.latchedCode 0x10).isNone then
    s.gateOpens 0 (watchGate p (watchTone s.wrec))
  else s

/-- The window of the slice's next frame has closed (R326, R327). -/
def State.watchDue (s : State) : Bool :=
  let p := watchPlan s.wrec
  s.on Reg.CRN_STATUS_SLICE && decide (s.crn.startTick + s.crn.frames * p.frameTicks + p.lead + p.winOfs + p.window ≤ s.tick)

/-- E_z of a zone from the increments (R327). -/
def watchEnergy (d : Array Int) (first count esh : Nat) : Nat :=
  if count = 0 ∨ d.size < first + count then 0
  else min 65535 (((List.range count).map (fun i => (d.getD (first + i) 0 * d.getD (first + i) 0).toNat)).sum / (count * 2 ^ esh))

/-- Words of data memory. -/
def State.dRead (s : State) (a : Nat) : Nat := Store.read 0 s.crn.dmem (a % 4096)
def State.dWrite (s : State) (a v : Nat) : State :=
  s.updCrn (fun (c : Crn) => { c with dmem := Store.write 0 c.dmem (a % 4096) (v % 65536) })

/-- A zone block written to data memory: ZREADY set, and a block not yet taken is missed (R327, R328). -/
def State.zonePut (s : State) (es : List Nat) : State :=
  let late := s.on Reg.CRN_STATUS_ZREADY
  let s := (es.zipIdx).foldl (fun (s : State) e => s.dWrite (3840 + e.2) e.1) s
  let s := (s.incF Reg.CRN_ZFRAME).setF Reg.CRN_STATUS_ZREADY 1
  let s := if late then (s.incF Reg.CRN_ZMISS).updCrn (fun (c : Crn) => { c with missed := c.missed + 1 }) else s
  if s.fld Reg.CRN_STATUS_STATE = 2 then s.setF Reg.CRN_STATUS_STATE 1 else s

/-- WATCH_FRAME (R326 to R328): the slice completes a frame, once its window has closed. Given are the converter codes since those of the frame before, and the watch-channel samples from `watchBack` before the window on: the filter between them has no stated taps (log entry 277). -/
def execWatchFrame (x : WatchIn) (s : State) : Out :=
  if !s.watchDue then .next s
  else
    let s := x.codes.foldl State.watchTick s
    let r := s.wrec
    let p := watchPlan r
    let a : Int := s.crn.frames * p.frameTicks + p.lead + p.winOfs
    let zs := watchZ r a x.x.toArray (s.fld Reg.CRN_WS_CTL_GAIN)
    let th := watchTheta r zs
    let s := (s.addF Reg.CMP_SAT_COUNT (zs.filter (fun c => c.fl != 0)).length).addF Reg.CMP_NULL_COUNT (th.filter (·.isNone)).length
    let prev := s.crn.theta.toArray
    let pts := (List.range th.length).map (fun i => tonePoint (th.getD i none) ((prev[i]?).getD none) 0)
    let d := (pts.map (fun (q : PointSample) => q.delta)).toArray
    let es := (List.range 256).map (fun z => watchEnergy d (s.fld Reg.CRN_ZONE_FIRST z) (s.fld Reg.CRN_ZONE_COUNT z) (s.fld Reg.CRN_WS_CTL_ESH))
    let s := s.updCrn (fun (c : Crn) => { c with frames := c.frames + 1, theta := pts.map (fun (q : PointSample) => some q.phi) })
    .next (s.zonePut es)

/-! ### Registers, flow and halts (R330, R334) -/

/-- Codes of CRN_STATUS.STATE. -/
def crnStopped : Nat := 0
def crnRunning : Nat := 1
def crnWaiting : Nat := 2
def crnHalted : Nat := 3

/-- A register: K0 reads 0. -/
def State.kGet (s : State) (k : Fin 16) : Nat := if k.val = 0 then 0 else (s.crn.k.getD k.val 0).toNat

/-- A register written: K0 ignores it. -/
def State.kPut (s : State) (k : Fin 16) (v : Nat) : State :=
  if k.val = 0 then s else s.updCrn (fun (c : Crn) => { c with k := vset c.k k.val (BitVec.ofNat 16 v) })

/-- The sequencer executes instructions. -/
def State.crnRuns (s : State) : Bool := s.fld Reg.CRN_STATUS_STATE == crnRunning

/-- A halt (R334): its cause, a log entry, and the request for RUN. -/
def State.crnHalt (s : State) (cause : Nat) : State :=
  let pc := s.fld Reg.CRN_PC
  let s := (s.setF Reg.CRN_STATUS_STATE crnHalted).setF Reg.CRN_STATUS_CAUSE cause
  (s.logEvt sevFault 0x0401 (rowOf 0xF0000) (leBytes 1 cause ++ zeros 1 ++ leBytes 2 pc)).wakeRun (if cause = 3 then 0xF1 else 0xF0)

/-- The PC goes to a word; past the loaded program the sequencer halts. -/
def State.crnGo (s : State) (pc : Nat) : State :=
  let s := s.setF Reg.CRN_PC pc
  if s.crn.words ≤ pc then s.crnHalt 2 else s

/-- The next word. -/
def State.crnStep (s : State) : State := s.crnGo (s.fld Reg.CRN_PC + 1)

/-- An instruction's effect and the next word, while the sequencer runs. -/
def State.crnDo (s : State) (f : State → State) : State := if s.crnRuns then (f s).crnStep else s

/-- The sequencer and the slice start at WATCH entry (R330, R326). -/
def State.crnStart (s : State) : State :=
  let s := s.updCrn (fun (c : Crn) => { c with k := Vector.replicate 16 0, z := false, c := false, missed := 0, frames := 0, theta := [], startTick := s.tick + 1, rxTicks := 0, fedTick := s.tick })
  let s := ((s.setF Reg.CRN_STATUS_STATE crnRunning).setF Reg.CRN_STATUS_CAUSE 0).setF Reg.CRN_STATUS_SLICE 1
  ((s.setF Reg.CRN_STATUS_ZREADY 0).setF Reg.CRN_ZFRAME 0).crnGo s.crn.entry

/-- They stop at WATCH exit; a halted sequencer keeps showing its halt. -/
def State.crnStop (s : State) : State :=
  let s := (s.setF Reg.CRN_STATUS_SLICE 0).gateShut 0
  if s.fld Reg.CRN_STATUS_STATE = crnHalted then s else s.setF Reg.CRN_STATUS_STATE crnStopped

/-! ### Instructions (R331 to R333) -/

/-- CRN_NOP (R331). -/
def execCrnNop (s : State) : Out := .next (s.crnDo id)

/-- CRN_ADD (R331). -/
def execCrnAdd (kd ka kb : Fin 16) (s : State) : Out := .next (s.crnDo (fun s => s.kPut kd (s.kGet ka + s.kGet kb)))

/-- CRN_SUB (R331). -/
def execCrnSub (kd ka kb : Fin 16) (s : State) : Out := .next (s.crnDo (fun s => s.kPut kd (wrapSub 16 (s.kGet ka) (s.kGet kb))))

/-- ADDI (R331). -/
def execAddi (kd ka : Fin 16) (imm : BitVec 16) (s : State) : Out := .next (s.crnDo (fun s => s.kPut kd (s.kGet ka + imm.toNat)))

/-- CRN_AND (R331). -/
def execCrnAnd (kd ka kb : Fin 16) (s : State) : Out := .next (s.crnDo (fun s => s.kPut kd (s.kGet ka &&& s.kGet kb)))

/-- CRN_OR (R331). -/
def execCrnOr (kd ka kb : Fin 16) (s : State) : Out := .next (s.crnDo (fun s => s.kPut kd (s.kGet ka ||| s.kGet kb)))

/-- SHR (R331). -/
def execShr (kd ka n : Fin 16) (s : State) : Out := .next (s.crnDo (fun s => s.kPut kd (s.kGet ka / 2 ^ n.val)))

/-- LD (R331). -/
def execLd (kd ka : Fin 16) (imm : BitVec 16) (s : State) : Out := .next (s.crnDo (fun s => s.kPut kd (s.dRead (s.kGet ka + imm.toNat))))

/-- ST (R331). -/
def execSt (kd ka : Fin 16) (imm : BitVec 16) (s : State) : Out := .next (s.crnDo (fun s => s.dWrite (s.kGet ka + imm.toNat) (s.kGet kd)))

/-- CRN_CMP (R331). -/
def execCrnCmp (ka kb : Fin 16) (s : State) : Out :=
  .next (s.crnDo (fun s => s.updCrn (fun (c : Crn) => { c with z := s.kGet ka == s.kGet kb, c := decide (s.kGet kb ≤ s.kGet ka) })))

/-- A branch condition on the flags. -/
def State.crnTaken (s : State) (c : CrnCond) : Bool :=
  match c with
  | .always => true
  | .eq => s.crn.z
  | .ne => !s.crn.z
  | .geu => s.crn.c
  | .ltu => !s.crn.c

/-- CRN_BR (R331). -/
def execCrnBr (cond : CrnCond) (target : BitVec 12) (s : State) : Out :=
  .next (if !s.crnRuns then s else if s.crnTaken cond then s.crnGo target.toNat else s.crnStep)

/-- A step of the filter (R332): y ← y + ((x·2^16 − y) >> n). -/
def iirStep (y x n : Nat) : Nat := code 32 ((y : Int) + Int.fdiv ((x : Int) * 65536 - y) (2 ^ n))

/-- IIR (R332). -/
def execIir (kd ka kb n : Fin 16) (s : State) : Out :=
  .next (s.crnDo (fun s =>
    let a := s.kGet ka
    let y := iirStep (s.dRead a * 65536 + s.dRead (a + 1)) (s.kGet kb) n.val
    ((s.dWrite a (y / 65536)).dWrite (a + 1) y).kPut kd (min 65535 ((32768 + y) / 65536))))

/-- An entry of the rule table at `t` matches the values at `v` (R332): at least NEED of its zones, cut at zone 255, exceed THR. -/
def State.ruleMatches (s : State) (t v : Nat) : Bool :=
  let first := s.dRead t
  let n := min (s.dRead (t + 1)) (256 - first)
  decide (s.dRead (t + 3) ≤ ((List.range n).filter (fun i => decide (s.dRead (t + 2) < s.dRead (v + first + i)))).length)

/-- The 1-based index of the first matching entry, `left` entries still to test; 0 when none matches. -/
def State.ruleScan (s : State) (t v : Nat) : Nat → Nat → Nat
  | 0, _ => 0
  | left + 1, i =>
    if s.dRead t = 0xFFFF then 0
    else if s.ruleMatches t v then i
    else s.ruleScan (t + 4) v left (i + 1)

/-- RULES (R332). -/
def execRules (kd ka kb : Fin 16) (s : State) : Out :=
  .next (s.crnDo (fun s => s.kPut kd (s.ruleScan (s.kGet ka) (s.kGet kb) 64 1)))

/-- WAITF (R331): it takes the waiting block, or waits for one with the PC held. -/
def execWaitf (kd : Fin 16) (s : State) : Out :=
  .next (if !s.crnRuns then s
    else if s.on Reg.CRN_STATUS_ZREADY then
      let m := min 65535 s.crn.missed
      (((s.setF Reg.CRN_STATUS_ZREADY 0).updCrn (fun (c : Crn) => { c with missed := 0, fedTick := s.tick })).kPut kd m).crnStep
    else s.setF Reg.CRN_STATUS_STATE crnWaiting)

/-- An IN port read (R333); an undefined port reads 0. -/
def State.portIn (s : State) (p : Nat) : Nat :=
  if p < 8 then s.fld Reg.SAD_RES_CODE p / 256
  else if p = 8 then
    match s.crn.lastCh with
    | some n =>
      let f := s.fld Reg.SAD_RES_FLAGS_FLAGS n
      b2n (f.testBit 1) + 2 * b2n (f.testBit 3) + 4 * b2n (f.testBit 5)
    | none => 0
  else if 16 ≤ p ∧ p < 24 then s.fld Reg.TIU_IN_COUNT_LO (p - 16) % 65536
  else if p = 24 then s.vb.levels
  else if p = 25 then s.fld64 Reg.VBT_RTC_LO Reg.VBT_RTC_HI / 2 ^ 15 % 65536
  else 0

/-- IN (R333). Port 8 before any read of ports 0 to 7 is a free value (log entry 27). -/
def execCrnIn (kd : Fin 16) (port : BitVec 16) (s : State) : Out :=
  .next (s.crnDo (fun s =>
    let p := port.toNat
    if p = 8 ∧ s.crn.lastCh.isNone then
      let (v, s) := s.freeVal 3
      s.kPut kd v
    else
      let v := s.portIn p
      (if p < 8 then s.updCrn (fun (c : Crn) => { c with lastCh := some p }) else s).kPut kd v))

/-- OUT (R333): port 32 or 33; a write of another port is ILLEGAL. -/
def execCrnOut (kd : Fin 16) (port : BitVec 16) (s : State) : Out :=
  .next (if !s.crnRuns then s
    else if port.toNat = 32 then (s.vbtWrite .cairn 0xF0210 (s.kGet kd)).crnStep
    else if port.toNat = 33 then
      (s.vbtWrite .cairn 0xF0208 ((s.fld64 Reg.VBT_RTC_LO Reg.VBT_RTC_HI + s.kGet kd * 32768) % 2 ^ 48)).crnStep
    else s.crnHalt 1)

/-- TGRAM (R331). -/
def execTgram (ka kb : Fin 16) (s : State) : Out :=
  .next (s.crnDo (fun s =>
    let a := s.kGet ka
    let z := ((List.range 4).map (fun i => s.dRead (a + i) * 2 ^ (16 * i))).sum
    (s.tgCairn ⟨z, s.kGet kb % 16⟩).updCrn (fun (c : Crn) => { c with fedTick := s.tick })))

/-- WAKE (R336): a reason 0x01 to 0xEF; another one is no instruction of R331 and halts as ILLEGAL. -/
def execWake (reason : BitVec 8) (s : State) : Out :=
  .next (if !s.crnRuns then s
    else if reason.toNat = 0 ∨ 0xEF < reason.toNat then s.crnHalt 1
    else (s.wakeRun reason.toNat).crnStep)

/-- STBY (R337): the way to STANDBY starts when VBAT is present and a wake source is enabled; a second request during a transition is dropped. -/
def execStby (s : State) : Out :=
  .next (s.crnDo (fun s =>
    if s.pw.trans.isSome then (if s.pw.trans.any (fun t => t.dst != 3) then s.showState stStopping else s)
    else if s.pw.vbatPresent && s.vb.cfg % 16 != 0 then { s with pw := { s.pw with trans := some ⟨1, 3, [], true⟩ } }
    else s.setF Reg.CRN_STATUS_STBY_REFUSED 1))

/-- No WAITF or TGRAM has completed for CRN_WDOG.MS, where 0 is taken as 1 (R334, R343). -/
def State.crnOverdue (s : State) : Bool :=
  (s.crnRuns || s.fld Reg.CRN_STATUS_STATE == crnWaiting) && decide (s.crn.fedTick + max 1 (s.fld Reg.CRN_WDOG) * 200000 ≤ s.tick)

/-- CRN_WATCHDOG (R334): it acts once it is overdue. -/
def execCrnWatchdog (s : State) : Out := .next (if s.crnOverdue then s.crnHalt 3 else s)

/-! ### The CAIRN part (R335) -/

/-- A part is valid: MAGIC, VERSION, lengths and CRC. -/
def crnPartOk (bs : List Byte) : Bool :=
  let pw := field bs 8 2
  let dw := field bs 10 2
  field bs 0 4 == 0x4E524143 && field bs 4 2 == 1 && decide (field bs 6 2 < 4096) && decide (1 ≤ pw) && decide (pw ≤ 4096) &&
    decide (dw ≤ 3840) && decide (1088 + 4 * pw + 2 * dw ≤ bs.length) && field bs 28 4 == crc32c (bs.take 28 ++ zeros 4 ++ bs.drop 32)

/-- A part loaded: the record, the zones, the program and the data image. -/
def State.crnLoad (s : State) (bs : List Byte) : State :=
  if !crnPartOk bs then s.updCrn (fun (c : Crn) => { c with valid := false })
  else
    let pw := field bs 8 2
    let dw := field bs 10 2
    let prog := (List.range pw).foldl (fun (m : Store Nat) i => Store.write 0 m i (field bs (1088 + 4 * i) 4)) []
    let dm := (List.range dw).foldl (fun (m : Store Nat) i => Store.write 0 m i (field bs (1088 + 4 * pw + 2 * i) 2)) []
    let s := s.updCrn (fun (c : Crn) => { c with valid := true, prog := prog, entry := field bs 6 2, words := pw, dmem := dm })
    let s := (List.range 8).foldl (fun (s : State) w => s.setF Reg.CRN_WREC (field bs (32 + 4 * w) 4) w) s
    (List.range 256).foldl (fun (s : State) z =>
      (s.setF Reg.CRN_ZONE_FIRST (field bs (64 + 4 * z) 2) z).setF Reg.CRN_ZONE_COUNT (field bs (66 + 4 * z) 2) z) s

end Sys2Proof.Machine
end

