-- ==== Sys2Proof/Machine/CairnCode.lean ====
section
/-! DEFINITION. The instruction words of the cairn sequencer (R331), decoded and encoded, and the fetch of the idle step. -/

namespace Sys2Proof.Machine

/-- A four-bit field of a word at a place. -/
def nib (w p : Nat) : Fin 16 := ⟨w / 2 ^ p % 16, Nat.mod_lt _ (by decide)⟩

/-- The conditions of CRN_BR by code (R331). -/
def crnCond (n : Nat) : Option CrnCond :=
  match n with
  | 0 => some .always
  | 1 => some .eq
  | 2 => some .ne
  | 3 => some .geu
  | 4 => some .ltu
  | _ => none

/-- The code of a condition. -/
def condCode : CrnCond → Nat
  | .always => 0
  | .eq => 1
  | .ne => 2
  | .geu => 3
  | .ltu => 4

/-- An R-form instruction: KD, KA, KB, S; the reserved bits [9:0] are 0. -/
def crnR (op : Nat) (kd ka kb n : Fin 16) : Option Instr :=
  match op with
  | 0x01 => some (.crnAdd kd ka kb)
  | 0x02 => some (.crnSub kd ka kb)
  | 0x04 => some (.crnAnd kd ka kb)
  | 0x05 => some (.crnOr kd ka kb)
  | 0x09 => some (.crnCmp ka kb)
  | 0x0B => some (.iir kd ka kb n)
  | 0x0C => some (.rules kd ka kb)
  | 0x10 => some (.tgram ka kb)
  | _ => none

/-- An I-form instruction: KD, KA, IMM; the reserved bits [17:16] are 0. -/
def crnI (op : Nat) (kd ka : Fin 16) (imm : Nat) : Option Instr :=
  match op with
  | 0x03 => some (.addi kd ka (BitVec.ofNat 16 imm))
  | 0x06 => some (.shr kd ka (nib imm 0))
  | 0x07 => some (.ld kd ka (BitVec.ofNat 16 imm))
  | 0x08 => some (.st kd ka (BitVec.ofNat 16 imm))
  | 0x0A => (crnCond kd.val).map (fun c => .crnBr c (BitVec.ofNat 12 imm))
  | 0x0D => some (.waitf kd)
  | 0x0E => some (.crnIn kd (BitVec.ofNat 16 imm))
  | 0x0F => some (.crnOut kd (BitVec.ofNat 16 imm))
  | 0x11 => some (.wake (BitVec.ofNat 8 imm))
  | _ => none

/-- The instruction that a word spells; none for ILLEGAL (R331). -/
def crnDecode (w : Nat) : Option Instr :=
  let op := w / 2 ^ 26 % 64
  let kd := nib w 22
  let ka := nib w 18
  if op = 0x00 then (if w % 2 ^ 26 = 0 then some .crnNop else none)
  else if op = 0x12 then (if w % 2 ^ 26 = 0 then some .stby else none)
  else if w % 2 ^ 10 = 0 ∧ (crnR op kd ka (nib w 14) (nib w 10)).isSome then crnR op kd ka (nib w 14) (nib w 10)
  else if w / 2 ^ 16 % 4 = 0 then crnI op kd ka (w % 2 ^ 16)
  else none

/-- The word of an R-form instruction. -/
def wordR (op kd ka kb n : Nat) : Nat := op * 2 ^ 26 + kd * 2 ^ 22 + ka * 2 ^ 18 + kb * 2 ^ 14 + n * 2 ^ 10

/-- The word of an I-form instruction. -/
def wordI (op kd ka imm : Nat) : Nat := op * 2 ^ 26 + kd * 2 ^ 22 + ka * 2 ^ 18 + imm

/-- The word of a cairn instruction, fields that it does not use 0 (R331); none for another command. -/
def crnEncode (i : Instr) : Option Nat :=
  match i with
  | .crnNop => some 0
  | .crnAdd kd ka kb => some (wordR 0x01 kd ka kb 0)
  | .crnSub kd ka kb => some (wordR 0x02 kd ka kb 0)
  | .addi kd ka imm => some (wordI 0x03 kd ka imm.toNat)
  | .crnAnd kd ka kb => some (wordR 0x04 kd ka kb 0)
  | .crnOr kd ka kb => some (wordR 0x05 kd ka kb 0)
  | .shr kd ka n => some (wordI 0x06 kd ka n.val)
  | .ld kd ka imm => some (wordI 0x07 kd ka imm.toNat)
  | .st kd ka imm => some (wordI 0x08 kd ka imm.toNat)
  | .crnCmp ka kb => some (wordR 0x09 0 ka kb 0)
  | .crnBr c t => some (wordI 0x0A (condCode c) 0 t.toNat)
  | .iir kd ka kb n => some (wordR 0x0B kd ka kb n)
  | .rules kd ka kb => some (wordR 0x0C kd ka kb 0)
  | .waitf kd => some (wordI 0x0D kd 0 0)
  | .crnIn kd p => some (wordI 0x0E kd 0 p.toNat)
  | .crnOut kd p => some (wordI 0x0F kd 0 p.toNat)
  | .tgram ka kb => some (wordR 0x10 0 ka kb 0)
  | .wake r => some (wordI 0x11 0 0 r.toNat)
  | .stby => some (0x12 * 2 ^ 26)
  | _ => none

/-- The fetch of a running sequencer: the instruction at the PC goes to the front of the queue; an ILLEGAL word, or one past the program, halts (R334). -/
def State.crnFetch (s : State) : State :=
  if !s.crnRuns then s
  else
    let pc := s.fld Reg.CRN_PC
    if s.crn.words ≤ pc then s.crnHalt 2
    else match crnDecode (Store.read 0 s.crn.prog pc) with
      | some i => { s with pending := i :: s.pending }
      | none => s.crnHalt 1

end Sys2Proof.Machine
end

