-- ==== Sys2Proof/Machine/RidgeCore.lean ====
section
/-! DEFINITION. The ridge cores: registers and results in flight (R253 to R257), interrupts and exceptions (R269 to R272), DMA (R265 to R268), events and the telegram port (R273, R274), images and the ridge commands (R275 to R278). -/

namespace Sys2Proof.Machine

/-! ### Registers (R253, R254, R264) -/

/-- The physical number of a D name (R264). -/
def Rcore.phys (r : Rcore) (n : Fin 32) : Nat := if n.val < 16 then n.val else 16 + (n.val - 16 + r.rotb) % 16

/-- A D register by physical number. -/
def Rcore.dAt (r : Rcore) (n : Nat) : Nat := if n < 16 then (r.bank.d.getD n 0).toNat else (r.dhi.getD (n - 16) 0).toNat

/-- A D register by name, an accumulator, and a pointer. -/
def Rcore.d (r : Rcore) (n : Fin 32) : Nat := r.dAt (r.phys n)
def Rcore.a (r : Rcore) (n : Fin 8) : Int := if n.val < 4 then (r.bank.a.getD n.val 0).toInt else (r.ahi.getD (n.val - 4) 0).toInt
def Rcore.p (r : Rcore) (n : Fin 8) : Nat := if n.val < 4 then (r.bank.p.getD n.val 0).toNat else (r.phi.getD (n.val - 4) 0).toNat

/-- A loop level. -/
def Rcore.loop (r : Rcore) (n : Nat) : RLoop := if n = 0 then r.bank.l0 else r.l1

/-- A loop level set. -/
def Rcore.putLoop (r : Rcore) (n : Nat) (x : RLoop) : Rcore := if n = 0 then { r with bank := { r.bank with l0 := x } } else { r with l1 := x }

/-- SR as it is read: SHD and LOOP from their states (R254). -/
def Rcore.sr (r : Rcore) : Nat := r.bank.sr + 2 * b2n r.shd + 256 * b2n r.bank.l0.active + 512 * b2n r.l1.active

/-- The bits of SR that hold values: IE, SAT, OVF, Z, N, C, V. -/
def srBits : Nat := 0xFD

/-- A value in a register of the bank in use, or a shared one. -/
def Rcore.putReg (r : Rcore) (x : RDest) (v : Int) : Rcore :=
  match x with
  | .d n => if n < 16 then { r with bank := { r.bank with d := vset r.bank.d n (BitVec.ofInt 32 v) } } else { r with dhi := vset r.dhi (n - 16) (BitVec.ofInt 32 v) }
  | .a n => if n < 4 then { r with bank := { r.bank with a := vset r.bank.a n (BitVec.ofInt 40 v) } } else { r with ahi := vset r.ahi (n - 4) (BitVec.ofInt 40 v) }
  | .p n => if n < 4 then { r with bank := { r.bank with p := vset r.bank.p n (BitVec.ofInt 32 v) } } else { r with phi := vset r.phi (n - 4) (BitVec.ofInt 32 v) }
  | .b n => { r with b := vset r.b n (BitVec.ofInt 32 v) }
  | .l n => { r with l := vset r.l n (BitVec.ofInt 32 v) }
  | .lc n => r.putLoop n { r.loop n with count := code 32 v }
  | .rotb => { r with rotb := code 4 v }
  | .flags => { r with bank := { r.bank with sr := putBits r.bank.sr 7 4 (code 4 v) } }
  | .sr => { r with bank := { r.bank with sr := code 32 v &&& srBits } }
  | .iret => { r with iret := code 32 v }
  | .ien => r
  | .ipend => r

/-! ### Results in flight (R256, R286, R298, R299) -/

/-- R260 for a destination of `w` bits: the value kept, and whether SAT and OVF are set. -/
def fitR (w : Nat) (sat : Bool) (v : Int) : Int × Bool × Bool :=
  if v = satS w v then (v, false, false)
  else if sat then (satS w v, true, false)
  else (sx w (code w v), false, true)

/-- The accumulator that a result names. -/
def Rcore.accAt (r : Rcore) (x : RDest) : Int :=
  match x with
  | .a n => if n < 4 then (r.bank.a.getD n 0).toInt else (r.ahi.getD (n - 4) 0).toInt
  | _ => 0

/-- One result that becomes visible, on the core and the sticky bits gathered so far. -/
def Rcore.land (x : Rcore × Bool × Bool) (w : RWrite) : Rcore × Bool × Bool :=
  let (r, sat, ovf) := x
  match w.acc with
  | none => (r.putReg w.dest w.val, sat || w.sat, ovf || w.ovf)
  | some sb =>
    let (v, st, ov) := fitR 40 sb (r.accAt w.dest + w.val)
    (r.putReg w.dest v, sat || st, ovf || ov)

/-- The results due in cycle `t`: a plain write beats an accumulate of the same cycle, a later issue an earlier one, and the sticky bits land last (R299). -/
def Rcore.settle (r : Rcore) (t : Nat) : Rcore :=
  let due := r.flight.filter (fun w => w.due == t)
  let due := due.filter (fun w => w.acc.isNone || !due.any (fun v => v.acc.isNone && v.dest == w.dest))
  let (q, sat, ovf) := due.foldl Rcore.land ({ r with flight := r.flight.filter (fun w => w.due != t) }, false, false)
  let sr := q.bank.sr ||| (4 * b2n sat + 8 * b2n ovf)
  { q with bank := { q.bank with sr := sr } }

/-- The writes of IEN and IPEND due in cycle `t` reach the control block (R255, R293). -/
def State.rControl (s : State) (c t : Nat) : State :=
  ((s.rc c).flight.filter (fun w => w.due == t)).foldl (fun (s : State) w =>
    match w.dest with
    | .ien => s.setF Reg.RDG_IEN (code 32 w.val) c
    | .ipend => s.clrF Reg.RDG_IPEND (code 32 w.val &&& 0xFE) c
    | _ => s) s

/-- The next issue cycle begins. -/
def State.rTick (s : State) (c : Nat) : State :=
  let t := (s.rc c).t + 1
  (s.rControl c t).updRc c (fun (r : Rcore) => { r.settle t with t := t })

/-- `n` issue cycles. -/
def State.rTicks (s : State) (c : Nat) : Nat → State
  | 0 => s
  | n + 1 => (s.rTick c).rTicks c n

/-- Issue cycles until the last result in flight is visible. -/
def Rcore.depth (r : Rcore) : Nat := (r.flight.map (·.due)).foldl max r.t - r.t

/-- Every operation in flight completes. -/
def State.rDrain (s : State) (c : Nat) : State := s.rTicks c (s.rc c).depth

/-! ### Exceptions (R272) -/

/-- The DMA channels finish their present descriptors and stop. -/
def State.rDmaLast (s : State) (c : Nat) : State :=
  s.updRc c (fun (r : Rcore) => { r with dma := r.dma.map (fun x => { x with last := true }) })

/-- An exception: the bundle at `pc` is cancelled, earlier ones complete, and the core halts. -/
def State.rExcept (s : State) (c cause pc : Nat) (addr : Option Nat) : State :=
  let s := (s.updRc c (fun (r : Rcore) => { r with bundle := RBundle.reset })).rDrain c
  let s := ((s.setF Reg.RDG_STATUS rHalted c).setF Reg.RDG_EXC_CAUSE cause c).setB Reg.RDG_EXC_SHD (s.rc c).shd c
  let s := s.setF Reg.RDG_EXC_PC pc c
  let s := match addr with
    | some a => s.setF Reg.RDG_EXC_ADDR a c
    | none => s
  let s := s.rDmaLast c
  let dat := leBytes 1 c ++ leBytes 1 cause ++ zeros 2 ++ leBytes 4 pc ++ leBytes 4 (addr.getD 0)
  if s.logLimited 0x0400 19 then (s.logEvt sevFault 0x0400 19 dat).signal 0 else s.logEvt sevFault 0x0400 19 dat

/-- The core's next bundle lies at `pc`: a fetch outside instruction memory raises ADDR, an unaligned one ALIGN (R249, R250, R294). -/
def State.rGo (s : State) (c pc : Nat) : State :=
  let s := s.updRc c (fun (r : Rcore) => { r with pc := pc })
  if pc < 0x10000 ∨ 0x20000 ≤ pc then s.rExcept c 2 pc none
  else if pc % 8 ≠ 0 then s.rExcept c 3 pc none
  else s

/-- INTERRUPT_ENTRY (R270): operations in flight complete, the banks change places, and the routine of the first enabled pending source issues next. -/
def execInterruptEntry (c : Fin 8) (s : State) : Out :=
  let k := c.val
  let r := s.rc k
  if !s.rRuns k || r.shd || !r.bank.sr.testBit 0 || r.bundle.begun || r.loopDue then .next s
  else match findIdxBelow (fun n => (s.fld Reg.RDG_IEN k &&& s.fld Reg.RDG_IPEND k).testBit n) 8 with
    | none => .next s
    | some n =>
      let wait := if r.flight.isEmpty then 1 else min 4 (r.depth + 1) + 1
      let s := (s.rDrain k).rCycles k wait
      let s := s.updRc k (fun (r : Rcore) =>
        { r with bank := { r.other with sr := 0, l0 := RLoop.reset }, other := r.bank, shd := true, iret := r.pc, t := r.t + 1 })
      .next (s.rGo k (s.fld Reg.RDG_IVEC k * 512 + 64 * n))

/-- RIDGE_TIMER (R269): the timer counts down to 0 and reloads. -/
def State.rTimer (s : State) (c : Nat) : State :=
  if s.fld Reg.RDG_TIMER c = 0 then s
  else (s.updRc c (fun (r : Rcore) => { r with timer := s.fld Reg.RDG_TIMER c })).rPend c 5

/-- RIDGE_TIMER (R269). -/
def execRidgeTimer (c : Fin 8) (s : State) : Out := .next (if s.rHeld c.val || decide (1 < (s.rc c.val).timer) then s else s.rTimer c.val)

/-- A tick of the timers: part of the idle step. -/
def State.rTimerTick (s : State) : State :=
  (List.range 8).foldl (fun (s : State) c =>
    if s.rHeld c ∨ s.fld Reg.RDG_TIMER c = 0 then s
    else if (s.rc c).timer ≤ 1 then s.rTimer c
    else s.updRc c (fun (r : Rcore) => { r with timer := r.timer - 1 })) s

/-! ### DMA (R265 to R268) -/

/-- A register or field of a channel: instance number. -/
def dmaIx (c ch : Nat) : Nat := c * 4 + ch

/-- A descriptor lies whole in data memory, aligned to 32 bytes. -/
def descOk (a : Nat) : Bool := a % 32 == 0 && decide (0x20000 ≤ a) && decide (a < 0x40000)

/-- A channel takes up a descriptor, behind the requests of the others (R268). -/
def State.dmaTake (s : State) (c ch v : Nat) : State :=
  { s.updRc c (fun (r : Rcore) => { r with dma := vset r.dma ch ⟨v, false⟩ }) with
    red := { s.red with firnReqs := s.red.firnReqs.filter (· != (c, ch)) ++ [(c, ch)] } }

/-- A channel starts at a descriptor, or drops the start while it is busy (R266). -/
def State.dmaGo (s : State) (c ch v : Nat) : State :=
  if s.on Reg.RDG_DMA_STATUS_BUSY (dmaIx c ch) then s.setF Reg.RDG_DMA_STATUS_OVR 1 (dmaIx c ch)
  else (s.dmaTake c ch v).setF Reg.RDG_DMA_STATUS_BUSY 1 (dmaIx c ch)

/-- Bytes of data memory by core address. -/
def State.rGet (s : State) (c a n : Nat) : Nat := (s.rc c).dmem.readLe (a - 0x20000) n
def State.rPut (s : State) (c a : Nat) (bs : List Byte) : State :=
  s.updRc c (fun (r : Rcore) => { r with dmem := r.dmem.writeN (a - 0x20000) bs })

/-- `n` bytes at `a` lie within a space: LOCAL data memory, FIRN, EXT, by number. -/
def State.inSpace (s : State) (sp : Nat) (a : Int) (n : Nat) : Bool :=
  match sp with
  | 0 => decide (0x20000 ≤ a) && decide (a + n ≤ 0x40000)
  | 1 => decide (0 ≤ a) && decide (a + n ≤ 0x800000)
  | 2 => decide (0 ≤ a) && decide (a + n ≤ s.rgnSize 3)
  | _ => false

/-- Bytes of a space, and bytes stored in one. -/
def State.spaceGet (s : State) (c sp : Nat) (a n : Nat) : List Byte :=
  match sp with
  | 0 => (s.rc c).dmem.readN (a - 0x20000) n
  | 1 => s.mem.firn.readN a n
  | _ => s.extGet (s.rgnBase 3 + a) n
def State.spacePut (s : State) (c sp : Nat) (a : Nat) (bs : List Byte) : State :=
  match sp with
  | 0 => s.rPut c a bs
  | 1 => { s with mem := { s.mem with firn := s.mem.firn.writeN a bs } }
  | _ => s.extPut (s.rgnBase 3 + a) bs

/-- A descriptor ends: DONE, its interrupt, and the chain (R265, R266). -/
def State.dmaEnd (s : State) (c ch st bytes : Nat) : State :=
  let x := (s.rc c).dma.getD ch ⟨0, false⟩
  let fl := s.rGet c (x.desc + 14) 2
  let next := s.rGet c (x.desc + 24) 4
  let s := s.rPut c (x.desc + 28) (leBytes 4 (satN 24 bytes + st * 2 ^ 24))
  let s := if fl.testBit 4 then s.rPend c (1 + ch) else s
  if st = stOk ∧ fl.testBit 5 ∧ !x.last ∧ descOk next then
    s.dmaTake c ch next
  else s.setF Reg.RDG_DMA_STATUS_BUSY 0 (dmaIx c ch)

/-- Fields of the descriptor of a channel. -/
structure RDesc where
  src : Nat
  dst : Nat
  len : Nat
  rows : Nat
  flags : Nat
  srcStep : Int
  dstStep : Int
  deriving DecidableEq, Repr

/-- The descriptor at a core address. -/
def State.rDesc (s : State) (c a : Nat) : RDesc :=
  ⟨s.rGet c a 4, s.rGet c (a + 4) 4, s.rGet c (a + 8) 4, s.rGet c (a + 12) 2, s.rGet c (a + 14) 2, sx 32 (s.rGet c (a + 16) 4),
    sx 32 (s.rGet c (a + 20) 4)⟩

/-- Spaces of a descriptor. -/
def RDesc.srcSpace (d : RDesc) : Nat := d.flags % 4
def RDesc.dstSpace (d : RDesc) : Nat := d.flags / 4 % 4

/-- A field of a descriptor out of its range. -/
def RDesc.bad (d : RDesc) : Bool :=
  d.len == 0 || decide (0x100000 < d.len) || d.rows == 0 || d.dstSpace == 3 ||
    (d.srcSpace == 3 && (decide (3 < d.src) || d.rows != 1 || d.dstSpace != 0))

/-- One row moved: the bytes, or the status that ends the descriptor; `bad` when its read meets an uncorrectable error in data memory. -/
def State.dmaRow (s : State) (c : Nat) (d : RDesc) (i : Nat) (bad : Bool) : Except Nat State :=
  let a : Int := d.src + i * d.srcStep
  let b : Int := d.dst + i * d.dstStep
  if !s.inSpace d.srcSpace a d.len || !s.inSpace d.dstSpace b d.len then .error stInvalid
  else if d.dstSpace = 1 ∧ (0x7FFF00 : Int) < b + d.len then .error stInvalid
  else if bad ∨ (d.srcSpace = 2 ∧ s.poisoned (s.rgnBase 3 + a.toNat) d.len) then .error stDataError
  else
    let s := if d.srcSpace = 2 then s.linesRead (s.rgnBase 3 + a.toNat) d.len else s
    .ok (s.spacePut c d.dstSpace b.toNat (s.spaceGet c d.srcSpace a.toNat d.len))

/-- The rows from `i` on, `n` of them: how the descriptor ends, and the rows moved. -/
def State.dmaRows (s : State) (c : Nat) (d : RDesc) (bad : Option Nat) : Nat → Nat → State × Nat × Nat
  | 0, i => (s, stOk, i)
  | n + 1, i =>
    match s.dmaRow c d i (bad == some i) with
    | .error e => (s, e, i)
    | .ok s => s.dmaRows c d bad n (i + 1)

/-- The bytes of a block that starts at a firn offset: header and payload. -/
def State.firnBlock (s : State) (a : Nat) : Nat :=
  let m := s.mem.firn
  let fl := m.readLe (a + 40) 4
  if fl.testBit 2 then 64 + 20 + m.readLe (a + 76) 4 else 64 + m.readLe (a + 32) 4 * m.readLe (a + 36) 4 * kindBytes (m.readLe (a + 6) 2)

/-- A block of a slot goes to the channel whose STREAM descriptor was taken up first (R268). -/
def State.firnTurn (s : State) (c ch slot : Nat) : Bool :=
  (s.red.firnReqs.find? (fun x => s.on Reg.RDG_DMA_STATUS_BUSY (dmaIx x.1 x.2) &&
    (let d := s.rDesc x.1 ((s.rc x.1).dma.getD x.2 ⟨0, false⟩).desc
     d.srcSpace == 3 && d.src == slot))).all (· == (c, ch))

/-- The STREAM descriptor of a channel (R268); none while it waits for a block, or for a channel before it. -/
def State.dmaStream (s : State) (c ch : Nat) (d : RDesc) : Option (State × Nat × Nat) :=
  let rec' := firnRec d.src
  let m := s.mem.firn
  let base := m.readLe (rec' + 8) 4
  let wr := m.readLe (rec' + 16) 4
  let rd := m.readLe (rec' + 20) 4
  if m.readLe (rec' + 6) 2 ≠ 1 then some (s, stNotReady, 0)
  else if rd = wr then (if d.flags.testBit 6 then none else some (s, stOk, 0))
  else if !s.firnTurn c ch d.src then none
  else
    let o := if m.readLe (base + rd) 4 = 0x50494B53 then 0 else rd
    let n := s.firnBlock (base + o)
    if d.len < n then some (s, stNoSpace, 0)
    else if !s.inSpace 0 d.dst n then some (s, stInvalid, 0)
    else
      let s := s.rPut c d.dst (m.readN (base + o) n)
      let rd' := (o + (n + 63) / 64 * 64) % max 1 (m.readLe (rec' + 12) 4)
      some ({ s with mem := { s.mem with firn := s.mem.firn.writeLe (rec' + 20) 4 rd' } }, stOk, n)

/-- A descriptor that moves data from or to external memory. -/
def RDesc.ext (d : RDesc) : Bool := d.srcSpace == 2 || d.dstSpace == 2

/-- DMA_DESCRIPTOR_DONE (R266): the present descriptor of a channel ends, its data moved; its reads of data memory meet the errors of `ecc` (R251). A STREAM read that waits goes on waiting, and so does a transfer while the memory controller gives no credit (R20). -/
def execDmaDescriptorDone (c : Fin 8) (ch : Fin 4) (ecc : DmaEcc) (s : State) : Out :=
  let k := c.val
  if !s.on Reg.RDG_DMA_STATUS_BUSY (dmaIx k ch.val) then .next s
  else
    let d := s.rDesc k ((s.rc k).dma.getD ch.val ⟨0, false⟩).desc
    .next (if d.bad then s.dmaEnd k ch.val stInvalid 0
      else if d.srcSpace = 3 then
        match s.dmaStream k ch.val d with
        | none => s
        | some (s, st, n) => s.dmaEnd k ch.val st n
      else if d.ext && !s.memReady then s
      else
        let s := if d.srcSpace = 0 then s.addF Reg.RDG_ECC ecc.corrected k else s
        let (s, st, n) := s.dmaRows k d ecc.bad d.rows 0
        s.dmaEnd k ch.val st (n * d.len))

/-- The present descriptor of a busy channel ends with ABORTED, and the channel stops (R266). -/
def State.dmaAbort (s : State) (c ch : Nat) : State :=
  if s.on Reg.RDG_DMA_STATUS_BUSY (dmaIx c ch) then s.dmaEnd c ch stAborted 0 else s

/-- DMA_ABORT (R266). -/
def execDmaAbort (c : Fin 8) (ch : Fin 4) (s : State) : Out := .next (if s.rHeld c.val then s else s.dmaAbort c.val ch.val)

/-! ### Telegram port and messages (R273, R274, R278) -/

/-- COMMIT of a core's telegram port, with EN = 1 (R274). -/
def State.tgPort (s : State) (c : Nat) : State :=
  if s.on Reg.RDG_TG_CTL_EN c then
    s.tgCommit c ⟨s.fld64 Reg.RDG_TG_ZONE_LO Reg.RDG_TG_ZONE_HI c, s.fld Reg.RDG_TG_CTL_ALARM c⟩
  else s

/-- The core's slot of the telegram buffer withdrawn. -/
def State.tgDrop (s : State) (c : Nat) : State := s.updPat (fun (p : Pat) => { p with ridge := vset p.ridge c ⟨0, 0⟩ })

/-- TG_COMMIT (R274). -/
def execTgCommit (c : Fin 8) (s : State) : Out := .next (if s.rHeld c.val then s else s.tgPort c.val)

/-- FULL of a core, which IPEND bit 0 follows. -/
def State.rFull (s : State) (c : Nat) (b : Bool) : State :=
  let s := s.setB Reg.RDG_MSG_STATUS b c
  if b then s.rPend c 0 else s.clrF Reg.RDG_IPEND 1 c

/-- A message delivered to a core (R278). -/
def State.rDeliver (s : State) (c : Nat) (m : RMsg) : State :=
  let s := (m.words.zipIdx).foldl (fun (s : State) w => s.setF Reg.RDG_MSG w.1 (c * 8 + w.2)) s
  (s.rFull c true).complete m.handle stOk 0 0 0

/-- The messages that wait for a core: the first goes in while FULL is 0; a core that is not RUNNING or WAITING takes none. -/
def State.rNext (s : State) (c : Nat) : Nat → State
  | 0 => s
  | n + 1 =>
    match (s.rc c).msgs with
    | [] => s
    | m :: ms =>
      if s.on Reg.RDG_MSG_STATUS c then s
      else
        let s := s.updRc c (fun (r : Rcore) => { r with msgs := ms })
        if s.rLive c then s.rDeliver c m else (s.complete m.handle stNotReady 6 0 0).rNext c n

/-- FULL cleared by its w1c. -/
def State.msgAck (s : State) (c : Nat) : State := (s.rFull c false).rNext c (s.rc c).msgs.length

/-- MSG_ACK (R278). -/
def execMsgAck (c : Fin 8) (s : State) : Out := .next (if s.rHeld c.val then s else s.msgAck c.val)

/-- RDG_MSG (R278). -/
def execRdgMsg (h : Fin 256) (s : State) : Out :=
  match s.cmd? h.val 0xA3 with
  | none => .next s
  | some x =>
    let c := x.p 0
    .next (if 7 < c then s.complete h.val stInvalid 24 0 0
      else if !s.rLive c || s.rHeld c then s.complete h.val stNotReady 6 0 0
      else
        let s := (s.takeUp h.val).updRc c (fun (r : Rcore) => { r with msgs := r.msgs ++ [⟨h.val, (List.range 8).map (fun i => x.p (i + 1))⟩] })
        s.rNext c 1)

/-! ### Images (R275, R276) -/

/-- A section of an image: its memory (0 instruction, 1 data), the offset of its start there, and its bytes. -/
structure RSect where
  data : Bool
  start : Nat
  bytes : List Byte
  deriving DecidableEq, Repr

/-- The sections of an image from offset `o` on, or the offset of the first bad field. -/
def ridgeSects (bs : List Byte) : Nat → Nat → List RSect → Except Nat (List RSect)
  | 0, _, acc => .ok acc.reverse
  | n + 1, o, acc =>
    let t := field bs o 1
    let a := field bs (o + 4) 4
    let len := field bs (o + 8) 4
    let base := if t = 0 then 0x10000 else 0x20000
    let top := if t = 0 then 0x20000 else 0x40000
    let x : RSect := ⟨t == 1, a - base, (bs.drop (o + 16)).take len⟩
    if bs.length < o + 16 ∨ 1 < t then .error o
    else if field bs (o + 1) 3 ≠ 0 then .error (o + 1)
    else if a % 8 ≠ 0 ∨ a < base ∨ top ≤ a then .error (o + 4)
    else if acc.any (fun y => y.data == x.data && decide (y.start < x.start + len) && decide (x.start < y.start + y.bytes.length)) then .error (o + 4)
    else if len % 8 ≠ 0 ∨ top < a + len ∨ bs.length < o + 16 + len then .error (o + 8)
    else if field bs (o + 12) 4 ≠ 0 then .error (o + 12)
    else ridgeSects bs n (o + 16 + len) (x :: acc)

/-- What an image check finds: a bad field by offset, a wrong CRC, or the entry and the sections. -/
inductive RImage where
  | bad (off : Nat)
  | crc
  | ok (entry : Nat) (sects : List RSect)
  deriving DecidableEq, Repr

/-- An image checked (R275, R276). -/
def ridgeImage (bs : List Byte) : RImage :=
  let n := field bs 6 2
  let e := field bs 8 4
  match firstBad [(field bs 0 4 != 0x47444952, 0), (field bs 4 2 != 1, 4), (n == 0 || decide (16 < n), 6),
      (decide (e < 0x10000) || decide (0x20000 ≤ e) || e % 8 != 0, 8), (field bs 12 4 != bs.length, 12), (field bs 16 12 != 0, 16)] with
  | some o => .bad o
  | none =>
    match ridgeSects bs n 32 [] with
    | .error o => .bad o
    | .ok xs => if field bs 28 4 = crc32c (bs.take 28 ++ zeros 4 ++ bs.drop 32) then .ok e xs else .crc

/-- A valid image in a core's memories; every other byte of them is 0. -/
def Rcore.load (r : Rcore) (entry : Nat) (xs : List RSect) : Rcore :=
  xs.foldl (fun (r : Rcore) x =>
    if x.data then { r with dmem := r.dmem.writeN x.start x.bytes } else { r with imem := r.imem.writeN x.start x.bytes })
    { r with imem := [], dmem := [], entry := some entry }

/-- The cores of a mask. -/
def coresOf (m : Nat) : List Nat := (List.range 8).filter (fun c => m.testBit c)

/-- A core that RDG_LOAD and RDG_START leave alone. -/
def State.rBusy (s : State) (c : Nat) : Bool := s.rLive c || s.rHeld c

/-- RDG_LOAD (R276). -/
def execRdgLoad (h : Fin 256) (d : CmdData) (s : State) : Out :=
  match s.cmd? h.val 0xA0 with
  | none => .next s
  | some x =>
    .next (if 255 < x.p 0 then s.complete h.val stInvalid 24 0 0
      else s.withData x d (fun s len bs =>
        if len < 32 then s.complete h.val stInvalid 16 0 0
        else match ridgeImage bs with
          | .bad o => s.complete h.val stInvalid 0xFF o 0
          | .crc => s.complete h.val stDataError 3 0 0
          | .ok e xs =>
            let free := (coresOf (x.p 0)).filter (fun c => !s.rBusy c)
            let s := free.foldl (fun (s : State) c => s.updRc c (fun (r : Rcore) => r.load e xs)) s
            let m := (free.map (fun c => 2 ^ c)).sum
            if m = x.p 0 then s.complete h.val stOk 0 m 0 else s.complete h.val stBusy 0xA1 m 0))

/-! ### Starting and stopping (R277, R278) -/

/-- The registers and state of a core back at 0, its memories, image and messages kept (R277). -/
def Rcore.cleared (r : Rcore) : Rcore :=
  { Rcore.reset with imem := r.imem, dmem := r.dmem, entry := r.entry, msgs := r.msgs, timer := r.timer }

/-- The registers that RDG_START clears. -/
def rStartFields : List Field :=
  [Reg.RDG_EVT, Reg.RDG_IEN, Reg.RDG_IPEND, Reg.RDG_EXC_CAUSE, Reg.RDG_EXC_SHD, Reg.RDG_EXC_PC, Reg.RDG_EXC_ADDR, Reg.RDG_CYCLE_LO,
   Reg.RDG_CYCLE_HI, Reg.RDG_DMA_STATUS_BUSY, Reg.RDG_DMA_STATUS_OVR]

/-- A core started at an address. -/
def State.rStart (s : State) (c entry : Nat) : State :=
  let s := (s.updRc c Rcore.cleared).resetFieldsOf rStartFields c
  let s := (s.setF Reg.RDG_IPEND (s.fld Reg.RDG_MSG_STATUS c) c).tgDrop c
  (s.updRc c (fun (r : Rcore) => { r with pc := entry })).setF Reg.RDG_STATUS rRunning c

/-- RDG_START (R277). -/
def execRdgStart (h : Fin 256) (s : State) : Out :=
  match s.cmd? h.val 0xA1 with
  | none => .next s
  | some x =>
    let e := x.p 1
    let m := coresOf (x.p 0)
    let free := m.filter (fun c => !s.rBusy c)
    .next (if 255 < x.p 0 then s.complete h.val stInvalid 24 0 0
      else if e ≠ 0xFFFFFFFF ∧ (e < 0x10000 ∨ 0x20000 ≤ e ∨ e % 8 ≠ 0) then s.complete h.val stInvalid 28 0 0
      else if e = 0xFFFFFFFF ∧ free.any (fun c => (s.rc c).entry.isNone) then s.complete h.val stNotReady 6 0 0
      else
        let t := free.foldl (fun (t : State) c => t.rStart c (if e = 0xFFFFFFFF then ((s.rc c).entry).getD 0 else e)) s
        if free.length = m.length then t.complete h.val stOk 0 0 0 else t.complete h.val stBusy 0xA1 0 0)

/-- A core stopped; one that is STOPPED does not change (R278). -/
def State.rStop (s : State) (c : Nat) : State :=
  if s.fld Reg.RDG_STATUS c = rStopped then s
  else
    let s := (s.updRc c (fun (r : Rcore) => { r with bundle := RBundle.reset })).rDrain c
    let s := (List.range 4).foldl (fun (s : State) ch => s.dmaAbort c ch) s
    ((s.setF Reg.RDG_EVT 0 c).tgDrop c).setF Reg.RDG_STATUS rStopped c

/-- RDG_STOP (R278). -/
def execRdgStop (h : Fin 256) (s : State) : Out :=
  match s.cmd? h.val 0xA2 with
  | none => .next s
  | some x =>
    .next (if 255 < x.p 0 then s.complete h.val stInvalid 24 0 0
      else ((coresOf (x.p 0)).foldl (fun (s : State) c => s.rStop c) s).complete h.val stOk 0 0 0)

/-- Island reset of a core: both memories stay, everything else clears, and its slot of the telegram and its waiting messages go (R274, R278). -/
def State.rReset (s : State) (c : Nat) : State :=
  let ms := (s.rc c).msgs
  let s := s.updRc c (fun (r : Rcore) => { Rcore.reset with imem := r.imem, dmem := r.dmem, entry := r.entry })
  ms.foldl (fun (s : State) m => s.complete m.handle stNotReady 6 0 0) ((s.resetFieldsOf Reg.rdgFields c).tgDrop c)

end Sys2Proof.Machine
end

