-- ==== Sys2Proof/Machine/Sha.lean ====
section
/-! DEFINITION. SHA-384 and the verification of an ECDSA P-384 signature, which R456 names (FIPS 180-4, FIPS 186-5). The constants are PRESUMED: they come from those standards, not from the spec (log entry 29). -/

namespace Sys2Proof.Machine

/-! ### SHA-384 -/

/-- Rotation of a 64-bit word to the right. -/
def rotr64 (n x : Nat) : Nat := x / 2 ^ n + x % 2 ^ n * 2 ^ (64 - n)

/-- The round constants, in parts. -/
def shaK0 : List Nat :=
  [0x428A2F98D728AE22, 0x7137449123EF65CD, 0xB5C0FBCFEC4D3B2F, 0xE9B5DBA58189DBBC,
   0x3956C25BF348B538, 0x59F111F1B605D019, 0x923F82A4AF194F9B, 0xAB1C5ED5DA6D8118,
   0xD807AA98A3030242, 0x12835B0145706FBE, 0x243185BE4EE4B28C, 0x550C7DC3D5FFB4E2,
   0x72BE5D74F27B896F, 0x80DEB1FE3B1696B1, 0x9BDC06A725C71235, 0xC19BF174CF692694]
def shaK1 : List Nat :=
  [0xE49B69C19EF14AD2, 0xEFBE4786384F25E3, 0x0FC19DC68B8CD5B5, 0x240CA1CC77AC9C65,
   0x2DE92C6F592B0275, 0x4A7484AA6EA6E483, 0x5CB0A9DCBD41FBD4, 0x76F988DA831153B5,
   0x983E5152EE66DFAB, 0xA831C66D2DB43210, 0xB00327C898FB213F, 0xBF597FC7BEEF0EE4,
   0xC6E00BF33DA88FC2, 0xD5A79147930AA725, 0x06CA6351E003826F, 0x142929670A0E6E70]
def shaK2 : List Nat :=
  [0x27B70A8546D22FFC, 0x2E1B21385C26C926, 0x4D2C6DFC5AC42AED, 0x53380D139D95B3DF,
   0x650A73548BAF63DE, 0x766A0ABB3C77B2A8, 0x81C2C92E47EDAEE6, 0x92722C851482353B,
   0xA2BFE8A14CF10364, 0xA81A664BBC423001, 0xC24B8B70D0F89791, 0xC76C51A30654BE30,
   0xD192E819D6EF5218, 0xD69906245565A910, 0xF40E35855771202A, 0x106AA07032BBD1B8]
def shaK3 : List Nat :=
  [0x19A4C116B8D2D0C8, 0x1E376C085141AB53, 0x2748774CDF8EEB99, 0x34B0BCB5E19B48A8,
   0x391C0CB3C5C95A63, 0x4ED8AA4AE3418ACB, 0x5B9CCA4F7763E373, 0x682E6FF3D6B2B8A3,
   0x748F82EE5DEFB2FC, 0x78A5636F43172F60, 0x84C87814A1F0AB72, 0x8CC702081A6439EC,
   0x90BEFFFA23631E28, 0xA4506CEBDE82BDE9, 0xBEF9A3F7B2C67915, 0xC67178F2E372532B]
def shaK4 : List Nat :=
  [0xCA273ECEEA26619C, 0xD186B8C721C0C207, 0xEADA7DD6CDE0EB1E, 0xF57D4F7FEE6ED178,
   0x06F067AA72176FBA, 0x0A637DC5A2C898A6, 0x113F9804BEF90DAE, 0x1B710B35131C471B,
   0x28DB77F523047D84, 0x32CAAB7B40C72493, 0x3C9EBE0A15C9BEBC, 0x431D67C49C100D4C,
   0x4CC5D4BECB3E42B6, 0x597F299CFC657E2A, 0x5FCB6FAB3AD6FAEC, 0x6C44198C4A475817]
def shaK : List Nat := shaK0 ++ shaK1 ++ shaK2 ++ shaK3 ++ shaK4

/-- The initial hash value of SHA-384. -/
def shaInit : List Nat :=
  [0xCBBB9D5DC1059ED8, 0x629A292A367CD507, 0x9159015A3070DD17, 0x152FECD8F70E5939,
   0x67332667FFC00B31, 0x8EB44A8768581511, 0xDB0C2E0D64F98FA7, 0x47B5481DBEFA4FA4]

/-- The padding of a message of `n` bytes. -/
def shaPad (n : Nat) : List Byte := [0x80] ++ zeros ((239 - n % 128) % 128) ++ beBytes 16 (8 * n)

/-- The next word of the message schedule from the last 16, oldest first. -/
def shaNext (w : List Nat) : Nat :=
  let a := w.getD 1 0
  let b := w.getD 14 0
  let s0 := rotr64 1 a ^^^ rotr64 8 a ^^^ a / 2 ^ 7
  let s1 := rotr64 19 b ^^^ rotr64 61 b ^^^ b / 2 ^ 6
  (w.getD 0 0 + s0 + w.getD 9 0 + s1) % 2 ^ 64

/-- One round: the eight working variables, and the next 16 schedule words. -/
def shaRound (x : List Nat × List Nat) (k : Nat) : List Nat × List Nat :=
  let (v, w) := x
  match v with
  | [a, b, c, d, e, f, g, h] =>
    let t1 := h + (rotr64 14 e ^^^ rotr64 18 e ^^^ rotr64 41 e) + ((e &&& f) ^^^ ((2 ^ 64 - 1 - e) &&& g)) + k + w.headD 0
    let t2 := (rotr64 28 a ^^^ rotr64 34 a ^^^ rotr64 39 a) + ((a &&& b) ^^^ (a &&& c) ^^^ (b &&& c))
    ([(t1 + t2) % 2 ^ 64, a, b, c, (d + t1) % 2 ^ 64, e, f, g], w.drop 1 ++ [shaNext w])
  | _ => x

/-- One block of 128 bytes. -/
def shaBlock (h : List Nat) (b : List Byte) : List Nat :=
  let w := (List.range 16).map (fun i => beNat ((b.drop (8 * i)).take 8))
  let (v, _) := shaK.foldl shaRound (h, w)
  (h.zip v).map (fun x => (x.1 + x.2) % 2 ^ 64)

/-- `n` blocks in order. -/
def shaBlocks : Nat → List Nat → List Byte → List Nat
  | 0, h, _ => h
  | n + 1, h, bs => shaBlocks n (shaBlock h bs) (bs.drop 128)

/-- SHA-384 of a byte string, 48 bytes. -/
def sha384 (bs : List Byte) : List Byte :=
  let m := bs ++ shaPad bs.length
  ((shaBlocks (m.length / 128) shaInit m).take 6).flatMap (beBytes 8)

/-! ### ECDSA over P-384 -/

/-- The prime of the field, the order of the base point, and b of the curve y² = x³ − 3x + b. -/
def p384 : Nat := 2 ^ 384 - 2 ^ 128 - 2 ^ 96 + 2 ^ 32 - 1
def n384 : Nat :=
  0xFFFFFFFFFFFFFFFFFFFFFFFFFFFFFFFFFFFFFFFFFFFFFFFFC7634D81F4372DDF581A0DB248B0A77AECEC196ACCC52973
def b384 : Nat :=
  0xB3312FA7E23EE7E4988E056BE3F82D19181D9C6EFE8141120314088F5013875AC656398D8A2ED19D2A85C8EDD3EC2AEF
/-- The base point. -/
def g384 : Nat × Nat :=
  (0xAA87CA22BE8B05378EB1C71EF320AD746E1D3B628BA79B9859F741E082542A385502F25DBF55296C3A545E3872760AB7,
   0x3617DE4A96262C6F5D9E98BF9292DC29F8F41DBD289A147CE9DA3113B5F0B8C00A60B1CE1D7E819D7A431D7C90EA0E5F)

/-- `a^e mod m` over the 384 bits of `e`. -/
def powMod (a e m : Nat) : Nat :=
  (List.range 384).foldl (fun (r : Nat) i => let r := r * r % m; if e.testBit (383 - i) then r * a % m else r) 1

/-- The inverse modulo a prime. -/
def invMod (a m : Nat) : Nat := powMod a (m - 2) m

/-- A point in Jacobian coordinates; Z = 0 is the point at infinity. -/
structure JPoint where
  x : Nat
  y : Nat
  z : Nat

/-- A difference modulo p. -/
def subP (a b : Nat) : Nat := (a + p384 - b % p384) % p384

/-- A point doubled. -/
def JPoint.dbl (q : JPoint) : JPoint :=
  let d := q.z * q.z % p384
  let g := q.y * q.y % p384
  let b := q.x * g % p384
  let a := 3 * (subP q.x d) * (q.x + d) % p384
  let x := subP (a * a) (8 * b)
  ⟨x, subP (a * (subP (4 * b) x)) (8 * g * g), 2 * q.y * q.z % p384⟩

/-- The sum of two points. -/
def JPoint.add (q r : JPoint) : JPoint :=
  if q.z = 0 then r
  else if r.z = 0 then q
  else
    let z1 := q.z * q.z % p384
    let z2 := r.z * r.z % p384
    let u1 := q.x * z2 % p384
    let u2 := r.x * z1 % p384
    let s1 := q.y * r.z * z2 % p384
    let s2 := r.y * q.z * z1 % p384
    if u1 = u2 then (if s1 = s2 then q.dbl else ⟨1, 1, 0⟩)
    else
      let h := subP u2 u1
      let k := subP s2 s1
      let h2 := h * h % p384
      let h3 := h * h2 % p384
      let v := u1 * h2 % p384
      let x := subP (subP (k * k) h3) (2 * v)
      ⟨x, subP (k * (subP v x)) (s1 * h3), h * q.z * r.z % p384⟩

/-- A multiple of a point by a scalar below 2^384. -/
def JPoint.mul (q : JPoint) (e : Nat) : JPoint :=
  (List.range 384).foldl (fun (r : JPoint) i => if e.testBit (383 - i) then r.dbl.add q else r.dbl) ⟨1, 1, 0⟩

/-- A point lies on the curve. -/
def onCurve (x y : Nat) : Bool :=
  decide (x < p384) && decide (y < p384) && y * y % p384 == (x * x * x + b384 + (p384 - 3) * x) % p384

/-- The signature `r`, `s` of a digest under the public key `x`, `y` verifies. -/
def ecdsaOk (x y r s : Nat) (digest : List Byte) : Bool :=
  if !onCurve x y || r == 0 || s == 0 || decide (n384 ≤ r) || decide (n384 ≤ s) then false
  else
    let w := invMod s n384
    let u := beNat digest * w % n384
    let v := r * w % n384
    let q := ((⟨g384.1, g384.2, 1⟩ : JPoint).mul u).add ((⟨x, y, 1⟩ : JPoint).mul v)
    if q.z = 0 then false
    else
      let zi := invMod q.z p384
      q.x * zi * zi % p384 % n384 == r

end Sys2Proof.Machine
end

