-- ==== Sys2Proof/Machine/Source.lean ====
section
/-! DEFINITION. The source drive (chapter 16): binning records, pump loops and ramps, gate sensing, fault latches and SRC_CLEAR. -/

namespace Sys2Proof.Machine

/-! ### Pump states -/

/-- Codes of SRC_PUMP_STATUS.STATE (R380). -/
def pumpOff : Nat := 0
def pumpUp : Nat := 1
def pumpHold : Nat := 2
def pumpDown : Nat := 3
def pumpLatched : Nat := 4

/-- Pump channel `n`. -/
def State.pump (s : State) (n : Nat) : Pump := s.src.pumps.getD n Pump.reset

/-- Pump channel `n` changed. -/
def State.updPump (s : State) (n : Nat) (f : Pump → Pump) : State := { s with src := { s.src with pumps := vmod s.src.pumps n f } }

/-- Channel `n` carries its present ramp value in SRC_PUMP_NOW, in whole µA (R367). -/
def State.showRamp (s : State) (n : Nat) : State := s.setF Reg.SRC_PUMP_NOW ((s.pump n).ramp / 500) n

/-! ### Binning records (R368, R369) -/

/-- The offset of the first field of a binning record outside its range. -/
def binBad (bs : List Byte) : Option Nat :=
  let ith := field bs 8 4
  let imax := field bs 28 4
  let rs := field bs 32 4
  let slope := field bs 12 4
  let dldt := field bs 20 4
  firstBad [(field bs 0 4 != 0x4E494250, 0), (field bs 4 2 != 1, 4), (decide (ith < 2000) || decide (imax < ith), 8),
    (slope == 0 || decide (2000000 < slope), 12), (dldt == 0 || decide (100000 < dldt), 20),
    (imax == 0 || decide (200000000000 < imax * rs), 28), (decide (rs < 20000) || decide (2000000 < rs), 32),
    (decide (sx 16 (field bs 38 2) ≤ sx 16 (field bs 36 2)), 38)]

/-- T_TEC of a record in °C before the limits, in double precision: 25 + (LAMBDA_TGT − LAMBDA25) / (DLDT/100) (R369). -/
def coolerCelsius (bs : List Byte) : Dbl :=
  (Dbl.ofInt 25).add ((Dbl.ofInt ((field bs 24 4 : Int) - field bs 16 4)).div (.ofRat (field bs 20 4) 100))

/-- The cooler target in mK and TEC_CLAMP of a record (R369): limits in 0.01 °C. -/
def coolerTarget (bs : List Byte) : Int × Bool :=
  let t := coolerCelsius bs
  let lo := Dbl.ofRat (sx 16 (field bs 36 2)) 100
  let hi := Dbl.ofRat (sx 16 (field bs 38 2)) 100
  let mk (t : Dbl) : Int := ((Dbl.ofInt 1000).mul (t.add (.ofRat 27315 100))).rhe
  if !lo.le t then (mk lo, true) else if !t.le hi then (mk hi, true) else (mk t, false)

/-- The power estimate in µW of the measured current, its rounding left open (R369); it saturates. -/
def State.showPower (s : State) (n : Nat) : State :=
  match (s.pump n).record with
  | none => s
  | some r =>
    let i := s.fld Reg.SRC_PUMP_MEAS n
    if i ≤ r.ith then s.setF Reg.SRC_PUMP_PWR 0 n
    else
      let (p, s) := s.freeRound ((r.slope * (i - r.ith) : Nat) : Int) 1000
      s.setF Reg.SRC_PUMP_PWR (satU 32 p) n

/-- The summit firmware passes a target to the cooler controller that TABLES names, if it names one (R369, R458). -/
def State.coolerPass (s : State) (n mk : Nat) : State :=
  if s.sum.tables.any (fun r => r.type == 6) then { s with src := { s.src with coolerOut := s.src.coolerOut ++ [(n, mk)] } } else s

/-- A good record makes channel `n` CONFIGURED (R369). -/
def State.binPut (s : State) (n : Nat) (bs : List Byte) : State :=
  let (t, clamp) := coolerTarget bs
  let s := s.updPump n (fun (p : Pump) => { p with record := some ⟨field bs 8 4, field bs 12 4, field bs 28 4, field bs 32 4⟩ })
  let s := ((s.setF Reg.SRC_PUMP_STATUS_CONFIGURED 1 n).setB Reg.SRC_PUMP_STATUS_TEC_CLAMP clamp n).setF Reg.SRC_PUMP_STATUS_BIN (field bs 6 2) n
  ((s.coolerPass n (code 32 t)).setF Reg.SRC_PUMP_TEC (code 32 t) n).showPower n

/-- SRC_CONFIG (R369): a good record for a channel that is OFF makes it CONFIGURED. -/
def execSrcConfig (h : Fin 256) (d : CmdData) (s : State) : Out :=
  match s.cmd? h.val 0xB0 with
  | none => .next s
  | some x =>
    let n := x.p 0
    .next (if 3 < n then s.complete h.val stInvalid 24 0 0
      else s.withRecord x d 40 (fun s bs =>
        match binBad bs with
        | some o => s.complete h.val stInvalid 0xFF o 0
        | none =>
          if s.fld Reg.SRC_PUMP_STATUS_STATE n ≠ pumpOff then s.complete h.val stBusy 0xB1 0 0
          else
            (s.binPut n bs).complete h.val stOk 0 0 0))

/-! ### Ramps (R367, R370, R371) -/

/-- The PUMP_SET that ramps channel `n` gives way to another command (R371). -/
def State.endPumpSet (s : State) (n st det : Nat) : State :=
  match (s.pump n).handle with
  | none => s
  | some h => (s.updPump n (fun (p : Pump) => { p with handle := none })).complete h st det 0 0

/-- A PUMP_SET takes channel `n` from PUMP_OFF commands: one that names only this channel is aborted, another goes on without it (R371). -/
def State.takeFromOffs (s : State) (n : Nat) : State :=
  let (hit, miss) := s.src.offs.partition (fun o => o.2.testBit n)
  let s := { s with src := { s.src with offs := miss } }
  hit.foldl (fun (s : State) o =>
    let asked : Nat := ((s.handle? o.1).map (fun x => x.p 0)).getD 0
    if asked = 2 ^ n then s.complete o.1 stAborted 3 0 0
    else if o.2 = 2 ^ n then s.complete o.1 stOk 0 0 0
    else { s with src := { s.src with offs := s.src.offs ++ [(o.1, o.2 - 2 ^ n)] } }) s

/-- Channel `n` ramps from its present value towards `target` µA. -/
def State.rampTo (s : State) (n target rate : Nat) (off : Bool) : State :=
  let s := s.updPump n (fun (p : Pump) => { p with rate := rate, toOff := off })
  (s.setF Reg.SRC_PUMP_TARGET target n).setF Reg.SRC_PUMP_STATUS_STATE (if off || decide (500 * target < (s.pump n).ramp) then pumpDown else pumpUp) n

/-- PUMP_SET (R370, R371). -/
def execPumpSet (h : Fin 256) (s : State) : Out :=
  match s.cmd? h.val 0xB1 with
  | none => .next s
  | some x =>
    let (n, i, r) := (x.p 0, x.p 1, x.p 2)
    let st := s.fld Reg.SRC_PUMP_STATUS_STATE n
    .next (if 3 < n then s.complete h.val stInvalid 24 0 0
      else match (s.pump n).record with
        | none => if 1000000 < r then s.complete h.val stInvalid 32 0 0 else s.complete h.val stNotReady 6 0 0
        | some q =>
          if q.imax < i then s.complete h.val stInvalid 28 0 0
          else if 1000000 < r then s.complete h.val stInvalid 32 0 0
          else if st = pumpLatched then s.complete h.val stLocked 0 0 0
          else if st = pumpHold ∧ s.fld Reg.SRC_PUMP_TARGET n = i then s.complete h.val stOk 0 (s.fld Reg.SRC_PUMP_MEAS n) 0
          else
            let s := ((s.takeUp h.val).endPumpSet n stAborted 3).takeFromOffs n
            (s.updPump n (fun (p : Pump) => { p with handle := some h.val })).rampTo n i (if r = 0 then 10000 else r) false)

/-- Channel `n` is asked to ramp down and turn off at its last rate. -/
def State.rampOff (s : State) (n : Nat) : State :=
  let st := s.fld Reg.SRC_PUMP_STATUS_STATE n
  if st = pumpOff ∨ st = pumpLatched then s
  else (s.endPumpSet n stAborted 3).rampTo n 0 (s.pump n).rate true

/-- PUMP_OFF (R370, R371): a channel that is OFF, or latched off, is done already. -/
def execPumpOff (h : Fin 256) (s : State) : Out :=
  match s.cmd? h.val 0xB2 with
  | none => .next s
  | some x =>
    let m := x.p 0
    .next (if 15 < m then s.complete h.val stInvalid 24 0 0
      else
        let s := (List.range 4).foldl (fun (s : State) n => if m.testBit n then s.rampOff n else s) s
        let left := ((List.range 4).map (fun n =>
          if m.testBit n && s.fld Reg.SRC_PUMP_STATUS_STATE n == pumpDown then 2 ^ n else 0)).sum
        if left = 0 then s.complete h.val stOk 0 0 0
        else { s.takeUp h.val with src := { s.src with offs := s.src.offs ++ [(h.val, left)] } })

/-- Channel `n` is OFF: each PUMP_OFF that waited for it goes on, or completes (R370). -/
def State.offDone (s : State) (n : Nat) : State :=
  let (hit, miss) := s.src.offs.partition (fun o => o.2.testBit n)
  let s := { s with src := { s.src with offs := miss } }
  hit.foldl (fun (s : State) o =>
    if o.2 = 2 ^ n then s.complete o.1 stOk 0 0 0
    else { s with src := { s.src with offs := s.src.offs ++ [(o.1, o.2 - 2 ^ n)] } }) s

/-- PUMP_RAMP_DONE (R367, R370): the ramp value is at its target. -/
def execPumpRampDone (n : Fin 4) (s : State) : Out :=
  let st := s.fld Reg.SRC_PUMP_STATUS_STATE n.val
  let p := s.pump n.val
  if (st = pumpUp ∨ st = pumpDown) ∧ p.ramp = 500 * s.fld Reg.SRC_PUMP_TARGET n.val then
    if p.toOff then
      let s := s.updPump n.val (fun (p : Pump) => { p with toOff := false })
      .next (((s.setF Reg.SRC_PUMP_STATUS_STATE pumpOff n.val).setF Reg.SRC_PUMP_DUTY 0 n.val).offDone n.val)
    else
      let s := (s.updPump n.val (fun (p : Pump) => { p with handle := none })).setF Reg.SRC_PUMP_STATUS_STATE pumpHold n.val
      .next (match p.handle with
        | some h => s.complete h stOk 0 (s.fld Reg.SRC_PUMP_MEAS n.val) 0
        | none => s)
  else .next s

/-! ### Loop periods (R366, R373, R375) -/

/-- I_FS in µA as a fraction: 2·10¹¹ over R_SENSE. -/
def Pump.rsense (p : Pump) : Nat := (p.record.map (·.rsense)).getD 0

/-- A ramp value moved towards its target by RAMP × 2/1,000 µA (R367), in units of 1/500 µA. -/
def rampStep (ramp target rate : Nat) : Nat := if ramp ≤ target then min target (ramp + rate) else max target (ramp - rate)

/-- Judgements OPEN, SHORT and OVERCURRENT of one period (R373, R375). -/
def State.pumpJudge (s : State) (n : Nat) (k : PumpSample) : Bool × Bool × Bool :=
  let p := s.pump n
  let st := s.fld Reg.SRC_PUMP_STATUS_STATE n
  if st = pumpOff then (k.cannotHold, k.minOnTime || k.skipped, false)
  else if st = pumpLatched ∨ p.rsense = 0 then (false, false, false)
  else
    -- measured current in µA is code · 2·10¹¹ / (R_SENSE · 16,384)
    let cur := k.code.toNat * 200000000000
    let unit := p.rsense * 16384
    (s.fld Reg.SRC_PUMP_DUTY n == 1900 && decide (cur * 1000 < p.ramp * unit),
      decide (10000 * unit ≤ cur) && (s.fld Reg.SRC_PUMP_DUTY n == 20 || k.skipped),
      decide (11 * p.ramp * unit + 5000 * (200000000000 / 100) * 16384 < 5000 * cur))

/-- The period of channel `n` begins: each is 400 ticks long and starts 100·n ticks after the common start, which lies at the multiples of 400 ticks (R366; log entry 281). -/
def State.pumpDue (s : State) (n : Nat) : Bool := s.fieldUp && s.tick % 400 == 100 * n && s.timerDue (.pump n) 400

/-- The commands that a ramp of channel `n` advances: their watchdogs start again (R108, R370). -/
def State.rampHandles (s : State) (n : Nat) : List Nat :=
  let st := s.fld Reg.SRC_PUMP_STATUS_STATE n
  if st = pumpUp ∨ st = pumpDown then (s.pump n).handle.toList ++ (s.src.offs.filter (fun o => o.2.testBit n)).map (·.1) else []

/-- PUMP_PERIOD (R366, R367, R375): the sample, the mean of the last 64, the ramp step, the next duty, and the fault judgements.
The duty that the loop chooses is a free value between its limits (log entry 23). -/
def execPumpPeriod (n : Fin 4) (k : PumpSample) (s : State) : Out :=
  if !s.pumpDue n.val then .next s
  else
  let s := (s.timerStart (.pump n.val)).timersStart ((s.rampHandles n.val).map .handle)
  let st := s.fld Reg.SRC_PUMP_STATUS_STATE n.val
  let (o, sh, oc) := s.pumpJudge n.val k
  let s := s.updPump n.val (fun (p : Pump) =>
    { p with samples := (k.code.toNat :: p.samples).take 64, open_ := if o then p.open_ + 1 else 0,
             short := if sh then p.short + 1 else 0, excess := if oc then p.excess + 1 else 0 })
  let p := s.pump n.val
  let s := if p.rsense = 0 then s
    else
      let (m, s) := s.freeRound ((p.samples.sum * 200000000000 : Nat) : Int) ((p.samples.length * 16384 * p.rsense : Nat) : Int)
      (s.setF Reg.SRC_PUMP_MEAS m.toNat n.val).showPower n.val
  if st = pumpOff ∨ st = pumpLatched then .next s
  else
    let (v, s) := s.freeVal 32
    let duty := v % 1901
    let s := s.setF Reg.SRC_PUMP_DUTY (if 0 < duty ∧ duty < 20 then 20 else duty) n.val
    .next ((s.updPump n.val (fun (p : Pump) => { p with ramp := rampStep p.ramp (500 * s.fld Reg.SRC_PUMP_TARGET n.val) p.rate })).showRamp n.val)

/-! ### Latches (R375 to R378, R447) -/

/-- Channel `c` latched under a fault code: driven to its off state, its FAULT field showing `cause`, its commands ended. -/
def State.latchOne (s : State) (c fault cause : Nat) : State :=
  if s.src.codes.getD c 0 ≠ 0 then s
  else
    let s := { s with src := { s.src with codes := vset s.src.codes c fault } }
    if c < 4 then
      let s := s.updPump c (fun (p : Pump) => { p with ramp := 0, toOff := false, open_ := 0, short := 0, excess := 0 })
      let s := ((s.setF Reg.SRC_PUMP_STATUS_STATE pumpLatched c).setF Reg.SRC_PUMP_STATUS_FAULT cause c).setF Reg.SRC_PUMP_TARGET 0 c
      let s := (s.setF Reg.SRC_PUMP_DUTY 0 c).showRamp c
      let s := s.setF Reg.SRC_STATUS_PUMP_LATCH (s.fld Reg.SRC_STATUS_PUMP_LATCH ||| 2 ^ c)
      (s.endPumpSet c stHwFault fault).offDone c
    else
      let g := c - 4
      let s := (s.gateShut g).setF Reg.SRC_GATE_STATUS_FAULT cause g
      s.setF Reg.SRC_STATUS_GATE_LATCH (s.fld Reg.SRC_STATUS_GATE_LATCH ||| 2 ^ g)

/-- The acquisition and the Raman average end with HW_FAULT. -/
def State.faultEnds (s : State) (fault : Nat) : State := (s.acqEnd stHwFault fault none).dtsEnd stHwFault fault s.dts.done

/-- The fault code of cause `k` at channel `c` (R471). -/
def srcCode (c k : Nat) : Nat := 0x10 + 4 * c + k

/-- The log entry, vector 0 and the ends that a fault brings (R377, R451). -/
def State.faultTold (s : State) (c k : Nat) : State :=
  let s := if s.logLimited 0x0300 (rowOf 0x24000) then s.signal 0 else s
  (s.logEvt sevFault 0x0300 (rowOf 0x24000) (leBytes 1 c ++ leBytes 1 k)).faultEnds (srcCode c k)

/-- Source-drive faults of one instant, (channel, cause) by rising channel (R377, R378, R471): they and every pump latch, SRC_FAULT holds, and what runs ends under the lowest channel's code. -/
def State.srcFaults (s : State) (l : List (Nat × Nat)) : State :=
  match l.filter (fun x => s.src.codes.getD x.1 0 == 0) with
  | [] => s
  | (c, k) :: rest =>
    let new := (c, k) :: rest
    let s := new.foldl (fun (s : State) x => s.latchOne x.1 (srcCode x.1 x.2) x.2) s
    let s := (List.range 4).foldl (fun (s : State) n => s.latchOne n (srcCode c k) 0) s
    (new.foldl (fun (s : State) x => s.faultTold x.1 x.2) (s.setF Reg.SRC_STATUS_FAULT 1)).wakeRun 0xF2

/-- A source-drive fault of one channel. -/
def State.srcFault (s : State) (c k : Nat) : State := s.srcFaults [(c, k)]

/-- THERMAL (R447, R471): every pump and gate channel latches off under code 0x28. -/
def State.thermalLatch (s : State) (temps : List Byte) : State :=
  let s := (List.range 6).foldl (fun (s : State) c => s.latchOne c 0x28 0) s
  let s := ({ s with src := { s.src with thermal := true } }).setF Reg.SRC_STATUS_FAULT 1
  (s.logEvt sevFault 0x0007 (rowOf 0xC00000) temps).faultEnds 0x28

/-- The cause that a pump has held for 25 consecutive periods; 0 none (R375). -/
def Pump.cause (p : Pump) : Nat := if 25 ≤ p.open_ then 1 else if 25 ≤ p.short then 2 else if 25 ≤ p.excess then 3 else 0

/-- PUMP_FAULT_LATCH (R375, R376, R378): channel `n` latches, and with it any other channel that has held a condition as long. -/
def execPumpFaultLatch (n : Fin 4) (s : State) : Out :=
  .next (if (s.pump n.val).cause = 0 then s
    else s.srcFaults (((List.range 4).map (fun c => (c, (s.pump c).cause))).filter (fun x => x.2 != 0)))

/-- Gate channel `g` changed. -/
def State.updGate (s : State) (g : Nat) (f : Gate → Gate) : State := { s with src := { s.src with gates := vmod s.src.gates g f } }

/-- GATE_SENSE (R373, R374): V_S between openings, once 80 ns have passed since the last one, or the output current in an opening of 200 ns or more with PULSE_CHK set, from 100 ns on. -/
def execGateSense (g : Fin 2) (m : GateMeas) (s : State) : Out :=
  let x := s.src.gates.getD g.val Gate.reset
  match m with
  | .idle v =>
    if !s.fieldUp || s.gateOpen g.val || !(x.stop == 0 || decide (x.stop + 16 ≤ s.tick)) then .next s
    else
      let s := s.setF Reg.SRC_GATE_SENSE (satN 16 v) g.val
      .next (s.updGate g.val (fun (y : Gate) => { y with total := y.total + 1, opens := y.opens + b2n (decide (6000 < v)),
                                                         shorts := y.shorts + b2n (decide (v < 100)) }))
  | .pulse i =>
    if s.fieldUp && s.gateOpen g.val && s.on Reg.SRC_GATE_CFG g.val && decide (x.start + 40 ≤ x.stop) && decide (x.start + 20 ≤ s.tick) then
      .next (s.updGate g.val (fun (y : Gate) => { y with total := y.total + 1, opens := y.opens + b2n (decide (i < 2000)),
                                                         shorts := y.shorts + b2n (decide (40000 < i)),
                                                         pulsed := y.pulsed + b2n (decide (i < 2000) || decide (40000 < i)) }))
    else .next s

/-- Ticks from one verdict of gate `g` to the next (R376): a shot period of GATE_T while an average runs, a frame while acquisition runs, else 1 ms. -/
def State.verdictTicks (s : State) (g : Nat) : Nat :=
  match s.acq.run, (if g = 1 ∧ s.dts.run.isSome then s.dts.cfg else none) with
  | some (_, p), _ => p.frameTicks
  | none, some c => c.shotTicks
  | none, none => ticksMs 1

/-- GATE_VERDICT (R376): the majority of the measurements since the last verdict; two equal fault verdicts in a row latch the channel. -/
def execGateVerdict (g : Fin 2) (s : State) : Out :=
  if !s.fieldUp || !s.timerDue (.verdict g.val) (s.verdictTicks g.val) then .next s
  else
  let s := s.timerStart (.verdict g.val)
  let x := s.src.gates.getD g.val Gate.reset
  let v := if x.total < 2 * x.opens then 1 else if x.total < 2 * x.shorts then 2 else 0
  let s := s.updGate g.val (fun (y : Gate) => { y with total := 0, opens := 0, shorts := 0, pulsed := 0, verdict := v })
  if v ≠ 0 ∧ v = x.verdict ∧ s.src.codes.getD (4 + g.val) 0 = 0 then
    .next ((s.setB Reg.SRC_GATE_STATUS_IN_PULSE (decide ((if v = 1 then x.opens else x.shorts) ≤ x.pulsed)) g.val).srcFault (4 + g.val) v)
  else .next s

/-- One latch cleared (R378): a pump returns OFF, a gate is closed and sensing. -/
def State.unlatch (s : State) (c : Nat) : State :=
  let s := { s with src := { s.src with codes := vset s.src.codes c 0 } }
  if c < 4 then
    let s := (s.setF Reg.SRC_PUMP_STATUS_STATE pumpOff c).setF Reg.SRC_PUMP_STATUS_FAULT 0 c
    s.clrF Reg.SRC_STATUS_PUMP_LATCH (2 ^ c)
  else
    let s := s.updGate (c - 4) (fun (y : Gate) => { y with total := 0, opens := 0, shorts := 0, pulsed := 0, verdict := 0 })
    let s := (s.setF Reg.SRC_GATE_STATUS_FAULT 0 (c - 4)).setF Reg.SRC_GATE_STATUS_IN_PULSE 0 (c - 4)
    s.clrF Reg.SRC_STATUS_GATE_LATCH (2 ^ (c - 4))

/-- SRC_CLEAR (R378): the latches of the mask cleared; none while THERMAL holds (R447). -/
def execSrcClear (h : Fin 256) (s : State) : Out :=
  match s.cmd? h.val 0xB3 with
  | none => .next s
  | some x =>
    .next (if 63 < x.p 0 then s.complete h.val stInvalid 24 0 0
      else
        let hit := (List.range 6).filter (fun c => !s.src.thermal && (x.p 0).testBit c && s.src.codes.getD c 0 != 0)
        let s := hit.foldl State.unlatch s
        let s := s.setB Reg.SRC_STATUS_FAULT (s.src.codes.any (· != 0))
        s.complete h.val stOk 0 ((hit.map (fun c => 2 ^ c)).sum) 0)

end Sys2Proof.Machine
end

