-- ==== Sys2Proof/Machine/Summit.lean ====
section
/-! DEFINITION. Summit services (R443 to R452): the event log in MRAM, LOG_READ and LOG_MARK, the die and supply sensors, and the restart of the summit watchdog. -/

namespace Sys2Proof.Machine

/-- A change of the summit services. -/
def State.updSum (s : State) (f : Summit → Summit) : State := { s with sum := f s.sum }

/-- MRAM bytes written from an offset; a brown-out blocks the write (R41). -/
def State.mramPut (s : State) (o : Nat) (bs : List Byte) : State :=
  if s.pw.brownBlock then s else { s with mem := { s.mem with mram := s.mem.mram.writeN o bs } }

/-- The summit core runs loader or firmware: clocked and out of reset, not stopped in WATCH (R45, R443). -/
def State.sumRuns (s : State) : Bool :=
  (s.pw.phase == .loader || s.pw.phase == .firmware) && !s.pw.standby && s.pstate != stWatch && !(s.fld Reg.PWR_ISL_RST).testBit 5

/-! ### The event log in MRAM (R449, R450) -/

/-- Entries of the ring. -/
def logRing : Nat := 32768

/-- MRAM offset of the slot of a sequence. -/
def logAt (q : Nat) : Nat := 0x60000 + 32 * (q % logRing)

/-- Bytes 0 to 6 of an entry. -/
def LogEntry.head (e : LogEntry) : List Byte := leBytes 4 (e.seq % 2 ^ 24 + e.sev * 2 ^ 24) ++ leBytes 2 e.code ++ leBytes 1 e.src

/-- Bytes 8 to 31 of an entry. -/
def LogEntry.rest (e : LogEntry) : List Byte := leBytes 8 e.stamp ++ (e.data ++ zeros 16).take 16

/-- The 32 bytes of an entry (R449). -/
def LogEntry.bytes (e : LogEntry) : List Byte := e.head ++ leBytes 1 (crc8 (e.head ++ e.rest)) ++ e.rest

/-- An entry's CHECK is valid. -/
def logValid (bs : List Byte) : Bool := field bs 7 1 == crc8 (bs.take 7 ++ bs.drop 8)

/-- The buffered entries written to MRAM in sequence order, unless a brown-out blocks it (R41, R450). -/
def State.logFlush (s : State) : State :=
  if s.pw.brownBlock then s
  else
    let s := s.log.buf.foldl (fun (s : State) e => s.mramPut (logAt e.seq) e.bytes) s
    { s with log := { s.log with buf := [] } }

/-- LOG_FLUSH (R450). -/
def execLogFlush (s : State) : Out := .next (if s.sumRuns then s.logFlush else s)

/-- The slots of the log region that hold a byte other than 0, rising. -/
def logSlots (m : Memory) : List Nat :=
  m.foldr (fun kv l =>
    if 0x60000 ≤ kv.1 ∧ kv.1 < 0x160000 then
      let n := (kv.1 - 0x60000) / 32
      if l.head? = some n then l else n :: l
    else l) []

/-- The later of two sequences, modulo 2^24. -/
def laterSeq (a b : Nat) : Nat := if 0 < wrapSub 24 b a ∧ wrapSub 24 b a ≤ 2 ^ 23 then b else a

/-- The log found at a boot (R450): the newest valid entry, and the oldest valid one within the ring before it; an empty log starts at sequence 0. -/
def State.logScan (s : State) : State :=
  let seqs := (logSlots s.mem.mram).filterMap (fun n =>
    let bs := s.mem.mram.readN (0x60000 + 32 * n) 32
    if logValid bs then some (field bs 0 3) else none)
  match seqs with
  | [] => { s with log := { s.log with buf := [], next := 0, count := 0 } }
  | q :: qs =>
    let top := qs.foldl laterSeq q
    let back := (seqs.map (fun x => wrapSub 24 top x)).foldl (fun m d => if d < logRing then max m d else m) 0
    let s := { s with log := { s.log with buf := [], next := (top + 1) % 2 ^ 24, count := back + 1 } }
    (s.setF Reg.SUM_LOG_NEWEST top).setF Reg.SUM_LOG_OLDEST (wrapSub 24 top back)

/-! ### LOG_READ and LOG_MARK (R452) -/

/-- The bytes of the retained entry of a sequence: buffered, or in MRAM with a valid CHECK. -/
def State.logBytes (s : State) (q : Nat) : Option (List Byte) :=
  match s.log.buf.find? (fun e => e.seq == q) with
  | some e => some e.bytes
  | none =>
    let bs := s.mem.mram.readN (logAt q) 32
    if logValid bs && field bs 0 3 == q then some bs else none

/-- The sequences that LOG_READ walks from `p0`, oldest first; none for a P0 beyond the newest, or an empty log. -/
def State.logWalk (s : State) (p0 : Nat) : List Nat :=
  let newest := wrapSub 24 s.log.next 1
  let n := s.log.count - 1
  let oldest := wrapSub 24 newest n
  let run (a k : Nat) : List Nat := (List.range k).map (fun i => (a + i) % 2 ^ 24)
  if s.log.count = 0 then []
  else if wrapSub 24 p0 oldest ≤ n then run p0 (n + 1 - wrapSub 24 p0 oldest)
  else if 1 ≤ wrapSub 24 p0 newest ∧ wrapSub 24 p0 newest ≤ 2 ^ 23 then []
  else run oldest (n + 1)

/-- LOG_READ (R452). -/
def execLogRead (h : Fin 256) (d : CmdData) (s : State) : Out :=
  match s.cmd? h.val 0x90 with
  | none => .next s
  | some x =>
    .next (if x.p 1 = 0 ∨ logRing < x.p 1 then s.complete h.val stInvalid 28 0 0
      else
        let (b, s) := s.buffer x d
        let es := ((s.logWalk (x.p 0 % 2 ^ 24)).filterMap (fun q => (s.logBytes q).map (fun bs => (q, bs)))).take
          (if b.2 = .whole then min (x.p 1) (segsLen b.1 / 32) else x.p 1)
        let next := match es.getLast? with
          | some e => (e.1 + 1) % 2 ^ 24
          | none => s.log.next
        if b.2 = .whole ∧ segsLen b.1 < 32 then s.complete h.val stNoSpace 0 0 0
        else s.giveTo x b (es.flatMap (·.2)) stOk 0 es.length next)

/-- LOG_MARK (R452): MARK_A and MARK_B with one stamp, outside the 1 ms limit. -/
def execLogMark (h : Fin 256) (s : State) : Out :=
  match s.cmd? h.val 0x91 with
  | none => .next s
  | some x =>
    let q := s.log.next
    let s := s.logPut sevInfo 0x0F00 0x22 s.now ((List.range 4).flatMap (fun i => leBytes 4 (x.p i)))
    let s := s.logPut sevInfo 0x0F01 0x22 s.now (leBytes 4 (x.p 4) ++ leBytes 4 (x.p 5))
    .next (s.complete h.val stOk 0 q 0)

/-! ### Sensors (R444 to R447) -/

/-- Row of the SUM block, the source of its log entries. -/
def sumRow : Nat := rowOf 0xC00000

/-- T0 to T7 as 16 bytes. -/
def State.tempBytes (s : State) : List Byte := (List.range 8).flatMap (fun i => leBytes 2 (s.fld Reg.SUM_TEMP i))

/-- The record of SENSOR_READ (R445). -/
def State.sensorRecord (s : State) : List Byte :=
  withCrc (leBytes 4 0x52534E53 ++ leBytes 4 s.sum.sensors.samples ++ leBytes 8 s.sum.sensors.stamp ++ s.tempBytes ++
    (List.range 12).flatMap (fun i => leBytes 2 (s.fld Reg.SUM_SUPPLY i)) ++ leBytes 4 (s.fld Reg.SUM_SENSOR_ALARM))

/-- SENSOR_READ (R445). -/
def execSensorRead (h : Fin 256) (d : CmdData) (s : State) : Out :=
  match s.cmd? h.val 0x92 with
  | none => .next s
  | some x => .next (s.giveData x d s.sensorRecord)

/-- LO and HI of sensor `i` in a limits record. -/
def limitPair (bs : List Byte) (i : Nat) : Int × Int :=
  let lo := field bs (16 + 4 * i) 2
  let hi := field bs (18 + 4 * i) 2
  if i < 8 then (sx 16 lo, sx 16 hi) else (lo, hi)

/-- The first field of a limits record that breaks R446. -/
def limitsBad (bs : List Byte) : Option Nat :=
  firstBad ([(field bs 0 4 != 0x544D4C53, 0), (field bs 4 2 != 1, 4), (decide (field bs 6 1 = 0 ∨ 64 < field bs 6 1), 6),
    (field bs 7 1 == 0, 7), (field bs 8 8 != 0, 8)] ++
    (List.range 20).map (fun i => (decide ((limitPair bs i).2 ≤ (limitPair bs i).1), 16 + 4 * i)))

/-- A limits record applied. -/
def State.setLimits (s : State) (bs : List Byte) : State :=
  s.updSum (fun (m : Summit) => { m with sensors := { m.sensors with
    limits := Vector.ofFn (fun (i : Fin 20) => some (limitPair bs i.val)), hystT := field bs 6 1, hystV := field bs 7 1 } })

/-- SENSOR_LIMITS (R446). -/
def execSensorLimits (h : Fin 256) (d : CmdData) (s : State) : Out :=
  match s.cmd? h.val 0x93 with
  | none => .next s
  | some x =>
    .next (s.withRecord x d 96 (fun s bs =>
      match limitsBad bs with
      | some o => s.complete h.val stInvalid 0xFF o 0
      | none => (s.setLimits bs).complete h.val stOk 0 0 0))

/-- A sample of sensor `i` (T0 to T7, then S0 to S11) against its limits (R446): the alarm bit set with an entry and vector 0, or cleared inside the hysteresis. -/
def State.limitCheck (s : State) (i : Nat) (v : Int) : State :=
  match s.sum.sensors.limits.getD i none with
  | none => s.clrF Reg.SUM_SENSOR_ALARM (2 ^ i)
  | some (lo, hi) =>
    let hy : Int := if i < 8 then s.sum.sensors.hystT else s.sum.sensors.hystV
    if v < lo ∨ hi < v then
      if (s.fld Reg.SUM_SENSOR_ALARM).testBit i then s
      else ((s.orF Reg.SUM_SENSOR_ALARM (2 ^ i)).logEvt sevWarning 0x0006 sumRow
        (leBytes 1 i ++ zeros 1 ++ leBytes 2 (code 16 v) ++ leBytes 2 (code 16 (if v < lo then lo else hi)))).signal 0
    else if lo + hy ≤ v ∧ v ≤ hi - hy then s.clrF Reg.SUM_SENSOR_ALARM (2 ^ i)
    else s

/-- THERMAL from the counts of consecutive hot samples (R447): raised at the third set at 118 °C or more, held until every sensor is below 105 °C. -/
def State.thermalCheck (s : State) : State :=
  let t (i : Nat) : Int := s.fldS Reg.SUM_TEMP i
  let hot : Vector Nat 8 := Vector.ofFn (fun (i : Fin 8) => if 1888 ≤ t i.val then s.sum.sensors.hot.getD i.val 0 + 1 else 0)
  let s := s.updSum (fun (m : Summit) => { m with sensors := { m.sensors with hot := hot } })
  if s.src.thermal then
    if (List.range 8).all (fun i => decide (t i < 1680)) then
      { s with src := { s.src with thermal := false } }.clrF Reg.SUM_SENSOR_ALARM (2 ^ 20)
    else s
  else if hot.any (fun n => decide (3 ≤ n)) then (s.orF Reg.SUM_SENSOR_ALARM (2 ^ 20)).thermalLatch s.tempBytes
  else s

/-- SENSOR_SAMPLE (R444 to R447): a sample set of T0 to T7 in 1/16 °C and S0 to S11 in mV. -/
def execSensorSample (temps : List Int) (supplies : List Nat) (s : State) : Out :=
  if s.pw.standby || s.pw.phase == .held || !s.timerDue .sensors (ticksMs 10) then .next s
  else
    let s := s.timerStart .sensors
    let s := (temps.take 8).zipIdx.foldl (fun (s : State) x => (s.setS Reg.SUM_TEMP x.1 x.2).limitCheck x.2 x.1) s
    let s := (supplies.take 12).zipIdx.foldl (fun (s : State) x => (s.setF Reg.SUM_SUPPLY x.1 x.2).limitCheck (8 + x.2) x.1) s
    let s := s.updSum (fun (m : Summit) => { m with sensors := { m.sensors with samples := (m.sensors.samples + 1) % 2 ^ 32, stamp := s.now } })
    .next s.thermalCheck

/-! ### Watchdog (R443) -/

/-- SUM_WDOG_KICK (R443): the summit core writes 0x5A. -/
def execSumWdogKick (v : Word) (s : State) : Out :=
  .next (if s.sumRuns && v.toNat == 0x5A then s.timerStart .summit else s)

end Sys2Proof.Machine
end

