-- ==== Sys2Proof/Machine/Update.lean ====
section
/-! DEFINITION. Generations and the field update (R453 to R463): the generation word and the journal in MRAM, the flash, the checks of an image, and the update commands. -/

namespace Sys2Proof.Machine

/-! ### The generation word (R453) -/

/-- The eight bytes of the generation word. -/
def State.genBytes (s : State) : List Byte := s.mem.mram.readN 0x40000 8
def State.genNo (s : State) : Nat := field s.genBytes 0 4
def State.genBoots (s : State) : Nat := field s.genBytes 4 1 % 16
def State.genConfirmed (s : State) : Bool := (field s.genBytes 4 1).testBit 4

/-- Its CRC-16 is right and its reserved bits are 0. -/
def State.genValid (s : State) : Bool :=
  field s.genBytes 6 2 == crc16 (s.genBytes.take 6) && field s.genBytes 4 2 / 32 == 0

/-- The registers that show the generation word. -/
def State.genShow (s : State) : State := (s.setF Reg.SUM_GEN_LO s.genNo).setF Reg.SUM_GEN_HI (field s.genBytes 4 4)

/-- The generation word written. -/
def State.genPut (s : State) (gen boots : Nat) (conf : Bool) : State :=
  let bs := leBytes 4 gen ++ leBytes 2 (boots % 16 + 16 * b2n conf)
  (s.mramPut 0x40000 (bs ++ leBytes 2 (crc16 bs))).genShow

/-! ### The journal (R454) -/

/-- A journal record but for its MAGIC and CRC. -/
structure Journal where
  state : Nat
  reason : Nat
  parts : Nat
  seq : Nat
  gen : Nat
  cgen : Nat
  manDigest : List Byte
  partDigests : List Byte
  types : List Byte
  deriving DecidableEq, Repr

/-- Journal states. -/
def jIdle : Nat := 0
def jStaging : Nat := 1
def jVerified : Nat := 2
def jActivating : Nat := 3
def jActivated : Nat := 4
def jConfirmed : Nat := 5
def jFailed : Nat := 6

/-- MRAM offset of J0 and J1. -/
def jrnAt (c : Nat) : Nat := 0x30000 + 1024 * c

/-- The bytes of a copy, and whether it is valid. -/
def State.jrnCopy (s : State) (c : Nat) : List Byte := s.mem.mram.readN (jrnAt c) 1024
def jrnValid (bs : List Byte) : Bool := field bs 0 4 == 0x4C4E524A && field bs 1020 4 == crc32c (bs.take 1020)

/-- A record from its bytes. -/
def parseJournal (bs : List Byte) : Journal :=
  { state := field bs 4 1, reason := field bs 5 1, parts := field bs 6 1, seq := field bs 8 4, gen := field bs 12 4, cgen := field bs 16 4,
    manDigest := (bs.drop 20).take 48, partDigests := (bs.drop 68).take 768, types := (bs.drop 836).take 16 }

/-- The 1,024 bytes of a record. -/
def Journal.bytes (j : Journal) : List Byte :=
  let fit (n : Nat) (bs : List Byte) : List Byte := (bs ++ zeros n).take n
  withCrc (leBytes 4 0x4C4E524A ++ leBytes 1 j.state ++ leBytes 1 j.reason ++ leBytes 1 j.parts ++ zeros 1 ++ leBytes 4 j.seq ++
    leBytes 4 j.gen ++ leBytes 4 j.cgen ++ fit 48 j.manDigest ++ fit 768 j.partDigests ++ fit 16 j.types ++ zeros 168)

/-- The copy that holds the state: valid, with the higher SEQ. -/
def State.jrnLive (s : State) : Option Nat :=
  let b0 := s.jrnCopy 0
  let b1 := s.jrnCopy 1
  match jrnValid b0, jrnValid b1 with
  | true, true => if field b0 8 4 < field b1 8 4 then some 1 else some 0
  | true, false => some 0
  | false, true => some 1
  | false, false => none

/-- The journal; without a valid copy it is IDLE and empty. -/
def State.journal (s : State) : Journal :=
  match s.jrnLive with
  | some c => parseJournal (s.jrnCopy c)
  | none => { state := jIdle, reason := 0, parts := 0, seq := 0, gen := 0, cgen := 0, manDigest := [], partDigests := [], types := [] }

/-- A changed record written whole into the copy not written last. -/
def State.jrnPut (s : State) (j : Journal) : State :=
  let c := match s.jrnLive with
    | some 0 => 1
    | _ => 0
  (s.mramPut (jrnAt c) { j with seq := s.journal.seq + 1 }.bytes).setF Reg.SUM_UPD_STATUS_STATE j.state

/-- A journal state entered, with its UPDATE entry (R451) from a source. -/
def State.jrnEnter (s : State) (j : Journal) (state src : Nat) : State :=
  (s.jrnPut { j with state := state }).logEvt sevNotice 0x0500 src
    (leBytes 1 state ++ zeros 3 ++ leBytes 4 j.gen ++ leBytes 1 (s.fld Reg.SUM_UPD_STATUS_PART))

/-- An UPDATE_FAIL entry (R451). -/
def State.updateFail (s : State) (reason gen part src : Nat) : State :=
  s.logEvt sevFault 0x0501 src (leBytes 1 reason ++ zeros 3 ++ leBytes 4 gen ++ leBytes 1 part)

/-! ### Flash and staging -/

/-- Flash bytes; an erased byte reads 0xFF, so the store holds complements. -/
def State.flashGet (s : State) (o n : Nat) : List Byte := (s.mem.flash.readN o n).map (fun b => ~~~ b)

/-- A flash range erased and programmed. -/
def State.flashPut (s : State) (o : Nat) (bs : List Byte) : State :=
  if s.pw.brownBlock then s
  else { s with mem := { s.mem with flash := s.mem.flash.writeN o (bs.map (fun b => ~~~ b)) } }

/-- Flash bytes erased where `keep` does not hold. -/
def State.flashErase (s : State) (keep : Nat → Bool) : State :=
  if s.pw.brownBlock then s else { s with mem := { s.mem with flash := s.mem.flash.filter (fun kv => keep kv.1) } }

/-- The base of STAGING, and staged bytes. -/
def State.stageGet (s : State) (o n : Nat) : List Byte := s.extGet (s.rgnBase 5 + o) n
def State.stagePoison (s : State) (o n : Nat) : Bool := s.poisoned (s.rgnBase 5 + o) n

/-- Staged bytes of the activation in the journal (log entry 30). -/
def State.actGet (s : State) (o n : Nat) : List Byte := s.extGet (s.sum.actBase + o) n

/-! ### Manifests (R456, R457) -/

/-- A part entry. -/
structure Part where
  type : Nat
  index : Nat
  ofs : Nat
  len : Nat
  ver : Nat
  digest : List Byte
  deriving DecidableEq, Repr

/-- Entry `i` of a manifest. -/
def partAt (m : List Byte) (i : Nat) : Part :=
  let o := 128 + 64 * i
  { type := field m o 1, index := field m (o + 1) 1, ofs := field m (o + 4) 4, len := field m (o + 8) 4, ver := field m (o + 12) 4,
    digest := (m.drop (o + 16)).take 48 }

/-- The parts of a manifest, in order. -/
def manParts (m : List Byte) : List Part := (List.range (min 16 (field m 6 1))).map (partAt m)
def manGen (m : List Byte) : Nat := field m 8 4
def manBytes (m : List Byte) : Nat := field m 12 4

/-- The longest part of a type. -/
def partMax (type : Nat) : Nat :=
  match type with
  | 1 => 0x70000
  | 4 => 0x40000
  | 5 => 0x10000
  | 6 => 0x100000
  | _ => 0x4000000

/-- Two RIDGE parts that exclude each other: the same INDEX, or one for every core. -/
def ridgeClash (p q : Part) : Bool := q.type == 2 && (q.index == p.index || q.index == 0xFF || p.index == 0xFF)

/-- The rules that part `i` breaks, as failing field offsets, given the parts before it. -/
def partRules (m : List Byte) (before : List Part) (i : Nat) : List (Bool × Nat) :=
  let p := partAt m i
  let o := 128 + 64 * i
  let comp := ((before.filter (fun q => q.type == 6)).map (·.len)).sum
  [(p.type == 0 || decide (6 < p.type) || ((p.type == 1 || p.type == 3 || p.type == 4 || p.type == 5) && before.any (fun q => q.type == p.type)), o),
    ((p.type == 2 && ((p.index != 0xFF && decide (7 < p.index)) || before.any (ridgeClash p))) ||
      (p.type == 6 && (decide (3 < p.index) || before.any (fun q => q.type == 6 && q.index == p.index))), o + 1),
    (field m (o + 2) 2 != 0, o + 2),
    (p.ofs % 4096 != 0 || decide (p.ofs < 4096) || decide (manBytes m < p.ofs) ||
      before.any (fun q => decide (p.ofs < q.ofs + q.len) && decide (q.ofs < p.ofs + p.len)), o + 4),
    (decide (manBytes m < p.ofs + p.len) || decide (partMax p.type < p.len) || (p.type == 6 && decide (0x100000 < comp + p.len)), o + 8)]

/-- Every kind of part that R457 asks for is there. -/
def kindsOk (ps : List Part) : Bool :=
  let n (t : Nat) : Nat := (ps.filter (fun p => p.type == t)).length
  n 1 == 1 && n 3 == 1 && n 4 == 1 && n 5 == 1 &&
    (n 2 == 8 || (n 2 == 1 && ps.any (fun p => p.type == 2 && p.index == 0xFF)))

/-- The first faulty field of a manifest page of 4,096 bytes, by offset. -/
def manBad (m : List Byte) : Option Nat :=
  let n := field m 6 1
  let ps := manParts m
  let b := manBytes m
  firstBad ([(field m 0 4 != 0x464D4847, 0), (field m 4 2 != 1, 4), (n == 0 || decide (16 < n) || !kindsOk ps, 6), (field m 7 1 != 0, 7),
      (manGen m == 0 || manGen m == 0xFFFFFFFF, 8), (b % 4096 != 0 || decide (b < 4096) || decide (0x4000000 < b), 12), (field m 112 16 != 0, 112)] ++
    (List.range ps.length).flatMap (fun i => partRules m (ps.take i) i) ++
    (List.range 16).map (fun i => (decide (ps.length ≤ i) && field m (128 + 64 * i) 64 != 0, 128 + 64 * i)) ++
    [((m.drop 1248).any (· != 0), 1248 + ((m.drop 1248).takeWhile (· == 0)).length)])

/-- The public key's hash is the one in the fuses; the signature is good. -/
def State.keyOk (s : State) (m : List Byte) : Bool := beNat (sha384 ((m.drop 16).take 96)) == s.sum.key
def signatureOk (m : List Byte) : Bool :=
  let w (o : Nat) : Nat := beNat ((m.drop o).take 48)
  ecdsaOk (w 16) (w 64) (w 1152) (w 1200) (sha384 (m.take 1152))

/-- A part's bytes carry its digest and, in a CAIRN or RIDGE part, their own CRC. -/
def Part.good (p : Part) (bs : List Byte) : Bool :=
  sha384 bs == p.digest &&
    (if p.type = 3 then crnPartOk bs
     else if p.type = 2 then (match ridgeImage bs with
       | .ok _ _ => true
       | _ => false)
     else true)

/-- The flash image passes R457 and is that of generation `gen`. COMPANION parts are not held in flash. -/
def State.flashGood (s : State) (gen : Nat) : Bool :=
  let m := s.flashGet 0 4096
  (manBad m).isNone && s.keyOk m && signatureOk m && manGen m == gen &&
    (manParts m).all (fun p => p.type == 6 || p.good (s.flashGet p.ofs p.len))

/-- The first part of a type in the flash image, with its bytes. -/
def State.flashPart (s : State) (type : Nat) : Option (Part × List Byte) :=
  ((manParts (s.flashGet 0 4096)).find? (fun p => p.type == type)).map (fun p => (p, s.flashGet p.ofs p.len))

/-- The records of a TABLES part (R458), up to TYPE 0. -/
def tabRecords : Nat → List Byte → List TabRec
  | 0, _ => []
  | n + 1, bs =>
    let t := field bs 0 2
    let len := field bs 2 2
    if t = 0 ∨ bs.length < 4 + len then []
    else ⟨t, (bs.drop 4).take len⟩ :: tabRecords n (bs.drop (4 + (len + 3) / 4 * 4))

/-! ### Download and verification (R459) -/

/-- An activation runs. -/
def State.activating (s : State) : Bool := s.sum.act.isSome

/-- The update command that runs beside that of handle `h`, by its opcode: an activation, or one whose data is still being read. Every update command but FW_STATUS is BUSY then. -/
def State.fwRuns (s : State) (h : Nat) : Option Nat :=
  if s.activating then some 0x83
  else s.hq.reads.findSome? (fun r =>
    match r.target with
    | .cmd k =>
      if k = h ∨ r.dead then none
      else match s.handle? k with
        | some x => if 0x80 ≤ x.op ∧ x.op ≤ 0x84 then some x.op else none
        | none => none
    | _ => none)

/-- FW_BEGIN (R459). -/
def execFwBegin (h : Fin 256) (s : State) : Out :=
  match s.cmd? h.val 0x80 with
  | none => .next s
  | some x =>
    let b := x.p 0
    .next (match s.fwRuns h.val with
      | some op => s.complete h.val stBusy op 0 0
      | none =>
        if b < 4096 ∨ 0x4000000 < b ∨ b % 4096 ≠ 0 then s.complete h.val stInvalid 24 0 0
        else if s.rgnSize 5 = 0 then s.complete h.val stNotReady 3 0 0
        else
          let s := s.updSum (fun (m : Summit) => { m with stage := some ⟨b, []⟩ })
          (s.jrnEnter s.journal jStaging sumRow).complete h.val stOk 0 0 0)

/-- FW_BLOCK (R459): the block waits while the memory controller gives no credit (R20). -/
def execFwBlock (h : Fin 256) (d : CmdData) (s : State) : Out :=
  match s.cmd? h.val 0x81 with
  | none => .next s
  | some x =>
    .next (match s.fwRuns h.val with
      | some op => s.complete h.val stBusy op 0 0
      | none =>
        match s.sum.stage with
          | none => s.complete h.val stNotReady 6 0 0
          | some g =>
            let o := x.p 0
            if o % 65536 ≠ 0 ∨ g.bytes ≤ o then s.complete h.val stInvalid 24 0 0
            else s.withRecord x d (min 65536 (g.bytes - o)) (fun t bs =>
              if !t.memReady then s else
              let s := t.extPut (s.rgnBase 5 + o) bs
              let s := s.updSum (fun (m : Summit) => { m with stage := some { g with blocks := o / 65536 :: g.blocks.filter (· != o / 65536) } })
              let s := if s.journal.state = jVerified then s.jrnEnter s.journal jStaging sumRow else s
              s.complete h.val stOk 0 bs.length 0))

/-- What a check of the staged image finds: success, or a completion with the check that failed and the part it reached. -/
inductive Verdict where
  | ok
  | bad (status detail r0 r1 : Nat) (reason : Nat) (part : Nat)
  deriving DecidableEq, Repr

/-- The first byte outside the parts of a staged image that is not 0. -/
def State.stageStray (s : State) (b : Nat) (ps : List Part) : Option Nat :=
  let base := s.rgnBase 5
  (s.mem.ext.find? (fun kv => decide (base + 4096 ≤ kv.1) && decide (kv.1 < base + b) &&
    !ps.any (fun p => decide (base + p.ofs ≤ kv.1) && decide (kv.1 < base + p.ofs + p.len)))).map (fun kv => kv.1 - base)

/-- The parts of a staged image from index `i` on: poisoned, or of a wrong digest or CRC. -/
def State.stageParts (s : State) : List Part → Nat → Verdict
  | [], _ => .ok
  | p :: ps, i =>
    if s.stagePoison p.ofs p.len then .bad stDataError 2 0 0 0 i
    else if !p.good (s.stageGet p.ofs p.len) then .bad stAuthFail 0 0 0 4 i
    else s.stageParts ps (i + 1)

/-- The first block of an image that has not been staged. -/
def Staging.missing (g : Staging) : Option Nat := findIdxBelow (fun i => !g.blocks.contains i) ((65535 + g.bytes) / 65536)

/-- FW_VERIFY's checks in their order. -/
def State.stageVerdict (s : State) (g : Staging) : Verdict :=
  match g.missing with
  | some i => .bad stNotReady 6 0 i 0 0
  | none =>
    let m := s.stageGet 0 4096
    if s.stagePoison 0 4096 then .bad stDataError 2 0 0 0 0
    else match (manBad m).or (if manBytes m = g.bytes then s.stageStray g.bytes (manParts m) else some 12) with
      | some o => .bad stInvalid 0xFF o 0 0 0
      | none =>
        if !s.keyOk m then .bad stAuthFail 0 0 0 1 0
        else if !signatureOk m then .bad stAuthFail 0 0 0 2 0
        else if manGen m ≤ s.journal.cgen then .bad stAuthFail 0 0 0 3 0
        else s.stageParts (manParts m) 0

/-- The journal record of a verified manifest. -/
def Journal.verified (j : Journal) (m : List Byte) : Journal :=
  let ps := manParts m
  { j with reason := 0, parts := ps.length, gen := manGen m, manDigest := sha384 (m.take 1248), partDigests := ps.flatMap (·.digest),
           types := ps.map (fun p => BitVec.ofNat 8 p.type) }

/-- FW_VERIFY (R459): the image is read once external memory gives credit (R20). -/
def execFwVerify (h : Fin 256) (s : State) : Out :=
  match s.cmd? h.val 0x82 with
  | none => .next s
  | some _ =>
    .next (match s.fwRuns h.val with
      | some op => s.complete h.val stBusy op 0 0
      | none =>
        match s.sum.stage with
          | none => s.complete h.val stNotReady 6 0 0
          | some g =>
            if !s.memReady then s else
            let s := if g.missing.isSome then s else s.linesRead (s.rgnBase 5) g.bytes
            match s.stageVerdict g with
            | .bad st det r0 r1 reason part =>
              ((s.setF Reg.SUM_UPD_STATUS_REASON reason).setF Reg.SUM_UPD_STATUS_PART part).complete h.val st det r0 r1
            | .ok =>
              let m := s.stageGet 0 4096
              let n := (manParts m).length
              let s := (s.setF Reg.SUM_UPD_STATUS_REASON 0).setF Reg.SUM_UPD_STATUS_PART (n - 1)
              (s.jrnEnter (s.journal.verified m) jVerified sumRow).complete h.val stOk 0 n 0)

/-- FW_STATUS (R459). -/
def execFwStatus (h : Fin 256) (s : State) : Out :=
  match s.cmd? h.val 0x85 with
  | none => .next s
  | some _ =>
    let j := s.journal
    .next (s.complete h.val stOk 0 (j.state % 256 + s.genBoots * 2 ^ 8 + j.reason % 256 * 2 ^ 16 + b2n s.loaderPers * 2 ^ 24) s.genNo)

/-! ### Activation and confirmation (R460 to R462) -/

/-- Parts in the order in which they are written: those of the flash, then the companions. -/
def actOrder (ps : List Part) : List Nat :=
  let of (c : Bool) : List Nat := ps.zipIdx.filterMap (fun p => if (p.1.type == 6) == c then some p.2 else none)
  of false ++ of true

/-- An activation begins (R461, steps 1 and 2). -/
def State.actBegin (s : State) (h : Option Nat) : State :=
  let s := s.jrnEnter s.journal jActivating 0x21
  s.updSum (fun (m : Summit) => { m with act := some ⟨h, actOrder (manParts (s.actGet 0 4096))⟩ })

/-- FW_ACTIVATE (R460, R461). -/
def execFwActivate (h : Fin 256) (s : State) : Out :=
  match s.cmd? h.val 0x83 with
  | none => .next s
  | some _ =>
    .next (match s.fwRuns h.val with
      | some op => s.complete h.val stBusy op 0 0
      | none =>
        if s.journal.state ≠ jVerified then s.complete h.val stNotReady 6 0 0
        else ((s.takeUp h.val).updSum (fun (m : Summit) => { m with actBase := s.rgnBase 5 })).actBegin (some h.val))

/-- An activation stops (R461): journal FAILED with reason 5, UPDATE_FAIL, and its handle completes. -/
def State.actFail (s : State) (h : Option Nat) (part st det : Nat) : State :=
  let j := s.journal
  let s := (s.jrnEnter { j with reason := 5 } jFailed 0x21).updateFail 5 j.gen part 0x21
  let s := s.updSum (fun (m : Summit) => { m with act := none })
  match h with
  | some i => s.complete i st det 0 0
  | none => s

/-- The header of a COMPANION part keeps R458. -/
def compOk (bs : List Byte) : Bool :=
  let pg := field bs 4 2
  decide (16 ≤ bs.length) && decide (field bs 0 1 ≤ 3) && decide (2 ≤ field bs 2 1) && decide (field bs 2 1 ≤ 4) &&
    (pg == 16 || pg == 32 || pg == 64 || pg == 128 || pg == 256) && field bs 6 2 != 0

/-- The pages that a COMPANION part writes, in order. -/
def compPages (bs : List Byte) : List CompPage :=
  let d := bs.drop 16
  let pg := max 1 (field bs 4 2)
  (List.range ((d.length + pg - 1) / pg)).map (fun k =>
    ⟨field bs 0 1, field bs 1 1, field bs 8 4 + k * pg, (d.drop (k * pg)).take pg⟩)

/-- FW_CONFIRM (R462). -/
def execFwConfirm (h : Fin 256) (s : State) : Out :=
  match s.cmd? h.val 0x84 with
  | none => .next s
  | some _ =>
    .next (match s.fwRuns h.val with
      | some op => s.complete h.val stBusy op 0 0
      | none =>
        if s.loaderPers then s.complete h.val stNotReady 4 0 0
        else
          let gen := s.genNo
          let s :=
            if s.genConfirmed then s
            else
              let s := (s.genPut gen s.genBoots true).updSum (fun (m : Summit) => { m with confirmNs := 0 })
              let s := (s.setF Reg.SUM_BOOT_STATUS_CONFIRM_PENDING 0).setF Reg.SUM_CONFIRM_LEFT 0
              s.jrnEnter { s.journal with cgen := gen } jConfirmed sumRow
          s.complete h.val stOk 0 gen 0)

end Sys2Proof.Machine
end

