-- ==== Sys2Proof/Machine/Reset.lean ====
section
/-! DEFINITION. The reset levels (R51 to R54, R78, R495): cold, warm, host and island reset, and the rows that cause them. -/

namespace Sys2Proof.Machine

/-- A change of the power and reset state. -/
def State.updPw (s : State) (f : Power → Power) : State := { s with pw := f s.pw }

/-! ### Host reset (R52, R95, R495) -/

/-- Index that no handle has: a unit whose handle was dropped completes to nobody. -/
def noHandle : Nat := 256

/-- Acquisition and streams without their handles: a running acquisition ends with no completion. -/
def State.dropAcq (s : State) : State :=
  let s := if s.acqRuns then (s.acqEnd stAborted 2 none) else s
  let a := { s.acq with handle := none, silent := s.acqRuns, queued := none, ending := s.acq.ending.map (fun (e : AcqEnd) => { e with stoppers := [] }),
                        sw := s.acq.sw.map (fun (w : PendSwitch) => { w with handle := noHandle }) }
  let streams := s.red.streams.map (fun (st : Stream) =>
    { st with handle := none, closing := st.closing.map (fun c => (c.1, c.2.1, none, c.2.2.2)) })
  { s with acq := a, ph := { s.ph with resetHandles := [] }, red := { s.red with streams := streams, waiting := [] } }

/-- Slalom, captures, belt sections and time-interval unit without their handles; the Raman average ends, since GATE_T fires for a running handle only (R190). -/
def State.dropField (s : State) : State :=
  let sec (x : SkSec) : SkSec := { x with handle := none, stoppers := [] }
  { s.dtsEnd stAborted 2 0 with
    slm := { s.slm with handle := none, caps := s.slm.caps.map (fun (c : Cap) => { c with handle := noHandle }), reads := [] },
    grm := { s.grm with turns := [] },
    tiu := { s.tiu with cal := s.tiu.cal.map (fun (c : TiuCal) => { c with handle := none }),
                        secs := s.tiu.secs.map (fun o => o.map sec), waits := s.tiu.waits.map (fun _ => none) } }

/-- Slow converter, source drive, panel and calibration without their handles. -/
def State.dropServo (s : State) : State :=
  { s with
    sad := { s.sad with fb := s.sad.fb.map (fun f => (none, f.2.1, f.2.2)), cal := s.sad.cal.map (fun c => (none, c.2.1, c.2.2)),
                        waits := s.sad.waits.map (fun (w : SadWait) => { w with handle := noHandle }) },
    src := { s.src with pumps := s.src.pumps.map (fun (p : Pump) => { p with handle := none }), offs := [] },
    pnl := { s.pnl with starters := [], stoppers := [], again := none, palettes := s.pnl.palettes.map (fun x => (noHandle, x.2)) },
    cal := { s.cal with run := s.cal.run.map (fun (r : CalRun) => { r with handle := noHandle }) } }

/-- Ridge messages, the activation and power transitions without their handles. -/
def State.dropSystem (s : State) : State :=
  { s with
    rdg := s.rdg.map (fun (r : Rcore) => { r with msgs := [] }),
    sum := { s.sum with act := s.sum.act.map (fun (a : Activation) => { a with handle := none }), wdogHandles := [] },
    pw := { s.pw with trans := s.pw.trans.map (fun (t : Transition) => { t with handles := [] }),
                      queued := s.pw.queued.map (fun (t : Transition) => { t with handles := [] }) } }

/-- The buffers that open rings hold are returned with ABORTED, where the link still carries writes (R52, R103). -/
def State.ringsAbort (s : State) : State := (List.range 8).foldl (fun (s : State) r => s.returnCur r stAborted) s

/-- The HOST island reset: every handle is dropped without a completion, groomer jobs go, the queue engines start empty, and a running acquisition stops (R51, R52, R495). -/
def State.hostIsland (s : State) : State :=
  let s := { s.ringsAbort with hq := Hqe.reset, hostHeld := [] }
  let s := s.grm.jobs.foldl (fun (s : State) j => s.jobStop j stAborted 2) s
  s.dropAcq.dropField.dropServo.dropSystem.resetFields Reg.hqeFields

/-- The link is down. -/
def Power.linkDown (p : Power) : Power := { p with linkUp := false, linkTraining := false, linkSpeed := 0, linkWidth := 0, d3hot := false, pewake := false }

/-- HOST_RESET (R51, R52): PERST_L goes low. It is ignored in stand-alone operation (R35), and owed until the way back to RUN in WATCH (R59). The record of PWR_RST_CAUSE stays (log entry 270). -/
def execHostReset (s : State) : Out :=
  .next (if s.pw.standalone then s
    else
      let s := s.ringsAbort.updPw (fun (p : Power) => { p.linkDown with perstLow := true })
      if s.pw.standby || s.pw.phase == .held then s
      else if s.pstate == stWatch then s.updPw (fun (p : Power) => { p with hostResetOwed := true })
      else s.hostIsland)

/-- FUNCTION_LEVEL_RESET (R79): it arrives over the link, and acts as a host reset. -/
def execFunctionLevelReset (s : State) : Out :=
  .next (if s.pw.standalone || !s.pw.linkUp || s.pw.perstLow then s
    else (s.updPw (fun (p : Power) => { p with d3hot := false })).hostIsland)

/-- PERST_L_RELEASE (R55): the host reset ends, and the link trains where HOST is clocked. -/
def execPerstLRelease (s : State) : Out :=
  .next (s.updPw (fun (p : Power) =>
    { p with perstLow := false,
             linkTraining := p.linkTraining || (p.perstLow && !p.standalone && !p.standby && p.phase != .held && s.pstate != stWatch) }))

/-! ### Cold and warm reset (R51, R54) -/

/-- What a cold reset leaves of the power state: the pins, the supplies, and what the VBAT domain holds. -/
def Power.cold (p : Power) : Power :=
  { Power.reset with standby := p.standby, testHold := p.testHold, standalone := p.standalone, porLow := p.porLow, perstLow := p.perstLow, ref10m := p.ref10m,
                     liftClk := p.liftClk, brownBlock := p.brownBlock, brownLog := p.brownLog, vbatPresent := p.vbatPresent,
                     pwrOn := p.pwrOn, wakeTries := p.wakeTries, wakeLatch := p.wakeLatch }

/-- A cold reset: every island but VBAT, the time base and all locks; external memory is lost, MRAM, flash and fuses stay. Log entries still buffered are written unless a brown-out blocks it (R450). -/
def State.coldReset (s : State) : State :=
  let s := s.logFlush.memCold
  { State.reset with
    pending := s.pending, tick := s.tick, timers := s.timers, mc := s.mc, mem := { Memories.reset with mram := s.mem.mram, flash := s.mem.flash },
    jtag := s.jtag, pins := s.pins, hostOut := s.hostOut, irqOut := s.irqOut, readOut := s.readOut, free := s.free,
    vb := { s.vb with writes := [], rtcHi := 0, alarmHi := 0 }, pw := s.pw.cold,
    sum := { Summit.reset with key := s.sum.key, factory := s.sum.factory, companion := s.sum.companion },
    src := { Src.reset with coolerOut := s.src.coolerOut },
    pat := { Pat.reset with sent := s.pat.sent, mramAddr := s.pat.mramAddr },
    slm := { Slm.reset with liftIn := s.slm.liftIn } }

/-- The BAR 0 offsets whose fields a warm reset keeps: PWR, SAD, GLB_TB, and in SUM the locks and the watchdog count (R51, R77, R78, R363, R443, R464). -/
def warmKeeps (off : Nat) : Bool :=
  (decide (0x1000 ≤ off) && decide (off < 0x2000)) || (decide (0xB0000 ≤ off) && decide (off < 0xB2000)) ||
    (decide (0x40 ≤ off) && decide (off ≤ 0x60)) || off == 0xDFF014 || off == 0xDFF018

/-- The causes of R54, one recorded. -/
def State.setCause (s : State) (F : Field) : State :=
  (s.resetFields [Reg.PWR_RST_CAUSE_POR, Reg.PWR_RST_CAUSE_BROWNOUT, Reg.PWR_RST_CAUSE_WARM_PIN, Reg.PWR_RST_CAUSE_WARM_REG,
    Reg.PWR_RST_CAUSE_STANDBY_EXIT, Reg.PWR_RST_CAUSE_TEST]).setF F 1

/-- A warm reset with its cause: every island but VBAT, SLOW and the time base; external memory is put into self-refresh first. -/
def State.warmReset (s : State) (F : Field) : State :=
  let s := s.memDrain.logFlush.hostIsland.memWarm
  let p : Power := { s.pw.cold with warm := true, vbatPresent := s.pw.vbatPresent }
  let s := { State.reset with
    pending := s.pending, tick := s.tick, timers := s.timers, regs := s.regs.filter (fun kv => warmKeeps (kv.1 / 32)), tb := s.tb, sad := s.sad, mc := s.mc,
    mem := { Memories.reset with ext := s.mem.ext, mram := s.mem.mram, flash := s.mem.flash },
    jtag := s.jtag, pins := s.pins, hostOut := s.hostOut, irqOut := s.irqOut, readOut := s.readOut, free := s.free,
    vb := { s.vb with writes := [], rtcHi := 0, alarmHi := 0 }, pw := p,
    sum := { Summit.reset with key := s.sum.key, factory := s.sum.factory, companion := s.sum.companion, actBase := s.sum.actBase,
                               wdogPc := s.sum.wdogPc },
    src := { Src.reset with coolerOut := s.src.coolerOut }, cal := { Cal.reset with sad := s.cal.sad },
    pat := { Pat.reset with sent := s.pat.sent, mramAddr := s.pat.mramAddr },
    slm := { Slm.reset with liftIn := s.slm.liftIn }, log := { Log.reset with last := s.log.last, lastReg := s.log.lastReg } }
  (((s.setF Reg.PWR_STATUS_STATE stBoot).setF Reg.PWR_STATUS_REF_LOCK 0).setF Reg.PWR_STATUS_CONV_LOCK 0).setCause F

/-- The chip is powered and out of POR_L: a warm reset can happen. -/
def State.warmable (s : State) : Bool := !s.pw.standby && !s.pw.porLow && !s.pw.testHold && (s.pw.phase != .held || s.pw.warm)

/-- POR_L_ASSERT (R39, R51): POR_L goes low, for at least 10 µs when `long`; a shorter pulse is filtered. -/
def execPorLAssert (long : Bool) (s : State) : Out :=
  .next (if long then (s.updPw (fun (p : Power) => { p with porLow := true })).coldReset else s)

/-- SYS_RST_L_ASSERT (R51): SYS_RST_L goes low, for at least 1 µs when `long`; a shorter pulse is ignored (R473). -/
def execSysRstLAssert (long : Bool) (s : State) : Out := .next (if long && s.warmable then s.warmReset Reg.PWR_RST_CAUSE_WARM_PIN else s)

/-- A write of 1 to PWR_CTL.WARM_RST (R51, R78). -/
def State.warmRst (s : State) (v : Nat) : State := if v % 2 = 1 && s.warmable then s.warmReset Reg.PWR_RST_CAUSE_WARM_REG else s

/-- BROWNOUT_CROSSING (R41): VCORE, VSRAM or VIO18 crosses its threshold, downward when `below`; new MRAM and flash writes are blocked while it lies below. -/
def execBrownoutCrossing (below : Bool) (s : State) : Out :=
  .next (if s.pw.standby then s else s.updPw (fun (p : Power) => { p with brownBlock := below }))

/-- BROWNOUT_RESET (R41, R54): the crossing has lasted 2 µs. -/
def execBrownoutReset (s : State) : Out :=
  .next (if s.pw.standby || !s.pw.brownBlock then s
    else ((s.updPw (fun (p : Power) => { p with brownLog := true })).coldReset).setCause Reg.PWR_RST_CAUSE_BROWNOUT)

/-- VBAT_RESET (R43, R51, R57): the VBAT domain supply rises from below 1.2 V; PWR_ON goes high. A part whose other islands are in a cold reset is in STANDBY with no wake latched: the release of POR_L is its cold boot. -/
def execVbatReset (s : State) : Out :=
  .next ({ s with vb := { Vbat.reset with levels := s.vb.levels } }.updPw (fun (p : Power) =>
    { p with pwrOn := true, wakeTries := 0, wakeLatch := 0, standby := p.standby || (p.phase == BootPhase.held && !p.warm) }))

/-- VBAT_LOW (R43): VBAT falls below 1.6 V, or comes back. PWR_STATUS.VBAT_LOW shows it. -/
def execVbatLow (low : Bool) (s : State) : Out := .next (s.updPw (fun (p : Power) => { p with vbatPresent := !low }))

/-! ### Island reset (R51, R53, R443, R464) -/

/-- SUMMIT reset: its registers but the lock bits and the watchdog count; the boot ROM starts again. Buffered log entries are written first (R450). -/
def State.sumReset (s : State) : State :=
  let s := s.logFlush
  let locks := s.fld Reg.SUM_MRAM_LOCK_LOADER
  let ro := s.fld Reg.SUM_MRAM_LOCK_USER_RO
  let n := s.fld Reg.SUM_WDOG_COUNT
  let s := (((s.resetFields Reg.sumFields).setF Reg.SUM_MRAM_LOCK_LOADER locks).setF Reg.SUM_MRAM_LOCK_USER_RO ro).setF Reg.SUM_WDOG_COUNT n
  let k := s.sum
  ({ s with sum := { Summit.reset with key := k.key, factory := k.factory, companion := k.companion, actBase := k.actBase, subsys := k.subsys,
                                       wdogPc := k.wdogPc, wdogOwed := k.wdogOwed, wdogHandles := k.wdogHandles },
            mem := { s.mem with sram := [] } }).updPw (fun (p : Power) => { p with phase := .rom, restart := true, sumMhz := 25 })

/-- SUMMIT_WATCHDOG (R443): it runs in RUN and LOADER, and expires 1 s after its last restart: PC and count recorded, SUMMIT reset, and the summit's handles left for the restarted firmware. -/
def execSummitWatchdog (pc : Word) (s : State) : Out :=
  if !s.sumRuns || !(s.pstate == stRun || s.pstate == stLoader) || !s.timerDue .summit (ticksS 1) then .next s
  else
    let hs := (s.hq.handles.filter (fun x => x.started && !x.done && (x.op / 16 == 0 || x.op / 16 == 8 || x.op / 16 == 9))).map (fun x => (x.idx, x.gen))
    let s := (s.incF Reg.SUM_WDOG_COUNT).updSum (fun (m : Summit) => { m with wdogPc := pc.toNat, wdogOwed := true, wdogHandles := hs })
    .next s.sumReset

/-- DATAPATH reset: acquisition, streams, captures, the Raman path, the source drive and calibration lose their state; their commands end with ABORTED. -/
def State.dataReset (s : State) : State :=
  let s := ((s.unqueueStart).acqEnd stAborted 2 none).dtsEnd stAborted 2 s.dts.done
  let s := match s.acq.ending with
    | some e => s.acqOver e
    | none => s
  let s := (s.disarm stAborted 2).calEnd stAborted 2
  let s := s.slm.caps.foldl (fun (s : State) c => if c.stored then s else s.complete c.handle stAborted 2 0 0) s
  let s := s.slm.reads.foldl (fun (s : State) r => (s.readGone r.handle).complete r.handle stAborted 2 0 0) s
  let s := (List.range 4).foldl (fun (s : State) n => (s.endPumpSet n stAborted 2).offDone n) s
  { s with acq := Acq.reset, rx := Rx.reset, ph := Phase.reset, red := Red.reset, slm := { Slm.reset with liftIn := s.slm.liftIn }, dts := Dts.reset,
           src := { Src.reset with coolerOut := s.src.coolerOut }, cal := { Cal.reset with sad := s.cal.sad, tiu := s.cal.tiu } }.resetFields
    (Reg.prbFields ++ Reg.srcFields ++ Reg.rcvFields ++ Reg.cmpFields ++ Reg.redFields ++ Reg.slmFields ++ Reg.dtsFields ++ Reg.calFields ++
      Reg.tlaFields)

/-- PANEL reset: scan-out stops at once. -/
def State.panelReset (s : State) : State :=
  let hs := s.pnl.starters ++ s.pnl.stoppers ++ s.pnl.again.toList ++ s.pnl.palettes.map (·.1)
  let s := hs.foldl (fun (s : State) h => s.complete h stAborted 2 0 0) s
  { s with pnl := Pnl.reset }.resetFields Reg.pnlFields

/-- SLOW reset: the converter starts over at its reset settings (R363). -/
def State.slowReset (s : State) : State :=
  let f := match s.sad.fb with
    | some x => x.1.toList
    | none => []
  let c := match s.sad.cal with
    | some x => x.1.toList
    | none => []
  let s := (f ++ c ++ s.sad.waits.map (·.handle)).foldl (fun (s : State) h => s.complete h stAborted 2 0 0) s
  { s with sad := Sad.reset, cal := { s.cal with sad := false } }.resetFields Reg.sadFields

/-- CAIRN reset: telegram and replier, the sequencer and its memories, the mirror (R343, R410). -/
def State.cairnReset (s : State) : State :=
  let s := { s with crn := Crn.reset, pat := { Pat.reset with sent := s.pat.sent, mramAddr := s.pat.mramAddr },
                    vb := { s.vb with writes := [], rtcHi := 0, alarmHi := 0 } }
  ((s.resetFields Reg.crnFields).resetFields (Reg.patFields.filter (fun F => decide (F.off < 0xC1000)))).setF Reg.PAT_CTL_ADDR s.pat.mramAddr

/-- Island reset of the island with an index of R67 (R51). CONV holds no register of its own. -/
def State.islandReset (s : State) (n : Nat) : State :=
  if n = 1 then s.dataReset
  else if n = 2 then
    let m : Mc := { s.mc with flight := [], queue := [], mig := #v[none, none], want := #v[none, none], freq := none, setB := false,
                              owed := Mc.reset.owed, ces := [], migAcc := #v[0, 0] }
    { s with mc := m }.resetFields Reg.memFields
  else if n = 3 then s.hostIsland.updPw Power.linkDown
  else if n = 5 then s.sumReset
  else if n = 6 then (s.grm.jobs.foldl (fun (s : State) j => s.jobStop j stAborted 2) s).resetFields Reg.grmFields
  else if n = 8 then s.panelReset
  else if n = 9 then s.slowReset
  else if n = 10 then s.cairnReset
  else if 16 ≤ n ∧ n < 24 then s.rReset (n - 16)
  else s

/-- The islands that PWR_ISL_RST can hold, by bit (R53, R67). -/
def holdable : List Nat := [0, 1, 2, 3, 5, 6, 8, 9, 10, 16, 17, 18, 19, 20, 21, 22, 23]

/-- A value of PWR_ISL_RST takes effect: every island newly held is reset, and the link trains again once HOST is released (R51, R78). -/
def State.islRst (s : State) (v : Nat) : State :=
  let old := s.fld Reg.PWR_ISL_RST
  let s := s.setF Reg.PWR_ISL_RST v
  let s := if old.testBit 3 && !v.testBit 3 then s.updPw (fun (p : Power) => { p with linkTraining := !p.standalone && !p.perstLow }) else s
  (holdable.filter (fun n => v.testBit n && !old.testBit n)).foldl State.islandReset s

end Sys2Proof.Machine
end

