-- ==== Sys2Proof/Machine/Sad.lean ====
section
/-! DEFINITION. The slow converter (chapter 15): channel records, results and their values, excitation, blanking, the spare converter SX, and self-calibration. -/

namespace Sys2Proof.Machine

/-! ### Channels and converters (R345, R360) -/

/-- Codes of SAD_CH_STATUS.STATE (R364). -/
def sadOff : Nat := 0
def sadSettling : Nat := 1
def sadConverting : Nat := 2
def sadIdle : Nat := 3

/-- SX is connected, and to which pair. -/
def State.sxPair (s : State) : Option Nat :=
  let p := s.fld Reg.SAD_STATUS_FB_PAIR
  if p < 8 then some p else none

/-- SX stands in for converter SA`n`. -/
def State.sxReplaces (s : State) (n : Nat) : Bool := s.sxPair == some n && !s.on Reg.SAD_STATUS_FB_ROLE

/-- The converter that carries channel `n`; none for channel 8 while SX is free or replaces a converter. -/
def State.carrier (s : State) (n : Nat) : Option Nat :=
  if n < 8 then some (if s.sxReplaces n then 8 else n)
  else if s.sxPair.isSome && s.on Reg.SAD_STATUS_FB_ROLE then some 8 else none

/-- The channel that converter `c` carries. -/
def State.carried (s : State) (c : Nat) : Option Nat :=
  if c < 8 then (if s.sxReplaces c then none else some c)
  else match s.sxPair with
    | none => none
    | some p => some (if s.on Reg.SAD_STATUS_FB_ROLE then 8 else p)

/-- Channel `n` beside its registers. -/
def State.sadCh (s : State) (n : Nat) : SadCh := s.sad.chans.getD n SadCh.reset

/-- Channel `n` changed. -/
def State.updSadCh (s : State) (n : Nat) (f : SadCh → SadCh) : State := { s with sad := { s.sad with chans := vmod s.sad.chans n f } }

/-- The filter of channel `n` takes samples from now on. -/
def State.sadFrom (s : State) (n : Nat) : State := s.updSadCh n (fun (c : SadCh) => { c with startAt := s.now })

/-- The filter of channel `n` starts again: its conversion in progress is discarded (R348, R356). -/
def State.sadRestart (s : State) (n : Nat) : State :=
  let s := s.sadFrom n
  if !s.on Reg.SAD_CH_CFG_EN n then s.setF Reg.SAD_CH_STATUS_STATE sadOff n
  else
    let st := s.fld Reg.SAD_CH_STATUS_STATE n
    if s.on Reg.SAD_CH_CFG_SINGLE n && (st == sadOff || st == sadIdle) then s.setF Reg.SAD_CH_STATUS_STATE sadIdle n
    else s.setF Reg.SAD_CH_STATUS_STATE sadSettling n

/-! ### Channel records (R346, R347, R356) -/

/-- The offset of the first field of a channel record outside its range. -/
def sadBad (n : Nat) (bs : List Byte) : Option Nat :=
  let mode := field bs 6 1
  let mains := bit mode 0
  let ord := field bs 7 1
  let dec := field bs 8 4
  let kind := field bs 15 1
  firstBad [(field bs 0 4 != 0x44415353, 0), (field bs 4 2 != 1, 4), (mode - (mode &&& 0x87) != 0, 6),
    (!mains && (decide (ord < 3) || decide (5 < ord)), 7), (!mains && (decide (dec < 256) || decide (1638400 < dec)), 8),
    (decide (7 < field bs 12 1), 12), (decide (1 < field bs 13 1), 13), (decide (3 < field bs 14 1), 14), (decide (2 < kind), 15),
    (n != 8 && decide (100 < field bs 16 2), 16), (n != 8 && decide (100 < field bs 18 2), 18), (field bs 21 3 != 0, 21),
    (kind != 0 && field bs 24 4 == 0, 24), (kind != 0 && field bs 28 4 == 0, 28), (kind == 2 && field bs 36 4 != 0, 36),
    (if n = 8 then decide (1 < field bs 40 1) else field bs 40 1 != 0, 40), (field bs 41 7 != 0, 41)]

/-- The registers of channel `n` take a record. -/
def State.sadStore (s : State) (n : Nat) (bs : List Byte) : State :=
  let mode := field bs 6 1
  let s := (((s.setB Reg.SAD_CH_CFG_EN (bit mode 7) n).setB Reg.SAD_CH_CFG_MAINS (bit mode 0) n).setB Reg.SAD_CH_CFG_SINGLE (bit mode 1) n).setB
    Reg.SAD_CH_CFG_BLANK_EN (bit mode 2) n
  let s := (((s.setF Reg.SAD_CH_CFG_ORDER (field bs 7 1) n).setF Reg.SAD_CH_CFG_GAIN (field bs 12 1) n).setF Reg.SAD_CH_CFG_REF
    (field bs 13 1) n).setF Reg.SAD_CH_CFG_BURNOUT (field bs 14 1) n
  let s := ((s.setF Reg.SAD_CH_CFG_KIND (field bs 15 1) n).setF Reg.SAD_CH_CFG_START_EVT (field bs 20 1) n).setF Reg.SAD_CH_DEC (field bs 8 4) n
  let s := if n < 8 then (s.setF Reg.SAD_CH_EXC_IEX_A (field bs 16 2) n).setF Reg.SAD_CH_EXC_IEX_B (field bs 18 2) n else s
  let s := s.updSadCh n (fun (c : SadCh) => { c with rfs := field bs 24 4, rnom := field bs 28 4, coefA := sx 32 (field bs 32 4),
                                                     coefB := sx 32 (field bs 36 4) })
  let s := if n = 8 then { s with sad := { s.sad with role := field bs 40 1 } } else s
  s.clrF Reg.SAD_RES_FLAGS_FLAGS 1 n

/-- Converter `c` is still apart from its pair: the switch of R360 has not connected it yet. -/
def State.fbHolds (s : State) (c : Nat) : Bool := s.sad.fb.any (fun f => f.2.1 == c) && decide (s.fld Reg.SAD_STATUS_FB_PHASE < 3)

/-- A record applied to channel `n` (R356): restart, and EXC_RESTART when a source changed while a conversion was in progress.
A record for channel 8 while SX replaces a pair is only stored (R361). -/
def State.sadApply (s : State) (n : Nat) (bs : List Byte) : State :=
  let running := s.fld Reg.SAD_CH_STATUS_STATE n == sadConverting
  let moved := n != 8 && (s.fld Reg.SAD_CH_EXC_IEX_A n != field bs 16 2 || s.fld Reg.SAD_CH_EXC_IEX_B n != field bs 18 2)
  let s := s.sadStore n bs
  let s := if running && moved then
      (s.setF Reg.SAD_CH_STATUS_EXC_RESTART 1 n).updSadCh n (fun (c : SadCh) => { c with excFirst := true })
    else s
  match s.carrier n with
  | none => s
  | some c =>
    let s := s.sadRestart n
    if s.fbHolds c then s
    else if s.on Reg.SAD_CH_CFG_EN n then s.orF Reg.SAD_STATUS_ACTIVE (2 ^ c) else s.clrF Reg.SAD_STATUS_ACTIVE (2 ^ c)

/-- SAD_CONFIG (R347, R362): a channel whose converter is in its calibration slot takes the record when the slot ends. -/
def execSadConfig (h : Fin 256) (d : CmdData) (s : State) : Out :=
  match s.cmd? h.val 0x60 with
  | none => .next s
  | some x =>
    let n := x.p 0
    .next (if 8 < n then s.complete h.val stInvalid 24 0 0
      else s.withRecord x d 48 (fun s bs =>
        match sadBad n bs with
        | some o => s.complete h.val stInvalid 0xFF o 0
        | none =>
          if s.sad.cal.any (fun k => s.carrier n == some k.2.1) then
            let s := s.takeUp h.val
            { s with sad := { s.sad with waits := s.sad.waits ++ [⟨h.val, n, bs⟩] } }
          else (s.sadApply n bs).complete h.val stOk 0 0 0))

/-! ### Results (R351 to R355, R357) -/

/-- CODE before the clamp (R351). -/
def State.sadRaw (s : State) (c : Nat) (v : Int) : Int := shrRne ((v - s.fldS Reg.SAD_CAL_OFS c) * s.fld Reg.SAD_CAL_GAIN c) 22

/-- R/R_NOM of a code, in double precision (R352). -/
def SadCh.ratio (k : SadCh) (code : Int) : Dbl := (Dbl.ofRat (code * k.rfs) (2 ^ 23)).div (.ofInt k.rnom)

/-- The temperature of an RTD in °C, in double precision (R352); none where the equation has no value. -/
def rtdCelsius (code : Int) (k : SadCh) : Option Dbl :=
  let a := Dbl.ofRat k.coefA 1000000000
  let b := Dbl.ofRat k.coefB 1000000000000
  let x := k.ratio code
  if k.coefB = 0 then
    if k.coefA = 0 then none else some ((x.sub (.ofInt 1)).div a)
  else
    let disc := (a.mul a).sub (((Dbl.ofInt 4).mul b).mul ((Dbl.ofInt 1).sub x))
    if disc.m < 0 then none else some ((a.neg.add disc.sqrt).div ((Dbl.ofInt 2).mul b))

/-- VALUE of a result by KIND (R352); none for VALUE_BAD. -/
def State.sadValue (s : State) (n : Nat) (code : Int) : Option Int :=
  let k := s.sadCh n
  match s.fld Reg.SAD_CH_CFG_KIND n with
  | 1 =>
    if code * k.rfs ≤ 0 ∨ k.rnom = 0 then none
    else (rtdCelsius code k).bind (fun t =>
      if !(Dbl.ofInt (-200)).le t || !t.le (.ofInt 850) then none else some ((Dbl.ofInt 1000).mul (t.add (.ofRat 27315 100))).rhe)
  | 2 =>
    if code * k.rfs ≤ 0 ∨ k.rnom = 0 ∨ k.coefA = 0 then none
    else
      let inv := ((Dbl.ofInt 1).div (.ofRat 29815 100)).add ((k.ratio code).ln.div (.ofRat k.coefA 1000))
      if inv.m ≤ 0 then none
      else
        let t := (Dbl.ofInt 1).div inv
        if !(Dbl.ofInt 200).le t || !t.le (.ofInt 500) then none else some ((Dbl.ofInt 1000).mul t).rhe
  | _ =>
    some (if s.on Reg.SAD_CH_CFG_REF n then shrRne (code * 1000000) 23 else shrRne (code * 1250000) (23 + s.fld Reg.SAD_CH_CFG_GAIN n))

/-- A pause of SA_BLANK falls in the span of a result (R358); BLANK_MAX ends a pause early (R359). -/
def Pause.within (p : Pause) (first now : Nat) : Bool :=
  decide (p.start < now) && (p.stuck.or p.stop).all (fun e => decide (first < e))

/-- A sample of the span lies after the limit of R359 and before SA_BLANK falls. -/
def Pause.stuckIn (p : Pause) (first now : Nat) : Bool :=
  p.stuck.any (fun l => decide (l < now)) && p.stop.all (fun e => decide (first < e))

/-- The SAD_FALLBACK that waited for converter `c` completes at its first result (R360, R361). -/
def State.fbDone (s : State) (c : Nat) : State :=
  match s.sad.fb with
  | some (h, w, _) =>
    if w = c then
      let s := ({ s with sad := { s.sad with fb := none } }).setF Reg.SAD_STATUS_FB_PHASE (if s.sxPair.isSome then 4 else 0)
      match h with
      | some i => s.complete i stOk 0 0 0
      | none => s
    else s
  | none => s

/-- The result of channel `n` published: SAD_RES, the sticky flags, and the Raman path (R354, R355). -/
def State.sadPublish (s : State) (n c first : Nat) (v : Int) (ovr pos : Bool) : State :=
  let raw := s.sadRaw c v
  let code := satS 24 raw
  let clamp := decide (code ≠ raw)
  let k := s.sadCh n
  let run := if ovr && pos then k.posOvr + 1 else 0
  let opened := if !ovr then false else s.on Reg.SAD_CH_STATUS_OPEN n || (decide (2 ≤ run) && s.on Reg.SAD_CH_CFG_BURNOUT n)
  let bl := s.on Reg.SAD_CH_CFG_BLANK_EN n
  let blanked := bl && s.sad.pauses.any (fun p => p.within first s.now)
  let stuck := bl && s.sad.pauses.any (fun p => p.stuckIn first s.now)
  let val := if ovr || clamp then none else s.sadValue n code
  let flags := 1 + 2 * b2n ovr + 4 * b2n clamp + 8 * b2n opened + 16 * b2n blanked + 32 * b2n stuck + 64 * b2n k.excFirst +
    128 * b2n (s.on Reg.SAD_CH_CFG_MAINS n) + 256 * b2n val.isNone + 512 * b2n (decide (c = 8))
  let s := s.updSadCh n (fun (y : SadCh) => { y with posOvr := run, excFirst := false })
  let s := ((s.setS Reg.SAD_RES_CODE code n).setS Reg.SAD_RES_VALUE (val.getD 0) n).setF Reg.SAD_RES_FLAGS_FLAGS flags n
  let s := ((s.setF Reg.SAD_RES_FLAGS_CONVERTER c n).incF Reg.SAD_RES_SEQ n).set64 Reg.SAD_RES_STAMP_LO Reg.SAD_RES_STAMP_HI s.now n
  let s := s.setB Reg.SAD_CH_STATUS_OPEN opened n
  let s := if ovr then s.setF Reg.SAD_CH_STATUS_OVR 1 n else s
  let s := if clamp then s.setF Reg.SAD_CH_STATUS_CLAMP 1 n else s
  if s.on Reg.SAD_CH_CFG_KIND n && s.dts.run.isSome && s.dts.first.isSome then
    { s with dts := { s.dts with coils := s.dts.coils ++ [⟨n, s.now, val.getD 0, ovr || opened || stuck⟩] } }
  else s

/-- Channel `n` takes no modulator samples: SA_BLANK is high, and BLANK_MAX has not passed (R358, R359). -/
def State.sadBlanked (s : State) (n : Nat) : Bool :=
  s.on Reg.SAD_CH_CFG_BLANK_EN n && s.on Reg.SAD_STATUS_BLANK && s.sad.pauses.head?.any (fun p => p.stuck.isNone)

/-- Channel `n`, carried by converter `c`, can end a result with its first sample at `first`: the converter is connected and out of its calibration slot, the channel converts and is not blanked, and the filter had started (R348, R350, R358, R360, R362). -/
def State.sadLive (s : State) (n c first : Nat) : Bool :=
  let st := s.fld Reg.SAD_CH_STATUS_STATE n
  s.slowUp && !s.sad.cal.any (fun k => k.2.1 == c) && !s.fbHolds c && s.on Reg.SAD_CH_CFG_EN n &&
    (st == sadSettling || st == sadConverting) && !s.sadBlanked n && decide ((s.sadCh n).startAt ≤ first) && decide (first ≤ s.now)

/-- SAD_RESULT (R350, R351, R362): converter `c` ends a result whose first modulator sample lay at time `first`, with filtered value `v`. -/
def execSadResult (c : Fin 9) (first : BitVec 64) (v : Int) (ovr pos : Bool) (s : State) : Out :=
  match s.carried c.val with
  | none => .next s
  | some n =>
    if !s.sadLive n c.val first.toNat then .next s
    else
      let s := s.sadPublish n c.val first.toNat v ovr pos
      .next ((s.setF Reg.SAD_CH_STATUS_STATE (if s.on Reg.SAD_CH_CFG_SINGLE n then sadIdle else sadConverting) n).fbDone c.val)

/-- The 24-byte record of channel `n` (R353). -/
def State.sadRecord (s : State) (n : Nat) : List Byte :=
  leBytes 1 n ++ leBytes 1 (s.fld Reg.SAD_RES_FLAGS_CONVERTER n) ++ leBytes 2 (s.fld Reg.SAD_RES_FLAGS_FLAGS n) ++
    leBytes 4 (code 32 (s.fldS Reg.SAD_RES_CODE n)) ++ leBytes 4 (s.fld Reg.SAD_RES_VALUE n) ++ leBytes 4 (s.fld Reg.SAD_RES_SEQ n) ++
    leBytes 8 (s.fld64 Reg.SAD_RES_STAMP_LO Reg.SAD_RES_STAMP_HI n)

/-- SAD_READ (R353). -/
def execSadRead (h : Fin 256) (d : CmdData) (s : State) : Out :=
  match s.cmd? h.val 0x62 with
  | none => .next s
  | some x =>
    let m := x.p 0
    .next (if m = 0 ∨ 511 < m then s.complete h.val stInvalid 24 0 0
      else s.giveData x d (((List.range 9).filter (fun n => m.testBit n)).flatMap s.sadRecord))

/-- A single conversion of channel `n` asked for (R350). -/
def State.sadStart (s : State) (n : Nat) : State :=
  if !s.on Reg.SAD_CH_CFG_EN n || !s.on Reg.SAD_CH_CFG_SINGLE n || (s.carrier n).isNone then s
  else if s.fld Reg.SAD_CH_STATUS_STATE n = sadIdle then (s.sadFrom n).setF Reg.SAD_CH_STATUS_STATE sadConverting n
  else s.incF Reg.SAD_BUSY_HIT n

/-- SAD_START (R350): a start event of channel `n`, or its bit written to SAD_START. -/
def execSadStart (n : Fin 9) (s : State) : Out := .next (s.sadStart n.val)

/-! ### Blanking (R358, R359) -/

/-- SA_BLANK_CHANGE (R358): the filtered level changes. -/
def execSaBlankChange (level : Bool) (s : State) : Out :=
  if !s.slowUp || s.on Reg.SAD_STATUS_BLANK == level then .next s
  else
    let s := s.setB Reg.SAD_STATUS_BLANK level
    .next (if level then ({ s with sad := { s.sad with pauses := ⟨s.now, none, none⟩ :: s.sad.pauses } }).incF Reg.SAD_BLANK_COUNT
      else { s with sad := { s.sad with pauses := modAt s.sad.pauses 0 (fun (p : Pause) => { p with stop := some s.now }) } })

/-- SA_BLANK has stayed high longer than BLANK_MAX_MS, where 0 is taken as 1 (R359, R364). -/
def State.blankOver (s : State) : Bool :=
  s.slowUp && s.on Reg.SAD_STATUS_BLANK &&
    s.sad.pauses.head?.any (fun p => p.stuck.isNone && decide (p.start + max 1 (s.fld Reg.SAD_CTL) * 1000000 < s.now))

/-- BLANK_MAX_EXPIRY (R359): it acts once the limit has passed. -/
def execBlankMaxExpiry (s : State) : Out :=
  if s.blankOver then
    let s := { s with sad := { s.sad with pauses := modAt s.sad.pauses 0 (fun (p : Pause) => { p with stuck := some s.now }) } }
    .next ((s.setF Reg.SAD_STATUS_BLANK_STUCK 1).logEvt sevWarning 0x0304 (rowOf 0xB0000) [])
  else .next s

/-! ### The spare converter SX (R360, R361) -/

/-- A switch of SX begins: BREAK, then the discharge (R360). -/
def State.fbBreak (s : State) : State := (s.timerStart .discharge).setF Reg.SAD_STATUS_FB_PHASE 1

/-- SX released (R361): from MONITOR at once; from REPLACE the pair goes back to SA`n`, which discharges and settles. -/
def State.sxRelease (s : State) (h n : Nat) : State :=
  let mon := s.on Reg.SAD_STATUS_FB_ROLE
  let s := (s.setF Reg.SAD_STATUS_FB_PAIR 0xF).clrF Reg.SAD_STATUS_ACTIVE 0x100
  if mon then ((s.setF Reg.SAD_STATUS_FB_PHASE 0).setF Reg.SAD_CH_STATUS_STATE sadOff 8).complete h stOk 0 0 0
  else
    let s := (s.takeUp h).setF Reg.SAD_CH_STATUS_SX 0 n
    (({ s with sad := { s.sad with fb := some (some h, n, n) } }).fbBreak).sadRestart n

/-- SX joined to pair `n` in the role of channel 8's record (R360). -/
def State.sxJoin (s : State) (h n : Nat) : State :=
  let s := ((s.takeUp h).setF Reg.SAD_STATUS_FB_PAIR n).setF Reg.SAD_STATUS_FB_ROLE s.sad.role
  let s := ({ s with sad := { s.sad with fb := some (some h, 8, n) } }).fbBreak
  if s.sad.role = 0 then ((s.clrF Reg.SAD_STATUS_ACTIVE (2 ^ n)).setF Reg.SAD_CH_STATUS_SX 1 n).sadRestart n
  else s.sadRestart 8

/-- SAD_FALLBACK (R360 to R362). -/
def execSadFallback (h : Fin 256) (s : State) : Out :=
  match s.cmd? h.val 0x63 with
  | none => .next s
  | some x =>
    let n := x.p 0
    .next (if 7 < n ∧ n ≠ 0xFF then s.complete h.val stInvalid 24 0 0
      else if s.sad.cal.isSome then s.complete h.val stBusy 0x61 0 0
      else if s.sad.fb.isSome then s.complete h.val stBusy 0x63 0 0
      else match s.sxPair with
        | none => if n = 0xFF then s.complete h.val stOk 0 0 0 else s.sxJoin h.val n
        | some p =>
          if n = 0xFF then s.sxRelease h.val p
          else if n ≠ p then s.complete h.val stBusy 0x63 0 0
          else if s.sad.role = s.fld Reg.SAD_STATUS_FB_ROLE then s.complete h.val stOk 0 0 0
          else if s.sad.role = 0 then s.sxJoin h.val n
          else
            -- from REPLACE to MONITOR on one pair: SAn takes the pair back and SX goes on as channel 8
            let s := (((s.takeUp h.val).setF Reg.SAD_STATUS_FB_ROLE 1).setF Reg.SAD_CH_STATUS_SX 0 n).fbBreak
            (({ s with sad := { s.sad with fb := some (some h.val, n, n) } }).sadRestart n).sadRestart 8)

/-- BREAK is over within 1 µs and the discharge goes on (R360): part of the idle step. -/
def State.sadTick (s : State) : State :=
  if s.slowUp && s.fld Reg.SAD_STATUS_FB_PHASE == 1 then s.setF Reg.SAD_STATUS_FB_PHASE 2 else s

/-- FB_DISCHARGE_END (R360): the converter connects to the pair and its filter starts. -/
def execFbDischargeEnd (s : State) : Out :=
  match s.sad.fb with
  | some (_, c, _) =>
    let ph := s.fld Reg.SAD_STATUS_FB_PHASE
    if s.slowUp && (ph == 1 || ph == 2) && s.timerDue .discharge (ticksUs 101) then
      let s := (s.setF Reg.SAD_STATUS_FB_PHASE 3).orF Reg.SAD_STATUS_ACTIVE (2 ^ c)
      .next (match s.carried c with
        | some n => s.sadFrom n
        | none => s)
    else .next s
  | none => .next s

/-! ### Self-calibration (R362) -/

/-- Converter `c` enters its calibration slot: its connection opens, and the channel it carries delivers nothing until it has settled again. -/
def State.slotBegin (s : State) (c : Nat) : State :=
  let s := (s.timerStart .slot).clrF Reg.SAD_STATUS_ACTIVE (2 ^ c)
  match s.carried c with
  | some n => s.sadRestart n
  | none => s

/-- SAD_SELFCAL (R362). -/
def execSadSelfcal (h : Fin 256) (s : State) : Out :=
  match s.cmd? h.val 0x61 with
  | none => .next s
  | some _ =>
    .next (if s.sad.cal.isSome then s.complete h.val stBusy 0x61 0 0
      else if s.sad.fb.isSome then s.complete h.val stBusy 0x63 0 0
      else
        let s := (s.takeUp h.val).setF Reg.SAD_STATUS_CAL_BUSY 1
        ({ s with sad := { s.sad with cal := some (some h.val, 0, 0) } }).slotBegin 0)

/-- The offset and gain that a slot measured lie within the limits of R362. -/
def calGood (ofs : Int) (gain : Nat) : Bool :=
  decide (ofs.natAbs ≤ 2 ^ 20) && decide (19 * 2 ^ 22 ≤ 20 * gain) && decide (20 * gain ≤ 21 * 2 ^ 22)

/-- The records that waited for converter `c` are applied (R362). -/
def State.waitsApply (s : State) (c : Nat) : State :=
  let (hit, miss) := s.sad.waits.partition (fun w => s.carrier w.ch == some c)
  hit.foldl (fun (s : State) w => (s.sadApply w.ch w.record).complete w.handle stOk 0 0 0) { s with sad := { s.sad with waits := miss } }

/-- SELFCAL_SLOT_END (R362): the converter of the slot loads what it measured, and the next slot begins or the command completes. -/
def execSelfcalSlotEnd (ofs : BitVec 24) (gain : BitVec 24) (s : State) : Out :=
  match (if s.slowUp && s.timerDue .slot (ticksMs 24) then s.sad.cal else none) with
  | none => .next s
  | some (h, k, m) =>
    let s := s.timersStart (h.toList.map .handle)
    let o := ofs.toInt
    let ok := calGood o gain.toNat
    let s := if ok then { (s.setS Reg.SAD_CAL_OFS o k).setF Reg.SAD_CAL_GAIN gain.toNat k with cal := { s.cal with sad := true } } else s
    let m := if ok then m + 2 ^ k else m
    let last := decide (8 ≤ k)
    let s := { s with sad := { s.sad with cal := if last then none else some (h, k + 1, m) } }
    let live := (s.carried k).any (fun n => s.on Reg.SAD_CH_CFG_EN n)
    let s := match s.carried k with
      | some n => s.sadFrom n
      | none => s
    let s := (if live then s.orF Reg.SAD_STATUS_ACTIVE (2 ^ k) else s).waitsApply k
    if last then
      let s := s.setF Reg.SAD_STATUS_CAL_BUSY 0
      .next (match h with
        | some i => s.complete i (if m = 0x1FF then stOk else stPartial) 0 m 0
        | none => s)
    else .next (s.slotBegin (k + 1))

end Sys2Proof.Machine
end

