-- ==== Sys2Proof/Machine/Boot.lean ====
section
/-! DEFINITION. Cold boot, warm boot and the restart of SUMMIT (R47, R55, R56, R453, R455, R458, R499): release of the resets, the PLL locks, the loader's choice, the start-up records, memory training and the entry into RUN; with them the activation and confirmation of a generation (R461, R462). -/

namespace Sys2Proof.Machine

/-! ### Release of the resets -/

/-- COLD_BOOT (R34, R35, R51, R54, R55, R59): POR_L is released with STANDALONE and TEST_MODE at these levels; a part that leaves STANDBY is on its way to WATCH. -/
def execColdBoot (standalone testMode : Bool) (s : State) : Out :=
  if s.pw.phase != .held || s.pw.warm || (s.pw.standby && !s.pw.pwrOn) then .next s
  else if testMode then .next (s.updPw (fun (p : Power) => { p with testHold := true, porLow := false, standalone := standalone }))
  else
    let out := s.pw.standby && s.pw.wakeLatch != 0
    let held := s.pw.testHold
    let por := s.pw.porLow || s.pw.standby || held
    let s := s.updPw (fun (p : Power) =>
      { p with phase := .rom, standby := false, toWatch := out, testHold := false, porLow := false, standalone := standalone, brownBlock := false,
               rstOut := false, crs := true, linkTraining := !standalone && !p.perstLow && !out, wakeTries := 0,
               trans := if out then some ⟨3, 1, [], true⟩ else none })
    let s := if out then s.setCause Reg.PWR_RST_CAUSE_STANDBY_EXIT else if por then s.setCause Reg.PWR_RST_CAUSE_POR else s
    let s := if held then s.setF Reg.PWR_RST_CAUSE_TEST 1 else s
    let s := s.setB Reg.PWR_STATUS_WAKE_FAIL ((s.vb.ret.getD 0 0).testBit 0)
    .next ((s.setF Reg.PAT_CTL_ADDR s.pat.mramAddr).mirrorCopy)

/-- WARM_BOOT (R56): a warm reset ends. -/
def execWarmBoot (s : State) : Out :=
  if s.pw.phase != .held || !s.pw.warm then .next s
  else
    let s := s.updPw (fun (p : Power) => { p with phase := .rom, rstOut := false, crs := true, linkTraining := !p.standalone && !p.perstLow })
    .next ((s.setF Reg.PAT_CTL_ADDR s.pat.mramAddr).mirrorCopy)

/-- SYSTEM_PLL_LOCK (R46, R47, R55): the system PLL locks to the selected reference, or holds over without one; SUMMIT moves to 400 MHz. -/
def execSystemPllLock (s : State) : Out :=
  .next (if !s.awake then s
    else (s.updPw (fun (p : Power) => { p with sumMhz := 400, holdover := !s.refPresent })).setB Reg.PWR_STATUS_REF_LOCK s.refPresent)

/-- CONV_PLL_LOCK (R55, R59, R436): at a boot the calibration store is selected and the trims are loaded; on the way to WATCH the PLL locks at 1.0 GHz. -/
def execConvPllLock (s : State) : Out :=
  .next (if !s.awake then s
    else
      let s := s.setF Reg.PWR_STATUS_CONV_LOCK 1
      if s.pw.toWatch || s.pstate == stRun || s.pstate == stWatch then s else s.calLoad)

/-! ### The generation's parts in use -/

/-- A 32-bit word put into every field at an offset. -/
def State.putWord (s : State) (off v : Nat) : State := (fieldsAt off).foldl (fun (s : State) x => s.setF x.1 (v / 2 ^ x.1.lsb) x.2) s

/-- A record of TABLES whose layout the spec leaves open, put into a field as a free value (log entry 31). -/
def State.freeField (s : State) (F : Field) (i : Nat) : State :=
  let (v, s) := s.freeVal F.width
  s.setF F v i

/-- MEM_CFG.SPEED from a record of TABLES: one of the three speeds (R300, R323). -/
def State.freeSpeed (s : State) : State :=
  let (v, s) := s.freeVal 32
  s.setF Reg.MEM_CFG_SPEED (v % 3)

/-- A record of TABLES applied by the starting firmware (R412, R446, R458); `all` at a cold or warm boot, not at a restart of SUMMIT. Types 2 and 3 are applied at training, type 4 at the end of a cold boot. -/
def State.tabApply (s : State) (all : Bool) (r : TabRec) : State :=
  match r.type with
  | 1 => s.updSum (fun (m : Summit) => { m with subsys := field r.data 0 4 })
  | 2 => s
  | 3 => s
  | 4 => s
  | 5 =>
    if all then
      ((s.putWord (Reg.PAT_TRIP_CFG_EVT.addr 0) (field r.data 0 4)).putWord (Reg.PAT_TRIP_CFG_EVT.addr 1) (field r.data 4 4)).updPat
        (fun (p : Pat) => { p with hold := false })
    else s
  | 6 => s
  | 7 => if r.data.length = 96 ∧ limitsBad r.data = none then s.setLimits r.data else s
  | 8 =>
    if all then
      (List.range 2).foldl (fun (s : State) c => (s.freeField Reg.MEM_CH_CFG_SPARE c).freeField Reg.MEM_CH_CFG_CE_THR c) (s.freeSpeed)
    else s
  | 9 => s
  | _ =>
    let (sev, s) := s.freeVal 2
    let (c, s) := s.freeVal 16
    s.logEvt sev c sumRow []

/-- The records of the running generation, in TYPE order. -/
def inTypeOrder (ts : List TabRec) : List TabRec :=
  (List.range 10).flatMap (fun t => ts.filter (fun r => r.type == t)) ++ ts.filter (fun r => decide (10 ≤ r.type))

/-- SUMMIT and HQE parts started: versions, records, the confirmation timer (R455, R458, R462). -/
def State.firmwareStart (s : State) (all : Bool) : State :=
  let ver (t : Nat) : Nat := ((s.flashPart t).map (fun p => p.1.ver)).getD 0
  let tabs := ((s.flashPart 5).map (fun p => tabRecords (p.2.length / 4) p.2)).getD []
  let s := s.updSum (fun (m : Summit) => { m with sumVer := ver 1, hqeVer := ver 4, tables := tabs })
  let s := (s.setF Reg.SUM_BOOT_STATUS_PERSONALITY 1).updPw (fun (p : Power) => { p with phase := .firmware, crs := false, restart := false }) |>.timerStart .summit
  let s := if s.genConfirmed then s
    else ((s.updSum (fun (m : Summit) => { m with confirmNs := 120000000000 })).setF Reg.SUM_BOOT_STATUS_CONFIRM_PENDING 1).setF Reg.SUM_CONFIRM_LEFT 120
  (inTypeOrder s.sum.tables).foldl (fun (s : State) r => s.tabApply all r) s

/-- A BOOT entry (R451). -/
def State.bootLog (s : State) (src : Nat) : State :=
  let cause := s.fld Reg.PWR_RST_CAUSE_POR + 2 * s.fld Reg.PWR_RST_CAUSE_BROWNOUT + 4 * s.fld Reg.PWR_RST_CAUSE_WARM_PIN +
    8 * s.fld Reg.PWR_RST_CAUSE_WARM_REG + 16 * s.fld Reg.PWR_RST_CAUSE_STANDBY_EXIT + 32 * s.fld Reg.PWR_RST_CAUSE_TEST
  s.logEvt sevInfo 0x0001 src (leBytes 4 s.genNo ++ leBytes 1 s.pstate ++ leBytes 1 (s.fld Reg.SUM_BOOT_STATUS_PERSONALITY) ++ leBytes 1 cause ++
    leBytes 1 (s.fld Reg.SUM_BOOT_STATUS_REASON) ++ leBytes 6 s.vb.rtc)

/-! ### The loader's choice (R453, R455) -/

/-- The loader region holds a manifest with one part of TYPE 0, whose key hash, signature and digest are right (R455, step 1). -/
def State.loaderGood (s : State) : Bool :=
  let m := s.mem.mram.readN 0 1248
  let p := partAt m 0
  field m 0 4 == 0x464D4847 && field m 4 2 == 1 && field m 6 1 == 1 && p.type == 0 && decide (p.ofs + p.len ≤ 0x20000) && s.keyOk m &&
    signatureOk m && sha384 (s.mem.mram.readN p.ofs p.len) == p.digest

/-- What the loader decides. -/
inductive Choice where
  | run | resume
  | loader (reason : Nat)
  deriving DecidableEq, Repr

/-- The staged manifest is the one of the journal (R455, step 3). -/
def State.stagedIsJournal (s : State) : Bool := sha384 (s.actGet 0 1248) == s.journal.manDigest && !s.poisoned s.sum.actBase 1248

/-- The choice, for a boot whose BOOTS count has been taken (R453, R455); a FAILED journal of reason 4 or 5 gives LOADER again. -/
def State.choose (s : State) (warm spent : Bool) : Choice :=
  let j := s.journal
  if !s.genValid then .loader 1
  else if spent then .loader 4
  else if j.state = jFailed ∧ (j.reason = 4 ∨ j.reason = 5) then .loader j.reason
  else if j.state = jActivating then (if warm && s.stagedIsJournal then .resume else .loader 3)
  else if s.flashGood s.genNo then .run
  else .loader 2

/-- LOADER personality (R29, R55, R455): PRB, SRC and DTS stay in reset; journal FAILED under reasons 4 and 5; BOOT and UPDATE_FAIL entries; STATE changes. -/
def State.enterLoader (s : State) (reason : Nat) : State :=
  let s := if s.pw.restart then s.dataReset else s
  let j := s.journal
  let s := (((s.setF Reg.SUM_BOOT_STATUS_PERSONALITY 2).setF Reg.SUM_BOOT_STATUS_REASON reason).setF Reg.SUM_UPD_STATUS_REASON reason).setMode stLoader
  let s := s.updPw (fun (p : Power) => { p with phase := .loader, crs := false, restart := false })
  let s := if (reason = 4 ∨ reason = 5) ∧ j.state ≠ jFailed then s.jrnEnter { j with reason := reason } jFailed 0x21 else s
  (s.bootLog 0x21).updateFail reason j.gen (s.fld Reg.SUM_UPD_STATUS_PART) 0x21

/-- The restarted summit writes its SUM_WDOG entry and completes the handles it held, but for one whose index is free by then (R443, R468). -/
def State.wdogReport (s : State) : State :=
  if !s.sum.wdogOwed then s
  else
    let hs := s.sum.wdogHandles
    let s := s.logEvt sevFault 0x0005 sumRow (leBytes 4 s.sum.wdogPc ++ leBytes 4 (s.fld Reg.SUM_WDOG_COUNT))
    let s := s.updSum (fun (m : Summit) => { m with wdogOwed := false, wdogHandles := [] })
    hs.foldl (fun (s : State) h => if (s.handle? h.1).any (fun x => x.gen == h.2) then s.complete h.1 stHwFault 0x40 0 0 else s) s

/-- Slow-converter self-calibration of a cold boot (R55). -/
def State.bootSelfcal (s : State) : State :=
  ({ s with sad := { s.sad with cal := some (none, 0, 0) } }.setF Reg.SAD_STATUS_CAL_BUSY 1).slotBegin 0

/-- LOADER_START (R450, R453 to R455): the boot ROM checks the loader, and the loader chooses; after an island reset of SUMMIT it leaves out training, companion reset and the boot count. -/
def execLoaderStart (s : State) : Out :=
  if s.pw.phase != .rom || s.pw.toWatch || s.pstate == stWatch || (s.fld Reg.PWR_ISL_RST).testBit 5 then .next s
  else
    let again := s.pw.restart
    let s := ((s.timerStart .summit).logScan.genShow).setF Reg.SUM_UPD_STATUS_STATE s.journal.state
    if !s.loaderGood then
      .next ((s.setF Reg.SUM_BOOT_STATUS_LOADER_BAD 1).updPw (fun (p : Power) => { p with crs := false }))
    else
      let s := if s.sum.factory then s else s.setF Reg.SUM_MRAM_LOCK_LOADER 1
      let s := if again then s else s.updPw (fun (p : Power) => { p with rstOut := true })
      let s := if s.pw.brownLog then (s.logEvt sevWarning 0x0004 0x21 []).updPw (fun (p : Power) => { p with brownLog := false }) else s
      let counts := !again && s.genValid && !s.genConfirmed && s.journal.state == jActivated
      let n := s.genBoots + 1
      let s := if counts && decide (n ≤ 3) then s.genPut s.genNo n false else s
      let warm := s.pw.warm || again
      let s := match s.choose warm (counts && decide (3 < n)) with
        | .run => s.firmwareStart (!again)
        | .resume => (s.actBegin none).updPw (fun (p : Power) => { p with phase := .loader, restart := false })
        | .loader r => s.enterLoader r
      .next (if warm then s.wdogReport else s.wdogReport.bootSelfcal)

/-! ### Memory and the entry into RUN -/

/-- A region table of TABLES: seven pairs of base and size in MiB, a fourteenth of the record each (log entry 31). -/
def tabRegions (bs : List Byte) : List (Nat × Nat) :=
  let w := bs.length / 14
  (List.range 7).map (fun n => (field bs (2 * n * w) w, field bs ((2 * n + 1) * w) w))

/-- The layout that a boot loads: of TABLES by type, or for a LOADER without one a STAGING region at a base of its own (log entry 31). -/
def State.layoutLoad (s : State) (degraded : Bool) : State :=
  match s.sum.tables.find? (fun r => r.type == (if degraded then 3 else 2)) with
  | some r => s.rgnLoad (tabRegions r.data)
  | none =>
    if s.loaderPers then
      let (b, s) := s.freeVal 17
      let room := s.fld Reg.MEM_SIZE - 64
      s.rgnPut ((List.replicate 5 (0, 0)) ++ [(b % (room + 1), if s.fld Reg.MEM_SIZE < 64 then 0 else 64), (0, 0)])
    else s

/-- Memory is still to be brought up: in a boot, in LOADER, or on the way from WATCH to RUN. -/
def State.trainDue (s : State) : Bool :=
  s.awake && !s.pw.toWatch &&
    (if s.pstate == stWatch then s.pw.trans.any (fun t => t.dst == 2) else s.pw.phase != .rom && s.fld Reg.MEM_STATUS_TRAINED == 0)

/-- MEMORY_TRAINING_DONE (R56, R57, R59, R304, R322, R499): each channel's trained ranks, or none. A record that does not match the memory means full training, which loses its contents. -/
def execMemoryTrainingDone (t0 t1 : Option RankSet) (s : State) : Out :=
  if !s.trainDue then .next s
  else
    let byRecord := s.pw.warm || s.pstate == stWatch
    let full := byRecord && s.mc.record.sets != #v[t0, t1]
    let kept := s.pstate == stWatch && !s.pw.fresh
    if kept && !full then .next s.memWake
    else
    let s := if full then { s with mem := { s.mem with ext := [] }, mc := { s.mc with poison := [] } } else s
    let s := s.memTrain t0 t1 (if byRecord && !full then s.mc.speed else s.fld Reg.MEM_CFG_SPEED)
    let bad := t0.isNone || t1.isNone
    let s := s.setB Reg.MEM_STATUS_DEGRADED bad
    let s := if bad || full then
        s.logEvt sevWarning 0x0204 (rowOf 0x90000) (leBytes 1 (s.fld Reg.MEM_STATUS_TRAINED) ++ leBytes 1 (b2n full) ++ leBytes 1 (b2n bad))
      else s
    .next (if kept then s else s.layoutLoad bad)

/-- The ridge images of the generation loaded, and firn memory cleared (R55). -/
def State.bootRidge (s : State) : State :=
  let ridge := (manParts (s.flashGet 0 4096)).filter (fun p => p.type == 2)
  let s := ridge.foldl (fun (s : State) p =>
    match ridgeImage (s.flashGet p.ofs p.len) with
    | .ok e xs => ((List.range 8).filter (fun c => p.index == 0xFF || p.index == c)).foldl (fun (s : State) c => s.updRc c (fun (r : Rcore) => r.load e xs)) s
    | _ => s) s
  { s with mem := { s.mem with firn := [] } }

/-- The CAIRN part of the generation loaded (R55, R335). -/
def State.bootCairn (s : State) : State :=
  match s.flashPart 3 with
  | some p => s.crnLoad p.2
  | none => s

/-- The start-up records of the slow converter: a channel, then 48 bytes (R346, R458). -/
def State.bootSad (s : State) : State :=
  (s.sum.tables.filter (fun r => r.type == 4)).foldl (fun (s : State) r =>
    let k := r.data.length - 48
    let n := field r.data 0 k
    if r.data.length < 49 ∨ 8 < n ∨ (sadBad n (r.data.drop k)).isSome then s else s.sadApply n (r.data.drop k)) s

/-- BOOT_COMPLETE (R55, R56): images loaded, lanes checked against their stored trims, STATE reads RUN, a BOOT entry and vector 0. -/
def execBootComplete (ms : List LaneMeas) (s : State) : Out :=
  if s.pw.phase != .firmware || s.pstate != stBoot || s.sum.act.isSome then .next s
  else
    let cold := !s.pw.warm
    let s := s.bootRidge.bootCairn.calCheck ms
    let s := if cold then s.bootSad else s
    let s := (s.updPw (fun (p : Power) => { p with warm := false })).setMode stRun
    .next (s.bootLog sumRow)

/-! ### Activation steps and the confirmation timer (R461, R462) -/

/-- The end of an activation (R461, steps 4 to 7): manifest page, generation word, ACTIVATED, DONE, warm reset. -/
def State.actDone (s : State) (h : Option Nat) (m : List Byte) : State :=
  let ps := manParts m
  let s := (s.flashErase (fun a => ps.any (fun p => p.type != 6 && decide (p.ofs ≤ a) && decide (a < p.ofs + p.len)))).flashPut 0 m
  let s := (s.genPut (manGen m) 0 false)
  let s := s.jrnEnter s.journal jActivated 0x21
  let s := s.updSum (fun (k : Summit) => { k with act := none })
  let s := match h with
    | some i => s.complete i stOk 0 ps.length 0
    | none => s
  s.warmReset Reg.PWR_RST_CAUSE_WARM_REG

/-- ACTIVATION_PROGRESS (R461): the loader finishes the next part, its read-back good, or failed twice; it waits while external memory gives no credit (R20). -/
def execActivationProgress (r : ActOutcome) (s : State) : Out :=
  match s.sum.act with
  | none => .next s
  | some a =>
    match a.left with
    | [] => .next s
    | i :: rest =>
      if !s.sumRuns || !s.memReady then .next s
      else
        let s := s.timersStart (a.handle.toList.map .handle)
        let m := s.actGet 0 4096
        let p := partAt m i
        let bs := s.actGet p.ofs p.len
        let s := (s.setF Reg.SUM_UPD_STATUS_PART i).linesRead (s.sum.actBase + p.ofs) p.len
        .next (if s.poisoned (s.sum.actBase + p.ofs) p.len then s.actFail a.handle i stDataError 2
          else if sha384 bs != (s.journal.partDigests.drop (48 * i)).take 48 then s.actFail a.handle i stDataError 3
          else if p.type = 6 ∧ (r ≠ .ok ∨ !compOk bs) then s.actFail a.handle i stHwFault 0x51
          else if r ≠ .ok then s.actFail a.handle i stHwFault 0x50
          else
            let s := if p.type = 6 then s.updSum (fun (k : Summit) => { k with companion := k.companion ++ compPages bs }) else s.flashPut p.ofs bs
            let s := s.updSum (fun (k : Summit) => { k with act := some { a with left := rest } })
            let s := match a.handle with
              | some h => s.progress h i 0
              | none => s
            if rest.isEmpty then s.actDone a.handle m else s)

/-- CONFIRM_TIMEOUT (R462): it stands still in WATCH. -/
def execConfirmTimeout (s : State) : Out :=
  .next (if s.sumRuns && s.on Reg.SUM_BOOT_STATUS_CONFIRM_PENDING && s.sum.confirmNs == 0 then
      (s.updateFail 4 s.genNo 0 sumRow).warmReset Reg.PWR_RST_CAUSE_WARM_REG
    else s)

end Sys2Proof.Machine
end

