-- ==== Sys2Proof/Machine/Power.lean ====
section
/-! DEFINITION. Power-state transitions (R26, R57 to R59, R325, R336, R337, R460, R475), the reference inputs (R44 to R47), the configuration space (R55, R79) and the boundary-scan port (R36). -/

namespace Sys2Proof.Machine

/-- Row of the PWR block, the source of its log entries. -/
def pwrRow : Nat := rowOf 0x1000

/-- PWR_WAKE_SRC as its word. -/
def State.wakeSrc (s : State) : Nat :=
  s.fld Reg.PWR_WAKE_SRC_RTC + 2 * s.fld Reg.PWR_WAKE_SRC_WAKE0 + 4 * s.fld Reg.PWR_WAKE_SRC_WAKE1 + 8 * s.fld Reg.PWR_WAKE_SRC_TAMPER +
    16 * s.fld Reg.PWR_WAKE_SRC_CAIRN_RULE + 32 * s.fld Reg.PWR_WAKE_SRC_COMMAND

/-- A STATE entry (R451). -/
def State.stateLog (s : State) (old new : Nat) : State := s.logEvt sevInfo 0x0002 pwrRow (leBytes 1 old ++ leBytes 1 new ++ leBytes 1 s.wakeSrc)

/-- PUMP_MASK of the watch record: the pumps that WATCH keeps. -/
def State.pumpMask (s : State) : Nat := field s.wrec 28 1 % 16

/-- What leaving RUN stops (R26): acquisition, Raman average, slalom, calibration, spare lane, panel, and the pumps that the new state does not keep. -/
def State.leaveRun (s : State) (dst : Nat) : State :=
  let s := ((s.unqueueStart).acqEnd stAborted 2 none).dtsEnd stAborted 2 s.dts.done
  let s := if s.on Reg.SLM_STATUS_ARMED then s.disarm stAborted 2 else s
  let s := ((s.calEnd stAborted 2).spFree).pnlStop none
  let keep := if dst = 1 then s.pumpMask else 0
  (List.range 4).foldl (fun (s : State) n => if keep.testBit n then s else s.rampOff n) s

/-- A transition begins by command (R57). -/
def State.transBegin (s : State) (src dst h : Nat) : State :=
  let s := (s.takeUp h).setF Reg.PWR_WAKE_SRC_COMMAND 1
  if dst = 2 then s.toRunBegin [h] false
  else
    let s := if src = 2 then s.leaveRun dst else s
    s.updPw (fun (p : Power) => { p with trans := some ⟨src, dst, [h], false⟩ })

/-- A queued request for RUN is cancelled by a request to shut down (R475). -/
def State.unqueueRun (s : State) : State :=
  match s.pw.queued with
  | none => s
  | some t =>
    t.handles.foldl (fun (s : State) h => s.complete h stAborted 3 0 0) ((s.updPw (fun (p : Power) => { p with queued := none })).showState s.pstate)

/-- POWER_STATE `d` meets the transition `t` under way (R59, R475): it joins one to the same state; RUN is queued behind a WATCH entry; another request is refused. -/
def State.powerMeets (s : State) (t : Transition) (h d : Nat) : State :=
  if d = 2 ∧ t.dst = 1 then
    match s.pw.queued with
    | some _ => s.complete h stBusy 0x04 0 0
    | none => ((s.takeUp h).updPw (fun (p : Power) => { p with queued := some ⟨1, 2, [h], false⟩ })).showState stStopping
  else
    let s := if d = 2 then s else s.unqueueRun
    if d = t.dst then
      (s.takeUp h).updPw (fun (p : Power) => { p with trans := p.trans.map (fun (x : Transition) => { x with handles := x.handles ++ [h] }) })
    else s.complete h stNotReady 5 0 0

/-- POWER_STATE (R29, R43, R57, R325, R337, R460). -/
def execPowerState (h : Fin 256) (s : State) : Out :=
  match s.cmd? h.val 0x04 with
  | none => .next s
  | some x =>
    let d := x.p 0
    .next (if d = 0 ∨ 3 < d then s.complete h.val stInvalid 24 0 0
      else if s.loaderPers then (if d = 2 then s.complete h.val stOk 0 stLoader 0 else s.complete h.val stNotReady 4 0 0)
      else if d = 3 ∧ s.vb.cfg % 16 = 0 then s.complete h.val stInvalid 24 0 0
      else if s.activating then s.complete h.val stBusy 0x83 0 0
      else if d = 3 ∧ !s.pw.vbatPresent then s.complete h.val stNotReady 6 0 0
      else if s.pstate = stBoot then s.complete h.val stNotReady 5 0 0
      else match s.pw.trans with
        | some t => s.powerMeets t h.val d
        | none =>
          if d = s.pstate then s.complete h.val stOk 0 d 0
          else if d = 1 then
            match s.watchBad with
            | some (st, det, r0) => s.complete h.val st det r0 0
            | none => s.transBegin s.pstate 1 h.val
          else s.transBegin s.pstate d h.val)

/-! ### The end of a transition -/

/-- The digest that the journal records for the part of a type (R454). -/
def Journal.digestOf (j : Journal) (type : Nat) : Option (List Byte) :=
  (findIdxBelow (fun i => (j.types.getD i 0).toNat == type) (min 16 j.parts)).map (fun i => (j.partDigests.drop (48 * i)).take 48)

/-- The flash part of a type, when it carries the digest of the journal (R59). -/
def State.journalPart (s : State) (type : Nat) : Option (List Byte) :=
  match s.flashPart type with
  | some p => if s.journal.digestOf type = some (sha384 p.2) then some p.2 else none
  | none => none

/-- The handles of a transition complete. -/
def State.transComplete (s : State) (t : Transition) (r : Nat) : State := t.handles.foldl (fun (s : State) h => s.complete h stOk 0 r 0) s

/-- WATCH reached from RUN (R26, R57, R320, R326): memory in self-refresh, link idle, slice and sequencer started. -/
def State.watchFromRun (s : State) (t : Transition) : State :=
  let s := if s.panelOn then s.pnlOver else s
  let s := ((s.memSleep.tgEnterWatch).setMode stWatch).stateLog stRun stWatch
  let s := (s.transComplete t stWatch).updPw (fun (p : Power) => { p.linkDown with trans := none })
  let s := { s with acq := { s.acq with dac := watchDac s.wrec } }.crnStart
  if s.pw.queued.isSome then s.showState stStopping else s

/-- WATCH reached from STANDBY (R59): the CAIRN part is checked against the journal and loaded; the wake sources show. -/
def State.watchFromStandby (s : State) : State :=
  let s := match s.journalPart 3 with
    | some bs => s.crnLoad bs
    | none => s.updCrn (fun (c : Crn) => { c with valid := false })
  let s := s.keepSource s.pw.wakeLatch
  let s := (s.showWake.mirrorCopy).updPw (fun (p : Power) => { p with trans := none, toWatch := false, fresh := true })
  let s := s.tgEnterWatch.setMode stWatch
  if s.crn.valid then { s with acq := { s.acq with dac := watchDac s.wrec } }.crnStart else s

/-- The summit firmware, ridge images, calibration and start-up records after a STANDBY exit; a digest that fails gives LOADER as a bad flash image (R57, R59). -/
def State.freshRun (s : State) : State :=
  let s := (s.logScan.genShow).setF Reg.SUM_UPD_STATUS_STATE s.journal.state
  let s := s.updPw (fun (p : Power) => { p with fresh := false, rstOut := true })
  if (s.journalPart 1).isNone || (s.journalPart 4).isNone then s.enterLoader 2
  else ((s.firmwareStart true).calLoad.bootRidge.bootSad).setMode stRun

/-- RUN reached from WATCH (R57 to R59, R320): a host reset owed is applied, the sequencer stops. -/
def State.runFromWatch (s : State) (t : Transition) : State :=
  let owed := s.pw.hostResetOwed
  let s := ({ s.crnStop.tgEnterRun with acq := { s.acq with dac := .idle } }).updPw (fun (p : Power) => { p with trans := none, hostResetOwed := false })
  let s := if owed then s.hostIsland else s
  let s := if s.pw.fresh then s.freshRun else s.memWake.setMode stRun
  let s := (s.timerStart .summit).stateLog stWatch s.pstate
  if owed then s else s.transComplete t s.pstate

/-- STANDBY reached (R57, R59): its command completes (the result has no STATE code: log entry 32), the log is flushed, all but VBAT is reset, PWR_ON falls; a wake latched meanwhile raises it again. -/
def State.standbyReached (s : State) (t : Transition) : State :=
  let (r, s) := s.freeVal 4
  let s := ((s.transComplete t r).coldReset).updPw (fun (p : Power) => { p with standby := true, pwrOn := false, wakeTries := 0 })
  if s.pw.wakeLatch ≠ 0 then (s.timerStart .wake).updPw (fun (p : Power) => { p with pwrOn := true }) else s

/-- TRANSITION_DONE (R57): the transition under way reaches its state; from RUN, once acquisition has drained. -/
def execTransitionDone (s : State) : Out :=
  match s.pw.trans with
  | none => .next s
  | some t =>
    .next (if !s.awake || (t.src = 2 && (s.acqRuns || (t.dst = 1 && !s.mc.flight.isEmpty))) then s
      else if t.dst = 2 then s.runFromWatch t
      else if t.dst = 3 then s.standbyReached t
      else if t.src = 3 then s.watchFromStandby
      else s.watchFromRun t)

/-- QUEUED_TRANSITION_START (R57, R475): the RUN request behind a WATCH entry starts; STATE shows STARTING. -/
def execQueuedTransitionStart (s : State) : Out :=
  match s.pw.queued, s.pw.trans with
  | some t, none =>
    .next (if s.pstate = stWatch then
        (((s.updPw (fun (p : Power) => { p with queued := none })).toRunBegin t.handles false).setF Reg.PWR_WAKE_SRC_COMMAND 1).showState stStarting
      else s)
  | _, _ => .next s

/-- STANDBY_WAKE (R57, R59): a wake latched in STANDBY drives PWR_ON high. -/
def execStandbyWake (s : State) : Out :=
  .next (if s.pw.standby && s.pw.wakeLatch != 0 && !s.pw.pwrOn then (s.timerStart .wake).updPw (fun (p : Power) => { p with pwrOn := true, wakeTries := 0 }) else s)

/-- WAKE_RETRY_TIMER (R59): 1 s after PWR_ON rose without POR_L it falls; 1 s later it rises once more; the second failure sets WAKE_FAIL and stays in STANDBY. -/
def execWakeRetryTimer (s : State) : Out :=
  .next (if !s.pw.standby || !s.timerDue .wake (ticksS 1) then s
    else if s.pw.pwrOn && s.pw.wakeTries == 0 then (s.timerStart .wake).updPw (fun (p : Power) => { p with pwrOn := false, wakeTries := 1 })
    else if !s.pw.pwrOn && s.pw.wakeTries == 1 then (s.timerStart .wake).updPw (fun (p : Power) => { p with pwrOn := true })
    else if s.pw.pwrOn && s.pw.wakeTries == 1 then
      (s.updVb (fun (b : Vbat) => { b with ret := vmod b.ret 0 (fun v => v ||| 1) })).updPw
        (fun (p : Power) => { p with pwrOn := false, wakeTries := 0, wakeLatch := 0 })
    else s)

/-! ### References (R44 to R47) -/

/-- A reference input is present or not: REF10M, or LIFT_CLK. -/
def State.setRef (s : State) (lift here : Bool) : State :=
  s.updPw (fun (p : Power) => if lift then { p with liftClk := here } else { p with ref10m := here })

/-- The selected reference input. -/
def State.selected (s : State) (lift : Bool) : Bool := s.on Reg.PWR_CLK_CFG_REF_SRC == lift

/-- REF_LOST (R46, R471): a reference shows no edge for 300 ns. The loss of the selected one latches REF_LOST, holds the PLLs over, and ends acquisition and the Raman average; in WATCH it requests RUN (R334). -/
def execRefLost (lift : Bool) (s : State) : Out :=
  let s := s.setRef lift false
  if !s.selected lift || !s.awake then .next s
  else
    let src := s.fld Reg.PWR_CLK_CFG_REF_SRC
    let s := (((s.setF Reg.PWR_STATUS_REF_LOST 1).setF Reg.PWR_STATUS_REF_LOCK 0).setF Reg.PWR_STATUS_CONV_LOCK 0).updPw
      (fun (p : Power) => { p with holdover := true })
    let s := if s.logLimited 0x0003 pwrRow then s.signal 0 else s
    .next (((s.logEvt sevFault 0x0003 pwrRow (leBytes 1 src)).faultEnds 0x01).wakeRun 0xF3)

/-- REF_RETURN (R46): a reference returns; the PLLs relock to the selected one, and REF_LOST stays set. -/
def execRefReturn (lift : Bool) (s : State) : Out :=
  let s := s.setRef lift true
  .next (if !s.selected lift || !s.awake then s
    else ((s.updPw (fun (p : Power) => { p with holdover := false })).setF Reg.PWR_STATUS_REF_LOCK 1).setB Reg.PWR_STATUS_CONV_LOCK
      (s.pw.phase != .rom))

/-! ### Boundary scan (R36) -/

/-- JTAG_INSTRUCTION (R36): an instruction with the scan cells of the gate and pump outputs; another code selects BYPASS. -/
def execJtagInstruction (i : JtagInstr) (gateD gateT : Bool) (pumps : BitVec 4) (s : State) : Out :=
  .next { s with jtag := ⟨if i = .other then .bypass else i, gateD, gateT, pumps.toNat⟩ }

/-- An output other than the gates, the pumps and the trip outputs: at high impedance while TEST_MODE holds the part (R34), else at its level. -/
def State.outPin (s : State) (level : Bool) : Option Bool := if s.pw.testHold then none else some level

/-- RST_OUT_L, PEWAKE_L and PWR_ON as their pins show them (R34, R55, R57, R58); none at high impedance. -/
def State.rstOutPin (s : State) : Option Bool := s.outPin s.pw.rstOut
def State.pewakePin (s : State) : Option Bool := s.outPin (!s.pw.pewake)
def State.pwrOnPin (s : State) : Option Bool := s.outPin s.pw.pwrOn

/-- GATE_D (0) or GATE_T (1) as its pins show it: under EXTEST its scan cell (R36), off in every reset (R42), else the gate. -/
def State.gatePin (s : State) (g : Nat) : Bool :=
  if s.jtag.instr = .extest then (if g = 0 then s.jtag.scanGateD else s.jtag.scanGateT) else s.awake && s.gateOpen g

/-- PUMPn_PWM switches: under EXTEST its scan cell (R36), low in every reset (R42), else while its duty is not 0. -/
def State.pumpPin (s : State) (n : Nat) : Bool :=
  if s.jtag.instr = .extest then s.jtag.scanPumps.testBit n else s.awake && s.on Reg.SRC_PUMP_DUTY n

end Sys2Proof.Machine
end

