-- ==== Sys2Proof/Machine/Abort.lean ====
section
/-! DEFINITION. ABORT (R96, R105, R107), the handle watchdog (R108, R467) and the fabric timeout (R309). What a unit does when its command is aborted is said unit by unit; where the spec gives no more than the abort itself, see log entry 33. -/

namespace Sys2Proof.Machine

/-! ### Waiting commands -/

/-- A list of handle indices without `i`. -/
def without (i : Nat) (xs : List Nat) : List Nat := xs.filter (· != i)

/-- A waiting transition request without `i`; none once nobody waits. -/
def Transition.without (t : Transition) (i : Nat) : Option Transition :=
  let hs := t.handles.filter (· != i)
  if hs.isEmpty then none else some { t with handles := hs }

/-- POWER_STATE `i` given up: a queued request for RUN goes, a transition under way goes on. -/
def State.powerDrop (s : State) (i : Nat) : State :=
  let queued := s.pw.queued.any (fun t => t.handles.contains i)
  let s := s.updPw (fun (p : Power) =>
    { p with queued := p.queued.bind (fun t => t.without i), trans := p.trans.map (fun (t : Transition) => { t with handles := without i t.handles }) })
  if queued && s.pw.queued.isNone then s.showState s.pstate else s

/-- A queued ACQ_START `i` given up. -/
def State.startDrop (s : State) (i : Nat) : State :=
  if s.acq.queued.any (fun q => q.1 == i) then ({ s with acq := { s.acq with queued := none } }).showState s.pstate else s

/-- A plan switch `i` given up: the running plan goes on. -/
def State.switchDrop (s : State) (i : Nat) : State :=
  if s.acq.sw.any (fun w => w.handle == i) then
    let s := ({ s with acq := { s.acq with sw := none } }).setF Reg.PRB_STATE_DARK 0
    if s.fld Reg.PRB_STATE_STATE = prbStarting then s else s.setF Reg.PRB_STATE_STATE prbRun
  else s

/-- The command `i` no longer waits for the end of something else. -/
def State.waitDrop (s : State) (i : Nat) : State :=
  let drop (o : Option Nat) : Option Nat := if o == some i then none else o
  { s with
    acq := { s.acq with ending := s.acq.ending.map (fun e => { e with stoppers := without i e.stoppers }) }
    ph := { s.ph with resetHandles := without i s.ph.resetHandles }
    red := { s.red with waiting := s.red.waiting.filter (fun w => w.1 != i)
                        streams := s.red.streams.map (fun (st : Stream) =>
                          { st with closing := st.closing.map (fun c => (c.1, c.2.1, drop c.2.2.1, c.2.2.2)) }) }
    dts := { s.dts with waiting := s.dts.waiting.filter (fun w => w.handle != i) }
    sad := { s.sad with waits := s.sad.waits.filter (fun w => w.handle != i), fb := s.sad.fb.map (fun f => (drop f.1, f.2)) }
    sum := { s.sum with act := s.sum.act.map (fun a => { a with handle := drop a.handle }) }
    rdg := s.rdg.map (fun (r : Rcore) => { r with msgs := r.msgs.filter (fun m => m.handle != i) })
    pnl := { s.pnl with palettes := s.pnl.palettes.filter (fun p => p.1 != i), again := drop s.pnl.again, stoppers := without i s.pnl.stoppers } }

/-- The reads of host memory of command `i` are written off (R467). -/
def State.readsDrop (s : State) (i : Nat) : State :=
  { s with hq := { s.hq with reads := s.hq.reads.map (fun r => if r.target == .cmd i then { r with dead := true } else r) } }

/-! ### Running commands -/

/-- The capture of handle index `i` is given up; nothing of it is stored (R218). -/
def State.capDropOne (s : State) (i : Nat) : State :=
  ({ s with slm := { s.slm with caps := s.slm.caps.filter (fun c => c.stored || c.handle != i) } }).glRefresh

/-- The self-calibration of the slow converter stops: the converter of the slot goes back to its channel, and waiting records apply (R362). -/
def State.selfcalDrop (s : State) (i : Nat) : State :=
  match s.sad.cal with
  | some (some h, k, _) =>
    if h ≠ i then s
    else
      let s := ({ s with sad := { s.sad with cal := none } }).setF Reg.SAD_STATUS_CAL_BUSY 0
      let live := (s.carried k).any (fun n => s.on Reg.SAD_CH_CFG_EN n)
      (if live then s.orF Reg.SAD_STATUS_ACTIVE (2 ^ k) else s).waitsApply k
  | _ => s

/-- The calibration of the time-interval inputs stops; the tables written stay (R392). -/
def State.tiuCalDrop (s : State) (i : Nat) : State :=
  if s.tiu.cal.any (fun c => c.handle == some i) then ({ s with tiu := { s.tiu with cal := none } }).setF Reg.TIU_STATUS_CAL_BUSY 0 else s

/-- Channel `n` stops its ramp at the present value, in whole µA. -/
def State.rampStay (s : State) (n : Nat) : State := s.rampTo n ((s.pump n).ramp / 500) (s.pump n).rate false

/-- PUMP_SET or PUMP_OFF `i` given up: its channels stop where they are. -/
def State.pumpsDrop (s : State) (i st det : Nat) : State :=
  let s := (List.range 4).foldl (fun (s : State) n => if (s.pump n).handle = some i then (s.endPumpSet n st det).rampStay n else s) s
  let m := ((s.src.offs.filter (fun o => o.1 == i)).map (·.2)).headD 0
  let s := { s with src := { s.src with offs := s.src.offs.filter (fun o => o.1 != i) } }
  (List.range 4).foldl (fun (s : State) n => if m.testBit n && !s.src.offs.any (fun o => o.2.testBit n) then s.rampStay n else s) s

/-- Belt sections: a waiting start, a stop that waits, a running section. -/
def State.secsDrop (s : State) (i st det : Nat) : State :=
  (List.range 4).foldl (fun (s : State) k =>
    let s := if (s.secWait k).any (fun w => w.handle == i) then s.setSecWait k none else s
    match s.runningSec k with
    | some x =>
      if x.handle = some i then s.secEnd k st det else s.setSec k { x with stoppers := without i x.stoppers }
    | none => s) s

/-- A panel that starts for command `i` stays off. -/
def State.pnlDrop (s : State) (i : Nat) : State :=
  if s.pnl.starters.contains i then (s.updPnl (fun (p : Pnl) => { p with starters := without i p.starters })).pnlOver else s

/-- The command `x` stops in its unit, whatever unit that is, with the results so far (R106, R108, R246). -/
def State.unitStop (s : State) (x : Handle) (st det : Nat) : State :=
  let i := x.idx
  let s := (((((s.powerDrop i).startDrop i).switchDrop i).waitDrop i).capDropOne i).readGone i
  let s := if s.slm.handle = some i then s.disarm st det else s
  let s := s.grm.jobs.foldl (fun (s : State) j => if j.handle = i then s.jobStop j st det else s) s
  let s := if s.dts.run.any (fun r => r.handle == some i) then s.dtsEnd st det s.dts.done else s
  let s := (s.selfcalDrop i).tiuCalDrop i
  let s := if s.cal.run.any (fun r => r.handle == i) then s.calEnd st det else s
  (((s.pumpsDrop i st det).secsDrop i st det).pnlDrop i).complete i st det 0 0

/-- A held command is aborted with a status and DETAIL; `asker` is the ABORT that asked. The acquisition and a stream take their time to end, and the ABORT ends with them. -/
def State.abortCmd (s : State) (x : Handle) (st det : Nat) (asker : Option Nat) : State :=
  let s := s.readsDrop x.idx
  let answer (s : State) : State := match asker with
    | some h => s.complete h stOk 0 1 0
    | none => s
  let held (s : State) : State := match asker with
    | some h => s.takeUp h
    | none => s
  if s.acq.handle = some x.idx then (held s).acqEnd st det asker
  else match s.red.streams.find? (fun y => y.handle == some x.idx) with
    | some y =>
      if y.closing.isSome then answer (s.complete x.idx st det y.delivered y.discarded)
      else (held s).closeStream y.id st det asker stAborted
    | none => answer (s.unitStop x st det)

/-- ABORT (R96, R105, R107, R109). A target whose DONE waits in a full queue counts as finished. -/
def execAbort (h : Fin 256) (s : State) : Out :=
  match s.cmd? h.val 0x02 with
  | none => .next s
  | some x =>
    let w := x.p 0
    .next (if 65535 < w then s.complete h.val stInvalid 24 0 0
      else match s.handle? (w % 256) with
        | none => s.complete h.val stStale 0 0 0
        | some y =>
          if y.gen ≠ w / 256 then s.complete h.val stStale 0 0 0
          else if y.op = 0x02 then s.complete h.val stInvalid 24 0 0
          else if y.done then s.complete h.val stOk 0 0 0
          else s.abortCmd y stAborted 1 (some h.val))

/-- The unit of an expired command aborts it, and its DONE is written at once with what it has so far; the acquisition and a stream go on ending without it (R108). -/
def State.expire (s : State) (x : Handle) : State :=
  if s.acq.handle = some x.idx then
    let n := s.acq.frames
    ({ (s.readsDrop x.idx) with acq := { s.acq with handle := none } }.complete x.idx stTimeout 1 (n % 2 ^ 32) (n / 2 ^ 32)).acqEnd stTimeout 1 none
  else match s.red.streams.find? (fun y => y.handle == some x.idx) with
    | some y =>
      let s := ((s.readsDrop x.idx).updStream y.id (fun z => { z with handle := none })).complete x.idx stTimeout 1 y.delivered y.discarded
      if y.closing.isSome then s else s.closeStream y.id stTimeout 1 none stAborted
    | none => s.abortCmd x stTimeout 1 none

/-- The watchdog period of a command in ticks: WDOG in units of 10 ms, or HQE_WDOG (R86, R108). -/
def State.wdogTicks (s : State) (x : Handle) : Nat := ticksMs (if x.wdog = 0 then s.fld Reg.HQE_WDOG else 10 * x.wdog)

/-- The unit of a command goes on inside a step whose own timer or counter runs (R108; log entry 283): an interval, block or window of an acquisition, a copy to the capture region, a settling converter, a code-density test, a calibration visit, a flash sector or companion page, or a transition of the part. -/
def State.unitRuns (s : State) (i : Nat) : Bool :=
  (s.acqRuns && (s.red.streams.any (fun y => y.handle == some i) || s.tiu.secs.toList.any (fun c => c.any (fun x => x.running && x.handle == some i)))) ||
    s.slm.caps.any (fun c => c.handle == i && !c.stored && (if c.ended then s.memReady else s.acqRuns)) ||
    (s.slowUp && s.sad.fb.any (fun f => f.1 == some i)) || (s.tiu.cal.any (fun c => c.handle == some i) && !s.timerDue .density (ticksMs 315)) ||
    (s.cal.run.any (fun r => r.handle == i) && s.cal.visit.isSome) || (s.sumRuns && s.sum.act.any (fun a => a.handle == some i)) ||
    s.pw.trans.any (fun t => t.handles.contains i)

/-- The watchdog of a command stands a whole period behind its last restart: the last step of progress, and inside a longer step every 100 ms from there (R108). -/
def State.wdogDue (s : State) (x : Handle) : Bool :=
  if s.unitRuns x.idx then
    (s.timers.find? (fun t => t.1 == .handle x.idx)).all (fun t => decide (s.wdogTicks x ≤ (s.tick - t.2) % ticksMs 100))
  else s.timerDue (.handle x.idx) (s.wdogTicks x)

/-- HANDLE_WATCHDOG (R108): the watchdog of a started command expires, a period after its last restart. -/
def execHandleWatchdog (h : Fin 256) (s : State) : Out :=
  match s.handle? h.val with
  | none => .next s
  | some x =>
    .next (if x.started && !x.done && s.wdogDue x then
        (s.incF Reg.HQE_WDOG_COUNT).expire x
      else s)

/-! ### The fabric timeout (R309) -/

/-- The channel of a ridge core whose descriptor moves data from or to external memory, the lowest one. -/
def State.dmaExt (s : State) (c : Nat) : Option Nat :=
  findIdxBelow (fun ch => s.on Reg.RDG_DMA_STATUS_BUSY (dmaIx c ch) && (s.rDesc c ((s.rc c).dma.getD ch ⟨0, false⟩).desc).ext) 4

/-- The queue engine whose read a record is. -/
def State.readEngine (s : State) (t : ReadTarget) : Option Nat :=
  match t with
  | .fetch q => some (q.val / 8)
  | .bufRing r => some (r.val / 4)
  | .cmd h => (s.handle? h).map Handle.engine

/-- The oldest read of an engine is lost to a fabric timeout: in stand-alone operation its rings and buffers lie in the internal map (R110, R309). -/
def State.engineReadLost (s : State) (e : Nat) : State :=
  match s.hq.reads.find? (fun r => !r.dead && s.readEngine r.target == some e) with
  | some r => if s.pw.standalone then (s.dropRead r.tag).readFailed r.target true stTimeout 3 else s
  | none => s

/-- What the requester of an abandoned access does: the groomer's job and the ridge DMA's descriptor end; another learns it from the answer. -/
def State.fabricLost (s : State) (src : Nat) : State :=
  if 2 ≤ src ∧ src ≤ 4 then
    match s.grm.jobs.find? (fun j => j.inst == some (src - 2)) with
    | some j => s.jobStop j stTimeout 3
    | none => s
  else if 5 ≤ src ∧ src ≤ 12 then
    match s.dmaExt (src - 5) with
    | some ch => s.dmaEnd (src - 5) ch stDataError 0
    | none => s
  else if src = 1 then s.copyLost
  else if src = 15 then
    match s.sum.act with
    | some a => s.actFail a.handle (a.left.headD 0) stTimeout 3
    | none => s
  else if src = 13 ∨ src = 14 then s.engineReadLost (src - 13)
  else s

/-- FABRIC_TIMEOUT (R309): the oldest request in flight of a source is abandoned with its re-read, and the source receives a fabric timeout. -/
def execFabricTimeout (src : Fin 20) (s : State) : Out :=
  match s.mc.flight.find? (fun q => q.src == src.val) with
  | none => .next s
  | some q =>
    if s.tick < q.accepted + ticksUs 100 then .next s
    else .next (((((s.timeoutEvt false (rowOf 0x90000)).updMc (fun (m : Mc) => { m with flight := m.flight.erase q })).memReply src.val stTimeout 3 []).fabricLost src.val).memGoOn)

end Sys2Proof.Machine
end

