-- ==== Sys2Proof/Machine/CfgSpace.lean ====
section
/-! DEFINITION. Configuration space of the endpoint (R55, R79, R81): the words that R79 fixes, laid out as the PCI Express Base Specification 4.0 has them (log entries 44 and 66). -/

namespace Sys2Proof.Machine

/-! ### Registers that the host writes -/

/-- Base addresses of BAR 0/1 and BAR 2/3: 16 MiB and 64 KiB. -/
def cfgBar0 : CfgReg := ⟨0x10, 0xFF000000, 0⟩
def cfgBar1 : CfgReg := ⟨0x14, 0xFFFFFFFF, 0⟩
def cfgBar2 : CfgReg := ⟨0x18, 0xFFFF0000, 0⟩
def cfgBar3 : CfgReg := ⟨0x1C, 0xFFFFFFFF, 0⟩

/-- ASPM control of Link Control. -/
def cfgLinkCtl : CfgReg := ⟨0x104, 0x3, 0⟩

/-- Uncorrectable mask and severity, and correctable mask, of AER. -/
def cfgAerMask : CfgReg := ⟨0x105, 0x001FF010, 0⟩
def cfgAerSev : CfgReg := ⟨0x106, 0x001FF010, 0x00062010⟩
def cfgCorMask : CfgReg := ⟨0x107, 0x000031C1, 0x2000⟩

/-- The register with writable bits at a configuration offset. -/
def cfgRegAt (reg : Nat) : Option CfgReg :=
  if reg = 0x04 then some cfgCommand
  else if reg = 0x10 then some cfgBar0
  else if reg = 0x14 then some cfgBar1
  else if reg = 0x18 then some cfgBar2
  else if reg = 0x1C then some cfgBar3
  else if reg < 0x40 then none
  else if reg = Config.pcieCap + 0x08 then some cfgDevCtl
  else if reg = Config.pcieCap + 0x10 then some cfgLinkCtl
  else if reg = Config.pcieCap + 0x28 then some cfgDevCtl2
  else if reg = Config.msixCap then some cfgMsix
  else if reg = Config.aerCap + 0x08 then some cfgAerMask
  else if reg = Config.aerCap + 0x0C then some cfgAerSev
  else if reg = Config.aerCap + 0x14 then some cfgCorMask
  else if reg = Config.aerCap + 0x18 then some cfgAer
  else none

/-! ### Fixed bits: the value of the bits that R79 fixes, and the mask of those left open -/

/-- The Type 0 header: identity, class, memory BARs, no Expansion ROM, no INTx. -/
def State.headWord (s : State) (reg : Nat) : Nat × Nat :=
  match reg with
  | 0x00 => (Config.vendorId.toNat + 0x6128 * 2 ^ 16, 0)
  | 0x04 => (0x00100000, 0)
  | 0x08 => (0x118000B0, 0)
  | 0x10 => (4, 0)
  | 0x18 => (4, 0)
  | 0x2C => (s.sum.subsys, 0)
  | 0x34 => (0, 0xFC)
  | 0x3C => (0, 0xFF)
  | _ => (0, 0)

/-- The PCI Express capability at offset `o`: payloads to 512 B, Function Level Reset, 16.0 GT/s ×8 with ASPM L1, 10-bit tags, no completion timeout ranges, no LTR, OBFF, AtomicOp or TPH. -/
def State.pcieWord (s : State) (o : Nat) : Nat × Nat :=
  match o with
  | 0x00 => (0x00020010, 0x3E00FF00)
  | 0x04 => (0x10008022, 0x00000FC0)
  | 0x08 => ((if s.hq.reads.any (fun r => !r.dead) then 2 ^ 21 else 0), 0x000F0000)
  | 0x0C => (0x00400884, 0xFF07F000)
  | 0x10 => ((if s.pw.linkUp then (s.pw.linkSpeed % 16 + 16 * (s.pw.linkWidth % 64)) * 2 ^ 16 else 0), 0x10000000)
  | 0x24 => (0x00030000, 0)
  | 0x28 => (0, 0)
  | 0x2C => (0x0000001E, 0)
  | _ => (0, 2 ^ 32 - 1)

/-- The MSI-X capability: 64 vectors, table and PBA in BAR 2 (R81). -/
def msixWord (o : Nat) : Nat × Nat :=
  match o with
  | 0x00 => (0x003F0011, 0xFF00)
  | 0x04 => (0x8002, 0)
  | _ => (0xC002, 0)

/-- The AER capability: the errors reported, ECRC generation and checking, and the header log. -/
def State.aerWord (s : State) (o : Nat) : Nat × Nat :=
  match o with
  | 0x00 => (0x0001, 0xFFFF0000)
  | 0x04 => (s.hq.aer, 0)
  | 0x10 => (0, 0x000031C1)
  | 0x18 => (0xA0, 0x1F)
  | _ => (0, if o < 0x18 then 0 else 2 ^ 32 - 1)

/-- Fixed and open bits of a configuration word. -/
def State.cfgFixed (s : State) (reg : Nat) : Nat × Nat :=
  if reg < 0x40 then s.headWord reg
  else if Config.pcieCap ≤ reg ∧ reg < Config.pcieCap + 0x3C then s.pcieWord (reg - Config.pcieCap)
  else if Config.msixCap ≤ reg ∧ reg < Config.msixCap + 0x0C then msixWord (reg - Config.msixCap)
  else if Config.aerCap ≤ reg ∧ reg < Config.aerCap + 0x2C then s.aerWord (reg - Config.aerCap)
  else (0, 2 ^ 32 - 1)

/-! ### Requests -/

/-- A configuration word: its fixed bits, the bits the host has written, and free values where R79 leaves bits open. -/
def State.configWord (s : State) (reg : Nat) : Nat × State :=
  let (v, open_) := s.cfgFixed reg
  let v := match cfgRegAt reg with
    | some r => v ||| s.cfgGet r
    | none => v
  if open_ = 0 then (v, s)
  else
    let (f, s) := s.freeVal 32
    (v ||| (f &&& open_), s)

/-- A configuration write: the writable bits of its register, and the error bits of AER that a 1 clears; a mask of MSI-X taken away lets pending messages go (R81). Initiate Function Level Reset has a row of its own, and reads 0. -/
def State.configPut (s : State) (reg v : Nat) : State :=
  let s := if reg ≥ 0x40 ∧ reg = Config.aerCap + 0x04 then { s with hq := { s.hq with aer := s.hq.aer - (s.hq.aer &&& v) } } else s
  match cfgRegAt reg with
  | some r => { s with hq := { s.hq with cfg := Store.write r.reset s.hq.cfg r.key (v &&& r.mask) } }.flushPba
  | none => s

/-- CONFIGURATION_REQUEST (R55, R79, R110): a read or a write of a configuration word, answered with Configuration Request Retry Status (no value, no effect) until the loader has checked the generation. -/
def execConfigurationRequest (req : CfgReq) (s : State) : Out :=
  if s.pw.standalone || s.pw.perstLow || !s.awake || !(s.pw.linkUp || s.pw.linkTraining) then .next s
  else if s.pw.crs then .next { s with readOut := none }
  else
    let reg := req.reg.toNat / 4 * 4
    match req.wr with
    | some v => .next (s.configPut reg v.toNat)
    | none =>
      let (v, s) := s.configWord reg
      .next { s with readOut := some v }

end Sys2Proof.Machine
end

