-- ==== Sys2Proof/Machine/Check.lean ====
section
/-! DEFINITION. The check-value units CHK0 to CHK3 (R413 to R416). -/

namespace Sys2Proof.Machine

/-- Unit `u` changed. -/
def State.updChk (s : State) (u : Nat) (f : Chk → Chk) : State := { s with chk := vmod s.chk u f }

/-- Unit `u`. -/
def State.chkOf (s : State) (u : Nat) : Chk := s.chk.getD u Chk.reset

/-- Bytes fed to unit `u` (R414). -/
def State.chkFeed (s : State) (u : Nat) (bs : List Byte) : State :=
  let poly := s.fld Reg.CHK_CTL_POLY u
  (s.updChk u (fun (c : Chk) => { c with crc := bs.foldl (crcByte poly) c.crc })).addF Reg.CHK_BYTES bs.length u

/-- A write of CHK_CTL (R413). -/
def State.chkSelect (s : State) (u v : Nat) : State :=
  let s := ((s.setF Reg.CHK_CTL_POLY v u).setF Reg.CHK_CTL_FOLD (v / 16) u).setF Reg.CHK_CTL_AUTO_INC (v / 32) u
  (s.updChk u (fun _ => ⟨crcInit (v % 4), true⟩)).setF Reg.CHK_BYTES 0 u

/-- A write of 1 to CHK_FINAL (R415, R416). -/
def State.chkClose (s : State) (u : Nat) : State :=
  let poly := s.fld Reg.CHK_CTL_POLY u
  let c := s.chkOf u
  let alive := if s.on Reg.CHK_CTL_FOLD u then leBytes (crcWidth poly) (s.fld Reg.CHK_ALIVE u) else []
  let r := alive.foldl (crcByte poly) c.crc ^^^ crcXor poly
  let again := !c.first && r == s.fld Reg.CHK_PREV u
  let s := s.setF Reg.CHK_RESULT r u
  let s := if again then (s.setF Reg.CHK_STATUS_REPEAT 1 u).incF Reg.CHK_REPEAT u else s
  let s := s.setF Reg.CHK_PREV r u
  let s := if s.on Reg.CHK_CTL_AUTO_INC u then s.incF Reg.CHK_ALIVE u else s
  (s.updChk u (fun _ => ⟨crcInit poly, false⟩)).setF Reg.CHK_BYTES 0 u

/-- CHK_CTL (R413). -/
def execChkCtl (u : Fin 4) (v : Word) (s : State) : Out := .next (if s.awake then s.chkSelect u.val v.toNat else s)

/-- CHK_DATA8 (R414). -/
def execChkData8 (u : Fin 4) (v : Word) (s : State) : Out := .next (if s.awake then s.chkFeed u.val (leBytes 1 v.toNat) else s)

/-- CHK_DATA16 (R414). -/
def execChkData16 (u : Fin 4) (v : Word) (s : State) : Out := .next (if s.awake then s.chkFeed u.val (leBytes 2 v.toNat) else s)

/-- CHK_DATA32 (R414). -/
def execChkData32 (u : Fin 4) (v : Word) (s : State) : Out := .next (if s.awake then s.chkFeed u.val (leBytes 4 v.toNat) else s)

/-- CHK_FINAL (R415): a write of 1 closes the check. -/
def execChkFinal (u : Fin 4) (v : Word) (s : State) : Out := .next (if s.awake && bit v.toNat 0 then s.chkClose u.val else s)

end Sys2Proof.Machine
end

