-- ==== Sys2Proof/Machine/RegRead.lean ====
section
/-! DEFINITION. What lies at a BAR 0 offset (R60 to R64), and what a read of it returns (R11, R71): the fields that follow other state, the constant tables, and the memories behind windows. -/

namespace Sys2Proof.Machine

/-! ### Fields whose value follows other state -/

/-- The running plan's tone on a lane, with its index (R158). -/
def State.laneTone (s : State) (l : Nat) : Option (Tone × Nat) :=
  match s.acq.run with
  | some (_, p) => p.tones.zipIdx.find? (fun x => x.1.lane == l)
  | none => none

/-- A plan field of a lane; 0 for an idle lane. -/
def State.laneView (f : State → Tone → Nat → Nat) (s : State) (l : Nat) : Nat :=
  match s.laneTone l with
  | some (t, k) => f s t k
  | none => 0

/-- The response in use at stage `i` of a tone's lane, 0 above its depth (R153, R158). -/
def stageView (i : Nat) (s : State) (t : Tone) (_k : Nat) : Nat := if i ≤ t.depth then hbEff (hbSel s t.lane i) t.depth i else 0

/-- TLA_LATENCY of a tone's lane in 0.125 ns: the lookahead and 300 ns (R155). -/
def latencyView (s : State) (t : Tone) (_k : Nat) : Nat :=
  let d := t.depth
  lookahead ((List.range d).map (fun i => hbEff (hbSel s t.lane (i + 1)) d (i + 1))) + 2400

/-- The entry that CMP_REF_SEL names, as its 12-bit parts (R161). -/
def State.refEntry (s : State) : Nat :=
  let n := s.fld Reg.CMP_REF_SEL_INDEX
  if n ≤ 128 then Store.read 0 s.ph.refs (s.fld Reg.CMP_REF_SEL_LANE * 256 + n) else 0

/-- GLB_XING_BUSY from the writes that wait (R68). -/
def State.xingBusy (s : State) : Nat := (s.xing.map (fun x => 2 ^ x.island)).foldl (· ||| ·) 0

/-- Stream blocks that wait for the groomer, and hold its compress instances before any job (R240). -/
def State.groomOwed (s : State) : Nat := (s.red.streams.map (fun st => (st.ready.filter (fun b => st.owesGroom b)).length)).sum

/-- Compress instance `i` works: on a job, or on a stream block (R240, R248). -/
def State.grmBusy (s : State) (i : Nat) : Bool := s.grm.jobs.any (fun j => j.inst == some i) || decide (i < s.groomOwed)

/-- The fields that no register holds, each with its value by instance. -/
def views : List (Field × (State → Nat → Nat)) :=
  [(Reg.PWR_STATUS_VBAT_LOW, fun s _ => b2n (!s.pw.vbatPresent)), (Reg.GLB_XING_BUSY, fun s _ => s.xingBusy), (Reg.GLB_TB_NOW_LO, fun s _ => s.now), (Reg.GLB_TB_NOW_HI, fun s _ => s.now / 2 ^ 32),
   (Reg.GLB_EVT_STATE, fun s w => ((List.range 32).map (fun b => if s.evtLevel (32 * w + b) then 2 ^ b else 0)).sum),
   (Reg.TLA_CFG_ACTIVE, State.laneView (fun _ _ _ => 1)), (Reg.TLA_CFG_DEPTH, State.laneView (fun _ t _ => t.depth)),
   (Reg.TLA_CFG_CHAN, State.laneView (fun _ t _ => laneChan t.lane)), (Reg.TLA_CFG_SLOT, State.laneView (fun _ t _ => laneSlot t.lane)),
   (Reg.TLA_CFG_TONE, State.laneView (fun _ _ k => k)), (Reg.TLA_NCO, State.laneView (fun _ t _ => t.omega)),
   (Reg.TLA_SHIFTS, State.laneView (fun _ t _ => t.shifts)), (Reg.TLA_HB_EFF_EFF1, State.laneView (stageView 1)),
   (Reg.TLA_HB_EFF_EFF2, State.laneView (stageView 2)), (Reg.TLA_HB_EFF_EFF3, State.laneView (stageView 3)),
   (Reg.TLA_HB_EFF_EFF4, State.laneView (stageView 4)), (Reg.TLA_LATENCY, State.laneView latencyView)] ++
  [(Reg.CMP_REF_DATA_I, fun s _ => s.refEntry), (Reg.CMP_REF_DATA_Q, fun s _ => s.refEntry / 4096),
   (Reg.CMP_REF_LEN, fun s _ => s.refLen (s.fld Reg.CMP_REF_SEL_LANE)), (Reg.TIU_IN_STATUS_ACTIVITY, fun s i => b2n (s.tiActive i)),
   (Reg.PAT_STATUS_ALARM, fun s _ => s.tgAlarm), (Reg.PAT_STATUS_STATE, fun s _ => s.tgState),
   (Reg.PAT_TRIP_STATUS_OUT, fun s _ => b2n (s.tripOut 0) + 2 * b2n (s.tripOut 1)),
   (Reg.RCV_PROTO, fun _ i => rcvRom (Reg.RCV_PROTO.addr i)), (Reg.RCV_HB_ROM, fun _ i => rcvRom (Reg.RCV_HB_ROM.addr i)),
   (Reg.GRM_STATUS_C0_BUSY, fun s _ => b2n (s.grmBusy 0)), (Reg.GRM_STATUS_C1_BUSY, fun s _ => b2n (s.grmBusy 1)),
   (Reg.GRM_STATUS_D_BUSY, fun s _ => b2n (!s.grm.turns.isEmpty)),
   (Reg.SLM_STATUS_SLOTS, fun s _ => (s.slotsHeld.map (fun k => 2 ^ k)).sum),
   (Reg.HQE_STATUS_CAP_FREE, fun s _ => 7 - s.slotsHeld.length), (Reg.HQE_STATUS_CAP_NONE, fun s _ => b2n (s.slotsHeld.length == 8)),
   (Reg.CRN_WB_ROM, fun _ i => (Config.watchTap i).toNat)]

/-- What a read of a field returns: a write-only field reads 0 (R11). -/
def State.readField (s : State) (F : Field) (i : Nat) : Nat :=
  if F.ty = .wo then 0
  else match views.find? (fun x => x.1 == F) with
    | some x => x.2 s i % 2 ^ F.width
    | none => s.fld F i

/-- The word of a listed register: reserved bits read 0 (R9). -/
def State.readFields (s : State) (fs : List (Field × Nat)) : Nat := (fs.map (fun x => s.readField x.1 x.2 * 2 ^ x.1.lsb)).sum

/-- The read-clear fields of a register cleared (R11). -/
def State.clearRc (s : State) (fs : List (Field × Nat)) : State :=
  fs.foldl (fun (s : State) x => if x.1.ty = .rc then s.setF x.1 0 x.2 else s) s

/-! ### What lies at an offset -/

/-- What a 32-bit word of BAR 0 is: a listed register, a reserved location, the silence of a tone lane's slot (R63), or a word of a memory. -/
inductive Site where
  | reg (fs : List (Field × Nat))
  | reserved
  | silent
  /-- two words of the cairn's data memory, by index (R343) -/
  | cairn (w : Nat)
  /-- a ridge core's memory, by byte offset in its block (R249) -/
  | ridge (core off : Nat)
  /-- firn memory, by byte (R64) -/
  | firn (o : Nat)
  /-- the MAILBOX region, by byte (R448) -/
  | mailbox (o : Nat)
  /-- MRAM, by byte (R448) -/
  | mram (o : Nat)

/-- The site of the word that holds an offset. -/
def siteAt (off : Nat) : Site :=
  if 0xF2000 ≤ off ∧ off < 0xF4000 then .cairn ((off - 0xF2000) / 4 * 2)
  else if 0x200000 ≤ off ∧ off < 0x400000 ∧ 0x10000 ≤ off % 0x40000 then .ridge ((off - 0x200000) / 0x40000) (off % 0x40000 / 4 * 4)
  else if 0x400000 ≤ off ∧ off < 0xC00000 then .firn (off - 0x400000)
  else if 0xC00000 ≤ off ∧ off < 0xD00000 then .mailbox (off - 0xC00000)
  else if 0xE00000 ≤ off ∧ off < 0x1000000 then .mram (off - 0xE00000)
  else match fieldsAt (off / 4 * 4) with
    | [] => if 0x100000 ≤ off ∧ off < 0x200000 then .silent else .reserved
    | fs => .reg fs

/-- A memory window takes any length and any byte enables (R64). -/
def Site.window : Site → Bool
  | .firn _ => true
  | .mailbox _ => true
  | .mram _ => true
  | _ => false

/-- An access of any width is taken at an offset: the memory windows, and the reserved offsets of the SUM window, which follow R62 (R64). -/
def anyWidth (off : Nat) : Bool :=
  match siteAt off with
  | .reserved => rowOf off == 21
  | x => x.window

/-- The owner of an offset answers now (R72): its island is clocked and out of reset. PRB, SRC and DTS are held in reset in LOADER. -/
def State.answers (s : State) (off : Nat) : Bool :=
  let n := islandOf off
  s.awake && (n == islFabric || (!(s.fld Reg.PWR_ISL_RST).testBit n && (s.pstate != stWatch || n == 9 || n == 10) &&
    !(s.loaderPers && [3, 4, 10].contains (rowOf off))))

/-- A read is served by FABRIC: its own blocks, offsets outside every region, and registers of rwp fields alone from their copies, but for the VBT mirror (R62, R71, R344; log entry 253). -/
def servedHere (off : Nat) : Bool :=
  islandOf off == islFabric ||
    match siteAt off with
    | .reg fs => fs.all (fun x => x.1.ty == .rwp) && !(decide (0xF0200 ≤ off) && decide (off < 0xF0280))
    | _ => false

/-- Bytes of external memory at the MAILBOX region (R304, R308); none while the region does not cover them, or when a line is poisoned (R311). -/
def State.mailGet (s : State) (o n : Nat) : Option (List Byte) :=
  if o + n ≤ s.rgnSize 4 ∧ s.poisoned (s.rgnBase 4 + o) n = false then some (s.extGet (s.rgnBase 4 + o) n) else none

/-- A read of the mailbox window; bytes that the MAILBOX region does not cover are reserved (R62, R64). -/
def State.mailRead (s : State) (ini : Initiator) (off o n : Nat) : Option (List Byte) × State :=
  if s.rgnSize 4 < o + n then (none, s.regErr errRsvdRd ini off false) else (s.mailGet o n, s.linesRead (s.rgnBase 4 + o) n)

/-- A word of a ridge core's memories, from the host. -/
def State.ridgeGet (s : State) (c o : Nat) : Nat :=
  if o < 0x20000 then (s.rc c).imem.readLe (o - 0x10000) 4 else (s.rc c).dmem.readLe (o - 0x20000) 4

/-- A 32-bit read that completes: its value, none for a Completer Abort or bus error. -/
def State.readWord (s : State) (ini : Initiator) (off : Nat) : Option Nat × State :=
  match siteAt off with
  | .reg fs => (some (s.readFields fs), s.clearRc fs)
  | .reserved => (none, s.regErr errRsvdRd ini off false)
  | .silent => (some 0, s)
  | .cairn w => (some (Store.read 0 s.crn.dmem w + Store.read 0 s.crn.dmem (w + 1) * 65536), s)
  | .ridge c o => (some (s.ridgeGet c o), s)
  | .firn o => (some (s.mem.firn.readLe o 4), s)
  | .mailbox o =>
    let (v, s) := s.mailRead ini off o 4
    (v.map leNat, s)
  | .mram o => (some (s.mem.mram.readLe o 4), s)

end Sys2Proof.Machine
end

