-- ==== Sys2Proof/Machine/Timebase.lean ====
section
/-! DEFINITION. The time base (R13, R47 to R50, R74): its advance, its load, and its discipline to the PPS input. -/

namespace Sys2Proof.Machine

/-- The time base advanced by `n` TIMING cycles: 1 ns each, the rate correction in whole ns as it accumulates, and one slew increment for each 1,000 ns (R47, R50). It never steps backward. -/
def TimeBase.advance (t : TimeBase) (n : Nat) : TimeBase :=
  let acc := t.rateAcc + t.rate * n
  let whole := Int.tdiv acc 2000000000
  let due := (t.slewNs + n) / 1000
  let inc := if 0 ≤ t.slew then min t.slew (due : Int) else max t.slew (-(due : Int))
  { t with
    now := (t.now + (max 0 ((n : Int) + whole + inc)).toNat) % 2 ^ 64,
    rateAcc := acc - whole * 2000000000,
    slew := t.slew - inc,
    slewNs := (t.slewNs + n) % 1000 }

/-- e: the time base minus the nearest whole multiple of 10⁹ ns (R50). -/
def ppsError (now : Nat) : Int :=
  let r := now % 1000000000
  if r < 500000000 then (r : Int) else (r : Int) - 1000000000

/-- GLB_TB_RATE: the 0.5 ppb units rounded half to even to whole ppb (R50). -/
def rateReg (r : Int) : Int := divRne r 2

/-- DISCIPLINED (R50): PPS_VALID, and |e| ≤ 100 ns at each of the last four valid edges. -/
def TimeBase.steady (t : TimeBase) : Bool :=
  decide (t.errs.length = 4) && t.errs.all (fun e => match e with
    | some x => decide (x ≤ 100)
    | none => false)

/-- The edge arrives 1 s ± 100 µs after the previous valid edge, or is the first with PPS_VALID 0 (R48). -/
def State.ppsInWindow (s : State) : Bool :=
  let d := wrapSub 64 s.now s.tb.ppsAt
  !s.on Reg.GLB_TB_STATUS_PPS_VALID || (decide (999900000 ≤ d) && decide (d ≤ 1000100000))

/-- The correction that a valid edge with error `e` makes (R50). -/
def State.ppsCorrect (s : State) (e : Int) : State :=
  if e.natAbs ≤ 10000 then
    let r := clampInt (-100000) 100000 (s.tb.rate - e)
    ({ s with tb := { s.tb with slew := -e, rate := r } }).setS Reg.GLB_TB_RATE (rateReg r)
  else s.setF Reg.GLB_TB_STATUS_PPS_FAR 1

/-- PPS_EDGE (R48 to R50): rejected outside the window; a load under LOAD_ARM; else the error, and its correction unless PPS_FAR holds or DISC_EN is 0. -/
def execPpsEdge (s : State) : Out :=
  if !s.timed then .next s
  else if !s.ppsInWindow then .next (s.incF Reg.GLB_TB_PPS_REJECT)
  else if s.on Reg.GLB_TB_CTL_LOAD_ARM then
    let t := { s.tb with now := s.tb.loadVal, ppsAt := s.tb.loadVal, slew := 0, errs := (none :: s.tb.errs).take 4 }
    .next ((((({ s with tb := t }).setF Reg.GLB_TB_CTL_LOAD_ARM 0).setF Reg.GLB_TB_STATUS_PPS_FAR 0).setF
      Reg.GLB_TB_STATUS_PPS_VALID 1).setB Reg.GLB_TB_STATUS_DISCIPLINED t.steady)
  else
    let e := ppsError s.now
    let t := { s.tb with ppsAt := s.now, errs := (some e.natAbs :: s.tb.errs).take 4 }
    let s := ((({ s with tb := t }).setS Reg.GLB_TB_PPS_ERR e).setF Reg.GLB_TB_STATUS_PPS_VALID 1).setB
      Reg.GLB_TB_STATUS_DISCIPLINED t.steady
    .next (if s.on Reg.GLB_TB_CTL_DISC_EN && !s.on Reg.GLB_TB_STATUS_PPS_FAR then s.ppsCorrect e
      else if e.natAbs ≤ 10000 then s else s.setF Reg.GLB_TB_STATUS_PPS_FAR 1)

/-- PPS_LOSS (R48): no valid edge for 1.5 s; the last rate correction is held. -/
def execPpsLoss (s : State) : Out :=
  .next (if s.timed && decide (1500000000 ≤ wrapSub 64 s.now s.tb.ppsAt) then (s.setF Reg.GLB_TB_STATUS_PPS_VALID 0).setF Reg.GLB_TB_STATUS_DISCIPLINED 0 else s)

/-- TB_LOAD_WRITE (R74): the low word commits the pair of LOAD_HI and LOAD_LO. -/
def State.tbLoadLo (s : State) (v : Nat) : State :=
  let s := s.setF Reg.GLB_TB_LOAD_LO v
  { s with tb := { s.tb with loadVal := s.fld64 Reg.GLB_TB_LOAD_LO Reg.GLB_TB_LOAD_HI } }

def execTbLoadWrite (v : Word) (s : State) : Out := .next (if s.awake then s.tbLoadLo v.toNat else s)

end Sys2Proof.Machine
end

