-- ==== Sys2Proof/Machine/RegWrite.lean ====
section
/-! DEFINITION. A write that takes effect in the owning island: access codes (R11), locks (R65, R66), values outside a stated range (R4), and what each register's write starts. -/

namespace Sys2Proof.Machine

/-! ### Locks (R65, R66) -/

/-- The run lock of region `n`'s staging registers against an initiator (R304, R323). -/
def State.rgnLocked (s : State) (ini : Initiator) (n : Nat) : Bool :=
  match n with
  | 0 => s.ringRuns
  | 1 => !s.slotsHeld.isEmpty || !s.slm.reads.isEmpty
  | 2 => (List.range 64).any (fun i => s.slotState i != slotFree) || s.red.streams.any (·.groomed) || (s.ringRuns && s.on Reg.SLM_GL_CTL_GROOM)
  | 3 => (List.range 8).any (fun c => s.rLive c)
  | 4 => ini == .pcie
  | 5 => ini == .pcie || s.sum.stage.isSome
  | 6 => s.panelOn
  | _ => false

/-- The rotation of calibration visits is on (R143, R428). -/
def State.bgOn (s : State) : Bool := s.on Reg.CAL_STATUS_BG_ON

/-- EN of the queue or ring that a field of HQE belongs to. -/
def State.ringEn (s : State) (F : Field) (i : Nat) : Bool :=
  if F.off < 0x12000 then s.on Reg.SQ_CFG_EN i else if F.off < 0x13000 then s.on Reg.CQ_CFG_EN i else s.on Reg.SR_CFG_EN i

/-- What becomes of a value `x` written to an unlocked, locked or refused field: the value taken, if one is, and whether the write sets LOCKVIOL. `o` is the state before the write, `old` the field's value there. -/
def lockIf (held : Bool) (old x : Nat) : Option Nat × Bool := if held then (none, x != old) else (some x, false)

/-- A value that the field refuses as its chapter states: dropped with LOCKVIOL. -/
def refuseIf (bad : Bool) (x : Nat) : Option Nat × Bool := if bad then (none, true) else (some x, false)

/-- The bits of PWR_ISL_RST that can be set (R53, R67). -/
def islMask : Nat := (holdable.map (fun n => 2 ^ n)).sum

/-- PWR_ISL_RST: bit 3 moves for the summit controller only (R78). -/
def islTake (ini : Initiator) (old x : Nat) : Option Nat × Bool :=
  let y := x &&& islMask
  if ini = .summit ∨ y.testBit 3 = old.testBit 3 then (some y, false) else (some (y ^^^ 8), true)

/-- PWR_CLK_CFG.RDG_DIV: the two bits of a core out of reset keep their value (R78). -/
def State.divTake (o : State) (old x : Nat) : Option Nat × Bool :=
  let keep := (List.range 8).filter (fun c => !o.rHeld c)
  let m := (keep.map (fun c => 3 * 4 ^ c)).sum
  (some ((x ^^^ (x &&& m)) ||| (old &&& m)), (x &&& m) != (old &&& m))

/-- A hardware-owned field: the converter's or the input's calibration, or the visit to the lane, holds it (R75, R355, R391, R440). -/
def State.hwOwned (o : State) (F : Field) (i : Nat) : Bool :=
  ((F == Reg.SAD_CAL_OFS || F == Reg.SAD_CAL_GAIN) && o.sad.cal.any (fun k => k.2.1 == i)) || (F == Reg.TIU_CAL_TAB && o.tiCalibrating (i / 128)) ||
    o.cal.visit.any (fun v => (trimReg v.lane i) == (F, i))

/-- A value without the reserved byte of a trim register (R440). -/
def trimCut (F : Field) (i x : Nat) : Nat := if (F = Reg.CAL_RX_TRIM ∨ F = Reg.CAL_SP_TRIM) ∧ i % 2 = 0 then x % 2 ^ 24 else x

/-- What a field takes of a written value `x`; `s` carries the fields of the same register already written. -/
def State.take (o s : State) (ini : Initiator) (F : Field) (i x : Nat) : Option Nat × Bool :=
  let old := o.readField F i
  match F.lock with
  | .free =>
    if F = Reg.SQ_CFG_EN ∧ x = 1 ∧ old = 0 ∧ s.fld Reg.SQ_CFG_CQ i / 8 ≠ i / 8 then (none, true)
    else if o.hwOwned F i then (none, false)
    else if F = Reg.RDG_MSG then (none, x != old)
    else (some x, false)
  | .acq => lockIf o.acqRuns old x
  | .acqOrAvg => lockIf (o.acqRuns || o.dts.run.isSome) old x
  | .acqOrBg => if o.hwOwned F i && !(o.acqRuns || o.bgOn) then (none, false) else lockIf (o.acqRuns || o.bgOn) old (trimCut F i x)
  | .avg => lockIf o.dts.run.isSome old x
  | .armed => lockIf (o.on Reg.SLM_STATUS_ARMED) old x
  | .bg => lockIf o.bgOn old x
  | .groomed => lockIf (o.red.streams.any (fun (st : Stream) => st.groomed && st.id != 0)) old x
  | .groomedOrRing => lockIf (o.red.streams.any (fun (st : Stream) => st.groomed && st.id != 0) || o.ringRuns) old x
  | .islRst => islTake ini old x
  | .ivec => refuseIf (decide (x < 0x80) || decide (0xFF < x)) x
  | .mbLoop => lockIf ((o.fld Reg.PRB_MB_CTL_EN).testBit i) old x
  | .queueEn => lockIf (o.ringEn F i) old x
  | .rdgDiv => o.divTake old x
  | .region => lockIf (o.rgnLocked ini i || (F == Reg.MEM_RGN_BASE && (i == 4 || i == 5) && ini != .summit)) old x
  | .ret0 => if i = 0 then (none, false) else (some x, false)
  | .summit => lockIf (ini != .summit) old x
  | .summitTrained => lockIf (ini != .summit || o.on Reg.MEM_STATUS_TRAINED) old x
  | .tset => if 15 ≤ i % 32 then (none, false) else lockIf (o.mc.setB == (i / 32 % 2 == 1)) old x
  | .vec => refuseIf (decide (x < 2)) x
  | .watch => lockIf (o.pstate == stWatch) old x
  | .wdog =>
    if F = Reg.HQE_WDOG then refuseIf (decide (x < 100) || decide (x < 10 * o.fld Reg.HQE_CTO) || decide (60000 < x)) x
    else refuseIf (x == 0 || decide (100 < x) || decide (o.fld Reg.HQE_WDOG < 10 * x)) x

/-- A value outside the range that the field's table states, with no outcome stated for it: the access counts as one to a reserved location (R4). -/
def outOfRange (F : Field) (x : Nat) : Bool :=
  ((F == Reg.MEM_CFG_SPEED || F == Reg.MEM_FREQ_CTL_TARGET || F == Reg.SLM_GL_CTL_LEVEL) && x == 3) ||
  (F == Reg.RED_E_CFG_CELL && (decide (x < 2) || decide (8 < x))) || (F == Reg.RED_E_CFG_INTERVAL && decide (x < 8)) ||
  ((F == Reg.RED_CTL || F == Reg.SAD_CTL) && decide (1000 < x)) || (F == Reg.SLM_GL_CTL_K && decide (8 < x)) ||
  (F == Reg.SLM_ZSEL_COUNT && decide (256 < x)) || (F == Reg.RCV_SP_CTL_LANE && decide (4 ≤ x) && decide (x ≤ 6)) ||
  (F == Reg.TIU_REF_WIN && x == 0) || (F == Reg.PNL_REDUCE_MIN_HZ && decide (120 < x)) || (F == Reg.RDG_DMA_GO && !descOk x)

/-! ### Fields (R11) -/

/-- The bits of a w1c field that a 1 clears: a condition that still holds keeps its bit (R46, R75, R225, R269, R411). -/
def State.clearable (o : State) (F : Field) (x : Nat) : Nat :=
  if F = Reg.PWR_STATUS_REF_LOST ∧ !o.refPresent then 0
  else if F = Reg.SLM_STATUS_LIFT_STUCK ∧ o.slm.fireLine then 0
  else if F = Reg.RDG_IPEND then x &&& 0xFE
  else if F = Reg.PAT_TRIP_STATUS_LATCHED ∨ F = Reg.RDG_MSG_STATUS then 0
  else x

/-- The written bits of a field. -/
def Field.cut (F : Field) (v : Nat) : Nat := v / 2 ^ F.lsb % 2 ^ F.width

/-- A field whose write is an effect alone: it is stored by what it starts. -/
def actsOnly (F : Field) : Bool := F == Reg.PWR_ISL_RST || F == Reg.CMP_REF_DATA_I || F == Reg.CMP_REF_DATA_Q || F == Reg.CMP_REF_LEN

/-- One field of a register written: its new value, and whether LOCKVIOL is set. A read-only field that shows the running plan sets it too (R23). -/
def State.putField (o : State) (ini : Initiator) (v : Nat) (a : State × Bool) (F : Field) (i : Nat) : State × Bool :=
  let (s, bad) := a
  let x := F.cut v
  match F.ty with
  | .w1c => (s.clrF F (o.clearable F x) i, bad)
  | .w1s => (s.orF F x i, bad)
  | .ro => if F = Reg.RDG_MSG ∨ F.lock = .acq then (s, bad || (o.take s ini F i x).2) else (s, bad)
  | .rc => (s, bad)
  | .rom => (s, bad)
  | .wo => (s, bad || (o.take s ini F i x).2)
  | .rw | .rwl | .rwp =>
    match o.take s ini F i x with
    | (some y, b) => (if actsOnly F then s else s.setF F y i, bad || b)
    | (none, b) => (s, bad || b)

/-! ### What a write starts -/

/-- SQ_CFG.EN (R85, R109): cleared, an outstanding fetch is written off; set, the stop on a fetch error ends. -/
def State.sqEnable (s : State) (q : Nat) (was now : Bool) : State :=
  if was && !now then
    (s.hq.reads.filter (fun r => r.target == .fetch (Fin.ofNat 16 q) && !r.dead)).foldl (fun (s : State) r => s.killRead r.tag) s
  else if !was && now then s.setF Reg.SQ_STATUS_FETCH_ERR 0 q
  else s

/-- The indices and the phase of a submission queue, completion queue or stream ring set to 0 and 1 (R495). -/
def State.ringClear (s : State) (off i : Nat) : State :=
  if off < 0x12000 then (s.setF Reg.SQ_STATUS_HEAD 0 i).setF Reg.SQ_STATUS_TAIL 0 i
  else if off < 0x13000 then
    ((s.setF Reg.CQ_STATUS_TAIL 0 i).setF Reg.CQ_STATUS_HEAD 0 i).setF Reg.CQ_STATUS_PHASE 1 i |>.setF Reg.CQ_STATUS_FULL 0 i
  else
    let s := (s.hq.reads.filter (fun r => r.target == .bufRing (Fin.ofNat 8 i) && !r.dead)).foldl (fun (s : State) r => s.killRead r.tag) s
    let s := s.updSr i (fun (x : SrState) => { x with bufTail := 0, fillHead := 0, fetched := 0, bufs := [], phase := 1 })
    ((s.setF Reg.SR_STATUS_BUF_HEAD 0 i).setF Reg.SR_STATUS_FILL_TAIL 0 i).updNobuf i

/-- The coalescing count of ring `n` at 0 and its timer idle (R84). -/
def State.coalRestart (s : State) (n : Nat) : State :=
  { s with hq := { s.hq with coal := Store.erase s.hq.coal n, coalTimers := s.hq.coalTimers.filter (· != n) } }

/-- SR_CFG.EN set: entries that wait in the buffer ring are read, one whose fetch had failed again (R109). -/
def State.srEnable (s : State) (r : Nat) (was now : Bool) : State := if !was && now then s.bufRead r else s

/-- The DAC lanes follow PRB_DAC_TEST and its codes (R134). -/
def State.dacTest (s : State) : State :=
  if s.acqRuns then s
  else if s.on Reg.PRB_DAC_TEST then
    { s with acq := { s.acq with dac := .const (s.fldS Reg.PRB_DAC_CODE_I) (s.fldS Reg.PRB_DAC_CODE_Q) } }
  else { s with acq := { s.acq with dac := .idle } }

/-- CMP_REF_DATA (R161): the entry stored at INDEX, which advances; nothing at an index of 129 or more. -/
def State.refPut (s : State) (v : Nat) : State :=
  let n := s.fld Reg.CMP_REF_SEL_INDEX
  if 128 < n then s
  else
    let e := v % 4096 + v / 65536 % 4096 * 4096
    ({ s with ph := { s.ph with refs := Store.write 0 s.ph.refs (s.fld Reg.CMP_REF_SEL_LANE * 256 + n) e } }).setF Reg.CMP_REF_SEL_INDEX (n + 1)

/-- CMP_REF_LEN (R161): a length above 129 is taken as 0. -/
def State.refLenPut (s : State) (v : Nat) : State :=
  { s with ph := { s.ph with refLens := Store.write 0 s.ph.refLens (s.fld Reg.CMP_REF_SEL_LANE) (if 129 < v then 0 else v) } }

/-- MEM_RGN_CTL.COMMIT written: one that would change a region whose staging registers are locked is dropped with LOCKVIOL. -/
def State.rgnCommitBy (s : State) (ini : Initiator) (off : Nat) : State :=
  if (List.range 7).any (fun n => s.rgnLocked ini n && s.rgnStaged.getD n (0, 0) != s.rgnTable.getD n (0, 0)) then s.regErr errLock ini off true
  else s.rgnCommit

/-- Whether a field took a new value in a write, from the state before it. -/
def State.took (o s : State) (ini : Initiator) (F : Field) (i x : Nat) : Bool := (o.take s ini F i x).1.isSome

/-- Low words of the ring bases. -/
def ringLos : List Field := [Reg.SQ_BASE_LO, Reg.CQ_BASE_LO, Reg.SR_BUF_BASE_LO, Reg.SR_FILL_BASE_LO]

/-- The high word of the base whose low word is `F`. -/
def baseHi (F : Field) : Field :=
  if F = Reg.SQ_BASE_LO then Reg.SQ_BASE_HI
  else if F = Reg.CQ_BASE_LO then Reg.CQ_BASE_HI
  else if F = Reg.SR_BUF_BASE_LO then Reg.SR_BUF_BASE_HI
  else Reg.SR_FILL_BASE_HI

/-- The write of a ring base's low word commits both halves (R74). -/
def State.ringCommit (s : State) (F : Field) (i : Nat) : State :=
  { s with hq := { s.hq with bases := Store.write 0 s.hq.bases (F.addr i) (s.fld F i * 64 + s.fld (baseHi F) i * 2 ^ 32) } }

/-- What a write of field `F`, instance `i`, starts in the queue engines; `x` is the value written, `o` the state before. -/
def State.actHqe (o s : State) (F : Field) (i x : Nat) : State :=
  let was := o.readField F i
  if F = Reg.SQ_CFG_EN then s.sqEnable i (was == 1) (x == 1)
  else if F.lock = .queueEn then
    let s := if ringLos.contains F && !o.ringEn F i then s.ringCommit F i else s
    if o.ringEn F i || F == Reg.SQ_CFG_CQ || ((F == Reg.SQ_CFG_LOG2SIZE || F == Reg.CQ_CFG_LOG2SIZE || F == Reg.SR_CFG_LOG2SIZE) && x == was) then s
    else s.ringClear F.off i
  else if F = Reg.CQ_CFG_IRQ_EN ∧ was = 0 ∧ x = 1 then s.coalRestart i
  else if F = Reg.SR_CFG_IRQ_EN ∧ was = 0 ∧ x = 1 then s.coalRestart (16 + i)
  else if F = Reg.SR_CFG_EN then s.srEnable i (was == 1) (x == 1)
  else if F = Reg.HQE_CTL_EN0 ∨ F = Reg.HQE_CTL_EN1 then s.flushWrites.bufResume
  else s

/-- What a write starts in the acoustic path, calibration and the sequencer. -/
def State.actData (o s : State) (ini : Initiator) (F : Field) (i x v : Nat) : State :=
  if F = Reg.RCV_DCB_CTL_K then s.dcbKChanged i (o.fld Reg.RCV_DCB_CTL_K i)
  else if F = Reg.RCV_DCB_PRESET then s.dcbPreset i
  else if F = Reg.RCV_SP_CTL_REQ then
    if x = 1 ∧ o.took s ini F i x then (s.spRequest (s.fld Reg.RCV_SP_CTL_LANE)).setF F 0 else s
  else if F = Reg.RCV_SP_CTL_RELEASE then (if x = 1 ∧ o.took s ini F i x then s.spRelease.setF F 0 else s)
  else if F = Reg.RCV_SP_CTL_PIN then (if x = 0 ∧ o.on F i ∧ !s.on F i then s.spUnpinned else s)
  else if F = Reg.PRB_DAC_TEST ∨ F = Reg.PRB_DAC_CODE_I ∨ F = Reg.PRB_DAC_CODE_Q then s.dacTest
  else if F = Reg.CMP_REF_DATA_I then (if o.acqRuns then s else s.refPut v)
  else if F = Reg.CMP_REF_LEN then (if o.acqRuns then s else s.refLenPut x)
  else if F = Reg.SLM_PT then s.ptWritten i
  else if F = Reg.RED_ZONE_CFG_EN then s.zoneWritten i
  else s

/-- What a write starts in a ridge core. -/
def State.actRidge (o s : State) (F : Field) (i x : Nat) : State :=
  let c := i / F.n2
  if F = Reg.RDG_TG_CTL_EN then (if o.fld F i = 1 ∧ x = 0 then s.tgDrop c else s)
  else if F = Reg.RDG_TG_CTL_COMMIT then (if x = 1 then (s.tgPort c).setF F 0 i else s)
  else if F = Reg.RDG_IEN then s.rWake c
  else if F = Reg.RDG_EVT then
    (List.range 4).foldl (fun (s : State) j => if x.testBit j && !(o.fld F i).testBit j then s.pulse (0x90 + 4 * c + j) else s) s
  else if F = Reg.RDG_MSG_STATUS then (if x = 1 ∧ o.on F i then s.msgAck c else s)
  else if F = Reg.RDG_TIMER then s.updRc c (fun (r : Rcore) => { r with timer := x })
  else if F = Reg.RDG_DMA_GO then s.dmaGo c (i % F.n2) x
  else if F = Reg.RDG_DMA_STATUS_ABORT then (if x = 1 then (s.dmaAbort c (i % F.n2)).setF F 0 i else s)
  else s

/-- What a write starts in the memory controller. -/
def State.actMem (o s : State) (ini : Initiator) (off : Nat) (F : Field) (i x : Nat) : State :=
  if F = Reg.MEM_FREQ_CTL_GO then (if x = 1 then (s.setF F 0).freqGo else s)
  else if F = Reg.MEM_RGN_SIZE then (if o.took s ini F i x then s.rgnPair i else s)
  else if F = Reg.MEM_RGN_CTL_COMMIT then (if x = 1 then (s.setF F 0).rgnCommitBy ini off else s)
  else if F = Reg.MEM_MIG_CTL_RETIRE then s.retire i
  else if F = Reg.MEM_SPARE_CLR then
    if ini = .summit ∧ x = 0x5EA1 then s.recPut (fun (m : MemRecord) => { m with clear := vset m.clear i true }) else s
  else s

/-- What a write starts in GLB, PWR, SAD, PAT and CHK. -/
def State.actSlow (o s : State) (ini : Initiator) (F : Field) (i x : Nat) : State :=
  if F = Reg.GLB_TB_LOAD_LO then s.tbLoadLo x
  else if F = Reg.PWR_CTL then s.warmRst x
  else if F = Reg.PWR_ISL_RST then
    match o.take s ini F i x with
    | (some y, _) => s.islRst y
    | _ => s
  else if F = Reg.SAD_START then (List.range 9).foldl (fun (s : State) n => if x.testBit n then s.sadStart n else s) s
  else if F = Reg.PAT_TRIP_STATUS_LATCHED then s.tripClear x
  else if F = Reg.CHK_CTL_POLY then s.chkSelect i (s.readFields [(Reg.CHK_CTL_POLY, i), (Reg.CHK_CTL_FOLD, i), (Reg.CHK_CTL_AUTO_INC, i)])
  else if F = Reg.CHK_DATA8 then s.chkFeed i (leBytes 1 x)
  else if F = Reg.CHK_DATA16 then s.chkFeed i (leBytes 2 x)
  else if F = Reg.CHK_DATA32 then s.chkFeed i (leBytes 4 x)
  else if F = Reg.CHK_FINAL then (if x = 1 then s.chkClose i else s)
  else s

/-- What the write of one field starts. -/
def State.act (o : State) (ini : Initiator) (off v : Nat) (s : State) (F : Field) (i : Nat) : State :=
  let x := F.cut v
  let r := rowOf off
  if r = 2 then o.actHqe s F i x
  else if r = 11 then o.actMem s ini off F i x
  else if r = 19 then o.actRidge s F i x
  else if r = 3 ∨ r = 5 ∨ r = 6 ∨ r = 7 ∨ r = 8 then o.actData s ini F i x v
  else o.actSlow s ini F i x

/-- A write of a VBT register at the mirror (R344); the high word of a pair waits for its low word (R74), and VBT_RET[0] takes nothing (R341). -/
def State.vbtPut (s : State) (ini : Initiator) (off v : Nat) : State :=
  if off = 0xF0204 then s.updVb (fun (b : Vbat) => { b with rtcHi := v % 65536 })
  else if off = 0xF020C then s.updVb (fun (b : Vbat) => { b with alarmHi := v % 65536 })
  else if off = 0xF0200 then s.vbtWrite ini off (v + s.vb.rtcHi * 2 ^ 32)
  else if off = 0xF0208 then s.vbtWrite ini off (v + s.vb.alarmHi * 2 ^ 32)
  else if off = 0xF0210 ∨ off = 0xF0214 ∨ (0xF0244 ≤ off ∧ off < 0xF0280) then s.vbtWrite ini off v
  else s

/-- A request whose outcome the register's chapter does not state, so that the access counts as one to a reserved location (R4): a retirement, with the spare free, of a rank that is neither in the space nor the spare nor retired (R318; log entry 285); a frequency change asked for while one runs (R321). -/
def State.unlisted (s : State) (F : Field) (i x : Nat) : Bool :=
  (F == Reg.MEM_MIG_CTL_RETIRE && x != 7 && s.spareFree i && !(s.mc.order.getD i []).contains x && s.mc.spare.getD i none != some x &&
    !(s.fld Reg.MEM_CH_STATUS_RETIRED i).testBit x) ||
  (F == Reg.MEM_FREQ_CTL_GO && x == 1 && s.mc.freq.isSome && !s.freqRefused)

/-- A value outside its stated range, in a field that no lock keeps from the write (R4, R65). -/
def State.rangeBreak (s : State) (ini : Initiator) (v : Nat) (x : Field × Nat) : Bool :=
  (outOfRange x.1 (x.1.cut v) || s.unlisted x.1 x.2 (x.1.cut v)) && (s.take s ini x.1 x.2 (x.1.cut v)).1.isSome

/-- A listed register written. -/
def State.putFields (s : State) (ini : Initiator) (off v : Nat) (fs : List (Field × Nat)) : State :=
  if fs.any (s.rangeBreak ini v) then s.regErr errRsvdWr ini off true
  else
    let (t, bad) := fs.foldl (fun a x => s.putField ini v a x.1 x.2) (s, false)
    let t := if bad then t.regErr errLock ini off true else t
    fs.foldl (fun t x => s.act ini off v t x.1 x.2) t

/-! ### Memories behind windows -/

/-- Bytes of a memory written from `a`, each where its enable is set. -/
def Memory.writeEn (m : Memory) (a : Nat) : List (Option Byte) → Memory
  | [] => m
  | some b :: bs => (m.write a b).writeEn (a + 1) bs
  | none :: bs => Memory.writeEn m (a + 1) bs

/-- The memory would change at an enabled byte. -/
def Memory.differs (m : Memory) (a : Nat) : List (Option Byte) → Bool
  | [] => false
  | some b :: bs => m.read a != b || Memory.differs m (a + 1) bs
  | none :: bs => Memory.differs m (a + 1) bs

/-- A write to MRAM from an initiator is locked (R448): from PCIe everywhere but in the user area, which USER_RO locks; the loader region, once LOADER is set, against all. -/
def State.mramLocked (s : State) (ini : Initiator) (o n : Nat) : Bool :=
  (ini == .pcie && (decide (o < 0x160000) || s.on Reg.SUM_MRAM_LOCK_USER_RO)) || (decide (o < 0x20000) && decide (0 < n) && s.on Reg.SUM_MRAM_LOCK_LOADER)

/-- A window write into MRAM (R41, R448). -/
def State.mramWrite (s : State) (ini : Initiator) (off o : Nat) (d : List (Option Byte)) : State :=
  if s.mramLocked ini o d.length then (if s.mem.mram.differs o d then s.regErr errLock ini off true else s)
  else if s.pw.brownBlock then s
  else { s with mem := { s.mem with mram := s.mem.mram.writeEn o d } }

/-- A window write into the MAILBOX region (R304, R448); bytes that the region does not cover are dropped as reserved (R62). -/
def State.mailWrite (s : State) (ini : Initiator) (off o : Nat) (d : List (Option Byte)) : State :=
  if s.rgnSize 4 < o + d.length then s.regErr errRsvdWr ini off true
  else
    let a := s.rgnBase 4 + o
    let whole (l : Nat) : Bool := covers a d.length l && ((d.drop (64 * l - a)).take 64).all (·.isSome)
    let s := s.linesWritten a d.length whole
    { s with mem := { s.mem with ext := s.mem.ext.writeEn a d }, mc := { s.mc with poison := s.mc.poison.filter (fun l => !whole l) } }

/-- A word of the cairn's data memory written while its sequencer is stopped (R343). -/
def State.crnMemWrite (s : State) (ini : Initiator) (off w v : Nat) : State :=
  if s.fld Reg.CRN_STATUS_STATE = 0 then
    { s with crn := { s.crn with dmem := Store.write 0 (Store.write 0 s.crn.dmem w (v % 65536)) (w + 1) (v / 65536 % 65536) } }
  else if Store.read 0 s.crn.dmem w + Store.read 0 s.crn.dmem (w + 1) * 65536 = v % 2 ^ 32 then s
  else s.regErr errLock ini off true

/-- A word of a ridge core's memories written from the host: instruction memory is run-locked while the core is RUNNING or WAITING (R252). -/
def State.ridgePut (s : State) (ini : Initiator) (off c o v : Nat) : State :=
  if 0x20000 ≤ o then s.updRc c (fun (r : Rcore) => { r with dmem := r.dmem.writeLe (o - 0x20000) 4 v })
  else if s.rLive c then (if s.ridgeGet c o = v % 2 ^ 32 then s else s.regErr errLock ini off true)
  else s.updRc c (fun (r : Rcore) => { r with imem := r.imem.writeLe (o - 0x10000) 4 v })

/-- A 32-bit write that takes effect in the owning island. -/
def State.writeWord (s : State) (ini : Initiator) (off v : Nat) : State :=
  match siteAt off with
  | .reg fs => if 0xF0200 ≤ off ∧ off < 0xF0280 then s.vbtPut ini off v else s.putFields ini off v fs
  | .reserved => s.regErr errRsvdWr ini off true
  | .silent => s
  | .cairn w => s.crnMemWrite ini off w v
  | .ridge c o => s.ridgePut ini off c o v
  | .firn o => { s with mem := { s.mem with firn := s.mem.firn.writeLe o 4 v } }
  | .mailbox o => s.mailWrite ini off o ((leBytes 4 v).map some)
  | .mram o => s.mramWrite ini off o ((leBytes 4 v).map some)

end Sys2Proof.Machine
end

