-- ==== Sys2Proof/Machine/RegAccess.lean ====
section
/-! DEFINITION. Register accesses as the initiators make them: widths and reserved offsets (R61, R62), crossings with their posted writes and timeouts (R68 to R72), reads (R11), and the writes with rows of their own. -/

namespace Sys2Proof.Machine

/-! ### Crossings (R68, R69, R72) -/

/-- A write accepted by the crossing of its island, or dropped because one waits there (R69). -/
def State.post (s : State) (ini : Initiator) (off : Nat) (d : List (Option Byte)) : State :=
  let n := islandOf off
  if s.xing.any (fun x => x.island == n) then (s.orF Reg.GLB_XING_OVERRUN (2 ^ n)).regErr errOverrun ini off true
  else { s with xing := s.xing ++ [⟨n, off, d, ini, s.tick⟩] }

/-- The bytes that a write carries, as the number they spell. -/
def dataNat (d : List (Option Byte)) : Nat := leNat (d.map (·.getD 0))

/-- A posted write takes effect in its island. -/
def State.deliverWrite (s : State) (x : XWrite) : State :=
  match siteAt x.off with
  | .mailbox o => s.mailWrite x.ini x.off o x.data
  | .mram o => s.mramWrite x.ini x.off o x.data
  | _ => s.writeWord x.ini x.off (dataNat x.data)

/-- The write that waits for an island is applied (R68). -/
def State.applyPosted (s : State) (n : Nat) : State :=
  match s.xing.find? (fun x => x.island == n) with
  | some x => if s.answers x.off then { s with xing := s.xing.filter (fun y => y.island != n) }.deliverWrite x else s
  | none => s

/-- POSTED_WRITE_APPLY (R68, R70): BUSY clears; a stopped or reset island applies nothing (R72). -/
def execPostedWriteApply (island : Fin 24) (s : State) : Out := .next (s.applyPosted island.val)

/-- A crossing transaction abandoned: XTMO, and the island's bit of GLB_XING_TMO. -/
def State.abandon (s : State) (ini : Initiator) (off : Nat) (wr : Bool) : State :=
  (s.orF Reg.GLB_XING_TMO (2 ^ islandOf off)).regErr errXtmo ini off wr

/-- CROSSING_TIMEOUT (R72): 1 ms passes without an answer from the island. -/
def execCrossingTimeout (t : CrossTx) (s : State) : Out :=
  match t with
  | .write n =>
    match s.xing.find? (fun x => x.island == n.val) with
    | some x => .next (if s.answers x.off || decide (s.tick < x.accepted + ticksMs 1) then s else { s with xing := s.xing.filter (fun y => y.island != n.val) }.abandon x.ini x.off true)
    | none => .next s
  | .read ini off => .next (if !s.awake || servedHere off || s.answers off then s else { s with readOut := none }.abandon ini off false)

/-! ### Widths (R61) -/

/-- An access of the width that register blocks take; one that is not aligned has none (log entry 252). -/
def widthOk (off len : Nat) (full : Bool) : Bool := full && ((len == 4 && off % 4 == 0) || (len == 8 && off % 8 == 0))

/-! ### Writes -/

/-- A 32-bit write from an initiator: direct into FABRIC, posted to another island (R19, R68). -/
def State.writeFrom (s : State) (ini : Initiator) (off v : Nat) : State :=
  if islandOf off = islFabric then s.writeWord ini off v else s.post ini off ((leBytes 4 v).map some)

/-- A write to BAR 0. An 8-byte write is two of 4 bytes, the lower address first (R61). -/
def State.busWrite (s : State) (ini : Initiator) (off : Nat) (d : List (Option Byte)) : State :=
  match siteAt off with
  | .firn o => { s with mem := { s.mem with firn := s.mem.firn.writeEn o d } }
  | _ =>
    if anyWidth off then s.post ini off d
    else if !widthOk off d.length (d.all (·.isSome)) then s.regErr errWidth ini off true
    else if d.length = 8 then (s.writeFrom ini off (dataNat (d.take 4))).writeFrom ini (off + 4) (dataNat (d.drop 4))
    else s.writeFrom ini off (dataNat d)

/-- BAR 2 offsets that R81 lists: doorbells, the MSI-X table and the PBA. -/
def bar2Listed (off : Nat) : Bool :=
  decide (off < 0x40) || (decide (0x100 ≤ off) && decide (off < 0x140)) || (decide (0x200 ≤ off) && decide (off < 0x220)) ||
    (decide (0x300 ≤ off) && decide (off < 0x320)) || (decide (0x8000 ≤ off) && decide (off < 0x8400)) || (decide (0xC000 ≤ off) && decide (off < 0xC008))

/-- An access that BAR 2 takes: 4 bytes with full enables at a listed offset; the MSI-X table and PBA follow the PCI Express rules (R81). -/
def bar2Ok (off len : Nat) (full : Bool) : Bool :=
  bar2Listed off && (decide (0x8000 ≤ off) || (full && len == 4 && off % 4 == 0))

/-- The offset in BAR 2 that an access reaches: in stand-alone operation the summit controller has BAR 2 at 0x100_0000 of its fabric (R110). -/
def State.bar2At (s : State) (ini : Initiator) (bar2 : Bool) (off : Nat) : Option Nat :=
  if bar2 then some off
  else if s.pw.standalone && ini == .summit && decide (0x1000000 ≤ off) && decide (off < 0x1010000) then some (off - 0x1000000)
  else none

/-- A write to the MSI-X table: a mask taken away lets a pending message go (R81). -/
def State.msixWrite (s : State) (off : Nat) (d : List (Option Byte)) : State :=
  { s with hq := { s.hq with msix := s.hq.msix.writeEn (off - 0x8000) d } }.flushPba

/-- A write to BAR 2 (R81, R82): a doorbell, or the MSI-X table; the PBA is read-only, and what R81 does not list is dropped with DB_RSVD. -/
def State.bar2Write (s : State) (off : Nat) (d : List (Option Byte)) : Out :=
  let v := BitVec.ofNat 32 (dataNat d)
  if !bar2Ok off d.length (d.all (·.isSome)) then .next (s.hqErr Reg.HQE_ERR_DB_RSVD)
  else if off < 0x100 then execSqTailDb (Fin.ofNat 16 (off / 4)) v s
  else if off < 0x200 then execCqHeadDb (Fin.ofNat 16 (off / 4)) v s
  else if off < 0x300 then execSrBufDb (Fin.ofNat 8 (off / 4)) v [] s
  else if off < 0x400 then execSrFillDb (Fin.ofNat 8 (off / 4)) v s
  else .next (if off + d.length ≤ 0x8400 then s.msixWrite off d else s)

/-- REGISTER_WRITE (R19, R68, R81): a write to BAR 0 or BAR 2. -/
def execRegisterWrite (ini : Initiator) (bar2 : Bool) (off : Nat) (d : List (Option Byte)) (s : State) : Out :=
  if !s.awake then .next s
  else match s.bar2At ini bar2 off with
    | some o => s.bar2Write o d
    | none => .next (s.busWrite ini off d)

/-! ### Reads -/

/-- A read of BAR 2 (R81, R82): the last accepted doorbell value, bytes of the MSI-X table or a word of the PBA, 0 elsewhere. -/
def State.bar2Read (s : State) (off len : Nat) (full : Bool) : Nat :=
  let i := off % 0x100 / 4
  if !bar2Ok off len full then 0
  else if off < 0x100 then s.fld Reg.SQ_STATUS_TAIL i
  else if off < 0x200 then s.fld Reg.CQ_STATUS_HEAD i
  else if off < 0x300 then (s.sr i).bufTail
  else if off < 0x400 then (s.sr i).fillHead
  else if off < 0xC000 then s.hq.msix.readLe (off - 0x8000) len
  else ((s.hq.pba.map (fun v => 2 ^ v)).foldl (· ||| ·) 0) / 2 ^ (8 * (off - 0xC000)) % 2 ^ (8 * len)

/-- What a read returned. -/
def State.answer (s : State) (v : Option Nat) : State := { s with readOut := v }

/-- The initiator's own posted write to the island of an offset applied: what a crossing read is ordered behind (R71). -/
def State.behind (s : State) (ini : Initiator) (off : Nat) : State :=
  if s.xing.any (fun x => x.island == islandOf off && x.ini == ini) then s.applyPosted (islandOf off) else s

/-- A 32-bit read that completes: behind the initiator's own posted write to the island (R71), and never from an island that does not answer (none). -/
def State.readFrom (s : State) (ini : Initiator) (off : Nat) : Option (Option Nat × State) :=
  if servedHere off then some (s.readWord ini off)
  else if !s.answers off then none
  else some ((s.behind ini off).readWord ini off)

/-- Bytes read where any width is taken (R64): a reserved location counts once. -/
def State.windowGet (s : State) (ini : Initiator) (off n : Nat) : Option Nat × State :=
  match siteAt off with
  | .firn o => (some (s.mem.firn.readLe o n), s)
  | .mailbox o =>
    let (v, s) := s.mailRead ini off o n
    (v.map leNat, s)
  | .mram o => (some (s.mem.mram.readLe o n), s)
  | _ => s.readWord ini off

/-- A read of the mailbox window waits: the controller has accepted a write to one of its lines that is not yet done (R308). -/
def State.mailBusy (s : State) (off len : Nat) : Bool :=
  match siteAt off with
  | .mailbox o => (spanLines (s.rgnBase 4 + o) len).any (fun l => s.mc.flight.any (fun q => q.write.isSome && q.off / 64 == l))
  | _ => false

/-- A read of BAR 0 of a width that its block takes: one word, or two, the lower address first (R61). -/
def State.busRead (s : State) (ini : Initiator) (off len : Nat) : State :=
  if anyWidth off then
    if s.answers off && !s.mailBusy off len then
      let (v, t) := (s.behind ini off).windowGet ini off len
      t.answer v
    else s
  else match s.readFrom ini off with
    | none => s
    | some (lo, t) =>
      if len ≤ 4 then t.answer lo
      else match t.readFrom ini (off + 4) with
        | none => t
        | some (hi, t) => t.answer (match lo, hi with
          | some a, some b => some (a + b * 2 ^ 32)
          | _, _ => none)

/-- READ_CLEAR (R11, R71): a read completes; its read-clear fields clear. `ecc` is what the read of a ridge core's memory meets (R251). -/
def execReadClear (a : RegAccess) (ecc : MemEcc) (s : State) : Out :=
  if !s.awake then .next s
  else match s.bar2At a.ini a.bar2 a.off with
  | some o => .next (s.answer (some (s.bar2Read o a.len a.full)))
  | none =>
  if !anyWidth a.off && !widthOk a.off a.len a.full then .next s
  else match siteAt a.off with
    | .ridge c o =>
      if !s.answers a.off || o < 0x20000 then .next (s.busRead a.ini a.off a.len)
      else match ecc with
        | .clean => .next (s.busRead a.ini a.off a.len)
        | .corrected => .next ((s.incF Reg.RDG_ECC c).busRead a.ini a.off a.len)
        | .bad => .next (s.answer none)
    | _ => .next (s.busRead a.ini a.off a.len)

/-! ### Reserved offsets and widths (R61, R62, R81) -/

/-- A read of an unsupported width: the whole word for 4 bytes, else an abort; WIDTH either way. -/
def State.narrowRead (s : State) (ini : Initiator) (off len : Nat) : State :=
  let s := s.regErr errWidth ini off false
  if len ≤ 4 then s.busRead ini (off / 4 * 4) 4 else s.answer none

/-- RESERVED_ACCESS (R61, R62, R81): an access to a reserved offset, or of a width that its block does not take. -/
def execReservedAccess (a : RegAccess) (write : Bool) (s : State) : Out :=
  if !s.awake then .next s
  else match s.bar2At a.ini a.bar2 a.off with
  | some o => .next (if bar2Ok o a.len a.full then s else if write then s.hqErr Reg.HQE_ERR_DB_RSVD else s.answer (some 0))
  | none =>
  if (siteAt a.off).window then .next s
  else if !anyWidth a.off && !widthOk a.off a.len a.full then
    .next (if write then s.regErr errWidth a.ini a.off true else s.narrowRead a.ini a.off a.len)
  else match siteAt a.off with
    | .reserved => .next (if write then s.busWrite a.ini a.off (List.replicate a.len (some 0)) else s.busRead a.ini a.off a.len)
    | _ => .next s

/-! ### Writes with rows of their own -/

/-- A write waits in the crossing of the island of an offset; FABRIC has none (R19, R69). -/
def State.crossing (s : State) (off : Nat) : Bool := islandOf off != islFabric && s.xing.any (fun x => x.island == islandOf off)

/-- A register write of an initiator whose row is the whole write: where the island answers it is accepted and applied at once (log entry 56); where it does not, it waits in the crossing (R68, R72); where a write waits already, it is dropped (R69). -/
def State.effect (s : State) (ini : Initiator) (off v : Nat) : State :=
  if !s.awake then s
  else if s.answers off && !s.crossing off then s.writeWord ini off v
  else s.post ini off ((leBytes 4 v).map some)

/-- WARM_RST (R51, R78): a write of PWR_CTL. -/
def execWarmRst (ini : Initiator) (v : Word) (s : State) : Out := .next (s.effect ini 0x1004 v.toNat)

/-- ISLAND_RESET_HOLD (R53): a write of PWR_ISL_RST. -/
def execIslandResetHold (ini : Initiator) (v : Word) (s : State) : Out := .next (s.effect ini 0x1010 v.toNat)

/-- REF_SRC_WRITE (R45): a write of PWR_CLK_CFG. -/
def execRefSrcWrite (ini : Initiator) (v : Word) (s : State) : Out := .next (s.effect ini 0x100C v.toNat)

/-- SQ_ENABLE_WRITE (R85): a write of SQ_CFG of queue `q`. -/
def execSqEnableWrite (ini : Initiator) (q : Fin 16) (v : Word) (s : State) : Out := .next (s.effect ini (0x11008 + 0x40 * q.val) v.toNat)

/-- RING_CONFIG_WRITE (R495): a write of a BASE or LOG2SIZE register of a submission queue, completion queue or stream ring. -/
def execRingConfigWrite (ini : Initiator) (off : Nat) (v : Word) (s : State) : Out :=
  .next (if (fieldsAt off).any (fun x => x.1.lock == .queueEn) then s.effect ini off v.toNat else s)

/-- IRQ_EN_WRITE (R84): a write of CQ_CFG or SR_CFG. -/
def execIrqEnWrite (ini : Initiator) (ring : RingId) (v : Word) (s : State) : Out :=
  .next (s.effect ini (match ring with
    | .cq c => 0x12008 + 0x40 * c.val
    | .sr r => 0x13010 + 0x40 * r.val) v.toNat)

/-- HQE_WDOG_WRITE (R85): a write of HQE_WDOG, or of HQE_CTO with `cto`. -/
def execHqeWdogWrite (ini : Initiator) (cto : Bool) (v : Word) (s : State) : Out := .next (s.effect ini (if cto then 0x1000C else 0x10008) v.toNat)

/-- DCB_PRESET_WRITE (R140): a write of RCV_DCB_PRESET of a lane. -/
def execDcbPresetWrite (ini : Initiator) (lane : Fin 4) (v : Word) (s : State) : Out := .next (s.effect ini (Reg.RCV_DCB_PRESET.addr lane.val) v.toNat)

/-- DCB_K_WRITE (R140): a write of RCV_DCB_CTL of a lane. -/
def execDcbKWrite (ini : Initiator) (lane : Fin 4) (v : Word) (s : State) : Out := .next (s.effect ini (Reg.RCV_DCB_CTL_K.addr lane.val) v.toNat)

/-- PT_WRITE (R207): a write of SLM_PT. -/
def execPtWrite (ini : Initiator) (n : Fin 4) (v : Word) (s : State) : Out := .next (s.effect ini (Reg.SLM_PT.addr n.val) v.toNat)

/-- DMA_GO (R265, R266): a write of RDG_DMA_GO of a core's channel. -/
def execDmaGo (ini : Initiator) (c : Fin 8) (ch : Fin 4) (v : Word) (s : State) : Out :=
  .next (s.effect ini (Reg.RDG_DMA_GO.addr (dmaIx c.val ch.val)) v.toNat)

/-- RETIRE_WRITE (R317): a write of MEM_MIG_CTL of a channel. -/
def execRetireWrite (ini : Initiator) (ch : Fin 2) (v : Word) (s : State) : Out := .next (s.effect ini (Reg.MEM_MIG_CTL_RETIRE.addr ch.val) v.toNat)

/-- FREQ_CHANGE (R321): a write of MEM_FREQ_CTL. -/
def execFreqChange (ini : Initiator) (v : Word) (s : State) : Out := .next (s.effect ini 0x90010 v.toNat)

/-- RGN_SIZE_WRITE (R304): a write of MEM_RGN_SIZE of a region. -/
def execRgnSizeWrite (ini : Initiator) (n : Fin 7) (v : Word) (s : State) : Out := .next (s.effect ini (Reg.MEM_RGN_SIZE.addr n.val) v.toNat)

/-- RGN_COMMIT (R304): a write of MEM_RGN_CTL. -/
def execRgnCommit (ini : Initiator) (v : Word) (s : State) : Out := .next (s.effect ini 0x90140 v.toNat)

/-- MEM_SPARE_CLR (R319): a write of MEM_SPARE_CLR of a channel. -/
def execMemSpareClr (ini : Initiator) (ch : Fin 2) (v : Word) (s : State) : Out := .next (s.effect ini (Reg.MEM_SPARE_CLR.addr ch.val) v.toNat)

end Sys2Proof.Machine
end

