-- ==== Sys2Proof/Machine/RidgeIssue.lean ====
section
/-! DEFINITION. The issue of a ridge bundle (R256 to R258, R272, R282, R294): its operations are given one by one, and the last one issues it. Loop ends (R262, R264) stand here too. -/

namespace Sys2Proof.Machine

/-! ### Giving an operation -/

/-- A result of the bundle, visible `lam` cycles on (R297); it names its register as a destination. -/
def RBundle.put (b : RBundle) (t lam : Nat) (x : RDest) (v : Int) (sat : Bool := false) (ovf : Bool := false) : RBundle :=
  { b with writes := b.writes ++ [⟨t + lam, x, v, none, sat, ovf⟩], dests := b.dests ++ [if x = .flags then .sr else x] }

/-- A contribution to an accumulator, added when it becomes visible (R286). -/
def RBundle.accum (b : RBundle) (t lam : Nat) (x : RDest) (v : Int) (s : Bool) : RBundle :=
  { b with writes := b.writes ++ [⟨t + lam, x, v, some s, false, false⟩], dests := b.dests ++ [x] }

/-- An exception of the bundle: ILLEGAL before any other, else the first one found. -/
def RBundle.fail (b : RBundle) (cause : Nat) (addr : Option Nat) : RBundle :=
  if b.exc.isNone || (cause == 1 && b.exc.all (fun e => e.1 != 1)) then { b with exc := some (cause, addr) } else b

/-- Two of the bundle's results name one destination (R256, R282). -/
def RBundle.twice (b : RBundle) : Bool := !b.dests.Nodup

/-! ### Loop ends (R262, R264, R299) -/

/-- One level tested at the end bundle at `pc`: whether the body repeats, and the core after it. -/
def Rcore.endLevel (r : Rcore) (n pc : Nat) : Bool × Rcore :=
  let x := r.loop n
  if !x.active || x.stop != pc then (false, r)
  else
    let again := decide (1 < x.count)
    let r := r.putLoop n { x with count := x.count - 1, active := again }
    let down (v : Nat) : Nat := (v + 15) % 16
    let r := if x.rot then
        { r with rotb := down r.rotb,
                 flight := r.flight.map (fun w => if w.dest == .rotb && w.due == r.t + 1 then { w with val := down w.val.toNat } else w) }
      else r
    (again, if again then { r with pc := x.start } else r)

/-- The end of an iteration: level 0 first, level 1 when level 0 falls through; the core goes on at the start bundle or after the end. -/
def Rcore.loopEnd (r : Rcore) : Rcore :=
  let pc := r.pc
  let (again, r) := r.endLevel 0 pc
  if again then r
  else
    let (again, r) := r.endLevel 1 pc
    if again then r else { r with pc := pc + 8 }

/-- The loop end that is due at a core. -/
def State.rLoopEnd (s : State) (c : Nat) : State :=
  if !(s.rc c).loopDue then s
  else
    let s := s.updRc c (fun (r : Rcore) => { r.loopEnd with loopDue := false })
    let s := (s.rTick c).rCycles c 1
    s.rGo c (s.rc c).pc

/-- LOOP_END (R262). -/
def execLoopEnd (c : Fin 8) (s : State) : Out := .next (if s.rRuns c.val && !s.rHeld c.val then s.rLoopEnd c.val else s)

/-! ### Control registers and the register fabric (R249, R258) -/

/-- What an access of slot M to the control block or the register fabric gives. -/
inductive RBus where
  /-- a bus error or a crossing timeout -/
  | error (s : State)
  | done (s : State) (v : Nat)

/-- The BAR 0 offset of a core address: its own control block, or the fabric. -/
def busOff (c a : Nat) : Nat := if a < 0x1000 then 0x200000 + c * 0x40000 + a else a - 0x10000000

/-- Cycles stalled by a fabric access (R257, R258): a free number, at least 24 for firn memory. -/
def State.rStall (s : State) (c off : Nat) : State :=
  let (n, s) := s.freeVal 24
  let n := if 0x400000 ≤ off ∧ off < 0xC00000 then n + 24 else n
  (s.addF Reg.RDG_STALL n c).rCycles c n

/-- A 32-bit load. An island that does not answer ends it as a crossing timeout (R72). -/
def State.rBusLoad (s : State) (c : Fin 8) (a : Nat) : RBus :=
  let off := busOff c.val a
  let fin : Option Nat × State → RBus
    | (some v, s) => .done s v
    | (none, s) => .error s
  if a < 0x1000 then fin (s.readWord (.ridge c) off)
  else
    let s := s.rStall c.val off
    match s.readFrom (.ridge c) off with
    | some x => fin x
    | none => .error (s.abandon (.ridge c) off false)

/-- A 32-bit store: into the core's own block at once, else posted like a host write. -/
def State.rBusStore (s : State) (c : Fin 8) (a v : Nat) : State :=
  let off := busOff c.val a
  if a < 0x1000 then s.writeWord (.ridge c) off v else (s.rStall c.val off).busWrite (.ridge c) off ((leBytes 4 v).map some)

/-- The bundle's access to the control block or the fabric, made as it issues. -/
def State.rBus (s : State) (c : Fin 8) (x : RAccess) : RBus :=
  match x.store with
  | some v => .done (s.rBusStore c x.addr v) 0
  | none => s.rBusLoad c x.addr

/-! ### Issue -/

/-- The results, stores and loop set-up of a bundle take their places (R256, R262). -/
def Rcore.commit (r : Rcore) (b : RBundle) : Rcore :=
  let r := { r with flight := r.flight ++ b.writes, bundle := RBundle.reset,
                    dmem := b.stores.foldl (fun (m : Memory) x => m.writeN x.1 x.2) r.dmem }
  match b.loop with
  | some (n, x) => r.putLoop n x
  | none => r

/-- The bundle at `pc` is the end bundle of an active level. -/
def Rcore.atEnd (r : Rcore) : Bool := (r.bank.l0.active && r.bank.l0.stop == r.pc) || (r.l1.active && r.l1.stop == r.pc)

/-- RETI (R271): the routine's operations complete, the banks change places, and the bundle at IRET issues next. -/
def State.rReturn (s : State) (c : Nat) : State :=
  let n := (s.rc c).depth
  let s := (s.rDrain c).rCycles c (n + 1)
  let s := s.updRc c (fun (r : Rcore) => { r with bank := r.other, other := r.bank, shd := false, t := r.t + 1 })
  s.rGo c (s.rc c).iret

/-- The core goes on after a bundle: a taken branch two cycles later (R294), else a loop end or the next bundle. Under WAIT and HALT the loop end that the bundle may be is made at once. -/
def State.rNextBundle (s : State) (c : Nat) (b : RBundle) : State :=
  match b.fin, b.target with
  | .reti, _ => s.rReturn c
  | .wait, _ =>
    let s := ((s.rDrain c).rCycles c 1).updRc c Rcore.loopEnd
    (s.setF Reg.RDG_STATUS rWaiting c).rWake c
  | .halt, _ =>
    let s := ((s.rDrain c).rCycles c 1).updRc c Rcore.loopEnd
    s.setF Reg.RDG_STATUS rStopped c
  | .go, some x => ((s.rTicks c 2).rCycles c 2).rGo c x
  | .go, none =>
    if (s.rc c).atEnd then s.updRc c (fun (r : Rcore) => { r with loopDue := true })
    else ((s.rTick c).rCycles c 1).rGo c ((s.rc c).pc + 8)

/-- The issuing bundle uses data bank `k`: from the eighth consecutive cycle on, a DMA or host access that waits takes the bank and stalls the core for a cycle; whether one waits is a free value (R257; log entry 119). -/
def State.bankUse (s : State) (c k : Nat) : State :=
  let t := (s.rc c).t
  let (last, n) := (s.rc c).used.getD k (0, 0)
  let n := if last + 1 = t then n + 1 else 1
  let note (s : State) (n : Nat) : State := s.updRc c (fun (r : Rcore) => { r with used := vset r.used k (t, n) })
  if n < 8 then note s n
  else
    let (v, s) := s.freeVal 1
    if v = 0 then note s n else (note (s.incF Reg.RDG_STALL c) 1).rCycles c 1

/-- The bundle takes effect: RDG_PC, corrected errors, results, and what follows. -/
def State.rCommit (s : State) (c : Nat) (b : RBundle) : State :=
  let s := b.banks.foldl (fun (s : State) k => s.bankUse c k) s
  let s := ((s.setF Reg.RDG_PC (s.rc c).pc c).addF Reg.RDG_ECC b.ecc c).updRc c (fun (r : Rcore) => r.commit b)
  s.rNextBundle c b

/-- The bundle issues: an exception cancels it (R272), its access to a control register or the fabric is made, and it takes effect. -/
def State.rIssue (s : State) (c : Fin 8) : State :=
  let r := s.rc c.val
  let b := if r.bundle.twice then r.bundle.fail 1 none else r.bundle
  match b.exc, b.access with
  | some (cause, addr), _ => s.rExcept c.val cause r.pc addr
  | none, none => s.rCommit c.val b
  | none, some x =>
    match s.rBus c x with
    | .error s => s.rExcept c.val 6 r.pc (some x.addr)
    | .done s v =>
      s.rCommit c.val (if x.store.isSome then b else { b with writes := b.writes ++ [⟨r.t + 3, .d x.dest, v, none, false, false⟩] })

/-- An operation given to the bundle of a RUNNING core; a loop end that is due comes first, and the last operation issues the bundle. -/
def State.rOp (s : State) (c : Fin 8) (last : Bool) (f : Rcore → RBundle → RBundle) : State :=
  if !s.rRuns c.val || s.rHeld c.val then s
  else
    let s := s.rLoopEnd c.val
    if !s.rRuns c.val then s
    else
      let s := s.updRc c.val (fun (r : Rcore) => { r with bundle := f r { r.bundle with begun := true } })
      if last then s.rIssue c else s

end Sys2Proof.Machine
end

