-- ==== Sys2Proof/Machine/Flags.lean ====
section
/-! DEFINITION. The flag computations: Z, N, C and V of the ridge compare, and the conditions of its branches (R254, R289). The cairn's two flags are computed where its operations are (Machine/Cairn.lean). -/

namespace Sys2Proof.Machine

/-- The flags of CMP on two 32-bit values (R289), as SR bits 7 to 4: Z, N, C, V from bit 0 up. -/
def cmpFlags (a b : Nat) : Nat :=
  let d : Int := sx 32 a - sx 32 b
  b2n (d == 0) + 2 * b2n ((code 32 d).testBit 31) + 4 * b2n (decide (b ≤ a)) + 8 * b2n (decide (d ≠ sx 32 (code 32 d)))

/-- Z, N, C and V of a status word. -/
def srZ (sr : Nat) : Bool := sr.testBit 4
def srN (sr : Nat) : Bool := sr.testBit 5
def srC (sr : Nat) : Bool := sr.testBit 6
def srV (sr : Nat) : Bool := sr.testBit 7

/-- A branch condition by its COND code, on a status word (R289). -/
def condHolds (cond : Fin 9) (sr : Nat) : Bool :=
  match cond.val with
  | 0 => true
  | 1 => srZ sr
  | 2 => !srZ sr
  | 3 => srN sr != srV sr
  | 4 => srN sr == srV sr
  | 5 => srZ sr || srN sr != srV sr
  | 6 => !srZ sr && srN sr == srV sr
  | 7 => !srC sr
  | _ => srC sr

end Sys2Proof.Machine
end

