-- ==== Sys2Proof/Machine/RidgeX.lean ====
section
/-! DEFINITION. The X-slot operations of the ridge cores (R283 to R289), and the empty operation. -/

namespace Sys2Proof.Machine

/-! ### Operands and results -/

/-- A D register as a signed number, and its halves. -/
def Rcore.sd (r : Rcore) (n : Fin 32) : Int := sx 32 (r.d n)
def Rcore.lo (r : Rcore) (n : Fin 32) : Int := sx 16 (r.d n)
def Rcore.hi (r : Rcore) (n : Fin 32) : Int := sx 16 (r.d n / 65536)
def Rcore.half (r : Rcore) (n : Fin 32) (h : Bool) : Int := if h then r.hi n else r.lo n

/-- DD ← fit32(v) (R260, R283). -/
def putFit (r : Rcore) (b : RBundle) (lam : Nat) (s : Bool) (dd : Fin 32) (v : Int) : RBundle :=
  let (x, sat, ovf) := fitR 32 s v
  b.put r.t lam (.d (r.phys dd)) x sat ovf

/-- DD.L ← fit16(l), DD.H ← fit16(h), each half apart. -/
def putHalves (r : Rcore) (b : RBundle) (lam : Nat) (s : Bool) (dd : Fin 32) (l h : Int) : RBundle :=
  let (x, sx, ox) := fitR 16 s l
  let (y, sy, oy) := fitR 16 s h
  b.put r.t lam (.d (r.phys dd)) ((code 16 x + code 16 y * 65536 : Nat) : Int) (sx || sy) (ox || oy)

/-- DD ← a value that needs no fit. -/
def putD (r : Rcore) (b : RBundle) (lam : Nat) (dd : Fin 32) (v : Int) : RBundle := b.put r.t lam (.d (r.phys dd)) v

/-- The shift count: the DB field itself, or the low five bits of DB (R284). -/
def Rcore.shift (r : Rcore) (imm : Bool) (db : Fin 32) : Nat := if imm then db.val else r.d db % 32

/-- p and q of R285, and t of R287. -/
def Rcore.prodP (r : Rcore) (ha hb : Bool) (da db : Fin 32) : Int := r.half da ha * r.half db hb
def Rcore.prodQ (r : Rcore) (ha hb : Bool) (da db : Fin 32) : Int :=
  let p1 := r.lo da * r.half db ha
  let p2 := r.hi da * r.half db (!ha)
  if hb then p1 - p2 else p1 + p2
def Rcore.prodT (r : Rcore) (ha : Bool) (da db : Fin 32) : Int := r.lo db * r.half da ha

/-! ### Arithmetic and logic (R284) -/

/-- RIDGE_NOP (R284, R290): an empty slot. With `parity` the fetch of its bundle meets a parity error, which raises MEM_ECC (R251). -/
def execRidgeNop (c : Fin 8) (last : Bool) (parity : Bool) (s : State) : Out :=
  .next (s.rOp c last (fun _ b => if parity then b.fail 7 none else b))

def execAdd (c : Fin 8) (last : Bool) (sat : Bool) (dd da db : Fin 32) (s : State) : Out :=
  .next (s.rOp c last (fun r b => putFit r b 1 sat dd (r.sd da + r.sd db)))

def execSub (c : Fin 8) (last : Bool) (sat : Bool) (dd da db : Fin 32) (s : State) : Out :=
  .next (s.rOp c last (fun r b => putFit r b 1 sat dd (r.sd da - r.sd db)))

def execAdd2 (c : Fin 8) (last : Bool) (sat : Bool) (dd da db : Fin 32) (s : State) : Out :=
  .next (s.rOp c last (fun r b => putHalves r b 1 sat dd (r.lo da + r.lo db) (r.hi da + r.hi db)))

def execSub2 (c : Fin 8) (last : Bool) (sat : Bool) (dd da db : Fin 32) (s : State) : Out :=
  .next (s.rOp c last (fun r b => putHalves r b 1 sat dd (r.lo da - r.lo db) (r.hi da - r.hi db)))

def execAnd (c : Fin 8) (last : Bool) (dd da db : Fin 32) (s : State) : Out :=
  .next (s.rOp c last (fun r b => putD r b 1 dd (r.d da &&& r.d db : Nat)))

def execOr (c : Fin 8) (last : Bool) (dd da db : Fin 32) (s : State) : Out :=
  .next (s.rOp c last (fun r b => putD r b 1 dd (r.d da ||| r.d db : Nat)))

def execXor (c : Fin 8) (last : Bool) (dd da db : Fin 32) (s : State) : Out :=
  .next (s.rOp c last (fun r b => putD r b 1 dd (r.d da ^^^ r.d db : Nat)))

def execSll (c : Fin 8) (last : Bool) (imm : Bool) (dd da db : Fin 32) (s : State) : Out :=
  .next (s.rOp c last (fun r b => putD r b 1 dd (r.d da * 2 ^ r.shift imm db : Nat)))

def execSrl (c : Fin 8) (last : Bool) (imm : Bool) (dd da db : Fin 32) (s : State) : Out :=
  .next (s.rOp c last (fun r b => putD r b 1 dd (r.d da / 2 ^ r.shift imm db : Nat)))

def execSra (c : Fin 8) (last : Bool) (imm : Bool) (dd da db : Fin 32) (s : State) : Out :=
  .next (s.rOp c last (fun r b => putD r b 1 dd (Int.fdiv (r.sd da) (2 ^ r.shift imm db))))

def execMin (c : Fin 8) (last : Bool) (dd da db : Fin 32) (s : State) : Out :=
  .next (s.rOp c last (fun r b => putD r b 1 dd (min (r.sd da) (r.sd db))))

def execMax (c : Fin 8) (last : Bool) (dd da db : Fin 32) (s : State) : Out :=
  .next (s.rOp c last (fun r b => putD r b 1 dd (max (r.sd da) (r.sd db))))

def execAbs (c : Fin 8) (last : Bool) (sat : Bool) (dd da : Fin 32) (s : State) : Out :=
  .next (s.rOp c last (fun r b => putFit r b 1 sat dd ((r.sd da).natAbs : Int)))

def execNeg (c : Fin 8) (last : Bool) (sat : Bool) (dd da : Fin 32) (s : State) : Out :=
  .next (s.rOp c last (fun r b => putFit r b 1 sat dd (-r.sd da)))

/-- CMP (R289). -/
def execCmp (c : Fin 8) (last : Bool) (da db : Fin 32) (s : State) : Out :=
  .next (s.rOp c last (fun r b => b.put r.t 1 .flags (cmpFlags (r.d da) (r.d db))))

def execPack (c : Fin 8) (last : Bool) (dd da db : Fin 32) (s : State) : Out :=
  .next (s.rOp c last (fun r b => putD r b 1 dd (r.d da % 65536 * 65536 + r.d db % 65536 : Nat)))

def execMul (c : Fin 8) (last : Bool) (sat : Bool) (dd da db : Fin 32) (s : State) : Out :=
  .next (s.rOp c last (fun r b => putFit r b 3 sat dd (r.sd da * r.sd db)))

def execMulq2 (c : Fin 8) (last : Bool) (sat : Bool) (dd da db : Fin 32) (s : State) : Out :=
  .next (s.rOp c last (fun r b => putHalves r b 3 sat dd (shrRne (r.lo da * r.lo db) 15) (shrRne (r.hi da * r.hi db) 15)))

/-! ### Multiply-accumulate (R285, R286) -/

/-- MPA: its S bit has no effect (R285). -/
def execMpa (c : Fin 8) (last : Bool) (_sat : Bool) (ad : Fin 8) (ha hb : Bool) (da db : Fin 32) (s : State) : Out :=
  .next (s.rOp c last (fun r b => b.put r.t 5 (.a ad.val) (r.prodP ha hb da db)))

def execMac (c : Fin 8) (last : Bool) (sat : Bool) (ad : Fin 8) (ha hb : Bool) (da db : Fin 32) (s : State) : Out :=
  .next (s.rOp c last (fun r b => b.accum r.t 5 (.a ad.val) (r.prodP ha hb da db) sat))

def execMsu (c : Fin 8) (last : Bool) (sat : Bool) (ad : Fin 8) (ha hb : Bool) (da db : Fin 32) (s : State) : Out :=
  .next (s.rOp c last (fun r b => b.accum r.t 5 (.a ad.val) (-r.prodP ha hb da db) sat))

def execDmpa (c : Fin 8) (last : Bool) (_sat : Bool) (ad : Fin 8) (ha hb : Bool) (da db : Fin 32) (s : State) : Out :=
  .next (s.rOp c last (fun r b => b.put r.t 5 (.a ad.val) (r.prodQ ha hb da db)))

def execDmac (c : Fin 8) (last : Bool) (sat : Bool) (ad : Fin 8) (ha hb : Bool) (da db : Fin 32) (s : State) : Out :=
  .next (s.rOp c last (fun r b => b.accum r.t 5 (.a ad.val) (r.prodQ ha hb da db) sat))

def execDmsu (c : Fin 8) (last : Bool) (sat : Bool) (ad : Fin 8) (ha hb : Bool) (da db : Fin 32) (s : State) : Out :=
  .next (s.rOp c last (fun r b => b.accum r.t 5 (.a ad.val) (-r.prodQ ha hb da db) sat))

/-! ### FIR taps (R287) -/

/-- The tap move: D(DB + 1) ← DB, one cycle on; DB names neither D15 nor D31 (R282). -/
def tapMove (r : Rcore) (b : RBundle) (db : Fin 32) : RBundle :=
  if db.val = 15 ∨ db.val = 31 then b.fail 1 none else b.put r.t 1 (.d (r.phys (db + 1))) (r.d db)

def execTapz (c : Fin 8) (last : Bool) (_sat : Bool) (ad : Fin 8) (ha : Bool) (da db : Fin 32) (s : State) : Out :=
  .next (s.rOp c last (fun r b => tapMove r (b.put r.t 5 (.a ad.val) (r.prodT ha da db)) db))

def execTap (c : Fin 8) (last : Bool) (sat : Bool) (ad : Fin 8) (ha : Bool) (da db : Fin 32) (s : State) : Out :=
  .next (s.rOp c last (fun r b => tapMove r (b.accum r.t 5 (.a ad.val) (r.prodT ha da db) sat) db))

/-! ### Accumulators (R284, R288) -/

def execExt (c : Fin 8) (last : Bool) (sat : Bool) (dd : Fin 32) (aa : Fin 8) (n : Fin 16) (s : State) : Out :=
  .next (s.rOp c last (fun r b => putFit r b 2 sat dd (shrRne (r.a aa) n.val)))

def execExt2 (c : Fin 8) (last : Bool) (sat : Bool) (dd : Fin 32) (aa ab : Fin 8) (n : Fin 16) (s : State) : Out :=
  .next (s.rOp c last (fun r b => putFit r b 2 sat dd (shrRne (r.a aa + r.a ab) n.val)))

/-- DD ← sext(fit16(v)). -/
def putFit16 (r : Rcore) (b : RBundle) (s : Bool) (dd : Fin 32) (v : Int) : RBundle :=
  let (x, sat, ovf) := fitR 16 s v
  b.put r.t 2 (.d (r.phys dd)) x sat ovf

def execExth (c : Fin 8) (last : Bool) (sat : Bool) (dd : Fin 32) (aa : Fin 8) (n : Fin 16) (s : State) : Out :=
  .next (s.rOp c last (fun r b => putFit16 r b sat dd (shrRne (r.a aa) n.val)))

def execExth2 (c : Fin 8) (last : Bool) (sat : Bool) (dd : Fin 32) (aa ab : Fin 8) (n : Fin 16) (s : State) : Out :=
  .next (s.rOp c last (fun r b => putFit16 r b sat dd (shrRne (r.a aa + r.a ab) n.val)))

def execAclr (c : Fin 8) (last : Bool) (aa : Fin 8) (s : State) : Out := .next (s.rOp c last (fun r b => b.put r.t 2 (.a aa.val) 0))

def execAgetl (c : Fin 8) (last : Bool) (dd : Fin 32) (aa : Fin 8) (s : State) : Out :=
  .next (s.rOp c last (fun r b => putD r b 2 dd (code 32 (r.a aa))))

def execAgeth (c : Fin 8) (last : Bool) (dd : Fin 32) (aa : Fin 8) (s : State) : Out :=
  .next (s.rOp c last (fun r b => putD r b 2 dd (sx 8 (code 40 (r.a aa) / 2 ^ 32))))

def execAputl (c : Fin 8) (last : Bool) (dd : Fin 32) (aa : Fin 8) (s : State) : Out :=
  .next (s.rOp c last (fun r b => b.put r.t 2 (.a aa.val) (r.sd dd)))

def execAputh (c : Fin 8) (last : Bool) (dd : Fin 32) (aa : Fin 8) (s : State) : Out :=
  .next (s.rOp c last (fun r b => b.put r.t 2 (.a aa.val) (sx 40 (r.d dd % 256 * 2 ^ 32 + code 32 (r.a aa)))))

/-- AA ← fit40(v). -/
def putFit40 (r : Rcore) (b : RBundle) (s : Bool) (aa : Fin 8) (v : Int) : RBundle :=
  let (x, sat, ovf) := fitR 40 s v
  b.put r.t 2 (.a aa.val) x sat ovf

def execAadd (c : Fin 8) (last : Bool) (sat : Bool) (aa ab : Fin 8) (s : State) : Out :=
  .next (s.rOp c last (fun r b => putFit40 r b sat aa (r.a aa + r.a ab)))

def execAsub (c : Fin 8) (last : Bool) (sat : Bool) (aa ab : Fin 8) (s : State) : Out :=
  .next (s.rOp c last (fun r b => putFit40 r b sat aa (r.a aa - r.a ab)))

end Sys2Proof.Machine
end

