-- ==== Sys2Proof/Machine/RidgeM.lean ====
section
/-! DEFINITION. The M-slot and long operations of the ridge cores (R261, R290 to R296). -/

namespace Sys2Proof.Machine

/-! ### Pointers (R261) -/

/-- A pointer after its post-modification by `m`. -/
def Rcore.postMod (r : Rcore) (p : Fin 8) (m : Int) : Nat :=
  let v : Int := r.p p
  let base : Int := (r.b.getD p.val 0).toNat
  let len : Int := (r.l.getD p.val 0).toNat
  if len = 0 then code 32 (v + m) else code 32 (base + (v - base + m) % len)

/-- A pointer post-modified, visible one cycle on. -/
def putMod (r : Rcore) (b : RBundle) (p : Fin 8) (m : Int) : RBundle := b.put r.t 1 (.p p.val) (r.postMod p m)

/-- The modifier in bytes (R291). -/
def Rcore.memMod (r : Rcore) (m : MemMod) (size : Nat) : Int :=
  match m with
  | .imm i => i.toInt * size
  | .reg d => r.sd d

/-! ### Loads and stores (R249, R250, R291) -/

/-- What a core address is: a control register, data memory by offset, the register fabric, or nothing a data access can reach. -/
inductive RSpot where
  | control | data (o : Nat) | fabric | none

/-- The spot of a core address. -/
def spotOf (a : Nat) : RSpot :=
  if a < 0x1000 then .control
  else if 0x20000 ≤ a ∧ a < 0x40000 then .data (a - 0x20000)
  else if 0x10000000 ≤ a ∧ a < 0x11000000 then .fabric
  else .none

/-- The error of a load from data memory, if it meets one (R251). -/
def RBundle.meets (b : RBundle) (e : MemEcc) (a : Nat) : RBundle :=
  match e with
  | .clean => b
  | .corrected => { b with ecc := b.ecc + 1 }
  | .bad => b.fail 7 (some a)

/-- The data bank of an offset in data memory, used by the bundle (R249, R257). -/
def RBundle.uses (b : RBundle) (o : Nat) : RBundle := { b with banks := b.banks ++ [o / 0x10000] }

/-- An MM load of `size` bytes at P: `f` puts the bytes read where they go, and names the destinations also of an access that fails (R282); 32-bit reads elsewhere than in data memory are made at issue. -/
def mmLoad (r : Rcore) (b : RBundle) (size : Nat) (d : Fin 32) (p : Fin 8) (m : MemMod) (e : MemEcc) (f : Nat → RBundle → RBundle) : RBundle :=
  let a := r.p p
  let b := putMod r b p (r.memMod m size)
  if a % size ≠ 0 then (f 0 b).fail 3 (some a)
  else match spotOf a with
    | .data o => ((f (r.dmem.readLe o size) b).uses o).meets e a
    | .none => (f 0 b).fail 2 (some a)
    | _ =>
      if size = 4 then { b with access := some ⟨a, none, r.phys d⟩, dests := b.dests ++ [.d (r.phys d)] } else (f 0 b).fail 2 (some a)

/-- An MM store of `size` bytes at P. -/
def mmStore (r : Rcore) (b : RBundle) (size : Nat) (p : Fin 8) (m : MemMod) (v : Nat) : RBundle :=
  let a := r.p p
  let b := putMod r b p (r.memMod m size)
  if a % size ≠ 0 then b.fail 3 (some a)
  else match spotOf a with
    | .data o => { b.uses o with stores := b.stores ++ [(o, leBytes size v)] }
    | .none => b.fail 2 (some a)
    | _ => if size = 4 then { b with access := some ⟨a, some v, 0⟩ } else b.fail 2 (some a)

def execLdH (c : Fin 8) (last : Bool) (x : Fin 32) (p : Fin 8) (m : MemMod) (ecc : MemEcc) (s : State) : Out :=
  .next (s.rOp c last (fun r b => mmLoad r b 2 x p m ecc (fun v b => putD r b 3 x (sx 16 v))))

def execLdHu (c : Fin 8) (last : Bool) (x : Fin 32) (p : Fin 8) (m : MemMod) (ecc : MemEcc) (s : State) : Out :=
  .next (s.rOp c last (fun r b => mmLoad r b 2 x p m ecc (fun v b => putD r b 3 x v)))

def execLdW (c : Fin 8) (last : Bool) (x : Fin 32) (p : Fin 8) (m : MemMod) (ecc : MemEcc) (s : State) : Out :=
  .next (s.rOp c last (fun r b => mmLoad r b 4 x p m ecc (fun v b => putD r b 3 x v)))

/-- The register after an even one (R282). -/
def oddD (x : Fin 32) : Fin 32 := x + 1

/-- A D field of LD.D or ST.D that names an odd register raises ILLEGAL (R282). -/
def evenD (x : Fin 32) (b : RBundle) : RBundle := if x.val % 2 = 1 then b.fail 1 none else b

def execLdD (c : Fin 8) (last : Bool) (x : Fin 32) (p : Fin 8) (m : MemMod) (ecc : MemEcc) (s : State) : Out :=
  .next (s.rOp c last (fun r b =>
    mmLoad r (evenD x b) 8 x p m ecc (fun v b => putD r (putD r b 3 x (v % 2 ^ 32 : Nat)) 3 (oddD x) (v / 2 ^ 32 : Nat))))

def execStH (c : Fin 8) (last : Bool) (x : Fin 32) (p : Fin 8) (m : MemMod) (s : State) : Out :=
  .next (s.rOp c last (fun r b => mmStore r b 2 p m (r.d x % 65536)))

def execStW (c : Fin 8) (last : Bool) (x : Fin 32) (p : Fin 8) (m : MemMod) (s : State) : Out :=
  .next (s.rOp c last (fun r b => mmStore r b 4 p m (r.d x)))

def execStD (c : Fin 8) (last : Bool) (x : Fin 32) (p : Fin 8) (m : MemMod) (s : State) : Out :=
  .next (s.rOp c last (fun r b => mmStore r (evenD x b) 8 p m (r.d x + r.d (oddD x) * 2 ^ 32)))

/-- The bytes by which LDP post-modifies a pointer (R292). -/
def ldpMod (m : Fin 4) : Int :=
  match m.val with
  | 0 => 0
  | 1 => 8
  | 2 => -8
  | _ => 16

/-- LDP (R292): ALIGN, then ADDR, then BANK; the word at PA and the word at PB each meet an error of their own (R251). -/
def execLdp (c : Fin 8) (last : Bool) (q pa pb : Fin 8) (ma mb : Fin 4) (ecc : PairEcc) (s : State) : Out :=
  .next (s.rOp c last (fun r b =>
    let a := r.p pa
    let a' := r.p pb
    let b := putMod r (putMod r b pa (ldpMod ma)) pb (ldpMod mb)
    let d (k : Nat) : RDest := .d (r.phys ⟨(4 * q.val + k) % 32, Nat.mod_lt _ (by decide)⟩)
    let x := r.dmem.readLe (a - 0x20000) 8
    let y := r.dmem.readLe (a' - 0x20000) 8
    let b := (((b.put r.t 3 (d 0) (x % 2 ^ 32 : Nat)).put r.t 3 (d 1) (x / 2 ^ 32 : Nat)).put r.t 3 (d 2) (y % 2 ^ 32 : Nat)).put r.t 3 (d 3) (y / 2 ^ 32 : Nat)
    if a % 8 ≠ 0 then b.fail 3 (some a)
    else if a' % 8 ≠ 0 then b.fail 3 (some a')
    else match spotOf a, spotOf a' with
      | .data i, .data j => if i / 0x10000 = j / 0x10000 then b.fail 4 (some a) else (((b.uses i).uses j).meets ecc.a a).meets ecc.b a'
      | .data _, _ => b.fail 2 (some a')
      | _, _ => b.fail 2 (some a)))

/-! ### Moves (R290) -/

def execMov (c : Fin 8) (last : Bool) (d x : Fin 32) (s : State) : Out := .next (s.rOp c last (fun r b => putD r b 1 d (r.d x)))

def execMovi (c : Fin 8) (last : Bool) (d : Fin 32) (imm : BitVec 10) (s : State) : Out :=
  .next (s.rOp c last (fun r b => putD r b 1 d imm.toInt))

def execPget (c : Fin 8) (last : Bool) (d : Fin 32) (p : Fin 8) (s : State) : Out := .next (s.rOp c last (fun r b => putD r b 1 d (r.p p)))

def execPset (c : Fin 8) (last : Bool) (d : Fin 32) (p : Fin 8) (s : State) : Out :=
  .next (s.rOp c last (fun r b => b.put r.t 1 (.p p.val) (r.d d)))

/-- PMOD (R261). -/
def execPmod (c : Fin 8) (last : Bool) (p : Fin 8) (imm : BitVec 12) (s : State) : Out :=
  .next (s.rOp c last (fun r b => putMod r b p imm.toInt))

def execMovi32 (c : Fin 8) (last : Bool) (d : Fin 32) (imm : Word) (s : State) : Out :=
  .next (s.rOp c last (fun r b => putD r b 1 d imm.toNat))

def execPseti (c : Fin 8) (last : Bool) (p : Fin 8) (imm : Word) (s : State) : Out :=
  .next (s.rOp c last (fun r b => b.put r.t 1 (.p p.val) imm.toNat))

/-! ### Control registers (R255, R293) -/

/-- The value of a control register by number; none for a bad number. -/
def State.ctlRead (s : State) (c : Nat) (r : Rcore) (n : Nat) : Option Nat :=
  if n = 0 then some r.sr
  else if n = 1 then some r.bank.l0.count
  else if n = 2 then some r.l1.count
  else if n = 3 then some r.rotb
  else if n = 4 then some (s.fld Reg.RDG_IEN c)
  else if n = 5 then some (s.fld Reg.RDG_IPEND c)
  else if n = 6 then some r.iret
  else if 8 ≤ n ∧ n < 16 then some (r.b.getD (n - 8) 0).toNat
  else if 16 ≤ n ∧ n < 24 then some (r.l.getD (n - 16) 0).toNat
  else if n = 24 then some (s.fld Reg.RDG_CYCLE_LO c)
  else if n = 25 then some (s.fld Reg.RDG_CYCLE_HI c)
  else none

/-- The register that a write of a control register reaches; none where it raises ILLEGAL. -/
def ctlDest (n v : Nat) : Option RDest :=
  if n = 0 then some .sr
  else if n = 1 then some (.lc 0)
  else if n = 2 then some (.lc 1)
  else if n = 3 then some .rotb
  else if n = 4 then some .ien
  else if n = 5 then some .ipend
  else if n = 6 then some .iret
  else if 8 ≤ n ∧ n < 16 then some (.b (n - 8))
  else if 16 ≤ n ∧ n < 24 ∧ v ≤ 131072 then some (.l (n - 16))
  else none

/-- A control register written, two cycles on. -/
def ctlPut (r : Rcore) (b : RBundle) (n v : Nat) : RBundle :=
  match ctlDest n v with
  | some x => b.put r.t 2 x v
  | none => b.fail 1 none

/-- MOVC.R (R293): IEN, IPEND and CYCLE are read behind a loop end that is due. -/
def execMovcR (c : Fin 8) (last : Bool) (d x : Fin 32) (s : State) : Out :=
  .next (s.rOp c last (fun r b => match (s.rLoopEnd c.val).ctlRead c.val r x.val with
    | some v => putD r b 2 d v
    | none => b.fail 1 none))

/-- MOVC.W (R293). -/
def execMovcW (c : Fin 8) (last : Bool) (d x : Fin 32) (s : State) : Out := .next (s.rOp c last (fun r b => ctlPut r b x.val (r.d d)))

def execMovci (c : Fin 8) (last : Bool) (x : Fin 32) (imm : Word) (s : State) : Out :=
  .next (s.rOp c last (fun r b => ctlPut r b x.val imm.toNat))

/-! ### Control flow (R294 to R296) -/

/-- BR (R289, R294): the flags are read at issue. -/
def execBr (c : Fin 8) (last : Bool) (cond : Fin 9) (rel : BitVec 11) (s : State) : Out :=
  .next (s.rOp c last (fun r b => if condHolds cond r.bank.sr then { b with target := some (code 32 (r.pc + 8 * rel.toInt)) } else b))

/-- JR (R294): an address that is not a multiple of 8 raises ALIGN. -/
def execJr (c : Fin 8) (last : Bool) (p : Fin 8) (s : State) : Out :=
  .next (s.rOp c last (fun r b => if r.p p % 8 ≠ 0 then b.fail 3 none else { b with target := some (r.p p) }))

/-- The address of a 13-bit target (R295). -/
def tgtAddr (t : BitVec 13) : Nat := 0x10000 + 8 * t.toNat

def execJmp (c : Fin 8) (last : Bool) (tgt : BitVec 13) (s : State) : Out :=
  .next (s.rOp c last (fun _ b => { b with target := some (tgtAddr tgt) }))

def execCall (c : Fin 8) (last : Bool) (p : Fin 8) (tgt : BitVec 13) (s : State) : Out :=
  .next (s.rOp c last (fun r b => { b.put r.t 1 (.p p.val) (r.pc + 8 : Nat) with target := some (tgtAddr tgt) }))

/-- ROT (R264, R290). -/
def execRot (c : Fin 8) (last : Bool) (s : State) : Out := .next (s.rOp c last (fun r b => b.put r.t 1 .rotb ((r.rotb + 15) % 16 : Nat)))

/-- RETI (R271, R294): outside the shadow bank it raises ILLEGAL. -/
def execReti (c : Fin 8) (last : Bool) (s : State) : Out :=
  .next (s.rOp c last (fun r b => if r.shd then { b with fin := .reti } else b.fail 1 none))

/-- WAIT (R272). -/
def execWait (c : Fin 8) (last : Bool) (s : State) : Out := .next (s.rOp c last (fun _ b => { b with fin := .wait }))

/-- HALT (R290). -/
def execHalt (c : Fin 8) (last : Bool) (s : State) : Out := .next (s.rOp c last (fun _ b => { b with fin := .halt }))

/-- BREAK (R272). -/
def execBreak (c : Fin 8) (last : Bool) (s : State) : Out := .next (s.rOp c last (fun _ b => b.fail 8 none))

/-- LOOP (R262, R296): ILLEGAL, then LOOP on an active level, then ADDR; a count of 0 goes on after the end bundle like a taken branch. -/
def execLoop (c : Fin 8) (last : Bool) (lvl : Fin 2) (rot : Bool) (n : LoopCount) (stop : BitVec 13) (s : State) : Out :=
  .next (s.rOp c last (fun r b =>
    let b := { b with dests := b.dests ++ [RDest.lc lvl.val] }
    let e := r.pc + 8 * stop.toNat
    let k := match n with
      | .imm i => i.toNat
      | .reg d => r.d d
    if stop = 0 ∨ (rot = true ∧ r.shd = true) then b.fail 1 none
    else if (r.loop lvl.val).active then b.fail 5 none
    else if 0x20000 ≤ e then b.fail 2 none
    else
      let b := { b with loop := some (lvl.val, ⟨decide (0 < k), k, r.pc + 8, e, rot⟩) }
      if k = 0 then { b with target := some (e + 8) } else b))

end Sys2Proof.Machine
end

