-- ==== Sys2Proof/Machine/Dispatch.lean ====
section
/-! DEFINITION. Which meaning each command has: one arm for each constructor of Instr. -/

namespace Sys2Proof.Machine

def exec (i : Instr) (s : State) : Host.Outcome State Fault Refusal :=
  match i with
  | .nop h => Sys2Proof.Machine.execNop h s
  | .identify h d => Sys2Proof.Machine.execIdentify h d s
  | .abort h => Sys2Proof.Machine.execAbort h s
  | .query h => Sys2Proof.Machine.execQuery h s
  | .powerState h => Sys2Proof.Machine.execPowerState h s
  | .planLoad h d => Sys2Proof.Machine.execPlanLoad h d s
  | .planCheck h d => Sys2Proof.Machine.execPlanCheck h d s
  | .acqStart h => Sys2Proof.Machine.execAcqStart h s
  | .acqStop h => Sys2Proof.Machine.execAcqStop h s
  | .planSwitch h => Sys2Proof.Machine.execPlanSwitch h s
  | .alignReset h => Sys2Proof.Machine.execAlignReset h s
  | .streamOpen h => Sys2Proof.Machine.execStreamOpen h s
  | .streamClose h => Sys2Proof.Machine.execStreamClose h s
  | .streamFirn h => Sys2Proof.Machine.execStreamFirn h s
  | .slmLoad h d => Sys2Proof.Machine.execSlmLoad h d s
  | .slmArm h => Sys2Proof.Machine.execSlmArm h s
  | .slmDisarm h => Sys2Proof.Machine.execSlmDisarm h s
  | .capture h => Sys2Proof.Machine.execCapture h s
  | .captureRead h d => Sys2Proof.Machine.execCaptureRead h d s
  | .liftCfg h => Sys2Proof.Machine.execLiftCfg h s
  | .grmCompress h inl outl => Sys2Proof.Machine.execGrmCompress h inl outl s
  | .grmDecompress h inl outl => Sys2Proof.Machine.execGrmDecompress h inl outl s
  | .grmResume h inl outl => Sys2Proof.Machine.execGrmResume h inl outl s
  | .grmCtxDrop h => Sys2Proof.Machine.execGrmCtxDrop h s
  | .dtsConfig h d => Sys2Proof.Machine.execDtsConfig h d s
  | .dtsStart h => Sys2Proof.Machine.execDtsStart h s
  | .dtsStop h => Sys2Proof.Machine.execDtsStop h s
  | .dtsRead h d => Sys2Proof.Machine.execDtsRead h d s
  | .sadConfig h d => Sys2Proof.Machine.execSadConfig h d s
  | .sadSelfcal h => Sys2Proof.Machine.execSadSelfcal h s
  | .sadRead h d => Sys2Proof.Machine.execSadRead h d s
  | .sadFallback h => Sys2Proof.Machine.execSadFallback h s
  | .calRun h => Sys2Proof.Machine.execCalRun h s
  | .calBg h => Sys2Proof.Machine.execCalBg h s
  | .calStore h readBack => Sys2Proof.Machine.execCalStore h readBack s
  | .calReport h d => Sys2Proof.Machine.execCalReport h d s
  | .fwBegin h => Sys2Proof.Machine.execFwBegin h s
  | .fwBlock h d => Sys2Proof.Machine.execFwBlock h d s
  | .fwVerify h => Sys2Proof.Machine.execFwVerify h s
  | .fwActivate h => Sys2Proof.Machine.execFwActivate h s
  | .fwConfirm h => Sys2Proof.Machine.execFwConfirm h s
  | .fwStatus h => Sys2Proof.Machine.execFwStatus h s
  | .logRead h d => Sys2Proof.Machine.execLogRead h d s
  | .logMark h => Sys2Proof.Machine.execLogMark h s
  | .sensorRead h d => Sys2Proof.Machine.execSensorRead h d s
  | .sensorLimits h d => Sys2Proof.Machine.execSensorLimits h d s
  | .rdgLoad h d => Sys2Proof.Machine.execRdgLoad h d s
  | .rdgStart h => Sys2Proof.Machine.execRdgStart h s
  | .rdgStop h => Sys2Proof.Machine.execRdgStop h s
  | .rdgMsg h => Sys2Proof.Machine.execRdgMsg h s
  | .srcConfig h d => Sys2Proof.Machine.execSrcConfig h d s
  | .pumpSet h => Sys2Proof.Machine.execPumpSet h s
  | .pumpOff h => Sys2Proof.Machine.execPumpOff h s
  | .srcClear h => Sys2Proof.Machine.execSrcClear h s
  | .tiuConfig h => Sys2Proof.Machine.execTiuConfig h s
  | .tiuCal h => Sys2Proof.Machine.execTiuCal h s
  | .skateStart h d => Sys2Proof.Machine.execSkateStart h d s
  | .skateStop h => Sys2Proof.Machine.execSkateStop h s
  | .skateRead h d => Sys2Proof.Machine.execSkateRead h d s
  | .pnlMode h d => Sys2Proof.Machine.execPnlMode h d s
  | .pnlPalette h d => Sys2Proof.Machine.execPnlPalette h d s
  | .pnlEnable h => Sys2Proof.Machine.execPnlEnable h s
  | .patConfig h => Sys2Proof.Machine.execPatConfig h s
  | .patTelegram h => Sys2Proof.Machine.execPatTelegram h s
  | .trip h => Sys2Proof.Machine.execTrip h s
  | .sqTailDb q v => Sys2Proof.Machine.execSqTailDb q v s
  | .cqHeadDb c v => Sys2Proof.Machine.execCqHeadDb c v s
  | .srBufDb r v entries => Sys2Proof.Machine.execSrBufDb r v entries s
  | .srFillDb r v => Sys2Proof.Machine.execSrFillDb r v s
  | .submissionFetch engine d => Sys2Proof.Machine.execSubmissionFetch engine d s
  | .fenceRelease h => Sys2Proof.Machine.execFenceRelease h s
  | .fetchResume => Sys2Proof.Machine.execFetchResume s
  | .heldEntryWrite c => Sys2Proof.Machine.execHeldEntryWrite c s
  | .coalTimer r => Sys2Proof.Machine.execCoalTimer r s
  | .hostReadCompletion tag d => Sys2Proof.Machine.execHostReadCompletion tag d s
  | .hqeCtoExpiry tag => Sys2Proof.Machine.execHqeCtoExpiry tag s
  | .handleWatchdog h => Sys2Proof.Machine.execHandleWatchdog h s
  | .streamBlockComplete id => Sys2Proof.Machine.execStreamBlockComplete id s
  | .blockCloseTimer id => Sys2Proof.Machine.execBlockCloseTimer id s
  | .srFlushTimer r => Sys2Proof.Machine.execSrFlushTimer r s
  | .pendingReturnWrite r => Sys2Proof.Machine.execPendingReturnWrite r s
  | .d3hotEntry => Sys2Proof.Machine.execD3hotEntry s
  | .d0Return => Sys2Proof.Machine.execD0Return s
  | .hostReset => Sys2Proof.Machine.execHostReset s
  | .functionLevelReset => Sys2Proof.Machine.execFunctionLevelReset s
  | .linkL0 speed width => Sys2Proof.Machine.execLinkL0 speed width s
  | .pewakeTimeout => Sys2Proof.Machine.execPewakeTimeout s
  | .sqEnableWrite ini q v => Sys2Proof.Machine.execSqEnableWrite ini q v s
  | .ringConfigWrite ini off v => Sys2Proof.Machine.execRingConfigWrite ini off v s
  | .irqEnWrite ini ring v => Sys2Proof.Machine.execIrqEnWrite ini ring v s
  | .hqeWdogWrite ini cto v => Sys2Proof.Machine.execHqeWdogWrite ini cto v s
  | .registerWrite ini bar2 off data => Sys2Proof.Machine.execRegisterWrite ini bar2 off data s
  | .reservedAccess a write => Sys2Proof.Machine.execReservedAccess a write s
  | .readClear a ecc => Sys2Proof.Machine.execReadClear a ecc s
  | .postedWriteApply island => Sys2Proof.Machine.execPostedWriteApply island s
  | .crossingTimeout t => Sys2Proof.Machine.execCrossingTimeout t s
  | .tbLoadWrite v => Sys2Proof.Machine.execTbLoadWrite v s
  | .ppsEdge => Sys2Proof.Machine.execPpsEdge s
  | .ppsLoss => Sys2Proof.Machine.execPpsLoss s
  | .warmRst ini v => Sys2Proof.Machine.execWarmRst ini v s
  | .islandResetHold ini v => Sys2Proof.Machine.execIslandResetHold ini v s
  | .refSrcWrite ini v => Sys2Proof.Machine.execRefSrcWrite ini v s
  | .porLAssert long => Sys2Proof.Machine.execPorLAssert long s
  | .coldBoot standalone testMode => Sys2Proof.Machine.execColdBoot standalone testMode s
  | .sysRstLAssert long => Sys2Proof.Machine.execSysRstLAssert long s
  | .warmBoot => Sys2Proof.Machine.execWarmBoot s
  | .systemPllLock => Sys2Proof.Machine.execSystemPllLock s
  | .convPllLock => Sys2Proof.Machine.execConvPllLock s
  | .loaderStart => Sys2Proof.Machine.execLoaderStart s
  | .memoryTrainingDone t0 t1 => Sys2Proof.Machine.execMemoryTrainingDone t0 t1 s
  | .bootComplete ms => Sys2Proof.Machine.execBootComplete ms s
  | .brownoutCrossing below => Sys2Proof.Machine.execBrownoutCrossing below s
  | .brownoutReset => Sys2Proof.Machine.execBrownoutReset s
  | .vbatReset => Sys2Proof.Machine.execVbatReset s
  | .vbatLow low => Sys2Proof.Machine.execVbatLow low s
  | .refLost lift => Sys2Proof.Machine.execRefLost lift s
  | .refReturn lift => Sys2Proof.Machine.execRefReturn lift s
  | .transitionDone => Sys2Proof.Machine.execTransitionDone s
  | .queuedTransitionStart => Sys2Proof.Machine.execQueuedTransitionStart s
  | .standbyWake => Sys2Proof.Machine.execStandbyWake s
  | .wakeRetryTimer => Sys2Proof.Machine.execWakeRetryTimer s
  | .frameStart => Sys2Proof.Machine.execFrameStart s
  | .toneFiring => Sys2Proof.Machine.execToneFiring s
  | .firingProcessed fresh => Sys2Proof.Machine.execFiringProcessed fresh s
  | .planSwitchApply => Sys2Proof.Machine.execPlanSwitchApply s
  | .acqStopDrained => Sys2Proof.Machine.execAcqStopDrained s
  | .relockEdge => Sys2Proof.Machine.execRelockEdge s
  | .energyInterval => Sys2Proof.Machine.execEnergyInterval s
  | .mbMeasurement => Sys2Proof.Machine.execMbMeasurement s
  | .mbCorrection => Sys2Proof.Machine.execMbCorrection s
  | .mbStarved => Sys2Proof.Machine.execMbStarved s
  | .dcbPresetWrite ini lane v => Sys2Proof.Machine.execDcbPresetWrite ini lane v s
  | .dcbKWrite ini lane v => Sys2Proof.Machine.execDcbKWrite ini lane v s
  | .bankPwrUpdate fresh => Sys2Proof.Machine.execBankPwrUpdate fresh s
  | .spReq => Sys2Proof.Machine.execSpReq s
  | .spRelease => Sys2Proof.Machine.execSpRelease s
  | .spSettleEnd => Sys2Proof.Machine.execSpSettleEnd s
  | .spCompareEnd pairs => Sys2Proof.Machine.execSpCompareEnd pairs s
  | .calBgTimer => Sys2Proof.Machine.execCalBgTimer s
  | .calVisitDone m p1 p2 p3 => Sys2Proof.Machine.execCalVisitDone m p1 p2 p3 s
  | .ramanShot k => Sys2Proof.Machine.execRamanShot k s
  | .dtsLegEnd => Sys2Proof.Machine.execDtsLegEnd s
  | .dtsCloseStart => Sys2Proof.Machine.execDtsCloseStart s
  | .dtsCloseEnd => Sys2Proof.Machine.execDtsCloseEnd s
  | .triggerInput pin level => Sys2Proof.Machine.execTriggerInput pin level s
  | .gateMatchComplete => Sys2Proof.Machine.execGateMatchComplete s
  | .gateTimeout => Sys2Proof.Machine.execGateTimeout s
  | .periodicTimer n => Sys2Proof.Machine.execPeriodicTimer n s
  | .ptWrite ini n v => Sys2Proof.Machine.execPtWrite ini n v s
  | .glacierBlockWrite => Sys2Proof.Machine.execGlacierBlockWrite s
  | .segmentComplete => Sys2Proof.Machine.execSegmentComplete s
  | .captureWindowEnd slot => Sys2Proof.Machine.execCaptureWindowEnd slot s
  | .captureCopyDone slot => Sys2Proof.Machine.execCaptureCopyDone slot s
  | .liftArmChange asserted => Sys2Proof.Machine.execLiftArmChange asserted s
  | .liftFireEdge => Sys2Proof.Machine.execLiftFireEdge s
  | .liftFireRelease => Sys2Proof.Machine.execLiftFireRelease s
  | .liftLatchTimeout => Sys2Proof.Machine.execLiftLatchTimeout s
  | .liftStuck => Sys2Proof.Machine.execLiftStuck s
  | .groomBlock short => Sys2Proof.Machine.execGroomBlock short s
  | .jobChunkDone h d => Sys2Proof.Machine.execJobChunkDone h d s
  | .interruptEntry c => Sys2Proof.Machine.execInterruptEntry c s
  | .loopEnd c => Sys2Proof.Machine.execLoopEnd c s
  | .dmaGo ini c ch v => Sys2Proof.Machine.execDmaGo ini c ch v s
  | .dmaDescriptorDone c ch ecc => Sys2Proof.Machine.execDmaDescriptorDone c ch ecc s
  | .dmaAbort c ch => Sys2Proof.Machine.execDmaAbort c ch s
  | .ridgeTimer c => Sys2Proof.Machine.execRidgeTimer c s
  | .tgCommit c => Sys2Proof.Machine.execTgCommit c s
  | .msgAck c => Sys2Proof.Machine.execMsgAck c s
  | .ridgeNop c last parity => Sys2Proof.Machine.execRidgeNop c last parity s
  | .add c last sat dd da db => Sys2Proof.Machine.execAdd c last sat dd da db s
  | .sub c last sat dd da db => Sys2Proof.Machine.execSub c last sat dd da db s
  | .add2 c last sat dd da db => Sys2Proof.Machine.execAdd2 c last sat dd da db s
  | .sub2 c last sat dd da db => Sys2Proof.Machine.execSub2 c last sat dd da db s
  | .and c last dd da db => Sys2Proof.Machine.execAnd c last dd da db s
  | .or c last dd da db => Sys2Proof.Machine.execOr c last dd da db s
  | .xor c last dd da db => Sys2Proof.Machine.execXor c last dd da db s
  | .sll c last imm dd da db => Sys2Proof.Machine.execSll c last imm dd da db s
  | .srl c last imm dd da db => Sys2Proof.Machine.execSrl c last imm dd da db s
  | .sra c last imm dd da db => Sys2Proof.Machine.execSra c last imm dd da db s
  | .min c last dd da db => Sys2Proof.Machine.execMin c last dd da db s
  | .max c last dd da db => Sys2Proof.Machine.execMax c last dd da db s
  | .abs c last sat dd da => Sys2Proof.Machine.execAbs c last sat dd da s
  | .neg c last sat dd da => Sys2Proof.Machine.execNeg c last sat dd da s
  | .cmp c last da db => Sys2Proof.Machine.execCmp c last da db s
  | .pack c last dd da db => Sys2Proof.Machine.execPack c last dd da db s
  | .mul c last sat dd da db => Sys2Proof.Machine.execMul c last sat dd da db s
  | .mulq2 c last sat dd da db => Sys2Proof.Machine.execMulq2 c last sat dd da db s
  | .mpa c last sat ad ha hb da db => Sys2Proof.Machine.execMpa c last sat ad ha hb da db s
  | .mac c last sat ad ha hb da db => Sys2Proof.Machine.execMac c last sat ad ha hb da db s
  | .msu c last sat ad ha hb da db => Sys2Proof.Machine.execMsu c last sat ad ha hb da db s
  | .dmpa c last sat ad ha hb da db => Sys2Proof.Machine.execDmpa c last sat ad ha hb da db s
  | .dmac c last sat ad ha hb da db => Sys2Proof.Machine.execDmac c last sat ad ha hb da db s
  | .dmsu c last sat ad ha hb da db => Sys2Proof.Machine.execDmsu c last sat ad ha hb da db s
  | .tapz c last sat ad ha da db => Sys2Proof.Machine.execTapz c last sat ad ha da db s
  | .tap c last sat ad ha da db => Sys2Proof.Machine.execTap c last sat ad ha da db s
  | .ridgeExt c last sat dd aa n => Sys2Proof.Machine.execExt c last sat dd aa n s
  | .ext2 c last sat dd aa ab n => Sys2Proof.Machine.execExt2 c last sat dd aa ab n s
  | .exth c last sat dd aa n => Sys2Proof.Machine.execExth c last sat dd aa n s
  | .exth2 c last sat dd aa ab n => Sys2Proof.Machine.execExth2 c last sat dd aa ab n s
  | .aclr c last aa => Sys2Proof.Machine.execAclr c last aa s
  | .agetl c last dd aa => Sys2Proof.Machine.execAgetl c last dd aa s
  | .ageth c last dd aa => Sys2Proof.Machine.execAgeth c last dd aa s
  | .aputl c last dd aa => Sys2Proof.Machine.execAputl c last dd aa s
  | .aputh c last dd aa => Sys2Proof.Machine.execAputh c last dd aa s
  | .aadd c last sat aa ab => Sys2Proof.Machine.execAadd c last sat aa ab s
  | .asub c last sat aa ab => Sys2Proof.Machine.execAsub c last sat aa ab s
  | .ldH c last r p m ecc => Sys2Proof.Machine.execLdH c last r p m ecc s
  | .ldHu c last r p m ecc => Sys2Proof.Machine.execLdHu c last r p m ecc s
  | .ldW c last r p m ecc => Sys2Proof.Machine.execLdW c last r p m ecc s
  | .ldD c last r p m ecc => Sys2Proof.Machine.execLdD c last r p m ecc s
  | .stH c last r p m => Sys2Proof.Machine.execStH c last r p m s
  | .stW c last r p m => Sys2Proof.Machine.execStW c last r p m s
  | .stD c last r p m => Sys2Proof.Machine.execStD c last r p m s
  | .ldp c last q pa pb ma mb ecc => Sys2Proof.Machine.execLdp c last q pa pb ma mb ecc s
  | .mov c last r x => Sys2Proof.Machine.execMov c last r x s
  | .movi c last r imm => Sys2Proof.Machine.execMovi c last r imm s
  | .pget c last r p => Sys2Proof.Machine.execPget c last r p s
  | .pset c last r p => Sys2Proof.Machine.execPset c last r p s
  | .pmod c last p imm => Sys2Proof.Machine.execPmod c last p imm s
  | .movcR c last r x => Sys2Proof.Machine.execMovcR c last r x s
  | .movcW c last r x => Sys2Proof.Machine.execMovcW c last r x s
  | .br c last cond rel => Sys2Proof.Machine.execBr c last cond rel s
  | .jr c last p => Sys2Proof.Machine.execJr c last p s
  | .rot c last => Sys2Proof.Machine.execRot c last s
  | .reti c last => Sys2Proof.Machine.execReti c last s
  | .wait c last => Sys2Proof.Machine.execWait c last s
  | .halt c last => Sys2Proof.Machine.execHalt c last s
  | .ridgeBreak c last => Sys2Proof.Machine.execBreak c last s
  | .movi32 c last r imm => Sys2Proof.Machine.execMovi32 c last r imm s
  | .loop c last lvl rot n stop => Sys2Proof.Machine.execLoop c last lvl rot n stop s
  | .jmp c last tgt => Sys2Proof.Machine.execJmp c last tgt s
  | .call c last p tgt => Sys2Proof.Machine.execCall c last p tgt s
  | .pseti c last p imm => Sys2Proof.Machine.execPseti c last p imm s
  | .movci c last r imm => Sys2Proof.Machine.execMovci c last r imm s
  | .memRequest src a w first => Sys2Proof.Machine.execMemRequest src a w first s
  | .memRereadDone src good fallback => Sys2Proof.Machine.execMemRereadDone src good fallback s
  | .fabricTimeout src => Sys2Proof.Machine.execFabricTimeout src s
  | .refresh ch rank busy => Sys2Proof.Machine.execRefresh ch rank busy s
  | .memTempPoll ch ranges => Sys2Proof.Machine.execMemTempPoll ch ranges s
  | .scrub a first => Sys2Proof.Machine.execScrub a first s
  | .migrationStart ch => Sys2Proof.Machine.execMigrationStart ch s
  | .retireWrite ini ch v => Sys2Proof.Machine.execRetireWrite ini ch v s
  | .migrationDone ch => Sys2Proof.Machine.execMigrationDone ch s
  | .freqChange ini v => Sys2Proof.Machine.execFreqChange ini v s
  | .freqChangeDone => Sys2Proof.Machine.execFreqChangeDone s
  | .rgnSizeWrite ini n v => Sys2Proof.Machine.execRgnSizeWrite ini n v s
  | .rgnCommit ini v => Sys2Proof.Machine.execRgnCommit ini v s
  | .memSpareClr ini ch v => Sys2Proof.Machine.execMemSpareClr ini ch v s
  | .watchFrame x => Sys2Proof.Machine.execWatchFrame x s
  | .crnNop => Sys2Proof.Machine.execCrnNop s
  | .crnAdd kd ka kb => Sys2Proof.Machine.execCrnAdd kd ka kb s
  | .crnSub kd ka kb => Sys2Proof.Machine.execCrnSub kd ka kb s
  | .addi kd ka imm => Sys2Proof.Machine.execAddi kd ka imm s
  | .crnAnd kd ka kb => Sys2Proof.Machine.execCrnAnd kd ka kb s
  | .crnOr kd ka kb => Sys2Proof.Machine.execCrnOr kd ka kb s
  | .shr kd ka n => Sys2Proof.Machine.execShr kd ka n s
  | .ld kd ka imm => Sys2Proof.Machine.execLd kd ka imm s
  | .st kd ka imm => Sys2Proof.Machine.execSt kd ka imm s
  | .crnCmp ka kb => Sys2Proof.Machine.execCrnCmp ka kb s
  | .crnBr cond target => Sys2Proof.Machine.execCrnBr cond target s
  | .iir kd ka kb n => Sys2Proof.Machine.execIir kd ka kb n s
  | .rules kd ka kb => Sys2Proof.Machine.execRules kd ka kb s
  | .waitf kd => Sys2Proof.Machine.execWaitf kd s
  | .crnIn kd port => Sys2Proof.Machine.execCrnIn kd port s
  | .crnOut kd port => Sys2Proof.Machine.execCrnOut kd port s
  | .tgram ka kb => Sys2Proof.Machine.execTgram ka kb s
  | .wake reason => Sys2Proof.Machine.execWake reason s
  | .stby => Sys2Proof.Machine.execStby s
  | .crnWatchdog => Sys2Proof.Machine.execCrnWatchdog s
  | .vbtMirrorCopy => Sys2Proof.Machine.execVbtMirrorCopy s
  | .vbtCommit => Sys2Proof.Machine.execVbtCommit s
  | .rtcAlarm => Sys2Proof.Machine.execRtcAlarm s
  | .wakePin pin level => Sys2Proof.Machine.execWakePin pin level s
  | .tamperAssert level => Sys2Proof.Machine.execTamperAssert level s
  | .sadResult c first v ovr pos => Sys2Proof.Machine.execSadResult c first v ovr pos s
  | .sadStart n => Sys2Proof.Machine.execSadStart n s
  | .saBlankChange level => Sys2Proof.Machine.execSaBlankChange level s
  | .blankMaxExpiry => Sys2Proof.Machine.execBlankMaxExpiry s
  | .fbDischargeEnd => Sys2Proof.Machine.execFbDischargeEnd s
  | .selfcalSlotEnd ofs gain => Sys2Proof.Machine.execSelfcalSlotEnd ofs gain s
  | .pumpPeriod n k => Sys2Proof.Machine.execPumpPeriod n k s
  | .pumpRampDone n => Sys2Proof.Machine.execPumpRampDone n s
  | .pumpFaultLatch n => Sys2Proof.Machine.execPumpFaultLatch n s
  | .gateSense g m => Sys2Proof.Machine.execGateSense g m s
  | .gateVerdict g => Sys2Proof.Machine.execGateVerdict g s
  | .tiEdge input e => Sys2Proof.Machine.execTiEdge input e s
  | .intervalResult v => Sys2Proof.Machine.execIntervalResult v s
  | .codeDensityDone counts => Sys2Proof.Machine.execCodeDensityDone counts s
  | .encoderStall k => Sys2Proof.Machine.execEncoderStall k s
  | .skatePosSample k => Sys2Proof.Machine.execSkatePosSample k s
  | .patrolPoll bs framing => Sys2Proof.Machine.execPatrolPoll bs framing s
  | .replyEnd => Sys2Proof.Machine.execReplyEnd s
  | .pollGapTimeout => Sys2Proof.Machine.execPollGapTimeout s
  | .lineBreak => Sys2Proof.Machine.execLineBreak s
  | .staleTimeout => Sys2Proof.Machine.execStaleTimeout s
  | .tripCondition t => Sys2Proof.Machine.execTripCondition t s
  | .tripLatchClear m => Sys2Proof.Machine.execTripLatchClear m s
  | .chkCtl u v => Sys2Proof.Machine.execChkCtl u v s
  | .chkData8 u v => Sys2Proof.Machine.execChkData8 u v s
  | .chkData16 u v => Sys2Proof.Machine.execChkData16 u v s
  | .chkData32 u v => Sys2Proof.Machine.execChkData32 u v s
  | .chkFinal u v => Sys2Proof.Machine.execChkFinal u v s
  | .panelFrameStart => Sys2Proof.Machine.execPanelFrameStart s
  | .lineFetch present => Sys2Proof.Machine.execLineFetch present s
  | .panelActiveEnd pins clkOk => Sys2Proof.Machine.execPanelActiveEnd pins clkOk s
  | .summitWatchdog pc => Sys2Proof.Machine.execSummitWatchdog pc s
  | .sumWdogKick v => Sys2Proof.Machine.execSumWdogKick v s
  | .sensorSample temps supplies => Sys2Proof.Machine.execSensorSample temps supplies s
  | .logFlush => Sys2Proof.Machine.execLogFlush s
  | .confirmTimeout => Sys2Proof.Machine.execConfirmTimeout s
  | .configurationRequest req => Sys2Proof.Machine.execConfigurationRequest req s
  | .perstLRelease => Sys2Proof.Machine.execPerstLRelease s
  | .jtagInstruction instr gateD gateT pumps => Sys2Proof.Machine.execJtagInstruction instr gateD gateT pumps s
  | .activationProgress r => Sys2Proof.Machine.execActivationProgress r s

end Sys2Proof.Machine
end

