-- ==== Sys2Proof/Machine/RidgeCode.lean ====
section
/-! DEFINITION. The bundles of the ridge cores (R280 to R282, R284, R288, R290, R295): each slot decoded and encoded, and the fetch of the idle step. -/

namespace Sys2Proof.Machine

/-! ### Fields -/

/-- A five-bit field: a D register, or a control register. -/
def five (w p : Nat) : Fin 32 := ⟨w / 2 ^ p % 32, Nat.mod_lt _ (by decide)⟩

/-- A three-bit field: a pointer, or an accumulator. -/
def three (w p : Nat) : Fin 8 := ⟨w / 2 ^ p % 8, Nat.mod_lt _ (by decide)⟩

/-- A two-bit field. -/
def two (w p : Nat) : Fin 4 := ⟨w / 2 ^ p % 4, Nat.mod_lt _ (by decide)⟩

/-- The instruction where the fields that must be 0 are 0. -/
def ifZero (z : Bool) (i : Instr) : Option Instr := if z then some i else none

/-! ### Slot X -/

/-- XR form: S or IMM, DD, DA, DB. -/
def xrDecode (c : Fin 8) (last : Bool) (op : Nat) (b : Bool) (dd da db : Fin 32) : Option Instr :=
  match op with
  | 0x00 => ifZero (!b && dd == 0 && da == 0 && db == 0) (.ridgeNop c last false)
  | 0x01 => some (.add c last b dd da db)
  | 0x02 => some (.sub c last b dd da db)
  | 0x03 => some (.add2 c last b dd da db)
  | 0x04 => some (.sub2 c last b dd da db)
  | 0x05 => ifZero (!b) (.and c last dd da db)
  | 0x06 => ifZero (!b) (.or c last dd da db)
  | 0x07 => ifZero (!b) (.xor c last dd da db)
  | 0x08 => some (.sll c last b dd da db)
  | 0x09 => some (.srl c last b dd da db)
  | 0x0A => some (.sra c last b dd da db)
  | 0x0B => ifZero (!b) (.min c last dd da db)
  | 0x0C => ifZero (!b) (.max c last dd da db)
  | 0x0D => ifZero (db == 0) (.abs c last b dd da)
  | 0x0E => ifZero (db == 0) (.neg c last b dd da)
  | 0x0F => ifZero (!b && dd == 0) (.cmp c last da db)
  | 0x10 => ifZero (!b) (.pack c last dd da db)
  | 0x11 => some (.mul c last b dd da db)
  | 0x12 => some (.mulq2 c last b dd da db)
  | _ => none

/-- A delay line that ends in D15 or D31 has no next slot (R282). -/
def tapLast (db : Fin 32) : Bool := db == 15 || db == 31

/-- XA form: S, AD, HA, HB, DA, DB. -/
def xaDecode (c : Fin 8) (last : Bool) (op : Nat) (b : Bool) (ad : Fin 8) (ha hb : Bool) (da db : Fin 32) : Option Instr :=
  match op with
  | 0x13 => some (.mpa c last b ad ha hb da db)
  | 0x14 => some (.mac c last b ad ha hb da db)
  | 0x15 => some (.msu c last b ad ha hb da db)
  | 0x16 => some (.dmpa c last b ad ha hb da db)
  | 0x17 => some (.dmac c last b ad ha hb da db)
  | 0x18 => some (.dmsu c last b ad ha hb da db)
  | 0x19 => ifZero (!hb && !tapLast db) (.tapz c last b ad ha da db)
  | 0x1A => ifZero (!hb && !tapLast db) (.tap c last b ad ha da db)
  | _ => none

/-- AMOV by N (R288). -/
def amovDecode (c : Fin 8) (last : Bool) (b : Bool) (dd : Fin 32) (aa ab : Fin 8) (n : Nat) : Option Instr :=
  match n with
  | 0 => ifZero (!b && dd == 0 && ab == 0) (.aclr c last aa)
  | 1 => ifZero (!b && ab == 0) (.agetl c last dd aa)
  | 2 => ifZero (!b && ab == 0) (.ageth c last dd aa)
  | 3 => ifZero (!b && ab == 0) (.aputl c last dd aa)
  | 4 => ifZero (!b && ab == 0) (.aputh c last dd aa)
  | 5 => ifZero (dd == 0) (.aadd c last b aa ab)
  | 6 => ifZero (dd == 0) (.asub c last b aa ab)
  | _ => none

/-- XE form: S, DD, AA, AB, N. -/
def xeDecode (c : Fin 8) (last : Bool) (op : Nat) (b : Bool) (dd : Fin 32) (aa ab : Fin 8) (n : Fin 16) : Option Instr :=
  match op with
  | 0x1B => ifZero (ab == 0) (.ridgeExt c last b dd aa n)
  | 0x1C => some (.ext2 c last b dd aa ab n)
  | 0x1D => ifZero (ab == 0) (.exth c last b dd aa n)
  | 0x1E => some (.exth2 c last b dd aa ab n)
  | 0x1F => amovDecode c last b dd aa ab n.val
  | _ => none

/-- The operation in the 21 bits of an X slot; none for ILLEGAL. -/
def xDecode (c : Fin 8) (last : Bool) (w : Nat) : Option Instr :=
  let op := w / 2 ^ 16 % 32
  let b := w.testBit 15
  if op < 0x13 then xrDecode c last op b (five w 10) (five w 5) (five w 0)
  else if op < 0x1B then xaDecode c last op b (three w 12) (w.testBit 11) (w.testBit 10) (five w 5) (five w 0)
  else xeDecode c last op b (five w 10) (three w 7) (three w 4) (nib w 0)

/-- The words of the three forms. -/
def wordXr (op : Nat) (b : Bool) (dd da db : Fin 32) : Nat := op * 2 ^ 16 + b2n b * 2 ^ 15 + dd.val * 2 ^ 10 + da.val * 2 ^ 5 + db.val
def wordXa (op : Nat) (b : Bool) (ad : Fin 8) (ha hb : Bool) (da db : Fin 32) : Nat :=
  op * 2 ^ 16 + b2n b * 2 ^ 15 + ad.val * 2 ^ 12 + b2n ha * 2 ^ 11 + b2n hb * 2 ^ 10 + da.val * 2 ^ 5 + db.val
def wordXe (op : Nat) (b : Bool) (dd : Fin 32) (aa ab : Fin 8) (n : Fin 16) : Nat :=
  op * 2 ^ 16 + b2n b * 2 ^ 15 + dd.val * 2 ^ 10 + aa.val * 2 ^ 7 + ab.val * 2 ^ 4 + n.val

/-- The 21 bits of an operation of an X slot; none for another command. -/
def xEncode (i : Instr) : Option Nat :=
  match i with
  | .ridgeNop _ _ false => some 0
  | .add _ _ b dd da db => some (wordXr 0x01 b dd da db)
  | .sub _ _ b dd da db => some (wordXr 0x02 b dd da db)
  | .add2 _ _ b dd da db => some (wordXr 0x03 b dd da db)
  | .sub2 _ _ b dd da db => some (wordXr 0x04 b dd da db)
  | .and _ _ dd da db => some (wordXr 0x05 false dd da db)
  | .or _ _ dd da db => some (wordXr 0x06 false dd da db)
  | .xor _ _ dd da db => some (wordXr 0x07 false dd da db)
  | .sll _ _ b dd da db => some (wordXr 0x08 b dd da db)
  | .srl _ _ b dd da db => some (wordXr 0x09 b dd da db)
  | .sra _ _ b dd da db => some (wordXr 0x0A b dd da db)
  | .min _ _ dd da db => some (wordXr 0x0B false dd da db)
  | .max _ _ dd da db => some (wordXr 0x0C false dd da db)
  | .abs _ _ b dd da => some (wordXr 0x0D b dd da 0)
  | .neg _ _ b dd da => some (wordXr 0x0E b dd da 0)
  | .cmp _ _ da db => some (wordXr 0x0F false 0 da db)
  | .pack _ _ dd da db => some (wordXr 0x10 false dd da db)
  | .mul _ _ b dd da db => some (wordXr 0x11 b dd da db)
  | .mulq2 _ _ b dd da db => some (wordXr 0x12 b dd da db)
  | .mpa _ _ b ad ha hb da db => some (wordXa 0x13 b ad ha hb da db)
  | .mac _ _ b ad ha hb da db => some (wordXa 0x14 b ad ha hb da db)
  | .msu _ _ b ad ha hb da db => some (wordXa 0x15 b ad ha hb da db)
  | .dmpa _ _ b ad ha hb da db => some (wordXa 0x16 b ad ha hb da db)
  | .dmac _ _ b ad ha hb da db => some (wordXa 0x17 b ad ha hb da db)
  | .dmsu _ _ b ad ha hb da db => some (wordXa 0x18 b ad ha hb da db)
  | .tapz _ _ b ad ha da db => some (wordXa 0x19 b ad ha false da db)
  | .tap _ _ b ad ha da db => some (wordXa 0x1A b ad ha false da db)
  | .ridgeExt _ _ b dd aa n => some (wordXe 0x1B b dd aa 0 n)
  | .ext2 _ _ b dd aa ab n => some (wordXe 0x1C b dd aa ab n)
  | .exth _ _ b dd aa n => some (wordXe 0x1D b dd aa 0 n)
  | .exth2 _ _ b dd aa ab n => some (wordXe 0x1E b dd aa ab n)
  | .aclr _ _ aa => some (wordXe 0x1F false 0 aa 0 0)
  | .agetl _ _ dd aa => some (wordXe 0x1F false dd aa 0 1)
  | .ageth _ _ dd aa => some (wordXe 0x1F false dd aa 0 2)
  | .aputl _ _ dd aa => some (wordXe 0x1F false dd aa 0 3)
  | .aputh _ _ dd aa => some (wordXe 0x1F false dd aa 0 4)
  | .aadd _ _ b aa ab => some (wordXe 0x1F b 0 aa ab 5)
  | .asub _ _ b aa ab => some (wordXe 0x1F b 0 aa ab 6)
  | _ => none

/-! ### Slot M -/

/-- The modifier of the MM form; none where bit 5 is not 0 with MODE = 1. -/
def memModOf (w : Nat) : Option MemMod :=
  if w.testBit 6 then (if w.testBit 5 then none else some (.reg (five w 0))) else some (.imm (BitVec.ofNat 6 w))

/-- MM form. -/
def mmDecode (c : Fin 8) (last : Bool) (op : Nat) (d : Fin 32) (p : Fin 8) (m : MemMod) : Option Instr :=
  match op with
  | 0x01 => some (.ldH c last d p m .clean)
  | 0x02 => some (.ldHu c last d p m .clean)
  | 0x03 => some (.ldW c last d p m .clean)
  | 0x04 => ifZero (!d.val.testBit 0) (.ldD c last d p m .clean)
  | 0x05 => some (.stH c last d p m)
  | 0x06 => some (.stW c last d p m)
  | 0x07 => ifZero (!d.val.testBit 0) (.stD c last d p m)
  | _ => none

/-- The other forms of slot M. -/
def mxDecode (c : Fin 8) (last : Bool) (op w : Nat) : Option Instr :=
  match op with
  | 0x00 => ifZero (w % 2 ^ 15 == 0) (.ridgeNop c last false)
  | 0x08 => ifZero (w % 4 == 0) (.ldp c last (three w 12) (three w 9) (three w 6) (two w 4) (two w 2) ⟨.clean, .clean⟩)
  | 0x09 => ifZero (w % 32 == 0) (.mov c last (five w 10) (five w 5))
  | 0x0A => some (.movi c last (five w 10) (BitVec.ofNat 10 w))
  | 0x0B => ifZero (w % 2 ^ 7 == 0) (.pget c last (five w 10) (three w 7))
  | 0x0C => ifZero (w % 2 ^ 7 == 0) (.pset c last (five w 10) (three w 7))
  | 0x0D => some (.pmod c last (three w 12) (BitVec.ofNat 12 w))
  | 0x0E => ifZero (w % 32 == 0) (.movcR c last (five w 10) (five w 5))
  | 0x0F => ifZero (w % 32 == 0) (.movcW c last (five w 10) (five w 5))
  | 0x10 => if h : w / 2 ^ 11 % 16 < 9 then some (.br c last ⟨w / 2 ^ 11 % 16, h⟩ (BitVec.ofNat 11 w)) else none
  | 0x11 => ifZero (w % 2 ^ 7 == 0 && five w 10 == 0) (.jr c last (three w 7))
  | 0x12 => ifZero (w % 2 ^ 15 == 0) (.rot c last)
  | 0x13 => ifZero (w % 2 ^ 15 == 0) (.reti c last)
  | 0x14 => ifZero (w % 2 ^ 15 == 0) (.wait c last)
  | 0x15 => ifZero (w % 2 ^ 15 == 0) (.halt c last)
  | 0x16 => ifZero (w % 2 ^ 15 == 0) (.ridgeBreak c last)
  | _ => none

/-- The operation in the 20 bits of slot M; none for ILLEGAL. -/
def mDecode (c : Fin 8) (last : Bool) (w : Nat) : Option Instr :=
  let op := w / 2 ^ 15 % 32
  if 1 ≤ op ∧ op < 8 then (memModOf w).bind (fun m => mmDecode c last op (five w 10) (three w 7) m) else mxDecode c last op w

/-- The words of the forms of slot M. -/
def wordMm (op : Nat) (d : Fin 32) (p : Fin 8) (m : MemMod) : Nat :=
  op * 2 ^ 15 + d.val * 2 ^ 10 + p.val * 2 ^ 7 + (match m with
    | .imm i => i.toNat
    | .reg k => 64 + k.val)
def wordMv (op : Nat) (d x : Fin 32) : Nat := op * 2 ^ 15 + d.val * 2 ^ 10 + x.val * 2 ^ 5
def wordMq (op : Nat) (d : Fin 32) (p : Fin 8) : Nat := op * 2 ^ 15 + d.val * 2 ^ 10 + p.val * 2 ^ 7

/-- The 20 bits of an operation of slot M, fetched without an error; none for another command. -/
def mEncode (i : Instr) : Option Nat :=
  match i with
  | .ridgeNop _ _ false => some 0
  | .ldH _ _ d p m .clean => some (wordMm 0x01 d p m)
  | .ldHu _ _ d p m .clean => some (wordMm 0x02 d p m)
  | .ldW _ _ d p m .clean => some (wordMm 0x03 d p m)
  | .ldD _ _ d p m .clean => some (wordMm 0x04 d p m)
  | .stH _ _ d p m => some (wordMm 0x05 d p m)
  | .stW _ _ d p m => some (wordMm 0x06 d p m)
  | .stD _ _ d p m => some (wordMm 0x07 d p m)
  | .ldp _ _ q pa pb ma mb ⟨.clean, .clean⟩ =>
    some (0x08 * 2 ^ 15 + q.val * 2 ^ 12 + pa.val * 2 ^ 9 + pb.val * 2 ^ 6 + ma.val * 2 ^ 4 + mb.val * 2 ^ 2)
  | .mov _ _ d x => some (wordMv 0x09 d x)
  | .movi _ _ d imm => some (0x0A * 2 ^ 15 + d.val * 2 ^ 10 + imm.toNat)
  | .pget _ _ d p => some (wordMq 0x0B d p)
  | .pset _ _ d p => some (wordMq 0x0C d p)
  | .pmod _ _ p imm => some (0x0D * 2 ^ 15 + p.val * 2 ^ 12 + imm.toNat)
  | .movcR _ _ d x => some (wordMv 0x0E d x)
  | .movcW _ _ d x => some (wordMv 0x0F d x)
  | .br _ _ cond rel => some (0x10 * 2 ^ 15 + cond.val * 2 ^ 11 + rel.toNat)
  | .jr _ _ p => some (wordMq 0x11 0 p)
  | .rot _ _ => some (0x12 * 2 ^ 15)
  | .reti _ _ => some (0x13 * 2 ^ 15)
  | .wait _ _ => some (0x14 * 2 ^ 15)
  | .halt _ _ => some (0x15 * 2 ^ 15)
  | .ridgeBreak _ _ => some (0x16 * 2 ^ 15)
  | _ => none

/-! ### Long operations (R295) -/

/-- LOOP. -/
def loopDecode (c : Fin 8) (last : Bool) (w : Nat) : Option Instr :=
  let lvl : Fin 2 := ⟨w / 2 ^ 36 % 2, Nat.mod_lt _ (by decide)⟩
  let rot := w.testBit 35
  let stop := BitVec.ofNat 13 w
  if w / 2 ^ 13 % 32 ≠ 0 ∨ stop = 0 then none
  else if w.testBit 34 then (if w / 2 ^ 23 % 2 ^ 11 = 0 then some (.loop c last lvl rot (.reg (five w 18)) stop) else none)
  else some (.loop c last lvl rot (.imm (BitVec.ofNat 16 (w / 2 ^ 18))) stop)

/-- The operation in the 41 bits of LM; none for ILLEGAL. -/
def lDecode (c : Fin 8) (last : Bool) (w : Nat) : Option Instr :=
  let imm : Word := BitVec.ofNat 32 w
  let tgt := BitVec.ofNat 13 w
  match w / 2 ^ 37 % 16 with
  | 0x1 => some (.movi32 c last (five w 32) imm)
  | 0x2 => loopDecode c last w
  | 0x3 => ifZero (w / 2 ^ 13 % 2 ^ 24 == 0) (.jmp c last tgt)
  | 0x4 => ifZero (w / 2 ^ 13 % 2 ^ 21 == 0) (.call c last (three w 34) tgt)
  | 0x5 => ifZero (two w 32 == 0) (.pseti c last (three w 34) imm)
  | 0x6 => some (.movci c last (five w 32) imm)
  | _ => none

/-- The 41 bits of a long operation; none for another command. -/
def lEncode (i : Instr) : Option Nat :=
  match i with
  | .movi32 _ _ d imm => some (1 * 2 ^ 37 + d.val * 2 ^ 32 + imm.toNat)
  | .loop _ _ lvl rot n stop =>
    some (2 * 2 ^ 37 + lvl.val * 2 ^ 36 + b2n rot * 2 ^ 35 + (match n with
      | .imm k => k.toNat * 2 ^ 18
      | .reg d => 2 ^ 34 + d.val * 2 ^ 18) + stop.toNat)
  | .jmp _ _ tgt => some (3 * 2 ^ 37 + tgt.toNat)
  | .call _ _ p tgt => some (4 * 2 ^ 37 + p.val * 2 ^ 34 + tgt.toNat)
  | .pseti _ _ p imm => some (5 * 2 ^ 37 + p.val * 2 ^ 34 + imm.toNat)
  | .movci _ _ d imm => some (6 * 2 ^ 37 + d.val * 2 ^ 32 + imm.toNat)
  | _ => none

/-! ### Bundles (R280) -/

/-- The operations of a bundle in slot order, the last one marked; none where the bundle raises ILLEGAL by its encoding (R282). -/
def bundleDecode (c : Fin 8) (w : Nat) : Option (List Instr) :=
  match w / 2 ^ 62 with
  | 0 =>
    match mDecode c false (w / 2 ^ 42 % 2 ^ 20), xDecode c false (w / 2 ^ 21 % 2 ^ 21), xDecode c true (w % 2 ^ 21) with
    | some m, some x, some y => some [m, x, y]
    | _, _, _ => none
  | 1 =>
    match lDecode c false (w / 2 ^ 21 % 2 ^ 41), xDecode c true (w % 2 ^ 21) with
    | some l, some y => some [l, y]
    | _, _ => none
  | _ => none

/-- A standard bundle of three operations. -/
def bundleStd (m x y : Instr) : Option Nat :=
  match mEncode m, xEncode x, xEncode y with
  | some m, some x, some y => some (m * 2 ^ 42 + x * 2 ^ 21 + y)
  | _, _, _ => none

/-- A long bundle of two operations. -/
def bundleLong (l y : Instr) : Option Nat :=
  match lEncode l, xEncode y with
  | some l, some y => some (2 ^ 62 + l * 2 ^ 21 + y)
  | _, _ => none

/-! ### Fetch -/

/-- Some interrupt can be taken at the next issue (R270). -/
def State.rTakes (s : State) (c : Nat) : Bool := !(s.rc c).shd && (s.rc c).bank.sr.testBit 0 && s.rPending c

/-- What core `c` does next: a loop end, an interrupt entry, or the bundle at its PC; an ILLEGAL one, or one outside instruction memory after a WAIT, raises its exception at once. -/
def State.rFetch (s : State) (c : Fin 8) : State :=
  if !s.rRuns c.val || s.rHeld c.val || (s.rc c.val).bundle.begun then s
  else if (s.rc c.val).loopDue then { s with pending := s.pending ++ [.loopEnd c] }
  else if s.rTakes c.val then { s with pending := s.pending ++ [.interruptEntry c] }
  else
    let pc := (s.rc c.val).pc
    if pc < 0x10000 ∨ 0x20000 ≤ pc then s.rExcept c.val 2 pc none
    else match bundleDecode c ((s.rc c.val).imem.readLe (pc - 0x10000) 8) with
    | some ops => { s with pending := s.pending ++ ops }
    | none => s.rExcept c.val 1 pc none

/-- Every core fetches. -/
def State.rFetchAll (s : State) : State := (List.finRange 8).foldl (fun (s : State) c => s.rFetch c) s

end Sys2Proof.Machine
end

