-- ==== Sys2Proof/Machine/Idle.lean ====
section
/-! DEFINITION. One DATAPATH tick of 5 ns, which the step makes while no command waits (R45; log entry 10): time passes, the trigger fabric takes its snapshot, and the sequencer, the copier, a rank migration and the cores go on. -/

namespace Sys2Proof.Machine

/-- The blocks that WATCH stops are clocked (R45). -/
def State.fullClocks (s : State) : Bool := s.awake && s.pstate != stWatch

/-- Time of a tick. -/
def State.tickTime (s : State) : State := if s.timed then { s with tb := s.tb.advance 5 } else s

/-- The confirmation timer counts, out of WATCH; CONFIRM_LEFT shows it in whole seconds, rounded up (R462). -/
def State.confirmTick (s : State) : State :=
  if s.on Reg.SUM_BOOT_STATUS_CONFIRM_PENDING then
    let s := s.updSum (fun (m : Summit) => { m with confirmNs := m.confirmNs - 5 })
    s.setF Reg.SUM_CONFIRM_LEFT ((999999999 + s.sum.confirmNs) / 1000000000)
  else s

/-- Single conversions whose START_EVT rises between two snapshots (R350). -/
def State.sadEvents (s : State) (prev : Nat) : State :=
  (List.range 9).foldl (fun (s : State) n =>
    let e := s.fld Reg.SAD_CH_CFG_START_EVT n
    if s.evtPrev.testBit e && !prev.testBit e then s.sadStart n else s) s

/-- The DATAPATH island: a frame pulse reaches the cores, the fabric, what follows its events, and the copier (R169, R205, R220, R269, R350, R411). -/
def State.dataTick (s : State) : State :=
  if s.islUp 1 then
    let s := if s.pulses.contains 0xE2 then s.rFrame else s
    let s := (s.fabricTick.sadEvents s.evtPrev).tripTick
    s.copyTick
  else s

/-- What a tick does outside the cores. -/
def State.unitsTick (s : State) : State :=
  let s := s.staleTick.replyTick.satSecond.watchLaunch
  if s.fullClocks then
    let s := s.spTick.dataTick.launchSettle.confirmTick
    let s := if s.runs 2 then s.migTick else s
    let s := if s.runs 6 then s.readTick else s
    s.rTimerTick
  else s

/-- The fetch of the cores: their next operations join the queue (R280, R331). -/
def State.coresFetch (s : State) : State :=
  let s := s.crnFetch
  if s.fullClocks then s.rFetchAll else s

/-- What comes due in the present tick and has not happened in it: a frame, a switch, a firing, or a step of the Raman path (R18, R121). -/
def State.dueNow (s : State) : Option Instr := if s.runs 1 then (s.probeNow.or s.ramanNow).or s.beltNow else none

/-- Free values that a due command carries. -/
def freeUsed (i : Instr) : Nat :=
  match i with
  | .ramanShot k => k.darkRa.length + k.darkRst.length + k.ra.length + k.rst.length
  | _ => 0

/-- A tick passes; SLOW goes on through a warm reset (R56). -/
def State.tickPass (s : State) : State :=
  let s := { s with tick := s.tick + 1 }.tickTime.sadTick
  if s.awake then s.unitsTick.coresFetch else s

/-- The step with no command waiting: what is due joins the queue, and when nothing is, a tick passes (log entry 10). -/
def State.idle (s : State) : State :=
  match s.dueNow with
  | some i => { s with pending := s.pending ++ [i], free := s.free + freeUsed i }
  | none => s.tickPass

end Sys2Proof.Machine
end

