-- ==== Sys2Proof/Safety.lean ====
section
/-! DEFINITION. What claims are stated in: answers and endings of commands, what stays unchanged, and the canonical form of the memories. -/

namespace Sys2Proof.Machine

/-- The command answers a next state, and that state has the property. -/
def Answers (i : Instr) (s : State) (P : State → Prop) : Prop := ∃ t, exec i s = .next t ∧ P t

/-- The command ends the handle of index `h` with a status, a DETAIL and two results, in a state `u` that holds the handle as before and has the property. -/
def Ends (i : Instr) (s : State) (h st det r0 r1 : Nat) (P : State → Prop) : Prop :=
  ∃ u, exec i s = .next (u.complete h st det r0 r1) ∧ u.handle? h = s.handle? h ∧ P u

/-- The command of handle index `i` has ended: its index is free, or its DONE entry is formed and waits (R96, R99). -/
def State.ended (s : State) (i : Nat) : Prop := ∀ x, s.handle? i = some x → x.done = true

/-- The data that a command reads, when the whole of it arrives (R86, R88, R109, R110): their count and bytes. -/
def State.dataOf (s : State) (x : Handle) (d : CmdData) : Option (Nat × List Byte) :=
  let b := s.buffer x d
  if b.1.2 = .whole then
    match (b.2.readSegs b.1.1 d.data).1 with
    | .ok bs => some (segsLen b.1.1, bs.take (segsLen b.1.1))
    | _ => none
  else none

/-- The end of a buffer list is known: it was read to its last element or to a fault (R496). -/
def BufEnd.known : BufEnd → Bool
  | .read _ => false
  | _ => true

/-- The state after a command has read its data: in stand-alone operation, a memory of the device counts the lines read. -/
def State.dataRead (s : State) (x : Handle) (d : CmdData) : State := ((s.buffer x d).2.readSegs (s.buffer x d).1.1 d.data).2

/-- Every register field but those of the listed keys keeps its value. -/
def SameRegs (ks : List Nat) (s t : State) : Prop := ∀ k, k ∉ ks → ∀ d, Store.read d t.regs k = Store.read d s.regs k

/-- Nothing changes but register fields, and of these only the ones of the listed keys. -/
def OnlyRegs (ks : List Nat) (s t : State) : Prop := t = { s with regs := t.regs } ∧ SameRegs ks s t

/-- The key of a register field outside the HQE block. -/
def Field.notHqe (k : Nat) : Prop := k < 0x200000 ∨ 0x400000 ≤ k

/-- The keys of the counters of external-memory lines, of both channels. -/
def Field.memCounts : List Nat :=
  [Reg.MEM_RD_LO, Reg.MEM_RD_HI, Reg.MEM_WR_LO, Reg.MEM_WR_HI, Reg.MEM_BUSY_LO, Reg.MEM_BUSY_HI, Reg.MEM_POISON_RD, Reg.MEM_POISON_WR].flatMap
    (fun F => [F.key 0, F.key 1])

/-- The key of a register field that an entry written for a command leaves alone: outside the HQE block, and in stand-alone operation, where the entry goes to a memory of the device, no counter of memory lines. -/
def State.spares (s : State) (k : Nat) : Prop := Field.notHqe k ∧ (s.pw.standalone = false ∨ k ∉ Field.memCounts)

/-- The addressed memories keep their canonical form. -/
def Memories.ok (m : Memories) : Bool := m.sram.wf && m.firn.wf && m.ext.wf && m.mram.wf && m.flash.wf

/-! ### Ridge cores -/

/-- A RUNNING core, its island not held, with no loop end due and no operation of the next bundle given. -/
def State.coreReady (s : State) (c : Fin 8) : Prop :=
  s.rRuns c.val = true ∧ s.rHeld c.val = false ∧ (s.rc c.val).loopDue = false ∧ (s.rc c.val).bundle = RBundle.reset

/-- An address that the core can fetch a bundle from. -/
def Fetchable (a : Nat) : Prop := 0x10000 ≤ a ∧ a < 0x20000 ∧ a % 8 = 0

/-- A ready core with no result in flight, whose next bundle is no loop's end and is followed by another one. -/
def State.coreLone (s : State) (c : Fin 8) : Prop :=
  s.coreReady c ∧ (s.rc c.val).flight = [] ∧ (s.rc c.val).atEnd = false ∧ Fetchable (s.rc c.val).pc ∧ Fetchable ((s.rc c.val).pc + 8)

/-- The core `n` issue cycles on, at the bundle at `pc`. -/
def Rcore.goes (r : Rcore) (pc n : Nat) : Rcore := { r with pc := pc, t := r.t + n }

/-- The sticky bits SAT and OVF of SR set. -/
def Rcore.sticky (r : Rcore) (sat ovf : Bool) : Rcore := { r with bank := { r.bank with sr := r.bank.sr ||| (4 * b2n sat + 8 * b2n ovf) } }

/-- A D register as the word it holds. -/
def Rcore.word (r : Rcore) (n : Fin 32) : Word := BitVec.ofNat 32 (r.d n)

/-- R257: the data bank `k` used by the bundle that issues: the issue cycle, and the consecutive ones up to it. -/
def Rcore.uses (r : Rcore) (k : Nat) : Rcore :=
  { r with used := vset r.used k (r.t, if (r.used.getD k (0, 0)).1 + 1 = r.t then (r.used.getD k (0, 0)).2 + 1 else 1) }

/-- R257: a use of the bank `k` now is not the eighth in consecutive cycles. -/
def Rcore.spare (r : Rcore) (k : Nat) : Prop := (r.used.getD k (0, 0)).1 + 1 = r.t → (r.used.getD k (0, 0)).2 < 7

/-- A word in a D register, by name. -/
def Rcore.setD (r : Rcore) (n : Fin 32) (w : Word) : Rcore := r.putReg (.d (r.phys n)) w.toInt

/-- R260: `x` is `v` kept in `w` bits; `st` and `ov` say whether SAT and OVF are set. -/
def Fits (w : Nat) (sat : Bool) (v x : Int) (st ov : Bool) : Prop :=
  (-(2 ^ (w - 1) : Int) ≤ v ∧ v < 2 ^ (w - 1) → x = v ∧ st = false ∧ ov = false) ∧
  ((2 ^ (w - 1) : Int) ≤ v → sat = true → x = 2 ^ (w - 1) - 1 ∧ st = true ∧ ov = false) ∧
  (v < -(2 ^ (w - 1) : Int) → sat = true → x = -(2 ^ (w - 1) : Int) ∧ st = true ∧ ov = false) ∧
  (¬ (-(2 ^ (w - 1) : Int) ≤ v ∧ v < 2 ^ (w - 1)) → sat = false →
    -(2 ^ (w - 1) : Int) ≤ x ∧ x < 2 ^ (w - 1) ∧ (x - v) % 2 ^ w = 0 ∧ st = false ∧ ov = true)

/-- The command is a whole bundle of core `c`: the next one issues `n` cycles later, and `lam` cycles after its own issue the core is `q`; RDG_PC names the bundle, the cycles are counted, and nothing else changes. -/
def Bundles (i : Instr) (s : State) (c : Fin 8) (n lam : Nat) (q : Rcore) : Prop :=
  ∃ t, exec i s = .next t ∧ (t.rTicks c.val (lam - n)).rc c.val = q ∧ t = { s with rdg := t.rdg, regs := t.regs } ∧
    (∀ k, k ≠ c.val → t.rc k = s.rc k) ∧ SameRegs [Reg.RDG_PC.key c.val, Reg.RDG_CYCLE_LO.key c.val, Reg.RDG_CYCLE_HI.key c.val, Reg.RDG_ECC.key c.val] s t ∧
    t.fld Reg.RDG_PC c.val = (s.rc c.val).pc ∧
    t.fld64 Reg.RDG_CYCLE_LO Reg.RDG_CYCLE_HI c.val = (s.fld64 Reg.RDG_CYCLE_LO Reg.RDG_CYCLE_HI c.val + n) % 2 ^ 64

/-- The command raises an exception (R272): the core is HALTED with its registers kept, and the cause, the bundle's address and the data address of a data fault are recorded. -/
def Excepts (i : Instr) (s : State) (c : Fin 8) (cause pc : Nat) (addr : Option Nat) : Prop :=
  Answers i s (fun t => t.fld Reg.RDG_STATUS c.val = rHalted ∧ t.fld Reg.RDG_EXC_CAUSE c.val = cause ∧ t.fld Reg.RDG_EXC_PC c.val = pc ∧
    (∀ a, addr = some a → t.fld Reg.RDG_EXC_ADDR c.val = a % 2 ^ 32) ∧ t.on Reg.RDG_EXC_SHD c.val = (s.rc c.val).shd ∧
    (t.rc c.val).bank = (s.rc c.val).bank ∧ (t.rc c.val).dmem = (s.rc c.val).dmem ∧ (∀ x ∈ (t.rc c.val).dma, x.last = true) ∧
    (∀ k, k ≠ c.val → t.rc k = s.rc k) ∧ t.mem = s.mem)

/-- The core of a core operation, and whether it is the last one of its bundle. -/
def coreOp? (i : Instr) : Option (Fin 8 × Bool) :=
  match i with
  | .ridgeNop c last _ => some (c, last)
  | .add c last _ _ _ _ => some (c, last)
  | .sub c last _ _ _ _ => some (c, last)
  | .add2 c last _ _ _ _ => some (c, last)
  | .sub2 c last _ _ _ _ => some (c, last)
  | .and c last _ _ _ => some (c, last)
  | .or c last _ _ _ => some (c, last)
  | .xor c last _ _ _ => some (c, last)
  | .sll c last _ _ _ _ => some (c, last)
  | .srl c last _ _ _ _ => some (c, last)
  | .sra c last _ _ _ _ => some (c, last)
  | .min c last _ _ _ => some (c, last)
  | .max c last _ _ _ => some (c, last)
  | .abs c last _ _ _ => some (c, last)
  | .neg c last _ _ _ => some (c, last)
  | .cmp c last _ _ => some (c, last)
  | .pack c last _ _ _ => some (c, last)
  | .mul c last _ _ _ _ => some (c, last)
  | .mulq2 c last _ _ _ _ => some (c, last)
  | .mpa c last _ _ _ _ _ _ => some (c, last)
  | .mac c last _ _ _ _ _ _ => some (c, last)
  | .msu c last _ _ _ _ _ _ => some (c, last)
  | .dmpa c last _ _ _ _ _ _ => some (c, last)
  | .dmac c last _ _ _ _ _ _ => some (c, last)
  | .dmsu c last _ _ _ _ _ _ => some (c, last)
  | .tapz c last _ _ _ _ _ => some (c, last)
  | .tap c last _ _ _ _ _ => some (c, last)
  | .ridgeExt c last _ _ _ _ => some (c, last)
  | .ext2 c last _ _ _ _ _ => some (c, last)
  | .exth c last _ _ _ _ => some (c, last)
  | .exth2 c last _ _ _ _ _ => some (c, last)
  | .aclr c last _ => some (c, last)
  | .agetl c last _ _ => some (c, last)
  | .ageth c last _ _ => some (c, last)
  | .aputl c last _ _ => some (c, last)
  | .aputh c last _ _ => some (c, last)
  | .aadd c last _ _ _ => some (c, last)
  | .asub c last _ _ _ => some (c, last)
  | .ldH c last _ _ _ _ => some (c, last)
  | .ldHu c last _ _ _ _ => some (c, last)
  | .ldW c last _ _ _ _ => some (c, last)
  | .ldD c last _ _ _ _ => some (c, last)
  | .stH c last _ _ _ => some (c, last)
  | .stW c last _ _ _ => some (c, last)
  | .stD c last _ _ _ => some (c, last)
  | .ldp c last _ _ _ _ _ _ => some (c, last)
  | .mov c last _ _ => some (c, last)
  | .movi c last _ _ => some (c, last)
  | .pget c last _ _ => some (c, last)
  | .pset c last _ _ => some (c, last)
  | .movcR c last _ _ => some (c, last)
  | .movcW c last _ _ => some (c, last)
  | .br c last _ _ => some (c, last)
  | .jr c last _ => some (c, last)
  | .wait c last => some (c, last)
  | .halt c last => some (c, last)
  | .movi32 c last _ _ => some (c, last)
  | .loop c last _ _ _ _ => some (c, last)
  | .jmp c last _ => some (c, last)
  | .call c last _ _ => some (c, last)
  | .pseti c last _ _ => some (c, last)
  | .movci c last _ _ => some (c, last)
  | .pmod c last _ _ => some (c, last)
  | .rot c last => some (c, last)
  | .reti c last => some (c, last)
  | .ridgeBreak c last => some (c, last)
  | _ => none

/-! ### The cairn sequencer -/

/-- A register of the sequencer: K0 reads 0 (R330). -/
def Crn.reg (c : Crn) (n : Fin 16) : BitVec 16 := if n.val = 0 then 0 else c.k[n]

/-- A register written: K0 ignores it (R330). -/
def Crn.setReg (c : Crn) (n : Fin 16) (v : BitVec 16) : Crn := if n.val = 0 then c else { c with k := c.k.set n.val v }

/-- A word of data memory, its address taken modulo 4,096, and a word stored. -/
def Crn.word (c : Crn) (a : Nat) : Nat := Store.read 0 c.dmem (a % 4096)
def Crn.store (c : Crn) (a : Nat) (v : Nat) : Crn := { c with dmem := Store.write 0 c.dmem (a % 4096) v }

/-- The instruction leaves the sequencer state `c` and the PC at `pc`, in a program that reaches it; nothing else changes. -/
def Advances (i : Instr) (s : State) (c : Crn) (pc : Nat) : Prop :=
  Answers i s (fun t => t = { s with crn := c, regs := t.regs } ∧ t.fld Reg.CRN_PC = pc ∧ SameRegs [Reg.CRN_PC.key 0] s t)

end Sys2Proof.Machine
end

