-- ==== Sys2Proof/WellFormed.lean ====
section
/-! DEFINITION. What a command must keep beyond its operand types: the encoding rules of the core instructions (R282, R288, R295, R296), and the shapes of accesses and measurements. -/

namespace Sys2Proof

/-- A register that LD.D or ST.D may name: an even one (R282). -/
def evenReg (d : Fin 32) : Bool := d.val % 2 == 0

/-- A sample register that TAPZ or TAP may name: neither the last of its half (R282). -/
def tapReg (d : Fin 32) : Bool := d.val != 15 && d.val != 31

/-- A control register that MOVC.R may read (R255). -/
def ctlReadable (n : Fin 32) : Bool := n.val ≤ 6 || (8 ≤ n.val && n.val ≤ 25)

/-- A control register that MOVC.W or MOVCI may write (R255, R293). -/
def ctlWritable (n : Fin 32) : Bool := n.val ≤ 6 || (8 ≤ n.val && n.val ≤ 23)

/-- MOVCI writes no modulo length above 131,072 (R293). -/
def lenOk (n : Fin 32) (imm : Word) : Bool := n.val < 16 || imm.toNat ≤ 131072

/-- Bytes written within one line of external memory, from address `a` on (R307). -/
def lineOk (a : BitVec 38) (w : Option (List Byte)) : Bool :=
  match w with
  | none => true
  | some bs => !bs.isEmpty && bs.length + a.toNat % 64 ≤ 64

/-- A first read with errors in at most two DQ groups: R310 says nothing of more. -/
def FirstRead.stated : FirstRead → Bool
  | .errors gs => gs.eraseDups.length ≤ 2
  | .stalled => true

/-- Twenty samples of each receiver lane (R135). -/
def RxTick.full (t : RxTick) : Bool := t.xi.length == 20 && t.xq.length == 20 && t.yi.length == 20 && t.yq.length == 20

/-- Five samples of each lane that runs in WATCH (R138). -/
def WatchTick.full (t : WatchTick) : Bool := t.xi.length == 5 && t.xq.length == 5

/-- The command keeps its rules. -/
def Instr.wellFormed (i : Instr) : Bool :=
  match i with
  | .ldD _ _ d _ _ _ => evenReg d
  | .stD _ _ d _ _ => evenReg d
  | .tapz _ _ _ _ _ _ db => tapReg db
  | .tap _ _ _ _ _ _ db => tapReg db
  | .movcR _ _ _ x => ctlReadable x
  | .movcW _ _ _ x => ctlWritable x
  | .movci _ _ x imm => ctlWritable x && lenOk x imm
  | .loop _ _ _ _ _ stop => stop != 0
  | .registerWrite _ _ _ data => !data.isEmpty && data.length ≤ 512
  | .memRequest _ a w first => lineOk a w && first.stated
  | .scrub _ first => first.stated
  | .firingProcessed fresh => fresh.all RxTick.full
  | .bankPwrUpdate fresh => fresh.all RxTick.full
  | .watchFrame x => x.codes.all WatchTick.full
  | .codeDensityDone counts => counts.length == 128
  | .memTempPoll _ ranges => ranges.length ≤ 4
  | _ => true

end Sys2Proof
end

