-- ==== Sys2Proof/Certificates/Slice0/Obligations.lean ====
section
/-! DEFINITION. The statements, chapter by chapter of the spec. -/

open Sys2Proof Sys2Proof.Machine

/-! ### Chapter 02 -/

/-- R51, R54, R56, R78: the resets. A cold reset, by POR_L of at least 10 µs or by a brown-out of 2 µs, leaves every register at its reset value but the recorded cause, clears the time base, and loses every memory but MRAM and flash, to which the buffered log entries go first unless a brown-out blocks it; a shorter pulse does nothing. A rise of VBAT clears the VBAT domain and drives PWR_ON high; VBAT below 1.6 V shows in VBAT_LOW. A warm reset, by SYS_RST_L of at least 1 µs or by PWR_CTL.WARM_RST, keeps the time base, the slow converter and external memory, records its cause alone, and leaves the queue engines, the acquisition and the ridge cores as after reset. -/
def Obligations.Resets : Prop :=
  (∀ s : State, Answers (.porLAssert true) s (fun t => t.regs = State.reset.regs ∧ t.tb = TimeBase.reset ∧ t.pw.phase = .held ∧
    t.pw.porLow = true ∧ t.mem.sram = [] ∧ t.mem.firn = [] ∧ t.mem.ext = [] ∧ t.mem.mram = s.logFlush.mem.mram ∧ t.mem.flash = s.mem.flash ∧
    t.hq = Hqe.reset ∧ t.acq = Acq.reset ∧ t.rdg = State.reset.rdg ∧ t.hostOut = s.hostOut)) ∧
  (∀ s : State, Answers (.porLAssert false) s (fun t => t = s)) ∧
  (∀ s : State, s.pw.standby = false → Answers (.brownoutCrossing true) s (fun t => t.pw.brownBlock = true ∧ t = { s with pw := t.pw })) ∧
  (∀ s : State, s.pw.standby = false → s.pw.brownBlock = true → Answers .brownoutReset s (fun t => t.fld Reg.PWR_RST_CAUSE_BROWNOUT = 1 ∧
    SameRegs [Reg.PWR_RST_CAUSE_BROWNOUT.key 0] State.reset t ∧ t.tb = TimeBase.reset ∧ t.mem.ext = [] ∧
    t.mem.mram = s.mem.mram ∧ t.pw.brownLog = true)) ∧
  (∀ s : State, Answers .vbatReset s (fun t => t.vb.rtc = 0 ∧ t.vb.ret = Vector.replicate 16 0 ∧ t.pw.pwrOn = true ∧ t.pw.wakeLatch = 0 ∧
    (s.pw.phase = .held → s.pw.warm = false → t.pw.standby = true) ∧ t = { s with vb := t.vb, pw := t.pw })) ∧
  (∀ (s : State) (low : Bool), Answers (.vbatLow low) s (fun t => t.readField Reg.PWR_STATUS_VBAT_LOW 0 = b2n low ∧
    t = { s with pw := { s.pw with vbatPresent := !low } })) ∧
  (∀ s : State, s.warmable = true → Answers (.sysRstLAssert true) s (fun t => t.fld Reg.PWR_RST_CAUSE_WARM_PIN = 1 ∧ t.fld Reg.PWR_RST_CAUSE_POR = 0 ∧
    t.fld Reg.PWR_STATUS_STATE = stBoot ∧ t.tb = s.tb ∧ t.mem.ext = s.mem.ext ∧ t.mem.flash = s.mem.flash ∧ t.mem.firn = [] ∧ t.mem.sram = [] ∧
    t.hq = Hqe.reset ∧ t.acq = Acq.reset ∧ t.rdg = State.reset.rdg ∧ t.pw.phase = .held ∧ t.pw.warm = true ∧
    t.fld Reg.GLB_TB_CTL_DISC_EN = s.fld Reg.GLB_TB_CTL_DISC_EN ∧ t.fld Reg.HQE_WDOG = 2000)) ∧
  (∀ (s : State) (ini : Initiator) (v : Word), s.answers 0x1004 = true → s.crossing 0x1004 = false → s.warmable = true → v.toNat % 2 = 1 → Answers (.warmRst ini v) s (fun t =>
    t.fld Reg.PWR_RST_CAUSE_WARM_REG = 1 ∧ t.fld Reg.PWR_RST_CAUSE_WARM_PIN = 0 ∧ t.tb = s.tb ∧ t.mem.ext = s.mem.ext ∧ t.hq = Hqe.reset ∧ t.pw.phase = .held)) ∧
  (∀ s : State, Answers (.sysRstLAssert false) s (fun t => t = s)) ∧
  (∀ (s : State) (ini : Initiator) (v : Word), s.answers 0x1010 = true → s.crossing 0x1010 = false → s.fld Reg.PWR_ISL_RST = 0 → v.toNat = 2 ^ 16 → (s.rc 0).msgs = [] → Answers (.islandResetHold ini v) s (fun t =>
    t.fld Reg.PWR_ISL_RST = 2 ^ 16 ∧ t.rHeld 0 = true ∧ (∀ k, k ≠ 0 → t.rc k = s.rc k) ∧ t.hq = s.hq ∧ t.acq = s.acq ∧ t.mem = s.mem)) ∧
  (∀ s : State, s.pw.phase = .held → s.pw.warm = true → Answers .warmBoot s (fun t => t.pw.phase = .rom ∧ t.pw.crs = true ∧ t.pw.rstOut = false ∧
    t.fld Reg.PAT_CTL_ADDR = s.pat.mramAddr % 32 ∧ t.mem = s.mem ∧ t.tb = s.tb))

/-- R35, R46, R51, R54, R55, R436, R453, R455: what the events of a boot do: POR_L released, the PLL locks, the loader's checks, memory training, and the entry into RUN. -/
def Obligations.BootEvents : Prop :=
  (∀ (s : State) (sa : Bool), s.pw.phase = .held → s.pw.warm = false → s.pw.standby = false → s.pw.porLow = true → s.pw.testHold = false →
    Answers (.coldBoot sa false) s (fun t => t.pw.phase = .rom ∧ t.pw.standalone = sa ∧ t.pw.porLow = false ∧ t.pw.crs = true ∧
      t.fld Reg.PWR_RST_CAUSE_POR = 1 ∧ t.fld Reg.PWR_RST_CAUSE_WARM_PIN = 0 ∧ t.mem = s.mem)) ∧
  (∀ (s : State) (sa : Bool), s.pw.phase = .held → s.pw.warm = false → s.pw.standby = false →
    Answers (.coldBoot sa true) s (fun t => t.pw.phase = .held ∧ t.pw.testHold = true ∧ t = { s with pw := t.pw })) ∧
  (∀ s : State, s.awake = true → Answers .systemPllLock s (fun t => t.pw.sumMhz = 400 ∧ t.pw.holdover = !s.refPresent ∧
    t.fld Reg.PWR_STATUS_REF_LOCK = b2n s.refPresent ∧ t.mem = s.mem ∧ SameRegs [Reg.PWR_STATUS_REF_LOCK.key 0] s t)) ∧
  (∀ s : State, s.awake = true → s.pw.toWatch = true → Answers .convPllLock s (fun t => t.fld Reg.PWR_STATUS_CONV_LOCK = 1 ∧ OnlyRegs [Reg.PWR_STATUS_CONV_LOCK.key 0] s t)) ∧
  (∀ s : State, s.awake = true → s.pw.phase = .rom → s.pw.toWatch = false → s.pstate = stBoot → (s.fld Reg.PWR_ISL_RST).testBit 5 = false → s.loaderGood = false →
    Answers .loaderStart s (fun t => t.fld Reg.SUM_BOOT_STATUS_LOADER_BAD = 1 ∧ t.pw.phase = .rom ∧ t.pw.crs = false ∧ t.mem = s.mem)) ∧
  (∀ s : State, s.awake = true → s.pw.phase = .rom → s.pw.restart = false → s.pw.toWatch = false → s.pstate = stBoot → (s.fld Reg.PWR_ISL_RST).testBit 5 = false →
    s.loaderGood = true → s.genValid = false → s.sum.factory = false →
    Answers .loaderStart s (fun t => t.fld Reg.SUM_BOOT_STATUS_PERSONALITY = 2 ∧ t.fld Reg.SUM_BOOT_STATUS_REASON = 1 ∧ t.pstate = stLoader ∧
      t.fld Reg.SUM_MRAM_LOCK_LOADER = 1 ∧ t.pw.rstOut = true ∧ t.pw.phase = .loader)) ∧
  (∀ (s : State) (t0 t1 : RankSet), s.awake = true → s.pw.toWatch = false → s.pstate = stBoot → s.pw.phase = .firmware → s.fld Reg.MEM_STATUS_TRAINED = 0 → s.pw.warm = false →
    s.sum.tables = [] → s.loaderPers = false →
    Answers (.memoryTrainingDone (some t0) (some t1)) s (fun t => t.fld Reg.MEM_STATUS_TRAINED = 3 ∧ t.fld Reg.MEM_STATUS_DEGRADED = 0 ∧
      t.mc.record.sets = #v[some t0, some t1] ∧ t.mem = s.mem)) ∧
  (∀ (s : State) (ms : List LaneMeas), s.pw.phase = .firmware → s.pstate = stBoot → s.fld Reg.PWR_STATUS_STATE = stBoot → s.sum.act = none →
    Answers (.bootComplete ms) s (fun t => t.pstate = stRun ∧ t.fld Reg.PWR_STATUS_STATE = stRun ∧ t.mem.firn = [] ∧ t.mem.ext = s.mem.ext ∧
      (if s.pw.standalone || s.vecOpen 0 then 0 ∈ t.irqOut else 0 ∈ t.hq.pba)))

/-- R26, R57 to R59, R334, R337, R475: the commands and events of the power-state transitions. -/
def Obligations.PowerTransitions : Prop :=
  (∀ (s : State) (h : Fin 256) (x : Handle), s.cmd? h.val 0x04 = some x → x.p 0 = 2 → s.loaderPers = false → s.activating = false → s.pstate = stRun → s.pw.trans = none →
    Ends (.powerState h) s h.val stOk 0 stRun 0 (fun u => u = s)) ∧
  (∀ (s : State) (h : Fin 256) (x : Handle), s.cmd? h.val 0x04 = some x → x.p 0 = 2 → s.loaderPers = false → s.activating = false → s.pstate = stWatch → s.pw.trans = none →
    Answers (.powerState h) s (fun t => t.pw.trans = some ⟨1, 2, [h.val], false⟩ ∧ t.fld Reg.PWR_WAKE_SRC_COMMAND = 1 ∧ t.pw.pewake = (!s.pw.standalone && !s.pw.linkUp))) ∧
  (∀ (s : State) (h : Fin 256) (x : Handle), s.cmd? h.val 0x04 = some x → x.p 0 = 0 ∨ 3 < x.p 0 → Ends (.powerState h) s h.val stInvalid 24 0 0 (fun u => u = s)) ∧
  (∀ (s : State) (h : Nat), s.pw.trans = some ⟨1, 2, [h], false⟩ → s.awake = true → s.pw.fresh = false → s.pw.hostResetOwed = false →
    Answers .transitionDone s (fun t => t.pstate = stRun ∧ t.fld Reg.PWR_STATUS_STATE = stRun ∧ t.pw.trans = none)) ∧
  (∀ (s : State) (tr : Transition), s.pw.queued = some tr → s.pw.trans = none → s.pstate = stWatch →
    Answers .queuedTransitionStart s (fun t => t.pw.queued = none ∧ t.pw.trans = some ⟨1, 2, tr.handles, false⟩ ∧ t.fld Reg.PWR_STATUS_STATE = stStarting ∧
      t.fld Reg.PWR_WAKE_SRC_COMMAND = 1 ∧ t.mem = s.mem)) ∧
  (∀ s : State, s.pw.standby = true → s.pw.wakeLatch ≠ 0 → s.pw.pwrOn = false →
    Answers .standbyWake s (fun t => t = { s with pw := { s.pw with pwrOn := true, wakeTries := 0 }, timers := (s.timerStart .wake).timers })) ∧
  (∀ s : State, s.pw.standby = true → s.timerDue .wake 200000000 = true → s.pw.pwrOn = true → s.pw.wakeTries = 0 →
    Answers .wakeRetryTimer s (fun t => t = { s with pw := { s.pw with pwrOn := false, wakeTries := 1 }, timers := (s.timerStart .wake).timers })) ∧
  (∀ s : State, s.pw.standby = true → s.timerDue .wake 200000000 = true → s.pw.pwrOn = false → s.pw.wakeTries = 1 →
    Answers .wakeRetryTimer s (fun t => t = { s with pw := { s.pw with pwrOn := true }, timers := (s.timerStart .wake).timers })) ∧
  (∀ s : State, s.pw.standby = true → s.timerDue .wake 200000000 = true → s.pw.pwrOn = true → s.pw.wakeTries = 1 →
    Answers .wakeRetryTimer s (fun t => t.pw.pwrOn = false ∧ t.pw.wakeLatch = 0 ∧ (t.vb.ret.getD 0 0).testBit 0 = true ∧ t.mem = s.mem ∧ t.regs = s.regs))

/-- R36, R45, R46, R55, R79: the references, the configuration space and the boundary-scan port. -/
def Obligations.ReferencesAndPins : Prop :=
  (∀ (s : State) (lift : Bool), s.selected lift = true → s.awake = true → s.acq.run = none → s.dts.run = none → s.pstate ≠ stWatch →
    Answers (.refLost lift) s (fun t => t.fld Reg.PWR_STATUS_REF_LOST = 1 ∧ t.fld Reg.PWR_STATUS_REF_LOCK = 0 ∧ t.fld Reg.PWR_STATUS_CONV_LOCK = 0 ∧
      t.pw.holdover = true ∧ t.mem = s.mem)) ∧
  (∀ (s : State) (lift : Bool), s.selected lift = true → s.awake = true → s.pw.phase ≠ .rom →
    Answers (.refReturn lift) s (fun t => t.fld Reg.PWR_STATUS_REF_LOCK = 1 ∧ t.fld Reg.PWR_STATUS_CONV_LOCK = 1 ∧ t.pw.holdover = false ∧
      t.fld Reg.PWR_STATUS_REF_LOST = s.fld Reg.PWR_STATUS_REF_LOST ∧ t.mem = s.mem)) ∧
  (∀ (s : State) (ini : Initiator) (v : Word), s.answers 0x100C = true → s.crossing 0x100C = false → s.acqRuns = false → s.dts.run = none → v.toNat = 1 →
    (∀ c, c < 8 → s.rHeld c = true) →
    Answers (.refSrcWrite ini v) s (fun t => t.fld Reg.PWR_CLK_CFG_REF_SRC = 1 ∧ t.mem = s.mem)) ∧
  (∀ s : State, s.pw.standalone = false → s.pw.perstLow = false → s.awake = true → s.pw.linkUp = true →
    (s.pw.crs = true → ∀ req, Answers (.configurationRequest req) s (fun t => t = { s with readOut := none })) ∧
    (s.pw.crs = false → Answers (.configurationRequest ⟨0x000, none⟩) s (fun t => t = { s with readOut := some (Config.vendorId.toNat + 0x6128 * 2 ^ 16) }) ∧
      Answers (.configurationRequest ⟨0x008, none⟩) s (fun t => t = { s with readOut := some 0x118000B0 }) ∧
      Answers (.configurationRequest ⟨0x020, none⟩) s (fun t => t = { s with readOut := some 0 }) ∧
      ∀ v : Word, Answers (.configurationRequest ⟨0x010, some v⟩) s (fun t => t.regs = s.regs ∧ t.mem = s.mem ∧
        Answers (.configurationRequest ⟨0x010, none⟩) t (fun u => u = { t with readOut := some ((v.toNat &&& 0xFF000000) + 4) })))) ∧
  (∀ (s : State) (gd gt : Bool) (p : BitVec 4), Answers (.jtagInstruction .extest gd gt p) s (fun t => t.gatePin 0 = gd ∧ t.gatePin 1 = gt ∧
    (∀ n, n < 4 → t.pumpPin n = p.toNat.testBit n) ∧ t = { s with jtag := t.jtag }))

/-- R48 to R50, R74: the time base. A valid edge measures the error and steers it; one outside the window is counted; under LOAD_ARM the pair last committed is loaded; loss of the edge clears PPS_VALID. -/
def Obligations.TimeBaseDiscipline : Prop :=
  (∀ s : State, s.timed = true → s.ppsInWindow = false → Answers .ppsEdge s (fun t => t.fld Reg.GLB_TB_PPS_REJECT = (s.fld Reg.GLB_TB_PPS_REJECT + 1) % 2 ^ 32 ∧
    OnlyRegs [Reg.GLB_TB_PPS_REJECT.key 0] s t)) ∧
  (∀ s : State, s.timed = true → s.ppsInWindow = true → s.on Reg.GLB_TB_CTL_LOAD_ARM = true → Answers .ppsEdge s (fun t => t.now = s.tb.loadVal ∧ t.fld Reg.GLB_TB_CTL_LOAD_ARM = 0 ∧
    t.fld Reg.GLB_TB_STATUS_PPS_VALID = 1 ∧ t.fld Reg.GLB_TB_STATUS_PPS_FAR = 0 ∧ t.tb.slew = 0 ∧ t.tb.rate = s.tb.rate ∧ t = { s with tb := t.tb, regs := t.regs })) ∧
  (∀ s : State, s.timed = true → s.ppsInWindow = true → s.on Reg.GLB_TB_CTL_LOAD_ARM = false → s.on Reg.GLB_TB_CTL_DISC_EN = true → s.on Reg.GLB_TB_STATUS_PPS_FAR = false →
    (ppsError s.now).natAbs ≤ 10000 → Answers .ppsEdge s (fun t => t.now = s.now ∧ t.tb.slew = -(ppsError s.now) ∧
      t.tb.rate = clampInt (-100000) 100000 (s.tb.rate - ppsError s.now) ∧ t.fldS Reg.GLB_TB_PPS_ERR = ppsError s.now ∧
      t.fld Reg.GLB_TB_STATUS_PPS_VALID = 1 ∧ t.fldS Reg.GLB_TB_RATE = divRne t.tb.rate 2 ∧ t = { s with tb := t.tb, regs := t.regs })) ∧
  (∀ s : State, s.timed = true → s.ppsInWindow = true → s.on Reg.GLB_TB_CTL_LOAD_ARM = false → 10000 < (ppsError s.now).natAbs →
    Answers .ppsEdge s (fun t => t.fld Reg.GLB_TB_STATUS_PPS_FAR = 1 ∧ t.now = s.now ∧ t.tb.rate = s.tb.rate ∧ t.tb.slew = s.tb.slew)) ∧
  (∀ s : State, s.timed = true → 1500000000 ≤ wrapSub 64 s.now s.tb.ppsAt → Answers .ppsLoss s (fun t => t.fld Reg.GLB_TB_STATUS_PPS_VALID = 0 ∧ t.fld Reg.GLB_TB_STATUS_DISCIPLINED = 0 ∧ OnlyRegs [Reg.GLB_TB_STATUS_PPS_VALID.key 0, Reg.GLB_TB_STATUS_DISCIPLINED.key 0] s t)) ∧
  (∀ (s : State) (v : Word), s.awake = true → Answers (.tbLoadWrite v) s (fun t => t.tb.loadVal = v.toNat + s.fld Reg.GLB_TB_LOAD_HI * 2 ^ 32 ∧ t.now = s.now ∧
    SameRegs [Reg.GLB_TB_LOAD_LO.key 0] s t ∧ t = { s with tb := t.tb, regs := t.regs })) ∧
  (∀ s : State, s.pending = [] → s.dueNow = none → s.timed = true → s.tb.rate = 0 → s.tb.rateAcc = 0 → s.tb.slew = 0 → s.now + 5 < 2 ^ 64 → ∃ t, step s = .next t ∧ t.now = s.now + 5)

/-! ### Chapter 03 -/

/-- R9, R11, R61, R62, R68 to R72: a write to another island waits in its crossing and is applied there; a second one is dropped with OVERRUN; a reserved read and one of a wrong width raise their errors; a read-clear field clears; an island that does not answer costs XTMO. -/
def Obligations.RegisterAccesses : Prop :=
  (∀ (s : State) (ini : Initiator) (v : BitVec 32), s.awake = true → s.xing = [] →
    Answers (.registerWrite ini false 0x10000 ((leBytes 4 v.toNat).map some)) s (fun t => t = { s with xing := [⟨3, 0x10000, (leBytes 4 v.toNat).map some, ini, s.tick⟩] } ∧
      t.xingBusy = 8)) ∧
  (∀ (s : State) (x : XWrite) (v : BitVec 32), s.xing = [x] → x.island = 3 → x.off = 0x10000 → x.data = (leBytes 4 v.toNat).map some → s.answers 0x10000 = true →
    Answers (.postedWriteApply 3) s (fun t => t.xing = [] ∧ t.fld Reg.HQE_CTL_EN0 = v.toNat % 2 ∧ t.fld Reg.HQE_CTL_EN1 = v.toNat / 2 % 2 ∧
      t.fld Reg.HQE_CTL_RO_STREAM = v.toNat / 256 % 2 ∧ SameRegs [Reg.HQE_CTL_EN0.key 0, Reg.HQE_CTL_EN1.key 0, Reg.HQE_CTL_RO_STREAM.key 0] s t ∧ t.mem = s.mem)) ∧
  (∀ (s : State) (ini : Initiator) (v : BitVec 32), s.awake = true → s.xing.any (fun x => x.island == 3) = true →
    Answers (.registerWrite ini false 0x10000 ((leBytes 4 v.toNat).map some)) s (fun t => t.xing = s.xing ∧ t.fld Reg.GLB_ERR_STATUS_OVERRUN = 1 ∧
      t.fld Reg.GLB_XING_OVERRUN = s.fld Reg.GLB_XING_OVERRUN ||| 8 ∧ t.mem = s.mem)) ∧
  (∀ (s : State) (x : XWrite), s.xing = [x] → x.island = 3 → x.off = 0x10000 → s.answers 0x10000 = false →
    (x.accepted + 200000 ≤ s.tick → Answers (.crossingTimeout (.write 3)) s (fun t => t.xing = [] ∧ t.fld Reg.GLB_ERR_STATUS_XTMO = 1 ∧
      t.fld Reg.GLB_XING_TMO = s.fld Reg.GLB_XING_TMO ||| 8 ∧ t.fld Reg.HQE_CTL_EN0 = s.fld Reg.HQE_CTL_EN0)) ∧
    (s.tick < x.accepted + 200000 → Answers (.crossingTimeout (.write 3)) s (fun t => t = s))) ∧
  (∀ (s : State) (ini : Initiator) (off : Nat), s.awake = true → servedHere off = false → s.answers off = false →
    Answers (.crossingTimeout (.read ini off)) s (fun t => t.readOut = none ∧ t.fld Reg.GLB_ERR_STATUS_XTMO = 1 ∧
      t.fld Reg.GLB_XING_TMO = (s.fld Reg.GLB_XING_TMO ||| 2 ^ islandOf off) % 2 ^ Reg.GLB_XING_TMO.width ∧ t.mem = s.mem)) ∧
  (∀ (s : State) (ini : Initiator) (ecc : MemEcc), s.awake = true →
    Answers (.readClear ⟨ini, false, 0x1C, 4, true⟩ ecc) s (fun t => t.readOut = some (s.fld Reg.GLB_ERR_COUNT) ∧ t.fld Reg.GLB_ERR_COUNT = 0 ∧
      SameRegs [Reg.GLB_ERR_COUNT.key 0] s t ∧ t = { s with regs := t.regs, readOut := t.readOut })) ∧
  (∀ (s : State) (ini : Initiator), s.awake = true →
    Answers (.reservedAccess ⟨ini, false, 0x8, 4, true⟩ false) s (fun t => t.readOut = none ∧ t.fld Reg.GLB_ERR_STATUS_RSVD_RD = 1 ∧
      t.fld Reg.GLB_ERR_COUNT = (s.fld Reg.GLB_ERR_COUNT + 1) % 2 ^ 32 ∧ t.mem = s.mem)) ∧
  (∀ (s : State) (ini : Initiator), s.awake = true →
    Answers (.reservedAccess ⟨ini, false, 0x10000, 2, true⟩ true) s (fun t => t.fld Reg.GLB_ERR_STATUS_WIDTH = 1 ∧ t.fld Reg.HQE_CTL_EN0 = s.fld Reg.HQE_CTL_EN0 ∧ t.xing = s.xing)) ∧
  (∀ (s : State) (ini : Initiator), s.awake = true →
    Answers (.reservedAccess ⟨ini, true, 0x40, 4, true⟩ true) s (fun t => t.fld Reg.HQE_ERR_DB_RSVD = 1 ∧ SameRegs [Reg.HQE_ERR_DB_RSVD.key 0] s t))

/-- R84, R85, R495: what the writes of queue registers start. A queue bound to the other engine is not enabled, and a ratio of HQE_WDOG to HQE_CTO that R85 refuses changes nothing: each sets LOCKVIOL. -/
def Obligations.QueueRegisterWrites : Prop :=
  (∀ (s : State) (ini : Initiator) (q : Fin 16) (v : Word), s.answers (0x11008 + 0x40 * q.val) = true → s.crossing (0x11008 + 0x40 * q.val) = false → s.fld Reg.SQ_CFG_EN q = 0 → v.toNat / 2 ^ 16 % 2 = 1 →
    v.toNat / 2 ^ 8 % 16 / 8 = q.val / 8 →
    Answers (.sqEnableWrite ini q v) s (fun t => t.fld Reg.SQ_CFG_EN q = 1 ∧ t.fld Reg.SQ_CFG_CQ q = v.toNat / 2 ^ 8 % 16 ∧ t.fld Reg.SQ_STATUS_FETCH_ERR q = 0 ∧ t.mem = s.mem)) ∧
  (∀ (s : State) (ini : Initiator) (q : Fin 16) (v : Word), s.answers (0x11008 + 0x40 * q.val) = true → s.crossing (0x11008 + 0x40 * q.val) = false → s.fld Reg.SQ_CFG_EN q = 0 → v.toNat / 2 ^ 16 % 2 = 1 →
    v.toNat / 2 ^ 8 % 16 / 8 ≠ q.val / 8 →
    Answers (.sqEnableWrite ini q v) s (fun t => t.fld Reg.SQ_CFG_EN q = 0 ∧ t.fld Reg.GLB_ERR_STATUS_LOCKVIOL = 1)) ∧
  (∀ (s : State) (ini : Initiator) (q : Fin 16) (v : Word), s.answers (0x11000 + 0x40 * q.val) = true → s.crossing (0x11000 + 0x40 * q.val) = false → s.fld Reg.SQ_CFG_EN q = 0 →
    Answers (.ringConfigWrite ini (0x11000 + 0x40 * q.val) v) s (fun t => t.fld Reg.SQ_BASE_LO q = v.toNat / 64 ∧ t.fld Reg.SQ_STATUS_HEAD q = 0 ∧
      t.fld Reg.SQ_STATUS_TAIL q = 0 ∧ t.ringBase (0x11000 + 0x40 * q.val) = v.toNat / 64 * 64 + s.fld Reg.SQ_BASE_HI q * 2 ^ 32 ∧
      SameRegs [Reg.SQ_BASE_LO.key q, Reg.SQ_STATUS_HEAD.key q, Reg.SQ_STATUS_TAIL.key q] s t ∧
      t = { s with regs := t.regs, hq := { s.hq with bases := t.hq.bases } })) ∧
  (∀ (s : State) (ini : Initiator) (q : Fin 16) (v : Word), s.answers (0x11000 + 0x40 * q.val) = true → s.crossing (0x11000 + 0x40 * q.val) = false → s.fld Reg.SQ_CFG_EN q = 1 →
    v.toNat / 64 ≠ s.fld Reg.SQ_BASE_LO q →
    Answers (.ringConfigWrite ini (0x11000 + 0x40 * q.val) v) s (fun t => t.fld Reg.SQ_BASE_LO q = s.fld Reg.SQ_BASE_LO q ∧
      t.fld Reg.SQ_STATUS_HEAD q = s.fld Reg.SQ_STATUS_HEAD q ∧ t.fld Reg.GLB_ERR_STATUS_LOCKVIOL = 1)) ∧
  (∀ (s : State) (ini : Initiator) (c : Fin 16) (v : Word), s.answers (0x12008 + 0x40 * c.val) = true → s.crossing (0x12008 + 0x40 * c.val) = false → s.fld Reg.CQ_CFG_IRQ_EN c = 0 → v.toNat / 2 ^ 17 % 2 = 1 →
    Answers (.irqEnWrite ini (.cq c) v) s (fun t => t.fld Reg.CQ_CFG_IRQ_EN c = 1 ∧ Store.read 0 t.hq.coal c.val = 0 ∧ t.hq.coalTimers.contains c.val = false)) ∧
  (∀ (s : State) (ini : Initiator) (v : Word), s.answers 0x10008 = true → s.crossing 0x10008 = false →
    (100 ≤ v.toNat % 65536 → 10 * s.fld Reg.HQE_CTO ≤ v.toNat % 65536 → v.toNat % 65536 ≤ 60000 →
      Answers (.hqeWdogWrite ini false v) s (fun t => t.fld Reg.HQE_WDOG = v.toNat % 65536 ∧ OnlyRegs [Reg.HQE_WDOG.key 0] s t)) ∧
    (v.toNat % 65536 < 100 ∨ v.toNat % 65536 < 10 * s.fld Reg.HQE_CTO ∨ 60000 < v.toNat % 65536 →
      Answers (.hqeWdogWrite ini false v) s (fun t => t.fld Reg.HQE_WDOG = s.fld Reg.HQE_WDOG ∧ t.fld Reg.GLB_ERR_STATUS_LOCKVIOL = 1))) ∧
  (∀ (s : State) (ini : Initiator) (v : Word), s.answers 0x1000C = true → s.crossing 0x1000C = false →
    (0 < v.toNat % 128 → v.toNat % 128 ≤ 100 → 10 * (v.toNat % 128) ≤ s.fld Reg.HQE_WDOG →
      Answers (.hqeWdogWrite ini true v) s (fun t => t.fld Reg.HQE_CTO = v.toNat % 128 ∧ OnlyRegs [Reg.HQE_CTO.key 0] s t)) ∧
    (v.toNat % 128 = 0 ∨ 100 < v.toNat % 128 ∨ s.fld Reg.HQE_WDOG < 10 * (v.toNat % 128) →
      Answers (.hqeWdogWrite ini true v) s (fun t => t.fld Reg.HQE_CTO = s.fld Reg.HQE_CTO ∧ t.fld Reg.GLB_ERR_STATUS_LOCKVIOL = 1)))

/-! ### Chapter 04 -/

/-- R84, R89, R90, R92, R96, R99: completion entries. An accepted command whose completion queue takes entries ends with one DONE entry, bytes 0 to 11 written before bytes 12 to 15, in the slot of the tail with its phase; the tail advances and the index is free. While the queue is full or disabled the entry is kept, the index stays taken, and nothing reaches host memory; a kept entry is written once the queue takes entries, and frees its index. The coalescing time of a ring signals its vector and idles its timer. -/
def Obligations.CompletionEntries : Prop :=
  (∀ (s : State) (h st det r0 r1 : Nat) (x : Handle),
    s.handle? h = some x → x.done = false → x.accepted = true → s.cqOpen x.cq = true → s.hq.held = [] → s.pw.standalone = false →
    r0 < 2 ^ 32 → r1 < 2 ^ 24 →
    let t := s.complete h st det r0 r1
    let tail := s.fld Reg.CQ_STATUS_TAIL x.cq
    let at_ := s.ringBase (0x12000 + 0x40 * x.cq.val) + 16 * tail
    t.hostOut = s.hostOut ++
      [⟨at_, leBytes 2 (x.gen * 256 + x.idx) ++ leBytes 2 x.tag ++ leBytes 1 st ++ leBytes 1 det ++
          leBytes 2 (s.fld Reg.SQ_STATUS_HEAD x.sq + x.sq * 4096) ++ leBytes 4 r0, false⟩,
       ⟨at_ + 12, leBytes 3 r1 ++ leBytes 1 (2 + s.fld Reg.CQ_STATUS_PHASE x.cq * 128), false⟩] ∧
    t.fld Reg.CQ_STATUS_TAIL x.cq = (tail + 1) % s.cqSize x.cq ∧
    t.handle? h = none ∧
    t.mem = s.mem ∧ (∀ (G : Field) (j : Nat), Field.notHqe (G.key j) → t.fld G j = s.fld G j)) ∧
  (∀ (s : State) (h st det r0 r1 : Nat) (x : Handle),
    s.handle? h = some x → x.done = false → s.cqOpen x.cq = false → s.hq.held = [] →
    let t := s.complete h st det r0 r1
    (∃ e, t.hq.held = [⟨x.cq, e, some h⟩] ∧ e.handle = x.gen * 256 + x.idx ∧ e.status = st ∧ e.detail = det ∧ 2 ≤ e.kind) ∧
    (t.handle? h).isSome ∧ t.hostOut = s.hostOut ∧ t.mem = s.mem ∧ t.regs = s.regs) ∧
  (∀ (s : State) (x : HeldCqe) (h n a : Nat), s.hq.held = [x] → x.frees = some h → s.cqOpen x.cq = true → s.pw.standalone = false →
    n = s.fld Reg.CQ_STATUS_TAIL x.cq → a = s.ringBase (0x12000 + 0x40 * x.cq.val) + 16 * n →
    Answers (.heldEntryWrite x.cq) s (fun t => t.hq.held = [] ∧ t.handle? h = none ∧ t.mem = s.mem ∧
      t.hostOut = s.hostOut ++ [⟨a, x.e.head, false⟩, ⟨a + 12, x.e.tail (s.fld Reg.CQ_STATUS_PHASE x.cq), false⟩] ∧
      t.fld Reg.CQ_STATUS_TAIL x.cq = (n + 1) % s.cqSize x.cq)) ∧
  (∀ (s : State) (c : Fin 16), s.hq.coalTimers.contains c.val = true → s.on Reg.CQ_CFG_IRQ_EN c = true →
    s.timerDue (.coal c.val) (200 * s.fld Reg.CQ_COAL_TIME_US c) = true → s.vecOpen (s.fld Reg.CQ_CFG_VEC c) = true →
    Answers (.coalTimer (.cq c)) s (fun t => t.irqOut = s.irqOut ++ [s.fld Reg.CQ_CFG_VEC c] ∧ t.hq.coalTimers.contains c.val = false ∧
      Store.read 0 t.hq.coal c.val = 0 ∧ t.regs = s.regs ∧ t.mem = s.mem)) ∧
  (∀ (s : State) (r : Fin 8), s.hq.coalTimers.contains (16 + r.val) = true → s.on Reg.SR_CFG_IRQ_EN r = true →
    s.timerDue (.coal (16 + r.val)) (200 * s.fld Reg.SR_COAL_TIME_US r) = true → s.vecOpen (s.fld Reg.SR_CFG_VEC r) = true →
    Answers (.coalTimer (.sr r)) s (fun t => t.irqOut = s.irqOut ++ [s.fld Reg.SR_CFG_VEC r] ∧ t.hq.coalTimers.contains (16 + r.val) = false ∧
      Store.read 0 t.hq.coal (16 + r.val) = 0 ∧ t.regs = s.regs ∧ t.mem = s.mem))

/-- R105: NOP, IDENTIFY and QUERY complete at once. IDENTIFY writes 256 bytes into its buffer and RESULT0 says so; a shorter buffer takes nothing and is OUT_OF_SPACE; a list that breaks R496 before the last byte takes what fits in its good segments. QUERY of a handle that is not held is STALE_HANDLE; the unit state and progress count that it answers are free values (log entry 8). -/
def Obligations.InformationCommands : Prop :=
  (∀ (s : State) (h : Fin 256) (x : Handle), s.cmd? h.val 0x00 = some x → Ends (.nop h) s h.val stOk 0 0 0 (fun u => u = s)) ∧
  (∀ s : State, s.identify.length = 256) ∧
  (∀ (s : State) (h : Fin 256) (d : CmdData) (x : Handle), s.cmd? h.val 0x01 = some x → x.chain = false → s.pw.standalone = false →
    (256 ≤ x.len0 → Ends (.identify h d) s h.val stOk 0 256 0 (fun u => u = s.dataPut x.engine x.ptr0 s.identify)) ∧
    (x.len0 < 256 → Ends (.identify h d) s h.val stNoSpace 0 0 0 (fun u => u = s))) ∧
  (∀ (s v : State) (h : Fin 256) (d : CmdData) (x : Handle) (b : Buffer), s.cmd? h.val 0x01 = some x → s.buffer x d = (b, v) →
    (256 ≤ segsLen b.1 → Ends (.identify h d) s h.val stOk 0 256 0 (fun u => u = v.putSegs x.engine b.1 s.identify)) ∧
    (segsLen b.1 < 256 → b.2 = .whole → Ends (.identify h d) s h.val stNoSpace 0 0 0 (fun u => u = v)) ∧
    (∀ det i, segsLen b.1 < 256 → b.2 = .fault det i →
      Ends (.identify h d) s h.val stInvalid det i 0 (fun u => u = v.putSegs x.engine b.1 s.identify))) ∧
  (∀ (s : State) (h : Fin 256) (x y : Handle), s.cmd? h.val 0x03 = some x → s.handle? (x.p 0 % 256) = some y →
    (y.gen = x.p 0 / 256 % 256 → Ends (.query h) s h.val stOk 0 (s.freeVal 32).1 ((s.freeVal 32).2.freeVal 24).1 (fun u => u = { s with free := s.free + 2 })) ∧
    (y.gen ≠ x.p 0 / 256 % 256 → Ends (.query h) s h.val stStale 0 0 0 (fun u => u = s))) ∧
  (∀ (s : State) (h : Fin 256) (x : Handle), s.cmd? h.val 0x03 = some x → s.handle? (x.p 0 % 256) = none → Ends (.query h) s h.val stStale 0 0 0 (fun u => u = s))

/-- R82, R93, R95, R97, R109: doorbells, submission fetches and host reads. A doorbell below the ring size is stored, one at or beyond it is dropped and sets HQE_ERR.DB_RANGE; so is a head that would pass entries not yet written. A fetch takes the entry of the engine's next queue, advances its head and gives the command the lowest free index with the next generation; a command that no fence holds starts. At the handle bound nothing is fetched and HQ_STALL is set until an index is free. A failed command read ends the command; a failed submission fetch stops its queue; a completion that belongs to no read is an Unexpected Completion. -/
def Obligations.SubmissionPath : Prop :=
  (∀ (s : State) (q : Fin 16) (v : Word), s.islUp 3 = true → v.toNat % 4096 < s.sqSize q →
    Answers (.sqTailDb q v) s (fun t => t.fld Reg.SQ_STATUS_TAIL q = v.toNat % 4096 ∧ OnlyRegs [Reg.SQ_STATUS_TAIL.key q] s t)) ∧
  (∀ (s : State) (q : Fin 16) (v : Word), s.islUp 3 = true → s.sqSize q ≤ v.toNat % 4096 →
    Answers (.sqTailDb q v) s (fun t => t.fld Reg.HQE_ERR_DB_RANGE = 1 ∧ SameRegs [Reg.HQE_ERR_DB_RANGE.key 0] s t ∧ t.mem = s.mem)) ∧
  (∀ (s : State) (c : Fin 16) (v : Word), s.islUp 3 = true → v.toNat % 16384 < s.cqSize c →
    noPass (s.cqSize c) (s.fld Reg.CQ_STATUS_HEAD c) (v.toNat % 16384) (s.fld Reg.CQ_STATUS_TAIL c) = true →
    Answers (.cqHeadDb c v) s (fun t => t.fld Reg.CQ_STATUS_HEAD c = v.toNat % 16384 ∧ t.fld Reg.CQ_STATUS_FULL c = b2n (t.cqFull c) ∧
      OnlyRegs [Reg.CQ_STATUS_HEAD.key c, Reg.CQ_STATUS_FULL.key c] s t)) ∧
  (∀ (s : State) (c : Fin 16) (v : Word), s.islUp 3 = true → s.cqSize c ≤ v.toNat % 16384 ∨
      noPass (s.cqSize c) (s.fld Reg.CQ_STATUS_HEAD c) (v.toNat % 16384) (s.fld Reg.CQ_STATUS_TAIL c) = false →
    Answers (.cqHeadDb c v) s (fun t => t.fld Reg.HQE_ERR_DB_RANGE = 1 ∧ SameRegs [Reg.HQE_ERR_DB_RANGE.key 0] s t)) ∧
  (∀ (s : State) (r : Fin 8) (v : Word), s.islUp 3 = true → v.toNat % 4096 < s.srSize r → (s.sr r).bufs = [] →
    Answers (.srBufDb r v []) s (fun t => (t.sr r).bufTail = v.toNat % 4096 ∧
      t = { s with hq := { s.hq with srs := t.hq.srs, reads := t.hq.reads, nextTag := t.hq.nextTag }, timers := t.timers })) ∧
  (∀ (s : State) (r : Fin 8) (v : Word) (bs : List Byte), s.pw.standalone = false → s.islUp 3 = true → v.toNat % 4096 < s.srSize r → (s.sr r).bufs = [] →
    s.bufFetchable r = true → s.bufReading r = false → (s.sr r).fetched ≠ v.toNat % 4096 → (parseBuf bs).good (s.sr r).maxBlock = true →
    Answers (.srBufDb r v [.ok bs]) s (fun t => (t.sr r).bufTail = v.toNat % 4096 ∧ (t.sr r).bufs = [parseBuf bs] ∧
      t.fld Reg.SR_STATUS_NOBUF r = 0 ∧ SameRegs [Reg.SR_STATUS_BUF_ERR.key r, Reg.SR_STATUS_NOBUF.key r] s t)) ∧
  (∀ (s : State) (r : Fin 8) (v : Word), s.islUp 3 = true → v.toNat % 4096 < s.srSize r →
    noPass (s.srSize r) (s.sr r).fillHead (v.toNat % 4096) (s.fld Reg.SR_STATUS_FILL_TAIL r) = true →
    Answers (.srFillDb r v) s (fun t => (t.sr r).fillHead = v.toNat % 4096 ∧ t = { s with hq := { s.hq with srs := t.hq.srs } })) ∧
  (∀ (s : State) (e : Fin 2) (bs : List Byte) (q i : Nat), s.pickSq e = some q → s.heldHandles < 248 → s.on Reg.HQE_STATUS_HQ_STALL = false → s.freeIdx = some i → i < 256 → s.pw.standalone = false →
    opAtOnce (parseEntry bs).op = true → entryBad (parseEntry bs) (s.fld Reg.HQE_CTO) = none →
    s.loaderPers = false → s.fencedAt q s.hq.nextOrder (bit (parseEntry bs).flags 0) = false →
    Answers (.submissionFetch e (.ok bs)) s (fun t =>
      t.fld Reg.SQ_STATUS_HEAD q = (s.fld Reg.SQ_STATUS_HEAD q + 1) % s.sqSize q ∧
      (∃ x, t.handle? i = some x ∧ x.op = (parseEntry bs).op ∧ x.tag = (parseEntry bs).tag ∧ x.gen = nextGen (Store.read 0 s.hq.gens i) ∧
        x.params = (parseEntry bs).params ∧ x.started = true ∧ x.sq.val = q % 16) ∧
      t.mem = s.mem ∧ t.hostOut = s.hostOut)) ∧
  (∀ (s : State) (e : Fin 2) (d : HostData) (q : Nat), s.pickSq e = some q → 248 ≤ s.heldHandles →
    Answers (.submissionFetch e d) s (fun t => t.fld Reg.HQE_STATUS_HQ_STALL = 1 ∧ OnlyRegs [Reg.HQE_STATUS_HQ_STALL.key 0] s t)) ∧
  (∀ s : State, s.heldHandles < 248 →
    Answers .fetchResume s (fun t => t.fld Reg.HQE_STATUS_HQ_STALL = 0 ∧ OnlyRegs [Reg.HQE_STATUS_HQ_STALL.key 0] s t)) ∧
  (∀ (s : State) (h : Fin 256) (x : Handle), s.handle? h.val = some x → x.started = false → s.fenceOver x = true → s.loaderPers = false →
    Answers (.fenceRelease h) s (fun t => t.handle? h.val = some { x with started := true } ∧ t = { s with hq := { s.hq with handles := t.hq.handles }, timers := (s.timerStart (.handle h.val)).timers })) ∧
  (∀ (s : State) (tag : Nat) (r : HostReadRec) (h : Nat), s.hq.reads.find? (fun r => r.tag == tag) = some r → r.dead = false → r.target = .cmd h →
    Ends (.hostReadCompletion tag .poisoned) s h stDataError (if s.pw.standalone then 2 else 1) 0 0 (fun u => u = s.killRead tag) ∧
    Ends (.hostReadCompletion tag .refused) s h stDataError 4 0 0 (fun u => u = s.killRead tag)) ∧
  (∀ (s : State) (tag : Nat) (d : HostData), s.islUp 3 = true → s.hq.reads.find? (fun r => r.tag == tag) = none → d ≠ .outstanding → d ≠ .timeout →
    Answers (.hostReadCompletion tag d) s (fun t => t.fld Reg.HQE_ERR_UNEXP_CPL = 1 ∧
      t.fld Reg.HQE_UNEXP_COUNT = (s.fld Reg.HQE_UNEXP_COUNT + 1) % 2 ^ 32 ∧
      SameRegs [Reg.HQE_ERR_UNEXP_CPL.key 0, Reg.HQE_UNEXP_COUNT.key 0] s t)) ∧
  (∀ (s : State) (tag : Nat) (r : HostReadRec) (q : Fin 16) (bs : List Byte) (i : Nat), s.hq.reads.find? (fun r => r.tag == tag) = some r →
    r.dead = false → s.pw.standalone = false → r.target = .fetch q → s.freeIdx = some i → entryBad (parseEntry bs) (s.fld Reg.HQE_CTO) = none →
    opAtOnce (parseEntry bs).op = true → s.loaderPers = false → s.fencedAt q s.hq.nextOrder (bit (parseEntry bs).flags 0) = false →
    Answers (.hostReadCompletion tag (.ok bs)) s (fun t => t.fld Reg.SQ_STATUS_HEAD q = (s.fld Reg.SQ_STATUS_HEAD q + 1) % s.sqSize q ∧
      (∃ x, t.handle? i = some x ∧ x.op = (parseEntry bs).op ∧ x.started = true) ∧ t.hq.reads = s.hq.reads.filter (fun r => r.tag != tag))) ∧
  (∀ (s : State) (tag : Nat) (r : HostReadRec) (q : Fin 16), s.hq.reads.find? (fun r => r.tag == tag) = some r → r.dead = false → r.target = .fetch q →
    s.timerDue (.read tag) (200000 * s.fld Reg.HQE_CTO) = true → Answers (.hqeCtoExpiry tag) s (fun t => t.fld Reg.SQ_STATUS_FETCH_ERR q = 1 ∧ t.fld Reg.HQE_ERR_FETCH_TMO = 1 ∧
      t.fld Reg.SQ_STATUS_HEAD q = s.fld Reg.SQ_STATUS_HEAD q ∧ t.hq.reads = s.hq.reads.filter (fun r => r.tag != tag))) ∧
  (∀ (s : State) (tag : Nat) (r : HostReadRec) (h : Nat), s.hq.reads.find? (fun r => r.tag == tag) = some r → r.dead = false → r.target = .cmd h →
    s.timerDue (.read tag) (200000 * s.fld Reg.HQE_CTO) = true → Ends (.hqeCtoExpiry tag) s h stTimeout (if s.pw.standalone then 3 else 2) 0 0
      (fun u => u = ((s.dropRead tag).timeoutEvt (!s.pw.standalone) (rowOf 0x10000)).aerSet aerTimeout)) ∧
  (∀ (s : State) (tag : Nat) (r : HostReadRec), s.hq.reads.find? (fun r => r.tag == tag) = some r → s.timerDue (.read tag) (200000 * s.fld Reg.HQE_CTO) = false →
    exec (.hqeCtoExpiry tag) s = .next s)

/-- R96, R105, R107 to R109: ABORT of a handle that is not held is STALE_HANDLE, of an ABORT INVALID_PARAM, of a finished one OK with RESULT0 0; else the target's unit stops, the target ends, and the ABORT ends with RESULT0 1, at once or with the acquisition or stream that it ends. A watchdog that expires is counted and ends its command with TIMEOUT 1; before that nothing happens. -/
def Obligations.AbortAndWatchdog : Prop :=
  (∀ (s : State) (h : Fin 256) (x : Handle), s.cmd? h.val 0x02 = some x → x.p 0 < 65536 →
    (∀ y, s.handle? (x.p 0 % 256) = some y → y.gen ≠ x.p 0 / 256) → Ends (.abort h) s h.val stStale 0 0 0 (fun u => u = s)) ∧
  (∀ (s : State) (h : Fin 256) (x : Handle), s.cmd? h.val 0x02 = some x → 65536 ≤ x.p 0 → Ends (.abort h) s h.val stInvalid 24 0 0 (fun u => u = s)) ∧
  (∀ (s : State) (h : Fin 256) (x y : Handle), s.cmd? h.val 0x02 = some x → x.p 0 < 65536 → s.handle? (x.p 0 % 256) = some y → y.gen = x.p 0 / 256 →
    (y.op = 0x02 → Ends (.abort h) s h.val stInvalid 24 0 0 (fun u => u = s)) ∧
    (y.op ≠ 0x02 → y.done = true → Ends (.abort h) s h.val stOk 0 0 0 (fun u => u = s)) ∧
    (y.op ≠ 0x02 → y.done = false → s.acq.handle ≠ some y.idx → (∀ z ∈ s.red.streams, z.handle ≠ some y.idx) →
      exec (.abort h) s = .next (((s.readsDrop y.idx).unitStop y stAborted 1).complete h.val stOk 0 1 0) ∧
      ((s.readsDrop y.idx).unitStop y stAborted 1).ended y.idx) ∧
    (y.op ≠ 0x02 → y.done = false → s.acq.handle = some y.idx → s.acq.run.isSome = true → s.acq.ending = none →
      Answers (.abort h) s (fun t => (∃ e, t.acq.ending = some e ∧ e.status = stAborted ∧ e.detail = 1 ∧ e.stoppers = [h.val]) ∧ t.acq.run = s.acq.run))) ∧
  (∀ (s : State) (h : Fin 256) (x : Handle), s.handle? h.val = some x → x.started = true → x.done = false → s.wdogDue x = true →
    (s.acq.handle ≠ some x.idx → (∀ z ∈ s.red.streams, z.handle ≠ some x.idx) →
      exec (.handleWatchdog h) s = .next (((s.incF Reg.HQE_WDOG_COUNT).readsDrop x.idx).unitStop x stTimeout 1) ∧
      (((s.incF Reg.HQE_WDOG_COUNT).readsDrop x.idx).unitStop x stTimeout 1).ended x.idx) ∧
    (s.acq.handle = some x.idx → s.acq.run.isSome = true → s.acq.ending = none → Answers (.handleWatchdog h) s (fun t =>
      (∃ e, t.acq.ending = some e ∧ e.status = stTimeout ∧ e.detail = 1 ∧ e.stoppers = []) ∧ t.ended x.idx ∧ t.acq.handle = none))) ∧
  (∀ (s : State) (h : Fin 256) (x : Handle), s.handle? h.val = some x → s.wdogDue x = false → exec (.handleWatchdog h) s = .next s)

/-- R52, R58, R79, R80, R95, R495: in D3hot nothing is written or sent; the return to D0 and a trained link send what became pending; host reset and Function Level Reset free every handle and set the indices of every ring to 0 with phase 1. -/
def Obligations.LinkAndHostReset : Prop :=
  (∀ s : State, s.pw.standalone = false → s.pw.linkUp = true → Answers .d3hotEntry s (fun t => t.linkOk = false ∧ t.canPut = false ∧ t = { s with pw := { s.pw with d3hot := true } })) ∧
  (∀ (s u : State), s.pw.standalone = false → s.pw.linkUp = true → s.pw.perstLow = false → u = { s with pw := { s.pw with d3hot := false } } →
    (∀ w ∈ s.hostHeld, u.engineWrites w.1 = true) → Answers .d0Return s (fun t => t.linkOk = true ∧ t.hostOut = s.hostOut ++ s.hostHeld.map (·.2) ∧ t.hostHeld = [] ∧
      t.irqOut = s.irqOut ++ s.hq.pba.filter u.vecOpen ∧ t.hq.pba = s.hq.pba.filter (fun v => !u.vecOpen v) ∧ t.regs = s.regs ∧ t.mem = s.mem)) ∧
  (∀ (s : State) (v : Fin 16) (w : Fin 64), s.pw.standalone = false → s.pw.perstLow = false → s.pw.linkTraining = true → s.pw.d3hot = false → s.hostHeld = [] → Answers (.linkL0 v w) s (fun t =>
    t.linkOk = true ∧ t.pw.linkSpeed = v ∧ t.pw.linkWidth = w ∧ t.pw.pewake = false ∧ t.irqOut = s.irqOut ++ s.hq.pba.filter t.vecOpen ∧
      t.hq.pba = s.hq.pba.filter (fun v => !t.vecOpen v) ∧ t.hostOut = s.hostOut ∧ t.regs = s.regs ∧ t.mem = s.mem)) ∧
  (∀ s : State, s.timerDue .pewake 200000000 = true → Answers .pewakeTimeout s (fun t => t = { s with pw := { s.pw with pewake := false } })) ∧
  (∀ s : State, s.pw.standalone = false → s.awake = true → s.pstate ≠ stWatch → Answers .hostReset s (fun t => t.linkOk = false ∧ t.hq.handles = [] ∧ t.hq.held = [] ∧
    (∀ q : Fin 16, t.fld Reg.SQ_STATUS_HEAD q = 0 ∧ t.fld Reg.SQ_STATUS_TAIL q = 0 ∧ t.fld Reg.SQ_CFG_EN q = 0 ∧
      t.fld Reg.CQ_STATUS_TAIL q = 0 ∧ t.fld Reg.CQ_STATUS_HEAD q = 0 ∧ t.fld Reg.CQ_STATUS_PHASE q = 1) ∧
    (∀ r : Fin 8, t.fld Reg.SR_STATUS_BUF_HEAD r = 0 ∧ t.fld Reg.SR_STATUS_FILL_TAIL r = 0 ∧ (t.sr r).bufTail = 0 ∧ (t.sr r).fillHead = 0 ∧ (t.sr r).phase = 1))) ∧
  (∀ s : State, s.pw.standalone = false → s.pw.linkUp = true → s.pw.perstLow = false → Answers .functionLevelReset s (fun t =>
    t.pw.linkUp = true ∧ t.hq.handles = [] ∧ (∀ q : Fin 16, t.fld Reg.SQ_STATUS_HEAD q = 0 ∧ t.fld Reg.SQ_CFG_EN q = 0 ∧ t.fld Reg.CQ_STATUS_PHASE q = 1))) ∧
  (∀ s : State, s.pw.standalone = false → s.pw.standby = false → s.pw.phase ≠ .held → s.pstate ≠ stWatch → s.pw.perstLow = true →
    Answers .perstLRelease s (fun t => t = { s with pw := { s.pw with perstLow := false, linkTraining := true } }))

/-! ### Chapter 05 -/

/-- R116, R117: PLAN_LOAD and PLAN_CHECK run the same checks; a broken rule ends either with its status, code and RESULT0 and stores nothing; a good record ends both with OK, P for the smallest depth and N, and PLAN_LOAD stores it; LEN0 = 0 removes a stored plan; the running plan is kept with BUSY 0x12. -/
def Obligations.PlanLoading : Prop :=
  (∀ (s : State) (h : Fin 256) (d : CmdData) (n : Nat) (bs : List Byte) (x : Handle), s.cmd? h.val 0x10 = some x → x.p 0 ≠ 0 → s.runsPlan (x.p 0) = false →
    x.len0 ≠ 0 ∨ x.chain = true → s.dataOf x d = some (n, bs) →
    (∀ p, checkPlan n bs s.refLen = .ok p → (s.plan? (x.p 0)).isSome = true ∨ s.acq.plans.length < 8 →
      Ends (.planLoad h d) s h.val stOk 0 p.pMinDepth p.n (fun u => u = (s.dataRead x d).storePlan (x.p 0) p ∧ u.plan? (x.p 0) = some p)) ∧
    (∀ p, checkPlan n bs s.refLen = .ok p → s.plan? (x.p 0) = none → 8 ≤ s.acq.plans.length →
      Ends (.planLoad h d) s h.val stNoSpace 0 0 0 (fun u => u = s.dataRead x d)) ∧
    (∀ st det r0, checkPlan n bs s.refLen = .bad st det r0 → Ends (.planLoad h d) s h.val st det r0 0 (fun u => u = s.dataRead x d))) ∧
  (∀ (s : State) (h : Fin 256) (d : CmdData) (x : Handle), s.cmd? h.val 0x10 = some x → x.p 0 ≠ 0 →
    (s.runsPlan (x.p 0) = true → Ends (.planLoad h d) s h.val stBusy 0x12 0 0 (fun u => u = s)) ∧
    (s.runsPlan (x.p 0) = false → x.len0 = 0 → x.chain = false →
      Ends (.planLoad h d) s h.val stOk 0 0 0 (fun u => u = s.removePlan (x.p 0) ∧ u.plan? (x.p 0) = none))) ∧
  (∀ (s : State) (h : Fin 256) (d : CmdData) (n : Nat) (bs : List Byte) (x : Handle), s.cmd? h.val 0x11 = some x → x.p 0 ≠ 0 → s.dataOf x d = some (n, bs) →
    (∀ p, checkPlan n bs s.refLen = .ok p → Ends (.planCheck h d) s h.val stOk 0 p.pMinDepth p.n (fun u => u = s.dataRead x d)) ∧
    (∀ st det r0, checkPlan n bs s.refLen = .bad st det r0 → Ends (.planCheck h d) s h.val st det r0 0 (fun u => u = s.dataRead x d)))

/-- R30, R131 to R133: the commands of acquisition. ACQ_START whose prerequisites hold takes the named plan into use and clears PRB_DAC_TEST; a broken one ends it with its status. A second ACQ_START is BUSY; ACQ_STOP asks the acquisition to end with ABORTED 1; PLAN_SWITCH waits for the end of the frame. -/
def Obligations.AcquisitionCommands : Prop :=
  (∀ (s : State) (h : Fin 256) (x : Handle), s.cmd? h.val 0x12 = some x → s.acq.run = none →
    (∀ p, s.startBad (x.p 0) (bit (x.p 1) 0) = none → s.plan? (x.p 0) = some p → bit (x.p 1) 0 = false → s.dts.run = none →
      Answers (.acqStart h) s (fun t => t.acq.run = some (x.p 0, p) ∧ t.acq.handle = some h.val ∧ t.fld Reg.PRB_PLAN_ID = x.p 0 % 2 ^ 32 ∧
        t.fld Reg.PRB_FRAME = p.frameTicks % 2 ^ 18 ∧ t.fld Reg.PRB_DAC_TEST = 0 ∧ t.fld Reg.PRB_STATE_STATE = prbStarting ∧ (s.pw.standalone = false → t.mem = s.mem))) ∧
    (∀ st det r0, s.startBad (x.p 0) (bit (x.p 1) 0) = some (st, det, r0) → Ends (.acqStart h) s h.val st det r0 0 (fun u => u = s))) ∧
  (∀ (s : State) (h : Fin 256) (x : Handle) (r : Nat × Plan), s.cmd? h.val 0x12 = some x → s.acq.run = some r → s.acq.ending = none →
    Ends (.acqStart h) s h.val stBusy 0x12 0 0 (fun u => u = s)) ∧
  (∀ (s : State) (h : Fin 256) (x y : Handle), s.cmd? h.val 0x13 = some x → s.named (x.p 0) = some y → y.op = 0x12 → y.done = false → s.acq.queued = none →
    s.acq.handle = some y.idx → s.acq.run.isSome = true → s.acq.ending = none → s.acq.sw = none →
    Answers (.acqStop h) s (fun t => t.acq.ending = some ⟨stAborted, 1, [h.val], s.tick⟩ ∧ t.fld Reg.PRB_STATE_STATE = prbStopping ∧
      t.acq.run = s.acq.run ∧ (s.pw.standalone = false → t.mem = s.mem))) ∧
  (∀ (s : State) (h : Fin 256) (x : Handle), s.cmd? h.val 0x13 = some x → s.named (x.p 0) = none → Ends (.acqStop h) s h.val stStale 0 0 0 (fun u => u = s)) ∧
  (∀ (s : State) (h : Fin 256) (x : Handle) (p : Plan), s.cmd? h.val 0x14 = some x → s.acq.run.isSome = true → s.acq.ending = none →
    s.runsPlan (x.p 0) = false → s.acq.sw = none → s.plan? (x.p 0) = some p → s.refBad p = none → s.rangeBad p = false → s.fld Reg.PRB_STATE_STATE ≠ prbStarting →
    Answers (.planSwitch h) s (fun t => t.acq.sw = some ⟨h.val, x.p 0, p, false⟩ ∧ t.fld Reg.PRB_STATE_STATE = prbSwitching ∧ t.acq.run = s.acq.run ∧
      (s.pw.standalone = false → t.mem = s.mem))) ∧
  (∀ (s : State) (h : Fin 256) (x : Handle), s.cmd? h.val 0x14 = some x →
    (s.acq.run = none → Ends (.planSwitch h) s h.val stNotReady 6 0 0 (fun u => u = s)) ∧
    (s.acq.ending = none → s.runsPlan (x.p 0) = true → Ends (.planSwitch h) s h.val stOk 0 (x.p 0) 0 (fun u => u = s)))

/-- R121, R129 to R134: frames, firings, the switch, the drain and the bias loops. Frame 0 loads PRB_FRAME0 and zeroes GLB_FRAME; a firing sends the tone of the next slot and is counted; a switch runs one dark frame and then the new plan; the drained stop completes the acquisition handle with its frame count. A bias measurement drives the pattern of its position, its dither on MB0 or MB1 in positions 0 to 3, advances the cycle of eight and ends STARVED; a correction moves each output by at most DITHER, whatever the error (a free value, log entry 21), and none under HOLD; starvation sets STARVED alone. -/
def Obligations.FramesAndBias : Prop :=
  (∀ (s : State) (id : Nat) (p : Plan), s.acq.run = some (id, p) → s.fld Reg.PRB_STATE_STATE = prbStarting → s.acq.sw = none → s.ph.stepPend = 0 → s.now < 2 ^ 64 →
    Answers .frameStart s (fun t => t.fld64 Reg.PRB_FRAME0_LO Reg.PRB_FRAME0_HI = s.now ∧ t.fld64 Reg.GLB_FRAME_LO Reg.GLB_FRAME_HI = 0 ∧
      t.fld Reg.PRB_STATE_STATE = prbRun ∧ t.acq.inFrame = true ∧ t.acq.frameTick = s.tick ∧ t.acq.fired = 0 ∧ t.pulses = s.pulses ++ [0xE2] ∧
      (s.pw.standalone = false → t.mem = s.mem))) ∧
  (∀ (s : State) (id : Nat) (p : Plan), s.acq.run = some (id, p) → s.fld Reg.PRB_STATE_STATE = prbRun → s.frameFull p = true → s.acq.ending = none →
    s.acq.sw = none → s.ph.stepPend = 0 → s.fld64 Reg.GLB_FRAME_LO Reg.GLB_FRAME_HI + 1 < 2 ^ 64 →
    Answers .frameStart s (fun t => t.fld64 Reg.GLB_FRAME_LO Reg.GLB_FRAME_HI = s.fld64 Reg.GLB_FRAME_LO Reg.GLB_FRAME_HI + 1 ∧
      t.acq.frames = s.acq.frames + 1 ∧ t.acq.frameTick = s.tick ∧ t.acq.inFrame = true ∧ t.pulses = s.pulses ++ [0xE2] ∧ t.mem = s.mem)) ∧
  (∀ (s : State) (id k : Nat) (p : Plan) (u : Tone), s.acq.run = some (id, p) → p.toneAt (s.acq.fired % p.n) = some k → p.tones[k]? = some u →
    s.firingDue p = true → s.latchedCode 0x10 = none → s.fld64 Reg.PRB_FIRE_LO Reg.PRB_FIRE_HI + 1 < 2 ^ 64 →
    Answers .toneFiring s (fun t => t.acq.fired = s.acq.fired + 1 ∧ t.acq.dac = u.dac ∧ t.acq.stamps = s.acq.stamps ++ [s.now + 5 * p.lead] ∧
      t.fld64 Reg.PRB_FIRE_LO Reg.PRB_FIRE_HI = s.fld64 Reg.PRB_FIRE_LO Reg.PRB_FIRE_HI + 1 ∧
      t.src.gates[0].start = s.tick ∧ t.src.gates[0].stop = s.tick + (p.lead + u.chirpTicks + p.lag) ∧ t.mem = s.mem)) ∧
  (∀ (s : State) (id : Nat) (p : Plan) (w : PendSwitch), s.acq.run = some (id, p) → s.acq.sw = some w → w.dark = false → s.acq.ending = none → s.frameFull p = true →
    Answers .planSwitchApply s (fun t => t.acq.sw = some { w with dark := true } ∧ t.fld Reg.PRB_STATE_DARK = 1 ∧ t.acq.inFrame = false ∧ t.acq.frameTick = s.tick ∧
      t.acq.frames = s.acq.frames + 1 ∧ t.mem = s.mem)) ∧
  (∀ (s : State) (id : Nat) (p : Plan) (w : PendSwitch), s.acq.run = some (id, p) → s.acq.sw = some w → w.dark = true → s.acq.ending = none →
    p.frameTicks ≤ s.frameAge → s.acq.stamps = [] → s.red.streams = [] → s.dts.run = none → s.ph.resetHandles = [] →
    Answers .planSwitchApply s (fun t => t.acq.run = some (w.id, w.plan) ∧ t.acq.sw = none ∧ t.fld Reg.PRB_STATE_DARK = 0 ∧ t.fld Reg.PRB_STATE_STATE = prbRun ∧
      t.fld Reg.PRB_PLAN_ID = w.id % 2 ^ 32 ∧ t.acq.fired = 0 ∧ t.acq.inFrame = true ∧ t.acq.frameTick = s.tick ∧ t.ended w.handle)) ∧
  (∀ (s : State) (r : Nat × Plan) (e : AcqEnd) (i n : Nat), s.acq.run = some r → s.acq.ending = some e → e.stoppers = [n] → s.acq.handle = some i →
    s.acq.silent = false → s.acq.inFrame = false → s.acq.queued = none →
    s.acq.stamps = [] →
    exec .acqStopDrained s = .next ((((((s.dependantsEnd e).acqIdle.glRefresh).dtsRefit).complete i e.status e.detail (s.acq.frames % 2 ^ 32)
        (s.acq.frames / 2 ^ 32)).completeStop n (s.acq.frames % 2 ^ 32) 0)) ∧
      Answers .acqStopDrained s (fun t => t.acq.run = none ∧ t.acq.ending = none ∧ t.fld Reg.PRB_STATE_STATE = prbIdle ∧ t.fld Reg.PRB_PLAN_ID = 0 ∧
        t.fld Reg.SLM_GL_CTL_RUN = 0 ∧ t.ended i ∧ t.ended n)) ∧
  (∀ s : State, s.fieldUp = true → s.on Reg.PRB_DAC_TEST = false → s.gateOpen 0 = false → s.dacVisited = false → s.mbDue = true → Answers .mbMeasurement s (fun t => t.acq.mbPos = (s.acq.mbPos + 1) % 8 ∧
    t.acq.dac = s.mbPattern s.acq.mbPos ∧ t.acq.mbLast = some (s.tick, s.acq.mbPos) ∧
    (∀ i < 3, t.mbPin i = s.fld Reg.PRB_MB_OUT i + (if s.acq.mbPos < 4 ∧ s.acq.mbPos / 2 = i then (if s.acq.mbPos % 2 = 0 then (s.mbDither : Int) else -s.mbDither) else 0)) ∧
    t.fld Reg.PRB_MB_STATUS_STARVED = 0 ∧ SameRegs [Reg.PRB_MB_STATUS_STARVED.key 0] s t ∧ t.mem = s.mem)) ∧
  (∀ s : State, 64 ≤ s.acq.mbCycles → s.on Reg.PRB_MB_STATUS_STARVED = false → s.dacVisited = false → s.on Reg.PRB_DAC_TEST = false →
    Answers .mbCorrection s (fun t => t.acq.mbCycles = 0 ∧ t.mem = s.mem ∧
    (∀ i : Fin 3, ((t.fld Reg.PRB_MB_OUT i : Int) - s.fld Reg.PRB_MB_OUT i).natAbs ≤ s.mbDither) ∧
    (s.on Reg.PRB_MB_CTL_HOLD = true → ∀ i : Fin 3, t.fld Reg.PRB_MB_OUT i = s.fld Reg.PRB_MB_OUT i))) ∧
  (∀ s : State, s.fieldUp = true → Answers .mbStarved s (fun t => t.fld Reg.PRB_MB_STATUS_STARVED = 1 ∧ OnlyRegs [Reg.PRB_MB_STATUS_STARVED.key 0] s t))

/-! ### Chapter 06 -/

/-- R138, R140, R144, R147, R156, R178, R179: the DC block, the band powers and the zones. A preset of v loads A with v·20·2^K and D = v; a change of K rescales A and leaves D. The band-power registers take the mean of I² + Q² over the samples of a frame, or 65,536 while acquisition is stopped, and the sums start again; BANK_PWR_UPDATE takes the ticks of codes given, one after another; no component of a coarse sample leaves ±32,767. The end of a whole energy interval gives the bands of every cell, and the level of each zone follows its energy and its two thresholds; a zone that is off, has no cells or passes the last cell reports 0 and stays low. -/
def Obligations.LanesAndZones : Prop :=
  (∀ (s : State) (ini : Initiator) (l : Fin 4) (v : Word), s.answers (0x30008 + 0x20 * l.val) = true → s.crossing (0x30008 + 0x20 * l.val) = false → v.toNat < 2 ^ 11 →
    Answers (.dcbPresetWrite ini l v) s (fun t => t.rx.dcbA[l] = sx 11 v.toNat * 20 * 2 ^ dcbK (s.fld Reg.RCV_DCB_CTL_K l) ∧
      t.fldS Reg.RCV_DCB_EST l = sx 11 v.toNat ∧ SameRegs [Reg.RCV_DCB_PRESET.key l, Reg.RCV_DCB_EST.key l] s t ∧ t.mem = s.mem)) ∧
  (∀ (s : State) (ini : Initiator) (l : Fin 4) (v : Word), s.answers (0x30004 + 0x20 * l.val) = true → s.crossing (0x30004 + 0x20 * l.val) = false →
    Answers (.dcbKWrite ini l v) s (fun t => t.fld Reg.RCV_DCB_CTL_K l = v.toNat % 32 ∧
      t.rx.dcbA[l] = dcbRescale s.rx.dcbA[l] (dcbK (s.fld Reg.RCV_DCB_CTL_K l)) (dcbK (v.toNat % 32)) ∧
      t.fldS Reg.RCV_DCB_EST l = s.fldS Reg.RCV_DCB_EST l ∧ t.mem = s.mem)) ∧
  (∀ (s : State) (fresh : List RxTick), s.runs 1 = true → Answers (.bankPwrUpdate fresh) s (fun t => t = s.rxTicks fresh ∧
    t.rx.next = s.rx.next + fresh.length ∧ t.mem = s.mem ∧ t.hq = s.hq)) ∧
  (∀ (s : State) (fresh : List RxTick), s.runs 1 = false → Answers (.bankPwrUpdate fresh) s (fun t => t = s)) ∧
  (∀ (s : State) (m : Int) (x0 x1 y0 y1 : List CSample), s.acq.run = none → 65534 ≤ s.rx.pwrN →
    let u := s.bankTick m x0 x1 y0 y1
    let e := fun (l : List CSample) (j : Nat) => ((l.getD j ⟨0, 0, 0⟩).re * (l.getD j ⟨0, 0, 0⟩).re + (l.getD j ⟨0, 0, 0⟩).im * (l.getD j ⟨0, 0, 0⟩).im).toNat
    u.rx.pwrN = 0 ∧ u.rx.pwrX = Vector.replicate 20 0 ∧
      (∀ j : Fin 20, u.fld Reg.RCV_BANK_PWR_X j = (s.rx.pwrX[j] + e x0 j + e x1 j) / (s.rx.pwrN + 2) / 256 % 2 ^ 32) ∧
      (∀ j : Fin 20, u.fld Reg.RCV_BANK_PWR_Y j = (s.rx.pwrY[j] + e y0 j + e y1 j) / (s.rx.pwrN + 2) / 256 % 2 ^ 32)) ∧
  (∀ (s : State) (m : Int) (x0 x1 y0 y1 : List CSample) (id : Nat) (p : Plan), s.acq.run = some (id, p) → m ≠ 0 → s.rx.pwrN + 2 < 2 * p.frameTicks →
    let u := s.bankTick m x0 x1 y0 y1
    u.rx.pwrN = s.rx.pwrN + 2 ∧ u.regs = s.regs) ∧
  (∀ (x : Int → Int × Int) (j : Nat) (m : Int), (coarseSample x j m).re.natAbs ≤ 32767 ∧ (coarseSample x j m).im.natAbs ≤ 32767) ∧
  (∀ s : State, s.red.cells.length = 2 ^ s.fld Reg.RED_E_CFG_INTERVAL → (∀ k : Fin 4, s.runningSec k = none) →
    Answers .energyInterval s (fun t => t.red.cells = [] ∧ t.red.bands.length = s.fld Reg.RED_E_STATUS ∧ t.red.zones.length = 256 ∧ t.mem = s.mem ∧
      ∀ z : Fin 256, let e := t.red.zones.getD z 0;
        (s.zoneLive z (s.fld Reg.RED_E_STATUS) = true →
          e = zoneEnergy t.red.bands (s.fld Reg.RED_ZONE_CFG_FIRST_CELL z) (s.fld Reg.RED_ZONE_CFG_CELLS z) (s.fld Reg.RED_ZONE_HI_BANDS z) ∧
          (256 * s.fld Reg.RED_ZONE_HI_THR_HI z < e → t.zoneHigh z = true) ∧
          (e ≤ 256 * s.fld Reg.RED_ZONE_HI_THR_HI z → e < 256 * s.fld Reg.RED_ZONE_LO z → t.zoneHigh z = false) ∧
          (e ≤ 256 * s.fld Reg.RED_ZONE_HI_THR_HI z → 256 * s.fld Reg.RED_ZONE_LO z ≤ e → t.zoneHigh z = s.zoneHigh z)) ∧
        (s.zoneLive z (s.fld Reg.RED_E_STATUS) = false → e = 0 ∧ t.zoneHigh z = false)))

/-- R141 to R143: the spare lane. REQ of a lane takes SP from IDLE to SETTLE, and is ignored in another phase, for a lane above 3 or under the background rotation; the settling of 2 µs ends in the compare; a passing compare takes SP to CARRY, one that fails at COMPARE_IN back to IDLE, one that fails at COMPARE_OUT pins it, and one with more than a quarter of its pairs clipped is repeated up to eight times; RELEASE waits for the settling before COMPARE_OUT. -/
def Obligations.SpareLane : Prop :=
  (∀ s : State, s.runs 1 = true → s.spLocked = false → s.spVisited = false → s.fld Reg.RCV_SP_STATUS_PHASE = spIdle → s.fld Reg.RCV_SP_CTL_LANE < 4 →
    Answers .spReq s (fun t => t.fld Reg.RCV_SP_STATUS_PHASE = spSettle ∧ t.fld Reg.RCV_SP_STATUS_LANE = s.fld Reg.RCV_SP_CTL_LANE ∧
      SameRegs [Reg.RCV_SP_STATUS_PHASE.key 0, Reg.RCV_SP_STATUS_LANE.key 0] s t ∧ t.mem = s.mem)) ∧
  (∀ s : State, s.spLocked = true ∨ s.fld Reg.RCV_SP_STATUS_PHASE ≠ spIdle ∨ 4 ≤ s.fld Reg.RCV_SP_CTL_LANE → Answers .spReq s (fun t => t = s)) ∧
  (∀ s : State, s.fld Reg.RCV_SP_STATUS_PHASE = spSettle → s.timerDue .settle (ticksUs 2) = true → Answers .spSettleEnd s (fun t =>
    t.fld Reg.RCV_SP_STATUS_PHASE = spCompareIn ∧ t = { s with regs := t.regs, timers := t.timers } ∧ SameRegs [Reg.RCV_SP_STATUS_PHASE.key 0] s t)) ∧
  (∀ s : State, s.fld Reg.RCV_SP_STATUS_PHASE = spCarry → s.spLocked = false → s.rx.releasing = false →
    Answers .spRelease s (fun t => t.rx.releasing = true ∧ t.regs = s.regs ∧ t.mem = s.mem ∧
      Answers .spSettleEnd t (fun u => u = t) ∧
      Answers .spSettleEnd { t with tick := t.tick + ticksUs 2 } (fun u => u.fld Reg.RCV_SP_STATUS_PHASE = spCompareOut ∧ u.rx.releasing = false))) ∧
  (∀ (s : State) (pairs : List (Int × Int)), s.timerDue .compare compareTicks = true → s.fld Reg.RCV_SP_STATUS_PHASE = spCompareIn →
    s.fld Reg.RCV_SP_STATUS_LANE < 4 → 4 * (pairs.length - (spSums pairs).2) ≤ pairs.length →
    (spSums pairs).1 ≤ s.spMatch * s.spMatch * (spSums pairs).2 →
    let u := (s.setF Reg.RCV_SP_STATUS_RMS (satN 16 (isqrt ((spSums pairs).1 * 65536 / max 1 (spSums pairs).2)))).spPass spCompareIn
    exec (.spCompareEnd pairs) s = .next u.calCompared ∧ u.fld Reg.RCV_SP_STATUS_PHASE = spCarry ∧
      u.fld Reg.RCV_LANE_STATUS_ON_SP (s.fld Reg.RCV_SP_STATUS_LANE) = 1 ∧ u.mem = s.mem) ∧
  (∀ (s : State) (pairs : List (Int × Int)), s.timerDue .compare compareTicks = true → s.fld Reg.RCV_SP_STATUS_PHASE = spCompareIn →
    s.fld Reg.RCV_SP_STATUS_LANE < 4 → 4 * (pairs.length - (spSums pairs).2) ≤ pairs.length →
    s.spMatch * s.spMatch * (spSums pairs).2 < (spSums pairs).1 →
    let rms := satN 16 (isqrt ((spSums pairs).1 * 65536 / max 1 (spSums pairs).2))
    let u := (s.setF Reg.RCV_SP_STATUS_RMS rms).spFail spCompareIn rms
    exec (.spCompareEnd pairs) s = .next u.calCompared ∧ u.fld Reg.RCV_SP_STATUS_PHASE = spIdle ∧ u.fld Reg.RCV_SP_STATUS_MISMATCH = 1 ∧
      u.fld Reg.RCV_SP_STATUS_LANE = 7) ∧
  (∀ (s : State) (pairs : List (Int × Int)), s.timerDue .compare compareTicks = true → s.fld Reg.RCV_SP_STATUS_PHASE = spCompareOut →
    4 * (pairs.length - (spSums pairs).2) ≤ pairs.length → s.spMatch * s.spMatch * (spSums pairs).2 < (spSums pairs).1 →
    let rms := satN 16 (isqrt ((spSums pairs).1 * 65536 / max 1 (spSums pairs).2))
    let u := (s.setF Reg.RCV_SP_STATUS_RMS rms).spFail spCompareOut rms
    exec (.spCompareEnd pairs) s = .next u.calCompared ∧ u.fld Reg.RCV_SP_STATUS_PHASE = spCarry ∧ u.fld Reg.RCV_SP_CTL_PIN = 1 ∧
      u.fld Reg.RCV_SP_STATUS_MISMATCH = 1) ∧
  (∀ (s : State) (pairs : List (Int × Int)), s.timerDue .compare compareTicks = true → s.fld Reg.RCV_SP_STATUS_PHASE = spCompareIn →
    pairs.length < 4 * (pairs.length - (spSums pairs).2) → s.rx.compares < 8 →
    Answers (.spCompareEnd pairs) s (fun t => t.rx.compares = s.rx.compares + 1 ∧ t.fld Reg.RCV_SP_STATUS_PHASE = spCompareIn ∧
      SameRegs [Reg.RCV_SP_STATUS_RMS.key 0] s t ∧ t.mem = s.mem))

/-- R167, R169 to R173: firings processed and alignment steps. A firing that is due is processed in order and nothing but the acoustic blocks moves; a re-lock edge and an ALIGN_RESET ask for a step of an aligned plan at the next frame start, and a firing of a plan without alignment leaves its cells' offsets alone. An alignment step zeroes every offset, the traverse count and the age and loads the LFSR with 0xACE1; a cell takes its first observation at j = 1, the running mean up to j = 8, and is held under FREEZE from j = 9; the LFSR never leaves its 16 bits or reaches 0. -/
def Obligations.AlignmentAndSteps : Prop :=
  (∀ (s : State) (id k : Nat) (p : Plan) (u : Tone), s.runs 1 = true → s.energyWhole = false → s.firingReady p s.ph.nextN = true → s.acq.run = some (id, p) → s.ph.nextN < s.acq.fired → s.ph.stepAt = [] →
    p.toneAt (s.ph.nextN % p.n) = some k → p.tones[k]? = some u →
    Answers (.firingProcessed []) s (fun t => t.ph.nextN = s.ph.nextN + 1 ∧ t.acq.stamps = s.acq.stamps.drop 1 ∧
      ((∀ st ∈ s.red.streams, st.epsInMem = false) → t.mem = s.mem) ∧ t.hq = s.hq ∧ t.tb = s.tb ∧
      t.irqOut = s.irqOut ∧ t.red.streams.length = s.red.streams.length)) ∧
  (∀ (s : State) (id : Nat) (p : Plan), s.acq.run = some (id, p) → p.align = true → s.on Reg.CMP_ALIGN_CTL_RELOCK_EN = true →
    Answers .relockEdge s (fun t => t.ph.stepPend = max s.ph.stepPend 3 ∧ t = { s with ph := t.ph })) ∧
  (∀ (s : State) (h : Fin 256) (x : Handle), s.cmd? h.val 0x15 = some x →
    (s.acq.run = none → Ends (.alignReset h) s h.val stNotReady 6 0 0 (fun u => u = s)) ∧
    (∀ (id : Nat) (p : Plan), s.acq.run = some (id, p) → p.align = false → Ends (.alignReset h) s h.val stOk 0 0 0 (fun u => u = s)) ∧
    (∀ (id : Nat) (p : Plan), s.acq.run = some (id, p) → p.align = true →
      Answers (.alignReset h) s (fun t => t.ph.stepPend = max s.ph.stepPend 4 ∧ t.ph.resetHandles = s.ph.resetHandles ++ [h.val] ∧ t.acq = s.acq ∧ (s.pw.standalone = false → t.mem = s.mem)))) ∧
  (∀ (s : State) (c : Nat), c < 8 → let t := s.applyStep c
    t.fld Reg.CMP_LFSR = 0xACE1 ∧ t.fld Reg.CMP_ALIGN_TRAV = 0 ∧ t.fld Reg.CMP_ALIGN_AGE = 0 ∧ t.fld Reg.CMP_ALIGN_STATUS_STATE = alNone ∧
    t.fld Reg.CMP_ALIGN_STATUS_LAST_STEP = c ∧ t.fld Reg.CMP_STEP_COUNT = (s.fld Reg.CMP_STEP_COUNT + 1) % 2 ^ 32 ∧
    ∀ cs ∈ t.ph.cells, ∀ a ∈ cs, a = 0) ∧
  (∀ (a m lf : Nat) (x : Int) (fr : Bool), cellUpdate a 1 m x fr lf = (code 16 x, lf)) ∧
  (∀ (a j m lf : Nat) (x : Int) (fr : Bool), 1 < j → j ≤ 8 → cellUpdate a j m x fr lf = (code 16 (a + divRne (wrap16 (x - a)) j), lf)) ∧
  (∀ (a j m lf : Nat) (x : Int), 8 < j → cellUpdate a j m x true lf = (a, lf)) ∧
  (∀ (a j m lf : Nat) (x : Int), 8 < j → a < 65536 → (cellUpdate a j m x false lf).2 = lfsrNext lf ∧ (cellUpdate a j m x false lf).1 < 65536) ∧
  (∀ lf : Nat, 0 < lf → lf < 65536 → 0 < lfsrNext lf ∧ lfsrNext lf < 65536)

/-- R180, R267: the commands of streams. STREAM_OPEN without acquisition is NOT_READY 6; one that passes the checks opens its ring; STREAM_FIRN writes the control record of its slot; STREAM_CLOSE of an empty stream ends both handles with the blocks delivered and discarded. -/
def Obligations.StreamCommands : Prop :=
  (∀ (s : State) (h : Fin 256) (x : Handle), s.cmd? h.val 0x20 = some x → s.ringClosing (x.p 0) = false → s.acq.run = none →
    Ends (.streamOpen h) s h.val stNotReady 6 0 0 (fun u => u = s)) ∧
  (∀ (s : State) (h : Fin 256) (x : Handle) (id : Nat) (p : Plan) (r : Fin 8), s.cmd? h.val 0x20 = some x → x.p 0 = r.val → s.ringClosing r = false →
    s.acq.run = some (id, p) → s.on Reg.SR_CFG_EN r = true → s.on Reg.SR_STATUS_OPEN r = false → s.reqBad p (x.streamReq 1) 28 = none →
    (s.sr r).bufs.any (fun b => decide (b.len < (x.streamReq 1).maxBlock)) = false → s.gctxMissing (x.streamReq 1) = false →
    Answers (.streamOpen h) s (fun t => t.fld Reg.SR_STATUS_OPEN r = 1 ∧ t.red.streams = s.red.streams ++ [(x.streamReq 1).stream x.word h.val (.ring r)] ∧
      (t.sr r).streamId = x.word ∧ (t.sr r).maxBlock = (x.streamReq 1).maxBlock ∧
      (s.pw.standalone = false → ((x.streamReq 1).stream x.word h.val (.ring r)).epsInMem = false → t.mem = s.mem))) ∧
  (∀ (s : State) (h : Fin 256) (x : Handle) (id f : Nat) (p : Plan), s.cmd? h.val 0x22 = some x → s.acq.run = some (id, p) →
    x.p 0 % 64 = 0 → x.p 0 < 0x7FFF00 → x.p 1 % 64 = 0 → x.p 0 + x.p 1 ≤ 0x7FFF00 → s.reqBad p (x.streamReq 2) 32 = none → s.firnSlot = some f →
    (x.streamReq 2).maxBlock ≤ x.p 1 → s.gctxMissing (x.streamReq 2) = false → s.mem.firn.wf = true →
    Answers (.streamFirn h) s (fun t => t.mem.firn.readN (firnRec f) 64 = firnRecord x.word (x.p 0) (x.p 1) ∧
      t.red.streams = s.red.streams ++ [(x.streamReq 2).stream x.word h.val (.firn (Fin.ofNat 4 f))] ∧
      (s.pw.standalone = false → (∀ a, a < firnRec f ∨ firnRec f + 64 ≤ a → t.mem.firn.read a = s.mem.firn.read a) ∧
        (((x.streamReq 2).stream x.word h.val (.firn (Fin.ofNat 4 f))).epsInMem = false → t.mem = { s.mem with firn := t.mem.firn })))) ∧
  (∀ (s : State) (h : Fin 256) (x y : Handle) (st : Stream) (r : Fin 8), s.cmd? h.val 0x21 = some x → s.named (x.p 0) = some y → y.op = 0x20 → y.done = false → s.red.waiting = [] →
    s.red.streams = [st] → st.handle = some y.idx → st.closing = none → st.dest = .ring r → st.ready = [] → st.open_ = none →
    (s.sr r).cur = none → (s.sr r).ret = none →
    let u := ({ s.takeUp h.val with red := { s.red with streams := [] } }.setF Reg.SR_STATUS_OPEN 0 r).updSr r (fun z => { z with streamId := 0, maxBlock := 0 })
    exec (.streamClose h) s = .next ((u.complete y.idx stOk 0 st.delivered st.discarded).completeStop h.val st.delivered st.discarded) ∧
      Answers (.streamClose h) s (fun t => t.red.streams = [] ∧ t.fld Reg.SR_STATUS_OPEN r = 0 ∧ t.ended y.idx ∧ t.ended h.val ∧ (s.pw.standalone = false → t.mem = s.mem))) ∧
  (∀ (s : State) (h : Fin 256) (x : Handle), s.cmd? h.val 0x21 = some x → s.named (x.p 0) = none → Ends (.streamClose h) s h.val stStale 0 0 0 (fun u => u = s))

/-- R21, R101 to R104, R181, R497: the oldest complete block of a stream goes into the buffer of its ring, which counts it; a ring that is off drops and counts it; a buffer held open too long is returned PARTIAL; a return that waited is written when the fill ring has room. -/
def Obligations.StreamDelivery : Prop :=
  (∀ (s : State) (id : BitVec 16) (st : Stream) (b : SBlock) (bs : List SBlock) (r : Fin 8), id ≠ 0 → s.stream? id.toNat = some st → st.ready = b :: bs →
    st.owesGroom b = false → st.dest = .ring r →
    (∀ c : CurBuf, s.on Reg.SR_CFG_EN r = true → s.engineOn r 4 = true → s.pw.standalone = false → s.linkOk = true → (s.sr r).ret = none →
      s.on Reg.SR_STATUS_BUF_ERR r = false → (s.sr r).cur = some c → c.bytes + (b.bytes st.ovf).length ≤ c.buf.len →
      Answers (.streamBlockComplete id) s (fun t => t.hostOut = s.hostOut ++ [⟨c.buf.addr + c.bytes, b.bytes st.ovf, s.on Reg.HQE_CTL_RO_STREAM && s.hostRo⟩] ∧
        (t.sr r).cur = some { c with bytes := c.bytes + (b.bytes st.ovf).length, blocks := c.blocks + 1 } ∧
        t.stream? id.toNat = some { st with ready := bs, ovf := false, delivered := st.delivered + 1 } ∧ t.regs = s.regs ∧ t.mem = s.mem)) ∧
    (s.on Reg.SR_CFG_EN r = false →
      Answers (.streamBlockComplete id) s (fun t => t.hostOut = s.hostOut ∧ t.fld Reg.SR_DROP r = (s.fld Reg.SR_DROP r + 1) % 2 ^ 32 ∧
        t.stream? id.toNat = some { st with ready := bs, ovf := true, discarded := st.discarded + 1 } ∧ (t.sr r).drop = true ∧
        SameRegs [Reg.SR_DROP.key r] s t ∧ t.mem = s.mem))) ∧
  (∀ (s : State) (id : BitVec 16) (st : Stream), s.stream? id.toNat = some st → s.timerDue (.block id.toNat) (ticksMs (max 1 (s.fld Reg.RED_CTL))) = true →
    Answers (.blockCloseTimer id) s (fun t => t.stream? id.toNat = some st.closeBlock ∧ t = { s with red := t.red })) ∧
  (∀ (s : State) (r : Fin 8) (c : CurBuf), (s.sr r).cur = some c → c.bytes ≠ 0 → (s.sr r).bufs = [] → s.fillOpen r = true → s.linkOk = true → s.pw.standalone = false →
    s.timerDue (.flush r) (ticksUs (max 10 (s.fld Reg.SR_FLUSH r))) = true →
    Answers (.srFlushTimer r) s (fun t => (t.sr r).cur = none ∧ t.fld Reg.SR_STATUS_FILL_TAIL r = (s.fld Reg.SR_STATUS_FILL_TAIL r + 1) % s.srSize r ∧
      (let at_ := s.ringBase (Reg.SR_FILL_BASE_LO.addr r) + 16 * s.fld Reg.SR_STATUS_FILL_TAIL r;
        t.hostOut = s.hostOut ++ [⟨at_, leBytes 4 c.buf.cookie ++ leBytes 4 c.bytes ++ leBytes 2 c.blocks ++ leBytes 1 stPartial ++ leBytes 1 (b2n (s.sr r).drop), false⟩,
          ⟨at_ + 12, leBytes 2 (s.sr r).streamId ++ leBytes 1 0 ++ leBytes 1 ((s.sr r).phase * 128), false⟩]) ∧
      t.mem = s.mem)) ∧
  (∀ (s : State) (r : Fin 8) (f : FillRet), (s.sr r).ret = some f → s.fillOpen r = true → s.linkOk = true → s.pw.standalone = false →
    s.red.streams = [] → (s.sr r).bufs = [] →
    Answers (.pendingReturnWrite r) s (fun t => (t.sr r).ret = none ∧ t.fld Reg.SR_STATUS_FILL_TAIL r = (s.fld Reg.SR_STATUS_FILL_TAIL r + 1) % s.srSize r ∧
      t.hostOut.length = s.hostOut.length + 2 ∧ t.mem = s.mem))

/-! ### Chapter 08 -/

/-- R191, R194, R201, R202: the commands of the Raman path. A good record is kept, a bad one named by its offset, BUSY while an average runs; DTS_START begins an empty average, refuses one that does not fit, and an unconfigured path; DTS_STOP ends the running handle with ABORTED 1; DTS_READ copies a complete slot. -/
def Obligations.RamanCommands : Prop :=
  (∀ (s : State) (h : Fin 256) (d : CmdData) (bs : List Byte) (x : Handle), s.cmd? h.val 0x50 = some x → s.dts.run = none → s.dataOf x d = some (64, bs) →
    (dtsBad bs = none → Ends (.dtsConfig h d) s h.val stOk 0 0 0 (fun u => u =
      ((({ s.dataRead x d with dts := { s.dts with cfg := some (parseDts bs), doneA := false, doneB := false, newest := none } } : State).setF
        Reg.DTS_STATUS_STATE dtsIdle).setF Reg.DTS_STATUS_SLOT 0).setF Reg.DTS_STATUS_REF_BAD 0)) ∧
    (∀ o, dtsBad bs = some o → Ends (.dtsConfig h d) s h.val stInvalid 0xFF o 0 (fun u => u = s.dataRead x d))) ∧
  (∀ (s : State) (h : Fin 256) (d : CmdData) (bs : List Byte) (n : Nat) (x : Handle), s.cmd? h.val 0x50 = some x → s.dts.run = none →
    s.dataOf x d = some (n, bs) → n ≠ 64 → Ends (.dtsConfig h d) s h.val stInvalid 16 0 0 (fun u => u = s.dataRead x d)) ∧
  (∀ (s : State) (h : Fin 256) (d : CmdData) (x : Handle) (r : DtsRun), s.cmd? h.val 0x50 = some x → s.dts.run = some r →
    Ends (.dtsConfig h d) s h.val stBusy 0x51 0 0 (fun u => u = s)) ∧
  (∀ (s : State) (h : Fin 256) (x : Handle), s.cmd? h.val 0x51 = some x → 10 ≤ x.p 0 → x.p 0 ≤ 22 → s.dts.run = none →
    (s.dts.cfg = none → Ends (.dtsStart h) s h.val stNotReady 6 0 0 (fun u => u = s)) ∧
    (∀ c, s.dts.cfg = some c → s.latchedCode 0x20 = none → s.on Reg.PWR_STATUS_REF_LOCK = true →
      (s.dtsFits c = false → Ends (.dtsStart h) s h.val stInvalid 0xFE 0 0 (fun u => u = s)) ∧
      (s.dtsFits c = true → Answers (.dtsStart h) s (fun t => t.dts.run = some ⟨some h.val, x.p 0, bit (x.p 1) 0⟩ ∧ t.dts.done = 0 ∧ t.dts.shots = 0 ∧
        t.dts.accRa = [] ∧ t.dts.accRst = [] ∧ t.fld Reg.DTS_STATUS_STATE = dtsAveraging ∧ t.fld Reg.DTS_SHOTS = 0 ∧
        (s.pw.standalone = false → t.mem = s.mem))))) ∧
  (∀ (s : State) (h : Fin 256) (x : Handle), s.cmd? h.val 0x52 = some x →
    (s.dts.run = none → Ends (.dtsStop h) s h.val stOk 0 0 0 (fun u => u = s)) ∧
    (∀ (r : DtsRun) (i : Nat), s.dts.run = some r → r.handle = some i → s.dts.waiting = [] →
      let v := { s.complete h.val stOk 0 0 0 with dts := { s.dts.cleared with run := none, dir := false, skipLeft := 0 } }.gateShut 1
      let u := ((v.setF Reg.DTS_STATUS_STATE dtsIdle).setF Reg.DTS_STATUS_REVERSE 0).setF Reg.DTS_SHOTS 0
      exec (.dtsStop h) s = .next (u.complete i stAborted 1 s.dts.done 0))) ∧
  (∀ (s : State) (h : Fin 256) (d : CmdData) (x : Handle), s.cmd? h.val 0x53 = some x →
    (x.p 0 = 0 → s.dts.newest = none → Ends (.dtsRead h d) s h.val stNotReady 6 0 0 (fun u => u = s)) ∧
    (∀ c : DtsCfg, s.dts.cfg = some c → x.p 0 = 1 → s.dts.doneA = true → s.fld Reg.DTS_STATUS_STATE ≠ dtsClosing →
      c.slotBytes ≤ segsLen (s.buffer x d).1.1 →
      Ends (.dtsRead h d) s h.val stOk 0 c.slotBytes 0 (fun u =>
        u = (s.buffer x d).2.putSegs x.engine (s.buffer x d).1.1 (s.mem.firn.readN c.resultOfs c.slotBytes))))

/-- R190 to R193, R198, R201, R202: the events of an average. A shot opens GATE_T for PULSE ticks and is accumulated; one whose dark window begins inside the previous window is given up and counted; a dual-ended leg ends with GPIO_DIR high and SKIP discards; the close marks the slot as being written, and its end counts the average, pulses DTS_DONE and ends a single average.  Each comes at its own time only. -/
def Obligations.RamanAverages : Prop :=
  (∀ (s : State) (k : RamanCodes) (r : DtsRun) (c : DtsCfg), s.dts.run = some r → s.dts.cfg = some c → s.shotDue r c = true → s.dts.windowEnd = none →
    s.dts.closeEnd = none → s.fld Reg.DTS_STATUS_STATE = dtsAveraging → s.dts.shots < 2 ^ r.l → s.dts.reverse = false → s.dts.shots + 1 < 2 ^ 23 →
    Answers (.ramanShot k) s (fun t => t.dts.shots = s.dts.shots + 1 ∧ t.fld Reg.DTS_SHOTS = s.dts.shots + 1 ∧
      t.dts.accRa = addPoints (2 ^ c.bin) c.points s.dts.accRa ((k.ra.take c.window).map (·.toNat)) ∧
      t.dts.accRst = addPoints (2 ^ c.bin) c.points s.dts.accRst ((k.rst.take c.window).map (·.toNat)) ∧
      t.dts.darkRa = s.dts.darkRa + ((k.darkRa.take c.darkN).map (·.toNat)).sum ∧ t.dts.last = s.now ∧ t.dts.shotAt = some s.tick ∧
      t.dts.windowEnd = some (s.tick + c.winOfs + c.window) ∧ t.src.gates[1].start = s.tick ∧ t.src.gates[1].stop = s.tick + c.pulse ∧ t.mem = s.mem)) ∧
  (∀ (s : State) (k : RamanCodes) (r : DtsRun) (c : DtsCfg) (e : Nat), s.dts.run = some r → s.dts.cfg = some c → s.shotDue r c = true →
    s.dts.windowEnd = some e → s.tick < e + c.darkN →
    Answers (.ramanShot k) s (fun t => t.fld Reg.DTS_SKIP = (s.fld Reg.DTS_SKIP + 1) % 2 ^ 32 ∧
      t.dts = { s.dts with skips := s.dts.skips + 1, shotAt := some s.tick } ∧ t.src = s.src ∧ SameRegs [Reg.DTS_SKIP.key 0] s t ∧ t.mem = s.mem)) ∧
  (∀ (s : State) (r : DtsRun) (c : DtsCfg), s.dts.run = some r → s.dts.cfg = some c → c.dual = true → s.legOver r = true → s.dts.reverse = false →
    Answers .dtsLegEnd s (fun t => t.dts = { s.dts with dir := true, reverse := true, shots := 0, skipLeft := c.skip } ∧
      t.fld Reg.DTS_STATUS_STATE = dtsSkipping ∧ t.fld Reg.DTS_STATUS_REVERSE = 1 ∧ t.fld Reg.DTS_SHOTS = 0 ∧ t.mem = s.mem)) ∧
  (∀ (s : State) (r : DtsRun) (c : DtsCfg), s.dts.run = some r → s.dts.cfg = some c → c.dual = false → s.legOver r = true → s.mem.firn.wf = true →
    Answers .dtsCloseStart s (fun t => t.fld Reg.DTS_STATUS_STATE = dtsClosing ∧ t.dts.closeFrom = s.tick ∧
      t.mem.firn.readLe (c.slotOfs (s.fld Reg.DTS_STATUS_SLOT) + 4) 4 = 0xFFFFFFFF ∧ t.mem = { s.mem with firn := t.mem.firn } ∧
      (∀ a, a < c.slotOfs (s.fld Reg.DTS_STATUS_SLOT) + 4 ∨ c.slotOfs (s.fld Reg.DTS_STATUS_SLOT) + 8 ≤ a → t.mem.firn.read a = s.mem.firn.read a))) ∧
  (∀ (s : State) (r : DtsRun) (c : DtsCfg) (h : Nat), s.dts.run = some r → s.dts.cfg = some c → r.handle = some h → r.cont = false → s.dts.waiting = [] →
    s.fld Reg.DTS_STATUS_STATE = dtsClosing → s.dts.closeFrom + c.closeTicks ≤ s.tick → s.pw.standalone = false → s.mem.firn.wf = true →
    Answers .dtsCloseEnd s (fun t => t.dts.run = none ∧ t.dts.done = s.dts.done + 1 ∧ t.fld Reg.DTS_SEQ = (s.dts.done + 1) % 2 ^ 32 ∧
      t.fld Reg.DTS_STATUS_STATE = dtsIdle ∧ t.fld Reg.DTS_STATUS_SLOT = (if c.slots = 2 then 1 - s.fld Reg.DTS_STATUS_SLOT else 0) ∧
      t.pulses = s.pulses ++ [0xC0] ∧ t.dts.newest = some (s.fld Reg.DTS_STATUS_SLOT) ∧ t.ended h ∧
      t.mem.firn.readLe (c.slotOfs (s.fld Reg.DTS_STATUS_SLOT)) 4 = 0x52534452 ∧
      t.mem.firn.readLe (c.slotOfs (s.fld Reg.DTS_STATUS_SLOT) + 4) 4 = (s.dts.done + 1) % 2 ^ 32)) ∧
  (∀ (s : State) (r : DtsRun) (c : DtsCfg) (k : RamanCodes), s.dts.run = some r → s.dts.cfg = some c → s.shotDue r c = false →
    Answers (.ramanShot k) s (fun t => t = s))

/-! ### Chapter 09 -/

/-- R209, R210, R214, R223: the commands of the sequencer. A good program is loaded, gates beyond it wait on NEVER, and a bad one is named by its offset; SLM_ARM enters its start gate with counter 0 and the timer at TIMER; SLM_DISARM ends it with the fires; LIFT_CFG sets role and address. -/
def Obligations.SequencerCommands : Prop :=
  (∀ (s : State) (h : Fin 256) (d : CmdData) (n : Nat) (bs : List Byte) (x : Handle), s.cmd? h.val 0x30 = some x → s.on Reg.SLM_STATUS_ARMED = false →
    s.dataOf x d = some (n, bs) →
    (n = 16 + 48 * field bs 6 2 → programBad bs (field bs 6 2) = none →
      Ends (.slmLoad h d) s h.val stOk 0 (field bs 6 2) 0 (fun u => u = (s.dataRead x d).loadProgram bs (field bs 6 2))) ∧
    (∀ o, n = 16 + 48 * field bs 6 2 → programBad bs (field bs 6 2) = some o → Ends (.slmLoad h d) s h.val stInvalid 0xFF o 0 (fun u => u = s.dataRead x d)) ∧
    (n ≠ 16 + 48 * field bs 6 2 → Ends (.slmLoad h d) s h.val stInvalid 16 0 0 (fun u => u = s.dataRead x d))) ∧
  (∀ (s : State) (h : Fin 256) (d : CmdData) (x : Handle), s.cmd? h.val 0x30 = some x → s.on Reg.SLM_STATUS_ARMED = true →
    Ends (.slmLoad h d) s h.val stBusy 0x31 0 0 (fun u => u = s)) ∧
  (∀ (s : State) (bs : List Byte) (n : Nat), let u := s.loadProgram bs n
    u.slm.loaded = true ∧ u.mem = s.mem ∧ u.hq = s.hq ∧
    (∀ g : Fin 16, g.val < n → u.fld Reg.SLM_GATE_COND g = field bs (16 + 48 * g.val) 4 ∧ u.fld Reg.SLM_GATE_COUNT g = field bs (20 + 48 * g.val) 4 ∧
      u.fld Reg.SLM_GATE_TIMER g = field bs (24 + 48 * g.val) 4 ∧ u.fld Reg.SLM_GATE_NEXT g = field bs (28 + 48 * g.val) 4 ∧
      u.fld Reg.SLM_GATE_ACT g = field bs (32 + 48 * g.val) 4) ∧
    (∀ g : Fin 16, n ≤ g.val → u.fld Reg.SLM_GATE_COND g = 0xE6 ∧ u.fld Reg.SLM_GATE_TIMER g = 0 ∧ u.fld Reg.SLM_GATE_ACT g = 0 ∧
      u.fld Reg.SLM_GATE_NEXT g = 0x1F1F)) ∧
  (∀ (s : State) (h : Fin 256) (x : Handle), s.cmd? h.val 0x31 = some x → x.p 0 < 16 →
    (s.slm.loaded = false → Ends (.slmArm h) s h.val stNotReady 6 0 0 (fun u => u = s)) ∧
    (s.slm.loaded = true → s.on Reg.SLM_STATUS_ARMED = true → Ends (.slmArm h) s h.val stBusy 0x31 0 0 (fun u => u = s)) ∧
    (s.slm.loaded = true → s.on Reg.SLM_STATUS_ARMED = false → x.p 1 % 4 = 0 → s.on Reg.SLM_STATUS_LIFT_STUCK = false →
      Answers (.slmArm h) s (fun t => t.fld Reg.SLM_STATUS_ARMED = 1 ∧ t.fld Reg.SLM_STATUS_GATE = x.p 0 ∧ t.fld Reg.SLM_GATE_CNT (x.p 0) = 0 ∧
        t.fld Reg.SLM_GATE_TMR (x.p 0) = s.fld Reg.SLM_GATE_TIMER (x.p 0) ∧ t.slm.handle = some h.val ∧ t.slm.fires = 0 ∧ t.slm.drops = 0 ∧
        t.slm.entered = true ∧ t.fld Reg.SLM_STATUS_LIFT_ARMED = 0))) ∧
  (∀ (s : State) (st det h : Nat), s.slm.handle = some h → let t := s.disarm st det
    t.fld Reg.SLM_STATUS_ARMED = 0 ∧ t.fld Reg.SLM_STATUS_GATE = 0x1F ∧ t.fld Reg.SLM_STATUS_LIFT_ARMED = 0 ∧ t.slm.handle = none ∧ t.slm.liftOut = false ∧
    t.slm.caps = s.slm.caps ∧ t.ended h ∧
    t.hq = (((s.leaveGate.setF Reg.SLM_STATUS_ARMED 0).setF Reg.SLM_STATUS_GATE 0x1F).complete h st det s.slm.fires s.slm.drops).hq) ∧
  (∀ (s : State) (h : Fin 256) (x : Handle), s.cmd? h.val 0x32 = some x →
    (s.named (x.p 0) = none → Ends (.slmDisarm h) s h.val stStale 0 0 0 (fun u => u = s)) ∧
    (∀ y, s.named (x.p 0) = some y → y.op = 0x31 → y.done = false → s.slm.handle = some y.idx →
      exec (.slmDisarm h) s = .next ((s.disarm stOk 0).complete h.val stOk 0 s.slm.fires 0))) ∧
  (∀ (s : State) (h : Fin 256) (x : Handle), s.cmd? h.val 0x35 = some x → x.p 0 ≤ 2 → x.p 1 ≤ 31 → s.on Reg.SLM_STATUS_ARMED = false →
    Ends (.liftCfg h) s h.val stOk 0 0 0 (fun u => u = (s.setF Reg.SLM_STATUS_ROLE (x.p 0)).setF Reg.SLM_LIFT_CTL_ADDR (x.p 1)))

/-- R207, R208, R212, R213, R223 to R225: the events of the fabric. The match that completes a gate's count performs MARK and COUNT and enters the successor, END disarms with OK; a timeout performs nothing; pins and periodic timers; an edge of LIFT_FIRE is latched, counted and pulsed on a lift-armed unit; LIFT_FIRE held beyond 10 µs disarms with HW_FAULT 0x30. -/
def Obligations.SequencerEvents : Prop :=
  (∀ (s : State) (g n : Fin 16), s.on Reg.SLM_STATUS_ARMED = true → s.slm.entered = false → s.fld Reg.SLM_STATUS_GATE = g.val →
    s.fld Reg.SLM_GATE_COUNT g ≤ s.fld Reg.SLM_GATE_CNT g + 1 → s.fld Reg.SLM_GATE_ACT g % 4 = 0 →
    s.fld Reg.SLM_GATE_NEXT g % 32 = n.val → s.now < 2 ^ 64 →
    Answers .gateMatchComplete s (fun t => t.fld Reg.SLM_STATUS_GATE = n.val ∧ t.fld Reg.SLM_GATE_CNT n = 0 ∧
      t.fld Reg.SLM_GATE_TMR n = s.fld Reg.SLM_GATE_TIMER n ∧
      t.fld64 Reg.SLM_GATE_MARK_LO Reg.SLM_GATE_MARK_HI g = (if bit (s.fld Reg.SLM_GATE_ACT g) 3 then s.now else s.fld64 Reg.SLM_GATE_MARK_LO Reg.SLM_GATE_MARK_HI g) ∧
      t.fld Reg.SLM_GATE_HITS g = (s.fld Reg.SLM_GATE_HITS g + (if bit (s.fld Reg.SLM_GATE_ACT g) 2 then 1 else 0)) % 2 ^ 32 ∧
      t.pulses = s.pulses ++ (if bit (s.fld Reg.SLM_GATE_ACT g) 3 then [0xD0 + g.val] else []) ∧ t.slm.caps = s.slm.caps ∧ t.mem = s.mem)) ∧
  (∀ (s : State) (g : Fin 16), s.on Reg.SLM_STATUS_ARMED = true → s.slm.entered = false → s.fld Reg.SLM_STATUS_GATE = g.val →
    s.fld Reg.SLM_GATE_COUNT g ≤ s.fld Reg.SLM_GATE_CNT g + 1 → s.fld Reg.SLM_GATE_ACT g = 0 → s.fld Reg.SLM_GATE_NEXT g % 32 = 0x1F →
    Answers .gateMatchComplete s (fun t => t = s.disarm stOk 0)) ∧
  (∀ (s : State) (g n : Fin 16), s.on Reg.SLM_STATUS_ARMED = true → s.slm.entered = false → s.fld Reg.SLM_STATUS_GATE = g.val → s.on Reg.SLM_GATE_TIMER g = true →
    s.fld Reg.SLM_GATE_TMR g ≤ 1 → bits (s.fld Reg.SLM_GATE_NEXT g) 12 8 = n.val →
    Answers .gateTimeout s (fun t => t.fld Reg.SLM_STATUS_GATE = n.val ∧ t.fld Reg.SLM_GATE_CNT n = 0 ∧ t.fld Reg.SLM_GATE_TMR n = s.fld Reg.SLM_GATE_TIMER n ∧
      t.fld Reg.SLM_GATE_HITS g = s.fld Reg.SLM_GATE_HITS g ∧ t.pulses = s.pulses ∧ t.slm.caps = s.slm.caps ∧ t.hq = s.hq ∧ t.mem = s.mem)) ∧
  (∀ s : State, s.slm.entered = true → Answers .gateMatchComplete s (fun t => t = s) ∧ Answers .gateTimeout s (fun t => t = s)) ∧
  (∀ (s : State) (pin : Fin 16) (l : Bool), Answers (.triggerInput pin l) s (fun t => t.pins.testBit pin = l ∧ (∀ i, i ≠ pin.val → t.pins.testBit i = s.pins.testBit i) ∧
    t = { s with pins := t.pins })) ∧
  (∀ (s : State) (n : Fin 4), s.fld Reg.SLM_PT n ≠ 0 → s.slm.ptLeft[n] ≤ 1 → Answers (.periodicTimer n) s (fun t => t.pulses = s.pulses ++ [0x88 + n.val] ∧
    t.slm.ptLeft[n] = s.fld Reg.SLM_PT n ∧ t.regs = s.regs ∧ t.mem = s.mem)) ∧
  (∀ (s : State) (ini : Initiator) (n : Fin 4) (v : Word), s.answers (0x80018 + 4 * n.val) = true → s.crossing (0x80018 + 4 * n.val) = false →
    Answers (.ptWrite ini n v) s (fun t => t.fld Reg.SLM_PT n = v.toNat ∧ t.slm.ptLeft[n] = v.toNat ∧ SameRegs [Reg.SLM_PT.key n] s t ∧ t.mem = s.mem)) ∧
  (∀ (s : State) (l : Bool), Answers (.liftArmChange l) s (fun t => t.slm = { s.slm with liftIn := l } ∧ t.fld Reg.SLM_STATUS_LIFT_ARMED =
    b2n (s.on Reg.SLM_STATUS_ARMED && ((s.slm.asMaster && s.slm.liftOut) || (s.slm.asMember && (s.slm.liftOut || l)))) ∧
    SameRegs [Reg.SLM_STATUS_LIFT_ARMED.key 0] s t)) ∧
  (∀ s : State, s.slm.fireLine = false → s.on Reg.SLM_STATUS_LIFT_ARMED = true → s.now < 2 ^ 64 → Answers .liftFireEdge s (fun t =>
    t.fld64 Reg.SLM_LIFT_LATCH_LO Reg.SLM_LIFT_LATCH_HI = s.now - min 2000 (s.fld Reg.SLM_LIFT_COMP) ∧
    t.fld Reg.SLM_LIFT_COUNT = (s.fld Reg.SLM_LIFT_COUNT + 1) % 2 ^ 32 ∧ t.pulses = s.pulses ++ [0xB1] ∧ t.slm.fireLine = true ∧ t.slm.latchNew = true ∧
    t.mem = s.mem)) ∧
  (∀ s : State, s.slm.fireLine = true → Answers .liftFireEdge s (fun t => t = s)) ∧
  (∀ s : State, Answers .liftFireRelease s (fun t => t = { s with slm := { s.slm with fireOut := false, fireLine := false } })) ∧
  (∀ s : State, Answers .liftLatchTimeout s (fun t => t.slm.caps = s.slm.caps.map s.latchOver ∧
    (∀ c ∈ t.slm.caps, c.liftWait.all (fun w => decide (s.now < w.1)) = true ∧ c.extWait.all (fun w => decide (s.now < w.1)) = true) ∧ t.mem = s.mem ∧ t.hq = s.hq)) ∧
  (∀ s : State, s.slm.fireLine = true → s.on Reg.SLM_STATUS_LIFT_ARMED = true →
    Answers .liftStuck s (fun t => t = (s.setF Reg.SLM_STATUS_LIFT_STUCK 1).disarm stHwFault 0x30 ∧ t.fld Reg.SLM_STATUS_LIFT_STUCK = 1))

/-- R215 to R222, R246: the glacier ring and captures. A feed block goes into the open segment or, with no segment to take it, is lost and counted; a complete segment has its header; CAPTURE is refused without a running ring or a free slot, and else takes the lowest free slot under the next ID; a capture whose copy is done is stored, its header before its blocks, and completes with its bytes and ID; CAPTURE_READ waits for its turn of the decoder, and then writes the header and the reduced blocks. -/
def Obligations.GlacierAndCaptures : Prop :=
  (∀ (s : State) (st : Stream) (b : SBlock) (bs : List SBlock), s.stream? 0 = some st → st.dest = .glacier → st.ready = b :: bs → st.owesGroom b = false →
    (∀ g : GSeg, s.openSeg = some g → g.used + b.padded ≤ segBytes → 64 ≤ g.used → s.mem.ext.wf = true →
      Answers .glacierBlockWrite s (fun t => t.slm.serial = s.slm.serial + 1 ∧ (∃ g', t.openSeg = some g' ∧ g'.used = g.used + b.padded ∧ g'.pos = g.pos) ∧
        t.mem.ext.readN (s.segOff g.pos + g.used) (b.bytes st.ovf).length = b.bytes st.ovf ∧
        t.stream? 0 = some { st with ready := bs, ovf := false, delivered := st.delivered + 1 })) ∧
    (s.openSeg = none → s.nextPos = none →
      Answers .glacierBlockWrite s (fun t => t.fld Reg.RED_DROP_GLACIER = (s.fld Reg.RED_DROP_GLACIER + 1) % 2 ^ 32 ∧ t.mem = s.mem ∧ t.slm = s.slm ∧
        t.stream? 0 = some { st with ready := bs, ovf := true, discarded := st.discarded + 1 }))) ∧
  (∀ (s : State) (g : GSeg), s.openSeg = some g → g.blks ≠ [] → s.mem.ext.wf = true →
    Answers .segmentComplete s (fun t => t.openSeg = none ∧ t.mem.ext.readN (s.segOff g.pos) 64 = ({ g with complete := true } : GSeg).header ∧
      t.slm.seq = s.slm.seq ∧ t.hq = s.hq)) ∧
  (∀ (s : State) (h : Fin 256) (x : Handle), s.cmd? h.val 0x33 = some x →
    (s.ringRuns = false → Ends (.capture h) s h.val stNotReady 6 0 0 (fun u => u = s)) ∧
    (s.capBad (x.p 0 + x.p 1 * 2 ^ 32) (x.p 3) (x.p 4) (x.p 5) (x.p 6) = none → s.freeSlot = none →
      Ends (.capture h) s h.val stBusy 0x33 0 0 (fun u => u = s)) ∧
    (∀ k, s.capBad (x.p 0 + x.p 1 * 2 ^ 32) (x.p 3) (x.p 4) (x.p 5) (x.p 6) = none → s.freeSlot = some k →
      Answers (.capture h) s (fun t => (∃ c, t.slm.caps.getLast? = some c ∧ t.slm.caps.dropLast = s.slm.caps ∧ c.id = s.slm.nextId ∧ c.slot = k ∧ c.handle = h.val ∧
          c.host = true ∧ c.stored = false ∧ c.trigger = x.p 0 + x.p 1 * 2 ^ 32 ∧ c.stop = c.trigger + x.p 3 * 1000000 ∧ c.first = x.p 4 ∧ c.points = x.p 5 ∧
          c.avg = x.p 6) ∧
        t.slm.nextId = nextCapId s.slm.nextId ∧ t.slotHeld k = true ∧ (s.pw.standalone = false → t.mem = s.mem)))) ∧
  (∀ (s : State) (k : Fin 8) (c : Cap), s.cap? k.val = some c → c.stop ≤ s.now → c.liftWait = none → c.ended = false →
    (c.early = none → Answers (.captureWindowEnd k) s (fun t =>
      t.slm.caps = s.slm.caps.map (fun y => if !y.stored && y.slot == k.val then { y with ended := true } else y) ∧ t.mem = s.mem ∧ t.hq = s.hq)) ∧
    (c.early.isSome = true → Answers (.captureWindowEnd k) s (fun t => t.cap? k.val = none ∧ t.ended c.handle))) ∧
  (∀ (s : State) (k : Fin 8) (c : Cap), s.cap? k.val = some c → s.memReady = true → c.ended = true → c.oos = false → s.slm.segs = [] → s.capUsed ≤ s.rgnSize 1 →
    let y := { c with stored := true, base := s.slm.capAt }
    let at_ := (s.slm.capAt + 64 + c.bytes) % max 1 (s.rgnSize 1)
    let v : State := { s with slm := { s.slm with caps := s.slm.caps.filter (fun z => z.stored || z.slot != k.val) ++ [{ y with data := [] }], capAt := at_ } }
    exec (.captureCopyDone k) s = .next (((v.capPut s.slm.capAt (c.header ++ c.data)).glRefresh).complete c.handle
      (if c.truncated || c.lost then stPartial else stOk) 0 (satN 32 c.bytes) c.id)) ∧
  (∀ (s : State) (h : Fin 256) (d : CmdData) (x : Handle), s.cmd? h.val 0x34 = some x →
    (s.slm.caps.find? (fun c => c.id == x.p 0) = none → Ends (.captureRead h d) s h.val stInvalid 24 0 0 (fun u => u = s)) ∧
    (∀ c, s.slm.caps.find? (fun c => c.id == x.p 0) = some c → s.capHolds c = true → Ends (.captureRead h d) s h.val stBusy 0x33 0 0 (fun u => u = s)) ∧
    (∀ c, s.slm.caps.find? (fun c => c.id == x.p 0) = some c → s.capHolds c = false →
      Answers (.captureRead h d) s (fun t => (∃ r, t.slm.reads.getLast? = some r ∧ t.slm.reads.dropLast = s.slm.reads ∧ r.handle = h.val ∧ r.id = c.id) ∧
        t.grm.turns = s.grm.turns ++ [h.val] ∧ t.slm.caps = s.slm.caps))) ∧
  (∀ (s : State) (r : CapRead) (x : Handle) (c : Cap), s.slm.reads = [r] → s.hasTurn r.handle = true → s.memReady = true → r.left = 0 →
    s.handle? r.handle = some x → s.slm.caps.find? (fun c => c.id == r.id) = some c →
    let v := (s.readGone r.handle).capLines c.base (64 + c.bytes)
    let bs := (v.capReadOut c).1
    v.capPoisoned c.base (64 + c.bytes) = false → (v.capReadOut c).2.1 = 0 → bs.length ≤ segsLen r.buf.1 →
    s.readTick = (((v.addF Reg.GRM_DATA_ERR 0).set64 Reg.GRM_D_OUT_LO Reg.GRM_D_OUT_HI (v.fld64 Reg.GRM_D_OUT_LO Reg.GRM_D_OUT_HI + (v.capReadOut c).2.2)).putSegs
        x.engine r.buf.1 bs).complete x.idx stOk 0 (satN 32 bs.length) 0 ∧ bs.take 64 = c.header)

/-! ### Chapter 10 -/

/-- R21, R109, R235, R237, R239, R240, R242: groomed blocks and the chunks of a job. A groomed block takes one INDEP chunk as payload only when that is shorter, and never grows; a block that finds no throughput is lost for its stream, counted, and FEED_SHORT is set. The last chunk of a compress job that has room ends it with OK, its slot FREE, a whole multiple of 4 more bytes out and all its input consumed; an input read that is refused ends it with DATA_ERROR 4 and the whole chunks so far; a job that ends leaves the groomer. -/
def Obligations.GroomedChunks : Prop :=
  (∀ (s : State) (st : Stream) (b : SBlock), s.red.streams = [st] → st.groomed = true → st.ready = [b] → b.through = false → b.groomed = false →
    Answers (.groomBlock false) s (fun t => t.mem = s.mem ∧ t.hq = s.hq ∧
      ∃ b', (t.red.streams.head?.bind (fun y => y.ready.head?)) = some b' ∧ t.red.streams = [{ st with ready := [b'] }] ∧ b'.through = true ∧
      b'.payload.length ≤ b.payload.length ∧ (b'.groomed = true ↔ b'.payload.length < b.payload.length) ∧ (b'.groomed = false → b' = { b with through := true }))) ∧
  (∀ (s : State) (st : Stream) (b : SBlock) (r : Fin 8), s.red.streams = [st] → st.groomed = true → st.ready = [b] → b.through = false → st.dest = .ring r →
    Answers (.groomBlock true) s (fun t => t.fld Reg.GRM_STATUS_FEED_SHORT = 1 ∧ t.fld Reg.SR_DROP r = (s.fld Reg.SR_DROP r + 1) % 2 ^ 32 ∧
      t.red.streams = [{ st with ready := [], ovf := true, discarded := st.discarded + 1 }] ∧
      SameRegs [Reg.GRM_STATUS_FEED_SHORT.key 0, Reg.SR_DROP.key r] s t ∧ t.mem = s.mem)) ∧
  (∀ (s : State) (h : Fin 256) (d : HostData) (j : GJob) (bs : List Byte), s.job? h.val = some j → j.inst.isSome = true → s.runs 6 = true → s.jobReady j = true →
    j.compress = true → j.elem < 4 → 0 < j.left → j.left ≤ 65536 → j.inEnd = .whole → 65560 ≤ segsLen (s.clipBuffer (j.outs, j.outEnd)).1 →
    ((s.timerStart (.handle h.val)).chunkIn j d).1 = .ok bs →
    (∃ (u : State) (y : GJob), exec (.jobChunkDone h d) s = .next (u.jobStop y stOk 0) ∧ y.handle = h.val ∧ y.slot = j.slot ∧ y.inDone = j.inDone + j.left ∧
      j.outDone + 20 ≤ y.outDone ∧ (y.outDone - j.outDone) % 4 = 0) ∧
    Answers (.jobChunkDone h d) s (fun t => t.job? h.val = none ∧ t.ended h.val ∧ (∀ k, j.slot = some k → k < 64 → t.slotState k = slotFree))) ∧
  (∀ (s : State) (h : Fin 256) (j : GJob), s.job? h.val = some j → j.inst.isSome = true → s.runs 6 = true → s.jobReady j = true →
    j.compress = true ∨ s.hasTurn h.val = true → s.pw.standalone = false →
    Answers (.jobChunkDone h .refused) s (fun t => t = (s.timerStart (.handle h.val)).jobStop j stDataError 4)) ∧
  (∀ (s : State) (j : GJob) (st det : Nat), let t := s.jobStop j st det
    t.job? j.handle = none ∧ t.ended j.handle ∧ (s.pw.standalone = false → t.mem = s.mem) ∧ (∀ k, j.slot = some k → k < 64 → t.slotState k = slotFree)) ∧
  (∀ (s : State) (h : Fin 256) (d : HostData) (j : GJob), s.job? h.val = some j → j.inst = none → Answers (.jobChunkDone h d) s (fun t => t = s))

/-- R241, R243, R244, R246: the commands of groomer jobs. An input that is no whole number of elements, and then a faulty field of GRM_COMPRESS, is named by its offset; a job whose lists are read is held with its slot ACTIVE; GRM_RESUME of a FREE slot is INVALID_PARAM 24, of a SAVED one it goes on at the saved offset; GRM_CTX_DROP frees a slot that is not ACTIVE and leaves the others. -/
def Obligations.GroomerCommands : Prop :=
  (∀ (s : State) (h : Fin 256) (i o : CmdData) (x : Handle), s.cmd? h.val 0x40 = some x →
    let b := s.listBuffer 8 x.ptr0 x.len0 false i
    let e := elemBytes (bits (x.p 3) 21 20)
    b.1.2.known = true →
    (b.1.2 = .whole → segsLen b.1.1 % e ≠ 0 → Ends (.grmCompress h i o) s h.val stInvalid 16 0 0 (fun u => u = b.2)) ∧
    (∀ f, b.1.2 = .whole → segsLen b.1.1 % e = 0 → compressBad x = some f → Ends (.grmCompress h i o) s h.val stInvalid f 0 0 (fun u => u = b.2)) ∧
    (∀ k : Nat, b.1.2 = .whole → segsLen b.1.1 % e = 0 → compressBad x = none → x.p 4 = k → k < 64 → s.slotState k = slotFree → s.rgnSize 2 ≠ 0 →
      s.grm.jobs.length < 16 → (b.2.listBuffer 24 (x.p 0 + x.p 1 * 2 ^ 32) (x.p 2) true o).1.2.known = true →
      Answers (.grmCompress h i o) s (fun t => t.slotState k = slotActive ∧ t.fld Reg.GRM_STATUS_JOBS = s.grm.jobs.length + 1 ∧
        ∃ j ∈ t.grm.jobs, j.handle = h.val ∧ j.compress = true ∧ j.ins = b.1.1 ∧ j.inDone = 0 ∧ j.outDone = 0 ∧ j.slot = some k ∧
          j.level = x.p 3 % 16 ∧ j.stride = x.p 5 ∧ j.begun = false))) ∧
  (∀ (s : State) (h : Fin 256) (i o : CmdData) (x : Handle), s.cmd? h.val 0x41 = some x → x.p 4 = 0xFF → s.grm.jobs.length < 16 →
    let b := s.listBuffer 8 x.ptr0 x.len0 false i
    b.1.2.known = true → (b.2.listBuffer 24 (x.p 0 + x.p 1 * 2 ^ 32) (x.p 2) true o).1.2.known = true →
    Answers (.grmDecompress h i o) s (fun t => t.fld Reg.GRM_STATUS_JOBS = s.grm.jobs.length + 1 ∧ t.grm.turns = s.grm.turns ++ [h.val] ∧
      ∃ j ∈ t.grm.jobs, j.handle = h.val ∧ j.compress = false ∧ j.slot = none ∧ j.ins = b.1.1 ∧ j.inEnd = b.1.2 ∧ j.inDone = 0)) ∧
  (∀ (s : State) (h : Fin 256) (i o : CmdData) (x : Handle), s.cmd? h.val 0x42 = some x →
    63 < x.p 0 ∨ s.slotState (x.p 0) = slotFree → Ends (.grmResume h i o) s h.val stInvalid 24 0 0 (fun u => u = s)) ∧
  (∀ (s : State) (h : Fin 256) (i o : CmdData) (x : Handle), s.cmd? h.val 0x42 = some x → x.p 0 ≤ 63 → s.slotState (x.p 0) = slotSaved →
    s.grm.jobs.length < 16 → s.memReady = true → s.poisoned (s.ctxOfs (x.p 0)) 40960 = false → ctxGood (s.extGet (s.ctxOfs (x.p 0)) 40960) = true →
    let y := ctxJob (s.extGet (s.ctxOfs (x.p 0)) 40960) h.val (x.p 0)
    let b := (s.linesRead (s.ctxOfs (x.p 0)) 40960).listBuffer 8 y.inList y.inElems false i
    b.1.2.known = true → (b.2.listBuffer 28 (x.p 1 + x.p 2 * 2 ^ 32) (x.p 3) true o).1.2.known = true →
    Answers (.grmResume h i o) s (fun t => t.slotState (x.p 0) = slotActive ∧
      ∃ j ∈ t.grm.jobs, j.handle = h.val ∧ j.slot = some (x.p 0) ∧ j.inDone = field (s.extGet (s.ctxOfs (x.p 0)) 40960) 32800 8 ∧
        j.outDone = field (s.extGet (s.ctxOfs (x.p 0)) 40960) 32808 8)) ∧
  (∀ (s : State) (h : Fin 256) (x : Handle), s.cmd? h.val 0x43 = some x →
    (63 < x.p 0 → Ends (.grmCtxDrop h) s h.val stInvalid 24 0 0 (fun u => u = s)) ∧
    (x.p 0 ≤ 63 → s.slotState (x.p 0) ≠ slotActive → Ends (.grmCtxDrop h) s h.val stOk 0 0 0 (fun u => u = s.setSlot (x.p 0) slotFree))) ∧
  (∀ (s : State) (i v : Nat), i < 64 → v < 4 → (s.setSlot i v).slotState i = v ∧ (∀ k : Fin 64, k.val ≠ i → (s.setSlot i v).slotState k = s.slotState k))

/-! ### Chapter 11 -/

/-- R256, R259, R260, R284, R289: the D operations of a ridge core. As a whole bundle, each logic, shift, selection and compare operation puts the value of its row in DD, or in the flags, one cycle on, and the core goes on at the next bundle; the arithmetic operations put the true result in DD, clamped with SAT or wrapped with OVF where it does not fit, each half of a dual operation apart, 1 cycle on, 3 cycles for products and 2 for extracts; nothing else changes. -/
def Obligations.RidgeAlu : Prop :=
  (∀ (s : State) (c : Fin 8), s.coreLone c → ∀ (r : Rcore) (dd da db : Fin 32) (imm : Bool), r = s.rc c.val →
    (∀ w, w = r.word da &&& r.word db → Bundles (.and c true dd da db) s c 1 1 ((r.goes (r.pc + 8) 1).setD dd w)) ∧
    (∀ w, w = r.word da ||| r.word db → Bundles (.or c true dd da db) s c 1 1 ((r.goes (r.pc + 8) 1).setD dd w)) ∧
    (∀ w, w = r.word da ^^^ r.word db → Bundles (.xor c true dd da db) s c 1 1 ((r.goes (r.pc + 8) 1).setD dd w)) ∧
    (∀ k, k = (if imm then db.val else (r.word db).toNat % 32) →
      Bundles (.sll c true imm dd da db) s c 1 1 ((r.goes (r.pc + 8) 1).setD dd (r.word da <<< k)) ∧
      Bundles (.srl c true imm dd da db) s c 1 1 ((r.goes (r.pc + 8) 1).setD dd (r.word da >>> k)) ∧
      Bundles (.sra c true imm dd da db) s c 1 1 ((r.goes (r.pc + 8) 1).setD dd ((r.word da).sshiftRight k))) ∧
    Bundles (.min c true dd da db) s c 1 1 ((r.goes (r.pc + 8) 1).setD dd (if (r.word da).slt (r.word db) then r.word da else r.word db)) ∧
    Bundles (.max c true dd da db) s c 1 1 ((r.goes (r.pc + 8) 1).setD dd (if (r.word da).slt (r.word db) then r.word db else r.word da)) ∧
    Bundles (.pack c true dd da db) s c 1 1 ((r.goes (r.pc + 8) 1).setD dd ((r.word da).extractLsb' 0 16 ++ (r.word db).extractLsb' 0 16)) ∧
    Bundles (.mov c true dd da) s c 1 1 ((r.goes (r.pc + 8) 1).setD dd (r.word da)) ∧
    (∀ q, q = r.goes (r.pc + 8) 1 → ∀ d : Word, d = r.word da - r.word db → ∃ q' : Rcore, Bundles (.cmp c true da db) s c 1 1 q' ∧
      q' = { q with bank := { q.bank with sr := q'.bank.sr } } ∧ (∀ n, n < 4 ∨ 8 ≤ n → q'.bank.sr.testBit n = q.bank.sr.testBit n) ∧
      srZ q'.bank.sr = decide (r.word da = r.word db) ∧ srN q'.bank.sr = d.msb ∧ srC q'.bank.sr = decide (r.word db ≤ r.word da) ∧
      srV q'.bank.sr = decide (d.toInt ≠ (r.word da).toInt - (r.word db).toInt))) ∧
  (∀ (s : State) (c : Fin 8), s.coreLone c → ∀ (r : Rcore) (dd da db : Fin 32) (aa ab : Fin 8) (n : Fin 16) (sat : Bool), r = s.rc c.val →
    (∀ i lam v, (i, lam, v) ∈ [(Instr.add c true sat dd da db, 1, (r.word da).toInt + (r.word db).toInt),
        (.sub c true sat dd da db, 1, (r.word da).toInt - (r.word db).toInt), (.abs c true sat dd da, 1, ((r.word da).toInt.natAbs : Int)),
        (.neg c true sat dd da, 1, -(r.word da).toInt), (.mul c true sat dd da db, 3, (r.word da).toInt * (r.word db).toInt),
        (.ridgeExt c true sat dd aa n, 2, shrRne (r.a aa) n.val), (.ext2 c true sat dd aa ab n, 2, shrRne (r.a aa + r.a ab) n.val)] →
      ∃ x st ov, Fits 32 sat v x st ov ∧ Bundles i s c 1 lam (((r.goes (r.pc + 8) lam).setD dd (BitVec.ofInt 32 x)).sticky st ov)) ∧
    (∀ i v, (i, v) ∈ [(Instr.exth c true sat dd aa n, shrRne (r.a aa) n.val), (.exth2 c true sat dd aa ab n, shrRne (r.a aa + r.a ab) n.val)] →
      ∃ x st ov, Fits 16 sat v x st ov ∧ Bundles i s c 1 2 (((r.goes (r.pc + 8) 2).setD dd (BitVec.ofInt 32 x)).sticky st ov)) ∧
    (∀ l h l' h' : Int, l = ((r.word da).extractLsb' 0 16).toInt → h = ((r.word da).extractLsb' 16 16).toInt →
      l' = ((r.word db).extractLsb' 0 16).toInt → h' = ((r.word db).extractLsb' 16 16).toInt →
      ∀ i lam v w, (i, lam, v, w) ∈ [(Instr.add2 c true sat dd da db, 1, l + l', h + h'), (.sub2 c true sat dd da db, 1, l - l', h - h'),
          (.mulq2 c true sat dd da db, 3, shrRne (l * l') 15, shrRne (h * h') 15)] →
        ∃ x sx ox y sy oy, Fits 16 sat v x sx ox ∧ Fits 16 sat w y sy oy ∧
          Bundles i s c 1 lam (((r.goes (r.pc + 8) lam).setD dd (BitVec.ofInt 16 y ++ BitVec.ofInt 16 x)).sticky (sx || sy) (ox || oy))))

/-- R256, R260, R285 to R288: products reach their accumulator 5 cycles on, the accumulating ones added to the value it then holds and kept in 40 bits; a tap moves its delay line on one register; the accumulator moves take 2 cycles. -/
def Obligations.RidgeAccumulators : Prop :=
  ∀ (s : State) (c : Fin 8), s.coreLone c → ∀ (r : Rcore) (dd da db : Fin 32) (ad aa ab : Fin 8) (sat ha hb : Bool), r = s.rc c.val →
    ∀ half : Fin 32 → Bool → Int, (∀ x, half x false = ((r.word x).extractLsb' 0 16).toInt ∧ half x true = ((r.word x).extractLsb' 16 16).toInt) →
    (∀ p q t : Int, p = half da ha * half db hb →
      q = half da false * half db ha + (if hb then -1 else 1) * (half da true * half db (!ha)) → t = half db false * half da ha →
      Bundles (.mpa c true sat ad ha hb da db) s c 1 5 ((r.goes (r.pc + 8) 5).putReg (.a ad.val) p) ∧
      Bundles (.dmpa c true sat ad ha hb da db) s c 1 5 ((r.goes (r.pc + 8) 5).putReg (.a ad.val) q) ∧
      (∀ i v, (i, v) ∈ [(Instr.mac c true sat ad ha hb da db, p), (.msu c true sat ad ha hb da db, -p),
          (.dmac c true sat ad ha hb da db, q), (.dmsu c true sat ad ha hb da db, -q)] →
        ∃ x st ov, Fits 40 sat (r.a ad + v) x st ov ∧ Bundles i s c 1 5 (((r.goes (r.pc + 8) 5).putReg (.a ad.val) x).sticky st ov)) ∧
      (db.val ≠ 15 → db.val ≠ 31 →
        Bundles (.tapz c true sat ad ha da db) s c 1 5 (((r.goes (r.pc + 8) 5).setD (db + 1) (r.word db)).putReg (.a ad.val) t) ∧
        ∃ x st ov, Fits 40 sat (r.a ad + t) x st ov ∧
          Bundles (.tap c true sat ad ha da db) s c 1 5 ((((r.goes (r.pc + 8) 5).setD (db + 1) (r.word db)).putReg (.a ad.val) x).sticky st ov)) ∧
      (db.val = 15 ∨ db.val = 31 → Excepts (.tapz c true sat ad ha da db) s c 1 r.pc none ∧ Excepts (.tap c true sat ad ha da db) s c 1 r.pc none)) ∧
    Bundles (.aclr c true aa) s c 1 2 ((r.goes (r.pc + 8) 2).putReg (.a aa.val) 0) ∧
    (∀ w : BitVec 40, w = BitVec.ofInt 40 (r.a aa) →
      Bundles (.agetl c true dd aa) s c 1 2 ((r.goes (r.pc + 8) 2).setD dd (w.extractLsb' 0 32)) ∧
      Bundles (.ageth c true dd aa) s c 1 2 ((r.goes (r.pc + 8) 2).setD dd ((w.extractLsb' 32 8).signExtend 32)) ∧
      Bundles (.aputl c true dd aa) s c 1 2 ((r.goes (r.pc + 8) 2).putReg (.a aa.val) (r.word dd).toInt) ∧
      Bundles (.aputh c true dd aa) s c 1 2 ((r.goes (r.pc + 8) 2).putReg (.a aa.val) ((r.word dd).extractLsb' 0 8 ++ w.extractLsb' 0 32).toInt)) ∧
    (∀ i v, (i, v) ∈ [(Instr.aadd c true sat aa ab, r.a aa + r.a ab), (.asub c true sat aa ab, r.a aa - r.a ab)] →
      ∃ x st ov, Fits 40 sat v x st ov ∧ Bundles i s c 1 2 (((r.goes (r.pc + 8) 2).putReg (.a aa.val) x).sticky st ov))

/-- R250, R251, R261, R290 to R293, R295: loads and stores of data memory move exactly their bytes and post-modify the pointer, circularly where L is not 0; the moves of pointers and control registers; a misaligned, unmapped, uncorrectable or same-bank access, an odd pair register and a bad control-register number raise their exceptions. -/
def Obligations.RidgeMoves : Prop :=
  ∀ (s : State) (c : Fin 8), s.coreLone c → ∀ (r : Rcore) (x : Fin 32) (p : Fin 8), r = s.rc c.val →
    (∀ (m : MemMod) (size : Nat) (by' : Int) (p' a : Nat), a = r.p p → by' = (match m with | .imm i => i.toInt * size | .reg d => (r.word d).toInt) →
      (∀ base len : Int, base = ((r.b.getD p.val 0).toNat : Int) → len = ((r.l.getD p.val 0).toNat : Int) →
        (p' : Int) = (if len = 0 then (a + by') % 2 ^ 32 else (base + (a - base + by') % len) % 2 ^ 32)) →
      (a % size = 0 → 0x20000 ≤ a → a < 0x40000 → r.spare ((a - 0x20000) / 0x10000) → ∀ v, v = r.dmem.readLe (a - 0x20000) size →
        ∀ q, q = ((r.uses ((a - 0x20000) / 0x10000)).goes (r.pc + 8) 3).putReg (.p p.val) p' →
        (size = 2 → Bundles (.ldH c true x p m .clean) s c 1 3 (q.setD x ((BitVec.ofNat 16 v).signExtend 32)) ∧
          Bundles (.ldHu c true x p m .clean) s c 1 3 (q.setD x (BitVec.ofNat 32 v)) ∧
          Bundles (.stH c true x p m) s c 1 3 { q with dmem := r.dmem.writeN (a - 0x20000) (leBytes 2 ((r.word x).toNat % 65536)) }) ∧
        (size = 4 → Bundles (.ldW c true x p m .corrected) s c 1 3 (q.setD x (BitVec.ofNat 32 v)) ∧
          Excepts (.ldW c true x p m .bad) s c 7 r.pc (some a) ∧
          Bundles (.stW c true x p m) s c 1 3 { q with dmem := r.dmem.writeN (a - 0x20000) (leBytes 4 (r.word x).toNat) }) ∧
        (size = 8 → x.val % 2 = 0 → Bundles (.ldD c true x p m .clean) s c 1 3 ((q.setD x (BitVec.ofNat 32 v)).setD (x + 1) (BitVec.ofNat 32 (v / 2 ^ 32))) ∧
          Bundles (.stD c true x p m) s c 1 3
            { q with dmem := r.dmem.writeN (a - 0x20000) (leBytes 4 (r.word x).toNat ++ leBytes 4 (r.word (x + 1)).toNat) })) ∧
      (x.val % 2 = 1 → Excepts (.ldD c true x p m .clean) s c 1 r.pc none ∧ Excepts (.stD c true x p m) s c 1 r.pc none) ∧
      (size = 4 → a % 4 ≠ 0 → Excepts (.ldW c true x p m .clean) s c 3 r.pc (some a) ∧ Excepts (.stW c true x p m) s c 3 r.pc (some a)) ∧
      (size = 4 → a % 4 = 0 → 0x1000 ≤ a → a < 0x20000 → Excepts (.ldW c true x p m .clean) s c 2 r.pc (some a) ∧ Excepts (.stW c true x p m) s c 2 r.pc (some a))) ∧
    (∀ (q pb : Fin 8) (a b : Nat), a = r.p p → b = r.p pb → p ≠ pb → a % 8 = 0 → b % 8 = 0 →
      (0x20000 ≤ a → a < 0x30000 → 0x30000 ≤ b → b < 0x40000 → r.spare 0 → r.spare 1 → ∀ v w x0 x1 x2 x3, v = r.dmem.readLe (a - 0x20000) 8 → w = r.dmem.readLe (b - 0x20000) 8 →
        x0.val = 4 * q.val → x1 = x0 + 1 → x2 = x0 + 2 → x3 = x0 + 3 →
        Bundles (.ldp c true q p pb 0 0 ⟨.clean, .clean⟩) s c 1 3 ((((((((((r.uses 0).uses 1).goes (r.pc + 8) 3).putReg (.p p.val) (r.postMod p 0)).putReg (.p pb.val) (r.postMod pb 0)).setD x0
          (BitVec.ofNat 32 v)).setD x1 (BitVec.ofNat 32 (v / 2 ^ 32))).setD x2 (BitVec.ofNat 32 w)).setD x3 (BitVec.ofNat 32 (w / 2 ^ 32))))) ∧
      (0x20000 ≤ a → a < 0x30000 → 0x20000 ≤ b → b < 0x30000 → Excepts (.ldp c true q p pb 0 0 ⟨.clean, .clean⟩) s c 4 r.pc (some a))) ∧
    (∀ (imm : BitVec 10) (w : Word), Bundles (.movi c true x imm) s c 1 1 ((r.goes (r.pc + 8) 1).setD x (imm.signExtend 32)) ∧
      Bundles (.movi32 c true x w) s c 1 1 ((r.goes (r.pc + 8) 1).setD x w) ∧ Bundles (.pget c true x p) s c 1 1 ((r.goes (r.pc + 8) 1).setD x (BitVec.ofNat 32 (r.p p))) ∧
      Bundles (.pset c true x p) s c 1 1 ((r.goes (r.pc + 8) 1).putReg (.p p.val) (r.word x).toInt) ∧
      Bundles (.pseti c true p w) s c 1 1 ((r.goes (r.pc + 8) 1).putReg (.p p.val) w.toInt)) ∧
    (∀ imm : BitVec 12, Bundles (.pmod c true p imm) s c 1 1 ((r.goes (r.pc + 8) 1).putReg (.p p.val) (r.postMod p imm.toInt))) ∧
    (∀ (n : Fin 32) (k : Fin 8) (v : Nat), (n.val, v) ∈ [(0, r.sr), (1, r.bank.l0.count), (2, r.l1.count), (3, r.rotb), (4, s.fld Reg.RDG_IEN c.val),
        (5, s.fld Reg.RDG_IPEND c.val), (6, r.iret), (8 + k.val, (r.b.getD k.val 0).toNat), (16 + k.val, (r.l.getD k.val 0).toNat),
        (24, s.fld Reg.RDG_CYCLE_LO c.val), (25, s.fld Reg.RDG_CYCLE_HI c.val)] →
      Bundles (.movcR c true x n) s c 1 2 ((r.goes (r.pc + 8) 2).setD x (BitVec.ofNat 32 v))) ∧
    (∀ (n : Fin 32) (k : Fin 8) (w : Word) (i : Instr), (i, w) ∈ [(Instr.movcW c true x n, r.word x), (.movci c true n w, w)] →
      (∀ d, (n.val, d) ∈ [(0, RDest.sr), (1, .lc 0), (2, .lc 1), (3, .rotb), (6, .iret), (8 + k.val, .b k.val)] →
        Bundles i s c 1 2 ((r.goes (r.pc + 8) 2).putReg d w.toInt)) ∧
      (n.val = 16 + k.val → w.toNat ≤ 131072 → Bundles i s c 1 2 ((r.goes (r.pc + 8) 2).putReg (.l k.val) w.toInt)) ∧
      (n.val = 16 + k.val → 131072 < w.toNat → Excepts i s c 1 r.pc none) ∧
      (n.val = 4 → Answers i s (fun t => (t.rTicks c.val 1).fld Reg.RDG_IEN c.val = w.toNat % 256)) ∧
      (n.val = 5 → Answers i s (fun t => ∀ b, 1 ≤ b → b < 8 →
        ((t.rTicks c.val 1).fld Reg.RDG_IPEND c.val).testBit b = ((s.fld Reg.RDG_IPEND c.val).testBit b && !w.toNat.testBit b)))) ∧
    (∀ (n : Fin 32) (w : Word), n.val ∈ [7, 24, 25, 26, 27, 28, 29, 30, 31] → Excepts (.movcW c true x n) s c 1 r.pc none ∧ Excepts (.movci c true n w) s c 1 r.pc none ∧
      (n.val ≠ 24 → n.val ≠ 25 → Excepts (.movcR c true x n) s c 1 r.pc none))

/-- R256, R262, R264, R270 to R272, R277, R294 to R296: control flow, bundles and interrupts of a ridge core. A taken branch issues its target two cycles later and a target outside instruction memory raises ADDR there; LOOP sets its level up; ROT turns the window; RETI goes back to the main bank at IRET; WAIT, HALT and BREAK leave RUNNING. Operations that are not the last of their bundle change only the bundle; none changes a core that does not run or is held in reset; a loop end goes back or falls through; an interrupt enters the shadow bank at its vector. -/
def Obligations.RidgeControl : Prop :=
  (∀ (s : State) (c : Fin 8), s.coreLone c → ∀ (r : Rcore), r = s.rc c.val →
    Bundles (.ridgeNop c true false) s c 1 1 (r.goes (r.pc + 8) 1) ∧ Excepts (.ridgeNop c true true) s c 7 r.pc none ∧
    Excepts (.ridgeBreak c true) s c 8 r.pc none ∧
    (∀ (cond : Fin 9) (rel : BitVec 11) (a : Nat), (a : Int) = (r.pc + 8 * rel.toInt) % 2 ^ 32 →
      (condHolds cond r.bank.sr = false → Bundles (.br c true cond rel) s c 1 1 (r.goes (r.pc + 8) 1)) ∧
      (condHolds cond r.bank.sr = true → Fetchable a → Bundles (.br c true cond rel) s c 2 2 (r.goes a 2)) ∧
      (condHolds cond r.bank.sr = true → a < 0x10000 ∨ 0x20000 ≤ a → Excepts (.br c true cond rel) s c 2 a none)) ∧
    (∀ p : Fin 8, (Fetchable (r.p p) → Bundles (.jr c true p) s c 2 2 (r.goes (r.p p) 2)) ∧
      (r.p p % 8 ≠ 0 → Excepts (.jr c true p) s c 3 r.pc none) ∧
      (r.p p % 8 = 0 → r.p p < 0x10000 ∨ 0x20000 ≤ r.p p → Excepts (.jr c true p) s c 2 (r.p p) none)) ∧
    (∀ (p : Fin 8) (tgt : BitVec 13), Bundles (.jmp c true tgt) s c 2 2 (r.goes (0x10000 + 8 * tgt.toNat) 2) ∧
      Bundles (.call c true p tgt) s c 2 2 ((r.goes (0x10000 + 8 * tgt.toNat) 2).putReg (.p p.val) (r.pc + 8 : Nat))) ∧
    Bundles (.rot c true) s c 1 1 { r.goes (r.pc + 8) 1 with rotb := (r.rotb + 15) % 16 } ∧
    (∀ (lvl : Fin 2) (rot : Bool) (n : LoopCount) (stop : BitVec 13) (k e : Nat), k = (match n with | .imm i => i.toNat | .reg d => r.d d) →
      e = r.pc + 8 * stop.toNat →
      (stop = 0 ∨ (rot = true ∧ r.shd = true) → Excepts (.loop c true lvl rot n stop) s c 1 r.pc none) ∧
      (stop ≠ 0 → ¬ (rot = true ∧ r.shd = true) →
        ((r.loop lvl.val).active = true → Excepts (.loop c true lvl rot n stop) s c 5 r.pc none) ∧
        ((r.loop lvl.val).active = false → 0x20000 ≤ e → Excepts (.loop c true lvl rot n stop) s c 2 r.pc none) ∧
        ((r.loop lvl.val).active = false → e < 0x20000 → 0 < k →
          Bundles (.loop c true lvl rot n stop) s c 1 1 ((r.goes (r.pc + 8) 1).putLoop lvl.val ⟨true, k, r.pc + 8, e, rot⟩)) ∧
        ((r.loop lvl.val).active = false → e + 8 < 0x20000 → k = 0 →
          Bundles (.loop c true lvl rot n stop) s c 2 2 ((r.goes (e + 8) 2).putLoop lvl.val ⟨false, 0, r.pc + 8, e, rot⟩)))) ∧
    (r.shd = false → Excepts (.reti c true) s c 1 r.pc none) ∧
    (r.shd = true → Fetchable r.iret → Answers (.reti c true) s (fun t =>
      t.rc c.val = { r with bank := r.other, other := r.bank, shd := false, pc := r.iret, t := r.t + 1 } ∧ t.rRuns c.val = true ∧ t.mem = s.mem)) ∧
    Answers (.halt c true) s (fun t => t.rc c.val = { r with pc := r.pc + 8 } ∧ t.fld Reg.RDG_STATUS c.val = rStopped ∧ t.mem = s.mem) ∧
    (s.rPending c.val = false → Answers (.wait c true) s (fun t =>
      t.rc c.val = { r with pc := r.pc + 8 } ∧ t.fld Reg.RDG_STATUS c.val = rWaiting ∧ t.mem = s.mem)) ∧
    (s.rPending c.val = true → Answers (.wait c true) s (fun t => t.rc c.val = { r with pc := r.pc + 8 } ∧ t.rRuns c.val = true ∧ t.mem = s.mem))) ∧
  (∀ (s : State) (i : Instr) (c : Fin 8), coreOp? i = some (c, false) → s.rRuns c.val = true → s.rHeld c.val = false → (s.rc c.val).loopDue = false →
    Answers i s (fun t => (t.rc c.val).bundle.begun = true ∧ t = s.updRc c.val (fun r => { r with bundle := (t.rc c.val).bundle }))) ∧
  (∀ (s : State) (i : Instr) (c : Fin 8) (last : Bool), coreOp? i = some (c, last) → (s.rRuns c.val = false ∨ s.rHeld c.val = true) → exec i s = .next s) ∧
  (∀ (s : State) (c : Fin 8) (r : Rcore), r = s.rc c.val → s.rRuns c.val = true → s.rHeld c.val = false → r.loopDue = true → r.flight = [] →
    r.bank.l0.active = true → r.bank.l0.stop = r.pc → (r.l1.active = true → r.l1.stop ≠ r.pc) → r.rotb < 16 →
    ∀ b, b = (if r.bank.l0.rot then (r.rotb + 15) % 16 else r.rotb) →
    (1 < r.bank.l0.count → Fetchable r.bank.l0.start → Answers (.loopEnd c) s (fun t => t.rc c.val =
      { r with bank := { r.bank with l0 := { r.bank.l0 with count := r.bank.l0.count - 1 } }, rotb := b, pc := r.bank.l0.start, t := r.t + 1, loopDue := false } ∧
      t.mem = s.mem)) ∧
    (r.bank.l0.count ≤ 1 → Fetchable (r.pc + 8) → Answers (.loopEnd c) s (fun t => t.rc c.val =
      { r with bank := { r.bank with l0 := { r.bank.l0 with count := 0, active := false } }, rotb := b, pc := r.pc + 8, t := r.t + 1, loopDue := false } ∧
      t.mem = s.mem))) ∧
  (∀ (s : State) (c : Fin 8) (r : Rcore) (n : Nat), r = s.rc c.val → s.coreReady c → r.shd = false → r.bank.sr.testBit 0 = true → r.flight = [] → n < 8 →
    (s.fld Reg.RDG_IEN c.val &&& s.fld Reg.RDG_IPEND c.val).testBit n = true →
    (∀ m, m < n → (s.fld Reg.RDG_IEN c.val &&& s.fld Reg.RDG_IPEND c.val).testBit m = false) →
    Fetchable (s.fld Reg.RDG_IVEC c.val * 512 + 64 * n) → Answers (.interruptEntry c) s (fun t => t.rc c.val =
      { r with bank := { r.other with sr := 0, l0 := ⟨false, 0, 0, 0, false⟩ }, other := r.bank, shd := true, iret := r.pc,
               pc := s.fld Reg.RDG_IVEC c.val * 512 + 64 * n, t := r.t + 1 } ∧ (t.rc c.val).sr = 2 + 512 * b2n r.l1.active ∧ t.mem = s.mem))

/-! ### Chapter 12 -/

/-- R276 to R278: RDG_LOAD loads a valid image into every free core of the mask and nothing into the others; RDG_START starts each free core at its entry with its registers clear; RDG_STOP stops cores and keeps their registers; RDG_MSG delivers its words when FULL is 0. Each refusal ends with its status. -/
def Obligations.RidgeCommands : Prop :=
  (∀ (s : State) (h : Fin 256) (d : CmdData) (n : Nat) (bs : List Byte) (x : Handle), s.cmd? h.val 0xA0 = some x →
    (255 < x.p 0 → Ends (.rdgLoad h d) s h.val stInvalid 24 0 0 (fun u => u = s)) ∧
    (x.p 0 ≤ 255 → s.dataOf x d = some (n, bs) → 32 ≤ n →
      (∀ o, ridgeImage bs = .bad o → Ends (.rdgLoad h d) s h.val stInvalid 0xFF o 0 (fun u => u = s.dataRead x d)) ∧
      (ridgeImage bs = .crc → Ends (.rdgLoad h d) s h.val stDataError 3 0 0 (fun u => u = s.dataRead x d)) ∧
      (∀ e xs free m, ridgeImage bs = .ok e xs → free = (coresOf (x.p 0)).filter (fun c => !s.rLive c && !s.rHeld c) → m = (free.map (fun c => 2 ^ c)).sum →
        Ends (.rdgLoad h d) s h.val (if m = x.p 0 then stOk else stBusy) (if m = x.p 0 then 0 else 0xA1) m 0
          (fun u => u = free.foldl (fun (t : State) c => t.updRc c (fun r => r.load e xs)) (s.dataRead x d))))) ∧
  (∀ (s : State) (l : List Nat) (f : Rcore → Rcore) (c : Nat), l.Nodup → c < 8 →
    (l.foldl (fun (t : State) c => t.updRc c f) s).rc c = if c ∈ l then f (s.rc c) else s.rc c) ∧
  (∀ (s : State) (h : Fin 256) (x : Handle) (e : Nat), s.cmd? h.val 0xA1 = some x → x.p 0 ≤ 255 → x.p 1 = e →
    (e ≠ 0xFFFFFFFF → ¬ Fetchable e → Ends (.rdgStart h) s h.val stInvalid 28 0 0 (fun u => u = s)) ∧
    (∀ (free : List Nat) (ent : Nat → Nat), free = (coresOf (x.p 0)).filter (fun c => !s.rLive c && !s.rHeld c) →
      (∀ c, ent c = if e = 0xFFFFFFFF then ((s.rc c).entry).getD 0 else e) → (e = 0xFFFFFFFF ∧ free.all (fun c => (s.rc c).entry.isSome)) ∨ Fetchable e →
      Ends (.rdgStart h) s h.val (if free = coresOf (x.p 0) then stOk else stBusy) (if free = coresOf (x.p 0) then 0 else 0xA1) 0 0
        (fun u => u = free.foldl (fun (t : State) c => t.rStart c (ent c)) s))) ∧
  (∀ (s : State) (c : Fin 8) (e : Nat), let u := s.rStart c e
    u.rc c = { (s.rc c).cleared with pc := e } ∧ u.rRuns c = true ∧ u.fld Reg.RDG_EVT c = 0 ∧ u.fld Reg.RDG_IEN c = 0 ∧ u.fld Reg.RDG_EXC_CAUSE c = 0 ∧
    u.fld Reg.RDG_EXC_PC c = 0 ∧ u.fld Reg.RDG_IPEND c = s.fld Reg.RDG_MSG_STATUS c ∧ u.pat.ridge.getD c ⟨1, 1⟩ = ⟨0, 0⟩ ∧ u.mem = s.mem ∧ u.hq = s.hq ∧
    (∀ k : Fin 8, k ≠ c → u.rc k = s.rc k ∧ u.fld Reg.RDG_STATUS k = s.fld Reg.RDG_STATUS k ∧ u.fld Reg.RDG_EVT k = s.fld Reg.RDG_EVT k)) ∧
  (∀ (s : State) (h : Fin 256) (x : Handle), s.cmd? h.val 0xA2 = some x →
    (255 < x.p 0 → Ends (.rdgStop h) s h.val stInvalid 24 0 0 (fun u => u = s)) ∧
    (x.p 0 ≤ 255 → Answers (.rdgStop h) s (fun t => t = ((coresOf (x.p 0)).foldl (fun (t : State) c => t.rStop c) s).complete h.val stOk 0 0 0))) ∧
  (∀ (s : State) (c : Fin 8), s.fld Reg.RDG_STATUS c = rStopped → s.rStop c = s) ∧
  (∀ (s : State) (c : Fin 8), s.fld Reg.RDG_STATUS c ≠ rStopped → (s.rc c).flight = [] → (∀ ch : Fin 4, s.on Reg.RDG_DMA_STATUS_BUSY (dmaIx c ch) = false) →
    let u := s.rStop c
    u.fld Reg.RDG_STATUS c = rStopped ∧ u.rc c = { s.rc c with bundle := RBundle.reset } ∧ u.fld Reg.RDG_EVT c = 0 ∧ u.pat.ridge.getD c ⟨1, 1⟩ = ⟨0, 0⟩ ∧
    u.mem = s.mem ∧ u.hq = s.hq ∧ (∀ k : Fin 8, k ≠ c → u.rc k = s.rc k ∧ u.fld Reg.RDG_STATUS k = s.fld Reg.RDG_STATUS k)) ∧
  (∀ (s : State) (h : Fin 256) (x : Handle) (c : Nat), s.cmd? h.val 0xA3 = some x → x.p 0 = c →
    (7 < c → Ends (.rdgMsg h) s h.val stInvalid 24 0 0 (fun u => u = s)) ∧
    (c ≤ 7 → s.rLive c = false ∨ s.rHeld c = true → Ends (.rdgMsg h) s h.val stNotReady 6 0 0 (fun u => u = s)) ∧
    (c ≤ 7 → s.rLive c = true → s.rHeld c = false → (s.rc c).msgs = [] → s.on Reg.RDG_MSG_STATUS c = false →
      Answers (.rdgMsg h) s (fun t => t.fld Reg.RDG_MSG_STATUS c = 1 ∧ (t.fld Reg.RDG_IPEND c).testBit 0 = true ∧ t.ended h.val ∧ t.rc c = s.rc c ∧
        (∀ n : Fin 8, t.fld Reg.RDG_MSG (c * 8 + n) = x.p (n + 1) % 2 ^ 32))) ∧
    (c ≤ 7 → s.rLive c = true → s.rHeld c = false → s.on Reg.RDG_MSG_STATUS c = true →
      Answers (.rdgMsg h) s (fun t => (t.rc c).msgs = (s.rc c).msgs ++ [⟨h.val, (List.range 8).map (fun n => x.p (n + 1))⟩] ∧
        (∀ n : Fin 8, t.fld Reg.RDG_MSG (c * 8 + n) = s.fld Reg.RDG_MSG (c * 8 + n)))))

/-- R265, R266, R269, R274, R278: an acknowledged message clears FULL and its source; a commit copies the port into the telegram while EN is 1; the timer pends source 5; a DMA start is taken when the channel is idle and dropped with OVR when it is busy; a descriptor's rows are moved and its DONE word written, or a row whose read meets an uncorrectable error ends it with DATA_ERROR; an abort ends it with ABORTED. -/
def Obligations.RidgeEvents : Prop :=
  (∀ (s : State) (c : Fin 8), s.rHeld c.val = false → (s.rc c.val).msgs = [] → Answers (.msgAck c) s (fun t => t.fld Reg.RDG_MSG_STATUS c.val = 0 ∧
    t.fld Reg.RDG_IPEND c.val = s.fld Reg.RDG_IPEND c.val - s.fld Reg.RDG_IPEND c.val % 2 ∧ OnlyRegs [Reg.RDG_MSG_STATUS.key c.val, Reg.RDG_IPEND.key c.val] s t)) ∧
  (∀ (s : State) (c : Fin 8), s.rHeld c.val = false → s.tgSource ≠ c.val + 1 →
    (s.on Reg.RDG_TG_CTL_EN c.val = true → Answers (.tgCommit c) s (fun t =>
      t.pat.ridge.getD c.val ⟨0, 0⟩ = ⟨s.fld64 Reg.RDG_TG_ZONE_LO Reg.RDG_TG_ZONE_HI c.val, s.fld Reg.RDG_TG_CTL_ALARM c.val⟩ ∧
      t = { s with pat := { s.pat with ridge := t.pat.ridge } } ∧ ∀ k, k ≠ c.val → t.pat.ridge.getD k ⟨0, 0⟩ = s.pat.ridge.getD k ⟨0, 0⟩)) ∧
    (s.on Reg.RDG_TG_CTL_EN c.val = false → Answers (.tgCommit c) s (fun t => t = s))) ∧
  (∀ (s : State) (c : Fin 8), s.rHeld c.val = false →
    (s.fld Reg.RDG_TIMER c.val ≠ 0 → (s.rc c.val).timer ≤ 1 → Answers (.ridgeTimer c) s (fun t => (t.rc c.val).timer = s.fld Reg.RDG_TIMER c.val ∧
      (t.fld Reg.RDG_IPEND c.val).testBit 5 = true ∧ t.mem = s.mem ∧ ∀ k, k ≠ c.val → t.rc k = s.rc k)) ∧
    (s.fld Reg.RDG_TIMER c.val = 0 → Answers (.ridgeTimer c) s (fun t => t = s))) ∧
  (∀ (s : State) (ini : Initiator) (c : Fin 8) (ch : Fin 4) (v : Word), s.answers (Reg.RDG_DMA_GO.addr (dmaIx c.val ch.val)) = true →
    s.crossing (Reg.RDG_DMA_GO.addr (dmaIx c.val ch.val)) = false → descOk v.toNat = true →
    (s.on Reg.RDG_DMA_STATUS_BUSY (dmaIx c.val ch.val) = false → Answers (.dmaGo ini c ch v) s (fun t => (t.rc c.val).dma.getD ch.val ⟨0, true⟩ = ⟨v.toNat, false⟩ ∧
      t.fld Reg.RDG_DMA_STATUS_BUSY (dmaIx c.val ch.val) = 1 ∧ t.mem = s.mem)) ∧
    (s.on Reg.RDG_DMA_STATUS_BUSY (dmaIx c.val ch.val) = true → Answers (.dmaGo ini c ch v) s (fun t => t.rc c.val = s.rc c.val ∧
      t.fld Reg.RDG_DMA_STATUS_OVR (dmaIx c.val ch.val) = 1 ∧ t.mem = s.mem))) ∧
  (∀ (s : State) (c : Fin 8) (ch : Fin 4) (ecc : DmaEcc) (a src dst len : Nat), s.on Reg.RDG_DMA_STATUS_BUSY (dmaIx c.val ch.val) = true →
    (s.rc c.val).dma.getD ch.val ⟨0, false⟩ = ⟨a, false⟩ → s.rDesc c.val a = ⟨src, dst, len, 1, 0, 0, 0⟩ → 0 < len → len ≤ 0x100000 → descOk a = true → dst + len ≤ a ∨ a + 32 ≤ dst →
    0x20000 ≤ src → src + len ≤ 0x40000 → 0x20000 ≤ dst → dst + len ≤ 0x40000 →
    (ecc.bad = none → Answers (.dmaDescriptorDone c ch ecc) s (fun t => t.fld Reg.RDG_DMA_STATUS_BUSY (dmaIx c.val ch.val) = 0 ∧
      t.fld Reg.RDG_ECC c.val = (s.fld Reg.RDG_ECC c.val + ecc.corrected) % 2 ^ 32 ∧
      (t.rc c.val).dmem = (((s.rc c.val).dmem.writeN (dst - 0x20000) ((s.rc c.val).dmem.readN (src - 0x20000) len)).writeN (a + 28 - 0x20000) (leBytes 4 len)) ∧
      (t.rc c.val).bank = (s.rc c.val).bank ∧ t.mem = s.mem ∧ ∀ k, k ≠ c.val → t.rc k = s.rc k)) ∧
    (ecc.bad = some 0 → Answers (.dmaDescriptorDone c ch ecc) s (fun t => t.fld Reg.RDG_DMA_STATUS_BUSY (dmaIx c.val ch.val) = 0 ∧
      (t.rc c.val).dmem = (s.rc c.val).dmem.writeN (a + 28 - 0x20000) (leBytes 4 (stDataError * 2 ^ 24)) ∧ t.mem = s.mem))) ∧
  (∀ (s : State) (c : Fin 8) (ch : Fin 4) (a : Nat), s.rHeld c.val = false → (s.rc c.val).dma.getD ch.val ⟨0, false⟩ = ⟨a, false⟩ →
    (s.on Reg.RDG_DMA_STATUS_BUSY (dmaIx c.val ch.val) = true → (s.rGet c.val (a + 14) 2).testBit 4 = false →
      Answers (.dmaAbort c ch) s (fun t => t.fld Reg.RDG_DMA_STATUS_BUSY (dmaIx c.val ch.val) = 0 ∧
        (t.rc c.val).dmem = (s.rc c.val).dmem.writeN (a + 28 - 0x20000) (leBytes 4 (stAborted * 2 ^ 24)) ∧ t.mem = s.mem)) ∧
    (s.on Reg.RDG_DMA_STATUS_BUSY (dmaIx c.val ch.val) = false → Answers (.dmaAbort c ch) s (fun t => t = s)))

/-! ### Chapter 13 -/

/-- R303, R306 to R313: a request with credit returns the line or stores the bytes, one without waits, by class and in turn; an error in one DQ group is corrected and counted, one in two waits for its re-read, which returns the line, or poisons it and captures the error; a poisoned line answers DATA_ERROR until a whole-line write; a request beyond the space ends with a bus error, and one in flight for 100 µs with a fabric timeout. -/
def Obligations.MemoryRequests : Prop :=
  (∀ (s : State) (src : Fin 20) (a : BitVec 38) (w : Option (List Byte)) (first : FirstRead),
    (s.runs 2 = false → Answers (.memRequest src a w first) s (fun t => t = s)) ∧
    (s.runs 2 = true → s.spaceBytes ≤ a.toNat → src.val ≠ 19 →
      Answers (.memRequest src a w first) s (fun t => t = { s with mc := { s.mc with replies := s.mc.replies ++ [⟨src.val, stInvalid, 0, []⟩] } }))) ∧
  (∀ (s : State) (src : Fin 20) (a : BitVec 38) (w : Option (List Byte)) (first : FirstRead) (q : MemReq), s.runs 2 = true → a.toNat < s.spaceBytes → w ≠ some [] →
    q = ⟨src.val, a.toNat, w.map (fun b => b.take (64 - a.toNat % 64)), first, none, s.tick⟩ →
    (s.memCredit (s.chanOf a.toNat).1 = false ∨ s.mc.queue.any (fun e => e.src == src.val) = true → Answers (.memRequest src a w first) s (fun t =>
      t = if src.val = 0 then s else { s with mc := { s.mc with queue := s.mc.queue ++ [q] } })) ∧
    (s.memCredit (s.chanOf a.toNat).1 = true → s.mc.queue.any (fun e => e.src == src.val) = false → first = .stalled ∨ s.mc.flight.any (s.memBehind q) = true →
      Answers (.memRequest src a w first) s (fun t => t = { s with mc := { s.mc with flight := s.mc.flight ++ [q] } }))) ∧
  (∀ (s : State) (src : Fin 20) (a : BitVec 38) (gs : List (Fin 20)) (q : MemReq) (c : Nat) (rs : List MemReply), s.runs 2 = true → a.toNat < s.spaceBytes → src.val ≠ 19 →
    c = (s.chanOf a.toNat).1 → s.memCredit c = true → s.mc.queue.any (fun e => e.src == src.val) = false → q = ⟨src.val, a.toNat, none, .errors gs, none, s.tick⟩ →
    s.mc.flight.any (s.memBehind q) = false → s.poisoned a.toNat 1 = false → rs = s.mc.replies ++ [⟨src.val, stOk, 0, s.mem.ext.readN (a.toNat / 64 * 64) 64⟩] →
    (gs = [] → Answers (.memRequest src a none (.errors gs)) s (fun t => t.mc = { s.mc with replies := rs } ∧ t.mem = s.mem ∧
      t.fld64 Reg.MEM_RD_LO Reg.MEM_RD_HI c = (s.fld64 Reg.MEM_RD_LO Reg.MEM_RD_HI c + 1) % 2 ^ 64 ∧ t.fld Reg.MEM_CE c = s.fld Reg.MEM_CE c)) ∧
    (∀ g, gs.head? = some g → gs.all (· == g) = true → Answers (.memRequest src a none (.errors gs)) s (fun t => t.mc.replies = rs ∧ t.mem = s.mem ∧
      t.fld Reg.MEM_CE c = (s.fld Reg.MEM_CE c + 1) % 2 ^ 32 ∧ t.mc.poison = s.mc.poison ∧ t.mc.flight = s.mc.flight ∧
      t.fld64 Reg.MEM_WR_LO Reg.MEM_WR_HI c = (s.fld64 Reg.MEM_WR_LO Reg.MEM_WR_HI c + 1) % 2 ^ 64)) ∧
    (∀ g, gs.head? = some g → gs.all (· == g) = false → Answers (.memRequest src a none (.errors gs)) s (fun t => t.mem = s.mem ∧
      t.mc = { s.mc with flight := s.mc.flight ++ [{ q with group := some g.val }] } ∧ t.fld Reg.MEM_CE c = s.fld Reg.MEM_CE c))) ∧
  (∀ (s : State) (src : Fin 20) (a : BitVec 38) (bs : List Byte) (q : MemReq) (c home : Nat), s.runs 2 = true → a.toNat < s.spaceBytes → src.val ≠ 19 → bs ≠ [] →
    a.toNat % 64 + bs.length ≤ 64 → c = (s.chanOf a.toNat).1 → home = (s.lineAt a.toNat).2.2.2 → s.memCredit c = true → s.mc.queue.any (fun e => e.src == src.val) = false →
    q = ⟨src.val, a.toNat, some bs, .errors [], none, s.tick⟩ → s.mc.flight.any (s.memBehind q) = false →
    Answers (.memRequest src a (some bs) (.errors [])) s (fun t => t.mem = { s.mem with ext := s.mem.ext.writeN a.toNat bs } ∧
      t.mc = { s.mc with replies := s.mc.replies ++ [⟨src.val, stOk, 0, []⟩],
                         poison := if bs.length = 64 then s.mc.poison.filter (· ≠ a.toNat / 64) else s.mc.poison } ∧
      t.fld64 Reg.MEM_WR_LO Reg.MEM_WR_HI c = (s.fld64 Reg.MEM_WR_LO Reg.MEM_WR_HI c + if s.mc.mig.getD c none = some home then 2 else 1) % 2 ^ 64 ∧
      (bs.length < 64 → t.fld Reg.MEM_POISON_WR c = (s.fld Reg.MEM_POISON_WR c + b2n (s.poisoned a.toNat 1)) % 2 ^ 32))) ∧
  (∀ (s : State) (src : Fin 20) (good fb : Bool) (q : MemReq) (u : State), s.mc.flight.find? (fun q => q.src == src.val && q.group.isSome) = some q → s.runs 2 = true →
    u = { s with mc := { s.mc with flight := s.mc.flight.erase q } }.memReread q good fb → Answers (.memRereadDone src good fb) s (fun t => t = u.memGoOn)) ∧
  (∀ (s : State) (q : MemReq) (fb : Bool) (c : Nat), q.src ≠ 19 → c = (s.chanOf q.off).1 →
    (q.write = none → s.poisoned q.off 1 = false → let u := s.memReread q true fb
      u.mem = s.mem ∧ u.mc = { s.mc with replies := s.mc.replies ++ [⟨q.src, stOk, 0, s.mem.ext.readN (q.off / 64 * 64) 64⟩] } ∧
      u.fld Reg.MEM_REREAD_OK c = (s.fld Reg.MEM_REREAD_OK c + 1) % 2 ^ 32) ∧
    (s.poisoned q.off 1 = false → let u := s.memReread q false false
      u.mem = s.mem ∧ u.mc.poison = s.mc.poison ++ [q.off / 64] ∧ u.mc.replies = s.mc.replies ++ [⟨q.src, stDataError, 2, []⟩] ∧ u.mc.flight = s.mc.flight ∧
      u.fld Reg.MEM_UE c = (s.fld Reg.MEM_UE c + 1) % 2 ^ 32 ∧ u.fld Reg.MEM_ERR_STATUS_UE = 1 ∧ (if s.pw.standalone || s.vecOpen 0 then 0 ∈ u.irqOut else 0 ∈ u.hq.pba) ∧
      (s.on Reg.MEM_ERR_STATUS_UE = true → u.fld Reg.MEM_ERR_STATUS_MULTI = 1 ∧ u.fld Reg.MEM_ERR_ADR_LO = s.fld Reg.MEM_ERR_ADR_LO) ∧
      (s.on Reg.MEM_ERR_STATUS_UE = false → u.fld Reg.MEM_ERR_ADR_LO = q.off / 64 * 64 % 2 ^ 32 ∧ u.fld Reg.MEM_ERR_INFO_SOURCE = q.src % 32 ∧
        u.fld Reg.MEM_ERR_INFO_CH = c ∧ u.fld Reg.MEM_ERR_INFO_GROUP = q.group.getD 0 % 32)) ∧
    (s.poisoned q.off 1 = true → ∀ good, let u := s.memReread q good fb
      u.mc = { s.mc with replies := s.mc.replies ++ [⟨q.src, stDataError, 2, []⟩] } ∧ u.mem = s.mem ∧
      u.fld Reg.MEM_POISON_RD c = (s.fld Reg.MEM_POISON_RD c + 1) % 2 ^ 32 ∧ u.log = s.log)) ∧
  (∀ (s : State), s.mc.flight.all (fun q => q.group.isSome || q.first == .stalled) = true → s.mc.queue = [] → s.mc.freq = none → s.memGoOn = s) ∧
  (∀ (s : State) (q r : MemReq), s.mc.queue = [q, r] → q.src ≠ r.src → s.memCredit (s.chanOf q.off).1 = true → s.memCredit (s.chanOf r.off).1 = true → q.src < 20 → r.src < 20 →
    (memClass r.src < memClass q.src → s.memPick = some 1) ∧ (memClass q.src < memClass r.src → s.memPick = some 0) ∧
    (memClass r.src = memClass q.src → s.mc.turn.getD (memClass q.src - 1) 0 = q.src → s.memPick = some 1)) ∧
  (∀ (s : State) (src : Fin 20) (q : MemReq), s.mc.flight.find? (fun q => q.src == src.val) = some q →
    (s.tick < q.accepted + 20000 → Answers (.fabricTimeout src) s (fun t => t = s)) ∧
    (q.accepted + 20000 ≤ s.tick → ∀ v u : State, v = s.timeoutEvt false (rowOf 0x90000) →
      u = { v with mc := { v.mc with flight := v.mc.flight.erase q, replies := if src.val = 19 then v.mc.replies else v.mc.replies ++ [⟨src.val, stTimeout, 3, []⟩] } } → v.mc = s.mc ∧
      Answers (.fabricTimeout src) s (fun t => t = (u.fabricLost src.val).memGoOn))) ∧
  (∀ (s : State), s.fabricLost 0 = s ∧ (∀ n, 16 ≤ n → s.fabricLost n = s) ∧
    (∀ (i : Fin 3) (j : GJob), s.grm.jobs.find? (fun j => j.inst == some i.val) = some j → s.fabricLost (2 + i.val) = s.jobStop j stTimeout 3)) ∧
  (∀ (s : State) (a : BitVec 38) (first : FirstRead) (c : Nat), c = (s.chanOf a.toNat).1 → s.runs 2 = true → s.fld Reg.MEM_SCRUB ≠ 0 → a.toNat < s.spaceBytes →
    a.toNat / 64 = s.mc.scrubAt → (∀ x ∈ s.mc.scrubLast.getD c none, x + 191 ≤ s.tick) → s.memCredit c = true → s.mc.queue.any (fun e => e.src == 19) = false →
    (s.mc.scrubRests = false ∨ s.mc.scrubFrom + s.fld Reg.MEM_SCRUB * 720000000000 ≤ s.tick) →
    (first = .stalled → Answers (.scrub a first) s (fun t => t.mc.flight = s.mc.flight ++ [⟨19, a.toNat / 64 * 64, none, first, none, s.tick⟩] ∧ t.mem = s.mem ∧
      t.mc.scrubAt = (if s.spaceBytes ≤ a.toNat / 64 * 64 + 64 then 0 else s.mc.scrubAt + 1) ∧ t.mc.scrubLast.getD c none = some s.tick)) ∧
    (∀ g, first = .errors [g] → s.poisoned a.toNat 1 = false → s.mc.flight = [] → Answers (.scrub a first) s (fun t => t.fld Reg.MEM_CE c = (s.fld Reg.MEM_CE c + 1) % 2 ^ 32 ∧
      t.mem = s.mem ∧ t.mc.replies = s.mc.replies ∧ t.mc.flight = []))) ∧
  (∀ (s : State) (a : BitVec 38) (first : FirstRead), s.fld Reg.MEM_SCRUB = 0 ∨ a.toNat / 64 ≠ s.mc.scrubAt ∨ s.memCredit (s.chanOf a.toNat).1 = false →
    Answers (.scrub a first) s (fun t => t = s))

/-- R304, R314, R315, R317 to R319, R321: refreshes are owed while traffic is served, up to four and never on a hot channel; a migration starts, copies line by line, and its end puts the spare in the rank's place; a frequency change is taken or refused and its end shows the target; a pair or a commit of regions takes effect whole or not at all, and ERR names the region that fails; the retirement record is cleared at the next cold reset only. -/
def Obligations.MemoryUpkeep : Prop :=
  (∀ (s : State) (ch : Fin 2) (r : Fin 4) (o : Nat), s.refreshes ch.val r.val = true → o = (s.mc.owed.getD ch.val (Vector.replicate 4 0)).getD r.val 0 →
    (s.on Reg.MEM_CH_STATUS_HOT ch.val = false → s.timerDue (.refresh ch.val r.val) 780 = true → o < 4 → Answers (.refresh ch r true) s (fun t =>
      (t.mc.owed.getD ch.val (Vector.replicate 4 0)).getD r.val 0 = o + 1 ∧ o + 1 ≤ t.fld Reg.MEM_REF_MAXOWED ch.val ∧
      t.fld64 Reg.MEM_REF_LO Reg.MEM_REF_HI ch.val = s.fld64 Reg.MEM_REF_LO Reg.MEM_REF_HI ch.val ∧ t.mem = s.mem)) ∧
    (s.on Reg.MEM_CH_STATUS_HOT ch.val = true ∨ 4 ≤ o → s.timerDue (.refresh ch.val r.val) (if s.on Reg.MEM_CH_STATUS_HOT ch.val then 390 else 780) = true →
      Answers (.refresh ch r true) s (fun t =>
        t.fld64 Reg.MEM_REF_LO Reg.MEM_REF_HI ch.val = (s.fld64 Reg.MEM_REF_LO Reg.MEM_REF_HI ch.val + 1) % 2 ^ 64 ∧ t.mc = s.mc)) ∧
    (s.on Reg.MEM_CH_STATUS_HOT ch.val = false → s.timerDue (.refresh ch.val r.val) 780 = true → Answers (.refresh ch r false) s (fun t =>
      t.fld64 Reg.MEM_REF_LO Reg.MEM_REF_HI ch.val = (s.fld64 Reg.MEM_REF_LO Reg.MEM_REF_HI ch.val + o + 1) % 2 ^ 64 ∧
      (t.mc.owed.getD ch.val (Vector.replicate 4 0)).getD r.val 0 = 0 ∧ t.timerDue (.refresh ch.val r.val) 1 = false)) ∧
    (∀ busy, s.timerDue (.refresh ch.val r.val) 390 = false → Answers (.refresh ch r busy) s (fun t => t = s))) ∧
  (∀ (s : State) (ch : Fin 2) (rs : List (Fin 3)),
    (s.timerDue (.poll ch.val) 6400000 = false → Answers (.memTempPoll ch rs) s (fun t => t = s)) ∧
    (s.timerDue (.poll ch.val) 6400000 = true → rs.any (fun r => decide (1 ≤ r.val)) = false → Answers (.memTempPoll ch rs) s (fun t => t.fld Reg.MEM_CH_STATUS_HOT ch.val = 0 ∧
      OnlyRegs [Reg.MEM_CH_STATUS_HOT.key ch.val] { s with timers := t.timers } t)) ∧
    (s.timerDue (.poll ch.val) 6400000 = true → rs.any (fun r => decide (1 ≤ r.val)) = true → Answers (.memTempPoll ch rs) s (fun t => t.fld Reg.MEM_CH_STATUS_HOT ch.val = 1 ∧
      t.mem = s.mem ∧ (s.on Reg.MEM_CH_STATUS_HOT ch.val = false → t.fld64 Reg.MEM_REF_LO Reg.MEM_REF_HI ch.val =
        (s.fld64 Reg.MEM_REF_LO Reg.MEM_REF_HI ch.val + (s.mc.owed.getD ch.val (Vector.replicate 4 0)).sum) % 2 ^ 64) ∧
      t.fld Reg.MEM_CH_STATUS_OVERTEMP ch.val = (if rs.any (fun r => r.val == 2) then 1 else s.fld Reg.MEM_CH_STATUS_OVERTEMP ch.val) ∧
      (rs.any (fun r => r.val == 2) = true → if s.pw.standalone || s.vecOpen 0 then 0 ∈ t.irqOut else 0 ∈ t.hq.pba)))) ∧
  (∀ (s : State) (ch : Fin 2) (r : Nat), s.mc.want[ch] = some r → Answers (.migrationStart ch) s (fun t => t.mc.mig[ch] = some r ∧ t.mc.want[ch] = none ∧
    t.mc.record.migrating[ch] = (if s.pw.brownBlock then s.mc.record.migrating[ch] else some r) ∧ t.fld Reg.MEM_CH_STATUS_MIG ch.val = 1 ∧
    t.fld Reg.MEM_MIG_PTR ch.val = 0 ∧ t.mem = s.mem)) ∧
  (∀ (s : State) (ch : Fin 2) (r sp : Nat), s.mc.mig[ch] = some r → s.mc.spare[ch] = some sp → r < 4 →
    (s.fld Reg.MEM_MIG_PTR ch.val < s.rankLines ch.val → Answers (.migrationDone ch) s (fun t => t = s)) ∧
    (s.rankLines ch.val ≤ s.fld Reg.MEM_MIG_PTR ch.val → Answers (.migrationDone ch) s (fun t => t.mc.mig[ch] = none ∧
      t.mc.order[ch] = s.mc.order[ch].map (fun x => if x = r then sp else x) ∧ t.mc.record.retired[ch] = (if s.pw.brownBlock then s.mc.record.retired[ch] else some r) ∧
      t.fld Reg.MEM_CH_STATUS_SPARE_USED ch.val = 1 ∧ t.fld Reg.MEM_CH_STATUS_MIG ch.val = 0 ∧ (t.fld Reg.MEM_CH_STATUS_RETIRED ch.val).testBit r = true ∧ t.mem = s.mem ∧
      if s.pw.standalone || s.vecOpen 0 then 0 ∈ t.irqOut else 0 ∈ t.hq.pba))) ∧
  (∀ (s : State) (c : Fin 2) (r : Nat), s.mc.flight = [] → s.mc.poison = [] → s.on Reg.MEM_STATUS_INTLV = true → let u := s.migLine c.val r
    u.fld Reg.MEM_MIG_PTR c.val = (s.fld Reg.MEM_MIG_PTR c.val + 1) % 2 ^ 32 ∧ u.mc = s.mc ∧ u.mem = s.mem ∧
    u.fld64 Reg.MEM_RD_LO Reg.MEM_RD_HI c.val = (s.fld64 Reg.MEM_RD_LO Reg.MEM_RD_HI c.val + 1) % 2 ^ 64 ∧
    u.fld64 Reg.MEM_WR_LO Reg.MEM_WR_HI c.val = (s.fld64 Reg.MEM_WR_LO Reg.MEM_WR_HI c.val + 1) % 2 ^ 64) ∧
  (∀ (s : State) (ini : Initiator) (ch : Fin 2) (v : Word) (r o : Nat), o = Reg.MEM_MIG_CTL_RETIRE.addr ch.val → s.answers o = true → s.crossing o = false →
    r = v.toNat % 8 → r ≠ 7 → v.toNat / 2 ^ 16 % 2 = 0 →
    (s.spareFree ch.val = true → s.mc.order[ch].contains r = true → Answers (.retireWrite ini ch v) s (fun t => t.mc.want[ch] = some r ∧
      t.fld Reg.MEM_MIG_CTL_RETIRE ch.val = 7 ∧ t.fld Reg.MEM_MIG_CTL_RATE ch.val = v.toNat / 2 ^ 8 % 2 ^ 8)) ∧
    (s.spareFree ch.val = false ∨ s.mc.order[ch].contains r = false ∧ (s.mc.spare[ch] = some r ∨ (s.fld Reg.MEM_CH_STATUS_RETIRED ch.val).testBit r = true) →
      Answers (.retireWrite ini ch v) s (fun t => t.mc = s.mc ∧ t.fld Reg.MEM_MIG_CTL_RETIRE ch.val = 7 ∧ t.fld Reg.MEM_MIG_CTL_ERR ch.val = 1)) ∧
    (s.spareFree ch.val = true → s.mc.order[ch].contains r = false → s.mc.spare[ch] ≠ some r → (s.fld Reg.MEM_CH_STATUS_RETIRED ch.val).testBit r = false →
      Answers (.retireWrite ini ch v) s (fun t => t.mc = s.mc ∧ t.fld Reg.GLB_ERR_STATUS_RSVD_WR = 1))) ∧
  (∀ (s : State) (v : Word), s.answers 0x90010 = true → s.crossing 0x90010 = false → v.toNat % 4 ≠ 3 → v.toNat / 16 % 2 = 1 → v.toNat / 2 ^ 12 % 2 = 0 →
    (s.mc.freq = none → s.ringRuns = false → s.panelOn = false → s.mc.mig.any (·.isSome) = false → Answers (.freqChange .summit v) s (fun t => t.mc.freq = some (v.toNat % 4) ∧
      t.fld Reg.MEM_FREQ_CTL_GO = 0 ∧ t.mem = s.mem ∧ t.mc.selfRef = (s.mc.selfRef || s.mc.flight.isEmpty) ∧ t.mc.flight = s.mc.flight ∧ ∀ c, t.memCredit c = false)) ∧
    (s.ringRuns = true ∨ s.panelOn = true ∨ s.mc.mig.any (·.isSome) = true → Answers (.freqChange .summit v) s (fun t => t.mc = s.mc ∧
      t.fld Reg.MEM_FREQ_CTL_ERR = 1 ∧ t.fld Reg.MEM_FREQ_CTL_GO = 0))) ∧
  (∀ (s : State) (n : Nat), s.mc.freq = some n → n < 4 →
    (s.mc.selfRef = false ∨ s.runs 2 = false → Answers .freqChangeDone s (fun t => t = s)) ∧
    (s.mc.selfRef = true → s.runs 2 = true → s.mc.flight = [] → s.mc.queue = [] → Answers .freqChangeDone s (fun t => t.fld Reg.MEM_FREQ_CTL_CUR = n ∧
      t.mc = { s.mc with freq := none, setB := !s.mc.setB, speed := n, selfRef := false, record := t.mc.record } ∧ (s.pw.brownBlock = false → n ∈ t.mc.record.speeds) ∧
      OnlyRegs [Reg.MEM_FREQ_CTL_CUR.key 0] { s with mc := t.mc } t))) ∧
  (∀ (s : State) (ini : Initiator) (n : Fin 7) (v : Word) (tb : List (Nat × Nat)), s.answers (Reg.MEM_RGN_SIZE.addr n.val) = true → s.crossing (Reg.MEM_RGN_SIZE.addr n.val) = false →
    s.rgnLocked ini n.val = false → tb = setAt s.rgnTable n.val (s.fld Reg.MEM_RGN_BASE n.val, v.toNat % 2 ^ 18) →
    (s.rgnOk tb n.val = true → Answers (.rgnSizeWrite ini n v) s (fun t => t.rgnTable = tb ∧ t.fld Reg.MEM_RGN_SIZE n.val = v.toNat % 2 ^ 18 ∧ t.fld Reg.MEM_RGN_CTL_ERR = 7)) ∧
    (s.rgnOk tb n.val = false → Answers (.rgnSizeWrite ini n v) s (fun t => t.rgnTable = s.rgnTable ∧ t.fld Reg.MEM_RGN_SIZE n.val = v.toNat % 2 ^ 18 ∧
      t.fld Reg.MEM_RGN_CTL_ERR = n.val))) ∧
  (∀ (s : State) (ini : Initiator) (v : Word), s.answers 0x90140 = true → s.crossing 0x90140 = false → v.toNat % 2 = 1 →
    (∀ n, n < 7 → s.rgnLocked ini n = false ∨ s.rgnStaged.getD n (0, 0) = s.rgnTable.getD n (0, 0)) →
    ((∀ n, n < 7 → s.rgnOk s.rgnStaged n = true) → Answers (.rgnCommit ini v) s (fun t => t.rgnTable = s.rgnStaged ∧ t.fld Reg.MEM_RGN_CTL_ERR = 7 ∧ t.fld Reg.MEM_RGN_CTL_COMMIT = 0)) ∧
    (∀ n, n < 7 → s.rgnOk s.rgnStaged n = false → (∀ m, m < n → s.rgnOk s.rgnStaged m = true) → Answers (.rgnCommit ini v) s (fun t => t.rgnTable = s.rgnTable ∧
      t.fld Reg.MEM_RGN_CTL_ERR = n ∧ t.fld Reg.MEM_RGN_CTL_COMMIT = 0))) ∧
  (∀ (s : State) (ch : Fin 2) (v : Word), s.answers (Reg.MEM_SPARE_CLR.addr ch.val) = true → s.crossing (Reg.MEM_SPARE_CLR.addr ch.val) = false → s.pw.brownBlock = false →
    v.toNat % 2 ^ 16 = 0x5EA1 → Answers (.memSpareClr .summit ch v) s (fun t =>
      t.mc.record.clear[ch] = true ∧ t.mc.record.retired = s.mc.record.retired ∧ t.mem = s.mem))

/-! ### Chapter 14 -/

/-- R330 to R334, R336, R337: the cairn program. Each instruction of the running sequencer writes what its row says, K0 reading 0 and ignoring writes, arithmetic modulo 2^16 and addresses modulo 4,096, and goes to the next word, a taken branch to its target; nothing else changes. WAITF takes a waiting zone block or waits; OUT writes VBT registers and halts on another port; TGRAM commits the cairn slot and advances the alive counter; WAKE starts the way to RUN with its reason, and halts on a reason that is none; STBY starts the way to STANDBY or is refused; a branch past the program and the watchdog halt the sequencer and ask for RUN; a sequencer that is not running does nothing. -/
def Obligations.CairnProgram : Prop :=
  (∀ (s : State) (k : Crn) (pc : Nat), s.crnRuns = true → k = s.crn → pc = s.fld Reg.CRN_PC + 1 → pc < k.words → pc < 4096 →
    Advances .crnNop s k pc ∧
    (∀ kd ka kb : Fin 16, Advances (.crnAdd kd ka kb) s (k.setReg kd (k.reg ka + k.reg kb)) pc ∧ Advances (.crnSub kd ka kb) s (k.setReg kd (k.reg ka - k.reg kb)) pc ∧
      Advances (.crnAnd kd ka kb) s (k.setReg kd (k.reg ka &&& k.reg kb)) pc ∧ Advances (.crnOr kd ka kb) s (k.setReg kd (k.reg ka ||| k.reg kb)) pc ∧
      Advances (.crnCmp ka kb) s { k with z := decide (k.reg ka = k.reg kb), c := decide (k.reg kb ≤ k.reg ka) } pc ∧
      Advances (.rules kd ka kb) s (k.setReg kd (BitVec.ofNat 16 (s.ruleScan (k.reg ka).toNat (k.reg kb).toNat 64 1))) pc) ∧
    (∀ (kd ka : Fin 16) (imm : BitVec 16) (a : Nat), a = ((k.reg ka).toNat + imm.toNat) % 4096 → Advances (.addi kd ka imm) s (k.setReg kd (k.reg ka + imm)) pc ∧
      Advances (.ld kd ka imm) s (k.setReg kd (BitVec.ofNat 16 (k.word a))) pc ∧ Advances (.st kd ka imm) s (k.store a (k.reg kd).toNat) pc) ∧
    (∀ kd ka n : Fin 16, Advances (.shr kd ka n) s (k.setReg kd (k.reg ka >>> n.val)) pc) ∧
    (∀ (kd ka kb n : Fin 16) (a y y' : Nat), a = (k.reg ka).toNat → y = k.word a * 2 ^ 16 + k.word (a + 1) → y < 2 ^ 32 →
      (y' : Int) = y + Int.fdiv (((k.reg kb).toNat : Int) * 2 ^ 16 - y) (2 ^ n.val) →
      Advances (.iir kd ka kb n) s (((k.store a (y' / 2 ^ 16)).store (a + 1) (y' % 2 ^ 16)).setReg kd (BitVec.ofNat 16 (min 65535 ((y' + 2 ^ 15) / 2 ^ 16)))) pc) ∧
    (∀ (c : CrnCond) (t : BitVec 12), t.toNat < k.words →
      Advances (.crnBr c t) s k (if (match c with | .always => true | .eq => k.z | .ne => !k.z | .geu => k.c | .ltu => !k.c) then t.toNat else pc)) ∧
    (∀ (kd : Fin 16) (p : BitVec 16), p.toNat ≠ 8 → Advances (.crnIn kd p) s
      ({ k with lastCh := if p.toNat < 8 then some p.toNat else k.lastCh }.setReg kd (BitVec.ofNat 16
        (if p.toNat < 8 then s.fld Reg.SAD_RES_CODE p.toNat / 2 ^ 8 else if 16 ≤ p.toNat ∧ p.toNat ≤ 23 then s.fld Reg.TIU_IN_COUNT_LO (p.toNat - 16)
         else if p.toNat = 24 then s.vb.levels else if p.toNat = 25 then s.fld64 Reg.VBT_RTC_LO Reg.VBT_RTC_HI / 2 ^ 15 else 0))) pc)) ∧
  (∀ (s : State) (k : Crn) (pc : Nat), s.crnRuns = true → k = s.crn → pc = s.fld Reg.CRN_PC + 1 → pc < k.words → pc < 4096 →
    (∀ kd : Fin 16, s.on Reg.CRN_STATUS_ZREADY = true → Answers (.waitf kd) s (fun t => t.crn = ({ k with missed := 0, fedTick := s.tick }).setReg kd (BitVec.ofNat 16 (min 65535 k.missed)) ∧
      t.fld Reg.CRN_STATUS_ZREADY = 0 ∧ t.fld Reg.CRN_PC = pc ∧ t.crnRuns = true ∧ t.mem = s.mem)) ∧
    (∀ kd : Fin 16, s.on Reg.CRN_STATUS_ZREADY = false → Answers (.waitf kd) s (fun t => t.fld Reg.CRN_STATUS_STATE = 2 ∧ OnlyRegs [Reg.CRN_STATUS_STATE.key 0] s t)) ∧
    (∀ (kd : Fin 16) (v : Nat), v = (k.reg kd).toNat → s.vb.writes.length < 4 →
      Answers (.crnOut kd 32) s (fun t => t.vb.writes = s.vb.writes ++ [(0xF0210, v)] ∧ t.fld Reg.VBT_WAKE_CFG_EN = v % 16 ∧ t.fld Reg.CRN_PC = pc ∧ t.crn = k ∧ t.mem = s.mem) ∧
      Answers (.crnOut kd 33) s (fun t => t.vb.writes = s.vb.writes ++ [(0xF0208, (s.fld64 Reg.VBT_RTC_LO Reg.VBT_RTC_HI + v * 32768) % 2 ^ 48)] ∧
        t.fld Reg.CRN_PC = pc ∧ t.crn = k ∧ t.mem = s.mem)) ∧
    (∀ (ka kb : Fin 16) (a z : Nat), a = (k.reg ka).toNat → z = k.word a + k.word (a + 1) * 2 ^ 16 + k.word (a + 2) * 2 ^ 32 + k.word (a + 3) * 2 ^ 48 → s.pstate = stWatch →
      Answers (.tgram ka kb) s (fun t => t.pat.cairn = ⟨z, (k.reg kb).toNat % 16⟩ ∧ t.fld Reg.PAT_STATUS_ALIVE = (s.fld Reg.PAT_STATUS_ALIVE + 1) % 2 ^ Reg.PAT_STATUS_ALIVE.width ∧
        t.fld Reg.CRN_PC = pc ∧ t.crn = { k with fedTick := s.tick } ∧ t.mem = s.mem)) ∧
    (∀ r : BitVec 8, 1 ≤ r.toNat → r.toNat ≤ 0xEF → s.pstate = stWatch → s.pw.trans = none → Answers (.wake r) s (fun t => t.pw.trans = some ⟨1, 2, [], true⟩ ∧
      t.fld Reg.CRN_WAKE_REASON = r.toNat ∧ t.fld Reg.PWR_WAKE_SRC_CAIRN_RULE = 1 ∧ t.fld Reg.CRN_PC = pc ∧ t.crn = k ∧ t.mem = s.mem)) ∧
    (∀ r : BitVec 8, r.toNat = 0 ∨ 0xEF < r.toNat → Answers (.wake r) s (fun t => t.fld Reg.CRN_STATUS_STATE = crnHalted ∧ t.fld Reg.CRN_STATUS_CAUSE = 1)) ∧
    (s.pw.trans = none → s.pw.vbatPresent = true → s.vb.cfg % 16 ≠ 0 → Answers .stby s (fun t => t.pw = { s.pw with trans := some ⟨1, 3, [], true⟩ } ∧ t.fld Reg.CRN_PC = pc ∧
      SameRegs [Reg.CRN_PC.key 0] s t)) ∧
    (s.pw.trans = none → (s.pw.vbatPresent = false ∨ s.vb.cfg % 16 = 0) → Answers .stby s (fun t => t.pw = s.pw ∧ t.fld Reg.CRN_STATUS_STBY_REFUSED = 1 ∧ t.fld Reg.CRN_PC = pc))) ∧
  (∀ (s : State), s.crnRuns = true → s.pstate = stWatch → s.pw.trans = none →
    (∀ (kd : Fin 16) (p : BitVec 16), p.toNat ≠ 32 → p.toNat ≠ 33 → Answers (.crnOut kd p) s (fun t => t.fld Reg.CRN_STATUS_STATE = crnHalted ∧ t.fld Reg.CRN_STATUS_CAUSE = 1 ∧
      t.pw.trans = some ⟨1, 2, [], true⟩ ∧ t.fld Reg.CRN_WAKE_REASON = 0xF0 ∧ t.crn = s.crn ∧ t.mem = s.mem)) ∧
    (∀ c : BitVec 12, s.crn.words ≤ c.toNat → Answers (.crnBr .always c) s (fun t => t.fld Reg.CRN_STATUS_STATE = crnHalted ∧ t.fld Reg.CRN_STATUS_CAUSE = 2 ∧
      t.fld Reg.CRN_PC = c.toNat ∧ t.fld Reg.CRN_WAKE_REASON = 0xF0)) ∧
    (s.tick < s.crn.fedTick + max 1 (s.fld Reg.CRN_WDOG) * 200000 → Answers .crnWatchdog s (fun t => t = s)) ∧
    (s.crn.fedTick + max 1 (s.fld Reg.CRN_WDOG) * 200000 ≤ s.tick → Answers .crnWatchdog s (fun t => t.fld Reg.CRN_STATUS_STATE = crnHalted ∧ t.fld Reg.CRN_STATUS_CAUSE = 3 ∧ t.fld Reg.CRN_WAKE_REASON = 0xF1 ∧
      t.pw.trans = some ⟨1, 2, [], true⟩ ∧ t.crn = s.crn ∧ t.mem = s.mem))) ∧
  (∀ (s : State) (i : Instr), (crnEncode i).isSome = true → s.crnRuns = false → exec i s = .next s)

/-- R327, R328, R338 to R340, R344: a frame of the slice writes its zone block, sets ZREADY and counts a block that was not taken; the RTC counts at each crystal period and is copied into the mirror; the oldest waiting write is committed; the alarm, a wake pin and TAMPER act by their enables, a pin once for each assertion. -/
def Obligations.WatchAndVbat : Prop :=
  (∀ (s : State) (x : WatchIn), s.watchDue = false → Answers (.watchFrame x) s (fun t => t = s)) ∧
  (∀ (s : State) (x : WatchIn), s.watchDue = true → Answers (.watchFrame x) s (fun t => t.fld Reg.CRN_STATUS_ZREADY = 1 ∧ t.crn.frames = s.crn.frames + 1 ∧
    t.fld Reg.CRN_ZFRAME = (s.fld Reg.CRN_ZFRAME + 1) % 2 ^ 32 ∧
    t.fld Reg.CRN_ZMISS = (s.fld Reg.CRN_ZMISS + b2n (s.on Reg.CRN_STATUS_ZREADY)) % 2 ^ 32 ∧ t.crn.k = s.crn.k ∧ t.mem = s.mem ∧
    (∀ a, a < 3840 → Store.read 0 t.crn.dmem a = Store.read 0 s.crn.dmem a) ∧
    (∀ z, z < 256 → s.fld Reg.CRN_ZONE_COUNT z = 0 ∨ s.crn.theta = [] → Store.read 0 t.crn.dmem (3840 + z) = 0) ∧
    (s.fld Reg.CRN_STATUS_STATE = 2 → t.crnRuns = true))) ∧
  (∀ s : State, (s.timerDue .mirror 6103 = false → Answers .vbtMirrorCopy s (fun t => t = s)) ∧
    (s.timerDue .mirror 6103 = true → (s.vb.rtc + 1) % 2 ^ 48 ≠ s.vb.alarm → Answers .vbtMirrorCopy s (fun t =>
      t.vb = { s.vb with rtc := (s.vb.rtc + 1) % 2 ^ 48, matched := false } ∧ t.pw = s.pw ∧ t.mem = s.mem ∧
      (s.cairnAlive = true → s.vb.writes = [] → t.fld64 Reg.VBT_RTC_LO Reg.VBT_RTC_HI = (s.vb.rtc + 1) % 2 ^ 48 ∧
        ∀ n, n < 16 → t.fld Reg.VBT_RET n = s.vb.ret.getD n 0 % 2 ^ 32))) ∧
    (s.timerDue .mirror 6103 = true → (s.vb.rtc + 1) % 2 ^ 48 = s.vb.alarm →
      (s.pw.standby = true → s.vb.cfg.testBit 0 = true → Answers .vbtMirrorCopy s (fun t => t.pw.wakeLatch = s.pw.wakeLatch ||| 1 ∧ t.vb.stRtc = s.vb.stRtc ∧ t.vb.rtc = s.vb.alarm)) ∧
      (s.pw.standby = false ∨ s.vb.cfg.testBit 0 = false → Answers .vbtMirrorCopy s (fun t => t.pw = s.pw ∧ t.vb.stRtc = true ∧ t.vb.rtc = s.vb.alarm)))) ∧
  (∀ (s : State) (off v : Nat) (ws : List (Nat × Nat)), s.vb.writes = (off, v) :: ws → Answers .vbtCommit s (fun t => t.vb.writes = ws ∧
    (off = 0xF0200 → t.vb.rtc = v % 2 ^ 48) ∧ (off = 0xF0208 → t.vb.alarm = v % 2 ^ 48) ∧ (off = 0xF0210 → t.vb.cfg = v % 2 ^ 10) ∧
    (off = 0xF0214 → t.vb.stRtc = (s.vb.stRtc && !v.testBit 0) ∧ t.vb.stTamper = (s.vb.stTamper && !v.testBit 1)) ∧
    (∀ n : Fin 16, off = 0xF0240 + 4 * n.val → t.vb.ret[n] = v % 2 ^ 32) ∧ t.fld Reg.VBT_COMMIT_QUEUED = ws.length % 8 ∧ t.mem = s.mem)) ∧
  (∀ s : State, (s.vb.rtc ≠ s.vb.alarm ∨ s.vb.matched = true → Answers .rtcAlarm s (fun t => t = s)) ∧
    (s.vb.rtc = s.vb.alarm → s.vb.matched = false → s.pw.standby = true → s.vb.cfg.testBit 0 = true → Answers .rtcAlarm s (fun t =>
      t = { s with pw := { s.pw with wakeLatch := s.pw.wakeLatch ||| 1 }, vb := { s.vb with matched := true } })) ∧
    (s.vb.rtc = s.vb.alarm → s.vb.matched = false → s.pw.standby = false ∨ s.vb.cfg.testBit 0 = false → Answers .rtcAlarm s (fun t =>
      t = { s with vb := { s.vb with matched := true, stRtc := true } }))) ∧
  (∀ (s : State) (p : Fin 2),
    (s.vb.armed[p] = true → s.vb.cfg.testBit (1 + p.val) = true → s.pw.standby = true → Answers (.wakePin p true) s (fun t =>
      t.pw.wakeLatch = s.pw.wakeLatch ||| 2 ^ (1 + p.val) ∧ t.vb.armed[p] = false)) ∧
    (s.vb.armed[p] = false ∨ s.vb.cfg.testBit (1 + p.val) = false → Answers (.wakePin p true) s (fun t => t.pw = s.pw ∧ t.vb.armed[p] = false ∧ t.vb.levels.testBit p.val = true)) ∧
    Answers (.wakePin p false) s (fun t => t.pw = s.pw ∧ t.vb.armed[p] = true ∧ t.vb.levels.testBit p.val = false)) ∧
  (∀ s : State, (s.vb.levels.testBit 2 = false → Answers (.tamperAssert true) s (fun t => t.vb.stTamper = true ∧ t.vb.tamperTime = s.vb.rtc ∧
      (s.pw.standby = true → s.vb.cfg.testBit 3 = true → t.pw.wakeLatch = s.pw.wakeLatch ||| 8) ∧ (s.vb.cfg.testBit 3 = false → t.pw = s.pw))) ∧
    Answers (.tamperAssert false) s (fun t => t.vb.stTamper = s.vb.stTamper ∧ t.vb.tamperTime = s.vb.tamperTime ∧ t.vb.levels.testBit 2 = false ∧ t.pw = s.pw))

/-! ### Chapter 15 -/

/-- R346, R347, R353, R360 to R362: a good record is applied to its channel, whose filter starts again, one for a channel in its calibration slot waits, and a bad one names its field; SAD_READ writes 24 bytes for each channel of the mask or nothing; a self-calibration takes the nine converters from SA0 on; SAD_FALLBACK joins SX to a pair, releases it, or is refused while SX or a calibration is busy. -/
def Obligations.SadCommands : Prop :=
  (∀ (s : State) (h : Fin 256) (d : CmdData) (bs : List Byte) (x : Handle) (n k : Nat), s.cmd? h.val 0x60 = some x → x.p 0 = n →
    (8 < n → Ends (.sadConfig h d) s h.val stInvalid 24 0 0 (fun u => u = s)) ∧
    (n ≤ 8 → s.dataOf x d = some (k, bs) →
      (k ≠ 48 → Ends (.sadConfig h d) s h.val stInvalid 16 0 0 (fun u => u = s.dataRead x d)) ∧
      (∀ o, k = 48 → sadBad n bs = some o → Ends (.sadConfig h d) s h.val stInvalid 0xFF o 0 (fun u => u = s.dataRead x d)) ∧
      (k = 48 → sadBad n bs = none → s.sad.cal = none → Ends (.sadConfig h d) s h.val stOk 0 0 0 (fun u => u = (s.dataRead x d).sadApply n bs)) ∧
      (∀ (g : Option Nat) (c m : Nat), k = 48 → sadBad n bs = none → s.sad.cal = some (g, c, m) → s.carrier n = some c →
        Answers (.sadConfig h d) s (fun t => t.sad = { s.sad with waits := s.sad.waits ++ [⟨h.val, n, bs⟩] })))) ∧
  (∀ (s : State) (n : Nat) (bs : List Byte), n ≤ 8 → let u := s.sadApply n bs
    u.mem = s.mem ∧ u.fld Reg.SAD_CH_CFG_EN n = field bs 6 1 / 2 ^ 7 % 2 ∧ u.fld Reg.SAD_CH_CFG_GAIN n = field bs 12 1 % 8 ∧ u.fld Reg.SAD_CH_CFG_KIND n = field bs 15 1 % 4 ∧
    u.fld Reg.SAD_CH_DEC n = field bs 8 4 % 2 ^ Reg.SAD_CH_DEC.width ∧ (u.fld Reg.SAD_RES_FLAGS_FLAGS n).testBit 0 = false ∧
    (∀ k, k < 9 → k ≠ n → u.fld Reg.SAD_CH_STATUS_STATE k = s.fld Reg.SAD_CH_STATUS_STATE k ∧ u.sadCh k = s.sadCh k)) ∧
  (∀ (s : State) (n : Nat) (bs : List Byte), n ≤ 8 → (s.carrier n).isSome = true → field bs 6 1 / 2 % 2 = 0 → let u := s.sadApply n bs
    u.fld Reg.SAD_CH_STATUS_STATE n = (if u.on Reg.SAD_CH_CFG_EN n then sadSettling else sadOff) ∧ (u.sadCh n).startAt = s.now) ∧
  (∀ (s : State) (h : Fin 256) (d : CmdData) (x : Handle) (m : Nat), s.cmd? h.val 0x62 = some x → x.p 0 = m →
    (m = 0 ∨ 511 < m → Ends (.sadRead h d) s h.val stInvalid 24 0 0 (fun u => u = s)) ∧
    (∀ (b : Buffer) (v : State) (bs : List Byte), m ≠ 0 → m ≤ 511 → s.buffer x d = (b, v) → bs = ((List.range 9).filter (fun n => m.testBit n)).flatMap s.sadRecord →
      bs.length = 24 * ((List.range 9).filter (fun n => m.testBit n)).length ∧
      (bs.length ≤ segsLen b.1 → Ends (.sadRead h d) s h.val stOk 0 bs.length 0 (fun u => u = v.putSegs x.engine b.1 bs)) ∧
      (segsLen b.1 < bs.length → b.2 = .whole → Ends (.sadRead h d) s h.val stNoSpace 0 0 0 (fun u => u = v)))) ∧
  (∀ (s : State) (h : Fin 256) (x : Handle), s.cmd? h.val 0x61 = some x →
    (s.sad.cal.isSome = true → Ends (.sadSelfcal h) s h.val stBusy 0x61 0 0 (fun u => u = s)) ∧
    (s.sad.cal = none → s.sad.fb.isSome = true → Ends (.sadSelfcal h) s h.val stBusy 0x63 0 0 (fun u => u = s)) ∧
    (s.sad.cal = none → s.sad.fb = none → Answers (.sadSelfcal h) s (fun t => t.sad.cal = some (some h.val, 0, 0) ∧ t.fld Reg.SAD_STATUS_CAL_BUSY = 1 ∧
      (t.fld Reg.SAD_STATUS_ACTIVE).testBit 0 = false))) ∧
  (∀ (s : State) (h : Fin 256) (x : Handle) (n : Nat), s.cmd? h.val 0x63 = some x → x.p 0 = n →
    (7 < n → n ≠ 0xFF → Ends (.sadFallback h) s h.val stInvalid 24 0 0 (fun u => u = s)) ∧
    (n ≤ 7 ∨ n = 0xFF → s.sad.cal.isSome = true → Ends (.sadFallback h) s h.val stBusy 0x61 0 0 (fun u => u = s)) ∧
    (n ≤ 7 ∨ n = 0xFF → s.sad.cal = none → s.sad.fb.isSome = true → Ends (.sadFallback h) s h.val stBusy 0x63 0 0 (fun u => u = s)) ∧
    (s.sad.cal = none → s.sad.fb = none →
      (n = 0xFF → s.sxPair = none → Ends (.sadFallback h) s h.val stOk 0 0 0 (fun u => u = s)) ∧
      (∀ p, n ≤ 7 → s.sxPair = some p → n ≠ p → Ends (.sadFallback h) s h.val stBusy 0x63 0 0 (fun u => u = s)) ∧
      (n ≤ 7 → s.sxPair = some n → s.sad.role = s.fld Reg.SAD_STATUS_FB_ROLE → Ends (.sadFallback h) s h.val stOk 0 0 0 (fun u => u = s)) ∧
      (∀ p, n = 0xFF → s.sxPair = some p → s.on Reg.SAD_STATUS_FB_ROLE = true → Ends (.sadFallback h) s h.val stOk 0 0 0 (fun u =>
        u = (((s.setF Reg.SAD_STATUS_FB_PAIR 0xF).clrF Reg.SAD_STATUS_ACTIVE 0x100).setF Reg.SAD_STATUS_FB_PHASE 0).setF Reg.SAD_CH_STATUS_STATE sadOff 8 ∧ u.sxPair = none)) ∧
      (∀ p, n = 0xFF → s.sxPair = some p → s.on Reg.SAD_STATUS_FB_ROLE = false → Answers (.sadFallback h) s (fun t => t.sxPair = none ∧ t.sad.fb = some (some h.val, p, p) ∧
        t.fld Reg.SAD_STATUS_FB_PHASE = 1)) ∧
      (n ≤ 7 → s.sxPair = none ∨ s.sxPair = some n ∧ s.sad.role = 0 ∧ s.fld Reg.SAD_STATUS_FB_ROLE = 1 → Answers (.sadFallback h) s (fun t => t.sxPair = some n ∧
        t.sad.fb = some (some h.val, 8, n) ∧ t.fld Reg.SAD_STATUS_FB_PHASE = 1 ∧ t.timerDue .discharge 1 = false ∧
        t.fld Reg.SAD_STATUS_FB_ROLE = s.sad.role % 2 ∧ (s.sad.role = 0 → t.fld Reg.SAD_CH_STATUS_SX n = 1 ∧ (t.fld Reg.SAD_STATUS_ACTIVE).testBit n = false))) ∧
      (n ≤ 7 → s.sxPair = some n → s.sad.role = 1 → s.fld Reg.SAD_STATUS_FB_ROLE = 0 → Answers (.sadFallback h) s (fun t => t.sxPair = some n ∧
        t.sad.fb = some (some h.val, n, n) ∧ t.fld Reg.SAD_STATUS_FB_ROLE = 1 ∧ t.fld Reg.SAD_CH_STATUS_SX n = 0 ∧ t.fld Reg.SAD_STATUS_FB_PHASE = 1))))

/-- R350 to R354, R358 to R362: a result is corrected by its converter's offset and gain, rounded, clamped and published with its flags; a start converts once or is counted; SA_BLANK and its limit are shown; the discharge of a switch ends; a calibration slot loads values within their limits only, and the last one completes the command with the mask.  Each has its effect at its own time only. -/
def Obligations.SadEvents : Prop :=
  (∀ (s : State) (c : Fin 9) (n : Nat) (f : BitVec 64) (v raw q : Int) (ovr pos : Bool), s.slowUp = true → s.carried c.val = some n → n < 9 → s.on Reg.SAD_CH_CFG_EN n = true →
    s.fld Reg.SAD_CH_STATUS_STATE n = sadSettling ∨ s.fld Reg.SAD_CH_STATUS_STATE n = sadConverting → s.sad.cal.any (fun k => k.2.1 == c.val) = false → s.sad.fb = none → s.sadBlanked n = false →
    (s.sadCh n).startAt ≤ f.toNat → f.toNat ≤ s.now →
    raw = shrRne ((v - s.fldS Reg.SAD_CAL_OFS c.val) * s.fld Reg.SAD_CAL_GAIN c.val) 22 → q = max (-8388608) (min 8388607 raw) →
    Answers (.sadResult c f v ovr pos) s (fun t => t.fldS Reg.SAD_RES_CODE n = q ∧ t.fld Reg.SAD_RES_SEQ n = (s.fld Reg.SAD_RES_SEQ n + 1) % 2 ^ 32 ∧
      t.fld Reg.SAD_RES_FLAGS_CONVERTER n = c.val ∧ t.fld64 Reg.SAD_RES_STAMP_LO Reg.SAD_RES_STAMP_HI n = s.now % 2 ^ 64 ∧
      (t.fld Reg.SAD_RES_FLAGS_FLAGS n).testBit 0 = true ∧ (t.fld Reg.SAD_RES_FLAGS_FLAGS n).testBit 1 = ovr ∧ (t.fld Reg.SAD_RES_FLAGS_FLAGS n).testBit 2 = decide (q ≠ raw) ∧
      (t.fld Reg.SAD_RES_FLAGS_FLAGS n).testBit 9 = decide (c.val = 8) ∧ (t.fld Reg.SAD_RES_FLAGS_FLAGS n).testBit 7 = s.on Reg.SAD_CH_CFG_MAINS n ∧
      (ovr = true ∨ q ≠ raw → (t.fld Reg.SAD_RES_FLAGS_FLAGS n).testBit 8 = true ∧ t.fld Reg.SAD_RES_VALUE n = 0) ∧
      (ovr = false → q = raw → (t.fld Reg.SAD_RES_FLAGS_FLAGS n).testBit 8 = (s.sadValue n q).isNone ∧ t.fld Reg.SAD_RES_VALUE n = code 32 ((s.sadValue n q).getD 0)) ∧
      t.fld Reg.SAD_CH_STATUS_STATE n = (if s.on Reg.SAD_CH_CFG_SINGLE n then sadIdle else sadConverting) ∧ t.mem = s.mem)) ∧
  (∀ (s : State) (n : Nat) (q : Int), s.fld Reg.SAD_CH_CFG_KIND n = 0 → s.on Reg.SAD_CH_CFG_REF n = false →
    s.sadValue n q = some (shrRne (q * 1250000) (23 + s.fld Reg.SAD_CH_CFG_GAIN n))) ∧
  (∀ (s : State) (n : Fin 9), (s.carrier n.val).isSome = true → s.on Reg.SAD_CH_CFG_EN n.val = true → s.on Reg.SAD_CH_CFG_SINGLE n.val = true →
    (s.fld Reg.SAD_CH_STATUS_STATE n.val = sadIdle → Answers (.sadStart n) s (fun t => t.fld Reg.SAD_CH_STATUS_STATE n.val = sadConverting ∧ (t.sadCh n.val).startAt = s.now ∧
      OnlyRegs [Reg.SAD_CH_STATUS_STATE.key n.val] { s with sad := t.sad } t)) ∧
    (s.fld Reg.SAD_CH_STATUS_STATE n.val ≠ sadIdle → Answers (.sadStart n) s (fun t =>
      t.fld Reg.SAD_BUSY_HIT n.val = (s.fld Reg.SAD_BUSY_HIT n.val + 1) % 2 ^ Reg.SAD_BUSY_HIT.width ∧ OnlyRegs [Reg.SAD_BUSY_HIT.key n.val] s t))) ∧
  (∀ (s : State) (level : Bool), (s.on Reg.SAD_STATUS_BLANK = level → Answers (.saBlankChange level) s (fun t => t = s)) ∧
    (s.slowUp = true → s.on Reg.SAD_STATUS_BLANK = !level → Answers (.saBlankChange level) s (fun t => t.on Reg.SAD_STATUS_BLANK = level ∧
      t.fld Reg.SAD_BLANK_COUNT = (s.fld Reg.SAD_BLANK_COUNT + b2n level) % 2 ^ Reg.SAD_BLANK_COUNT.width ∧
      t.sad.pauses.head?.map (fun p => (p.start, p.stuck, p.stop)) =
        (if level then some (s.now, none, none) else s.sad.pauses.head?.map (fun p => (p.start, p.stuck, some s.now))) ∧
      SameRegs [Reg.SAD_STATUS_BLANK.key 0, Reg.SAD_BLANK_COUNT.key 0] s t ∧ t.mem = s.mem))) ∧
  (∀ (s : State) (p : Pause), s.slowUp = true → s.on Reg.SAD_STATUS_BLANK = true → s.sad.pauses.head? = some p → p.stuck = none →
    (s.now ≤ p.start + max 1 (s.fld Reg.SAD_CTL) * 1000000 → Answers .blankMaxExpiry s (fun t => t = s)) ∧
    (p.start + max 1 (s.fld Reg.SAD_CTL) * 1000000 < s.now → Answers .blankMaxExpiry s (fun t =>
      t.fld Reg.SAD_STATUS_BLANK_STUCK = 1 ∧ t.sad.pauses.head?.map (·.stuck) = some (some s.now) ∧ t.mem = s.mem))) ∧
  (∀ (s : State) (h : Option Nat) (c p : Nat), s.sad.fb = some (h, c, p) → c < 9 → s.slowUp = true → s.fld Reg.SAD_STATUS_FB_PHASE = 1 ∨ s.fld Reg.SAD_STATUS_FB_PHASE = 2 →
    (s.timerDue .discharge 20200 = false → Answers .fbDischargeEnd s (fun t => t = s)) ∧
    (s.timerDue .discharge 20200 = true → Answers .fbDischargeEnd s (fun t => t.fld Reg.SAD_STATUS_FB_PHASE = 3 ∧ (t.fld Reg.SAD_STATUS_ACTIVE).testBit c = true ∧
      OnlyRegs [Reg.SAD_STATUS_FB_PHASE.key 0, Reg.SAD_STATUS_ACTIVE.key 0] { s with sad := t.sad } t))) ∧
  (∀ (s : State) (h : Option Nat) (k m : Nat) (ofs gain : BitVec 24) (good : Bool), s.sad.cal = some (h, k, m) → k < 9 → s.slowUp = true →
    good = decide (ofs.toInt.natAbs ≤ 2 ^ 20 ∧ 95 * 2 ^ 22 ≤ 100 * gain.toNat ∧ 100 * gain.toNat ≤ 105 * 2 ^ 22) →
    (s.timerDue .slot 4800000 = false → Answers (.selfcalSlotEnd ofs gain) s (fun t => t = s)) ∧
    (s.timerDue .slot 4800000 = true → s.sad.waits = [] → k < 8 → Answers (.selfcalSlotEnd ofs gain) s (fun t => t.sad.cal = some (h, k + 1, m + if good then 2 ^ k else 0) ∧
      t.fldS Reg.SAD_CAL_OFS k = (if good then ofs.toInt else s.fldS Reg.SAD_CAL_OFS k) ∧ t.fld Reg.SAD_CAL_GAIN k = (if good then gain.toNat else s.fld Reg.SAD_CAL_GAIN k) ∧
      t.mem = s.mem)) ∧
    (∀ i m', s.timerDue .slot 4800000 = true → s.sad.waits = [] → k = 8 → h = some i → m' = m + (if good then 2 ^ 8 else 0) →
      Ends (.selfcalSlotEnd ofs gain) s i (if m' = 0x1FF then stOk else stPartial) 0 m' 0 (fun u => u.sad.cal = none ∧ u.fld Reg.SAD_STATUS_CAL_BUSY = 0 ∧
        u.fldS Reg.SAD_CAL_OFS 8 = (if good then ofs.toInt else s.fldS Reg.SAD_CAL_OFS 8))))

/-! ### Chapter 16 -/

/-- R368 to R371, R378: a good binning record configures a channel that is OFF, with its cooler target; PUMP_SET ramps a channel from its present value without a step, or is refused; PUMP_OFF ramps every named channel down; SRC_CLEAR clears the named latches and tells which, none while THERMAL holds. -/
def Obligations.SourceCommands : Prop :=
  (∀ (s : State) (h : Fin 256) (d : CmdData) (bs : List Byte) (x : Handle) (n k : Nat), s.cmd? h.val 0xB0 = some x → x.p 0 = n →
    (3 < n → Ends (.srcConfig h d) s h.val stInvalid 24 0 0 (fun u => u = s)) ∧
    (n ≤ 3 → s.dataOf x d = some (k, bs) →
      (k ≠ 40 → Ends (.srcConfig h d) s h.val stInvalid 16 0 0 (fun u => u = s.dataRead x d)) ∧
      (∀ o, k = 40 → binBad bs = some o → Ends (.srcConfig h d) s h.val stInvalid 0xFF o 0 (fun u => u = s.dataRead x d)) ∧
      (k = 40 → binBad bs = none → s.fld Reg.SRC_PUMP_STATUS_STATE n ≠ pumpOff → Ends (.srcConfig h d) s h.val stBusy 0xB1 0 0 (fun u => u = s.dataRead x d)) ∧
      (k = 40 → binBad bs = none → s.fld Reg.SRC_PUMP_STATUS_STATE n = pumpOff → Ends (.srcConfig h d) s h.val stOk 0 0 0 (fun u => u = (s.dataRead x d).binPut n bs)))) ∧
  (∀ (s : State) (n : Fin 4) (bs : List Byte), let u := s.binPut n.val bs
    u.fld Reg.SRC_PUMP_STATUS_CONFIGURED n.val = 1 ∧ u.fld Reg.SRC_PUMP_STATUS_BIN n.val = field bs 6 2 ∧
    (u.pump n.val).record = some ⟨field bs 8 4, field bs 12 4, field bs 28 4, field bs 32 4⟩ ∧
    u.fld Reg.SRC_PUMP_TEC n.val = code 32 (coolerTarget bs).1 ∧ u.on Reg.SRC_PUMP_STATUS_TEC_CLAMP n.val = (coolerTarget bs).2 ∧
    (u.pump n.val).ramp = (s.pump n.val).ramp ∧ (∀ k : Fin 4, k ≠ n → u.pump k.val = s.pump k.val) ∧ u.mem = s.mem ∧
    (s.fld Reg.SRC_PUMP_MEAS n.val ≤ field bs 8 4 → u.fld Reg.SRC_PUMP_PWR n.val = 0)) ∧
  (∀ (bs : List Byte) (T lo hi : Dbl), T = (Dbl.ofInt 25).add ((Dbl.ofInt ((field bs 24 4 : Int) - field bs 16 4)).div (.ofRat (field bs 20 4) 100)) →
    lo = Dbl.ofRat (sx 16 (field bs 36 2)) 100 → hi = Dbl.ofRat (sx 16 (field bs 38 2)) 100 →
    (lo.le T = true → T.le hi = true → coolerTarget bs = (((Dbl.ofInt 1000).mul (T.add (.ofRat 27315 100))).rhe, false)) ∧
    (lo.le T = false → coolerTarget bs = (((Dbl.ofInt 1000).mul (lo.add (.ofRat 27315 100))).rhe, true)) ∧
    (lo.le T = true → T.le hi = false → coolerTarget bs = (((Dbl.ofInt 1000).mul (hi.add (.ofRat 27315 100))).rhe, true))) ∧
  (∀ (s : State) (h : Fin 256) (x : Handle) (n i r : Nat), s.cmd? h.val 0xB1 = some x → x.p 0 = n → x.p 1 = i → x.p 2 = r →
    (3 < n → Ends (.pumpSet h) s h.val stInvalid 24 0 0 (fun u => u = s)) ∧
    (n ≤ 3 → (s.pump n).record = none → r ≤ 1000000 → Ends (.pumpSet h) s h.val stNotReady 6 0 0 (fun u => u = s)) ∧
    (n ≤ 3 → (s.pump n).record = none → 1000000 < r → Ends (.pumpSet h) s h.val stInvalid 32 0 0 (fun u => u = s)) ∧
    (∀ q, n ≤ 3 → (s.pump n).record = some q →
      (q.imax < i → Ends (.pumpSet h) s h.val stInvalid 28 0 0 (fun u => u = s)) ∧
      (i ≤ q.imax → 1000000 < r → Ends (.pumpSet h) s h.val stInvalid 32 0 0 (fun u => u = s)) ∧
      (i ≤ q.imax → r ≤ 1000000 → s.fld Reg.SRC_PUMP_STATUS_STATE n = pumpLatched → Ends (.pumpSet h) s h.val stLocked 0 0 0 (fun u => u = s)) ∧
      (i ≤ q.imax → r ≤ 1000000 → s.fld Reg.SRC_PUMP_STATUS_STATE n = pumpHold → s.fld Reg.SRC_PUMP_TARGET n = i →
        Ends (.pumpSet h) s h.val stOk 0 (s.fld Reg.SRC_PUMP_MEAS n) 0 (fun u => u = s)) ∧
      (i ≤ q.imax → i < 2 ^ 24 → r ≤ 1000000 → s.fld Reg.SRC_PUMP_STATUS_STATE n ≠ pumpLatched → ¬ (s.fld Reg.SRC_PUMP_STATUS_STATE n = pumpHold ∧ s.fld Reg.SRC_PUMP_TARGET n = i) →
        Answers (.pumpSet h) s (fun t => (t.pump n).ramp = (s.pump n).ramp ∧ (t.pump n).rate = (if r = 0 then 10000 else r) ∧ (t.pump n).handle = some h.val ∧
          (t.pump n).toOff = false ∧ t.fld Reg.SRC_PUMP_TARGET n = i ∧
          t.fld Reg.SRC_PUMP_STATUS_STATE n = (if 500 * i < (s.pump n).ramp then pumpDown else pumpUp) ∧ (∀ k, k < 4 → k ≠ n → t.pump k = s.pump k))))) ∧
  (∀ (s : State) (h : Fin 256) (x : Handle) (m : Nat), s.cmd? h.val 0xB2 = some x → x.p 0 = m →
    (15 < m → Ends (.pumpOff h) s h.val stInvalid 24 0 0 (fun u => u = s)) ∧
    (m ≤ 15 → (∀ n, n < 4 → m.testBit n = true → s.fld Reg.SRC_PUMP_STATUS_STATE n = pumpOff ∨ s.fld Reg.SRC_PUMP_STATUS_STATE n = pumpLatched) →
      Ends (.pumpOff h) s h.val stOk 0 0 0 (fun u => u = s)) ∧
    (∀ n, m ≤ 15 → n < 4 → m.testBit n = true → s.fld Reg.SRC_PUMP_STATUS_STATE n ≠ pumpOff → s.fld Reg.SRC_PUMP_STATUS_STATE n ≠ pumpLatched →
      Answers (.pumpOff h) s (fun t => t.fld Reg.SRC_PUMP_STATUS_STATE n = pumpDown ∧ t.fld Reg.SRC_PUMP_TARGET n = 0 ∧ (t.pump n).toOff = true ∧
        (t.pump n).ramp = (s.pump n).ramp ∧ (t.pump n).rate = (s.pump n).rate ∧ t.src.offs.any (fun o => o.1 == h.val && o.2.testBit n) = true))) ∧
  (∀ (s : State) (h : Fin 256) (x : Handle) (m : Nat), s.cmd? h.val 0xB3 = some x → x.p 0 = m →
    (63 < m → Ends (.srcClear h) s h.val stInvalid 24 0 0 (fun u => u = s)) ∧
    (∀ hit : List Nat, m ≤ 63 → hit = (List.range 6).filter (fun c => m.testBit c && s.src.codes.getD c 0 != 0 && !s.src.thermal) →
      Ends (.srcClear h) s h.val stOk 0 (hit.map (fun c => 2 ^ c)).sum 0 (fun u =>
        u = (hit.foldl State.unlatch s).setB Reg.SRC_STATUS_FAULT ((hit.foldl State.unlatch s).src.codes.any (· != 0))))) ∧
  (∀ (s : State) (c : Fin 6), let u := s.unlatch c.val
    u.src.codes = s.src.codes.set c 0 ∧ u.src.pumps = s.src.pumps ∧ u.mem = s.mem ∧
    (c.val < 4 → u.fld Reg.SRC_PUMP_STATUS_STATE c.val = pumpOff ∧ u.fld Reg.SRC_PUMP_STATUS_FAULT c.val = 0 ∧ u.on Reg.SRC_PUMP_STATUS_CONFIGURED c.val = s.on Reg.SRC_PUMP_STATUS_CONFIGURED c.val ∧
      (u.fld Reg.SRC_STATUS_PUMP_LATCH).testBit c.val = false) ∧
    (4 ≤ c.val → u.fld Reg.SRC_GATE_STATUS_FAULT (c.val - 4) = 0 ∧ (u.fld Reg.SRC_STATUS_GATE_LATCH).testBit (c.val - 4) = false))

/-- R366, R367, R370, R373 to R377: a loop period moves the ramp by its rate and ends exactly at the target, with a duty in its limits (its value is free, log entry 23); a ramp that is done holds or turns the channel off; a condition held for 25 periods and two equal gate verdicts in a row latch the channel and every pump.  Each comes at its own time only. -/
def Obligations.SourceEvents : Prop :=
  (∀ (s : State) (n : Fin 4) (k : PumpSample) (T : Nat), s.pumpDue n.val = true → s.fld Reg.SRC_PUMP_STATUS_STATE n.val ≠ pumpOff → s.fld Reg.SRC_PUMP_STATUS_STATE n.val ≠ pumpLatched →
    T = 500 * s.fld Reg.SRC_PUMP_TARGET n.val → Answers (.pumpPeriod n k) s (fun t =>
      (t.pump n.val).samples = (k.code.toNat :: (s.pump n.val).samples).take 64 ∧
      ((s.pump n.val).ramp ≤ T → (t.pump n.val).ramp = min T ((s.pump n.val).ramp + (s.pump n.val).rate)) ∧
      (T ≤ (s.pump n.val).ramp → (t.pump n.val).ramp = max T ((s.pump n.val).ramp - (s.pump n.val).rate)) ∧
      t.fld Reg.SRC_PUMP_NOW n.val = (t.pump n.val).ramp / 500 % 2 ^ 24 ∧ t.fld Reg.SRC_PUMP_DUTY n.val ≤ 1900 ∧
      (t.fld Reg.SRC_PUMP_DUTY n.val = 0 ∨ 20 ≤ t.fld Reg.SRC_PUMP_DUTY n.val) ∧ (∀ j, j ≠ n.val → t.pump j = s.pump j) ∧ t.mem = s.mem)) ∧
  (∀ (s : State) (n : Fin 4) (k : PumpSample), (s.pumpDue n.val = false → Answers (.pumpPeriod n k) s (fun t => t = s)) ∧
    (s.pumpDue n.val = true → s.fld Reg.SRC_PUMP_STATUS_STATE n.val = pumpOff → Answers (.pumpPeriod n k) s (fun t => (t.pump n.val).ramp = (s.pump n.val).ramp ∧
      (t.pump n.val).open_ = (if k.cannotHold then (s.pump n.val).open_ + 1 else 0) ∧ t.fld Reg.SRC_PUMP_DUTY n.val = s.fld Reg.SRC_PUMP_DUTY n.val ∧ t.mem = s.mem))) ∧
  (∀ (s : State) (n : Fin 4), (s.fld Reg.SRC_PUMP_STATUS_STATE n.val = pumpUp ∨ s.fld Reg.SRC_PUMP_STATUS_STATE n.val = pumpDown) →
    (s.pump n.val).ramp = 500 * s.fld Reg.SRC_PUMP_TARGET n.val →
    (∀ h, (s.pump n.val).toOff = false → (s.pump n.val).handle = some h → Ends (.pumpRampDone n) s h stOk 0 (s.fld Reg.SRC_PUMP_MEAS n.val) 0 (fun u =>
      u = (s.updPump n.val (fun p => { p with handle := none })).setF Reg.SRC_PUMP_STATUS_STATE pumpHold n.val)) ∧
    ((s.pump n.val).toOff = true → s.src.offs = [] → Answers (.pumpRampDone n) s (fun t => t.fld Reg.SRC_PUMP_STATUS_STATE n.val = pumpOff ∧ t.fld Reg.SRC_PUMP_DUTY n.val = 0 ∧
      OnlyRegs [Reg.SRC_PUMP_STATUS_STATE.key n.val, Reg.SRC_PUMP_DUTY.key n.val] { s with src := t.src } t))) ∧
  (∀ (s : State) (n : Fin 4), (s.pump n.val).open_ < 25 → (s.pump n.val).short < 25 → (s.pump n.val).excess < 25 → Answers (.pumpFaultLatch n) s (fun t => t = s)) ∧
  (∀ (s : State) (n : Fin 4), s.src.codes.getD n.val 0 = 0 → 25 ≤ (s.pump n.val).open_ → Answers (.pumpFaultLatch n) s (fun t =>
    t.fld Reg.SRC_PUMP_STATUS_FAULT n.val = 1 ∧ t.src.codes.getD n.val 0 = 0x11 + 4 * n.val ∧ t.fld Reg.SRC_STATUS_FAULT = 1 ∧
    (∀ k, k < 4 → s.src.codes.getD k 0 = 0 → t.fld Reg.SRC_PUMP_STATUS_STATE k = pumpLatched ∧ t.fld Reg.SRC_PUMP_DUTY k = 0 ∧ t.fld Reg.SRC_PUMP_NOW k = 0 ∧
      (t.fld Reg.SRC_STATUS_PUMP_LATCH).testBit k = true))) ∧
  (∀ (s : State) (g : Fin 2) (v : Nat), s.fieldUp = true → s.gateOpen g.val = false → s.src.gates[g].stop = 0 ∨ s.src.gates[g].stop + 16 ≤ s.tick → Answers (.gateSense g (.idle v)) s (fun t => t.fld Reg.SRC_GATE_SENSE g.val = min v 65535 ∧
    t.src.gates[g].total = s.src.gates[g].total + 1 ∧ t.src.gates[g].opens = s.src.gates[g].opens + (if 6000 < v then 1 else 0) ∧
    t.src.gates[g].shorts = s.src.gates[g].shorts + (if v < 100 then 1 else 0) ∧ OnlyRegs [Reg.SRC_GATE_SENSE.key g.val] { s with src := t.src } t)) ∧
  (∀ (s : State) (g : Fin 2) (i : Nat), s.fieldUp = true → s.gateOpen g.val = true → s.on Reg.SRC_GATE_CFG g.val = true → s.src.gates[g].start + 40 ≤ s.src.gates[g].stop → s.src.gates[g].start + 20 ≤ s.tick →
    Answers (.gateSense g (.pulse i)) s (fun t => t.regs = s.regs ∧ t.src.gates[g].total = s.src.gates[g].total + 1 ∧
      t.src.gates[g].opens = s.src.gates[g].opens + (if i < 2000 then 1 else 0) ∧ t.src.gates[g].shorts = s.src.gates[g].shorts + (if 40000 < i then 1 else 0))) ∧
  (∀ (s : State) (g : Fin 2), s.fieldUp = false ∨ s.timerDue (.verdict g.val) (s.verdictTicks g.val) = false → Answers (.gateVerdict g) s (fun t => t = s)) ∧
  (∀ (s : State) (g : Fin 2), s.fieldUp = true → s.timerDue (.verdict g.val) (s.verdictTicks g.val) = true →
    (2 * s.src.gates[g].opens ≤ s.src.gates[g].total → 2 * s.src.gates[g].shorts ≤ s.src.gates[g].total → Answers (.gateVerdict g) s (fun t => t.regs = s.regs ∧
      t.src.gates[g].verdict = 0 ∧ t.src.gates[g].total = 0 ∧ t.src.pumps = s.src.pumps)) ∧
    (s.src.gates[g].total < 2 * s.src.gates[g].opens → s.src.gates[g].verdict ≠ 1 → Answers (.gateVerdict g) s (fun t => t.regs = s.regs ∧ t.src.gates[g].verdict = 1)) ∧
    (s.src.gates[g].total < 2 * s.src.gates[g].opens → s.src.gates[g].verdict = 1 → s.src.codes.getD (4 + g.val) 0 = 0 → Answers (.gateVerdict g) s (fun t =>
      t.src.codes.getD (4 + g.val) 0 = 0x21 + 4 * g.val ∧ t.fld Reg.SRC_GATE_STATUS_FAULT g.val = 1 ∧ t.fld Reg.SRC_STATUS_FAULT = 1 ∧
      (t.fld Reg.SRC_STATUS_GATE_LATCH).testBit g.val = true)))

/-! ### Chapter 17 -/

/-- R381, R382, R385, R391, R392: the timing inputs' commands. TIU_CONFIG applies a mode to an input that is free, and restarts the launch averages when it changes TI0 or TI1; TIU_CAL takes the inputs of its mask in ascending order; each refusal has its status and DETAIL. Code widths are the counts over 8 rounded half-even; the end of a code-density test replaces the table when its maximum DNL is at most 512, and otherwise sets CAL_FAIL; then the next input is tested, or the command ends with the worst DNL. -/
def Obligations.TimingCalibration : Prop :=
  (∀ (s : State) (h : Fin 256) (x : Handle) (i m p : Nat), s.cmd? h.val 0xC0 = some x → x.p 0 = i → x.p 1 = m → x.p 2 = p →
    (7 < i → Ends (.tiuConfig h) s h.val stInvalid 24 0 0 (fun u => u = s)) ∧
    (i ≤ 7 → (m % 4 = 3 ∨ m / 4 % 4 = 3 ∨ (m / 16 % 2 = 1 ∧ m % 4 ≠ 2) ∨ 32 ≤ m) → Ends (.tiuConfig h) s h.val stInvalid 28 0 0 (fun u => u = s)) ∧
    (i ≤ 7 → m % 4 ≠ 3 → m / 4 % 4 ≠ 3 → (m / 16 % 2 = 1 → m % 4 = 2) → m < 32 →
      (8 < p → Ends (.tiuConfig h) s h.val stInvalid 32 0 0 (fun u => u = s)) ∧
      (p ≤ 8 → s.tiCalibrating i = true → Ends (.tiuConfig h) s h.val stBusy 0xC1 0 0 (fun u => u = s)) ∧
      (p ≤ 8 → s.tiCalibrating i = false → s.feedsSection i = true → Ends (.tiuConfig h) s h.val stBusy 0xC2 0 0 (fun u => u = s)) ∧
      (∀ v : State, p ≤ 8 → s.tiCalibrating i = false → s.feedsSection i = false →
        v = (((s.setF Reg.TIU_IN_CFG_ELEC (m % 4) i).setF Reg.TIU_IN_CFG_EDGE (m / 4 % 4) i).setF Reg.TIU_IN_CFG_FILTER (m / 16 % 2) i).setF Reg.TIU_IN_CFG_P p i →
        (2 ≤ i ∨ (s.fld Reg.TIU_IN_CFG_ELEC i = m % 4 ∧ s.fld Reg.TIU_IN_CFG_EDGE i = m / 4 % 4 ∧ s.fld Reg.TIU_IN_CFG_FILTER i = m / 16 % 2 ∧ s.fld Reg.TIU_IN_CFG_P i = p) → Ends (.tiuConfig h) s h.val stOk 0 0 0 (fun u => u = v)) ∧
        (i < 2 → s.fld Reg.TIU_IN_CFG_ELEC i ≠ m % 4 ∨ s.fld Reg.TIU_IN_CFG_EDGE i ≠ m / 4 % 4 ∨ s.fld Reg.TIU_IN_CFG_FILTER i ≠ m / 16 % 2 ∨ s.fld Reg.TIU_IN_CFG_P i ≠ p →
          Ends (.tiuConfig h) s h.val stOk 0 0 0 (fun u => u = (({ v with tiu := { v.tiu with done := [] } } : State).setF Reg.TIU_LAUNCH_DLY 0).setF Reg.TIU_REF_DLY 0))))) ∧
  (∀ (s : State) (h : Fin 256) (x : Handle) (m : Nat), s.cmd? h.val 0xC1 = some x → x.p 0 = m →
    (m = 0 ∨ 255 < m → Ends (.tiuCal h) s h.val stInvalid 24 0 0 (fun u => u = s)) ∧
    (m ≤ 255 → ∀ i, i < 8 → m.testBit i = true → s.feedsSection i = true → Ends (.tiuCal h) s h.val stBusy 0xC2 0 0 (fun u => u = s)) ∧
    (m ≠ 0 → m ≤ 255 → (∀ i, i < 8 → m.testBit i = true → s.feedsSection i = false) →
      (s.tiu.cal.isSome = true → Ends (.tiuCal h) s h.val stBusy 0xC1 0 0 (fun u => u = s)) ∧
      (s.tiu.cal = none → ∀ i, i < 8 → m.testBit i = true → (∀ j, j < i → m.testBit j = false) → Answers (.tiuCal h) s (fun t =>
        t.tiu.cal = some ⟨some h.val, (List.range 8).filter (fun j => decide (i < j) && m.testBit j), i, 0, false⟩ ∧ t.fld Reg.TIU_STATUS_CAL_BUSY = 2 ^ i ∧
        t.tiu.secs = s.tiu.secs ∧ t.timerDue .density 1 = false)))) ∧
  (∀ (n : List Nat) (k : Nat), k < 128 → (codeWidths n).length = 128 ∧ (8 * ((codeWidths n).getD k 0 : Int) - n.getD k 0).natAbs ≤ 4 ∧
    ((8 * ((codeWidths n).getD k 0 : Int) - n.getD k 0).natAbs = 4 → (codeWidths n).getD k 0 % 2 = 0) ∧
    (((codeWidths n).getD k 0 : Int) - 1024).natAbs ≤ maxDnl (codeWidths n)) ∧
  (∀ n : List Nat, ∃ k, k < 128 ∧ maxDnl (codeWidths n) = (((codeWidths n).getD k 0 : Int) - 1024).natAbs) ∧
  (∀ (s : State) (n : List Nat), s.tiu.cal = none ∨ s.timerDue .density 63000000 = false ∨ s.runs 7 = false → exec (.codeDensityDone n) s = .next s) ∧
  (∀ (s : State) (i : Fin 8) (n : List Nat), let d := maxDnl (codeWidths n); let u := s.densityPut i.val n
    u.fld Reg.TIU_IN_DNL i.val = min d 65535 ∧ (512 < d → u.fld Reg.TIU_IN_STATUS_CAL_FAIL i.val = 1) ∧ u.tiu = s.tiu ∧ u.hq = s.hq ∧ u.mem = s.mem ∧
    (∀ k : Fin 128, u.fld Reg.TIU_CAL_TAB (128 * i + k) = if d ≤ 512 then (codeWidths n).getD k 0 % 2 ^ Reg.TIU_CAL_TAB.width else s.fld Reg.TIU_CAL_TAB (128 * i + k)) ∧
    (∀ (j : Fin 8) (k : Fin 128), j ≠ i → u.fld Reg.TIU_CAL_TAB (128 * j + k) = s.fld Reg.TIU_CAL_TAB (128 * j + k))) ∧
  (∀ (s : State) (c : TiuCal) (n : List Nat) (d : Nat) (v : State), s.tiu.cal = some c → c.input < 8 → s.runs 7 = true → s.timerDue .density 63000000 = true →
    d = maxDnl (codeWidths n) → v = s.densityPut c.input n →
    (∀ i l, c.left = i :: l → i < 8 → Answers (.codeDensityDone n) s (fun t =>
      t.tiu.cal = some { c with left := l, input := i, worst := max c.worst d, failed := c.failed || decide (512 < d) } ∧ t.fld Reg.TIU_STATUS_CAL_BUSY = 2 ^ i ∧
      t.timerDue .density 1 = false ∧ SameRegs [Reg.TIU_STATUS_CAL_BUSY.key 0] v t ∧ t.mem = s.mem)) ∧
    (∀ h, c.left = [] → c.handle = some h → Ends (.codeDensityDone n) s h (if c.failed || decide (512 < d) then stPartial else stOk) 0 (max c.worst d) 0 (fun u =>
      u = ({ v with tiu := { v.tiu with cal := none } } : State).setF Reg.TIU_STATUS_CAL_BUSY 0)))

/-- R393, R394, R400: SKATE_START checks its record, clears the map and starts the section at position 0, or waits for a stopping one; SKATE_STOP of a running section waits for the interval boundary, and cancels a waiting start; SKATE_READ copies the whole map; each refusal has its status and DETAIL. -/
def Obligations.SkateCommands : Prop :=
  (∀ (s : State) (h : Fin 256) (d : CmdData) (c : Handle) (k : Nat), s.cmd? h.val 0xC2 = some c → c.p 0 = k → 3 < k → Ends (.skateStart h d) s h.val stInvalid 24 0 0 (fun u => u = s)) ∧
  (∀ (s : State) (h : Fin 256) (d : CmdData) (bs : List Byte) (c : Handle) (k n : Nat) (x : SkSec) (v : State), s.cmd? h.val 0xC2 = some c → c.p 0 = k → k ≤ 3 → s.dataOf c d = some (n, bs) →
    x = parseSec bs (some h.val) → v = s.dataRead c d →
    (n ≠ 40 → Ends (.skateStart h d) s h.val stInvalid 16 0 0 (fun u => u = v)) ∧
    (∀ o, n = 40 → secBad bs (if s.acqRuns then s.fld Reg.RED_E_STATUS else 16384) = some o → Ends (.skateStart h d) s h.val stInvalid 0xFF o 0 (fun u => u = v)) ∧
    (n = 40 → secBad bs (if s.acqRuns then s.fld Reg.RED_E_STATUS else 16384) = none →
      (v.mapTaken k x.mapOfs = true → Ends (.skateStart h d) s h.val stInvalid 0xFF 28 0 (fun u => u = v)) ∧
      (v.mapTaken k x.mapOfs = false →
        (∀ y, s.runningSec k = some y → y.stoppers = [] ∨ (s.secWait k).isSome = true → Ends (.skateStart h d) s h.val stBusy 0xC2 0 0 (fun u => u = v)) ∧
        (∀ y, s.runningSec k = some y → y.stoppers ≠ [] → s.secWait k = none → Answers (.skateStart h d) s (fun t => t.secWait k = some ⟨h.val, x⟩ ∧ t.runningSec k = some y)) ∧
        (s.runningSec k = none → s.acqRuns = false ∨ s.encOn x = false → Ends (.skateStart h d) s h.val stNotReady 6 0 0 (fun u => u = v)) ∧
        (s.runningSec k = none → s.acqRuns = true → s.encOn x = true → s.pw.standalone = false → Answers (.skateStart h d) s (fun t =>
          t.runningSec k = some { x with since := s.now } ∧ t.fld Reg.TIU_SK_STATUS k = 1 ∧ (t.fld Reg.TIU_STATUS_SK_RUN).testBit k = true ∧ t.fld Reg.TIU_SK_POS k = 0 ∧
          t.fld Reg.TIU_SK_REVS k = 0 ∧ t.timerDue (.stall k) 1 = false ∧
          t.mem.firn.readLe x.mapOfs 4 = 0x50414D4B ∧ (∀ a, x.mapOfs + 64 ≤ a → a < x.mapOfs + 147520 → t.mem.firn.read a = 0) ∧
          (∀ a, a < x.mapOfs ∨ x.mapOfs + 147520 ≤ a → t.mem.firn.read a = s.mem.firn.read a) ∧ (∀ j, j ≠ k → t.sec? j = s.sec? j)))))) ∧
  (∀ (s : State) (h : Fin 256) (c : Handle), s.cmd? h.val 0xC3 = some c →
    (s.named (c.p 0) = none → Ends (.skateStop h) s h.val stStale 0 0 0 (fun u => u = s)) ∧
    (∀ y, s.named (c.p 0) = some y → (y.op ≠ 0xC2 → Ends (.skateStop h) s h.val stStale 0 0 0 (fun u => u = s)) ∧
      (y.op = 0xC2 → y.done = true → Ends (.skateStop h) s h.val stOk 0 (s.heldResults y).1 0 (fun u => u = s)) ∧
      (y.op = 0xC2 → y.done = false → (∀ j, j < 4 → s.secWait j = none) →
        ((∀ j, j < 4 → ((s.runningSec j).any (fun x => x.handle == some y.idx)) = false) →
          exec (.skateStop h) s = .next ((s.complete y.idx stAborted 3 0 0).complete h.val stOk 0 0 0)) ∧
        (∀ k x, k < 4 → s.runningSec k = some x → x.handle = some y.idx → (∀ j, j < k → ((s.runningSec j).any (fun x => x.handle == some y.idx)) = false) →
          Answers (.skateStop h) s (fun t => t.runningSec k = some { x with stoppers := x.stoppers ++ [h.val] } ∧ t.fld Reg.TIU_SK_STATUS k = s.fld Reg.TIU_SK_STATUS k ∧
            (∀ j, j ≠ k → t.sec? j = s.sec? j)))) ∧
      (∀ (k : Nat) (w : SkWait), y.op = 0xC2 → y.done = false → k < 4 → s.secWait k = some w → w.handle = y.idx → (∀ j, j < k → ((s.secWait j).any (fun w => w.handle == y.idx)) = false) →
        exec (.skateStop h) s = .next (((s.setSecWait k none).complete y.idx stAborted 3 0 0).complete h.val stOk 0 (s.fld Reg.TIU_SK_REVS k) 0)))) ∧
  (∀ (s : State) (h : Fin 256) (d : CmdData) (c : Handle) (k : Nat), s.cmd? h.val 0xC4 = some c → c.p 0 = k →
    (3 < k → Ends (.skateRead h d) s h.val stInvalid 24 0 0 (fun u => u = s)) ∧
    (k ≤ 3 → s.sec? k = none → Ends (.skateRead h d) s h.val stNotReady 6 0 0 (fun u => u = s)) ∧
    (∀ (x : SkSec) (b : Buffer) (v : State), k ≤ 3 → s.sec? k = some x → s.buffer c d = (b, v) →
      (segsLen b.1 < 147520 → b.2 = .whole → Ends (.skateRead h d) s h.val stNoSpace 0 0 0 (fun u => u = v)) ∧
      (147520 ≤ segsLen b.1 → Ends (.skateRead h d) s h.val stOk 0 147520 0 (fun u => u = v.putSegs c.engine b.1 (s.mem.firn.readN x.mapOfs 147520)))))

/-- R381 to R385, R388, R390, R395 to R398: an input that is off ignores edges, and a suppressed pulse is counted; an edge inside the dead time is lost, another one is counted, and outside WATCH timestamped; it moves the position of the sections it drives; an interval is the nearest STOP edge or a miss; a stall and a position sample. -/
def Obligations.TimingEvents : Prop :=
  (∀ (s : State) (i : Fin 8), s.on Reg.TIU_IN_CFG_ELEC i = false ∨ s.tiCalibrating i = true → ∀ e, exec (.tiEdge i e) s = .next s) ∧
  (∀ (s : State) (i : Fin 8), s.on Reg.TIU_IN_CFG_ELEC i = true → s.tiCalibrating i = false →
    Answers (.tiEdge i .glitch) s (fun t => t.fld Reg.TIU_IN_GLITCH i = (s.fld Reg.TIU_IN_GLITCH i + s.fld Reg.TIU_IN_CFG_FILTER i) % 2 ^ 32 ∧
      OnlyRegs [Reg.TIU_IN_GLITCH.key i] s t) ∧
    (∀ (n : BitVec 64) (c : Fin 128) (f e : Nat), f = s.codeCentre i c → e = n.toNat * 128 + f →
      (s.tiu.ins[i].last.any (fun l => decide (e < l + 320)) = true ∨ 7680 < s.tiu.ins[i].fill - (e - s.tiu.ins[i].fillAt) → Answers (.tiEdge i (.edge n c)) s (fun t => t.fld Reg.TIU_IN_LOST i = (s.fld Reg.TIU_IN_LOST i + 1) % 2 ^ 32 ∧
        t.fld Reg.TIU_IN_STATUS_LOST i = 1 ∧ OnlyRegs [Reg.TIU_IN_LOST.key i, Reg.TIU_IN_STATUS_LOST.key i] { s with tiu := t.tiu } t)) ∧
      (s.tiu.ins[i].last.any (fun l => decide (e < l + 320)) = false → s.tiu.ins[i].fill - (e - s.tiu.ins[i].fillAt) ≤ 7680 → Answers (.tiEdge i (.edge n c)) s (fun t =>
        t.fld64 Reg.TIU_IN_COUNT_LO Reg.TIU_IN_COUNT_HI i = (s.fld64 Reg.TIU_IN_COUNT_LO Reg.TIU_IN_COUNT_HI i + 2 ^ s.fld Reg.TIU_IN_CFG_P i) % 2 ^ 64 ∧
        t.tiu.ins[i].last = some e ∧ t.mem = s.mem ∧
        (s.pstate = stWatch → OnlyRegs [Reg.TIU_IN_COUNT_LO.key i, Reg.TIU_IN_COUNT_HI.key i] { s with tiu := t.tiu } t) ∧
        (s.pstate ≠ stWatch → t.fld64 Reg.TIU_IN_LAST_LO Reg.TIU_IN_LAST_HI i = (s.now + f / 128) % 2 ^ 64 ∧ t.fld Reg.TIU_IN_LAST_FRAC_FRAC i = f % 128 ∧
          t.fld Reg.TIU_IN_LAST_FRAC_SEQ i = (s.fld Reg.TIU_IN_LAST_FRAC_SEQ i + 1) % 2 ^ 24 ∧
          t.pulses = s.pulses ++ (if i = 6 then [0xBC] else if i = 7 then [0xBD] else []) ∧
          (∀ (k : Fin 4) (x : SkSec) (q : Nat), s.runningSec k = some x → x.enc = i.val → 0 < x.cpr → x.cpr < 2 ^ 31 → q = s.fld Reg.TIU_SK_POS k + 2 ^ s.fld Reg.TIU_IN_CFG_P i →
            t.fld Reg.TIU_SK_POS k = q % x.cpr ∧ t.fld Reg.TIU_SK_REVS k = (s.fld Reg.TIU_SK_REVS k + q / x.cpr) % 2 ^ 32) ∧
          (∀ (k : Fin 4) (x : SkSec) (q r : Nat), s.runningSec k = some x → x.enc ≠ i.val → x.index = i.val → x.cpr < 2 ^ 31 → q = s.fld Reg.TIU_SK_POS k → q < x.cpr →
            r = (if x.cpr ≤ 2 * q then 1 else 0) →
            t.fld Reg.TIU_SK_POS k = 0 ∧ t.fldS Reg.TIU_SK_INDEX_ERR k = (q : Int) - r * x.cpr ∧ t.fld Reg.TIU_SK_REVS k = (s.fld Reg.TIU_SK_REVS k + r) % 2 ^ 32)))))) ∧
  (∀ (s : State) (v : Fin 4) (b from_ : Nat) (l : List (Nat × Nat)), s.tiu.starts[v] = (b, from_) :: l →
    (s.tick < from_ + (s.fld Reg.TIU_IV_CFG_WINDOW_NS v + 104) / 5 → Answers (.intervalResult v) s (fun t => t = s)) ∧
    (s.runs 7 = true → from_ + (s.fld Reg.TIU_IV_CFG_WINDOW_NS v + 104) / 5 ≤ s.tick → s.fld Reg.TIU_IV_CFG_WINDOW_NS v = 0 → Answers (.intervalResult v) s (fun t =>
      t = { s with tiu := { s.tiu with starts := s.tiu.starts.set v l } }))) ∧
  (∀ (s : State) (v : Fin 4) (w b from_ : Nat) (l : List (Nat × Nat)) (es : List Nat), s.runs 7 = true → s.tiu.starts[v] = (b, from_) :: l →
    from_ + (s.fld Reg.TIU_IV_CFG_WINDOW_NS v + 104) / 5 ≤ s.tick → w = 128 * s.fld Reg.TIU_IV_CFG_WINDOW_NS v → w ≠ 0 →
    es = s.tiu.edges.getD (s.fld Reg.TIU_IV_CFG_STOP v) [] →
    ((∀ u ∈ es, u + w < b ∨ b + w < u) → Answers (.intervalResult v) s (fun t => t.fld Reg.TIU_IV_MISS v = (s.fld Reg.TIU_IV_MISS v + 1) % 2 ^ 32 ∧ t.tiu.starts[v] = l ∧
      OnlyRegs [Reg.TIU_IV_MISS.key v] { s with tiu := t.tiu } t)) ∧
    (∀ u ∈ es, b ≤ u + w → u ≤ b + w → (∀ e ∈ es, ((u : Int) - b).natAbs < ((e : Int) - b).natAbs ∨ (((u : Int) - b).natAbs = ((e : Int) - b).natAbs ∧ e ≤ u)) →
      Answers (.intervalResult v) s (fun t => t.fldS Reg.TIU_IV_RESULT v = (u : Int) - b ∧ t.fld Reg.TIU_IV_FLAGS_NEAR v = (if u = b then 1 else 0) ∧
        t.fld Reg.TIU_IV_FLAGS_ORDER v = (if u < b then 1 else 0) ∧ t.fld Reg.TIU_IV_FLAGS_RANGE v = 0 ∧
        t.fld Reg.TIU_IV_FLAGS_SEQ v = (s.fld Reg.TIU_IV_FLAGS_SEQ v + 1) % 2 ^ 24 ∧ t.fld Reg.TIU_IV_MISS v = s.fld Reg.TIU_IV_MISS v ∧
        t.tiu.results[v] = (((u : Int) - b) :: s.tiu.results[v]).take 1024 ∧ t.tiu.starts[v] = l ∧ t.mem = s.mem))) ∧
  (∀ (s : State) (k : Fin 4), (s.runningSec k = none ∨ s.fld Reg.TIU_SK_STATUS k ≠ 1 → exec (.encoderStall k) s = .next s) ∧
    (∀ x, s.runningSec k = some x → s.timerDue (.stall k) (200000 * x.stallMs) = false → exec (.encoderStall k) s = .next s) ∧
    (∀ x, s.runningSec k = some x → s.timerDue (.stall k) (200000 * x.stallMs) = true → s.fld Reg.TIU_SK_STATUS k = 1 → Answers (.encoderStall k) s (fun t => t.fld Reg.TIU_SK_STATUS k = 2 ∧ t.fld Reg.TIU_SK_SPEED k = 0 ∧
      t.fld Reg.TIU_STATUS_SK_STALL = s.fld Reg.TIU_STATUS_SK_STALL ||| 2 ^ k.val ∧ t.fld Reg.TIU_SK_POS k = s.fld Reg.TIU_SK_POS k ∧ t.tiu = s.tiu ∧ t.mem = s.mem))) ∧
  (∀ (s : State) (k : Fin 4), (s.runningSec k = none ∨ s.midDue k = none → exec (.skatePosSample k) s = .next s) ∧
    (∀ (x : SkSec) (m : Nat) (f : Nat × Nat), s.runningSec k = some x → s.midDue k = some m → f = edgeFraction x.edges (128 * m) →
      Answers (.skatePosSample k) s (fun t => t = { s with tiu := t.tiu } ∧ m ≤ s.now ∧ t.runningSec k = some { x with samples := x.samples ++
        [⟨m, s.fld Reg.TIU_SK_POS k, f.1, f.2, decide (s.fld Reg.TIU_SK_STATUS k = 2)⟩] }))) ∧
  (∀ (es : List (Nat × Nat)) (m : Nat), let q := edgeFraction es (128 * m)
    q.1 < q.2 ∧ (es.length < 2 → q.1 = 0) ∧
    (∀ a b l, es = a :: b :: l → b.1 < a.1 → a.1 ≤ 128 * m →
      ((128 * m - a.1) * 65536 ≤ (a.1 - b.1) * 65535 → q.1 * (a.1 - b.1) = (128 * m - a.1) * q.2) ∧
      ((a.1 - b.1) * 65535 ≤ (128 * m - a.1) * 65536 → q.1 * 65536 = 65535 * q.2)))

/-! ### Chapter 18 -/

/-- R407, R409 to R411: PAT_CONFIG keeps the address in PAT_CTL and MRAM; PAT_TELEGRAM writes the command slot and, as refresh source, advances the alive counter; TRIP sets its bits; a trip condition with LATCH latches, and a clear succeeds only while no condition holds; STALE follows the age. -/
def Obligations.TelegramAndTrips : Prop :=
  (∀ (s : State) (h : Fin 256) (x : Handle) (a : Nat), s.cmd? h.val 0xE0 = some x → x.p 0 = a →
    (a = 0 ∨ 31 < a → Ends (.patConfig h) s h.val stInvalid 24 0 0 (fun u => u = s)) ∧
    (1 ≤ a → a ≤ 31 → Ends (.patConfig h) s h.val stOk 0 0 0 (fun u =>
      u = ({ s with pat := { s.pat with mramAddr := if s.pw.brownBlock then s.pat.mramAddr else a } } : State).setF Reg.PAT_CTL_ADDR a))) ∧
  (∀ (s : State) (h : Fin 256) (x : Handle) (v : State), s.cmd? h.val 0xE1 = some x →
    v = ((s.setF Reg.PAT_TG_ZONE_LO (x.p 0)).setF Reg.PAT_TG_ZONE_HI (x.p 1)).setF Reg.PAT_TG_ALARM (x.p 2) →
    (s.tgSource = 0 → s.inWatch = false → Ends (.patTelegram h) s h.val stOk 0 ((s.fld Reg.PAT_STATUS_ALIVE + 1) % 256) 0 (fun u =>
      u = ({ v with pat := { s.pat with refreshed := some s.tick, stale := false } } : State).setF Reg.PAT_STATUS_ALIVE ((s.fld Reg.PAT_STATUS_ALIVE + 1) % 256))) ∧
    (s.tgSource ≠ 0 ∨ s.inWatch = true → Ends (.patTelegram h) s h.val stOk 0 (s.fld Reg.PAT_STATUS_ALIVE) 0 (fun u => u = v))) ∧
  (∀ (s : State) (h : Fin 256) (x : Handle), s.cmd? h.val 0xE2 = some x →
    (3 < x.p 0 → Ends (.trip h) s h.val stInvalid 24 0 0 (fun u => u = s)) ∧
    (x.p 0 ≤ 3 → Ends (.trip h) s h.val stOk 0 0 0 (fun u => u = s.setF Reg.PAT_TRIP_STATUS_SW (x.p 0))) ∧
    (∀ j : Fin 2, (x.p 0).testBit j = true → (s.setF Reg.PAT_TRIP_STATUS_SW (x.p 0)).tripOut j = true)) ∧
  (∀ (s : State) (j : Fin 2),
    (s.on Reg.PAT_TRIP_CFG_LATCH j = true → s.tripCond s.evtLevel j = true → Answers (.tripCondition j) s (fun t =>
      t.fld Reg.PAT_TRIP_STATUS_LATCHED = s.fld Reg.PAT_TRIP_STATUS_LATCHED ||| 2 ^ j.val ∧ OnlyRegs [Reg.PAT_TRIP_STATUS_LATCHED.key 0] s t ∧ t.tripOut j = true)) ∧
    (s.on Reg.PAT_TRIP_CFG_LATCH j = false ∨ s.tripCond s.evtLevel j = false → exec (.tripCondition j) s = .next s)) ∧
  (∀ (s : State) (m : Fin 4), Answers (.tripLatchClear m) s (fun t => OnlyRegs [Reg.PAT_TRIP_STATUS_LATCHED.key 0] s t ∧
    ∀ j, j < 2 → (t.fld Reg.PAT_TRIP_STATUS_LATCHED).testBit j = ((s.fld Reg.PAT_TRIP_STATUS_LATCHED).testBit j && !(m.val.testBit j && !s.tripCond s.evtLevel j)))) ∧
  (∀ s : State, (max 1 (s.fld Reg.PAT_CTL_STALE_MS) < s.tgAge → Answers .staleTimeout s (fun t => t = { s with pat := { s.pat with stale := true } })) ∧
    (s.tgAge ≤ max 1 (s.fld Reg.PAT_CTL_STALE_MS) → exec .staleTimeout s = .next s))

/-- R403 to R406, R408, R410, R474: bytes received one after the other form polls of four; a whole good poll to the node is counted and answered with the 20 bytes of R405, 1.84 µs later and until 18.08 µs; a bad CRC, another node's address and another CMD are counted and not answered; a framing error drops the rest of its poll, and a break is one error; an idle line drops a partial poll; while the driver is on nothing is heard. -/
def Obligations.PatrolLink : Prop :=
  (∀ (s : State) (bs : List Byte) (f : Bool), (s.patAlive = false → exec (.patrolPoll bs f) s = .next s ∧ exec .lineBreak s = .next s) ∧
    (s.on Reg.PAT_STATUS_DRIVING = true → Answers (.patrolPoll bs f) s (fun t => t = { s with timers := t.timers }) ∧ exec .lineBreak s = .next s) ∧
    (s.patAlive = true → f = false → exec (.patrolPoll bs f) s = .next (bs.foldl State.pollByte (s.timerStart .gap))) ∧
    (s.patAlive = true → f = true → exec (.patrolPoll bs f) s = .next ((bs.dropLast.foldl State.pollByte (s.timerStart .gap)).pollFraming))) ∧
  (∀ (s : State), s.patAlive = true → s.on Reg.PAT_STATUS_DRIVING = false →
    exec .lineBreak s = .next (({ s with pat := { s.pat with poll := [], drop := 0 } } : State).setF Reg.PAT_FRAME_ERR (s.fld Reg.PAT_FRAME_ERR + 1)) ∧
    s.pollFraming = ({ s with pat := { s.pat with poll := [], drop := if s.pat.drop ≠ 0 then s.pat.drop - 1 else 3 - s.pat.poll.length } } : State).setF Reg.PAT_FRAME_ERR
      (s.fld Reg.PAT_FRAME_ERR + 1)) ∧
  (∀ (s : State) (r : Byte),
    (s.pat.reply.isSome = true ∨ s.on Reg.PAT_STATUS_DRIVING = true → s.pollByte r = s) ∧
    (s.pat.reply = none → s.on Reg.PAT_STATUS_DRIVING = false →
      (s.pat.drop ≠ 0 → s.pollByte r = { s with pat := { s.pat with drop := s.pat.drop - 1 } }) ∧
      (s.pat.drop = 0 → s.pat.poll.length < 3 → s.pollByte r = { s with pat := { s.pat with poll := s.pat.poll ++ [r] } }) ∧
      (∀ (a q c : Byte) (v : State), s.pat.drop = 0 → s.pat.poll = [a, q, c] → v = { s with pat := { s.pat with poll := [] } } →
        (r.toNat ≠ crc8 [a, q, c] → s.pollByte r = v.setF Reg.PAT_CRC_ERR (s.fld Reg.PAT_CRC_ERR + 1)) ∧
        (r.toNat = crc8 [a, q, c] → a.toNat ≠ s.fld Reg.PAT_CTL_ADDR ∨ s.fld Reg.PAT_CTL_ADDR = 0 → s.pollByte r = v.setF Reg.PAT_OTHER (s.fld Reg.PAT_OTHER + 1)) ∧
        (r.toNat = crc8 [a, q, c] → a.toNat = s.fld Reg.PAT_CTL_ADDR → a.toNat ≠ 0 → c.toNat ≠ 1 → s.pollByte r = v.setF Reg.PAT_CMD_ERR (s.fld Reg.PAT_CMD_ERR + 1)) ∧
        (r.toNat = crc8 [a, q, c] → a.toNat = s.fld Reg.PAT_CTL_ADDR → a.toNat ≠ 0 → c.toNat = 1 → let t := s.pollByte r
          t.fld Reg.PAT_POLLS = (s.fld Reg.PAT_POLLS + 1) % 2 ^ 32 ∧ t.fld64 Reg.PAT_LAST_POLL_LO Reg.PAT_LAST_POLL_HI = s.now % 2 ^ 64 ∧
          SameRegs [Reg.PAT_POLLS.key 0, Reg.PAT_LAST_POLL_LO.key 0, Reg.PAT_LAST_POLL_HI.key 0] s t ∧
          (s.on Reg.PAT_CTL_EN = false → t = { v with regs := t.regs }) ∧
          (s.on Reg.PAT_CTL_EN = true → t = { v with regs := t.regs, timers := t.timers, pat := { v.pat with reply := some (s.reply q c) } } ∧ t.timerDue .reply 1 = false))))) ∧
  (∀ (s : State) (q c : Byte), let b := s.reply q c
    b.length = 20 ∧ field b 0 1 = 0x80 + s.fld Reg.PAT_CTL_ADDR ∧ b[1]? = some q ∧ b[2]? = some c ∧
    field b 3 1 = b2n s.acqRuns + 2 * b2n s.inWatch + 4 * b2n s.degraded + 8 * b2n s.pat.stale + 16 * b2n s.loaderPers + 32 * b2n (s.tripOut 0) + 64 * b2n (s.tripOut 1) ∧
    field b 4 1 = s.tgAlarm ∧ field b 5 1 = s.fld Reg.PAT_STATUS_ALIVE ∧ field b 6 8 = s.tgZone % 2 ^ 64 ∧ field b 14 2 = s.tgAge ∧ field b 16 4 = crc32c (b.take 16)) ∧
  (∀ s : State, (s.pat.reply = none ∨ s.timerDue .reply 3616 = false → exec .replyEnd s = .next s) ∧
    (s.pat.reply.isSome = true → s.timerDue .reply 368 = true → s.replyTick = s.setF Reg.PAT_STATUS_DRIVING 1) ∧
    (s.timerDue .reply 368 = false → s.replyTick = s) ∧
    (∀ r, s.pat.reply = some r → s.timerDue .reply 3616 = true →
      Answers .replyEnd s (fun t => t.pat = { s.pat with reply := none, sent := s.pat.sent ++ [r] } ∧ t.fld Reg.PAT_STATUS_DRIVING = 0 ∧
      t.fld Reg.PAT_REPLIES = (s.fld Reg.PAT_REPLIES + 1) % 2 ^ 32 ∧ OnlyRegs [Reg.PAT_STATUS_DRIVING.key 0, Reg.PAT_REPLIES.key 0] { s with pat := t.pat } t)) ∧
    Answers .pollGapTimeout s (fun t => t = if s.timerDue .gap 321 then { s with pat := { s.pat with poll := [], drop := 0 } } else s)) ∧
  (∀ s : State, s.tgAlarm ≤ 14 ∧ (s.degraded = true ↔ s.tgAlarm = 14) ∧ (s.inWatch = true → 1 ≤ s.tgAlarm) ∧ ∀ x ∈ s.liveSlots, min 13 x.alarm ≤ s.tgAlarm) ∧
  (∀ s : State, (∀ l, s.pat.refreshed = some l → s.tgAge = min 65535 ((s.tick - l) / 200000)) ∧ (s.pat.refreshed = none → s.tgAge = 65535))

/-- R413 to R416: a write of CHK_CTL selects the code and starts it; each data write feeds its bytes, lowest first; FINAL folds the alive value when FOLD = 1, gives the check value of all the bytes, and tells a repeat of the previous result, but never at the first close after CHK_CTL or a reset. -/
def Obligations.CheckUnits : Prop :=
  (∀ (s : State) (u : Fin 4) (v : Word), s.awake = true → Answers (.chkCtl u v) s (fun t => t.fld Reg.CHK_CTL_POLY u = v.toNat % 4 ∧ t.fld Reg.CHK_CTL_FOLD u = v.toNat / 16 % 2 ∧
    t.fld Reg.CHK_CTL_AUTO_INC u = v.toNat / 32 % 2 ∧ t.fld Reg.CHK_BYTES u = 0 ∧ t.chk[u] = ⟨crcInit (v.toNat % 4), true⟩ ∧ (∀ w : Fin 4, w ≠ u → t.chk[w] = s.chk[w]) ∧
    OnlyRegs [Reg.CHK_CTL_POLY.key u, Reg.CHK_CTL_FOLD.key u, Reg.CHK_CTL_AUTO_INC.key u, Reg.CHK_BYTES.key u] { s with chk := t.chk } t)) ∧
  (∀ (s : State) (u : Fin 4) (v : Word) (p : Nat), s.awake = true → p = s.fld Reg.CHK_CTL_POLY u →
    (∀ i k, (i = .chkData8 u v ∧ k = 1) ∨ (i = .chkData16 u v ∧ k = 2) ∨ (i = .chkData32 u v ∧ k = 4) → Answers i s (fun t =>
      t.chk[u] = ⟨((List.range k).map (fun j => BitVec.ofNat 8 (v.toNat / 2 ^ (8 * j)))).foldl (crcByte p) s.chk[u].crc, s.chk[u].first⟩ ∧
      t.fld Reg.CHK_BYTES u = (s.fld Reg.CHK_BYTES u + k) % 2 ^ 32 ∧ (∀ w : Fin 4, w ≠ u → t.chk[w] = s.chk[w]) ∧ OnlyRegs [Reg.CHK_BYTES.key u] { s with chk := t.chk } t))) ∧
  (∀ (s : State) (u : Fin 4) (v : Word) (bs : List Byte) (p a r : Nat), s.awake = true → p = s.fld Reg.CHK_CTL_POLY u → a = s.fld Reg.CHK_ALIVE u → s.chk[u].crc = bs.foldl (crcByte p) (crcInit p) →
    r = crc p (bs ++ if s.on Reg.CHK_CTL_FOLD u then (List.range (crcWidth p)).map (fun j => BitVec.ofNat 8 (a / 2 ^ (8 * j))) else []) →
    (v.toNat % 2 = 0 → exec (.chkFinal u v) s = .next s) ∧
    (v.toNat % 2 = 1 → Answers (.chkFinal u v) s (fun t => t.fld Reg.CHK_RESULT u = r % 2 ^ 32 ∧ t.fld Reg.CHK_PREV u = r % 2 ^ 32 ∧ t.fld Reg.CHK_BYTES u = 0 ∧ t.chk[u] = ⟨crcInit p, false⟩ ∧
      t.fld Reg.CHK_ALIVE u = (if s.on Reg.CHK_CTL_AUTO_INC u then (a + 1) % 2 ^ 32 else a) ∧
      (s.chk[u].first = false → r = s.fld Reg.CHK_PREV u → t.fld Reg.CHK_STATUS_REPEAT u = 1 ∧ t.fld Reg.CHK_REPEAT u = (s.fld Reg.CHK_REPEAT u + 1) % 2 ^ 32) ∧
      (s.chk[u].first = true ∨ r ≠ s.fld Reg.CHK_PREV u → t.fld Reg.CHK_STATUS_REPEAT u = s.fld Reg.CHK_STATUS_REPEAT u ∧ t.fld Reg.CHK_REPEAT u = s.fld Reg.CHK_REPEAT u) ∧
      (∀ w : Fin 4, w ≠ u → t.chk[w] = s.chk[w]) ∧ t.mem = s.mem))) ∧
  (∀ u : Fin 4, State.reset.chk[u] = ⟨0xFFFFFFFF, true⟩)

/-! ### Chapter 19 -/

/-- R304, R418, R419, R421, R423, R475: PNL_MODE checks a timing record and stores it, the PLL within 0.05 % (its value is free, log entry 24, as is which of the four fields a short blanking names); PNL_PALETTE takes effect at once while the panel is off and waits for a frame otherwise; PNL_ENABLE starts or ends scan-out; each refusal has its status and DETAIL. -/
def Obligations.PanelCommands : Prop :=
  (∀ (s : State) (h : Fin 256) (d : CmdData) (n : Nat) (r : List Byte) (c : Handle) (v : State), s.cmd? h.val 0xD0 = some c → s.dataOf c d = some (n, r) → v = s.dataRead c d →
    (n ≠ 32 → Ends (.pnlMode h d) s h.val stInvalid 16 0 0 (fun u => u = v)) ∧
    (∀ o, n = 32 → pnlFieldBad r = some o → Ends (.pnlMode h d) s h.val stInvalid 0xFF o 0 (fun u => u = v)) ∧
    (n = 32 → pnlFieldBad r = none → recHTotal r < field r 12 2 + 32 →
      (v.freeVal 2).1 < 4 ∧ Ends (.pnlMode h d) s h.val stInvalid 0xFF (12 + 2 * (v.freeVal 2).1) 0 (fun u => u = { v with free := v.free + 1 })) ∧
    (n = 32 → pnlFieldBad r = none → field r 12 2 + 32 ≤ recHTotal r →
      field r 8 4 * 1000 < 20 * recHTotal r * recVTotal r ∨ 120 * recHTotal r * recVTotal r < field r 8 4 * 1000 → Ends (.pnlMode h d) s h.val stInvalid 0xFF 8 0 (fun u => u = v)) ∧
    (n = 32 → pnlFieldBad r = none → field r 12 2 + 32 ≤ recHTotal r → 20 * recHTotal r * recVTotal r ≤ field r 8 4 * 1000 → field r 8 4 * 1000 ≤ 120 * recHTotal r * recVTotal r →
      (s.panelOn = true → Ends (.pnlMode h d) s h.val stBusy 0xD2 0 0 (fun u => u = v)) ∧
      (s.panelOn = false → Ends (.pnlMode h d) s h.val stOk 0 0 0 (fun u => u = v.pnlStore r)))) ∧
  (∀ (s u : State) (r : List Byte), u = s.pnlStore r → pnlFieldBad r = none →
    u.pnl = { s.pnl with pclk := some (field r 8 4) } ∧ u.fld Reg.PNL_CFG = field r 6 2 ∧ 2000 * ((u.fld Reg.PNL_PCLK : Int) - field r 8 4).natAbs ≤ field r 8 4 ∧
    u.fld Reg.PNL_HTIM0_H_ACTIVE = field r 12 2 ∧ u.fld Reg.PNL_HTIM0_H_FP = field r 14 2 ∧ u.fld Reg.PNL_HTIM1_H_SYNC = field r 16 2 ∧ u.fld Reg.PNL_HTIM1_H_BP = field r 18 2 ∧
    u.fld Reg.PNL_VTIM0_V_ACTIVE = field r 20 2 ∧ u.fld Reg.PNL_VTIM0_V_FP = field r 22 2 ∧ u.fld Reg.PNL_VTIM1_V_SYNC = field r 24 2 ∧ u.fld Reg.PNL_VTIM1_V_BP = field r 26 2 ∧
    u.fld Reg.PNL_STRIDE = field r 28 4 ∧ u.mem = s.mem ∧
    SameRegs ([Reg.PNL_CFG, Reg.PNL_PCLK, Reg.PNL_HTIM0_H_ACTIVE, Reg.PNL_HTIM0_H_FP, Reg.PNL_HTIM1_H_SYNC, Reg.PNL_HTIM1_H_BP, Reg.PNL_VTIM0_V_ACTIVE, Reg.PNL_VTIM0_V_FP,
      Reg.PNL_VTIM1_V_SYNC, Reg.PNL_VTIM1_V_BP, Reg.PNL_STRIDE].map (fun F => F.key 0)) s u) ∧
  (∀ (s : State) (h : Fin 256) (d : CmdData) (n : Nat) (r : List Byte) (c : Handle) (v : State), s.cmd? h.val 0xD1 = some c → s.dataOf c d = some (n, r) → v = s.dataRead c d →
    (n ≠ 1024 → Ends (.pnlPalette h d) s h.val stInvalid 16 0 0 (fun u => u = v)) ∧
    (∀ i, n = 1024 → i < 256 → field r (4 * i + 3) 1 ≠ 0 → (∀ j, j < i → field r (4 * j + 3) 1 = 0) → Ends (.pnlPalette h d) s h.val stInvalid 0xFF (4 * i + 3) 0 (fun u => u = v)) ∧
    (n = 1024 → (∀ i, i < 256 → field r (4 * i + 3) 1 = 0) →
      (s.panelOn = false → Ends (.pnlPalette h d) s h.val stOk 0 0 0 (fun u => u = v.palPut r)) ∧
      (s.panelOn = true → Answers (.pnlPalette h d) s (fun t => t = { v.takeUp h.val with pnl := { s.pnl with palettes := s.pnl.palettes ++ [(h.val, r)] } })))) ∧
  (∀ (s : State) (r : List Byte), OnlyRegs ((List.range 256).map Reg.PNL_PAL.key) s (s.palPut r) ∧ (∀ i, i < 256 → (s.palPut r).fld Reg.PNL_PAL i = field r (4 * i) 3 % 2 ^ 24)) ∧
  (∀ (s : State) (h : Fin 256) (c : Handle) (st : Nat), s.cmd? h.val 0xD2 = some c → st = s.fld Reg.PNL_STATUS_STATE →
    (c.p 0 % 2 = 1 → s.pnl.pclk = none → Ends (.pnlEnable h) s h.val stNotReady 6 0 0 (fun u => u = s)) ∧
    (c.p 0 % 2 = 1 → s.pnl.pclk ≠ none → s.rgnSize 6 ≠ 0x1000000 → Ends (.pnlEnable h) s h.val stNotReady 3 0 0 (fun u => u = s)) ∧
    (c.p 0 % 2 = 1 → s.pnl.pclk ≠ none → s.rgnSize 6 = 0x1000000 →
      (st = 0 → Answers (.pnlEnable h) s (fun t => t.fld Reg.PNL_STATUS_STATE = 1 ∧ t.pnl = { s.pnl with starters := [h.val], prev := none, same := 0 })) ∧
      (st = 1 ∨ st = 2 → Ends (.pnlEnable h) s h.val stOk 0 0 0 (fun u => u = s)) ∧
      (st = 3 → s.pnl.again = none → Answers (.pnlEnable h) s (fun t => t.fld Reg.PNL_STATUS_STATE = 3 ∧ t.pnl = { s.pnl with again := some h.val })) ∧
      (st = 3 → s.pnl.again ≠ none → Ends (.pnlEnable h) s h.val stBusy 0xD2 0 0 (fun u => u = s))) ∧
    (c.p 0 % 2 = 0 → s.pnl.again = none →
      (st = 0 → Ends (.pnlEnable h) s h.val stOk 0 0 0 (fun u => u = s)) ∧
      (∀ g, st = 1 → s.pnl.starters = [g] → g ≠ h.val → s.pnl.palettes = [] →
        Answers (.pnlEnable h) s (fun t => t.fld Reg.PNL_STATUS_STATE = 0 ∧ t.pnl = { s.pnl with starters := [], stoppers := [], inActive := false, link := [] } ∧ t.ended g ∧ t.ended h.val)) ∧
      (st = 2 → Answers (.pnlEnable h) s (fun t => t.fld Reg.PNL_STATUS_STATE = 3 ∧ t.pnl = { s.pnl with stoppers := s.pnl.stoppers ++ [h.val] }))) ∧
    (∀ g, c.p 0 % 2 = 0 → st = 3 → s.pnl.again = some g → g ≠ h.val →
      Answers (.pnlEnable h) s (fun t => t.fld Reg.PNL_STATUS_STATE = 3 ∧ t.pnl = { s.pnl with again := none, stoppers := s.pnl.stoppers ++ [h.val] } ∧ t.ended g)))

/-- R420 to R426: once its lines have passed, a frame starts with PNL_FB_OFS sampled and a waiting palette applied, the first one completes PNL_ENABLE, and a stopping panel goes off there; a line fetch sends the pixels of the buffer on the link, black where they came late; the end of the active area gives the signature, the refresh divisor and the comparison with the pins. -/
def Obligations.PanelFrames : Prop :=
  (∀ s : State, s.pnl.inActive = true ∨ s.runs 8 = false ∨ s.fld Reg.PNL_STATUS_STATE = 0 ∨ (s.fld Reg.PNL_STATUS_STATE ≠ 1 ∧ s.timerDue .frame (s.lineTicks s.frameLines) = false) →
    exec .panelFrameStart s = .next s) ∧
  (∀ s t : State, s.pnl.inActive = false → s.runs 8 = true → s.fld Reg.PNL_STATUS_STATE = 2 → s.timerDue .frame (s.lineTicks s.frameLines) = true →
    (s.pnl.palettes = [] → t = s.timerStart .frame → Answers .panelFrameStart s (fun v => v = { t with pnl := { s.pnl with
      ofs := s.fld Reg.PNL_FB_OFS, inActive := true, line := 0, crc := 0xFFFFFFFF, same := if s.fld Reg.PNL_FB_OFS = s.pnl.ofs then s.pnl.same else 0 } })) ∧
    (∀ h bs, s.pnl.palettes = [(h, bs)] → t = ({ s.timerStart .frame with pnl := { s.pnl with ofs := s.fld Reg.PNL_FB_OFS, palettes := [], inActive := true, line := 0, crc := 0xFFFFFFFF, same := 0 } } : State) →
      Ends .panelFrameStart s h stOk 0 0 0 (fun u => u = t.palPut bs))) ∧
  (∀ (s t : State) (h : Nat), s.pnl.inActive = false → s.runs 8 = true → s.pnl.palettes = [] →
    (s.fld Reg.PNL_STATUS_STATE = 1 → s.pnl.starters = [h] → t = ({ s.setF Reg.PNL_STATUS_STATE 2 with pnl := { s.pnl with starters := [] } } : State) →
      Ends .panelFrameStart s h stOk 0 0 0 (fun u => u = t.frameOpen)) ∧
    (s.fld Reg.PNL_STATUS_STATE = 3 → s.pnl.stoppers = [h] → s.pnl.again = none → s.timerDue .frame (s.lineTicks s.frameLines) = true → t = (s.setF Reg.PNL_STATUS_STATE 0).setF Reg.PNL_STATUS_DIV 0 →
      Ends .panelFrameStart s h stOk 0 0 0 (fun u => u = { t with pnl := { s.pnl with stoppers := [], inActive := false, link := [] } })) ∧
    (∀ g, s.fld Reg.PNL_STATUS_STATE = 3 → s.pnl.stoppers = [h] → s.pnl.again = some g → s.timerDue .frame (s.lineTicks s.frameLines) = true →
      Answers .panelFrameStart s (fun v => v.fld Reg.PNL_STATUS_STATE = 1 ∧ v.pnl = { s.pnl with stoppers := [], again := none, starters := [g], inActive := false, link := [], prev := none, same := 0 } ∧
        v.ended h))) ∧
  (∀ (s : State) (n : Fin 2048) (w m f o k : Nat) (px : List (Nat × Nat × Nat)), s.runs 8 = true → s.pnl.inActive = true → s.pnl.line < s.fld Reg.PNL_VTIM0_V_ACTIVE → w = s.fld Reg.PNL_HTIM0_H_ACTIVE →
    f = s.fld Reg.PNL_CFG → m = f % 4 → o = s.pnl.ofs * 64 + s.pnl.line * s.fld Reg.PNL_STRIDE → k = (if s.memReady then n.val else 0) →
    px = (List.range w).map (fun x => if x < k then s.pixel (f.testBit 2) ((o + (if f.testBit 2 then 4 else 1) * x) % 2 ^ 24) else (0, 0, 0)) →
    Answers (.lineFetch n) s (fun t => t.pnl = { s.pnl with
        line := s.pnl.line + 1, link := px.map (fun p => linkWord m p.1 p.2.1 p.2.2 true (!f.testBit 4) (!f.testBit 3)),
        crc := (px.flatMap (fun p => [p.1, p.2.1, p.2.2])).foldl (fun c v => crcByte 1 c (BitVec.ofNat 8 (if m = 2 then v / 4 * 4 else v))) s.pnl.crc } ∧
      (k < w → t.fld Reg.PNL_STATUS_UNDERRUN = 1 ∧ t.fld Reg.PNL_UNDERRUN_COUNT = (s.fld Reg.PNL_UNDERRUN_COUNT + 1) % 2 ^ 32) ∧
      (w ≤ k → t.fld Reg.PNL_STATUS_UNDERRUN = s.fld Reg.PNL_STATUS_UNDERRUN ∧ t.fld Reg.PNL_UNDERRUN_COUNT = s.fld Reg.PNL_UNDERRUN_COUNT) ∧
      ((∀ x, x < k → x < w → s.poisoned (s.rgnBase 6 + (o + (if f.testBit 2 then 4 else 1) * x) % 2 ^ 24) 1 = false) → t.fld Reg.PNL_STATUS_FETCH_ERR = s.fld Reg.PNL_STATUS_FETCH_ERR) ∧
      (∀ x, x < k → x < w → s.poisoned (s.rgnBase 6 + (o + (if f.testBit 2 then 4 else 1) * x) % 2 ^ 24) 1 = true → t.fld Reg.PNL_STATUS_FETCH_ERR = 1) ∧ t.mem = s.mem)) ∧
  (∀ (s : State) (o a v : Nat), a = s.rgnBase 6 + o →
    (s.poisoned a 1 = false → s.pixel true o = ((s.mem.ext.read (a + 2)).toNat, (s.mem.ext.read (a + 1)).toNat, (s.mem.ext.read a).toNat) ∧
      (v = s.fld Reg.PNL_PAL (s.mem.ext.read a).toNat → s.pixel false o = (v / 65536 % 256, v / 256 % 256, v % 256))) ∧
    (s.poisoned a 1 = true → s.pixel true o = (0, 0, 0) ∧ (v = s.fld Reg.PNL_PAL 0 → s.pixel false o = (v / 65536 % 256, v / 256 % 256, v % 256)))) ∧
  (∀ (r g b e : Nat) (de vs hs : Bool), e = 64 * b2n de + 32 * b2n vs + 16 * b2n hs →
    linkWord 0 r g b de vs hs = [64 * (g % 2) + r % 64, 32 * (b % 4) + g / 2 % 32, e + b / 4 % 16, 16 * (b / 64 % 4) + 4 * (g / 64 % 4) + r / 64 % 4, 0x63] ∧
    linkWord 1 r g b de vs hs = [64 * (g / 4 % 2) + r / 4 % 64, 32 * (b / 4 % 4) + g / 8 % 32, e + b / 16 % 16, 16 * (b % 4) + 4 * (g % 4) + r % 4, 0x63] ∧
    linkWord 2 r g b de vs hs = [64 * (g / 4 % 2) + r / 4 % 64, 32 * (b / 4 % 4) + g / 8 % 32, e + b / 16 % 16, 0, 0x63]) ∧
  (∀ (s : State) (p : Word) (ok : Bool) (g n : Nat), s.runs 8 = true → s.pnl.inActive = true → s.pnl.line = s.fld Reg.PNL_VTIM0_V_ACTIVE → s.timerDue .frame (s.lineTicks s.activeEnd) = true → g = s.pnl.crc ^^^ 0xFFFFFFFF →
    n = (if s.pnl.prev = some g then s.pnl.same + 1 else 0) → Answers (.panelActiveEnd p ok) s (fun t =>
      t.fld Reg.PNL_CRC_PIPE = g % 2 ^ 32 ∧ t.fld Reg.PNL_CRC_PINS = p.toNat ∧ t.pnl.inActive = false ∧ t.pnl.prev = some g ∧ t.pnl.same = n ∧
      t.fld64 Reg.PNL_FRAMES_LO Reg.PNL_FRAMES_HI = (s.fld64 Reg.PNL_FRAMES_LO Reg.PNL_FRAMES_HI + 1) % 2 ^ 64 ∧
      (s.on Reg.PNL_REDUCE_EN = false ∨ n < 8 → t.fld Reg.PNL_STATUS_DIV = 0) ∧
      (∀ q r, q = max 1 (s.fld Reg.PNL_REDUCE_MIN_HZ) * (s.fld Reg.PNL_HTIM0_H_ACTIVE + s.fld Reg.PNL_HTIM0_H_FP + s.fld Reg.PNL_HTIM1_H_SYNC + s.fld Reg.PNL_HTIM1_H_BP) *
          (s.fld Reg.PNL_VTIM0_V_ACTIVE + s.fld Reg.PNL_VTIM0_V_FP + s.fld Reg.PNL_VTIM1_V_SYNC + s.fld Reg.PNL_VTIM1_V_BP) → s.pnl.pclk = some r → s.on Reg.PNL_REDUCE_EN = true → 8 ≤ n →
        t.fld Reg.PNL_STATUS_DIV = if s.on Reg.PNL_REDUCE_MAX4 = true ∧ 4 * q ≤ 1000 * r then 2 else if 2 * q ≤ 1000 * r then 1 else 0) ∧
      (g = p.toNat → t.fld Reg.PNL_STATUS_MISMATCH = s.fld Reg.PNL_STATUS_MISMATCH ∧ t.fld Reg.PNL_MISMATCH_COUNT = s.fld Reg.PNL_MISMATCH_COUNT ∧ t.irqOut = s.irqOut ∧ t.log = s.log) ∧
      (g ≠ p.toNat → t.fld Reg.PNL_STATUS_MISMATCH = 1 ∧ t.fld Reg.PNL_MISMATCH_COUNT = (s.fld Reg.PNL_MISMATCH_COUNT + 1) % 2 ^ 32 ∧
        (s.pnl.loggedAt = none → (if s.pw.standalone || s.vecOpen 0 then 0 ∈ t.irqOut else 0 ∈ t.hq.pba) ∧ t.pnl.loggedAt = some s.tick) ∧
        (∀ l, s.pnl.loggedAt = some l → s.tick < l + 200000000 → t.irqOut = s.irqOut ∧ t.log = s.log)) ∧
      t.fld Reg.PNL_STATUS_CLK_ERR = (if ok then s.fld Reg.PNL_STATUS_CLK_ERR else 1) ∧ t.mem = s.mem)) ∧
  (∀ (s : State) (n : Fin 2048) (p : Word) (ok : Bool), s.pnl.inActive = false ∨ s.runs 8 = false → exec (.lineFetch n) s = .next s ∧ exec (.panelActiveEnd p ok) s = .next s) ∧
  (∀ (s : State) (p : Word) (ok : Bool), s.timerDue .frame (s.lineTicks s.activeEnd) = false → exec (.panelActiveEnd p ok) s = .next s)

/-! ### Chapter 20 -/

/-- R433 to R436, R438, R439: CAL_RUN begins the visit of its lowest lane; CAL_BG turns the rotation on or off; CAL_STORE writes a valid record of the next generation into the copy that is not selected and selects it, and keeps the selection when the read-back fails; CAL_REPORT writes the record of generation 0; each refusal has its status and DETAIL. -/
def Obligations.CalibrationCommands : Prop :=
  (∀ (s : State) (h : Fin 256) (x : Handle) (m : Nat), s.cmd? h.val 0x70 = some x → x.p 0 = m →
    (m = 0 ∨ 127 < m → Ends (.calRun h) s h.val stInvalid 24 0 0 (fun u => u = s)) ∧
    (1 ≤ m → m ≤ 127 → s.cal.run.isSome = true → Ends (.calRun h) s h.val stBusy 0x70 0 0 (fun u => u = s)) ∧
    (32 ≤ m → m ≤ 127 → s.cal.run = none → s.acqRuns = true → Ends (.calRun h) s h.val stBusy 0x12 0 0 (fun u => u = s)) ∧
    (32 ≤ m → m ≤ 127 → s.cal.run = none → s.acqRuns = false → s.loaderPers = true → Ends (.calRun h) s h.val stNotReady 4 0 0 (fun u => u = s)) ∧
    (∀ l, m ≤ 127 → s.cal.run = none → (32 ≤ m → s.acqRuns = false ∧ s.loaderPers = false) → s.cal.visit = none → s.fld Reg.RCV_SP_STATUS_PHASE = 0 → s.runs 1 = true → l < 7 → m.testBit l = true →
      (∀ j, j < l → m.testBit j = false) → Answers (.calRun h) s (fun t => t.fld Reg.CAL_STATUS_RUN_BUSY = 1 ∧ t.cal.visit = some ⟨l, true, false⟩ ∧ t.cal.held = s.cal.held ∧
        t.cal.run = some ⟨h.val, m, (List.range 7).filter (fun j => decide (l < j) && m.testBit j), 0⟩ ∧
        (l < 4 → t.fld Reg.RCV_SP_STATUS_PHASE = 1 ∧ t.fld Reg.RCV_SP_STATUS_LANE = l) ∧ (4 ≤ l → t.fld Reg.RCV_SP_STATUS_PHASE = 0)))) ∧
  (∀ (s : State) (h : Fin 256) (x : Handle), s.cmd? h.val 0x71 = some x → Ends (.calBg h) s h.val stOk 0 0 0 (fun u =>
    u = (if s.on Reg.CAL_STATUS_BG_ON then s else s.timerStart .rotation).setF Reg.CAL_STATUS_BG_ON (x.p 0))) ∧
  (∀ (s : State) (h : Fin 256) (x : Handle) (b : Bool) (st g k : Nat), s.cmd? h.val 0x72 = some x → st = s.fld Reg.CAL_STATUS_STORE → g = (if st = 0 then 1 else s.fld Reg.CAL_GEN + 1) →
    k = (if st = 1 then 1 else 0) →
    (s.cal.run.isSome = true → Ends (.calStore h b) s h.val stBusy 0x70 0 0 (fun u => u = s)) ∧
    (s.cal.run = none → st ≠ 0 → s.fld Reg.CAL_GEN = 0xFFFFFFFE → Ends (.calStore h b) s h.val stNoSpace 0 0 0 (fun u => u = s)) ∧
    (s.cal.run = none → st = 0 ∨ s.fld Reg.CAL_GEN < 0xFFFFFFFE →
      (b = true → s.pw.brownBlock = false → Ends (.calStore h b) s h.val stOk 0 g 0 (fun u => u.calCopy k = s.calRecord g ∧ calValid (s.calRecord g) = some g ∧ u.calCopy (1 - k) = s.calCopy (1 - k) ∧
        u.fld Reg.CAL_STATUS_STORE = k + 1 ∧ u.fld Reg.CAL_GEN = g ∧ OnlyRegs [Reg.CAL_STATUS_STORE.key 0, Reg.CAL_GEN.key 0] { s with mem := u.mem } u ∧
        (∀ a, a < 0x20000 + 0x8000 * k ∨ 0x20000 + 0x8000 * k + 2368 ≤ a → u.mem.mram.read a = s.mem.mram.read a))) ∧
      (b = false ∨ s.pw.brownBlock = true → Ends (.calStore h b) s h.val stHwFault 0x60 0 0 (fun u => u.fld Reg.CAL_STATUS_STORE_ERR = 1 ∧ u.fld Reg.CAL_STATUS_STORE = st ∧
        u.fld Reg.CAL_GEN = s.fld Reg.CAL_GEN ∧ u.calCopy (1 - k) = s.calCopy (1 - k) ∧ (s.pw.brownBlock = true → u.mem = s.mem))))) ∧
  (∀ (s v : State) (h : Fin 256) (d : CmdData) (x : Handle) (b : Buffer), s.cmd? h.val 0x73 = some x → s.buffer x d = (b, v) → (s.calRecord 0).length = 2368 ∧
    (segsLen b.1 < 2368 → b.2 = .whole → Ends (.calReport h d) s h.val stNoSpace 0 0 0 (fun u => u = v)) ∧
    (2368 ≤ segsLen b.1 → Ends (.calReport h d) s h.val stOk 0 2368 0 (fun u => u = v.putSegs x.engine b.1 (s.calRecord 0))))

/-- R428 to R430, R432 to R434, R436: every PERIOD_S seconds the rotation begins the visit of the next lane, in RUN with no CAL_RUN and no visit under way, and skips a pinned lane; the end of a rotation visit, once its measurement has taken its time, moves each code by at most MAX_STEP; a CAL_RUN visit applies the computed codes, or keeps every code and names the rail; the last lane completes CAL_RUN with the mask applied. -/
def Obligations.CalibrationVisits : Prop :=
  (∀ s : State, s.on Reg.CAL_STATUS_BG_ON = false ∨ s.cal.run.isSome = true ∨ s.cal.visit.isSome = true ∨ s.pstate ≠ stRun ∨ s.timerDue .rotation (ticksS s.bgPeriod) = false → exec .calBgTimer s = .next s) ∧
  (∀ (s : State) (l : Nat), s.on Reg.CAL_STATUS_BG_ON = true → s.cal.run = none → s.cal.visit = none → s.pstate = stRun → s.runs 1 = true →
    s.timerDue .rotation (ticksS s.bgPeriod) = true → s.fld Reg.RCV_SP_STATUS_PHASE = 0 → l = s.fld Reg.CAL_STATUS_BG_NEXT % 5 →
    Answers .calBgTimer s (fun t => t.cal = { s.cal with visit := some ⟨l, false, false⟩ } ∧ t.fld Reg.CAL_STATUS_BG_NEXT = (l + 1) % 5 ∧
      t.fld Reg.RCV_SP_STATUS_PHASE = (if l < 4 then 1 else 0) ∧ t.mem = s.mem)) ∧
  (∀ (s : State) (l : Nat), s.on Reg.CAL_STATUS_BG_ON = true → s.cal.run = none → s.cal.visit = none → s.pstate = stRun → s.timerDue .rotation (ticksS s.bgPeriod) = true →
    s.on Reg.RCV_SP_CTL_PIN = true → s.spHolds l = true → l < 3 → s.fld Reg.CAL_STATUS_BG_NEXT = l → Answers .calBgTimer s (fun t => t.cal = s.cal ∧ t.fld Reg.CAL_STATUS_BG_NEXT = l + 2)) ∧
  (∀ (s : State) (m p q r : LaneMeas), s.cal.visit = none ∨ (∀ v, s.cal.visit = some v → s.timerDue .visit (visitTicks v.lane) = false) → exec (.calVisitDone m p q r) s = .next s) ∧
  (∀ (s : State) (m p q r : LaneMeas) (l : Fin 4), s.cal.visit = some ⟨l.val, false, false⟩ → s.spHolds l = true → s.timerDue .visit (ticksMs 40) = true → s.cal.run = none → Answers (.calVisitDone m p q r) s (fun t =>
    t.cal.visit = none ∧ t.fld Reg.CAL_BG_COUNT = (s.fld Reg.CAL_BG_COUNT + 1) % 2 ^ 32 ∧ t.cal.held = s.cal.held ∧ t.mem = s.mem ∧
    (∀ i, i < 4 → ((codesOf (t.fld Reg.CAL_RX_TRIM l)).getD i 0 - (codesOf (s.fld Reg.CAL_RX_TRIM l)).getD i 0).natAbs ≤ max 1 (s.fld Reg.CAL_BG_CTL_MAX_STEP)) ∧
    (∀ k : Fin 4, k ≠ l → t.fld Reg.CAL_RX_TRIM k = s.fld Reg.CAL_RX_TRIM k) ∧ (s.on Reg.RCV_SP_CTL_PIN = false → t.rx.releasing = true))) ∧
  (∀ (s : State) (m p q r : LaneMeas) (k : Fin 2) (c : CalRun) (o n : List Int), s.cal.visit = some ⟨5 + k.val, true, false⟩ → s.timerDue .visit (ticksMs 20) = true → s.cal.run = some c → c.left = [] → s.fld Reg.RCV_SP_STATUS_PHASE = 0 →
    o = codesOf (s.fld Reg.CAL_DAC_TRIM k) → n = newCodes true (k == 0) false 0 o m →
    (offRail n = false → Ends (.calVisitDone m p q r) s c.handle (if c.applied ||| 2 ^ (5 + k.val) = c.mask then stOk else stPartial) 0 (c.applied ||| 2 ^ (5 + k.val)) 0 (fun u =>
      codesOf (u.fld Reg.CAL_DAC_TRIM k) = n ∧ u.cal.run = none ∧ u.cal.visit = none ∧ u.cal.held = s.cal.held ||| 2 ^ (5 + k.val) ∧ u.fld Reg.CAL_STATUS_RUN_BUSY = 0 ∧ u.mem = s.mem ∧ u.hq = s.hq ∧
      (u.cal.held &&& 0x6F = 0x6F → u.fld Reg.CAL_STATUS_LOADED = 1))) ∧
    (offRail n = true → Ends (.calVisitDone m p q r) s c.handle (if c.applied = c.mask then stOk else stPartial) 0 c.applied 0 (fun u =>
      codesOf (u.fld Reg.CAL_DAC_TRIM k) = o ∧ u.fld Reg.CAL_STATUS_RAIL = 1 ∧ (u.fld Reg.CAL_LANE_RAIL).testBit (5 + k.val) = true ∧ u.cal.held = s.cal.held ∧ u.mem = s.mem))) ∧
  (∀ (dac pi q : Bool) (e : Int) (o : List Int) (m : LaneMeas) (w f : Int), w = (if dac then 2 ^ 22 else 2 ^ 21) → f = (if dac then 3072 else 768) * 2 ^ 24 → o.length = 4 →
    2 * (w * (o.getD 0 0 - (newCodes dac pi q e o m).getD 0 0) - m.m0).natAbs ≤ w.natAbs ∧
    2 * (f * (o.getD 1 0 - (newCodes dac pi q e o m).getD 1 0) - 2000 * (m.mp - m.mm - f)).natAbs ≤ f.natAbs ∧
    (pi = true → (newCodes dac pi q e o m).getD 2 0 = o.getD 2 0) ∧ (q = false → (newCodes dac pi q e o m).getD 3 0 = o.getD 3 0))

/-! ### Chapter 21 -/

/-- R453, R454, R457, R459 to R462: the update commands. Every one but FW_STATUS is BUSY, with its opcode, while another runs; FW_BEGIN opens a session and the journal shows STAGING; FW_BLOCK writes its block into STAGING; FW_VERIFY names the check that failed or makes the image VERIFIED; FW_ACTIVATE needs VERIFIED; FW_CONFIRM confirms the running generation. -/
def Obligations.UpdateCommands : Prop :=
  (∀ (s : State) (h : Fin 256) (d : CmdData) (x : Handle) (r : Nat), s.fwRuns h.val = some r → ∀ i op, (i, op) ∈ [(Instr.fwBegin h, 0x80), (.fwBlock h d, 0x81), (.fwVerify h, 0x82), (.fwActivate h, 0x83), (.fwConfirm h, 0x84)] →
    s.cmd? h.val op = some x → Ends i s h.val stBusy r 0 0 (fun u => u = s)) ∧
  (∀ (s : State) (h : Nat), (s.activating = true → s.fwRuns h = some 0x83) ∧
    (∀ k t y, s.activating = false → ⟨t, .cmd k, false⟩ ∈ s.hq.reads → k ≠ h → s.handle? k = some y → 0x80 ≤ y.op → y.op ≤ 0x84 → ∃ r, s.fwRuns h = some r ∧ 0x80 ≤ r ∧ r ≤ 0x84)) ∧
  (∀ (s : State) (h : Fin 256) (x : Handle) (b : Nat), s.cmd? h.val 0x80 = some x → s.fwRuns h.val = none → x.p 0 = b →
    (b < 4096 ∨ 67108864 < b ∨ b % 4096 ≠ 0 → Ends (.fwBegin h) s h.val stInvalid 24 0 0 (fun u => u = s)) ∧
    (4096 ≤ b → b ≤ 67108864 → b % 4096 = 0 → s.rgnSize 5 = 0 → Ends (.fwBegin h) s h.val stNotReady 3 0 0 (fun u => u = s)) ∧
    (4096 ≤ b → b ≤ 67108864 → b % 4096 = 0 → s.rgnSize 5 ≠ 0 → Ends (.fwBegin h) s h.val stOk 0 0 0 (fun u => u.sum.stage = some ⟨b, []⟩ ∧ u.fld Reg.SUM_UPD_STATUS_STATE = 1 ∧
      (s.pw.brownBlock = false → s.journal.seq < 2 ^ 32 - 1 → u.journal.state = 1 ∧ u.journal.seq = s.journal.seq + 1 ∧ u.journal.cgen = s.journal.cgen) ∧ u.mem.ext = s.mem.ext ∧ u.mem.flash = s.mem.flash))) ∧
  (∀ (s : State) (h : Fin 256) (d : CmdData) (x : Handle) (o : Nat), s.cmd? h.val 0x81 = some x → s.fwRuns h.val = none → x.p 0 = o →
    (s.sum.stage = none → Ends (.fwBlock h d) s h.val stNotReady 6 0 0 (fun u => u = s)) ∧
    (∀ g, s.sum.stage = some g → o % 65536 ≠ 0 ∨ g.bytes ≤ o → Ends (.fwBlock h d) s h.val stInvalid 24 0 0 (fun u => u = s)) ∧
    (∀ g n k bs v, s.sum.stage = some g → o % 65536 = 0 → o < g.bytes → n = min 65536 (g.bytes - o) → s.dataOf x d = some (k, bs) → v = s.dataRead x d →
      (k ≠ n → Ends (.fwBlock h d) s h.val stInvalid 16 0 0 (fun u => u = v)) ∧
      (k = n → v.memReady = false → exec (.fwBlock h d) s = .next s) ∧
      (k = n → v.memReady = true → bs.length = n → Ends (.fwBlock h d) s h.val stOk 0 n 0 (fun u => u.mem.ext.readN (s.rgnBase 5 + o) n = bs ∧
        (∀ a, a < s.rgnBase 5 + o ∨ s.rgnBase 5 + o + n ≤ a → u.mem.ext.read a = s.mem.ext.read a) ∧ u.mem.flash = s.mem.flash ∧
        u.sum.stage = some { g with blocks := o / 65536 :: g.blocks.filter (· != o / 65536) } ∧ (s.journal.state = 2 → u.fld Reg.SUM_UPD_STATUS_STATE = 1))))) ∧
  (∀ (s : State) (h : Fin 256) (x : Handle), s.cmd? h.val 0x82 = some x → s.fwRuns h.val = none →
    (s.sum.stage = none → Ends (.fwVerify h) s h.val stNotReady 6 0 0 (fun u => u = s)) ∧
    (∀ g i, s.sum.stage = some g → i < (65535 + g.bytes) / 65536 → i ∉ g.blocks → (∀ j, j < i → j ∈ g.blocks) → s.memReady = true →
      Ends (.fwVerify h) s h.val stNotReady 6 0 i (fun u => u = (s.setF Reg.SUM_UPD_STATUS_REASON 0).setF Reg.SUM_UPD_STATUS_PART 0)) ∧
    (∀ g st det r0 r1 e p, s.sum.stage = some g → s.memReady = true → g.missing = none → s.stageVerdict g = .bad st det r0 r1 e p →
      Ends (.fwVerify h) s h.val st det r0 r1 (fun u => u = ((s.linesRead (s.rgnBase 5) g.bytes).setF Reg.SUM_UPD_STATUS_REASON e).setF Reg.SUM_UPD_STATUS_PART p)) ∧
    (∀ g, s.sum.stage = some g → s.memReady = false → exec (.fwVerify h) s = .next s) ∧
    (∀ g m, s.sum.stage = some g → s.memReady = true → s.stageVerdict g = .ok → m = s.stageGet 0 4096 → manBad m = none ∧ s.keyOk m = true ∧ signatureOk m = true ∧ s.journal.cgen < manGen m ∧
      (∀ p ∈ manParts m, p.good (s.stageGet p.ofs p.len) = true) ∧
      Ends (.fwVerify h) s h.val stOk 0 (manParts m).length 0 (fun u => u.fld Reg.SUM_UPD_STATUS_STATE = 2 ∧ u.fld Reg.SUM_UPD_STATUS_REASON = 0 ∧ u.mem.ext = s.mem.ext ∧
        u.mem.flash = s.mem.flash ∧ (s.pw.brownBlock = false → s.journal.seq < 2 ^ 32 - 1 → u.journal.state = 2 ∧ u.journal.gen = manGen m)))) ∧
  (∀ (s v : State) (h : Fin 256) (x : Handle) (m : List Byte), s.cmd? h.val 0x83 = some x → s.fwRuns h.val = none → v = s.takeUp h.val → m = v.stageGet 0 4096 →
    (s.journal.state ≠ 2 → Ends (.fwActivate h) s h.val stNotReady 6 0 0 (fun u => u = s)) ∧
    (s.journal.state = 2 → Answers (.fwActivate h) s (fun t => t.fld Reg.SUM_UPD_STATUS_STATE = 3 ∧ t.sum.actBase = s.rgnBase 5 ∧
      t.sum.act = some ⟨some h.val, actOrder (manParts m)⟩ ∧ t.mem.ext = v.mem.ext ∧ t.mem.flash = s.mem.flash) ∧ ∀ i, i ∈ actOrder (manParts m) ↔ i < (manParts m).length)) ∧
  (∀ (s : State) (h : Fin 256) (x : Handle), s.cmd? h.val 0x84 = some x → s.fwRuns h.val = none →
    (s.loaderPers = true → Ends (.fwConfirm h) s h.val stNotReady 4 0 0 (fun u => u = s)) ∧
    (s.loaderPers = false → s.genConfirmed = true → Ends (.fwConfirm h) s h.val stOk 0 s.genNo 0 (fun u => u = s)) ∧
    (s.loaderPers = false → s.genConfirmed = false → Ends (.fwConfirm h) s h.val stOk 0 s.genNo 0 (fun u => (s.pw.brownBlock = false → u.genConfirmed = true ∧ u.genValid = true) ∧
      u.genNo = s.genNo ∧ u.sum.confirmNs = 0 ∧ u.fld Reg.SUM_BOOT_STATUS_CONFIRM_PENDING = 0 ∧ u.fld Reg.SUM_CONFIRM_LEFT = 0 ∧ u.fld Reg.SUM_UPD_STATUS_STATE = 5))) ∧
  (∀ (s : State) (h : Fin 256) (x : Handle), s.cmd? h.val 0x85 = some x → Ends (.fwStatus h) s h.val stOk 0
    (s.journal.state % 256 + 2 ^ 8 * s.genBoots + 2 ^ 16 * (s.journal.reason % 256) + 2 ^ 24 * b2n s.loaderPers) s.genNo (fun u => u = s))

/-- R443, R461, R462: a finished part is programmed and the next one follows; a part whose staged bytes fail stops the activation, the journal FAILED; the last part makes the new generation the unconfirmed one and starts a warm reset; the confirmation timer and the summit watchdog reset what they should, and a kick restarts the watchdog. -/
def Obligations.ActivationAndWatchdog : Prop :=
  (∀ (s : State) (r : ActOutcome), s.sum.act = none ∨ s.sumRuns = false ∨ s.memReady = false → exec (.activationProgress r) s = .next s) ∧
  (∀ (s : State) (a : Activation) (i : Nat) (l : List Nat) (p : Part) (bs m : List Byte), s.sum.act = some a → a.left = i :: l → i < 16 → s.sumRuns = true → s.memReady = true → m = s.actGet 0 4096 → p = partAt m i →
    bs = s.actGet p.ofs p.len →
    (∀ h r, a.handle = some h → s.poisoned (s.sum.actBase + p.ofs) p.len = false → sha384 bs ≠ (s.journal.partDigests.drop (48 * i)).take 48 →
      Ends (.activationProgress r) s h stDataError 3 0 0 (fun u => u.sum.act = none ∧ u.fld Reg.SUM_UPD_STATUS_STATE = 6 ∧ u.mem.flash = s.mem.flash)) ∧
    (∀ h r, a.handle = some h → s.poisoned (s.sum.actBase + p.ofs) p.len = true →
      Ends (.activationProgress r) s h stDataError 2 0 0 (fun u => u.sum.act = none ∧ u.fld Reg.SUM_UPD_STATUS_STATE = 6 ∧ u.mem.flash = s.mem.flash)) ∧
    (s.poisoned (s.sum.actBase + p.ofs) p.len = false → sha384 bs = (s.journal.partDigests.drop (48 * i)).take 48 →
      (∀ h r, a.handle = some h → p.type ≠ 6 → r ≠ .ok → Ends (.activationProgress r) s h stHwFault 0x50 0 0 (fun u => u.sum.act = none ∧ u.fld Reg.SUM_UPD_STATUS_STATE = 6)) ∧
      (∀ h r, a.handle = some h → p.type = 6 → r ≠ .ok ∨ compOk bs = false → Ends (.activationProgress r) s h stHwFault 0x51 0 0 (fun u => u.sum.act = none ∧ u.fld Reg.SUM_UPD_STATUS_STATE = 6)) ∧
      (p.type = 6 → l ≠ [] → compOk bs = true → Answers (.activationProgress .ok) s (fun t => t.sum.act = some { a with left := l } ∧ t.fld Reg.SUM_UPD_STATUS_PART = i ∧
        t.sum.companion = s.sum.companion ++ compPages bs ∧ t.mem.flash = s.mem.flash ∧ t.mem.mram = s.mem.mram)) ∧
      (p.type ≠ 6 → l ≠ [] → s.pw.brownBlock = false → Answers (.activationProgress .ok) s (fun t => t.sum.act = some { a with left := l } ∧ t.fld Reg.SUM_UPD_STATUS_PART = i ∧
        t.flashGet p.ofs p.len = bs ∧ (∀ o, o < p.ofs ∨ p.ofs + p.len ≤ o → t.mem.flash.read o = s.mem.flash.read o) ∧ t.mem.mram = s.mem.mram)) ∧
      (p.type ≠ 6 → l = [] → s.pw.brownBlock = false → Answers (.activationProgress .ok) s (fun t => t.genNo = manGen m ∧ t.genBoots = 0 ∧ t.genConfirmed = false ∧ t.genValid = true ∧
        t.flashGet 0 4096 = m ∧ t.pw.phase = .held ∧ t.fld Reg.PWR_RST_CAUSE_WARM_REG = 1 ∧ t.sum.act = none)))) ∧
  (∀ s : State, (s.sumRuns = false ∨ s.on Reg.SUM_BOOT_STATUS_CONFIRM_PENDING = false ∨ s.sum.confirmNs ≠ 0 → exec .confirmTimeout s = .next s) ∧
    (s.sumRuns = true → s.sum.confirmNs = 0 → s.on Reg.SUM_BOOT_STATUS_CONFIRM_PENDING = true → Answers .confirmTimeout s (fun t => t.fld Reg.PWR_RST_CAUSE_WARM_REG = 1 ∧ t.fld Reg.PWR_RST_CAUSE_POR = 0 ∧
      t.pw.phase = .held ∧ t.pw.warm = true ∧ t.tb = s.tb ∧ t.mem.ext = s.mem.ext ∧ t.mem.flash = s.mem.flash ∧ t.genNo = s.genNo))) ∧
  (∀ (s : State) (pc : Word),
    (s.sumRuns = false ∨ (s.pstate ≠ stRun ∧ s.pstate ≠ stLoader) ∨ s.timerDue .summit (ticksS 1) = false → exec (.summitWatchdog pc) s = .next s) ∧
    (s.sumRuns = true → s.pstate = stRun ∨ s.pstate = stLoader → s.timerDue .summit (ticksS 1) = true → Answers (.summitWatchdog pc) s (fun t => t.fld Reg.SUM_WDOG_COUNT = (s.fld Reg.SUM_WDOG_COUNT + 1) % 2 ^ 32 ∧
      t.sum.wdogPc = pc.toNat ∧ t.sum.wdogOwed = true ∧ t.pw.phase = .rom ∧ t.pw.restart = true ∧ t.fld Reg.SUM_BOOT_STATUS_PERSONALITY = 0 ∧ t.mem.sram = [] ∧ t.mem.ext = s.mem.ext ∧
      t.hq = s.hq ∧ t.acq = s.acq ∧ t.red = s.red ∧ t.pstate = s.pstate))) ∧
  (∀ (s : State) (v : Word), (s.sumRuns = true → v.toNat = 0x5A → Answers (.sumWdogKick v) s (fun t => t = s.timerStart .summit)) ∧
    (s.sumRuns = false ∨ v.toNat ≠ 0x5A → exec (.sumWdogKick v) s = .next s))

/-- R444 to R447, R449, R451, R452: LOG_READ copies the retained entries from its sequence, oldest first; LOG_MARK writes its two entries in a row with one stamp; SENSOR_READ writes the record of R445; SENSOR_LIMITS checks and applies its record; a sample set shows its readings, sets or clears the alarm bits by limits and hysteresis, and raises or ends THERMAL. -/
def Obligations.LogAndSensors : Prop :=
  (∀ (s : State) (h : Fin 256) (d : CmdData) (x : Handle) (p : Nat), s.cmd? h.val 0x90 = some x → x.p 1 = p →
    (p = 0 ∨ 32768 < p → Ends (.logRead h d) s h.val stInvalid 28 0 0 (fun u => u = s)) ∧
    (∀ (b : Buffer) (v : State) (w : List Nat) (n : Nat) (f : Nat → List Byte), 1 ≤ p → p ≤ 32768 → s.buffer x d = (b, v) → b.2 = .whole → w = s.logWalk (x.p 0 % 2 ^ 24) → n = min w.length (min p (segsLen b.1 / 32)) →
      (segsLen b.1 < 32 → Ends (.logRead h d) s h.val stNoSpace 0 0 0 (fun u => u = v)) ∧
      (32 ≤ segsLen b.1 → w = [] → Ends (.logRead h d) s h.val stOk 0 0 s.log.next (fun u => u = v)) ∧
      (32 ≤ segsLen b.1 → w ≠ [] → (∀ q ∈ w, s.logBytes q = some (f q)) →
        Ends (.logRead h d) s h.val stOk 0 n ((w.getD 0 0 + n) % 2 ^ 24) (fun u => u = v.putSegs x.engine b.1 ((w.take n).flatMap f))))) ∧
  (∀ (s : State) (q a o n : Nat), s.log.count = n + 1 → n < 2 ^ 23 → s.log.next < 2 ^ 24 → q < 2 ^ 24 → a = (s.log.next + 2 ^ 24 - 1) % 2 ^ 24 → o = (a + 2 ^ 24 - n) % 2 ^ 24 →
    ((q + 2 ^ 24 - o) % 2 ^ 24 ≤ n → (s.logWalk q).head? = some q ∧ (s.logWalk q).getLast? = some a) ∧
    (n < (q + 2 ^ 24 - o) % 2 ^ 24 → 1 ≤ (q + 2 ^ 24 - a) % 2 ^ 24 ∧ (q + 2 ^ 24 - a) % 2 ^ 24 ≤ 2 ^ 23 → s.logWalk q = []) ∧
    (n < (q + 2 ^ 24 - o) % 2 ^ 24 → 2 ^ 23 < (q + 2 ^ 24 - a) % 2 ^ 24 → (s.logWalk q).head? = some o ∧ (s.logWalk q).length = n + 1)) ∧
  (∀ (s v : State) (h : Fin 256) (x : Handle) (d e : List Byte), s.cmd? h.val 0x91 = some x → d = (List.range 4).flatMap (fun i => leBytes 4 (x.p i)) → e = leBytes 4 (x.p 4) ++ leBytes 4 (x.p 5) →
    v = s.logPut 0 0x0F00 0x22 s.now d → Ends (.logMark h) s h.val stOk 0 s.log.next 0 (fun u => u = v.logPut 0 0x0F01 0x22 s.now e)) ∧
  (∀ (s t : State) (c r k : Nat) (d : List Byte), s.log.next < 2 ^ 24 → s.log.count ≤ 32768 → t = s.logPut 0 c r k d →
    t.log = { s.log with buf := s.log.buf ++ [⟨s.log.next, 0, c, r, k, (d ++ zeros 16).take 16⟩], next := (s.log.next + 1) % 2 ^ 24, count := min (s.log.count + 1) 32768 } ∧
    t.fld Reg.SUM_LOG_NEWEST = s.log.next ∧ t.fld Reg.SUM_LOG_OLDEST = (s.log.next + 1 + 2 ^ 24 - t.log.count) % 2 ^ 24 ∧
    OnlyRegs [Reg.SUM_LOG_NEWEST.key 0, Reg.SUM_LOG_OLDEST.key 0] { s with log := t.log } t) ∧
  (∀ (s v : State) (h : Fin 256) (d : CmdData) (x : Handle) (b : Buffer), s.cmd? h.val 0x92 = some x → s.buffer x d = (b, v) →
    (segsLen b.1 < 64 → b.2 = .whole → Ends (.sensorRead h d) s h.val stNoSpace 0 0 0 (fun u => u = v)) ∧
    (64 ≤ segsLen b.1 → Ends (.sensorRead h d) s h.val stOk 0 64 0 (fun u => u = v.putSegs x.engine b.1 s.sensorRecord))) ∧
  (∀ (s : State) (b : List Byte), b = s.sensorRecord → b.length = 64 ∧ field b 0 4 = 0x52534E53 ∧
      field b 4 4 = s.sum.sensors.samples % 2 ^ 32 ∧ field b 8 8 = s.sum.sensors.stamp % 2 ^ 64 ∧ (∀ i, i < 8 → field b (16 + 2 * i) 2 = s.fld Reg.SUM_TEMP i) ∧
      (∀ i, i < 12 → field b (32 + 2 * i) 2 = s.fld Reg.SUM_SUPPLY i) ∧ field b 56 4 = s.fld Reg.SUM_SENSOR_ALARM ∧ field b 60 4 = crc32c (b.take 60)) ∧
  (∀ (s v : State) (h : Fin 256) (d : CmdData) (n : Nat) (r : List Byte) (x : Handle), s.cmd? h.val 0x93 = some x → s.dataOf x d = some (n, r) → v = s.dataRead x d →
    (n ≠ 96 → Ends (.sensorLimits h d) s h.val stInvalid 16 0 0 (fun u => u = v)) ∧
    (∀ o, n = 96 → limitsBad r = some o → Ends (.sensorLimits h d) s h.val stInvalid 0xFF o 0 (fun u => u = v)) ∧
    (n = 96 → limitsBad r = none → Ends (.sensorLimits h d) s h.val stOk 0 0 0 (fun u => u = v.setLimits r))) ∧
  (∀ (s : State) (r : List Byte) (m : Summit), m = (s.setLimits r).sum →
    s.setLimits r = { s with sum := { s.sum with sensors := { s.sum.sensors with limits := m.sensors.limits, hystT := field r 6 1, hystV := field r 7 1 } } } ∧
    (∀ i : Fin 20, m.sensors.limits[i] = some (if i.val < 8 then (sx 16 (field r (16 + 4 * i.val) 2), sx 16 (field r (18 + 4 * i.val) 2))
        else ((field r (16 + 4 * i.val) 2 : Int), (field r (18 + 4 * i.val) 2 : Int))))) ∧
  (∀ r : List Byte, limitsBad r = none → field r 0 4 = 0x544D4C53 ∧ field r 4 2 = 1 ∧ 1 ≤ field r 6 1 ∧ field r 6 1 ≤ 64 ∧ field r 7 1 ≠ 0 ∧ field r 8 8 = 0 ∧ (∀ i, i < 20 → (limitPair r i).1 < (limitPair r i).2)) ∧
  (∀ r : List Byte, field r 0 4 = 0x544D4C53 → field r 4 2 = 1 → 1 ≤ field r 6 1 → field r 6 1 ≤ 64 → field r 7 1 ≠ 0 → field r 8 8 = 0 → (∀ i, i < 20 → (limitPair r i).1 < (limitPair r i).2) → limitsBad r = none) ∧
  (∀ (s : State) (ts : List Int) (vs : List Nat), s.pw.standby = true ∨ s.pw.phase = .held ∨ s.timerDue .sensors (ticksMs 10) = false → exec (.sensorSample ts vs) s = .next s) ∧
  (∀ (s : State) (ts : List Int) (vs : List Nat) (r : Nat → Int), s.pw.standby = false → s.pw.phase ≠ .held → s.timerDue .sensors (ticksMs 10) = true → ts.length = 8 → vs.length = 12 → (∀ x ∈ ts, -32768 ≤ x ∧ x < 32768) → (∀ v ∈ vs, v < 65536) →
    r = (fun i => if i < 8 then ts.getD i 0 else (vs.getD (i - 8) 0 : Int)) → Answers (.sensorSample ts vs) s (fun t =>
      t.sum.sensors.samples = (s.sum.sensors.samples + 1) % 2 ^ 32 ∧ t.sum.sensors.stamp = s.now ∧ (∀ i, i < 8 → t.fldS Reg.SUM_TEMP i = ts.getD i 0) ∧
      (∀ i, i < 12 → t.fld Reg.SUM_SUPPLY i = vs.getD i 0) ∧
      (∀ (i : Fin 20) (lo hi y : Int), s.sum.sensors.limits[i] = some (lo, hi) → y = (if i.val < 8 then (s.sum.sensors.hystT : Int) else s.sum.sensors.hystV) →
        (r i < lo ∨ hi < r i → (t.fld Reg.SUM_SENSOR_ALARM).testBit i = true) ∧
        (lo ≤ r i → r i ≤ hi → lo + y ≤ r i → r i ≤ hi - y → (t.fld Reg.SUM_SENSOR_ALARM).testBit i = false) ∧
        (lo ≤ r i → r i ≤ hi → r i < lo + y ∨ hi - y < r i → (t.fld Reg.SUM_SENSOR_ALARM).testBit i = (s.fld Reg.SUM_SENSOR_ALARM).testBit i)) ∧
      (s.src.thermal = false → (∃ i : Fin 8, 2 ≤ s.sum.sensors.hot[i] ∧ 1888 ≤ ts.getD i 0) → t.src.thermal = true ∧ (t.fld Reg.SUM_SENSOR_ALARM).testBit 20 = true) ∧
      (s.src.thermal = false → (∀ i, i < 8 → ts.getD i 0 < 1888) → t.src = s.src ∧ t.mem = s.mem) ∧
      (s.src.thermal = true → (∀ i, i < 8 → ts.getD i 0 < 1680) → t.src.thermal = false ∧ (t.fld Reg.SUM_SENSOR_ALARM).testBit 20 = false)))

/-! ### The machine and its encodings -/

/-- R117, R122, R138, R177, R192, R194, R199, R228, R230, R231, R234, R236: the bounds and the conservation of the arithmetic. Of a plan record that passes the checks, the lane rates sum to at most 3.2 GS/s, every slot leaves at least 20 ticks between one gate closing and the next opening, and the slots of frames hold every chirp, window and gate. A lane whose 20 codes all equal v keeps A = v·20·2^K, and D = v there. The reduced value of INC and its carry lose nothing: Q·u + c' = Σ + c at every output point, with 2·|c'| at most Q. A Raman record that passes the checks keeps its slots inside firn, on 64-byte boundaries and apart, and a shot adds to a point at most 2^BIN times the largest code, so the accumulators of 2^22 shots stay below 2^38. Over any run of values in feedback mode, from error terms at 0, the sum of y differs from the sum of x by the error terms alone, modulo 2^W, and each term stays within ±2^(k−1). What the groomer's coder writes is what its decoder reads: a literal below 2^b under any Rice state, a match of 4 to 259 symbols at a distance below 2^15, and a residual against its reference. -/
def Obligations.NumericBounds : Prop :=
  (∀ (len : Nat) (bs : List Byte) (refLen : Nat → Nat) (p : Plan), checkPlan len bs refLen = .ok p →
    (p.tones.map (fun t => laneRateKhz t.depth)).sum ≤ 3200000 ∧ 1 ≤ p.n ∧ p.n ≤ 128 ∧ p.frameTicks = p.n * p.slotTicks ∧
    ∀ t ∈ p.tones, p.lead + t.chirpTicks + p.lag + 20 ≤ p.slotTicks ∧ p.winOfs + p.window + t.chirpTicks + 400 ≤ p.frameTicks ∧
      t.lane < 128 ∧ p.gauge < p.points t) ∧
  (∀ (v : Int) (k : Nat), -512 ≤ v → v ≤ 511 → 8 ≤ k → k ≤ 20 → dcbNext (v * 20 * 2 ^ k) (20 * v) k = v * 20 * 2 ^ k ∧ dcbD (v * 20 * 2 ^ k) k = v) ∧
  (∀ (q : Nat) (sums carry : List Int) (i : Nat), 1 < q → i < sums.length →
    (q : Int) * (reduceGroup kInc q sums carry).1.getD i 0 + (reduceGroup kInc q sums carry).2.getD i 0 = sums.getD i 0 + carry.getD i 0 ∧
    2 * ((reduceGroup kInc q sums carry).2.getD i 0).natAbs ≤ q) ∧
  (∀ (bs : List Byte) (k : Nat), dtsBad bs = none → k < (parseDts bs).slots → (parseDts bs).slotOfs k % 64 = 0 ∧
    (parseDts bs).slotOfs k + (parseDts bs).slotBytes ≤ 0x800000 ∧ 64 + (parseDts bs).recBytes * (parseDts bs).points ≤ (parseDts bs).slotBytes) ∧
  (∀ (n p : Nat) (acc codes : List Nat) (i : Nat), (∀ c ∈ codes, c < 2 ^ 14) → i < p →
    (addPoints n p acc codes).length = p ∧
    (addPoints n p acc codes).getD i 0 = acc.getD i 0 + ((codes.drop (n * i)).take n).sum ∧
    (addPoints n p acc codes).getD i 0 ≤ acc.getD i 0 + n * (2 ^ 14 - 1)) ∧
  (∀ (elem k stride : Nat) (xs : List Int), elem < 2 → 1 ≤ k → k ≤ 8 → 1 ≤ stride →
    let r := quantRun elem k true stride xs []
    r.2.1.length = xs.length ∧ r.2.2.length = stride ∧ (r.2.1.sum - xs.sum + r.2.2.sum) % 2 ^ elemW elem = 0 ∧
    (∀ e ∈ r.2.2, e.natAbs ≤ 2 ^ (k - 1)) ∧ (∀ q ∈ r.1, -(2 ^ (elemW elem - k - 1) : Int) ≤ q ∧ q < 2 ^ (elemW elem - k - 1))) ∧
  (∀ (b a n u : Nat) (rest : List Bool), 0 < b → u < 2 ^ b → readRice b a n (riceBits b a n u ++ rest) = some (u, rest)) ∧
  (∀ (l d : Nat) (rest : List Bool), 4 ≤ l → l ≤ 259 → 0 < d → d < 2 ^ 15 →
    readMatch (bitsOf 8 (l - 4) ++ bitsOf 4 (bitLen d - 1) ++ bitsOf (bitLen d - 1) d ++ rest) = some (l, d, rest)) ∧
  (∀ (b : Nat) (q ref : Int), 0 < b → -(2 ^ (b - 1) : Int) ≤ q → q < 2 ^ (b - 1) → wrapB b (ref + resOf (symOf b q ref)) = q ∧ symOf b q ref < 2 ^ b)

/-- R280, R284, R288, R290, R295, R331: the codes of the cores, each operand at every value. Every cairn instruction's word has 32 bits and decodes to the instruction; a ridge bundle of well-formed operations, the last one marked, has 64 bits and decodes to these operations in slot order. -/
def Obligations.CoreCodes : Prop :=
  (∀ (i : Instr) (w : Nat), crnEncode i = some w → w < 2 ^ 32 ∧ crnDecode w = some i) ∧
  (∀ (c : Fin 8) (m x y : Instr) (w : Nat), m.wellFormed = true → x.wellFormed = true → y.wellFormed = true → coreOp? m = some (c, false) → coreOp? x = some (c, false) →
    coreOp? y = some (c, true) → bundleStd m x y = some w → w < 2 ^ 64 ∧ bundleDecode c w = some [m, x, y]) ∧
  (∀ (c : Fin 8) (l y : Instr) (w : Nat), l.wellFormed = true → y.wellFormed = true → coreOp? l = some (c, false) → coreOp? y = some (c, true) →
    bundleLong l y = some w → w < 2 ^ 64 ∧ bundleDecode c w = some [l, y])

/-- The model's step (log entry 10): a step with a command at the front of the queue is that command's effect on the state with the rest of the queue, and the queue is otherwise left to the step; with an empty queue what is due in the present tick joins the queue, and when nothing is one tick passes. -/
def Obligations.StepTakesFront : Prop :=
  (∀ (c : Instr) (s : State), step { s with pending := c :: s.pending } = exec c s) ∧
  (∀ (c : Instr) (r : List Instr) (s : State), s.pending = c :: r → step s = exec c { s with pending := r }) ∧
  (∀ (s : State) (i : Instr), s.pending = [] → s.dueNow = some i → step s = .next { s with pending := [i], free := s.free + freeUsed i }) ∧
  (∀ s : State, s.pending = [] → s.dueNow = none → step s = .next s.tickPass ∧ s.tickPass.tick = s.tick + 1)

/-- R51, R61: right after reset every register field reads its reset value, no command waits, no handle is held, the time base is 0, every memory is in its canonical form and reads 0, the erased flash 0xFF (log entry 2), and no write to the host has been made. -/
def Obligations.ResetState : Prop :=
  State.reset.pending = [] ∧ State.reset.mem.ok = true ∧ (∀ (F : Field) (i : Nat), State.reset.fld F i = F.reset i % 2 ^ F.width) ∧ State.reset.now = 0 ∧
  State.reset.hq.handles = [] ∧ State.reset.hostOut = [] ∧ State.reset.pw.phase = .held ∧
  (∀ a : Nat, State.reset.mem.sram.read a = 0 ∧ State.reset.mem.firn.read a = 0 ∧ State.reset.mem.ext.read a = 0 ∧ State.reset.mem.mram.read a = 0 ∧ State.reset.flashGet a 1 = [0xFF])

/-- The model's totality (no command ends in a fault or a refusal; an event that cannot happen changes nothing): every command answers a next state in every state, and leaves the commands that wait behind it as they are. -/
def Obligations.EveryCommandAnswers : Prop :=
  ∀ (i : Instr) (s : State), ∃ t, exec i s = .next t ∧ t.pending = s.pending

/-- The invariant of the addressed memories: every step, of a command or of an idle tick, keeps the canonical form of summit SRAM, firn memory, external memory, MRAM and flash. -/
def Obligations.MemoriesKept : Prop :=
  ∀ s t : State, s.mem.ok = true → step s = .next t → t.mem.ok = true
end

