-- ==== Sys2Proof/Laws/Store.lean ====
section
/-! SUPPORT. Laws of the sparse stores and of the byte memories: reading after a write, and the canonical form that every operation keeps. -/

namespace Sys2Proof.Machine

variable {α : Type}

@[simp] theorem Store.read_nil (d : α) (a : Nat) : Store.read d [] a = d := rfl

theorem Store.read_erase (d : α) (m : Store α) (a b : Nat) :
    Store.read d (Store.erase m a) b = if a = b then d else Store.read d m b := by
  induction m with
  | nil => simp [Store.erase]
  | cons e m ih =>
    obtain ⟨k, v⟩ := e
    by_cases h : k = a
    · subst h
      by_cases hb : k = b
      · subst hb; simpa [Store.erase] using ih
      · simpa [Store.erase, hb, Store.read] using ih
    · by_cases hb : k = b
      · subst hb; simp [Store.erase, h, Store.read, Ne.symm h]
      · simp [Store.erase, h, Store.read, hb, ih]

theorem Store.read_insert (d : α) (m : Store α) (a b : Nat) (x : α) :
    Store.read d (Store.insert m a x) b = if a = b then x else Store.read d m b := by
  induction m with
  | nil => simp [Store.insert, Store.read]
  | cons e m ih =>
    obtain ⟨k, v⟩ := e
    simp only [Store.insert]
    split
    · rename_i h; subst h; by_cases hb : k = b <;> simp [Store.read, hb]
    · rename_i h
      split
      · by_cases hb : a = b <;> simp [Store.read, hb]
      · by_cases hb : k = b
        · subst hb; simp [Store.read, Ne.symm h]
        · simp [Store.read, hb, ih]

/-- Reading after a write: the value at its key, the old value elsewhere. -/
theorem Store.read_write [DecidableEq α] (d : α) (m : Store α) (a b : Nat) (x : α) :
    Store.read d (Store.write d m a x) b = if a = b then x else Store.read d m b := by
  unfold Store.write
  split
  · rename_i h; subst h; exact Store.read_erase _ m a b
  · exact Store.read_insert d m a b x

@[simp] theorem Store.read_write_same [DecidableEq α] (d : α) (m : Store α) (a : Nat) (x : α) :
    Store.read d (Store.write d m a x) a = x := by simp [Store.read_write]

/-- A write leaves every other key, whichever default its reader names. -/
theorem Store.read_write_other [DecidableEq α] (d e : α) (m : Store α) {a b : Nat} (x : α) (h : a ≠ b) :
    Store.read e (Store.write d m a x) b = Store.read e m b := by
  unfold Store.write
  split
  · rw [Store.read_erase]; simp [h]
  · rw [Store.read_insert]; simp [h]

/-! ### The canonical form -/

theorem Store.risingFrom_le {lo lo' : Nat} {m : Store α} (h : Store.risingFrom lo m) (hl : lo' ≤ lo) : Store.risingFrom lo' m := by
  cases m with
  | nil => rfl
  | cons e m => simp [Store.risingFrom] at h ⊢; exact ⟨by omega, h.2⟩

theorem Store.rising_of_from {lo : Nat} {m : Store α} (h : Store.risingFrom lo m) : Store.rising m := by
  cases m with
  | nil => rfl
  | cons e m => simp [Store.risingFrom] at h; exact h.2

theorem Store.risingFrom_erase {lo : Nat} {m : Store α} (a : Nat) (h : Store.risingFrom lo m) :
    Store.risingFrom lo (Store.erase m a) := by
  induction m generalizing lo with
  | nil => rfl
  | cons e m ih =>
    obtain ⟨k, v⟩ := e
    simp [Store.risingFrom] at h
    simp only [Store.erase]
    split
    · exact Store.risingFrom_le (ih h.2) (by omega)
    · simp [Store.risingFrom, h.1, ih h.2]

theorem Store.risingFrom_insert {lo : Nat} {m : Store α} (a : Nat) (x : α) (h : Store.risingFrom lo m) (ha : lo < a) :
    Store.risingFrom lo (Store.insert m a x) := by
  induction m generalizing lo with
  | nil => simp [Store.insert, Store.risingFrom, ha]
  | cons e m ih =>
    obtain ⟨k, v⟩ := e
    simp [Store.risingFrom] at h
    simp only [Store.insert]
    split
    · rename_i hk; subst hk; simp [Store.risingFrom, h.2, ha]
    · split
      · simp [Store.risingFrom, ha, h.2, *]
      · simp [Store.risingFrom, h.1]; exact ih h.2 (by omega)

theorem Store.rising_erase {m : Store α} (a : Nat) (h : Store.rising m) : Store.rising (Store.erase m a) := by
  cases m with
  | nil => rfl
  | cons e m =>
    obtain ⟨k, v⟩ := e
    simp only [Store.rising] at h
    simp only [Store.erase]
    split
    · exact Store.rising_of_from (Store.risingFrom_erase a h)
    · exact Store.risingFrom_erase a h

theorem Store.rising_insert {m : Store α} (a : Nat) (x : α) (h : Store.rising m) : Store.rising (Store.insert m a x) := by
  cases m with
  | nil => rfl
  | cons e m =>
    obtain ⟨k, v⟩ := e
    simp only [Store.rising] at h
    simp only [Store.insert]
    split
    · rename_i hk; subst hk; exact h
    · split
      · simp [Store.rising, Store.risingFrom, h, *]
      · exact Store.risingFrom_insert a x h (by omega)

theorem Store.mem_erase {m : Store α} {a : Nat} {e : Nat × α} (h : e ∈ Store.erase m a) : e ∈ m := by
  induction m with
  | nil => simp [Store.erase] at h
  | cons y m ih =>
    obtain ⟨k, v⟩ := y
    simp only [Store.erase] at h
    split at h
    · exact List.mem_cons_of_mem _ (ih h)
    · rcases List.mem_cons.mp h with rfl | h
      · simp
      · exact List.mem_cons_of_mem _ (ih h)

theorem Store.mem_insert {m : Store α} {a : Nat} {x : α} {e : Nat × α} (h : e ∈ Store.insert m a x) : e = (a, x) ∨ e ∈ m := by
  induction m with
  | nil => simp [Store.insert] at h; exact .inl h
  | cons y m ih =>
    obtain ⟨k, v⟩ := y
    simp only [Store.insert] at h
    split at h
    · rcases List.mem_cons.mp h with rfl | h
      · exact .inl rfl
      · exact .inr (List.mem_cons_of_mem _ h)
    · split at h
      · rcases List.mem_cons.mp h with rfl | h
        · exact .inl rfl
        · exact .inr h
      · rcases List.mem_cons.mp h with rfl | h
        · exact .inr (by simp)
        · rcases ih h with h | h
          · exact .inl h
          · exact .inr (List.mem_cons_of_mem _ h)

/-- A write keeps the canonical form. -/
theorem Memory.write_wf {m : Memory} (a : Nat) (x : Byte) (h : m.wf) : (m.write a x).wf := by
  simp only [Memory.wf, Bool.and_eq_true, Store.noDefault, List.all_eq_true, decide_eq_true_eq] at h ⊢
  unfold Memory.write Store.write
  split
  · exact ⟨Store.rising_erase a h.1, fun e he => h.2 e (Store.mem_erase he)⟩
  · rename_i hx
    refine ⟨Store.rising_insert a x h.1, fun e he => ?_⟩
    rcases Store.mem_insert he with rfl | he
    · exact hx
    · exact h.2 e he

theorem Memory.writeN_wf {m : Memory} (a : Nat) (bs : List Byte) (h : m.wf) : (m.writeN a bs).wf := by
  induction bs generalizing m a with
  | nil => exact h
  | cons b bs ih => exact ih (a + 1) (Memory.write_wf a b h)

theorem Memory.writeLe_wf {m : Memory} (a n x : Nat) (h : m.wf) : (m.writeLe a n x).wf := Memory.writeN_wf a _ h

theorem Store.risingFrom_filter {lo : Nat} {m : Store α} (p : Nat × α → Bool) (h : Store.risingFrom lo m) :
    Store.risingFrom lo (m.filter p) := by
  induction m generalizing lo with
  | nil => rfl
  | cons e m ih =>
    simp [Store.risingFrom] at h
    rw [List.filter_cons]
    split
    · simp [Store.risingFrom, h.1, ih h.2]
    · exact Store.risingFrom_le (ih h.2) (by omega)

/-- Dropping entries keeps the canonical form. -/
theorem Memory.filter_wf {m : Memory} (p : Nat × Byte → Bool) (h : m.wf) : Memory.wf (m.filter p) := by
  simp only [Memory.wf, Bool.and_eq_true, Store.noDefault, List.all_eq_true, decide_eq_true_eq] at h ⊢
  refine ⟨?_, fun e he => h.2 e (List.mem_of_mem_filter he)⟩
  cases m with
  | nil => rfl
  | cons e m =>
    simp only [Store.rising] at h
    rw [List.filter_cons]
    split
    · exact Store.risingFrom_filter p h.1
    · exact Store.rising_of_from (Store.risingFrom_filter p h.1)

theorem Memory.clear_wf {m : Memory} (a n : Nat) (h : m.wf) : (m.clear a n).wf := Memory.filter_wf _ h

/-! ### Reading bytes -/

theorem Memory.read_write (m : Memory) (a b : Nat) (x : Byte) : (m.write a x).read b = if a = b then x else m.read b :=
  Store.read_write 0 m a b x

/-- A string written leaves every byte outside it. -/
theorem Memory.read_writeN_other (m : Memory) (a b : Nat) (bs : List Byte) (h : b < a ∨ a + bs.length ≤ b) :
    (m.writeN a bs).read b = m.read b := by
  induction bs generalizing m a with
  | nil => rfl
  | cons x bs ih =>
    simp only [List.length_cons] at h
    rw [Memory.writeN, ih _ _ (by omega), Memory.read_write, if_neg (by omega)]

/-- A string written reads back. -/
theorem Memory.readN_writeN (m : Memory) (a : Nat) (bs : List Byte) : (m.writeN a bs).readN a bs.length = bs := by
  induction bs generalizing m a with
  | nil => rfl
  | cons x bs ih =>
    simp only [List.length_cons, Memory.readN, Memory.writeN]
    rw [ih, Memory.read_writeN_other _ _ _ _ (by omega), Memory.read_write]
    simp

end Sys2Proof.Machine
end

