-- ==== Sys2Proof/Laws/Bytes.lean ====
section
/-! SUPPORT. Runs of bytes: parts of a run, runs of zeros, little-endian numbers and the width of a CRC-32C. -/

namespace Sys2Proof.Machine

theorem Memory.readN_add (m : Memory) (a k j : Nat) : m.readN a (k + j) = m.readN a k ++ m.readN (a + k) j := by
  induction k generalizing a with
  | zero => simp [Memory.readN]
  | succ k ih => rw [show k + 1 + j = (k + j) + 1 by omega, Memory.readN, Memory.readN, ih, show a + 1 + k = a + (k + 1) by omega]; rfl

@[simp] theorem Memory.readN_length (m : Memory) (a n : Nat) : (m.readN a n).length = n := by
  induction n generalizing a with
  | zero => rfl
  | succ n ih => simp [Memory.readN, ih]

/-- A part of a run of bytes is the run at its own address. -/
theorem Memory.readN_part (m : Memory) (a n k j : Nat) (h : k + j ≤ n) : ((m.readN a n).drop k).take j = m.readN (a + k) j := by
  obtain ⟨r, rfl⟩ := Nat.exists_eq_add_of_le h
  rw [Nat.add_assoc, Memory.readN_add, Memory.readN_add, List.drop_left' (by simp), List.take_left' (by simp)]

/-- A run of bytes that a write does not touch. -/
theorem Memory.readN_writeN_other (m : Memory) (a b n : Nat) (bs : List Byte) (h : a + n ≤ b ∨ b + bs.length ≤ a) :
    (m.writeN b bs).readN a n = m.readN a n := by
  induction n generalizing a with
  | zero => rfl
  | succ n ih => rw [Memory.readN, Memory.readN, ih (a + 1) (by omega), Memory.read_writeN_other _ _ _ _ (by omega)]

/-- What a write leaves listed: entries of before, or addresses of its bytes. -/
theorem Memory.mem_writeN {m : Memory} {a : Nat} {bs : List Byte} {e : Nat × Byte} (h : e ∈ m.writeN a bs) :
    e ∈ m ∨ (a ≤ e.1 ∧ e.1 < a + bs.length) := by
  induction bs generalizing m a with
  | nil => exact .inl h
  | cons b bs ih =>
    simp only [List.length_cons]
    rcases ih h with h | h
    · unfold Memory.write Store.write at h
      split at h
      · exact .inl (Store.mem_erase h)
      · rcases Store.mem_insert h with h | h
        · subst h; exact .inr ⟨Nat.le_refl a, by omega⟩
        · exact .inl h
    · exact .inr ⟨by omega, by omega⟩

/-- Bytes that all read 0. -/
theorem Memory.readN_zeros (m : Memory) (a n : Nat) (h : ∀ b, a ≤ b → b < a + n → m.read b = 0) : m.readN a n = zeros n := by
  induction n generalizing a with
  | zero => rfl
  | succ n ih =>
    rw [Memory.readN, h a (Nat.le_refl a) (by omega), ih (a + 1) (fun b h1 h2 => h b (by omega) (by omega))]; rfl

@[simp] theorem leBytes_length (n x : Nat) : (leBytes n x).length = n := by
  induction n generalizing x with
  | zero => rfl
  | succ n ih => simp [leBytes, ih]

/-- Little-endian bytes spell the number, cut to their width (R8). -/
theorem leNat_leBytes (n x : Nat) : leNat (leBytes n x) = x % 256 ^ n := by
  induction n generalizing x with
  | zero => simp [leBytes, leNat, Nat.mod_one]
  | succ n ih => rw [leBytes, leNat, ih, Nat.pow_succ', Nat.mod_mul]; simp

theorem crcByteR_lt {p c : Nat} (b : Byte) (hp : p < 2 ^ 32) (hc : c < 2 ^ 32) : crcByteR p c b < 2 ^ 32 := by
  have bit (c : Nat) (h : c < 2 ^ 32) : crcBitR p c < 2 ^ 32 := by
    unfold crcBitR; split
    · exact Nat.xor_lt_two_pow (by omega) hp
    · omega
  have h0 : c ^^^ b.toNat < 2 ^ 32 := Nat.xor_lt_two_pow hc (by omega)
  unfold crcByteR
  generalize c ^^^ b.toNat = d at h0
  induction List.range 8 generalizing d with
  | nil => exact h0
  | cons x l ih => exact ih _ (bit _ h0)

/-- A CRC-32C has 32 bits. -/
theorem crc32c_lt (bs : List Byte) : crc32c bs < 2 ^ 32 := by
  have h : ∀ (bs : List Byte) (c : Nat), c < 2 ^ 32 → bs.foldl (crcByte 0) c < 2 ^ 32 := by
    intro bs
    induction bs with
    | nil => exact fun _ h => h
    | cons b bs ih => exact fun c h => ih _ (crcByteR_lt b (by decide) h)
  exact Nat.xor_lt_two_pow (h bs _ (by decide)) (by decide)
end Sys2Proof.Machine
end

