-- ==== Sys2Proof/Laws/State.lean ====
section
/-! SUPPORT. What the shared operations leave: one lemma for each field of the state that an operation does not touch. -/

namespace Sys2Proof.Machine

variable (s : State)

theorem State.setB_eq (F : Field) (b : Bool) (i : Nat) : s.setB F b i = s.setF F (b2n b) i := rfl
theorem State.addF_eq (F : Field) (n i : Nat) : s.addF F n i = s.setF F (s.fld F i + n) i := rfl
theorem State.incF_eq (F : Field) (i : Nat) : s.incF F i = s.setF F (s.fld F i + 1) i := rfl

@[simp] theorem State.setF_pending (F : Field) (v i : Nat) : (s.setF F v i).pending = s.pending := rfl
@[simp] theorem State.setF_tick (F : Field) (v i : Nat) : (s.setF F v i).tick = s.tick := rfl
@[simp] theorem State.setF_timers (F : Field) (v i : Nat) : (s.setF F v i).timers = s.timers := rfl
@[simp] theorem State.setF_tb (F : Field) (v i : Nat) : (s.setF F v i).tb = s.tb := rfl
@[simp] theorem State.setF_pw (F : Field) (v i : Nat) : (s.setF F v i).pw = s.pw := rfl
@[simp] theorem State.setF_jtag (F : Field) (v i : Nat) : (s.setF F v i).jtag = s.jtag := rfl
@[simp] theorem State.setF_xing (F : Field) (v i : Nat) : (s.setF F v i).xing = s.xing := rfl
@[simp] theorem State.setF_hq (F : Field) (v i : Nat) : (s.setF F v i).hq = s.hq := rfl
@[simp] theorem State.setF_acq (F : Field) (v i : Nat) : (s.setF F v i).acq = s.acq := rfl
@[simp] theorem State.setF_rx (F : Field) (v i : Nat) : (s.setF F v i).rx = s.rx := rfl
@[simp] theorem State.setF_ph (F : Field) (v i : Nat) : (s.setF F v i).ph = s.ph := rfl
@[simp] theorem State.setF_red (F : Field) (v i : Nat) : (s.setF F v i).red = s.red := rfl
@[simp] theorem State.setF_slm (F : Field) (v i : Nat) : (s.setF F v i).slm = s.slm := rfl
@[simp] theorem State.setF_dts (F : Field) (v i : Nat) : (s.setF F v i).dts = s.dts := rfl
@[simp] theorem State.setF_sad (F : Field) (v i : Nat) : (s.setF F v i).sad = s.sad := rfl
@[simp] theorem State.setF_src (F : Field) (v i : Nat) : (s.setF F v i).src = s.src := rfl
@[simp] theorem State.setF_tiu (F : Field) (v i : Nat) : (s.setF F v i).tiu = s.tiu := rfl
@[simp] theorem State.setF_pat (F : Field) (v i : Nat) : (s.setF F v i).pat = s.pat := rfl
@[simp] theorem State.setF_chk (F : Field) (v i : Nat) : (s.setF F v i).chk = s.chk := rfl
@[simp] theorem State.setF_pnl (F : Field) (v i : Nat) : (s.setF F v i).pnl = s.pnl := rfl
@[simp] theorem State.setF_cal (F : Field) (v i : Nat) : (s.setF F v i).cal = s.cal := rfl
@[simp] theorem State.setF_grm (F : Field) (v i : Nat) : (s.setF F v i).grm = s.grm := rfl
@[simp] theorem State.setF_rdg (F : Field) (v i : Nat) : (s.setF F v i).rdg = s.rdg := rfl
@[simp] theorem State.setF_mc (F : Field) (v i : Nat) : (s.setF F v i).mc = s.mc := rfl
@[simp] theorem State.setF_crn (F : Field) (v i : Nat) : (s.setF F v i).crn = s.crn := rfl
@[simp] theorem State.setF_vb (F : Field) (v i : Nat) : (s.setF F v i).vb = s.vb := rfl
@[simp] theorem State.setF_sum (F : Field) (v i : Nat) : (s.setF F v i).sum = s.sum := rfl
@[simp] theorem State.setF_log (F : Field) (v i : Nat) : (s.setF F v i).log = s.log := rfl
@[simp] theorem State.setF_pulses (F : Field) (v i : Nat) : (s.setF F v i).pulses = s.pulses := rfl
@[simp] theorem State.setF_evtPrev (F : Field) (v i : Nat) : (s.setF F v i).evtPrev = s.evtPrev := rfl
@[simp] theorem State.setF_pins (F : Field) (v i : Nat) : (s.setF F v i).pins = s.pins := rfl
@[simp] theorem State.setF_mem (F : Field) (v i : Nat) : (s.setF F v i).mem = s.mem := rfl
@[simp] theorem State.setF_hostOut (F : Field) (v i : Nat) : (s.setF F v i).hostOut = s.hostOut := rfl
@[simp] theorem State.setF_hostHeld (F : Field) (v i : Nat) : (s.setF F v i).hostHeld = s.hostHeld := rfl
@[simp] theorem State.setF_irqOut (F : Field) (v i : Nat) : (s.setF F v i).irqOut = s.irqOut := rfl
@[simp] theorem State.setF_readOut (F : Field) (v i : Nat) : (s.setF F v i).readOut = s.readOut := rfl
@[simp] theorem State.setF_free (F : Field) (v i : Nat) : (s.setF F v i).free = s.free := rfl

@[simp] theorem State.set64_pending (lo hi : Field) (v i : Nat) : (s.set64 lo hi v i).pending = s.pending := by simp [State.set64]
@[simp] theorem State.set64_tick (lo hi : Field) (v i : Nat) : (s.set64 lo hi v i).tick = s.tick := by simp [State.set64]
@[simp] theorem State.set64_timers (lo hi : Field) (v i : Nat) : (s.set64 lo hi v i).timers = s.timers := by simp [State.set64]
@[simp] theorem State.set64_tb (lo hi : Field) (v i : Nat) : (s.set64 lo hi v i).tb = s.tb := by simp [State.set64]
@[simp] theorem State.set64_pw (lo hi : Field) (v i : Nat) : (s.set64 lo hi v i).pw = s.pw := by simp [State.set64]
@[simp] theorem State.set64_jtag (lo hi : Field) (v i : Nat) : (s.set64 lo hi v i).jtag = s.jtag := by simp [State.set64]
@[simp] theorem State.set64_xing (lo hi : Field) (v i : Nat) : (s.set64 lo hi v i).xing = s.xing := by simp [State.set64]
@[simp] theorem State.set64_hq (lo hi : Field) (v i : Nat) : (s.set64 lo hi v i).hq = s.hq := by simp [State.set64]
@[simp] theorem State.set64_acq (lo hi : Field) (v i : Nat) : (s.set64 lo hi v i).acq = s.acq := by simp [State.set64]
@[simp] theorem State.set64_rx (lo hi : Field) (v i : Nat) : (s.set64 lo hi v i).rx = s.rx := by simp [State.set64]
@[simp] theorem State.set64_ph (lo hi : Field) (v i : Nat) : (s.set64 lo hi v i).ph = s.ph := by simp [State.set64]
@[simp] theorem State.set64_red (lo hi : Field) (v i : Nat) : (s.set64 lo hi v i).red = s.red := by simp [State.set64]
@[simp] theorem State.set64_slm (lo hi : Field) (v i : Nat) : (s.set64 lo hi v i).slm = s.slm := by simp [State.set64]
@[simp] theorem State.set64_dts (lo hi : Field) (v i : Nat) : (s.set64 lo hi v i).dts = s.dts := by simp [State.set64]
@[simp] theorem State.set64_sad (lo hi : Field) (v i : Nat) : (s.set64 lo hi v i).sad = s.sad := by simp [State.set64]
@[simp] theorem State.set64_src (lo hi : Field) (v i : Nat) : (s.set64 lo hi v i).src = s.src := by simp [State.set64]
@[simp] theorem State.set64_tiu (lo hi : Field) (v i : Nat) : (s.set64 lo hi v i).tiu = s.tiu := by simp [State.set64]
@[simp] theorem State.set64_pat (lo hi : Field) (v i : Nat) : (s.set64 lo hi v i).pat = s.pat := by simp [State.set64]
@[simp] theorem State.set64_chk (lo hi : Field) (v i : Nat) : (s.set64 lo hi v i).chk = s.chk := by simp [State.set64]
@[simp] theorem State.set64_pnl (lo hi : Field) (v i : Nat) : (s.set64 lo hi v i).pnl = s.pnl := by simp [State.set64]
@[simp] theorem State.set64_cal (lo hi : Field) (v i : Nat) : (s.set64 lo hi v i).cal = s.cal := by simp [State.set64]
@[simp] theorem State.set64_grm (lo hi : Field) (v i : Nat) : (s.set64 lo hi v i).grm = s.grm := by simp [State.set64]
@[simp] theorem State.set64_rdg (lo hi : Field) (v i : Nat) : (s.set64 lo hi v i).rdg = s.rdg := by simp [State.set64]
@[simp] theorem State.set64_mc (lo hi : Field) (v i : Nat) : (s.set64 lo hi v i).mc = s.mc := by simp [State.set64]
@[simp] theorem State.set64_crn (lo hi : Field) (v i : Nat) : (s.set64 lo hi v i).crn = s.crn := by simp [State.set64]
@[simp] theorem State.set64_vb (lo hi : Field) (v i : Nat) : (s.set64 lo hi v i).vb = s.vb := by simp [State.set64]
@[simp] theorem State.set64_sum (lo hi : Field) (v i : Nat) : (s.set64 lo hi v i).sum = s.sum := by simp [State.set64]
@[simp] theorem State.set64_log (lo hi : Field) (v i : Nat) : (s.set64 lo hi v i).log = s.log := by simp [State.set64]
@[simp] theorem State.set64_pulses (lo hi : Field) (v i : Nat) : (s.set64 lo hi v i).pulses = s.pulses := by simp [State.set64]
@[simp] theorem State.set64_evtPrev (lo hi : Field) (v i : Nat) : (s.set64 lo hi v i).evtPrev = s.evtPrev := by simp [State.set64]
@[simp] theorem State.set64_pins (lo hi : Field) (v i : Nat) : (s.set64 lo hi v i).pins = s.pins := by simp [State.set64]
@[simp] theorem State.set64_mem (lo hi : Field) (v i : Nat) : (s.set64 lo hi v i).mem = s.mem := by simp [State.set64]
@[simp] theorem State.set64_hostOut (lo hi : Field) (v i : Nat) : (s.set64 lo hi v i).hostOut = s.hostOut := by simp [State.set64]
@[simp] theorem State.set64_hostHeld (lo hi : Field) (v i : Nat) : (s.set64 lo hi v i).hostHeld = s.hostHeld := by simp [State.set64]
@[simp] theorem State.set64_irqOut (lo hi : Field) (v i : Nat) : (s.set64 lo hi v i).irqOut = s.irqOut := by simp [State.set64]
@[simp] theorem State.set64_readOut (lo hi : Field) (v i : Nat) : (s.set64 lo hi v i).readOut = s.readOut := by simp [State.set64]
@[simp] theorem State.set64_free (lo hi : Field) (v i : Nat) : (s.set64 lo hi v i).free = s.free := by simp [State.set64]

@[simp] theorem State.resetFields_pending (fs : List Field) : (s.resetFields fs).pending = s.pending := rfl
@[simp] theorem State.resetFields_tick (fs : List Field) : (s.resetFields fs).tick = s.tick := rfl
@[simp] theorem State.resetFields_timers (fs : List Field) : (s.resetFields fs).timers = s.timers := rfl
@[simp] theorem State.resetFields_tb (fs : List Field) : (s.resetFields fs).tb = s.tb := rfl
@[simp] theorem State.resetFields_pw (fs : List Field) : (s.resetFields fs).pw = s.pw := rfl
@[simp] theorem State.resetFields_jtag (fs : List Field) : (s.resetFields fs).jtag = s.jtag := rfl
@[simp] theorem State.resetFields_xing (fs : List Field) : (s.resetFields fs).xing = s.xing := rfl
@[simp] theorem State.resetFields_hq (fs : List Field) : (s.resetFields fs).hq = s.hq := rfl
@[simp] theorem State.resetFields_acq (fs : List Field) : (s.resetFields fs).acq = s.acq := rfl
@[simp] theorem State.resetFields_rx (fs : List Field) : (s.resetFields fs).rx = s.rx := rfl
@[simp] theorem State.resetFields_ph (fs : List Field) : (s.resetFields fs).ph = s.ph := rfl
@[simp] theorem State.resetFields_red (fs : List Field) : (s.resetFields fs).red = s.red := rfl
@[simp] theorem State.resetFields_slm (fs : List Field) : (s.resetFields fs).slm = s.slm := rfl
@[simp] theorem State.resetFields_dts (fs : List Field) : (s.resetFields fs).dts = s.dts := rfl
@[simp] theorem State.resetFields_sad (fs : List Field) : (s.resetFields fs).sad = s.sad := rfl
@[simp] theorem State.resetFields_src (fs : List Field) : (s.resetFields fs).src = s.src := rfl
@[simp] theorem State.resetFields_tiu (fs : List Field) : (s.resetFields fs).tiu = s.tiu := rfl
@[simp] theorem State.resetFields_pat (fs : List Field) : (s.resetFields fs).pat = s.pat := rfl
@[simp] theorem State.resetFields_chk (fs : List Field) : (s.resetFields fs).chk = s.chk := rfl
@[simp] theorem State.resetFields_pnl (fs : List Field) : (s.resetFields fs).pnl = s.pnl := rfl
@[simp] theorem State.resetFields_cal (fs : List Field) : (s.resetFields fs).cal = s.cal := rfl
@[simp] theorem State.resetFields_grm (fs : List Field) : (s.resetFields fs).grm = s.grm := rfl
@[simp] theorem State.resetFields_rdg (fs : List Field) : (s.resetFields fs).rdg = s.rdg := rfl
@[simp] theorem State.resetFields_mc (fs : List Field) : (s.resetFields fs).mc = s.mc := rfl
@[simp] theorem State.resetFields_crn (fs : List Field) : (s.resetFields fs).crn = s.crn := rfl
@[simp] theorem State.resetFields_vb (fs : List Field) : (s.resetFields fs).vb = s.vb := rfl
@[simp] theorem State.resetFields_sum (fs : List Field) : (s.resetFields fs).sum = s.sum := rfl
@[simp] theorem State.resetFields_log (fs : List Field) : (s.resetFields fs).log = s.log := rfl
@[simp] theorem State.resetFields_pulses (fs : List Field) : (s.resetFields fs).pulses = s.pulses := rfl
@[simp] theorem State.resetFields_evtPrev (fs : List Field) : (s.resetFields fs).evtPrev = s.evtPrev := rfl
@[simp] theorem State.resetFields_pins (fs : List Field) : (s.resetFields fs).pins = s.pins := rfl
@[simp] theorem State.resetFields_mem (fs : List Field) : (s.resetFields fs).mem = s.mem := rfl
@[simp] theorem State.resetFields_hostOut (fs : List Field) : (s.resetFields fs).hostOut = s.hostOut := rfl
@[simp] theorem State.resetFields_hostHeld (fs : List Field) : (s.resetFields fs).hostHeld = s.hostHeld := rfl
@[simp] theorem State.resetFields_irqOut (fs : List Field) : (s.resetFields fs).irqOut = s.irqOut := rfl
@[simp] theorem State.resetFields_readOut (fs : List Field) : (s.resetFields fs).readOut = s.readOut := rfl
@[simp] theorem State.resetFields_free (fs : List Field) : (s.resetFields fs).free = s.free := rfl

@[simp] theorem State.resetFieldsOf_pending (fs : List Field) (i : Nat) : (s.resetFieldsOf fs i).pending = s.pending := rfl
@[simp] theorem State.resetFieldsOf_tick (fs : List Field) (i : Nat) : (s.resetFieldsOf fs i).tick = s.tick := rfl
@[simp] theorem State.resetFieldsOf_timers (fs : List Field) (i : Nat) : (s.resetFieldsOf fs i).timers = s.timers := rfl
@[simp] theorem State.resetFieldsOf_tb (fs : List Field) (i : Nat) : (s.resetFieldsOf fs i).tb = s.tb := rfl
@[simp] theorem State.resetFieldsOf_pw (fs : List Field) (i : Nat) : (s.resetFieldsOf fs i).pw = s.pw := rfl
@[simp] theorem State.resetFieldsOf_jtag (fs : List Field) (i : Nat) : (s.resetFieldsOf fs i).jtag = s.jtag := rfl
@[simp] theorem State.resetFieldsOf_xing (fs : List Field) (i : Nat) : (s.resetFieldsOf fs i).xing = s.xing := rfl
@[simp] theorem State.resetFieldsOf_hq (fs : List Field) (i : Nat) : (s.resetFieldsOf fs i).hq = s.hq := rfl
@[simp] theorem State.resetFieldsOf_acq (fs : List Field) (i : Nat) : (s.resetFieldsOf fs i).acq = s.acq := rfl
@[simp] theorem State.resetFieldsOf_rx (fs : List Field) (i : Nat) : (s.resetFieldsOf fs i).rx = s.rx := rfl
@[simp] theorem State.resetFieldsOf_ph (fs : List Field) (i : Nat) : (s.resetFieldsOf fs i).ph = s.ph := rfl
@[simp] theorem State.resetFieldsOf_red (fs : List Field) (i : Nat) : (s.resetFieldsOf fs i).red = s.red := rfl
@[simp] theorem State.resetFieldsOf_slm (fs : List Field) (i : Nat) : (s.resetFieldsOf fs i).slm = s.slm := rfl
@[simp] theorem State.resetFieldsOf_dts (fs : List Field) (i : Nat) : (s.resetFieldsOf fs i).dts = s.dts := rfl
@[simp] theorem State.resetFieldsOf_sad (fs : List Field) (i : Nat) : (s.resetFieldsOf fs i).sad = s.sad := rfl
@[simp] theorem State.resetFieldsOf_src (fs : List Field) (i : Nat) : (s.resetFieldsOf fs i).src = s.src := rfl
@[simp] theorem State.resetFieldsOf_tiu (fs : List Field) (i : Nat) : (s.resetFieldsOf fs i).tiu = s.tiu := rfl
@[simp] theorem State.resetFieldsOf_pat (fs : List Field) (i : Nat) : (s.resetFieldsOf fs i).pat = s.pat := rfl
@[simp] theorem State.resetFieldsOf_chk (fs : List Field) (i : Nat) : (s.resetFieldsOf fs i).chk = s.chk := rfl
@[simp] theorem State.resetFieldsOf_pnl (fs : List Field) (i : Nat) : (s.resetFieldsOf fs i).pnl = s.pnl := rfl
@[simp] theorem State.resetFieldsOf_cal (fs : List Field) (i : Nat) : (s.resetFieldsOf fs i).cal = s.cal := rfl
@[simp] theorem State.resetFieldsOf_grm (fs : List Field) (i : Nat) : (s.resetFieldsOf fs i).grm = s.grm := rfl
@[simp] theorem State.resetFieldsOf_rdg (fs : List Field) (i : Nat) : (s.resetFieldsOf fs i).rdg = s.rdg := rfl
@[simp] theorem State.resetFieldsOf_mc (fs : List Field) (i : Nat) : (s.resetFieldsOf fs i).mc = s.mc := rfl
@[simp] theorem State.resetFieldsOf_crn (fs : List Field) (i : Nat) : (s.resetFieldsOf fs i).crn = s.crn := rfl
@[simp] theorem State.resetFieldsOf_vb (fs : List Field) (i : Nat) : (s.resetFieldsOf fs i).vb = s.vb := rfl
@[simp] theorem State.resetFieldsOf_sum (fs : List Field) (i : Nat) : (s.resetFieldsOf fs i).sum = s.sum := rfl
@[simp] theorem State.resetFieldsOf_log (fs : List Field) (i : Nat) : (s.resetFieldsOf fs i).log = s.log := rfl
@[simp] theorem State.resetFieldsOf_pulses (fs : List Field) (i : Nat) : (s.resetFieldsOf fs i).pulses = s.pulses := rfl
@[simp] theorem State.resetFieldsOf_evtPrev (fs : List Field) (i : Nat) : (s.resetFieldsOf fs i).evtPrev = s.evtPrev := rfl
@[simp] theorem State.resetFieldsOf_pins (fs : List Field) (i : Nat) : (s.resetFieldsOf fs i).pins = s.pins := rfl
@[simp] theorem State.resetFieldsOf_mem (fs : List Field) (i : Nat) : (s.resetFieldsOf fs i).mem = s.mem := rfl
@[simp] theorem State.resetFieldsOf_hostOut (fs : List Field) (i : Nat) : (s.resetFieldsOf fs i).hostOut = s.hostOut := rfl
@[simp] theorem State.resetFieldsOf_hostHeld (fs : List Field) (i : Nat) : (s.resetFieldsOf fs i).hostHeld = s.hostHeld := rfl
@[simp] theorem State.resetFieldsOf_irqOut (fs : List Field) (i : Nat) : (s.resetFieldsOf fs i).irqOut = s.irqOut := rfl
@[simp] theorem State.resetFieldsOf_readOut (fs : List Field) (i : Nat) : (s.resetFieldsOf fs i).readOut = s.readOut := rfl
@[simp] theorem State.resetFieldsOf_free (fs : List Field) (i : Nat) : (s.resetFieldsOf fs i).free = s.free := rfl

@[simp] theorem State.timerStart_pending (t : Timer) : (s.timerStart t).pending = s.pending := rfl
@[simp] theorem State.timerStart_regs (t : Timer) : (s.timerStart t).regs = s.regs := rfl
@[simp] theorem State.timerStart_tick (t : Timer) : (s.timerStart t).tick = s.tick := rfl
@[simp] theorem State.timerStart_tb (t : Timer) : (s.timerStart t).tb = s.tb := rfl
@[simp] theorem State.timerStart_pw (t : Timer) : (s.timerStart t).pw = s.pw := rfl
@[simp] theorem State.timerStart_jtag (t : Timer) : (s.timerStart t).jtag = s.jtag := rfl
@[simp] theorem State.timerStart_xing (t : Timer) : (s.timerStart t).xing = s.xing := rfl
@[simp] theorem State.timerStart_hq (t : Timer) : (s.timerStart t).hq = s.hq := rfl
@[simp] theorem State.timerStart_acq (t : Timer) : (s.timerStart t).acq = s.acq := rfl
@[simp] theorem State.timerStart_rx (t : Timer) : (s.timerStart t).rx = s.rx := rfl
@[simp] theorem State.timerStart_ph (t : Timer) : (s.timerStart t).ph = s.ph := rfl
@[simp] theorem State.timerStart_red (t : Timer) : (s.timerStart t).red = s.red := rfl
@[simp] theorem State.timerStart_slm (t : Timer) : (s.timerStart t).slm = s.slm := rfl
@[simp] theorem State.timerStart_dts (t : Timer) : (s.timerStart t).dts = s.dts := rfl
@[simp] theorem State.timerStart_sad (t : Timer) : (s.timerStart t).sad = s.sad := rfl
@[simp] theorem State.timerStart_src (t : Timer) : (s.timerStart t).src = s.src := rfl
@[simp] theorem State.timerStart_tiu (t : Timer) : (s.timerStart t).tiu = s.tiu := rfl
@[simp] theorem State.timerStart_pat (t : Timer) : (s.timerStart t).pat = s.pat := rfl
@[simp] theorem State.timerStart_chk (t : Timer) : (s.timerStart t).chk = s.chk := rfl
@[simp] theorem State.timerStart_pnl (t : Timer) : (s.timerStart t).pnl = s.pnl := rfl
@[simp] theorem State.timerStart_cal (t : Timer) : (s.timerStart t).cal = s.cal := rfl
@[simp] theorem State.timerStart_grm (t : Timer) : (s.timerStart t).grm = s.grm := rfl
@[simp] theorem State.timerStart_rdg (t : Timer) : (s.timerStart t).rdg = s.rdg := rfl
@[simp] theorem State.timerStart_mc (t : Timer) : (s.timerStart t).mc = s.mc := rfl
@[simp] theorem State.timerStart_crn (t : Timer) : (s.timerStart t).crn = s.crn := rfl
@[simp] theorem State.timerStart_vb (t : Timer) : (s.timerStart t).vb = s.vb := rfl
@[simp] theorem State.timerStart_sum (t : Timer) : (s.timerStart t).sum = s.sum := rfl
@[simp] theorem State.timerStart_log (t : Timer) : (s.timerStart t).log = s.log := rfl
@[simp] theorem State.timerStart_pulses (t : Timer) : (s.timerStart t).pulses = s.pulses := rfl
@[simp] theorem State.timerStart_evtPrev (t : Timer) : (s.timerStart t).evtPrev = s.evtPrev := rfl
@[simp] theorem State.timerStart_pins (t : Timer) : (s.timerStart t).pins = s.pins := rfl
@[simp] theorem State.timerStart_mem (t : Timer) : (s.timerStart t).mem = s.mem := rfl
@[simp] theorem State.timerStart_hostOut (t : Timer) : (s.timerStart t).hostOut = s.hostOut := rfl
@[simp] theorem State.timerStart_hostHeld (t : Timer) : (s.timerStart t).hostHeld = s.hostHeld := rfl
@[simp] theorem State.timerStart_irqOut (t : Timer) : (s.timerStart t).irqOut = s.irqOut := rfl
@[simp] theorem State.timerStart_readOut (t : Timer) : (s.timerStart t).readOut = s.readOut := rfl
@[simp] theorem State.timerStart_free (t : Timer) : (s.timerStart t).free = s.free := rfl

@[simp] theorem State.timersStart_pending (ts : List Timer) : (s.timersStart ts).pending = s.pending := by unfold State.timersStart; induction ts generalizing s with | nil => rfl | cons t ts ih => simp [List.foldl_cons, ih]
@[simp] theorem State.timersStart_regs (ts : List Timer) : (s.timersStart ts).regs = s.regs := by unfold State.timersStart; induction ts generalizing s with | nil => rfl | cons t ts ih => simp [List.foldl_cons, ih]
@[simp] theorem State.timersStart_tick (ts : List Timer) : (s.timersStart ts).tick = s.tick := by unfold State.timersStart; induction ts generalizing s with | nil => rfl | cons t ts ih => simp [List.foldl_cons, ih]
@[simp] theorem State.timersStart_tb (ts : List Timer) : (s.timersStart ts).tb = s.tb := by unfold State.timersStart; induction ts generalizing s with | nil => rfl | cons t ts ih => simp [List.foldl_cons, ih]
@[simp] theorem State.timersStart_pw (ts : List Timer) : (s.timersStart ts).pw = s.pw := by unfold State.timersStart; induction ts generalizing s with | nil => rfl | cons t ts ih => simp [List.foldl_cons, ih]
@[simp] theorem State.timersStart_jtag (ts : List Timer) : (s.timersStart ts).jtag = s.jtag := by unfold State.timersStart; induction ts generalizing s with | nil => rfl | cons t ts ih => simp [List.foldl_cons, ih]
@[simp] theorem State.timersStart_xing (ts : List Timer) : (s.timersStart ts).xing = s.xing := by unfold State.timersStart; induction ts generalizing s with | nil => rfl | cons t ts ih => simp [List.foldl_cons, ih]
@[simp] theorem State.timersStart_hq (ts : List Timer) : (s.timersStart ts).hq = s.hq := by unfold State.timersStart; induction ts generalizing s with | nil => rfl | cons t ts ih => simp [List.foldl_cons, ih]
@[simp] theorem State.timersStart_acq (ts : List Timer) : (s.timersStart ts).acq = s.acq := by unfold State.timersStart; induction ts generalizing s with | nil => rfl | cons t ts ih => simp [List.foldl_cons, ih]
@[simp] theorem State.timersStart_rx (ts : List Timer) : (s.timersStart ts).rx = s.rx := by unfold State.timersStart; induction ts generalizing s with | nil => rfl | cons t ts ih => simp [List.foldl_cons, ih]
@[simp] theorem State.timersStart_ph (ts : List Timer) : (s.timersStart ts).ph = s.ph := by unfold State.timersStart; induction ts generalizing s with | nil => rfl | cons t ts ih => simp [List.foldl_cons, ih]
@[simp] theorem State.timersStart_red (ts : List Timer) : (s.timersStart ts).red = s.red := by unfold State.timersStart; induction ts generalizing s with | nil => rfl | cons t ts ih => simp [List.foldl_cons, ih]
@[simp] theorem State.timersStart_slm (ts : List Timer) : (s.timersStart ts).slm = s.slm := by unfold State.timersStart; induction ts generalizing s with | nil => rfl | cons t ts ih => simp [List.foldl_cons, ih]
@[simp] theorem State.timersStart_dts (ts : List Timer) : (s.timersStart ts).dts = s.dts := by unfold State.timersStart; induction ts generalizing s with | nil => rfl | cons t ts ih => simp [List.foldl_cons, ih]
@[simp] theorem State.timersStart_sad (ts : List Timer) : (s.timersStart ts).sad = s.sad := by unfold State.timersStart; induction ts generalizing s with | nil => rfl | cons t ts ih => simp [List.foldl_cons, ih]
@[simp] theorem State.timersStart_src (ts : List Timer) : (s.timersStart ts).src = s.src := by unfold State.timersStart; induction ts generalizing s with | nil => rfl | cons t ts ih => simp [List.foldl_cons, ih]
@[simp] theorem State.timersStart_tiu (ts : List Timer) : (s.timersStart ts).tiu = s.tiu := by unfold State.timersStart; induction ts generalizing s with | nil => rfl | cons t ts ih => simp [List.foldl_cons, ih]
@[simp] theorem State.timersStart_pat (ts : List Timer) : (s.timersStart ts).pat = s.pat := by unfold State.timersStart; induction ts generalizing s with | nil => rfl | cons t ts ih => simp [List.foldl_cons, ih]
@[simp] theorem State.timersStart_chk (ts : List Timer) : (s.timersStart ts).chk = s.chk := by unfold State.timersStart; induction ts generalizing s with | nil => rfl | cons t ts ih => simp [List.foldl_cons, ih]
@[simp] theorem State.timersStart_pnl (ts : List Timer) : (s.timersStart ts).pnl = s.pnl := by unfold State.timersStart; induction ts generalizing s with | nil => rfl | cons t ts ih => simp [List.foldl_cons, ih]
@[simp] theorem State.timersStart_cal (ts : List Timer) : (s.timersStart ts).cal = s.cal := by unfold State.timersStart; induction ts generalizing s with | nil => rfl | cons t ts ih => simp [List.foldl_cons, ih]
@[simp] theorem State.timersStart_grm (ts : List Timer) : (s.timersStart ts).grm = s.grm := by unfold State.timersStart; induction ts generalizing s with | nil => rfl | cons t ts ih => simp [List.foldl_cons, ih]
@[simp] theorem State.timersStart_rdg (ts : List Timer) : (s.timersStart ts).rdg = s.rdg := by unfold State.timersStart; induction ts generalizing s with | nil => rfl | cons t ts ih => simp [List.foldl_cons, ih]
@[simp] theorem State.timersStart_mc (ts : List Timer) : (s.timersStart ts).mc = s.mc := by unfold State.timersStart; induction ts generalizing s with | nil => rfl | cons t ts ih => simp [List.foldl_cons, ih]
@[simp] theorem State.timersStart_crn (ts : List Timer) : (s.timersStart ts).crn = s.crn := by unfold State.timersStart; induction ts generalizing s with | nil => rfl | cons t ts ih => simp [List.foldl_cons, ih]
@[simp] theorem State.timersStart_vb (ts : List Timer) : (s.timersStart ts).vb = s.vb := by unfold State.timersStart; induction ts generalizing s with | nil => rfl | cons t ts ih => simp [List.foldl_cons, ih]
@[simp] theorem State.timersStart_sum (ts : List Timer) : (s.timersStart ts).sum = s.sum := by unfold State.timersStart; induction ts generalizing s with | nil => rfl | cons t ts ih => simp [List.foldl_cons, ih]
@[simp] theorem State.timersStart_log (ts : List Timer) : (s.timersStart ts).log = s.log := by unfold State.timersStart; induction ts generalizing s with | nil => rfl | cons t ts ih => simp [List.foldl_cons, ih]
@[simp] theorem State.timersStart_pulses (ts : List Timer) : (s.timersStart ts).pulses = s.pulses := by unfold State.timersStart; induction ts generalizing s with | nil => rfl | cons t ts ih => simp [List.foldl_cons, ih]
@[simp] theorem State.timersStart_evtPrev (ts : List Timer) : (s.timersStart ts).evtPrev = s.evtPrev := by unfold State.timersStart; induction ts generalizing s with | nil => rfl | cons t ts ih => simp [List.foldl_cons, ih]
@[simp] theorem State.timersStart_pins (ts : List Timer) : (s.timersStart ts).pins = s.pins := by unfold State.timersStart; induction ts generalizing s with | nil => rfl | cons t ts ih => simp [List.foldl_cons, ih]
@[simp] theorem State.timersStart_mem (ts : List Timer) : (s.timersStart ts).mem = s.mem := by unfold State.timersStart; induction ts generalizing s with | nil => rfl | cons t ts ih => simp [List.foldl_cons, ih]
@[simp] theorem State.timersStart_hostOut (ts : List Timer) : (s.timersStart ts).hostOut = s.hostOut := by unfold State.timersStart; induction ts generalizing s with | nil => rfl | cons t ts ih => simp [List.foldl_cons, ih]
@[simp] theorem State.timersStart_hostHeld (ts : List Timer) : (s.timersStart ts).hostHeld = s.hostHeld := by unfold State.timersStart; induction ts generalizing s with | nil => rfl | cons t ts ih => simp [List.foldl_cons, ih]
@[simp] theorem State.timersStart_irqOut (ts : List Timer) : (s.timersStart ts).irqOut = s.irqOut := by unfold State.timersStart; induction ts generalizing s with | nil => rfl | cons t ts ih => simp [List.foldl_cons, ih]
@[simp] theorem State.timersStart_readOut (ts : List Timer) : (s.timersStart ts).readOut = s.readOut := by unfold State.timersStart; induction ts generalizing s with | nil => rfl | cons t ts ih => simp [List.foldl_cons, ih]
@[simp] theorem State.timersStart_free (ts : List Timer) : (s.timersStart ts).free = s.free := by unfold State.timersStart; induction ts generalizing s with | nil => rfl | cons t ts ih => simp [List.foldl_cons, ih]

@[simp] theorem State.pulse_pending (e : Nat) : (s.pulse e).pending = s.pending := rfl
@[simp] theorem State.pulse_regs (e : Nat) : (s.pulse e).regs = s.regs := rfl
@[simp] theorem State.pulse_tick (e : Nat) : (s.pulse e).tick = s.tick := rfl
@[simp] theorem State.pulse_timers (e : Nat) : (s.pulse e).timers = s.timers := rfl
@[simp] theorem State.pulse_tb (e : Nat) : (s.pulse e).tb = s.tb := rfl
@[simp] theorem State.pulse_pw (e : Nat) : (s.pulse e).pw = s.pw := rfl
@[simp] theorem State.pulse_jtag (e : Nat) : (s.pulse e).jtag = s.jtag := rfl
@[simp] theorem State.pulse_xing (e : Nat) : (s.pulse e).xing = s.xing := rfl
@[simp] theorem State.pulse_hq (e : Nat) : (s.pulse e).hq = s.hq := rfl
@[simp] theorem State.pulse_acq (e : Nat) : (s.pulse e).acq = s.acq := rfl
@[simp] theorem State.pulse_rx (e : Nat) : (s.pulse e).rx = s.rx := rfl
@[simp] theorem State.pulse_ph (e : Nat) : (s.pulse e).ph = s.ph := rfl
@[simp] theorem State.pulse_red (e : Nat) : (s.pulse e).red = s.red := rfl
@[simp] theorem State.pulse_slm (e : Nat) : (s.pulse e).slm = s.slm := rfl
@[simp] theorem State.pulse_dts (e : Nat) : (s.pulse e).dts = s.dts := rfl
@[simp] theorem State.pulse_sad (e : Nat) : (s.pulse e).sad = s.sad := rfl
@[simp] theorem State.pulse_src (e : Nat) : (s.pulse e).src = s.src := rfl
@[simp] theorem State.pulse_tiu (e : Nat) : (s.pulse e).tiu = s.tiu := rfl
@[simp] theorem State.pulse_pat (e : Nat) : (s.pulse e).pat = s.pat := rfl
@[simp] theorem State.pulse_chk (e : Nat) : (s.pulse e).chk = s.chk := rfl
@[simp] theorem State.pulse_pnl (e : Nat) : (s.pulse e).pnl = s.pnl := rfl
@[simp] theorem State.pulse_cal (e : Nat) : (s.pulse e).cal = s.cal := rfl
@[simp] theorem State.pulse_grm (e : Nat) : (s.pulse e).grm = s.grm := rfl
@[simp] theorem State.pulse_rdg (e : Nat) : (s.pulse e).rdg = s.rdg := rfl
@[simp] theorem State.pulse_mc (e : Nat) : (s.pulse e).mc = s.mc := rfl
@[simp] theorem State.pulse_crn (e : Nat) : (s.pulse e).crn = s.crn := rfl
@[simp] theorem State.pulse_vb (e : Nat) : (s.pulse e).vb = s.vb := rfl
@[simp] theorem State.pulse_sum (e : Nat) : (s.pulse e).sum = s.sum := rfl
@[simp] theorem State.pulse_log (e : Nat) : (s.pulse e).log = s.log := rfl
@[simp] theorem State.pulse_evtPrev (e : Nat) : (s.pulse e).evtPrev = s.evtPrev := rfl
@[simp] theorem State.pulse_pins (e : Nat) : (s.pulse e).pins = s.pins := rfl
@[simp] theorem State.pulse_mem (e : Nat) : (s.pulse e).mem = s.mem := rfl
@[simp] theorem State.pulse_hostOut (e : Nat) : (s.pulse e).hostOut = s.hostOut := rfl
@[simp] theorem State.pulse_hostHeld (e : Nat) : (s.pulse e).hostHeld = s.hostHeld := rfl
@[simp] theorem State.pulse_irqOut (e : Nat) : (s.pulse e).irqOut = s.irqOut := rfl
@[simp] theorem State.pulse_readOut (e : Nat) : (s.pulse e).readOut = s.readOut := rfl
@[simp] theorem State.pulse_free (e : Nat) : (s.pulse e).free = s.free := rfl

@[simp] theorem State.updHandle_pending (h : Nat) (f : Handle → Handle) : (s.updHandle h f).pending = s.pending := rfl
@[simp] theorem State.updHandle_regs (h : Nat) (f : Handle → Handle) : (s.updHandle h f).regs = s.regs := rfl
@[simp] theorem State.updHandle_tick (h : Nat) (f : Handle → Handle) : (s.updHandle h f).tick = s.tick := rfl
@[simp] theorem State.updHandle_timers (h : Nat) (f : Handle → Handle) : (s.updHandle h f).timers = s.timers := rfl
@[simp] theorem State.updHandle_tb (h : Nat) (f : Handle → Handle) : (s.updHandle h f).tb = s.tb := rfl
@[simp] theorem State.updHandle_pw (h : Nat) (f : Handle → Handle) : (s.updHandle h f).pw = s.pw := rfl
@[simp] theorem State.updHandle_jtag (h : Nat) (f : Handle → Handle) : (s.updHandle h f).jtag = s.jtag := rfl
@[simp] theorem State.updHandle_xing (h : Nat) (f : Handle → Handle) : (s.updHandle h f).xing = s.xing := rfl
@[simp] theorem State.updHandle_acq (h : Nat) (f : Handle → Handle) : (s.updHandle h f).acq = s.acq := rfl
@[simp] theorem State.updHandle_rx (h : Nat) (f : Handle → Handle) : (s.updHandle h f).rx = s.rx := rfl
@[simp] theorem State.updHandle_ph (h : Nat) (f : Handle → Handle) : (s.updHandle h f).ph = s.ph := rfl
@[simp] theorem State.updHandle_red (h : Nat) (f : Handle → Handle) : (s.updHandle h f).red = s.red := rfl
@[simp] theorem State.updHandle_slm (h : Nat) (f : Handle → Handle) : (s.updHandle h f).slm = s.slm := rfl
@[simp] theorem State.updHandle_dts (h : Nat) (f : Handle → Handle) : (s.updHandle h f).dts = s.dts := rfl
@[simp] theorem State.updHandle_sad (h : Nat) (f : Handle → Handle) : (s.updHandle h f).sad = s.sad := rfl
@[simp] theorem State.updHandle_src (h : Nat) (f : Handle → Handle) : (s.updHandle h f).src = s.src := rfl
@[simp] theorem State.updHandle_tiu (h : Nat) (f : Handle → Handle) : (s.updHandle h f).tiu = s.tiu := rfl
@[simp] theorem State.updHandle_pat (h : Nat) (f : Handle → Handle) : (s.updHandle h f).pat = s.pat := rfl
@[simp] theorem State.updHandle_chk (h : Nat) (f : Handle → Handle) : (s.updHandle h f).chk = s.chk := rfl
@[simp] theorem State.updHandle_pnl (h : Nat) (f : Handle → Handle) : (s.updHandle h f).pnl = s.pnl := rfl
@[simp] theorem State.updHandle_cal (h : Nat) (f : Handle → Handle) : (s.updHandle h f).cal = s.cal := rfl
@[simp] theorem State.updHandle_grm (h : Nat) (f : Handle → Handle) : (s.updHandle h f).grm = s.grm := rfl
@[simp] theorem State.updHandle_rdg (h : Nat) (f : Handle → Handle) : (s.updHandle h f).rdg = s.rdg := rfl
@[simp] theorem State.updHandle_mc (h : Nat) (f : Handle → Handle) : (s.updHandle h f).mc = s.mc := rfl
@[simp] theorem State.updHandle_crn (h : Nat) (f : Handle → Handle) : (s.updHandle h f).crn = s.crn := rfl
@[simp] theorem State.updHandle_vb (h : Nat) (f : Handle → Handle) : (s.updHandle h f).vb = s.vb := rfl
@[simp] theorem State.updHandle_sum (h : Nat) (f : Handle → Handle) : (s.updHandle h f).sum = s.sum := rfl
@[simp] theorem State.updHandle_log (h : Nat) (f : Handle → Handle) : (s.updHandle h f).log = s.log := rfl
@[simp] theorem State.updHandle_pulses (h : Nat) (f : Handle → Handle) : (s.updHandle h f).pulses = s.pulses := rfl
@[simp] theorem State.updHandle_evtPrev (h : Nat) (f : Handle → Handle) : (s.updHandle h f).evtPrev = s.evtPrev := rfl
@[simp] theorem State.updHandle_pins (h : Nat) (f : Handle → Handle) : (s.updHandle h f).pins = s.pins := rfl
@[simp] theorem State.updHandle_mem (h : Nat) (f : Handle → Handle) : (s.updHandle h f).mem = s.mem := rfl
@[simp] theorem State.updHandle_hostOut (h : Nat) (f : Handle → Handle) : (s.updHandle h f).hostOut = s.hostOut := rfl
@[simp] theorem State.updHandle_hostHeld (h : Nat) (f : Handle → Handle) : (s.updHandle h f).hostHeld = s.hostHeld := rfl
@[simp] theorem State.updHandle_irqOut (h : Nat) (f : Handle → Handle) : (s.updHandle h f).irqOut = s.irqOut := rfl
@[simp] theorem State.updHandle_readOut (h : Nat) (f : Handle → Handle) : (s.updHandle h f).readOut = s.readOut := rfl
@[simp] theorem State.updHandle_free (h : Nat) (f : Handle → Handle) : (s.updHandle h f).free = s.free := rfl

@[simp] theorem State.signal_pending (v : Nat) : (s.signal v).pending = s.pending := by unfold State.signal; (repeat' split) <;> rfl
@[simp] theorem State.signal_regs (v : Nat) : (s.signal v).regs = s.regs := by unfold State.signal; (repeat' split) <;> rfl
@[simp] theorem State.signal_tick (v : Nat) : (s.signal v).tick = s.tick := by unfold State.signal; (repeat' split) <;> rfl
@[simp] theorem State.signal_timers (v : Nat) : (s.signal v).timers = s.timers := by unfold State.signal; (repeat' split) <;> rfl
@[simp] theorem State.signal_tb (v : Nat) : (s.signal v).tb = s.tb := by unfold State.signal; (repeat' split) <;> rfl
@[simp] theorem State.signal_pw (v : Nat) : (s.signal v).pw = s.pw := by unfold State.signal; (repeat' split) <;> rfl
@[simp] theorem State.signal_jtag (v : Nat) : (s.signal v).jtag = s.jtag := by unfold State.signal; (repeat' split) <;> rfl
@[simp] theorem State.signal_xing (v : Nat) : (s.signal v).xing = s.xing := by unfold State.signal; (repeat' split) <;> rfl
@[simp] theorem State.signal_acq (v : Nat) : (s.signal v).acq = s.acq := by unfold State.signal; (repeat' split) <;> rfl
@[simp] theorem State.signal_rx (v : Nat) : (s.signal v).rx = s.rx := by unfold State.signal; (repeat' split) <;> rfl
@[simp] theorem State.signal_ph (v : Nat) : (s.signal v).ph = s.ph := by unfold State.signal; (repeat' split) <;> rfl
@[simp] theorem State.signal_red (v : Nat) : (s.signal v).red = s.red := by unfold State.signal; (repeat' split) <;> rfl
@[simp] theorem State.signal_slm (v : Nat) : (s.signal v).slm = s.slm := by unfold State.signal; (repeat' split) <;> rfl
@[simp] theorem State.signal_dts (v : Nat) : (s.signal v).dts = s.dts := by unfold State.signal; (repeat' split) <;> rfl
@[simp] theorem State.signal_sad (v : Nat) : (s.signal v).sad = s.sad := by unfold State.signal; (repeat' split) <;> rfl
@[simp] theorem State.signal_src (v : Nat) : (s.signal v).src = s.src := by unfold State.signal; (repeat' split) <;> rfl
@[simp] theorem State.signal_tiu (v : Nat) : (s.signal v).tiu = s.tiu := by unfold State.signal; (repeat' split) <;> rfl
@[simp] theorem State.signal_pat (v : Nat) : (s.signal v).pat = s.pat := by unfold State.signal; (repeat' split) <;> rfl
@[simp] theorem State.signal_chk (v : Nat) : (s.signal v).chk = s.chk := by unfold State.signal; (repeat' split) <;> rfl
@[simp] theorem State.signal_pnl (v : Nat) : (s.signal v).pnl = s.pnl := by unfold State.signal; (repeat' split) <;> rfl
@[simp] theorem State.signal_cal (v : Nat) : (s.signal v).cal = s.cal := by unfold State.signal; (repeat' split) <;> rfl
@[simp] theorem State.signal_grm (v : Nat) : (s.signal v).grm = s.grm := by unfold State.signal; (repeat' split) <;> rfl
@[simp] theorem State.signal_rdg (v : Nat) : (s.signal v).rdg = s.rdg := by unfold State.signal; (repeat' split) <;> rfl
@[simp] theorem State.signal_mc (v : Nat) : (s.signal v).mc = s.mc := by unfold State.signal; (repeat' split) <;> rfl
@[simp] theorem State.signal_crn (v : Nat) : (s.signal v).crn = s.crn := by unfold State.signal; (repeat' split) <;> rfl
@[simp] theorem State.signal_vb (v : Nat) : (s.signal v).vb = s.vb := by unfold State.signal; (repeat' split) <;> rfl
@[simp] theorem State.signal_sum (v : Nat) : (s.signal v).sum = s.sum := by unfold State.signal; (repeat' split) <;> rfl
@[simp] theorem State.signal_log (v : Nat) : (s.signal v).log = s.log := by unfold State.signal; (repeat' split) <;> rfl
@[simp] theorem State.signal_pulses (v : Nat) : (s.signal v).pulses = s.pulses := by unfold State.signal; (repeat' split) <;> rfl
@[simp] theorem State.signal_evtPrev (v : Nat) : (s.signal v).evtPrev = s.evtPrev := by unfold State.signal; (repeat' split) <;> rfl
@[simp] theorem State.signal_pins (v : Nat) : (s.signal v).pins = s.pins := by unfold State.signal; (repeat' split) <;> rfl
@[simp] theorem State.signal_mem (v : Nat) : (s.signal v).mem = s.mem := by unfold State.signal; (repeat' split) <;> rfl
@[simp] theorem State.signal_hostOut (v : Nat) : (s.signal v).hostOut = s.hostOut := by unfold State.signal; (repeat' split) <;> rfl
@[simp] theorem State.signal_hostHeld (v : Nat) : (s.signal v).hostHeld = s.hostHeld := by unfold State.signal; (repeat' split) <;> rfl
@[simp] theorem State.signal_readOut (v : Nat) : (s.signal v).readOut = s.readOut := by unfold State.signal; (repeat' split) <;> rfl
@[simp] theorem State.signal_free (v : Nat) : (s.signal v).free = s.free := by unfold State.signal; (repeat' split) <;> rfl

@[simp] theorem State.hqErr_pending (F : Field) : (s.hqErr F).pending = s.pending := by simp [State.hqErr]
@[simp] theorem State.hqErr_tick (F : Field) : (s.hqErr F).tick = s.tick := by simp [State.hqErr]
@[simp] theorem State.hqErr_timers (F : Field) : (s.hqErr F).timers = s.timers := by simp [State.hqErr]
@[simp] theorem State.hqErr_tb (F : Field) : (s.hqErr F).tb = s.tb := by simp [State.hqErr]
@[simp] theorem State.hqErr_pw (F : Field) : (s.hqErr F).pw = s.pw := by simp [State.hqErr]
@[simp] theorem State.hqErr_jtag (F : Field) : (s.hqErr F).jtag = s.jtag := by simp [State.hqErr]
@[simp] theorem State.hqErr_xing (F : Field) : (s.hqErr F).xing = s.xing := by simp [State.hqErr]
@[simp] theorem State.hqErr_acq (F : Field) : (s.hqErr F).acq = s.acq := by simp [State.hqErr]
@[simp] theorem State.hqErr_rx (F : Field) : (s.hqErr F).rx = s.rx := by simp [State.hqErr]
@[simp] theorem State.hqErr_ph (F : Field) : (s.hqErr F).ph = s.ph := by simp [State.hqErr]
@[simp] theorem State.hqErr_red (F : Field) : (s.hqErr F).red = s.red := by simp [State.hqErr]
@[simp] theorem State.hqErr_slm (F : Field) : (s.hqErr F).slm = s.slm := by simp [State.hqErr]
@[simp] theorem State.hqErr_dts (F : Field) : (s.hqErr F).dts = s.dts := by simp [State.hqErr]
@[simp] theorem State.hqErr_sad (F : Field) : (s.hqErr F).sad = s.sad := by simp [State.hqErr]
@[simp] theorem State.hqErr_src (F : Field) : (s.hqErr F).src = s.src := by simp [State.hqErr]
@[simp] theorem State.hqErr_tiu (F : Field) : (s.hqErr F).tiu = s.tiu := by simp [State.hqErr]
@[simp] theorem State.hqErr_pat (F : Field) : (s.hqErr F).pat = s.pat := by simp [State.hqErr]
@[simp] theorem State.hqErr_chk (F : Field) : (s.hqErr F).chk = s.chk := by simp [State.hqErr]
@[simp] theorem State.hqErr_pnl (F : Field) : (s.hqErr F).pnl = s.pnl := by simp [State.hqErr]
@[simp] theorem State.hqErr_cal (F : Field) : (s.hqErr F).cal = s.cal := by simp [State.hqErr]
@[simp] theorem State.hqErr_grm (F : Field) : (s.hqErr F).grm = s.grm := by simp [State.hqErr]
@[simp] theorem State.hqErr_rdg (F : Field) : (s.hqErr F).rdg = s.rdg := by simp [State.hqErr]
@[simp] theorem State.hqErr_mc (F : Field) : (s.hqErr F).mc = s.mc := by simp [State.hqErr]
@[simp] theorem State.hqErr_crn (F : Field) : (s.hqErr F).crn = s.crn := by simp [State.hqErr]
@[simp] theorem State.hqErr_vb (F : Field) : (s.hqErr F).vb = s.vb := by simp [State.hqErr]
@[simp] theorem State.hqErr_sum (F : Field) : (s.hqErr F).sum = s.sum := by simp [State.hqErr]
@[simp] theorem State.hqErr_log (F : Field) : (s.hqErr F).log = s.log := by simp [State.hqErr]
@[simp] theorem State.hqErr_pulses (F : Field) : (s.hqErr F).pulses = s.pulses := by simp [State.hqErr]
@[simp] theorem State.hqErr_evtPrev (F : Field) : (s.hqErr F).evtPrev = s.evtPrev := by simp [State.hqErr]
@[simp] theorem State.hqErr_pins (F : Field) : (s.hqErr F).pins = s.pins := by simp [State.hqErr]
@[simp] theorem State.hqErr_mem (F : Field) : (s.hqErr F).mem = s.mem := by simp [State.hqErr]
@[simp] theorem State.hqErr_hostOut (F : Field) : (s.hqErr F).hostOut = s.hostOut := by simp [State.hqErr]
@[simp] theorem State.hqErr_hostHeld (F : Field) : (s.hqErr F).hostHeld = s.hostHeld := by simp [State.hqErr]
@[simp] theorem State.hqErr_readOut (F : Field) : (s.hqErr F).readOut = s.readOut := by simp [State.hqErr]
@[simp] theorem State.hqErr_free (F : Field) : (s.hqErr F).free = s.free := by simp [State.hqErr]

@[simp] theorem State.logPut_pending (a b c d : Nat) (bs : List Byte) : (s.logPut a b c d bs).pending = s.pending := by unfold State.logPut; dsimp only; split <;> simp
@[simp] theorem State.logPut_tick (a b c d : Nat) (bs : List Byte) : (s.logPut a b c d bs).tick = s.tick := by unfold State.logPut; dsimp only; split <;> simp
@[simp] theorem State.logPut_timers (a b c d : Nat) (bs : List Byte) : (s.logPut a b c d bs).timers = s.timers := by unfold State.logPut; dsimp only; split <;> simp
@[simp] theorem State.logPut_tb (a b c d : Nat) (bs : List Byte) : (s.logPut a b c d bs).tb = s.tb := by unfold State.logPut; dsimp only; split <;> simp
@[simp] theorem State.logPut_pw (a b c d : Nat) (bs : List Byte) : (s.logPut a b c d bs).pw = s.pw := by unfold State.logPut; dsimp only; split <;> simp
@[simp] theorem State.logPut_jtag (a b c d : Nat) (bs : List Byte) : (s.logPut a b c d bs).jtag = s.jtag := by unfold State.logPut; dsimp only; split <;> simp
@[simp] theorem State.logPut_xing (a b c d : Nat) (bs : List Byte) : (s.logPut a b c d bs).xing = s.xing := by unfold State.logPut; dsimp only; split <;> simp
@[simp] theorem State.logPut_acq (a b c d : Nat) (bs : List Byte) : (s.logPut a b c d bs).acq = s.acq := by unfold State.logPut; dsimp only; split <;> simp
@[simp] theorem State.logPut_rx (a b c d : Nat) (bs : List Byte) : (s.logPut a b c d bs).rx = s.rx := by unfold State.logPut; dsimp only; split <;> simp
@[simp] theorem State.logPut_ph (a b c d : Nat) (bs : List Byte) : (s.logPut a b c d bs).ph = s.ph := by unfold State.logPut; dsimp only; split <;> simp
@[simp] theorem State.logPut_red (a b c d : Nat) (bs : List Byte) : (s.logPut a b c d bs).red = s.red := by unfold State.logPut; dsimp only; split <;> simp
@[simp] theorem State.logPut_slm (a b c d : Nat) (bs : List Byte) : (s.logPut a b c d bs).slm = s.slm := by unfold State.logPut; dsimp only; split <;> simp
@[simp] theorem State.logPut_dts (a b c d : Nat) (bs : List Byte) : (s.logPut a b c d bs).dts = s.dts := by unfold State.logPut; dsimp only; split <;> simp
@[simp] theorem State.logPut_sad (a b c d : Nat) (bs : List Byte) : (s.logPut a b c d bs).sad = s.sad := by unfold State.logPut; dsimp only; split <;> simp
@[simp] theorem State.logPut_src (a b c d : Nat) (bs : List Byte) : (s.logPut a b c d bs).src = s.src := by unfold State.logPut; dsimp only; split <;> simp
@[simp] theorem State.logPut_tiu (a b c d : Nat) (bs : List Byte) : (s.logPut a b c d bs).tiu = s.tiu := by unfold State.logPut; dsimp only; split <;> simp
@[simp] theorem State.logPut_pat (a b c d : Nat) (bs : List Byte) : (s.logPut a b c d bs).pat = s.pat := by unfold State.logPut; dsimp only; split <;> simp
@[simp] theorem State.logPut_chk (a b c d : Nat) (bs : List Byte) : (s.logPut a b c d bs).chk = s.chk := by unfold State.logPut; dsimp only; split <;> simp
@[simp] theorem State.logPut_pnl (a b c d : Nat) (bs : List Byte) : (s.logPut a b c d bs).pnl = s.pnl := by unfold State.logPut; dsimp only; split <;> simp
@[simp] theorem State.logPut_cal (a b c d : Nat) (bs : List Byte) : (s.logPut a b c d bs).cal = s.cal := by unfold State.logPut; dsimp only; split <;> simp
@[simp] theorem State.logPut_grm (a b c d : Nat) (bs : List Byte) : (s.logPut a b c d bs).grm = s.grm := by unfold State.logPut; dsimp only; split <;> simp
@[simp] theorem State.logPut_rdg (a b c d : Nat) (bs : List Byte) : (s.logPut a b c d bs).rdg = s.rdg := by unfold State.logPut; dsimp only; split <;> simp
@[simp] theorem State.logPut_mc (a b c d : Nat) (bs : List Byte) : (s.logPut a b c d bs).mc = s.mc := by unfold State.logPut; dsimp only; split <;> simp
@[simp] theorem State.logPut_crn (a b c d : Nat) (bs : List Byte) : (s.logPut a b c d bs).crn = s.crn := by unfold State.logPut; dsimp only; split <;> simp
@[simp] theorem State.logPut_vb (a b c d : Nat) (bs : List Byte) : (s.logPut a b c d bs).vb = s.vb := by unfold State.logPut; dsimp only; split <;> simp
@[simp] theorem State.logPut_sum (a b c d : Nat) (bs : List Byte) : (s.logPut a b c d bs).sum = s.sum := by unfold State.logPut; dsimp only; split <;> simp
@[simp] theorem State.logPut_pulses (a b c d : Nat) (bs : List Byte) : (s.logPut a b c d bs).pulses = s.pulses := by unfold State.logPut; dsimp only; split <;> simp
@[simp] theorem State.logPut_evtPrev (a b c d : Nat) (bs : List Byte) : (s.logPut a b c d bs).evtPrev = s.evtPrev := by unfold State.logPut; dsimp only; split <;> simp
@[simp] theorem State.logPut_pins (a b c d : Nat) (bs : List Byte) : (s.logPut a b c d bs).pins = s.pins := by unfold State.logPut; dsimp only; split <;> simp
@[simp] theorem State.logPut_mem (a b c d : Nat) (bs : List Byte) : (s.logPut a b c d bs).mem = s.mem := by unfold State.logPut; dsimp only; split <;> simp
@[simp] theorem State.logPut_hostOut (a b c d : Nat) (bs : List Byte) : (s.logPut a b c d bs).hostOut = s.hostOut := by unfold State.logPut; dsimp only; split <;> simp
@[simp] theorem State.logPut_hostHeld (a b c d : Nat) (bs : List Byte) : (s.logPut a b c d bs).hostHeld = s.hostHeld := by unfold State.logPut; dsimp only; split <;> simp
@[simp] theorem State.logPut_readOut (a b c d : Nat) (bs : List Byte) : (s.logPut a b c d bs).readOut = s.readOut := by unfold State.logPut; dsimp only; split <;> simp
@[simp] theorem State.logPut_free (a b c d : Nat) (bs : List Byte) : (s.logPut a b c d bs).free = s.free := by unfold State.logPut; dsimp only; split <;> simp

@[simp] theorem State.logEvt_pending (a b c : Nat) (bs : List Byte) : (s.logEvt a b c bs).pending = s.pending := by unfold State.logEvt; split <;> simp [State.incF, State.addF]
@[simp] theorem State.logEvt_tick (a b c : Nat) (bs : List Byte) : (s.logEvt a b c bs).tick = s.tick := by unfold State.logEvt; split <;> simp [State.incF, State.addF]
@[simp] theorem State.logEvt_timers (a b c : Nat) (bs : List Byte) : (s.logEvt a b c bs).timers = s.timers := by unfold State.logEvt; split <;> simp [State.incF, State.addF]
@[simp] theorem State.logEvt_tb (a b c : Nat) (bs : List Byte) : (s.logEvt a b c bs).tb = s.tb := by unfold State.logEvt; split <;> simp [State.incF, State.addF]
@[simp] theorem State.logEvt_pw (a b c : Nat) (bs : List Byte) : (s.logEvt a b c bs).pw = s.pw := by unfold State.logEvt; split <;> simp [State.incF, State.addF]
@[simp] theorem State.logEvt_jtag (a b c : Nat) (bs : List Byte) : (s.logEvt a b c bs).jtag = s.jtag := by unfold State.logEvt; split <;> simp [State.incF, State.addF]
@[simp] theorem State.logEvt_xing (a b c : Nat) (bs : List Byte) : (s.logEvt a b c bs).xing = s.xing := by unfold State.logEvt; split <;> simp [State.incF, State.addF]
@[simp] theorem State.logEvt_acq (a b c : Nat) (bs : List Byte) : (s.logEvt a b c bs).acq = s.acq := by unfold State.logEvt; split <;> simp [State.incF, State.addF]
@[simp] theorem State.logEvt_rx (a b c : Nat) (bs : List Byte) : (s.logEvt a b c bs).rx = s.rx := by unfold State.logEvt; split <;> simp [State.incF, State.addF]
@[simp] theorem State.logEvt_ph (a b c : Nat) (bs : List Byte) : (s.logEvt a b c bs).ph = s.ph := by unfold State.logEvt; split <;> simp [State.incF, State.addF]
@[simp] theorem State.logEvt_red (a b c : Nat) (bs : List Byte) : (s.logEvt a b c bs).red = s.red := by unfold State.logEvt; split <;> simp [State.incF, State.addF]
@[simp] theorem State.logEvt_slm (a b c : Nat) (bs : List Byte) : (s.logEvt a b c bs).slm = s.slm := by unfold State.logEvt; split <;> simp [State.incF, State.addF]
@[simp] theorem State.logEvt_dts (a b c : Nat) (bs : List Byte) : (s.logEvt a b c bs).dts = s.dts := by unfold State.logEvt; split <;> simp [State.incF, State.addF]
@[simp] theorem State.logEvt_sad (a b c : Nat) (bs : List Byte) : (s.logEvt a b c bs).sad = s.sad := by unfold State.logEvt; split <;> simp [State.incF, State.addF]
@[simp] theorem State.logEvt_src (a b c : Nat) (bs : List Byte) : (s.logEvt a b c bs).src = s.src := by unfold State.logEvt; split <;> simp [State.incF, State.addF]
@[simp] theorem State.logEvt_tiu (a b c : Nat) (bs : List Byte) : (s.logEvt a b c bs).tiu = s.tiu := by unfold State.logEvt; split <;> simp [State.incF, State.addF]
@[simp] theorem State.logEvt_pat (a b c : Nat) (bs : List Byte) : (s.logEvt a b c bs).pat = s.pat := by unfold State.logEvt; split <;> simp [State.incF, State.addF]
@[simp] theorem State.logEvt_chk (a b c : Nat) (bs : List Byte) : (s.logEvt a b c bs).chk = s.chk := by unfold State.logEvt; split <;> simp [State.incF, State.addF]
@[simp] theorem State.logEvt_pnl (a b c : Nat) (bs : List Byte) : (s.logEvt a b c bs).pnl = s.pnl := by unfold State.logEvt; split <;> simp [State.incF, State.addF]
@[simp] theorem State.logEvt_cal (a b c : Nat) (bs : List Byte) : (s.logEvt a b c bs).cal = s.cal := by unfold State.logEvt; split <;> simp [State.incF, State.addF]
@[simp] theorem State.logEvt_grm (a b c : Nat) (bs : List Byte) : (s.logEvt a b c bs).grm = s.grm := by unfold State.logEvt; split <;> simp [State.incF, State.addF]
@[simp] theorem State.logEvt_rdg (a b c : Nat) (bs : List Byte) : (s.logEvt a b c bs).rdg = s.rdg := by unfold State.logEvt; split <;> simp [State.incF, State.addF]
@[simp] theorem State.logEvt_mc (a b c : Nat) (bs : List Byte) : (s.logEvt a b c bs).mc = s.mc := by unfold State.logEvt; split <;> simp [State.incF, State.addF]
@[simp] theorem State.logEvt_crn (a b c : Nat) (bs : List Byte) : (s.logEvt a b c bs).crn = s.crn := by unfold State.logEvt; split <;> simp [State.incF, State.addF]
@[simp] theorem State.logEvt_vb (a b c : Nat) (bs : List Byte) : (s.logEvt a b c bs).vb = s.vb := by unfold State.logEvt; split <;> simp [State.incF, State.addF]
@[simp] theorem State.logEvt_sum (a b c : Nat) (bs : List Byte) : (s.logEvt a b c bs).sum = s.sum := by unfold State.logEvt; split <;> simp [State.incF, State.addF]
@[simp] theorem State.logEvt_pulses (a b c : Nat) (bs : List Byte) : (s.logEvt a b c bs).pulses = s.pulses := by unfold State.logEvt; split <;> simp [State.incF, State.addF]
@[simp] theorem State.logEvt_evtPrev (a b c : Nat) (bs : List Byte) : (s.logEvt a b c bs).evtPrev = s.evtPrev := by unfold State.logEvt; split <;> simp [State.incF, State.addF]
@[simp] theorem State.logEvt_pins (a b c : Nat) (bs : List Byte) : (s.logEvt a b c bs).pins = s.pins := by unfold State.logEvt; split <;> simp [State.incF, State.addF]
@[simp] theorem State.logEvt_mem (a b c : Nat) (bs : List Byte) : (s.logEvt a b c bs).mem = s.mem := by unfold State.logEvt; split <;> simp [State.incF, State.addF]
@[simp] theorem State.logEvt_hostOut (a b c : Nat) (bs : List Byte) : (s.logEvt a b c bs).hostOut = s.hostOut := by unfold State.logEvt; split <;> simp [State.incF, State.addF]
@[simp] theorem State.logEvt_hostHeld (a b c : Nat) (bs : List Byte) : (s.logEvt a b c bs).hostHeld = s.hostHeld := by unfold State.logEvt; split <;> simp [State.incF, State.addF]
@[simp] theorem State.logEvt_readOut (a b c : Nat) (bs : List Byte) : (s.logEvt a b c bs).readOut = s.readOut := by unfold State.logEvt; split <;> simp [State.incF, State.addF]
@[simp] theorem State.logEvt_free (a b c : Nat) (bs : List Byte) : (s.logEvt a b c bs).free = s.free := by unfold State.logEvt; split <;> simp [State.incF, State.addF]

/-- Two changes of registers alone are one. -/
theorem regs_trans {s t u : State} (h : ∃ r, t = { s with regs := r }) (k : ∃ r, u = { t with regs := r }) : ∃ r, u = { s with regs := r } := by
  obtain ⟨_, rfl⟩ := h
  obtain ⟨_, rfl⟩ := k
  exact ⟨_, rfl⟩

/-- A counter pair written changes registers alone. -/
theorem State.set64_eq (lo hi : Field) (v i : Nat) : ∃ r, s.set64 lo hi v i = { s with regs := r } := by
  unfold State.set64 State.setF
  exact ⟨_, rfl⟩

/-- Counting lines changes registers alone. -/
theorem State.memCount_eq (c n w : Nat) : ∃ r, s.memCount c n w = { s with regs := r } := by
  unfold State.memCount
  exact regs_trans (regs_trans (State.set64_eq _ _ _ _ _) (State.set64_eq _ _ _ _ _)) (State.set64_eq _ _ _ _ _)

@[simp] theorem State.memCount_pending (c n w : Nat) : (s.memCount c n w).pending = s.pending := by obtain ⟨_, h⟩ := s.memCount_eq c n w; rw [h]
@[simp] theorem State.memCount_tick (c n w : Nat) : (s.memCount c n w).tick = s.tick := by obtain ⟨_, h⟩ := s.memCount_eq c n w; rw [h]
@[simp] theorem State.memCount_timers (c n w : Nat) : (s.memCount c n w).timers = s.timers := by obtain ⟨_, h⟩ := s.memCount_eq c n w; rw [h]
@[simp] theorem State.memCount_tb (c n w : Nat) : (s.memCount c n w).tb = s.tb := by obtain ⟨_, h⟩ := s.memCount_eq c n w; rw [h]
@[simp] theorem State.memCount_pw (c n w : Nat) : (s.memCount c n w).pw = s.pw := by obtain ⟨_, h⟩ := s.memCount_eq c n w; rw [h]
@[simp] theorem State.memCount_jtag (c n w : Nat) : (s.memCount c n w).jtag = s.jtag := by obtain ⟨_, h⟩ := s.memCount_eq c n w; rw [h]
@[simp] theorem State.memCount_xing (c n w : Nat) : (s.memCount c n w).xing = s.xing := by obtain ⟨_, h⟩ := s.memCount_eq c n w; rw [h]
@[simp] theorem State.memCount_hq (c n w : Nat) : (s.memCount c n w).hq = s.hq := by obtain ⟨_, h⟩ := s.memCount_eq c n w; rw [h]
@[simp] theorem State.memCount_acq (c n w : Nat) : (s.memCount c n w).acq = s.acq := by obtain ⟨_, h⟩ := s.memCount_eq c n w; rw [h]
@[simp] theorem State.memCount_rx (c n w : Nat) : (s.memCount c n w).rx = s.rx := by obtain ⟨_, h⟩ := s.memCount_eq c n w; rw [h]
@[simp] theorem State.memCount_ph (c n w : Nat) : (s.memCount c n w).ph = s.ph := by obtain ⟨_, h⟩ := s.memCount_eq c n w; rw [h]
@[simp] theorem State.memCount_red (c n w : Nat) : (s.memCount c n w).red = s.red := by obtain ⟨_, h⟩ := s.memCount_eq c n w; rw [h]
@[simp] theorem State.memCount_slm (c n w : Nat) : (s.memCount c n w).slm = s.slm := by obtain ⟨_, h⟩ := s.memCount_eq c n w; rw [h]
@[simp] theorem State.memCount_dts (c n w : Nat) : (s.memCount c n w).dts = s.dts := by obtain ⟨_, h⟩ := s.memCount_eq c n w; rw [h]
@[simp] theorem State.memCount_sad (c n w : Nat) : (s.memCount c n w).sad = s.sad := by obtain ⟨_, h⟩ := s.memCount_eq c n w; rw [h]
@[simp] theorem State.memCount_src (c n w : Nat) : (s.memCount c n w).src = s.src := by obtain ⟨_, h⟩ := s.memCount_eq c n w; rw [h]
@[simp] theorem State.memCount_tiu (c n w : Nat) : (s.memCount c n w).tiu = s.tiu := by obtain ⟨_, h⟩ := s.memCount_eq c n w; rw [h]
@[simp] theorem State.memCount_pat (c n w : Nat) : (s.memCount c n w).pat = s.pat := by obtain ⟨_, h⟩ := s.memCount_eq c n w; rw [h]
@[simp] theorem State.memCount_chk (c n w : Nat) : (s.memCount c n w).chk = s.chk := by obtain ⟨_, h⟩ := s.memCount_eq c n w; rw [h]
@[simp] theorem State.memCount_pnl (c n w : Nat) : (s.memCount c n w).pnl = s.pnl := by obtain ⟨_, h⟩ := s.memCount_eq c n w; rw [h]
@[simp] theorem State.memCount_cal (c n w : Nat) : (s.memCount c n w).cal = s.cal := by obtain ⟨_, h⟩ := s.memCount_eq c n w; rw [h]
@[simp] theorem State.memCount_grm (c n w : Nat) : (s.memCount c n w).grm = s.grm := by obtain ⟨_, h⟩ := s.memCount_eq c n w; rw [h]
@[simp] theorem State.memCount_rdg (c n w : Nat) : (s.memCount c n w).rdg = s.rdg := by obtain ⟨_, h⟩ := s.memCount_eq c n w; rw [h]
@[simp] theorem State.memCount_mc (c n w : Nat) : (s.memCount c n w).mc = s.mc := by obtain ⟨_, h⟩ := s.memCount_eq c n w; rw [h]
@[simp] theorem State.memCount_crn (c n w : Nat) : (s.memCount c n w).crn = s.crn := by obtain ⟨_, h⟩ := s.memCount_eq c n w; rw [h]
@[simp] theorem State.memCount_vb (c n w : Nat) : (s.memCount c n w).vb = s.vb := by obtain ⟨_, h⟩ := s.memCount_eq c n w; rw [h]
@[simp] theorem State.memCount_sum (c n w : Nat) : (s.memCount c n w).sum = s.sum := by obtain ⟨_, h⟩ := s.memCount_eq c n w; rw [h]
@[simp] theorem State.memCount_log (c n w : Nat) : (s.memCount c n w).log = s.log := by obtain ⟨_, h⟩ := s.memCount_eq c n w; rw [h]
@[simp] theorem State.memCount_pulses (c n w : Nat) : (s.memCount c n w).pulses = s.pulses := by obtain ⟨_, h⟩ := s.memCount_eq c n w; rw [h]
@[simp] theorem State.memCount_evtPrev (c n w : Nat) : (s.memCount c n w).evtPrev = s.evtPrev := by obtain ⟨_, h⟩ := s.memCount_eq c n w; rw [h]
@[simp] theorem State.memCount_pins (c n w : Nat) : (s.memCount c n w).pins = s.pins := by obtain ⟨_, h⟩ := s.memCount_eq c n w; rw [h]
@[simp] theorem State.memCount_mem (c n w : Nat) : (s.memCount c n w).mem = s.mem := by obtain ⟨_, h⟩ := s.memCount_eq c n w; rw [h]
@[simp] theorem State.memCount_hostOut (c n w : Nat) : (s.memCount c n w).hostOut = s.hostOut := by obtain ⟨_, h⟩ := s.memCount_eq c n w; rw [h]
@[simp] theorem State.memCount_hostHeld (c n w : Nat) : (s.memCount c n w).hostHeld = s.hostHeld := by obtain ⟨_, h⟩ := s.memCount_eq c n w; rw [h]
@[simp] theorem State.memCount_irqOut (c n w : Nat) : (s.memCount c n w).irqOut = s.irqOut := by obtain ⟨_, h⟩ := s.memCount_eq c n w; rw [h]
@[simp] theorem State.memCount_readOut (c n w : Nat) : (s.memCount c n w).readOut = s.readOut := by obtain ⟨_, h⟩ := s.memCount_eq c n w; rw [h]
@[simp] theorem State.memCount_free (c n w : Nat) : (s.memCount c n w).free = s.free := by obtain ⟨_, h⟩ := s.memCount_eq c n w; rw [h]

/-- A fold whose steps change registers alone changes registers alone. -/
theorem foldl_regs {α : Type} (f : State → α → State) (h : ∀ s a, ∃ r, f s a = { s with regs := r }) (l : List α) :
    ∃ r, l.foldl f s = { s with regs := r } := by
  induction l generalizing s with
  | nil => exact ⟨s.regs, rfl⟩
  | cons a l ih =>
    obtain ⟨r, hr⟩ := h s a
    obtain ⟨q, hq⟩ := ih (f s a)
    exact ⟨q, by rw [List.foldl_cons, hq, hr]⟩

/-- Bulk reads change registers alone. -/
theorem State.linesRead_eq (o n : Nat) : ∃ r, s.linesRead o n = { s with regs := r } := by
  unfold State.linesRead
  apply foldl_regs
  intro s c
  dsimp only
  split
  · exact ⟨s.regs, rfl⟩
  · obtain ⟨r, h⟩ := s.memCount_eq c _ 0
    rw [h]
    exact ⟨_, rfl⟩

/-- Bulk writes count in registers alone. -/
theorem State.linesWritten_eq (o n : Nat) (w : Nat → Bool) : ∃ r, s.linesWritten o n w = { s with regs := r } := by
  unfold State.linesWritten
  apply foldl_regs
  intro s c
  dsimp only
  split
  · exact ⟨s.regs, rfl⟩
  · obtain ⟨r, h⟩ := s.memCount_eq c _ _
    rw [h]
    exact ⟨_, rfl⟩

@[simp] theorem State.linesRead_pending (o n : Nat) : (s.linesRead o n).pending = s.pending := by obtain ⟨_, h⟩ := s.linesRead_eq o n; rw [h]
@[simp] theorem State.linesRead_tick (o n : Nat) : (s.linesRead o n).tick = s.tick := by obtain ⟨_, h⟩ := s.linesRead_eq o n; rw [h]
@[simp] theorem State.linesRead_timers (o n : Nat) : (s.linesRead o n).timers = s.timers := by obtain ⟨_, h⟩ := s.linesRead_eq o n; rw [h]
@[simp] theorem State.linesRead_tb (o n : Nat) : (s.linesRead o n).tb = s.tb := by obtain ⟨_, h⟩ := s.linesRead_eq o n; rw [h]
@[simp] theorem State.linesRead_pw (o n : Nat) : (s.linesRead o n).pw = s.pw := by obtain ⟨_, h⟩ := s.linesRead_eq o n; rw [h]
@[simp] theorem State.linesRead_jtag (o n : Nat) : (s.linesRead o n).jtag = s.jtag := by obtain ⟨_, h⟩ := s.linesRead_eq o n; rw [h]
@[simp] theorem State.linesRead_xing (o n : Nat) : (s.linesRead o n).xing = s.xing := by obtain ⟨_, h⟩ := s.linesRead_eq o n; rw [h]
@[simp] theorem State.linesRead_hq (o n : Nat) : (s.linesRead o n).hq = s.hq := by obtain ⟨_, h⟩ := s.linesRead_eq o n; rw [h]
@[simp] theorem State.linesRead_acq (o n : Nat) : (s.linesRead o n).acq = s.acq := by obtain ⟨_, h⟩ := s.linesRead_eq o n; rw [h]
@[simp] theorem State.linesRead_rx (o n : Nat) : (s.linesRead o n).rx = s.rx := by obtain ⟨_, h⟩ := s.linesRead_eq o n; rw [h]
@[simp] theorem State.linesRead_ph (o n : Nat) : (s.linesRead o n).ph = s.ph := by obtain ⟨_, h⟩ := s.linesRead_eq o n; rw [h]
@[simp] theorem State.linesRead_red (o n : Nat) : (s.linesRead o n).red = s.red := by obtain ⟨_, h⟩ := s.linesRead_eq o n; rw [h]
@[simp] theorem State.linesRead_slm (o n : Nat) : (s.linesRead o n).slm = s.slm := by obtain ⟨_, h⟩ := s.linesRead_eq o n; rw [h]
@[simp] theorem State.linesRead_dts (o n : Nat) : (s.linesRead o n).dts = s.dts := by obtain ⟨_, h⟩ := s.linesRead_eq o n; rw [h]
@[simp] theorem State.linesRead_sad (o n : Nat) : (s.linesRead o n).sad = s.sad := by obtain ⟨_, h⟩ := s.linesRead_eq o n; rw [h]
@[simp] theorem State.linesRead_src (o n : Nat) : (s.linesRead o n).src = s.src := by obtain ⟨_, h⟩ := s.linesRead_eq o n; rw [h]
@[simp] theorem State.linesRead_tiu (o n : Nat) : (s.linesRead o n).tiu = s.tiu := by obtain ⟨_, h⟩ := s.linesRead_eq o n; rw [h]
@[simp] theorem State.linesRead_pat (o n : Nat) : (s.linesRead o n).pat = s.pat := by obtain ⟨_, h⟩ := s.linesRead_eq o n; rw [h]
@[simp] theorem State.linesRead_chk (o n : Nat) : (s.linesRead o n).chk = s.chk := by obtain ⟨_, h⟩ := s.linesRead_eq o n; rw [h]
@[simp] theorem State.linesRead_pnl (o n : Nat) : (s.linesRead o n).pnl = s.pnl := by obtain ⟨_, h⟩ := s.linesRead_eq o n; rw [h]
@[simp] theorem State.linesRead_cal (o n : Nat) : (s.linesRead o n).cal = s.cal := by obtain ⟨_, h⟩ := s.linesRead_eq o n; rw [h]
@[simp] theorem State.linesRead_grm (o n : Nat) : (s.linesRead o n).grm = s.grm := by obtain ⟨_, h⟩ := s.linesRead_eq o n; rw [h]
@[simp] theorem State.linesRead_rdg (o n : Nat) : (s.linesRead o n).rdg = s.rdg := by obtain ⟨_, h⟩ := s.linesRead_eq o n; rw [h]
@[simp] theorem State.linesRead_mc (o n : Nat) : (s.linesRead o n).mc = s.mc := by obtain ⟨_, h⟩ := s.linesRead_eq o n; rw [h]
@[simp] theorem State.linesRead_crn (o n : Nat) : (s.linesRead o n).crn = s.crn := by obtain ⟨_, h⟩ := s.linesRead_eq o n; rw [h]
@[simp] theorem State.linesRead_vb (o n : Nat) : (s.linesRead o n).vb = s.vb := by obtain ⟨_, h⟩ := s.linesRead_eq o n; rw [h]
@[simp] theorem State.linesRead_sum (o n : Nat) : (s.linesRead o n).sum = s.sum := by obtain ⟨_, h⟩ := s.linesRead_eq o n; rw [h]
@[simp] theorem State.linesRead_log (o n : Nat) : (s.linesRead o n).log = s.log := by obtain ⟨_, h⟩ := s.linesRead_eq o n; rw [h]
@[simp] theorem State.linesRead_pulses (o n : Nat) : (s.linesRead o n).pulses = s.pulses := by obtain ⟨_, h⟩ := s.linesRead_eq o n; rw [h]
@[simp] theorem State.linesRead_evtPrev (o n : Nat) : (s.linesRead o n).evtPrev = s.evtPrev := by obtain ⟨_, h⟩ := s.linesRead_eq o n; rw [h]
@[simp] theorem State.linesRead_pins (o n : Nat) : (s.linesRead o n).pins = s.pins := by obtain ⟨_, h⟩ := s.linesRead_eq o n; rw [h]
@[simp] theorem State.linesRead_mem (o n : Nat) : (s.linesRead o n).mem = s.mem := by obtain ⟨_, h⟩ := s.linesRead_eq o n; rw [h]
@[simp] theorem State.linesRead_hostOut (o n : Nat) : (s.linesRead o n).hostOut = s.hostOut := by obtain ⟨_, h⟩ := s.linesRead_eq o n; rw [h]
@[simp] theorem State.linesRead_hostHeld (o n : Nat) : (s.linesRead o n).hostHeld = s.hostHeld := by obtain ⟨_, h⟩ := s.linesRead_eq o n; rw [h]
@[simp] theorem State.linesRead_irqOut (o n : Nat) : (s.linesRead o n).irqOut = s.irqOut := by obtain ⟨_, h⟩ := s.linesRead_eq o n; rw [h]
@[simp] theorem State.linesRead_readOut (o n : Nat) : (s.linesRead o n).readOut = s.readOut := by obtain ⟨_, h⟩ := s.linesRead_eq o n; rw [h]
@[simp] theorem State.linesRead_free (o n : Nat) : (s.linesRead o n).free = s.free := by obtain ⟨_, h⟩ := s.linesRead_eq o n; rw [h]

@[simp] theorem State.linesWritten_pending (o n : Nat) (w : Nat → Bool) : (s.linesWritten o n w).pending = s.pending := by obtain ⟨_, h⟩ := s.linesWritten_eq o n w; rw [h]
@[simp] theorem State.linesWritten_tick (o n : Nat) (w : Nat → Bool) : (s.linesWritten o n w).tick = s.tick := by obtain ⟨_, h⟩ := s.linesWritten_eq o n w; rw [h]
@[simp] theorem State.linesWritten_timers (o n : Nat) (w : Nat → Bool) : (s.linesWritten o n w).timers = s.timers := by obtain ⟨_, h⟩ := s.linesWritten_eq o n w; rw [h]
@[simp] theorem State.linesWritten_tb (o n : Nat) (w : Nat → Bool) : (s.linesWritten o n w).tb = s.tb := by obtain ⟨_, h⟩ := s.linesWritten_eq o n w; rw [h]
@[simp] theorem State.linesWritten_pw (o n : Nat) (w : Nat → Bool) : (s.linesWritten o n w).pw = s.pw := by obtain ⟨_, h⟩ := s.linesWritten_eq o n w; rw [h]
@[simp] theorem State.linesWritten_jtag (o n : Nat) (w : Nat → Bool) : (s.linesWritten o n w).jtag = s.jtag := by obtain ⟨_, h⟩ := s.linesWritten_eq o n w; rw [h]
@[simp] theorem State.linesWritten_xing (o n : Nat) (w : Nat → Bool) : (s.linesWritten o n w).xing = s.xing := by obtain ⟨_, h⟩ := s.linesWritten_eq o n w; rw [h]
@[simp] theorem State.linesWritten_hq (o n : Nat) (w : Nat → Bool) : (s.linesWritten o n w).hq = s.hq := by obtain ⟨_, h⟩ := s.linesWritten_eq o n w; rw [h]
@[simp] theorem State.linesWritten_acq (o n : Nat) (w : Nat → Bool) : (s.linesWritten o n w).acq = s.acq := by obtain ⟨_, h⟩ := s.linesWritten_eq o n w; rw [h]
@[simp] theorem State.linesWritten_rx (o n : Nat) (w : Nat → Bool) : (s.linesWritten o n w).rx = s.rx := by obtain ⟨_, h⟩ := s.linesWritten_eq o n w; rw [h]
@[simp] theorem State.linesWritten_ph (o n : Nat) (w : Nat → Bool) : (s.linesWritten o n w).ph = s.ph := by obtain ⟨_, h⟩ := s.linesWritten_eq o n w; rw [h]
@[simp] theorem State.linesWritten_red (o n : Nat) (w : Nat → Bool) : (s.linesWritten o n w).red = s.red := by obtain ⟨_, h⟩ := s.linesWritten_eq o n w; rw [h]
@[simp] theorem State.linesWritten_slm (o n : Nat) (w : Nat → Bool) : (s.linesWritten o n w).slm = s.slm := by obtain ⟨_, h⟩ := s.linesWritten_eq o n w; rw [h]
@[simp] theorem State.linesWritten_dts (o n : Nat) (w : Nat → Bool) : (s.linesWritten o n w).dts = s.dts := by obtain ⟨_, h⟩ := s.linesWritten_eq o n w; rw [h]
@[simp] theorem State.linesWritten_sad (o n : Nat) (w : Nat → Bool) : (s.linesWritten o n w).sad = s.sad := by obtain ⟨_, h⟩ := s.linesWritten_eq o n w; rw [h]
@[simp] theorem State.linesWritten_src (o n : Nat) (w : Nat → Bool) : (s.linesWritten o n w).src = s.src := by obtain ⟨_, h⟩ := s.linesWritten_eq o n w; rw [h]
@[simp] theorem State.linesWritten_tiu (o n : Nat) (w : Nat → Bool) : (s.linesWritten o n w).tiu = s.tiu := by obtain ⟨_, h⟩ := s.linesWritten_eq o n w; rw [h]
@[simp] theorem State.linesWritten_pat (o n : Nat) (w : Nat → Bool) : (s.linesWritten o n w).pat = s.pat := by obtain ⟨_, h⟩ := s.linesWritten_eq o n w; rw [h]
@[simp] theorem State.linesWritten_chk (o n : Nat) (w : Nat → Bool) : (s.linesWritten o n w).chk = s.chk := by obtain ⟨_, h⟩ := s.linesWritten_eq o n w; rw [h]
@[simp] theorem State.linesWritten_pnl (o n : Nat) (w : Nat → Bool) : (s.linesWritten o n w).pnl = s.pnl := by obtain ⟨_, h⟩ := s.linesWritten_eq o n w; rw [h]
@[simp] theorem State.linesWritten_cal (o n : Nat) (w : Nat → Bool) : (s.linesWritten o n w).cal = s.cal := by obtain ⟨_, h⟩ := s.linesWritten_eq o n w; rw [h]
@[simp] theorem State.linesWritten_grm (o n : Nat) (w : Nat → Bool) : (s.linesWritten o n w).grm = s.grm := by obtain ⟨_, h⟩ := s.linesWritten_eq o n w; rw [h]
@[simp] theorem State.linesWritten_rdg (o n : Nat) (w : Nat → Bool) : (s.linesWritten o n w).rdg = s.rdg := by obtain ⟨_, h⟩ := s.linesWritten_eq o n w; rw [h]
@[simp] theorem State.linesWritten_mc (o n : Nat) (w : Nat → Bool) : (s.linesWritten o n w).mc = s.mc := by obtain ⟨_, h⟩ := s.linesWritten_eq o n w; rw [h]
@[simp] theorem State.linesWritten_crn (o n : Nat) (w : Nat → Bool) : (s.linesWritten o n w).crn = s.crn := by obtain ⟨_, h⟩ := s.linesWritten_eq o n w; rw [h]
@[simp] theorem State.linesWritten_vb (o n : Nat) (w : Nat → Bool) : (s.linesWritten o n w).vb = s.vb := by obtain ⟨_, h⟩ := s.linesWritten_eq o n w; rw [h]
@[simp] theorem State.linesWritten_sum (o n : Nat) (w : Nat → Bool) : (s.linesWritten o n w).sum = s.sum := by obtain ⟨_, h⟩ := s.linesWritten_eq o n w; rw [h]
@[simp] theorem State.linesWritten_log (o n : Nat) (w : Nat → Bool) : (s.linesWritten o n w).log = s.log := by obtain ⟨_, h⟩ := s.linesWritten_eq o n w; rw [h]
@[simp] theorem State.linesWritten_pulses (o n : Nat) (w : Nat → Bool) : (s.linesWritten o n w).pulses = s.pulses := by obtain ⟨_, h⟩ := s.linesWritten_eq o n w; rw [h]
@[simp] theorem State.linesWritten_evtPrev (o n : Nat) (w : Nat → Bool) : (s.linesWritten o n w).evtPrev = s.evtPrev := by obtain ⟨_, h⟩ := s.linesWritten_eq o n w; rw [h]
@[simp] theorem State.linesWritten_pins (o n : Nat) (w : Nat → Bool) : (s.linesWritten o n w).pins = s.pins := by obtain ⟨_, h⟩ := s.linesWritten_eq o n w; rw [h]
@[simp] theorem State.linesWritten_mem (o n : Nat) (w : Nat → Bool) : (s.linesWritten o n w).mem = s.mem := by obtain ⟨_, h⟩ := s.linesWritten_eq o n w; rw [h]
@[simp] theorem State.linesWritten_hostOut (o n : Nat) (w : Nat → Bool) : (s.linesWritten o n w).hostOut = s.hostOut := by obtain ⟨_, h⟩ := s.linesWritten_eq o n w; rw [h]
@[simp] theorem State.linesWritten_hostHeld (o n : Nat) (w : Nat → Bool) : (s.linesWritten o n w).hostHeld = s.hostHeld := by obtain ⟨_, h⟩ := s.linesWritten_eq o n w; rw [h]
@[simp] theorem State.linesWritten_irqOut (o n : Nat) (w : Nat → Bool) : (s.linesWritten o n w).irqOut = s.irqOut := by obtain ⟨_, h⟩ := s.linesWritten_eq o n w; rw [h]
@[simp] theorem State.linesWritten_readOut (o n : Nat) (w : Nat → Bool) : (s.linesWritten o n w).readOut = s.readOut := by obtain ⟨_, h⟩ := s.linesWritten_eq o n w; rw [h]
@[simp] theorem State.linesWritten_free (o n : Nat) (w : Nat → Bool) : (s.linesWritten o n w).free = s.free := by obtain ⟨_, h⟩ := s.linesWritten_eq o n w; rw [h]

@[simp] theorem State.extStore_pending (o : Nat) (bs : List Byte) : (s.extStore o bs).pending = s.pending := rfl
@[simp] theorem State.extStore_regs (o : Nat) (bs : List Byte) : (s.extStore o bs).regs = s.regs := rfl
@[simp] theorem State.extStore_tick (o : Nat) (bs : List Byte) : (s.extStore o bs).tick = s.tick := rfl
@[simp] theorem State.extStore_timers (o : Nat) (bs : List Byte) : (s.extStore o bs).timers = s.timers := rfl
@[simp] theorem State.extStore_tb (o : Nat) (bs : List Byte) : (s.extStore o bs).tb = s.tb := rfl
@[simp] theorem State.extStore_pw (o : Nat) (bs : List Byte) : (s.extStore o bs).pw = s.pw := rfl
@[simp] theorem State.extStore_jtag (o : Nat) (bs : List Byte) : (s.extStore o bs).jtag = s.jtag := rfl
@[simp] theorem State.extStore_xing (o : Nat) (bs : List Byte) : (s.extStore o bs).xing = s.xing := rfl
@[simp] theorem State.extStore_hq (o : Nat) (bs : List Byte) : (s.extStore o bs).hq = s.hq := rfl
@[simp] theorem State.extStore_acq (o : Nat) (bs : List Byte) : (s.extStore o bs).acq = s.acq := rfl
@[simp] theorem State.extStore_rx (o : Nat) (bs : List Byte) : (s.extStore o bs).rx = s.rx := rfl
@[simp] theorem State.extStore_ph (o : Nat) (bs : List Byte) : (s.extStore o bs).ph = s.ph := rfl
@[simp] theorem State.extStore_red (o : Nat) (bs : List Byte) : (s.extStore o bs).red = s.red := rfl
@[simp] theorem State.extStore_slm (o : Nat) (bs : List Byte) : (s.extStore o bs).slm = s.slm := rfl
@[simp] theorem State.extStore_dts (o : Nat) (bs : List Byte) : (s.extStore o bs).dts = s.dts := rfl
@[simp] theorem State.extStore_sad (o : Nat) (bs : List Byte) : (s.extStore o bs).sad = s.sad := rfl
@[simp] theorem State.extStore_src (o : Nat) (bs : List Byte) : (s.extStore o bs).src = s.src := rfl
@[simp] theorem State.extStore_tiu (o : Nat) (bs : List Byte) : (s.extStore o bs).tiu = s.tiu := rfl
@[simp] theorem State.extStore_pat (o : Nat) (bs : List Byte) : (s.extStore o bs).pat = s.pat := rfl
@[simp] theorem State.extStore_chk (o : Nat) (bs : List Byte) : (s.extStore o bs).chk = s.chk := rfl
@[simp] theorem State.extStore_pnl (o : Nat) (bs : List Byte) : (s.extStore o bs).pnl = s.pnl := rfl
@[simp] theorem State.extStore_cal (o : Nat) (bs : List Byte) : (s.extStore o bs).cal = s.cal := rfl
@[simp] theorem State.extStore_grm (o : Nat) (bs : List Byte) : (s.extStore o bs).grm = s.grm := rfl
@[simp] theorem State.extStore_rdg (o : Nat) (bs : List Byte) : (s.extStore o bs).rdg = s.rdg := rfl
@[simp] theorem State.extStore_crn (o : Nat) (bs : List Byte) : (s.extStore o bs).crn = s.crn := rfl
@[simp] theorem State.extStore_vb (o : Nat) (bs : List Byte) : (s.extStore o bs).vb = s.vb := rfl
@[simp] theorem State.extStore_sum (o : Nat) (bs : List Byte) : (s.extStore o bs).sum = s.sum := rfl
@[simp] theorem State.extStore_log (o : Nat) (bs : List Byte) : (s.extStore o bs).log = s.log := rfl
@[simp] theorem State.extStore_pulses (o : Nat) (bs : List Byte) : (s.extStore o bs).pulses = s.pulses := rfl
@[simp] theorem State.extStore_evtPrev (o : Nat) (bs : List Byte) : (s.extStore o bs).evtPrev = s.evtPrev := rfl
@[simp] theorem State.extStore_pins (o : Nat) (bs : List Byte) : (s.extStore o bs).pins = s.pins := rfl
@[simp] theorem State.extStore_hostOut (o : Nat) (bs : List Byte) : (s.extStore o bs).hostOut = s.hostOut := rfl
@[simp] theorem State.extStore_hostHeld (o : Nat) (bs : List Byte) : (s.extStore o bs).hostHeld = s.hostHeld := rfl
@[simp] theorem State.extStore_irqOut (o : Nat) (bs : List Byte) : (s.extStore o bs).irqOut = s.irqOut := rfl
@[simp] theorem State.extStore_readOut (o : Nat) (bs : List Byte) : (s.extStore o bs).readOut = s.readOut := rfl
@[simp] theorem State.extStore_free (o : Nat) (bs : List Byte) : (s.extStore o bs).free = s.free := rfl

@[simp] theorem State.extPut_pending (o : Nat) (bs : List Byte) : (s.extPut o bs).pending = s.pending := by simp [State.extPut]
@[simp] theorem State.extPut_tick (o : Nat) (bs : List Byte) : (s.extPut o bs).tick = s.tick := by simp [State.extPut]
@[simp] theorem State.extPut_timers (o : Nat) (bs : List Byte) : (s.extPut o bs).timers = s.timers := by simp [State.extPut]
@[simp] theorem State.extPut_tb (o : Nat) (bs : List Byte) : (s.extPut o bs).tb = s.tb := by simp [State.extPut]
@[simp] theorem State.extPut_pw (o : Nat) (bs : List Byte) : (s.extPut o bs).pw = s.pw := by simp [State.extPut]
@[simp] theorem State.extPut_jtag (o : Nat) (bs : List Byte) : (s.extPut o bs).jtag = s.jtag := by simp [State.extPut]
@[simp] theorem State.extPut_xing (o : Nat) (bs : List Byte) : (s.extPut o bs).xing = s.xing := by simp [State.extPut]
@[simp] theorem State.extPut_hq (o : Nat) (bs : List Byte) : (s.extPut o bs).hq = s.hq := by simp [State.extPut]
@[simp] theorem State.extPut_acq (o : Nat) (bs : List Byte) : (s.extPut o bs).acq = s.acq := by simp [State.extPut]
@[simp] theorem State.extPut_rx (o : Nat) (bs : List Byte) : (s.extPut o bs).rx = s.rx := by simp [State.extPut]
@[simp] theorem State.extPut_ph (o : Nat) (bs : List Byte) : (s.extPut o bs).ph = s.ph := by simp [State.extPut]
@[simp] theorem State.extPut_red (o : Nat) (bs : List Byte) : (s.extPut o bs).red = s.red := by simp [State.extPut]
@[simp] theorem State.extPut_slm (o : Nat) (bs : List Byte) : (s.extPut o bs).slm = s.slm := by simp [State.extPut]
@[simp] theorem State.extPut_dts (o : Nat) (bs : List Byte) : (s.extPut o bs).dts = s.dts := by simp [State.extPut]
@[simp] theorem State.extPut_sad (o : Nat) (bs : List Byte) : (s.extPut o bs).sad = s.sad := by simp [State.extPut]
@[simp] theorem State.extPut_src (o : Nat) (bs : List Byte) : (s.extPut o bs).src = s.src := by simp [State.extPut]
@[simp] theorem State.extPut_tiu (o : Nat) (bs : List Byte) : (s.extPut o bs).tiu = s.tiu := by simp [State.extPut]
@[simp] theorem State.extPut_pat (o : Nat) (bs : List Byte) : (s.extPut o bs).pat = s.pat := by simp [State.extPut]
@[simp] theorem State.extPut_chk (o : Nat) (bs : List Byte) : (s.extPut o bs).chk = s.chk := by simp [State.extPut]
@[simp] theorem State.extPut_pnl (o : Nat) (bs : List Byte) : (s.extPut o bs).pnl = s.pnl := by simp [State.extPut]
@[simp] theorem State.extPut_cal (o : Nat) (bs : List Byte) : (s.extPut o bs).cal = s.cal := by simp [State.extPut]
@[simp] theorem State.extPut_grm (o : Nat) (bs : List Byte) : (s.extPut o bs).grm = s.grm := by simp [State.extPut]
@[simp] theorem State.extPut_rdg (o : Nat) (bs : List Byte) : (s.extPut o bs).rdg = s.rdg := by simp [State.extPut]
@[simp] theorem State.extPut_crn (o : Nat) (bs : List Byte) : (s.extPut o bs).crn = s.crn := by simp [State.extPut]
@[simp] theorem State.extPut_vb (o : Nat) (bs : List Byte) : (s.extPut o bs).vb = s.vb := by simp [State.extPut]
@[simp] theorem State.extPut_sum (o : Nat) (bs : List Byte) : (s.extPut o bs).sum = s.sum := by simp [State.extPut]
@[simp] theorem State.extPut_log (o : Nat) (bs : List Byte) : (s.extPut o bs).log = s.log := by simp [State.extPut]
@[simp] theorem State.extPut_pulses (o : Nat) (bs : List Byte) : (s.extPut o bs).pulses = s.pulses := by simp [State.extPut]
@[simp] theorem State.extPut_evtPrev (o : Nat) (bs : List Byte) : (s.extPut o bs).evtPrev = s.evtPrev := by simp [State.extPut]
@[simp] theorem State.extPut_pins (o : Nat) (bs : List Byte) : (s.extPut o bs).pins = s.pins := by simp [State.extPut]
@[simp] theorem State.extPut_hostOut (o : Nat) (bs : List Byte) : (s.extPut o bs).hostOut = s.hostOut := by simp [State.extPut]
@[simp] theorem State.extPut_hostHeld (o : Nat) (bs : List Byte) : (s.extPut o bs).hostHeld = s.hostHeld := by simp [State.extPut]
@[simp] theorem State.extPut_irqOut (o : Nat) (bs : List Byte) : (s.extPut o bs).irqOut = s.irqOut := by simp [State.extPut]
@[simp] theorem State.extPut_readOut (o : Nat) (bs : List Byte) : (s.extPut o bs).readOut = s.readOut := by simp [State.extPut]
@[simp] theorem State.extPut_free (o : Nat) (bs : List Byte) : (s.extPut o bs).free = s.free := by simp [State.extPut]

@[simp] theorem State.intPut_pending (a : Nat) (bs : List Byte) : (s.intPut a bs).pending = s.pending := by unfold State.intPut; (repeat' split) <;> first | rfl | simp
@[simp] theorem State.intPut_tick (a : Nat) (bs : List Byte) : (s.intPut a bs).tick = s.tick := by unfold State.intPut; (repeat' split) <;> first | rfl | simp
@[simp] theorem State.intPut_timers (a : Nat) (bs : List Byte) : (s.intPut a bs).timers = s.timers := by unfold State.intPut; (repeat' split) <;> first | rfl | simp
@[simp] theorem State.intPut_tb (a : Nat) (bs : List Byte) : (s.intPut a bs).tb = s.tb := by unfold State.intPut; (repeat' split) <;> first | rfl | simp
@[simp] theorem State.intPut_pw (a : Nat) (bs : List Byte) : (s.intPut a bs).pw = s.pw := by unfold State.intPut; (repeat' split) <;> first | rfl | simp
@[simp] theorem State.intPut_jtag (a : Nat) (bs : List Byte) : (s.intPut a bs).jtag = s.jtag := by unfold State.intPut; (repeat' split) <;> first | rfl | simp
@[simp] theorem State.intPut_xing (a : Nat) (bs : List Byte) : (s.intPut a bs).xing = s.xing := by unfold State.intPut; (repeat' split) <;> first | rfl | simp
@[simp] theorem State.intPut_hq (a : Nat) (bs : List Byte) : (s.intPut a bs).hq = s.hq := by unfold State.intPut; (repeat' split) <;> first | rfl | simp
@[simp] theorem State.intPut_acq (a : Nat) (bs : List Byte) : (s.intPut a bs).acq = s.acq := by unfold State.intPut; (repeat' split) <;> first | rfl | simp
@[simp] theorem State.intPut_rx (a : Nat) (bs : List Byte) : (s.intPut a bs).rx = s.rx := by unfold State.intPut; (repeat' split) <;> first | rfl | simp
@[simp] theorem State.intPut_ph (a : Nat) (bs : List Byte) : (s.intPut a bs).ph = s.ph := by unfold State.intPut; (repeat' split) <;> first | rfl | simp
@[simp] theorem State.intPut_red (a : Nat) (bs : List Byte) : (s.intPut a bs).red = s.red := by unfold State.intPut; (repeat' split) <;> first | rfl | simp
@[simp] theorem State.intPut_slm (a : Nat) (bs : List Byte) : (s.intPut a bs).slm = s.slm := by unfold State.intPut; (repeat' split) <;> first | rfl | simp
@[simp] theorem State.intPut_dts (a : Nat) (bs : List Byte) : (s.intPut a bs).dts = s.dts := by unfold State.intPut; (repeat' split) <;> first | rfl | simp
@[simp] theorem State.intPut_sad (a : Nat) (bs : List Byte) : (s.intPut a bs).sad = s.sad := by unfold State.intPut; (repeat' split) <;> first | rfl | simp
@[simp] theorem State.intPut_src (a : Nat) (bs : List Byte) : (s.intPut a bs).src = s.src := by unfold State.intPut; (repeat' split) <;> first | rfl | simp
@[simp] theorem State.intPut_tiu (a : Nat) (bs : List Byte) : (s.intPut a bs).tiu = s.tiu := by unfold State.intPut; (repeat' split) <;> first | rfl | simp
@[simp] theorem State.intPut_pat (a : Nat) (bs : List Byte) : (s.intPut a bs).pat = s.pat := by unfold State.intPut; (repeat' split) <;> first | rfl | simp
@[simp] theorem State.intPut_chk (a : Nat) (bs : List Byte) : (s.intPut a bs).chk = s.chk := by unfold State.intPut; (repeat' split) <;> first | rfl | simp
@[simp] theorem State.intPut_pnl (a : Nat) (bs : List Byte) : (s.intPut a bs).pnl = s.pnl := by unfold State.intPut; (repeat' split) <;> first | rfl | simp
@[simp] theorem State.intPut_cal (a : Nat) (bs : List Byte) : (s.intPut a bs).cal = s.cal := by unfold State.intPut; (repeat' split) <;> first | rfl | simp
@[simp] theorem State.intPut_grm (a : Nat) (bs : List Byte) : (s.intPut a bs).grm = s.grm := by unfold State.intPut; (repeat' split) <;> first | rfl | simp
@[simp] theorem State.intPut_rdg (a : Nat) (bs : List Byte) : (s.intPut a bs).rdg = s.rdg := by unfold State.intPut; (repeat' split) <;> first | rfl | simp
@[simp] theorem State.intPut_crn (a : Nat) (bs : List Byte) : (s.intPut a bs).crn = s.crn := by unfold State.intPut; (repeat' split) <;> first | rfl | simp
@[simp] theorem State.intPut_vb (a : Nat) (bs : List Byte) : (s.intPut a bs).vb = s.vb := by unfold State.intPut; (repeat' split) <;> first | rfl | simp
@[simp] theorem State.intPut_sum (a : Nat) (bs : List Byte) : (s.intPut a bs).sum = s.sum := by unfold State.intPut; (repeat' split) <;> first | rfl | simp
@[simp] theorem State.intPut_log (a : Nat) (bs : List Byte) : (s.intPut a bs).log = s.log := by unfold State.intPut; (repeat' split) <;> first | rfl | simp
@[simp] theorem State.intPut_pulses (a : Nat) (bs : List Byte) : (s.intPut a bs).pulses = s.pulses := by unfold State.intPut; (repeat' split) <;> first | rfl | simp
@[simp] theorem State.intPut_evtPrev (a : Nat) (bs : List Byte) : (s.intPut a bs).evtPrev = s.evtPrev := by unfold State.intPut; (repeat' split) <;> first | rfl | simp
@[simp] theorem State.intPut_pins (a : Nat) (bs : List Byte) : (s.intPut a bs).pins = s.pins := by unfold State.intPut; (repeat' split) <;> first | rfl | simp
@[simp] theorem State.intPut_hostOut (a : Nat) (bs : List Byte) : (s.intPut a bs).hostOut = s.hostOut := by unfold State.intPut; (repeat' split) <;> first | rfl | simp
@[simp] theorem State.intPut_hostHeld (a : Nat) (bs : List Byte) : (s.intPut a bs).hostHeld = s.hostHeld := by unfold State.intPut; (repeat' split) <;> first | rfl | simp
@[simp] theorem State.intPut_irqOut (a : Nat) (bs : List Byte) : (s.intPut a bs).irqOut = s.irqOut := by unfold State.intPut; (repeat' split) <;> first | rfl | simp
@[simp] theorem State.intPut_readOut (a : Nat) (bs : List Byte) : (s.intPut a bs).readOut = s.readOut := by unfold State.intPut; (repeat' split) <;> first | rfl | simp
@[simp] theorem State.intPut_free (a : Nat) (bs : List Byte) : (s.intPut a bs).free = s.free := by unfold State.intPut; (repeat' split) <;> first | rfl | simp

@[simp] theorem State.hostPutRo_pending (ro : Bool) (a : Nat) (bs : List Byte) : (s.hostPutRo ro a bs).pending = s.pending := by unfold State.hostPutRo; split <;> [simp; split <;> rfl]
@[simp] theorem State.hostPutRo_tick (ro : Bool) (a : Nat) (bs : List Byte) : (s.hostPutRo ro a bs).tick = s.tick := by unfold State.hostPutRo; split <;> [simp; split <;> rfl]
@[simp] theorem State.hostPutRo_timers (ro : Bool) (a : Nat) (bs : List Byte) : (s.hostPutRo ro a bs).timers = s.timers := by unfold State.hostPutRo; split <;> [simp; split <;> rfl]
@[simp] theorem State.hostPutRo_tb (ro : Bool) (a : Nat) (bs : List Byte) : (s.hostPutRo ro a bs).tb = s.tb := by unfold State.hostPutRo; split <;> [simp; split <;> rfl]
@[simp] theorem State.hostPutRo_pw (ro : Bool) (a : Nat) (bs : List Byte) : (s.hostPutRo ro a bs).pw = s.pw := by unfold State.hostPutRo; split <;> [simp; split <;> rfl]
@[simp] theorem State.hostPutRo_jtag (ro : Bool) (a : Nat) (bs : List Byte) : (s.hostPutRo ro a bs).jtag = s.jtag := by unfold State.hostPutRo; split <;> [simp; split <;> rfl]
@[simp] theorem State.hostPutRo_xing (ro : Bool) (a : Nat) (bs : List Byte) : (s.hostPutRo ro a bs).xing = s.xing := by unfold State.hostPutRo; split <;> [simp; split <;> rfl]
@[simp] theorem State.hostPutRo_hq (ro : Bool) (a : Nat) (bs : List Byte) : (s.hostPutRo ro a bs).hq = s.hq := by unfold State.hostPutRo; split <;> [simp; split <;> rfl]
@[simp] theorem State.hostPutRo_acq (ro : Bool) (a : Nat) (bs : List Byte) : (s.hostPutRo ro a bs).acq = s.acq := by unfold State.hostPutRo; split <;> [simp; split <;> rfl]
@[simp] theorem State.hostPutRo_rx (ro : Bool) (a : Nat) (bs : List Byte) : (s.hostPutRo ro a bs).rx = s.rx := by unfold State.hostPutRo; split <;> [simp; split <;> rfl]
@[simp] theorem State.hostPutRo_ph (ro : Bool) (a : Nat) (bs : List Byte) : (s.hostPutRo ro a bs).ph = s.ph := by unfold State.hostPutRo; split <;> [simp; split <;> rfl]
@[simp] theorem State.hostPutRo_red (ro : Bool) (a : Nat) (bs : List Byte) : (s.hostPutRo ro a bs).red = s.red := by unfold State.hostPutRo; split <;> [simp; split <;> rfl]
@[simp] theorem State.hostPutRo_slm (ro : Bool) (a : Nat) (bs : List Byte) : (s.hostPutRo ro a bs).slm = s.slm := by unfold State.hostPutRo; split <;> [simp; split <;> rfl]
@[simp] theorem State.hostPutRo_dts (ro : Bool) (a : Nat) (bs : List Byte) : (s.hostPutRo ro a bs).dts = s.dts := by unfold State.hostPutRo; split <;> [simp; split <;> rfl]
@[simp] theorem State.hostPutRo_sad (ro : Bool) (a : Nat) (bs : List Byte) : (s.hostPutRo ro a bs).sad = s.sad := by unfold State.hostPutRo; split <;> [simp; split <;> rfl]
@[simp] theorem State.hostPutRo_src (ro : Bool) (a : Nat) (bs : List Byte) : (s.hostPutRo ro a bs).src = s.src := by unfold State.hostPutRo; split <;> [simp; split <;> rfl]
@[simp] theorem State.hostPutRo_tiu (ro : Bool) (a : Nat) (bs : List Byte) : (s.hostPutRo ro a bs).tiu = s.tiu := by unfold State.hostPutRo; split <;> [simp; split <;> rfl]
@[simp] theorem State.hostPutRo_pat (ro : Bool) (a : Nat) (bs : List Byte) : (s.hostPutRo ro a bs).pat = s.pat := by unfold State.hostPutRo; split <;> [simp; split <;> rfl]
@[simp] theorem State.hostPutRo_chk (ro : Bool) (a : Nat) (bs : List Byte) : (s.hostPutRo ro a bs).chk = s.chk := by unfold State.hostPutRo; split <;> [simp; split <;> rfl]
@[simp] theorem State.hostPutRo_pnl (ro : Bool) (a : Nat) (bs : List Byte) : (s.hostPutRo ro a bs).pnl = s.pnl := by unfold State.hostPutRo; split <;> [simp; split <;> rfl]
@[simp] theorem State.hostPutRo_cal (ro : Bool) (a : Nat) (bs : List Byte) : (s.hostPutRo ro a bs).cal = s.cal := by unfold State.hostPutRo; split <;> [simp; split <;> rfl]
@[simp] theorem State.hostPutRo_grm (ro : Bool) (a : Nat) (bs : List Byte) : (s.hostPutRo ro a bs).grm = s.grm := by unfold State.hostPutRo; split <;> [simp; split <;> rfl]
@[simp] theorem State.hostPutRo_rdg (ro : Bool) (a : Nat) (bs : List Byte) : (s.hostPutRo ro a bs).rdg = s.rdg := by unfold State.hostPutRo; split <;> [simp; split <;> rfl]
@[simp] theorem State.hostPutRo_crn (ro : Bool) (a : Nat) (bs : List Byte) : (s.hostPutRo ro a bs).crn = s.crn := by unfold State.hostPutRo; split <;> [simp; split <;> rfl]
@[simp] theorem State.hostPutRo_vb (ro : Bool) (a : Nat) (bs : List Byte) : (s.hostPutRo ro a bs).vb = s.vb := by unfold State.hostPutRo; split <;> [simp; split <;> rfl]
@[simp] theorem State.hostPutRo_sum (ro : Bool) (a : Nat) (bs : List Byte) : (s.hostPutRo ro a bs).sum = s.sum := by unfold State.hostPutRo; split <;> [simp; split <;> rfl]
@[simp] theorem State.hostPutRo_log (ro : Bool) (a : Nat) (bs : List Byte) : (s.hostPutRo ro a bs).log = s.log := by unfold State.hostPutRo; split <;> [simp; split <;> rfl]
@[simp] theorem State.hostPutRo_pulses (ro : Bool) (a : Nat) (bs : List Byte) : (s.hostPutRo ro a bs).pulses = s.pulses := by unfold State.hostPutRo; split <;> [simp; split <;> rfl]
@[simp] theorem State.hostPutRo_evtPrev (ro : Bool) (a : Nat) (bs : List Byte) : (s.hostPutRo ro a bs).evtPrev = s.evtPrev := by unfold State.hostPutRo; split <;> [simp; split <;> rfl]
@[simp] theorem State.hostPutRo_pins (ro : Bool) (a : Nat) (bs : List Byte) : (s.hostPutRo ro a bs).pins = s.pins := by unfold State.hostPutRo; split <;> [simp; split <;> rfl]
@[simp] theorem State.hostPutRo_hostHeld (ro : Bool) (a : Nat) (bs : List Byte) : (s.hostPutRo ro a bs).hostHeld = s.hostHeld := by unfold State.hostPutRo; split <;> [simp; split <;> rfl]
@[simp] theorem State.hostPutRo_irqOut (ro : Bool) (a : Nat) (bs : List Byte) : (s.hostPutRo ro a bs).irqOut = s.irqOut := by unfold State.hostPutRo; split <;> [simp; split <;> rfl]
@[simp] theorem State.hostPutRo_readOut (ro : Bool) (a : Nat) (bs : List Byte) : (s.hostPutRo ro a bs).readOut = s.readOut := by unfold State.hostPutRo; split <;> [simp; split <;> rfl]
@[simp] theorem State.hostPutRo_free (ro : Bool) (a : Nat) (bs : List Byte) : (s.hostPutRo ro a bs).free = s.free := by unfold State.hostPutRo; split <;> [simp; split <;> rfl]

@[simp] theorem State.hostPut_pending (a : Nat) (bs : List Byte) : (s.hostPut a bs).pending = s.pending := by simp [State.hostPut]
@[simp] theorem State.hostPut_tick (a : Nat) (bs : List Byte) : (s.hostPut a bs).tick = s.tick := by simp [State.hostPut]
@[simp] theorem State.hostPut_timers (a : Nat) (bs : List Byte) : (s.hostPut a bs).timers = s.timers := by simp [State.hostPut]
@[simp] theorem State.hostPut_tb (a : Nat) (bs : List Byte) : (s.hostPut a bs).tb = s.tb := by simp [State.hostPut]
@[simp] theorem State.hostPut_pw (a : Nat) (bs : List Byte) : (s.hostPut a bs).pw = s.pw := by simp [State.hostPut]
@[simp] theorem State.hostPut_jtag (a : Nat) (bs : List Byte) : (s.hostPut a bs).jtag = s.jtag := by simp [State.hostPut]
@[simp] theorem State.hostPut_xing (a : Nat) (bs : List Byte) : (s.hostPut a bs).xing = s.xing := by simp [State.hostPut]
@[simp] theorem State.hostPut_hq (a : Nat) (bs : List Byte) : (s.hostPut a bs).hq = s.hq := by simp [State.hostPut]
@[simp] theorem State.hostPut_acq (a : Nat) (bs : List Byte) : (s.hostPut a bs).acq = s.acq := by simp [State.hostPut]
@[simp] theorem State.hostPut_rx (a : Nat) (bs : List Byte) : (s.hostPut a bs).rx = s.rx := by simp [State.hostPut]
@[simp] theorem State.hostPut_ph (a : Nat) (bs : List Byte) : (s.hostPut a bs).ph = s.ph := by simp [State.hostPut]
@[simp] theorem State.hostPut_red (a : Nat) (bs : List Byte) : (s.hostPut a bs).red = s.red := by simp [State.hostPut]
@[simp] theorem State.hostPut_slm (a : Nat) (bs : List Byte) : (s.hostPut a bs).slm = s.slm := by simp [State.hostPut]
@[simp] theorem State.hostPut_dts (a : Nat) (bs : List Byte) : (s.hostPut a bs).dts = s.dts := by simp [State.hostPut]
@[simp] theorem State.hostPut_sad (a : Nat) (bs : List Byte) : (s.hostPut a bs).sad = s.sad := by simp [State.hostPut]
@[simp] theorem State.hostPut_src (a : Nat) (bs : List Byte) : (s.hostPut a bs).src = s.src := by simp [State.hostPut]
@[simp] theorem State.hostPut_tiu (a : Nat) (bs : List Byte) : (s.hostPut a bs).tiu = s.tiu := by simp [State.hostPut]
@[simp] theorem State.hostPut_pat (a : Nat) (bs : List Byte) : (s.hostPut a bs).pat = s.pat := by simp [State.hostPut]
@[simp] theorem State.hostPut_chk (a : Nat) (bs : List Byte) : (s.hostPut a bs).chk = s.chk := by simp [State.hostPut]
@[simp] theorem State.hostPut_pnl (a : Nat) (bs : List Byte) : (s.hostPut a bs).pnl = s.pnl := by simp [State.hostPut]
@[simp] theorem State.hostPut_cal (a : Nat) (bs : List Byte) : (s.hostPut a bs).cal = s.cal := by simp [State.hostPut]
@[simp] theorem State.hostPut_grm (a : Nat) (bs : List Byte) : (s.hostPut a bs).grm = s.grm := by simp [State.hostPut]
@[simp] theorem State.hostPut_rdg (a : Nat) (bs : List Byte) : (s.hostPut a bs).rdg = s.rdg := by simp [State.hostPut]
@[simp] theorem State.hostPut_crn (a : Nat) (bs : List Byte) : (s.hostPut a bs).crn = s.crn := by simp [State.hostPut]
@[simp] theorem State.hostPut_vb (a : Nat) (bs : List Byte) : (s.hostPut a bs).vb = s.vb := by simp [State.hostPut]
@[simp] theorem State.hostPut_sum (a : Nat) (bs : List Byte) : (s.hostPut a bs).sum = s.sum := by simp [State.hostPut]
@[simp] theorem State.hostPut_log (a : Nat) (bs : List Byte) : (s.hostPut a bs).log = s.log := by simp [State.hostPut]
@[simp] theorem State.hostPut_pulses (a : Nat) (bs : List Byte) : (s.hostPut a bs).pulses = s.pulses := by simp [State.hostPut]
@[simp] theorem State.hostPut_evtPrev (a : Nat) (bs : List Byte) : (s.hostPut a bs).evtPrev = s.evtPrev := by simp [State.hostPut]
@[simp] theorem State.hostPut_pins (a : Nat) (bs : List Byte) : (s.hostPut a bs).pins = s.pins := by simp [State.hostPut]
@[simp] theorem State.hostPut_hostHeld (a : Nat) (bs : List Byte) : (s.hostPut a bs).hostHeld = s.hostHeld := by simp [State.hostPut]
@[simp] theorem State.hostPut_irqOut (a : Nat) (bs : List Byte) : (s.hostPut a bs).irqOut = s.irqOut := by simp [State.hostPut]
@[simp] theorem State.hostPut_readOut (a : Nat) (bs : List Byte) : (s.hostPut a bs).readOut = s.readOut := by simp [State.hostPut]
@[simp] theorem State.hostPut_free (a : Nat) (bs : List Byte) : (s.hostPut a bs).free = s.free := by simp [State.hostPut]

@[simp] theorem State.dataPut_pending (e a : Nat) (bs : List Byte) : (s.dataPut e a bs).pending = s.pending := by unfold State.dataPut; split <;> simp
@[simp] theorem State.dataPut_tick (e a : Nat) (bs : List Byte) : (s.dataPut e a bs).tick = s.tick := by unfold State.dataPut; split <;> simp
@[simp] theorem State.dataPut_timers (e a : Nat) (bs : List Byte) : (s.dataPut e a bs).timers = s.timers := by unfold State.dataPut; split <;> simp
@[simp] theorem State.dataPut_tb (e a : Nat) (bs : List Byte) : (s.dataPut e a bs).tb = s.tb := by unfold State.dataPut; split <;> simp
@[simp] theorem State.dataPut_pw (e a : Nat) (bs : List Byte) : (s.dataPut e a bs).pw = s.pw := by unfold State.dataPut; split <;> simp
@[simp] theorem State.dataPut_jtag (e a : Nat) (bs : List Byte) : (s.dataPut e a bs).jtag = s.jtag := by unfold State.dataPut; split <;> simp
@[simp] theorem State.dataPut_xing (e a : Nat) (bs : List Byte) : (s.dataPut e a bs).xing = s.xing := by unfold State.dataPut; split <;> simp
@[simp] theorem State.dataPut_hq (e a : Nat) (bs : List Byte) : (s.dataPut e a bs).hq = s.hq := by unfold State.dataPut; split <;> simp
@[simp] theorem State.dataPut_acq (e a : Nat) (bs : List Byte) : (s.dataPut e a bs).acq = s.acq := by unfold State.dataPut; split <;> simp
@[simp] theorem State.dataPut_rx (e a : Nat) (bs : List Byte) : (s.dataPut e a bs).rx = s.rx := by unfold State.dataPut; split <;> simp
@[simp] theorem State.dataPut_ph (e a : Nat) (bs : List Byte) : (s.dataPut e a bs).ph = s.ph := by unfold State.dataPut; split <;> simp
@[simp] theorem State.dataPut_red (e a : Nat) (bs : List Byte) : (s.dataPut e a bs).red = s.red := by unfold State.dataPut; split <;> simp
@[simp] theorem State.dataPut_slm (e a : Nat) (bs : List Byte) : (s.dataPut e a bs).slm = s.slm := by unfold State.dataPut; split <;> simp
@[simp] theorem State.dataPut_dts (e a : Nat) (bs : List Byte) : (s.dataPut e a bs).dts = s.dts := by unfold State.dataPut; split <;> simp
@[simp] theorem State.dataPut_sad (e a : Nat) (bs : List Byte) : (s.dataPut e a bs).sad = s.sad := by unfold State.dataPut; split <;> simp
@[simp] theorem State.dataPut_src (e a : Nat) (bs : List Byte) : (s.dataPut e a bs).src = s.src := by unfold State.dataPut; split <;> simp
@[simp] theorem State.dataPut_tiu (e a : Nat) (bs : List Byte) : (s.dataPut e a bs).tiu = s.tiu := by unfold State.dataPut; split <;> simp
@[simp] theorem State.dataPut_pat (e a : Nat) (bs : List Byte) : (s.dataPut e a bs).pat = s.pat := by unfold State.dataPut; split <;> simp
@[simp] theorem State.dataPut_chk (e a : Nat) (bs : List Byte) : (s.dataPut e a bs).chk = s.chk := by unfold State.dataPut; split <;> simp
@[simp] theorem State.dataPut_pnl (e a : Nat) (bs : List Byte) : (s.dataPut e a bs).pnl = s.pnl := by unfold State.dataPut; split <;> simp
@[simp] theorem State.dataPut_cal (e a : Nat) (bs : List Byte) : (s.dataPut e a bs).cal = s.cal := by unfold State.dataPut; split <;> simp
@[simp] theorem State.dataPut_grm (e a : Nat) (bs : List Byte) : (s.dataPut e a bs).grm = s.grm := by unfold State.dataPut; split <;> simp
@[simp] theorem State.dataPut_rdg (e a : Nat) (bs : List Byte) : (s.dataPut e a bs).rdg = s.rdg := by unfold State.dataPut; split <;> simp
@[simp] theorem State.dataPut_crn (e a : Nat) (bs : List Byte) : (s.dataPut e a bs).crn = s.crn := by unfold State.dataPut; split <;> simp
@[simp] theorem State.dataPut_vb (e a : Nat) (bs : List Byte) : (s.dataPut e a bs).vb = s.vb := by unfold State.dataPut; split <;> simp
@[simp] theorem State.dataPut_sum (e a : Nat) (bs : List Byte) : (s.dataPut e a bs).sum = s.sum := by unfold State.dataPut; split <;> simp
@[simp] theorem State.dataPut_log (e a : Nat) (bs : List Byte) : (s.dataPut e a bs).log = s.log := by unfold State.dataPut; split <;> simp
@[simp] theorem State.dataPut_pulses (e a : Nat) (bs : List Byte) : (s.dataPut e a bs).pulses = s.pulses := by unfold State.dataPut; split <;> simp
@[simp] theorem State.dataPut_evtPrev (e a : Nat) (bs : List Byte) : (s.dataPut e a bs).evtPrev = s.evtPrev := by unfold State.dataPut; split <;> simp
@[simp] theorem State.dataPut_pins (e a : Nat) (bs : List Byte) : (s.dataPut e a bs).pins = s.pins := by unfold State.dataPut; split <;> simp
@[simp] theorem State.dataPut_irqOut (e a : Nat) (bs : List Byte) : (s.dataPut e a bs).irqOut = s.irqOut := by unfold State.dataPut; split <;> simp
@[simp] theorem State.dataPut_readOut (e a : Nat) (bs : List Byte) : (s.dataPut e a bs).readOut = s.readOut := by unfold State.dataPut; split <;> simp
@[simp] theorem State.dataPut_free (e a : Nat) (bs : List Byte) : (s.dataPut e a bs).free = s.free := by unfold State.dataPut; split <;> simp

@[simp] theorem State.freeHandle_pending (h : Nat) : (s.freeHandle h).pending = s.pending := rfl
@[simp] theorem State.freeHandle_tick (h : Nat) : (s.freeHandle h).tick = s.tick := rfl
@[simp] theorem State.freeHandle_timers (h : Nat) : (s.freeHandle h).timers = s.timers := rfl
@[simp] theorem State.freeHandle_tb (h : Nat) : (s.freeHandle h).tb = s.tb := rfl
@[simp] theorem State.freeHandle_pw (h : Nat) : (s.freeHandle h).pw = s.pw := rfl
@[simp] theorem State.freeHandle_jtag (h : Nat) : (s.freeHandle h).jtag = s.jtag := rfl
@[simp] theorem State.freeHandle_xing (h : Nat) : (s.freeHandle h).xing = s.xing := rfl
@[simp] theorem State.freeHandle_acq (h : Nat) : (s.freeHandle h).acq = s.acq := rfl
@[simp] theorem State.freeHandle_rx (h : Nat) : (s.freeHandle h).rx = s.rx := rfl
@[simp] theorem State.freeHandle_ph (h : Nat) : (s.freeHandle h).ph = s.ph := rfl
@[simp] theorem State.freeHandle_red (h : Nat) : (s.freeHandle h).red = s.red := rfl
@[simp] theorem State.freeHandle_slm (h : Nat) : (s.freeHandle h).slm = s.slm := rfl
@[simp] theorem State.freeHandle_dts (h : Nat) : (s.freeHandle h).dts = s.dts := rfl
@[simp] theorem State.freeHandle_sad (h : Nat) : (s.freeHandle h).sad = s.sad := rfl
@[simp] theorem State.freeHandle_src (h : Nat) : (s.freeHandle h).src = s.src := rfl
@[simp] theorem State.freeHandle_tiu (h : Nat) : (s.freeHandle h).tiu = s.tiu := rfl
@[simp] theorem State.freeHandle_pat (h : Nat) : (s.freeHandle h).pat = s.pat := rfl
@[simp] theorem State.freeHandle_chk (h : Nat) : (s.freeHandle h).chk = s.chk := rfl
@[simp] theorem State.freeHandle_pnl (h : Nat) : (s.freeHandle h).pnl = s.pnl := rfl
@[simp] theorem State.freeHandle_cal (h : Nat) : (s.freeHandle h).cal = s.cal := rfl
@[simp] theorem State.freeHandle_grm (h : Nat) : (s.freeHandle h).grm = s.grm := rfl
@[simp] theorem State.freeHandle_rdg (h : Nat) : (s.freeHandle h).rdg = s.rdg := rfl
@[simp] theorem State.freeHandle_mc (h : Nat) : (s.freeHandle h).mc = s.mc := rfl
@[simp] theorem State.freeHandle_crn (h : Nat) : (s.freeHandle h).crn = s.crn := rfl
@[simp] theorem State.freeHandle_vb (h : Nat) : (s.freeHandle h).vb = s.vb := rfl
@[simp] theorem State.freeHandle_sum (h : Nat) : (s.freeHandle h).sum = s.sum := rfl
@[simp] theorem State.freeHandle_log (h : Nat) : (s.freeHandle h).log = s.log := rfl
@[simp] theorem State.freeHandle_pulses (h : Nat) : (s.freeHandle h).pulses = s.pulses := rfl
@[simp] theorem State.freeHandle_evtPrev (h : Nat) : (s.freeHandle h).evtPrev = s.evtPrev := rfl
@[simp] theorem State.freeHandle_pins (h : Nat) : (s.freeHandle h).pins = s.pins := rfl
@[simp] theorem State.freeHandle_mem (h : Nat) : (s.freeHandle h).mem = s.mem := rfl
@[simp] theorem State.freeHandle_hostOut (h : Nat) : (s.freeHandle h).hostOut = s.hostOut := rfl
@[simp] theorem State.freeHandle_hostHeld (h : Nat) : (s.freeHandle h).hostHeld = s.hostHeld := rfl
@[simp] theorem State.freeHandle_irqOut (h : Nat) : (s.freeHandle h).irqOut = s.irqOut := rfl
@[simp] theorem State.freeHandle_readOut (h : Nat) : (s.freeHandle h).readOut = s.readOut := rfl
@[simp] theorem State.freeHandle_free (h : Nat) : (s.freeHandle h).free = s.free := rfl

@[simp] theorem State.ringWrote_pending (n : Nat) (u : Bool) : (s.ringWrote n u).pending = s.pending := by unfold State.ringWrote; dsimp only; (repeat' split) <;> simp
@[simp] theorem State.ringWrote_regs (n : Nat) (u : Bool) : (s.ringWrote n u).regs = s.regs := by unfold State.ringWrote; dsimp only; (repeat' split) <;> simp
@[simp] theorem State.ringWrote_tick (n : Nat) (u : Bool) : (s.ringWrote n u).tick = s.tick := by unfold State.ringWrote; dsimp only; (repeat' split) <;> simp
@[simp] theorem State.ringWrote_tb (n : Nat) (u : Bool) : (s.ringWrote n u).tb = s.tb := by unfold State.ringWrote; dsimp only; (repeat' split) <;> simp
@[simp] theorem State.ringWrote_pw (n : Nat) (u : Bool) : (s.ringWrote n u).pw = s.pw := by unfold State.ringWrote; dsimp only; (repeat' split) <;> simp
@[simp] theorem State.ringWrote_jtag (n : Nat) (u : Bool) : (s.ringWrote n u).jtag = s.jtag := by unfold State.ringWrote; dsimp only; (repeat' split) <;> simp
@[simp] theorem State.ringWrote_xing (n : Nat) (u : Bool) : (s.ringWrote n u).xing = s.xing := by unfold State.ringWrote; dsimp only; (repeat' split) <;> simp
@[simp] theorem State.ringWrote_acq (n : Nat) (u : Bool) : (s.ringWrote n u).acq = s.acq := by unfold State.ringWrote; dsimp only; (repeat' split) <;> simp
@[simp] theorem State.ringWrote_rx (n : Nat) (u : Bool) : (s.ringWrote n u).rx = s.rx := by unfold State.ringWrote; dsimp only; (repeat' split) <;> simp
@[simp] theorem State.ringWrote_ph (n : Nat) (u : Bool) : (s.ringWrote n u).ph = s.ph := by unfold State.ringWrote; dsimp only; (repeat' split) <;> simp
@[simp] theorem State.ringWrote_red (n : Nat) (u : Bool) : (s.ringWrote n u).red = s.red := by unfold State.ringWrote; dsimp only; (repeat' split) <;> simp
@[simp] theorem State.ringWrote_slm (n : Nat) (u : Bool) : (s.ringWrote n u).slm = s.slm := by unfold State.ringWrote; dsimp only; (repeat' split) <;> simp
@[simp] theorem State.ringWrote_dts (n : Nat) (u : Bool) : (s.ringWrote n u).dts = s.dts := by unfold State.ringWrote; dsimp only; (repeat' split) <;> simp
@[simp] theorem State.ringWrote_sad (n : Nat) (u : Bool) : (s.ringWrote n u).sad = s.sad := by unfold State.ringWrote; dsimp only; (repeat' split) <;> simp
@[simp] theorem State.ringWrote_src (n : Nat) (u : Bool) : (s.ringWrote n u).src = s.src := by unfold State.ringWrote; dsimp only; (repeat' split) <;> simp
@[simp] theorem State.ringWrote_tiu (n : Nat) (u : Bool) : (s.ringWrote n u).tiu = s.tiu := by unfold State.ringWrote; dsimp only; (repeat' split) <;> simp
@[simp] theorem State.ringWrote_pat (n : Nat) (u : Bool) : (s.ringWrote n u).pat = s.pat := by unfold State.ringWrote; dsimp only; (repeat' split) <;> simp
@[simp] theorem State.ringWrote_chk (n : Nat) (u : Bool) : (s.ringWrote n u).chk = s.chk := by unfold State.ringWrote; dsimp only; (repeat' split) <;> simp
@[simp] theorem State.ringWrote_pnl (n : Nat) (u : Bool) : (s.ringWrote n u).pnl = s.pnl := by unfold State.ringWrote; dsimp only; (repeat' split) <;> simp
@[simp] theorem State.ringWrote_cal (n : Nat) (u : Bool) : (s.ringWrote n u).cal = s.cal := by unfold State.ringWrote; dsimp only; (repeat' split) <;> simp
@[simp] theorem State.ringWrote_grm (n : Nat) (u : Bool) : (s.ringWrote n u).grm = s.grm := by unfold State.ringWrote; dsimp only; (repeat' split) <;> simp
@[simp] theorem State.ringWrote_rdg (n : Nat) (u : Bool) : (s.ringWrote n u).rdg = s.rdg := by unfold State.ringWrote; dsimp only; (repeat' split) <;> simp
@[simp] theorem State.ringWrote_mc (n : Nat) (u : Bool) : (s.ringWrote n u).mc = s.mc := by unfold State.ringWrote; dsimp only; (repeat' split) <;> simp
@[simp] theorem State.ringWrote_crn (n : Nat) (u : Bool) : (s.ringWrote n u).crn = s.crn := by unfold State.ringWrote; dsimp only; (repeat' split) <;> simp
@[simp] theorem State.ringWrote_vb (n : Nat) (u : Bool) : (s.ringWrote n u).vb = s.vb := by unfold State.ringWrote; dsimp only; (repeat' split) <;> simp
@[simp] theorem State.ringWrote_sum (n : Nat) (u : Bool) : (s.ringWrote n u).sum = s.sum := by unfold State.ringWrote; dsimp only; (repeat' split) <;> simp
@[simp] theorem State.ringWrote_log (n : Nat) (u : Bool) : (s.ringWrote n u).log = s.log := by unfold State.ringWrote; dsimp only; (repeat' split) <;> simp
@[simp] theorem State.ringWrote_pulses (n : Nat) (u : Bool) : (s.ringWrote n u).pulses = s.pulses := by unfold State.ringWrote; dsimp only; (repeat' split) <;> simp
@[simp] theorem State.ringWrote_evtPrev (n : Nat) (u : Bool) : (s.ringWrote n u).evtPrev = s.evtPrev := by unfold State.ringWrote; dsimp only; (repeat' split) <;> simp
@[simp] theorem State.ringWrote_pins (n : Nat) (u : Bool) : (s.ringWrote n u).pins = s.pins := by unfold State.ringWrote; dsimp only; (repeat' split) <;> simp
@[simp] theorem State.ringWrote_mem (n : Nat) (u : Bool) : (s.ringWrote n u).mem = s.mem := by unfold State.ringWrote; dsimp only; (repeat' split) <;> simp
@[simp] theorem State.ringWrote_hostOut (n : Nat) (u : Bool) : (s.ringWrote n u).hostOut = s.hostOut := by unfold State.ringWrote; dsimp only; (repeat' split) <;> simp
@[simp] theorem State.ringWrote_hostHeld (n : Nat) (u : Bool) : (s.ringWrote n u).hostHeld = s.hostHeld := by unfold State.ringWrote; dsimp only; (repeat' split) <;> simp
@[simp] theorem State.ringWrote_readOut (n : Nat) (u : Bool) : (s.ringWrote n u).readOut = s.readOut := by unfold State.ringWrote; dsimp only; (repeat' split) <;> simp
@[simp] theorem State.ringWrote_free (n : Nat) (u : Bool) : (s.ringWrote n u).free = s.free := by unfold State.ringWrote; dsimp only; (repeat' split) <;> simp

@[simp] theorem State.cqPut_pending (c : Nat) (e : Cqe) : (s.cqPut c e).pending = s.pending := by unfold State.cqPut State.setB; simp
@[simp] theorem State.cqPut_tick (c : Nat) (e : Cqe) : (s.cqPut c e).tick = s.tick := by unfold State.cqPut State.setB; simp
@[simp] theorem State.cqPut_tb (c : Nat) (e : Cqe) : (s.cqPut c e).tb = s.tb := by unfold State.cqPut State.setB; simp
@[simp] theorem State.cqPut_pw (c : Nat) (e : Cqe) : (s.cqPut c e).pw = s.pw := by unfold State.cqPut State.setB; simp
@[simp] theorem State.cqPut_jtag (c : Nat) (e : Cqe) : (s.cqPut c e).jtag = s.jtag := by unfold State.cqPut State.setB; simp
@[simp] theorem State.cqPut_xing (c : Nat) (e : Cqe) : (s.cqPut c e).xing = s.xing := by unfold State.cqPut State.setB; simp
@[simp] theorem State.cqPut_acq (c : Nat) (e : Cqe) : (s.cqPut c e).acq = s.acq := by unfold State.cqPut State.setB; simp
@[simp] theorem State.cqPut_rx (c : Nat) (e : Cqe) : (s.cqPut c e).rx = s.rx := by unfold State.cqPut State.setB; simp
@[simp] theorem State.cqPut_ph (c : Nat) (e : Cqe) : (s.cqPut c e).ph = s.ph := by unfold State.cqPut State.setB; simp
@[simp] theorem State.cqPut_red (c : Nat) (e : Cqe) : (s.cqPut c e).red = s.red := by unfold State.cqPut State.setB; simp
@[simp] theorem State.cqPut_slm (c : Nat) (e : Cqe) : (s.cqPut c e).slm = s.slm := by unfold State.cqPut State.setB; simp
@[simp] theorem State.cqPut_dts (c : Nat) (e : Cqe) : (s.cqPut c e).dts = s.dts := by unfold State.cqPut State.setB; simp
@[simp] theorem State.cqPut_sad (c : Nat) (e : Cqe) : (s.cqPut c e).sad = s.sad := by unfold State.cqPut State.setB; simp
@[simp] theorem State.cqPut_src (c : Nat) (e : Cqe) : (s.cqPut c e).src = s.src := by unfold State.cqPut State.setB; simp
@[simp] theorem State.cqPut_tiu (c : Nat) (e : Cqe) : (s.cqPut c e).tiu = s.tiu := by unfold State.cqPut State.setB; simp
@[simp] theorem State.cqPut_pat (c : Nat) (e : Cqe) : (s.cqPut c e).pat = s.pat := by unfold State.cqPut State.setB; simp
@[simp] theorem State.cqPut_chk (c : Nat) (e : Cqe) : (s.cqPut c e).chk = s.chk := by unfold State.cqPut State.setB; simp
@[simp] theorem State.cqPut_pnl (c : Nat) (e : Cqe) : (s.cqPut c e).pnl = s.pnl := by unfold State.cqPut State.setB; simp
@[simp] theorem State.cqPut_cal (c : Nat) (e : Cqe) : (s.cqPut c e).cal = s.cal := by unfold State.cqPut State.setB; simp
@[simp] theorem State.cqPut_grm (c : Nat) (e : Cqe) : (s.cqPut c e).grm = s.grm := by unfold State.cqPut State.setB; simp
@[simp] theorem State.cqPut_rdg (c : Nat) (e : Cqe) : (s.cqPut c e).rdg = s.rdg := by unfold State.cqPut State.setB; simp
@[simp] theorem State.cqPut_crn (c : Nat) (e : Cqe) : (s.cqPut c e).crn = s.crn := by unfold State.cqPut State.setB; simp
@[simp] theorem State.cqPut_vb (c : Nat) (e : Cqe) : (s.cqPut c e).vb = s.vb := by unfold State.cqPut State.setB; simp
@[simp] theorem State.cqPut_sum (c : Nat) (e : Cqe) : (s.cqPut c e).sum = s.sum := by unfold State.cqPut State.setB; simp
@[simp] theorem State.cqPut_log (c : Nat) (e : Cqe) : (s.cqPut c e).log = s.log := by unfold State.cqPut State.setB; simp
@[simp] theorem State.cqPut_pulses (c : Nat) (e : Cqe) : (s.cqPut c e).pulses = s.pulses := by unfold State.cqPut State.setB; simp
@[simp] theorem State.cqPut_evtPrev (c : Nat) (e : Cqe) : (s.cqPut c e).evtPrev = s.evtPrev := by unfold State.cqPut State.setB; simp
@[simp] theorem State.cqPut_pins (c : Nat) (e : Cqe) : (s.cqPut c e).pins = s.pins := by unfold State.cqPut State.setB; simp
@[simp] theorem State.cqPut_hostHeld (c : Nat) (e : Cqe) : (s.cqPut c e).hostHeld = s.hostHeld := by unfold State.cqPut State.setB; simp
@[simp] theorem State.cqPut_readOut (c : Nat) (e : Cqe) : (s.cqPut c e).readOut = s.readOut := by unfold State.cqPut State.setB; simp
@[simp] theorem State.cqPut_free (c : Nat) (e : Cqe) : (s.cqPut c e).free = s.free := by unfold State.cqPut State.setB; simp

@[simp] theorem State.cqForm_pending (c : Fin 16) (e : Cqe) (f : Option Nat) : (s.cqForm c e f).pending = s.pending := by unfold State.cqForm; split <;> [(split <;> simp); rfl]
@[simp] theorem State.cqForm_tick (c : Fin 16) (e : Cqe) (f : Option Nat) : (s.cqForm c e f).tick = s.tick := by unfold State.cqForm; split <;> [(split <;> simp); rfl]
@[simp] theorem State.cqForm_tb (c : Fin 16) (e : Cqe) (f : Option Nat) : (s.cqForm c e f).tb = s.tb := by unfold State.cqForm; split <;> [(split <;> simp); rfl]
@[simp] theorem State.cqForm_pw (c : Fin 16) (e : Cqe) (f : Option Nat) : (s.cqForm c e f).pw = s.pw := by unfold State.cqForm; split <;> [(split <;> simp); rfl]
@[simp] theorem State.cqForm_jtag (c : Fin 16) (e : Cqe) (f : Option Nat) : (s.cqForm c e f).jtag = s.jtag := by unfold State.cqForm; split <;> [(split <;> simp); rfl]
@[simp] theorem State.cqForm_xing (c : Fin 16) (e : Cqe) (f : Option Nat) : (s.cqForm c e f).xing = s.xing := by unfold State.cqForm; split <;> [(split <;> simp); rfl]
@[simp] theorem State.cqForm_acq (c : Fin 16) (e : Cqe) (f : Option Nat) : (s.cqForm c e f).acq = s.acq := by unfold State.cqForm; split <;> [(split <;> simp); rfl]
@[simp] theorem State.cqForm_rx (c : Fin 16) (e : Cqe) (f : Option Nat) : (s.cqForm c e f).rx = s.rx := by unfold State.cqForm; split <;> [(split <;> simp); rfl]
@[simp] theorem State.cqForm_ph (c : Fin 16) (e : Cqe) (f : Option Nat) : (s.cqForm c e f).ph = s.ph := by unfold State.cqForm; split <;> [(split <;> simp); rfl]
@[simp] theorem State.cqForm_red (c : Fin 16) (e : Cqe) (f : Option Nat) : (s.cqForm c e f).red = s.red := by unfold State.cqForm; split <;> [(split <;> simp); rfl]
@[simp] theorem State.cqForm_slm (c : Fin 16) (e : Cqe) (f : Option Nat) : (s.cqForm c e f).slm = s.slm := by unfold State.cqForm; split <;> [(split <;> simp); rfl]
@[simp] theorem State.cqForm_dts (c : Fin 16) (e : Cqe) (f : Option Nat) : (s.cqForm c e f).dts = s.dts := by unfold State.cqForm; split <;> [(split <;> simp); rfl]
@[simp] theorem State.cqForm_sad (c : Fin 16) (e : Cqe) (f : Option Nat) : (s.cqForm c e f).sad = s.sad := by unfold State.cqForm; split <;> [(split <;> simp); rfl]
@[simp] theorem State.cqForm_src (c : Fin 16) (e : Cqe) (f : Option Nat) : (s.cqForm c e f).src = s.src := by unfold State.cqForm; split <;> [(split <;> simp); rfl]
@[simp] theorem State.cqForm_tiu (c : Fin 16) (e : Cqe) (f : Option Nat) : (s.cqForm c e f).tiu = s.tiu := by unfold State.cqForm; split <;> [(split <;> simp); rfl]
@[simp] theorem State.cqForm_pat (c : Fin 16) (e : Cqe) (f : Option Nat) : (s.cqForm c e f).pat = s.pat := by unfold State.cqForm; split <;> [(split <;> simp); rfl]
@[simp] theorem State.cqForm_chk (c : Fin 16) (e : Cqe) (f : Option Nat) : (s.cqForm c e f).chk = s.chk := by unfold State.cqForm; split <;> [(split <;> simp); rfl]
@[simp] theorem State.cqForm_pnl (c : Fin 16) (e : Cqe) (f : Option Nat) : (s.cqForm c e f).pnl = s.pnl := by unfold State.cqForm; split <;> [(split <;> simp); rfl]
@[simp] theorem State.cqForm_cal (c : Fin 16) (e : Cqe) (f : Option Nat) : (s.cqForm c e f).cal = s.cal := by unfold State.cqForm; split <;> [(split <;> simp); rfl]
@[simp] theorem State.cqForm_grm (c : Fin 16) (e : Cqe) (f : Option Nat) : (s.cqForm c e f).grm = s.grm := by unfold State.cqForm; split <;> [(split <;> simp); rfl]
@[simp] theorem State.cqForm_rdg (c : Fin 16) (e : Cqe) (f : Option Nat) : (s.cqForm c e f).rdg = s.rdg := by unfold State.cqForm; split <;> [(split <;> simp); rfl]
@[simp] theorem State.cqForm_crn (c : Fin 16) (e : Cqe) (f : Option Nat) : (s.cqForm c e f).crn = s.crn := by unfold State.cqForm; split <;> [(split <;> simp); rfl]
@[simp] theorem State.cqForm_vb (c : Fin 16) (e : Cqe) (f : Option Nat) : (s.cqForm c e f).vb = s.vb := by unfold State.cqForm; split <;> [(split <;> simp); rfl]
@[simp] theorem State.cqForm_sum (c : Fin 16) (e : Cqe) (f : Option Nat) : (s.cqForm c e f).sum = s.sum := by unfold State.cqForm; split <;> [(split <;> simp); rfl]
@[simp] theorem State.cqForm_log (c : Fin 16) (e : Cqe) (f : Option Nat) : (s.cqForm c e f).log = s.log := by unfold State.cqForm; split <;> [(split <;> simp); rfl]
@[simp] theorem State.cqForm_pulses (c : Fin 16) (e : Cqe) (f : Option Nat) : (s.cqForm c e f).pulses = s.pulses := by unfold State.cqForm; split <;> [(split <;> simp); rfl]
@[simp] theorem State.cqForm_evtPrev (c : Fin 16) (e : Cqe) (f : Option Nat) : (s.cqForm c e f).evtPrev = s.evtPrev := by unfold State.cqForm; split <;> [(split <;> simp); rfl]
@[simp] theorem State.cqForm_pins (c : Fin 16) (e : Cqe) (f : Option Nat) : (s.cqForm c e f).pins = s.pins := by unfold State.cqForm; split <;> [(split <;> simp); rfl]
@[simp] theorem State.cqForm_hostHeld (c : Fin 16) (e : Cqe) (f : Option Nat) : (s.cqForm c e f).hostHeld = s.hostHeld := by unfold State.cqForm; split <;> [(split <;> simp); rfl]
@[simp] theorem State.cqForm_readOut (c : Fin 16) (e : Cqe) (f : Option Nat) : (s.cqForm c e f).readOut = s.readOut := by unfold State.cqForm; split <;> [(split <;> simp); rfl]
@[simp] theorem State.cqForm_free (c : Fin 16) (e : Cqe) (f : Option Nat) : (s.cqForm c e f).free = s.free := by unfold State.cqForm; split <;> [(split <;> simp); rfl]

@[simp] theorem State.acceptWith_pending (h a b : Nat) : (s.acceptWith h a b).pending = s.pending := by unfold State.acceptWith; split <;> [rfl; (split <;> simp)]
@[simp] theorem State.acceptWith_tick (h a b : Nat) : (s.acceptWith h a b).tick = s.tick := by unfold State.acceptWith; split <;> [rfl; (split <;> simp)]
@[simp] theorem State.acceptWith_tb (h a b : Nat) : (s.acceptWith h a b).tb = s.tb := by unfold State.acceptWith; split <;> [rfl; (split <;> simp)]
@[simp] theorem State.acceptWith_pw (h a b : Nat) : (s.acceptWith h a b).pw = s.pw := by unfold State.acceptWith; split <;> [rfl; (split <;> simp)]
@[simp] theorem State.acceptWith_jtag (h a b : Nat) : (s.acceptWith h a b).jtag = s.jtag := by unfold State.acceptWith; split <;> [rfl; (split <;> simp)]
@[simp] theorem State.acceptWith_xing (h a b : Nat) : (s.acceptWith h a b).xing = s.xing := by unfold State.acceptWith; split <;> [rfl; (split <;> simp)]
@[simp] theorem State.acceptWith_acq (h a b : Nat) : (s.acceptWith h a b).acq = s.acq := by unfold State.acceptWith; split <;> [rfl; (split <;> simp)]
@[simp] theorem State.acceptWith_rx (h a b : Nat) : (s.acceptWith h a b).rx = s.rx := by unfold State.acceptWith; split <;> [rfl; (split <;> simp)]
@[simp] theorem State.acceptWith_ph (h a b : Nat) : (s.acceptWith h a b).ph = s.ph := by unfold State.acceptWith; split <;> [rfl; (split <;> simp)]
@[simp] theorem State.acceptWith_red (h a b : Nat) : (s.acceptWith h a b).red = s.red := by unfold State.acceptWith; split <;> [rfl; (split <;> simp)]
@[simp] theorem State.acceptWith_slm (h a b : Nat) : (s.acceptWith h a b).slm = s.slm := by unfold State.acceptWith; split <;> [rfl; (split <;> simp)]
@[simp] theorem State.acceptWith_dts (h a b : Nat) : (s.acceptWith h a b).dts = s.dts := by unfold State.acceptWith; split <;> [rfl; (split <;> simp)]
@[simp] theorem State.acceptWith_sad (h a b : Nat) : (s.acceptWith h a b).sad = s.sad := by unfold State.acceptWith; split <;> [rfl; (split <;> simp)]
@[simp] theorem State.acceptWith_src (h a b : Nat) : (s.acceptWith h a b).src = s.src := by unfold State.acceptWith; split <;> [rfl; (split <;> simp)]
@[simp] theorem State.acceptWith_tiu (h a b : Nat) : (s.acceptWith h a b).tiu = s.tiu := by unfold State.acceptWith; split <;> [rfl; (split <;> simp)]
@[simp] theorem State.acceptWith_pat (h a b : Nat) : (s.acceptWith h a b).pat = s.pat := by unfold State.acceptWith; split <;> [rfl; (split <;> simp)]
@[simp] theorem State.acceptWith_chk (h a b : Nat) : (s.acceptWith h a b).chk = s.chk := by unfold State.acceptWith; split <;> [rfl; (split <;> simp)]
@[simp] theorem State.acceptWith_pnl (h a b : Nat) : (s.acceptWith h a b).pnl = s.pnl := by unfold State.acceptWith; split <;> [rfl; (split <;> simp)]
@[simp] theorem State.acceptWith_cal (h a b : Nat) : (s.acceptWith h a b).cal = s.cal := by unfold State.acceptWith; split <;> [rfl; (split <;> simp)]
@[simp] theorem State.acceptWith_grm (h a b : Nat) : (s.acceptWith h a b).grm = s.grm := by unfold State.acceptWith; split <;> [rfl; (split <;> simp)]
@[simp] theorem State.acceptWith_rdg (h a b : Nat) : (s.acceptWith h a b).rdg = s.rdg := by unfold State.acceptWith; split <;> [rfl; (split <;> simp)]
@[simp] theorem State.acceptWith_crn (h a b : Nat) : (s.acceptWith h a b).crn = s.crn := by unfold State.acceptWith; split <;> [rfl; (split <;> simp)]
@[simp] theorem State.acceptWith_vb (h a b : Nat) : (s.acceptWith h a b).vb = s.vb := by unfold State.acceptWith; split <;> [rfl; (split <;> simp)]
@[simp] theorem State.acceptWith_sum (h a b : Nat) : (s.acceptWith h a b).sum = s.sum := by unfold State.acceptWith; split <;> [rfl; (split <;> simp)]
@[simp] theorem State.acceptWith_log (h a b : Nat) : (s.acceptWith h a b).log = s.log := by unfold State.acceptWith; split <;> [rfl; (split <;> simp)]
@[simp] theorem State.acceptWith_pulses (h a b : Nat) : (s.acceptWith h a b).pulses = s.pulses := by unfold State.acceptWith; split <;> [rfl; (split <;> simp)]
@[simp] theorem State.acceptWith_evtPrev (h a b : Nat) : (s.acceptWith h a b).evtPrev = s.evtPrev := by unfold State.acceptWith; split <;> [rfl; (split <;> simp)]
@[simp] theorem State.acceptWith_pins (h a b : Nat) : (s.acceptWith h a b).pins = s.pins := by unfold State.acceptWith; split <;> [rfl; (split <;> simp)]
@[simp] theorem State.acceptWith_hostHeld (h a b : Nat) : (s.acceptWith h a b).hostHeld = s.hostHeld := by unfold State.acceptWith; split <;> [rfl; (split <;> simp)]
@[simp] theorem State.acceptWith_readOut (h a b : Nat) : (s.acceptWith h a b).readOut = s.readOut := by unfold State.acceptWith; split <;> [rfl; (split <;> simp)]
@[simp] theorem State.acceptWith_free (h a b : Nat) : (s.acceptWith h a b).free = s.free := by unfold State.acceptWith; split <;> [rfl; (split <;> simp)]

@[simp] theorem State.accept_pending (h : Nat) : (s.accept h).pending = s.pending := by simp [State.accept]
@[simp] theorem State.accept_tick (h : Nat) : (s.accept h).tick = s.tick := by simp [State.accept]
@[simp] theorem State.accept_tb (h : Nat) : (s.accept h).tb = s.tb := by simp [State.accept]
@[simp] theorem State.accept_pw (h : Nat) : (s.accept h).pw = s.pw := by simp [State.accept]
@[simp] theorem State.accept_jtag (h : Nat) : (s.accept h).jtag = s.jtag := by simp [State.accept]
@[simp] theorem State.accept_xing (h : Nat) : (s.accept h).xing = s.xing := by simp [State.accept]
@[simp] theorem State.accept_acq (h : Nat) : (s.accept h).acq = s.acq := by simp [State.accept]
@[simp] theorem State.accept_rx (h : Nat) : (s.accept h).rx = s.rx := by simp [State.accept]
@[simp] theorem State.accept_ph (h : Nat) : (s.accept h).ph = s.ph := by simp [State.accept]
@[simp] theorem State.accept_red (h : Nat) : (s.accept h).red = s.red := by simp [State.accept]
@[simp] theorem State.accept_slm (h : Nat) : (s.accept h).slm = s.slm := by simp [State.accept]
@[simp] theorem State.accept_dts (h : Nat) : (s.accept h).dts = s.dts := by simp [State.accept]
@[simp] theorem State.accept_sad (h : Nat) : (s.accept h).sad = s.sad := by simp [State.accept]
@[simp] theorem State.accept_src (h : Nat) : (s.accept h).src = s.src := by simp [State.accept]
@[simp] theorem State.accept_tiu (h : Nat) : (s.accept h).tiu = s.tiu := by simp [State.accept]
@[simp] theorem State.accept_pat (h : Nat) : (s.accept h).pat = s.pat := by simp [State.accept]
@[simp] theorem State.accept_chk (h : Nat) : (s.accept h).chk = s.chk := by simp [State.accept]
@[simp] theorem State.accept_pnl (h : Nat) : (s.accept h).pnl = s.pnl := by simp [State.accept]
@[simp] theorem State.accept_cal (h : Nat) : (s.accept h).cal = s.cal := by simp [State.accept]
@[simp] theorem State.accept_grm (h : Nat) : (s.accept h).grm = s.grm := by simp [State.accept]
@[simp] theorem State.accept_rdg (h : Nat) : (s.accept h).rdg = s.rdg := by simp [State.accept]
@[simp] theorem State.accept_crn (h : Nat) : (s.accept h).crn = s.crn := by simp [State.accept]
@[simp] theorem State.accept_vb (h : Nat) : (s.accept h).vb = s.vb := by simp [State.accept]
@[simp] theorem State.accept_sum (h : Nat) : (s.accept h).sum = s.sum := by simp [State.accept]
@[simp] theorem State.accept_log (h : Nat) : (s.accept h).log = s.log := by simp [State.accept]
@[simp] theorem State.accept_pulses (h : Nat) : (s.accept h).pulses = s.pulses := by simp [State.accept]
@[simp] theorem State.accept_evtPrev (h : Nat) : (s.accept h).evtPrev = s.evtPrev := by simp [State.accept]
@[simp] theorem State.accept_pins (h : Nat) : (s.accept h).pins = s.pins := by simp [State.accept]
@[simp] theorem State.accept_hostHeld (h : Nat) : (s.accept h).hostHeld = s.hostHeld := by simp [State.accept]
@[simp] theorem State.accept_readOut (h : Nat) : (s.accept h).readOut = s.readOut := by simp [State.accept]
@[simp] theorem State.accept_free (h : Nat) : (s.accept h).free = s.free := by simp [State.accept]

@[simp] theorem State.progress_pending (h a b : Nat) : (s.progress h a b).pending = s.pending := by unfold State.progress; split <;> [rfl; (split <;> simp)]
@[simp] theorem State.progress_tick (h a b : Nat) : (s.progress h a b).tick = s.tick := by unfold State.progress; split <;> [rfl; (split <;> simp)]
@[simp] theorem State.progress_tb (h a b : Nat) : (s.progress h a b).tb = s.tb := by unfold State.progress; split <;> [rfl; (split <;> simp)]
@[simp] theorem State.progress_pw (h a b : Nat) : (s.progress h a b).pw = s.pw := by unfold State.progress; split <;> [rfl; (split <;> simp)]
@[simp] theorem State.progress_jtag (h a b : Nat) : (s.progress h a b).jtag = s.jtag := by unfold State.progress; split <;> [rfl; (split <;> simp)]
@[simp] theorem State.progress_xing (h a b : Nat) : (s.progress h a b).xing = s.xing := by unfold State.progress; split <;> [rfl; (split <;> simp)]
@[simp] theorem State.progress_acq (h a b : Nat) : (s.progress h a b).acq = s.acq := by unfold State.progress; split <;> [rfl; (split <;> simp)]
@[simp] theorem State.progress_rx (h a b : Nat) : (s.progress h a b).rx = s.rx := by unfold State.progress; split <;> [rfl; (split <;> simp)]
@[simp] theorem State.progress_ph (h a b : Nat) : (s.progress h a b).ph = s.ph := by unfold State.progress; split <;> [rfl; (split <;> simp)]
@[simp] theorem State.progress_red (h a b : Nat) : (s.progress h a b).red = s.red := by unfold State.progress; split <;> [rfl; (split <;> simp)]
@[simp] theorem State.progress_slm (h a b : Nat) : (s.progress h a b).slm = s.slm := by unfold State.progress; split <;> [rfl; (split <;> simp)]
@[simp] theorem State.progress_dts (h a b : Nat) : (s.progress h a b).dts = s.dts := by unfold State.progress; split <;> [rfl; (split <;> simp)]
@[simp] theorem State.progress_sad (h a b : Nat) : (s.progress h a b).sad = s.sad := by unfold State.progress; split <;> [rfl; (split <;> simp)]
@[simp] theorem State.progress_src (h a b : Nat) : (s.progress h a b).src = s.src := by unfold State.progress; split <;> [rfl; (split <;> simp)]
@[simp] theorem State.progress_tiu (h a b : Nat) : (s.progress h a b).tiu = s.tiu := by unfold State.progress; split <;> [rfl; (split <;> simp)]
@[simp] theorem State.progress_pat (h a b : Nat) : (s.progress h a b).pat = s.pat := by unfold State.progress; split <;> [rfl; (split <;> simp)]
@[simp] theorem State.progress_chk (h a b : Nat) : (s.progress h a b).chk = s.chk := by unfold State.progress; split <;> [rfl; (split <;> simp)]
@[simp] theorem State.progress_pnl (h a b : Nat) : (s.progress h a b).pnl = s.pnl := by unfold State.progress; split <;> [rfl; (split <;> simp)]
@[simp] theorem State.progress_cal (h a b : Nat) : (s.progress h a b).cal = s.cal := by unfold State.progress; split <;> [rfl; (split <;> simp)]
@[simp] theorem State.progress_grm (h a b : Nat) : (s.progress h a b).grm = s.grm := by unfold State.progress; split <;> [rfl; (split <;> simp)]
@[simp] theorem State.progress_rdg (h a b : Nat) : (s.progress h a b).rdg = s.rdg := by unfold State.progress; split <;> [rfl; (split <;> simp)]
@[simp] theorem State.progress_crn (h a b : Nat) : (s.progress h a b).crn = s.crn := by unfold State.progress; split <;> [rfl; (split <;> simp)]
@[simp] theorem State.progress_vb (h a b : Nat) : (s.progress h a b).vb = s.vb := by unfold State.progress; split <;> [rfl; (split <;> simp)]
@[simp] theorem State.progress_sum (h a b : Nat) : (s.progress h a b).sum = s.sum := by unfold State.progress; split <;> [rfl; (split <;> simp)]
@[simp] theorem State.progress_log (h a b : Nat) : (s.progress h a b).log = s.log := by unfold State.progress; split <;> [rfl; (split <;> simp)]
@[simp] theorem State.progress_pulses (h a b : Nat) : (s.progress h a b).pulses = s.pulses := by unfold State.progress; split <;> [rfl; (split <;> simp)]
@[simp] theorem State.progress_evtPrev (h a b : Nat) : (s.progress h a b).evtPrev = s.evtPrev := by unfold State.progress; split <;> [rfl; (split <;> simp)]
@[simp] theorem State.progress_pins (h a b : Nat) : (s.progress h a b).pins = s.pins := by unfold State.progress; split <;> [rfl; (split <;> simp)]
@[simp] theorem State.progress_hostHeld (h a b : Nat) : (s.progress h a b).hostHeld = s.hostHeld := by unfold State.progress; split <;> [rfl; (split <;> simp)]
@[simp] theorem State.progress_readOut (h a b : Nat) : (s.progress h a b).readOut = s.readOut := by unfold State.progress; split <;> [rfl; (split <;> simp)]
@[simp] theorem State.progress_free (h a b : Nat) : (s.progress h a b).free = s.free := by unfold State.progress; split <;> [rfl; (split <;> simp)]

@[simp] theorem State.complete_pending (h st det a b : Nat) : (s.complete h st det a b).pending = s.pending := by unfold State.complete; split <;> [rfl; (dsimp only; split <;> [rfl; (simp; split <;> rfl)])]
@[simp] theorem State.complete_tick (h st det a b : Nat) : (s.complete h st det a b).tick = s.tick := by unfold State.complete; split <;> [rfl; (dsimp only; split <;> [rfl; (simp; split <;> rfl)])]
@[simp] theorem State.complete_tb (h st det a b : Nat) : (s.complete h st det a b).tb = s.tb := by unfold State.complete; split <;> [rfl; (dsimp only; split <;> [rfl; (simp; split <;> rfl)])]
@[simp] theorem State.complete_pw (h st det a b : Nat) : (s.complete h st det a b).pw = s.pw := by unfold State.complete; split <;> [rfl; (dsimp only; split <;> [rfl; (simp; split <;> rfl)])]
@[simp] theorem State.complete_jtag (h st det a b : Nat) : (s.complete h st det a b).jtag = s.jtag := by unfold State.complete; split <;> [rfl; (dsimp only; split <;> [rfl; (simp; split <;> rfl)])]
@[simp] theorem State.complete_xing (h st det a b : Nat) : (s.complete h st det a b).xing = s.xing := by unfold State.complete; split <;> [rfl; (dsimp only; split <;> [rfl; (simp; split <;> rfl)])]
@[simp] theorem State.complete_acq (h st det a b : Nat) : (s.complete h st det a b).acq = s.acq := by unfold State.complete; split <;> [rfl; (dsimp only; split <;> [rfl; (simp; split <;> rfl)])]
@[simp] theorem State.complete_rx (h st det a b : Nat) : (s.complete h st det a b).rx = s.rx := by unfold State.complete; split <;> [rfl; (dsimp only; split <;> [rfl; (simp; split <;> rfl)])]
@[simp] theorem State.complete_ph (h st det a b : Nat) : (s.complete h st det a b).ph = s.ph := by unfold State.complete; split <;> [rfl; (dsimp only; split <;> [rfl; (simp; split <;> rfl)])]
@[simp] theorem State.complete_red (h st det a b : Nat) : (s.complete h st det a b).red = s.red := by unfold State.complete; split <;> [rfl; (dsimp only; split <;> [rfl; (simp; split <;> rfl)])]
@[simp] theorem State.complete_slm (h st det a b : Nat) : (s.complete h st det a b).slm = s.slm := by unfold State.complete; split <;> [rfl; (dsimp only; split <;> [rfl; (simp; split <;> rfl)])]
@[simp] theorem State.complete_dts (h st det a b : Nat) : (s.complete h st det a b).dts = s.dts := by unfold State.complete; split <;> [rfl; (dsimp only; split <;> [rfl; (simp; split <;> rfl)])]
@[simp] theorem State.complete_sad (h st det a b : Nat) : (s.complete h st det a b).sad = s.sad := by unfold State.complete; split <;> [rfl; (dsimp only; split <;> [rfl; (simp; split <;> rfl)])]
@[simp] theorem State.complete_src (h st det a b : Nat) : (s.complete h st det a b).src = s.src := by unfold State.complete; split <;> [rfl; (dsimp only; split <;> [rfl; (simp; split <;> rfl)])]
@[simp] theorem State.complete_tiu (h st det a b : Nat) : (s.complete h st det a b).tiu = s.tiu := by unfold State.complete; split <;> [rfl; (dsimp only; split <;> [rfl; (simp; split <;> rfl)])]
@[simp] theorem State.complete_pat (h st det a b : Nat) : (s.complete h st det a b).pat = s.pat := by unfold State.complete; split <;> [rfl; (dsimp only; split <;> [rfl; (simp; split <;> rfl)])]
@[simp] theorem State.complete_chk (h st det a b : Nat) : (s.complete h st det a b).chk = s.chk := by unfold State.complete; split <;> [rfl; (dsimp only; split <;> [rfl; (simp; split <;> rfl)])]
@[simp] theorem State.complete_pnl (h st det a b : Nat) : (s.complete h st det a b).pnl = s.pnl := by unfold State.complete; split <;> [rfl; (dsimp only; split <;> [rfl; (simp; split <;> rfl)])]
@[simp] theorem State.complete_cal (h st det a b : Nat) : (s.complete h st det a b).cal = s.cal := by unfold State.complete; split <;> [rfl; (dsimp only; split <;> [rfl; (simp; split <;> rfl)])]
@[simp] theorem State.complete_grm (h st det a b : Nat) : (s.complete h st det a b).grm = s.grm := by unfold State.complete; split <;> [rfl; (dsimp only; split <;> [rfl; (simp; split <;> rfl)])]
@[simp] theorem State.complete_rdg (h st det a b : Nat) : (s.complete h st det a b).rdg = s.rdg := by unfold State.complete; split <;> [rfl; (dsimp only; split <;> [rfl; (simp; split <;> rfl)])]
@[simp] theorem State.complete_crn (h st det a b : Nat) : (s.complete h st det a b).crn = s.crn := by unfold State.complete; split <;> [rfl; (dsimp only; split <;> [rfl; (simp; split <;> rfl)])]
@[simp] theorem State.complete_vb (h st det a b : Nat) : (s.complete h st det a b).vb = s.vb := by unfold State.complete; split <;> [rfl; (dsimp only; split <;> [rfl; (simp; split <;> rfl)])]
@[simp] theorem State.complete_sum (h st det a b : Nat) : (s.complete h st det a b).sum = s.sum := by unfold State.complete; split <;> [rfl; (dsimp only; split <;> [rfl; (simp; split <;> rfl)])]
@[simp] theorem State.complete_log (h st det a b : Nat) : (s.complete h st det a b).log = s.log := by unfold State.complete; split <;> [rfl; (dsimp only; split <;> [rfl; (simp; split <;> rfl)])]
@[simp] theorem State.complete_pulses (h st det a b : Nat) : (s.complete h st det a b).pulses = s.pulses := by unfold State.complete; split <;> [rfl; (dsimp only; split <;> [rfl; (simp; split <;> rfl)])]
@[simp] theorem State.complete_evtPrev (h st det a b : Nat) : (s.complete h st det a b).evtPrev = s.evtPrev := by unfold State.complete; split <;> [rfl; (dsimp only; split <;> [rfl; (simp; split <;> rfl)])]
@[simp] theorem State.complete_pins (h st det a b : Nat) : (s.complete h st det a b).pins = s.pins := by unfold State.complete; split <;> [rfl; (dsimp only; split <;> [rfl; (simp; split <;> rfl)])]
@[simp] theorem State.complete_hostHeld (h st det a b : Nat) : (s.complete h st det a b).hostHeld = s.hostHeld := by unfold State.complete; split <;> [rfl; (dsimp only; split <;> [rfl; (simp; split <;> rfl)])]
@[simp] theorem State.complete_readOut (h st det a b : Nat) : (s.complete h st det a b).readOut = s.readOut := by unfold State.complete; split <;> [rfl; (dsimp only; split <;> [rfl; (simp; split <;> rfl)])]
@[simp] theorem State.complete_free (h st det a b : Nat) : (s.complete h st det a b).free = s.free := by unfold State.complete; split <;> [rfl; (dsimp only; split <;> [rfl; (simp; split <;> rfl)])]

@[simp] theorem State.completeStop_pending (h a b : Nat) : (s.completeStop h a b).pending = s.pending := by unfold State.completeStop; split <;> simp
@[simp] theorem State.completeStop_tick (h a b : Nat) : (s.completeStop h a b).tick = s.tick := by unfold State.completeStop; split <;> simp
@[simp] theorem State.completeStop_tb (h a b : Nat) : (s.completeStop h a b).tb = s.tb := by unfold State.completeStop; split <;> simp
@[simp] theorem State.completeStop_pw (h a b : Nat) : (s.completeStop h a b).pw = s.pw := by unfold State.completeStop; split <;> simp
@[simp] theorem State.completeStop_jtag (h a b : Nat) : (s.completeStop h a b).jtag = s.jtag := by unfold State.completeStop; split <;> simp
@[simp] theorem State.completeStop_xing (h a b : Nat) : (s.completeStop h a b).xing = s.xing := by unfold State.completeStop; split <;> simp
@[simp] theorem State.completeStop_acq (h a b : Nat) : (s.completeStop h a b).acq = s.acq := by unfold State.completeStop; split <;> simp
@[simp] theorem State.completeStop_rx (h a b : Nat) : (s.completeStop h a b).rx = s.rx := by unfold State.completeStop; split <;> simp
@[simp] theorem State.completeStop_ph (h a b : Nat) : (s.completeStop h a b).ph = s.ph := by unfold State.completeStop; split <;> simp
@[simp] theorem State.completeStop_red (h a b : Nat) : (s.completeStop h a b).red = s.red := by unfold State.completeStop; split <;> simp
@[simp] theorem State.completeStop_slm (h a b : Nat) : (s.completeStop h a b).slm = s.slm := by unfold State.completeStop; split <;> simp
@[simp] theorem State.completeStop_dts (h a b : Nat) : (s.completeStop h a b).dts = s.dts := by unfold State.completeStop; split <;> simp
@[simp] theorem State.completeStop_sad (h a b : Nat) : (s.completeStop h a b).sad = s.sad := by unfold State.completeStop; split <;> simp
@[simp] theorem State.completeStop_src (h a b : Nat) : (s.completeStop h a b).src = s.src := by unfold State.completeStop; split <;> simp
@[simp] theorem State.completeStop_tiu (h a b : Nat) : (s.completeStop h a b).tiu = s.tiu := by unfold State.completeStop; split <;> simp
@[simp] theorem State.completeStop_pat (h a b : Nat) : (s.completeStop h a b).pat = s.pat := by unfold State.completeStop; split <;> simp
@[simp] theorem State.completeStop_chk (h a b : Nat) : (s.completeStop h a b).chk = s.chk := by unfold State.completeStop; split <;> simp
@[simp] theorem State.completeStop_pnl (h a b : Nat) : (s.completeStop h a b).pnl = s.pnl := by unfold State.completeStop; split <;> simp
@[simp] theorem State.completeStop_cal (h a b : Nat) : (s.completeStop h a b).cal = s.cal := by unfold State.completeStop; split <;> simp
@[simp] theorem State.completeStop_grm (h a b : Nat) : (s.completeStop h a b).grm = s.grm := by unfold State.completeStop; split <;> simp
@[simp] theorem State.completeStop_rdg (h a b : Nat) : (s.completeStop h a b).rdg = s.rdg := by unfold State.completeStop; split <;> simp
@[simp] theorem State.completeStop_crn (h a b : Nat) : (s.completeStop h a b).crn = s.crn := by unfold State.completeStop; split <;> simp
@[simp] theorem State.completeStop_vb (h a b : Nat) : (s.completeStop h a b).vb = s.vb := by unfold State.completeStop; split <;> simp
@[simp] theorem State.completeStop_sum (h a b : Nat) : (s.completeStop h a b).sum = s.sum := by unfold State.completeStop; split <;> simp
@[simp] theorem State.completeStop_log (h a b : Nat) : (s.completeStop h a b).log = s.log := by unfold State.completeStop; split <;> simp
@[simp] theorem State.completeStop_pulses (h a b : Nat) : (s.completeStop h a b).pulses = s.pulses := by unfold State.completeStop; split <;> simp
@[simp] theorem State.completeStop_evtPrev (h a b : Nat) : (s.completeStop h a b).evtPrev = s.evtPrev := by unfold State.completeStop; split <;> simp
@[simp] theorem State.completeStop_pins (h a b : Nat) : (s.completeStop h a b).pins = s.pins := by unfold State.completeStop; split <;> simp
@[simp] theorem State.completeStop_hostHeld (h a b : Nat) : (s.completeStop h a b).hostHeld = s.hostHeld := by unfold State.completeStop; split <;> simp
@[simp] theorem State.completeStop_readOut (h a b : Nat) : (s.completeStop h a b).readOut = s.readOut := by unfold State.completeStop; split <;> simp
@[simp] theorem State.completeStop_free (h a b : Nat) : (s.completeStop h a b).free = s.free := by unfold State.completeStop; split <;> simp

@[simp] theorem State.takeUp_pending (h : Nat) : (s.takeUp h).pending = s.pending := by simp [State.takeUp]
@[simp] theorem State.takeUp_tick (h : Nat) : (s.takeUp h).tick = s.tick := by simp [State.takeUp]
@[simp] theorem State.takeUp_tb (h : Nat) : (s.takeUp h).tb = s.tb := by simp [State.takeUp]
@[simp] theorem State.takeUp_pw (h : Nat) : (s.takeUp h).pw = s.pw := by simp [State.takeUp]
@[simp] theorem State.takeUp_jtag (h : Nat) : (s.takeUp h).jtag = s.jtag := by simp [State.takeUp]
@[simp] theorem State.takeUp_xing (h : Nat) : (s.takeUp h).xing = s.xing := by simp [State.takeUp]
@[simp] theorem State.takeUp_acq (h : Nat) : (s.takeUp h).acq = s.acq := by simp [State.takeUp]
@[simp] theorem State.takeUp_rx (h : Nat) : (s.takeUp h).rx = s.rx := by simp [State.takeUp]
@[simp] theorem State.takeUp_ph (h : Nat) : (s.takeUp h).ph = s.ph := by simp [State.takeUp]
@[simp] theorem State.takeUp_red (h : Nat) : (s.takeUp h).red = s.red := by simp [State.takeUp]
@[simp] theorem State.takeUp_slm (h : Nat) : (s.takeUp h).slm = s.slm := by simp [State.takeUp]
@[simp] theorem State.takeUp_dts (h : Nat) : (s.takeUp h).dts = s.dts := by simp [State.takeUp]
@[simp] theorem State.takeUp_sad (h : Nat) : (s.takeUp h).sad = s.sad := by simp [State.takeUp]
@[simp] theorem State.takeUp_src (h : Nat) : (s.takeUp h).src = s.src := by simp [State.takeUp]
@[simp] theorem State.takeUp_tiu (h : Nat) : (s.takeUp h).tiu = s.tiu := by simp [State.takeUp]
@[simp] theorem State.takeUp_pat (h : Nat) : (s.takeUp h).pat = s.pat := by simp [State.takeUp]
@[simp] theorem State.takeUp_chk (h : Nat) : (s.takeUp h).chk = s.chk := by simp [State.takeUp]
@[simp] theorem State.takeUp_pnl (h : Nat) : (s.takeUp h).pnl = s.pnl := by simp [State.takeUp]
@[simp] theorem State.takeUp_cal (h : Nat) : (s.takeUp h).cal = s.cal := by simp [State.takeUp]
@[simp] theorem State.takeUp_grm (h : Nat) : (s.takeUp h).grm = s.grm := by simp [State.takeUp]
@[simp] theorem State.takeUp_rdg (h : Nat) : (s.takeUp h).rdg = s.rdg := by simp [State.takeUp]
@[simp] theorem State.takeUp_crn (h : Nat) : (s.takeUp h).crn = s.crn := by simp [State.takeUp]
@[simp] theorem State.takeUp_vb (h : Nat) : (s.takeUp h).vb = s.vb := by simp [State.takeUp]
@[simp] theorem State.takeUp_sum (h : Nat) : (s.takeUp h).sum = s.sum := by simp [State.takeUp]
@[simp] theorem State.takeUp_log (h : Nat) : (s.takeUp h).log = s.log := by simp [State.takeUp]
@[simp] theorem State.takeUp_pulses (h : Nat) : (s.takeUp h).pulses = s.pulses := by simp [State.takeUp]
@[simp] theorem State.takeUp_evtPrev (h : Nat) : (s.takeUp h).evtPrev = s.evtPrev := by simp [State.takeUp]
@[simp] theorem State.takeUp_pins (h : Nat) : (s.takeUp h).pins = s.pins := by simp [State.takeUp]
@[simp] theorem State.takeUp_hostHeld (h : Nat) : (s.takeUp h).hostHeld = s.hostHeld := by simp [State.takeUp]
@[simp] theorem State.takeUp_readOut (h : Nat) : (s.takeUp h).readOut = s.readOut := by simp [State.takeUp]
@[simp] theorem State.takeUp_free (h : Nat) : (s.takeUp h).free = s.free := by simp [State.takeUp]

end Sys2Proof.Machine
end

