-- ==== Sys2Proof/Laws/Field.lean ====
section
/-! SUPPORT. Reading a register field after the shared operations: a field set reads back cut to its width, and every other field keeps its value. -/

namespace Sys2Proof.Machine

variable (s : State) (F G : Field) (v i j : Nat)

/-- A field depends on the register file alone. -/
theorem State.fld_congr {s t : State} (h : s.regs = t.regs) : s.fld F i = t.fld F i := by simp [State.fld, h]

@[simp] theorem State.fld_setF_same : (s.setF F v i).fld F i = v % 2 ^ F.width := by
  simp [State.fld, State.setF]

theorem State.fld_setF_other (h : F.key i ≠ G.key j) : (s.setF F v i).fld G j = s.fld G j := by
  simp [State.fld, State.setF, Store.read_write_other _ _ _ _ h]

/-- Reading any field after setting one. -/
theorem State.fld_setF : (s.setF F v i).fld G j = if F.key i = G.key j then Store.read (G.reset j) (s.setF F v i).regs (G.key j) % 2 ^ G.width else s.fld G j := by
  split
  · rfl
  · rename_i h; exact State.fld_setF_other s F G v i j h

theorem State.fld_lt : s.fld F i < 2 ^ F.width := Nat.mod_lt _ (Nat.two_pow_pos _)

@[simp] theorem State.pulse_fld (e : Nat) : (s.pulse e).fld F i = s.fld F i := rfl
@[simp] theorem State.updHandle_fld (h : Nat) (f : Handle → Handle) : (s.updHandle h f).fld F i = s.fld F i := rfl
@[simp] theorem State.signal_fld : (s.signal v).fld F i = s.fld F i := State.fld_congr _ _ (by simp)
@[simp] theorem State.ringWrote_fld (n : Nat) (u : Bool) : (s.ringWrote n u).fld F i = s.fld F i := State.fld_congr _ _ (by simp)

/-- A field of the HQE block, one of 16 queues, lies in the block. -/
theorem key_ne_of_notHqe {F : Field} {k : Nat} (h : Field.notHqe k) (h1 : 0x200000 ≤ F.key i) (h2 : F.key i < 0x400000) :
    F.key i ≠ k := by
  unfold Field.notHqe at h; omega

theorem State.fld_setF_hqe {G : Field} {j : Nat} (h : Field.notHqe (G.key j)) (h1 : 0x200000 ≤ F.key i) (h2 : F.key i < 0x400000) :
    (s.setF F v i).fld G j = s.fld G j := State.fld_setF_other _ _ _ _ _ _ (key_ne_of_notHqe _ h h1 h2)

variable {G j}

/-- A field that one state spares is spared in each with the same power island state. -/
theorem State.spares_congr {s t : State} {k : Nat} (h : s.pw = t.pw) (hk : s.spares k) : t.spares k := by
  unfold State.spares at *; rwa [← h]

/-- Counting lines touches the counters alone. -/
theorem State.fld_setF_mem {c : Nat} (hG : G.key j ∉ Field.memCounts) (h : F.key c ∈ Field.memCounts) : (s.setF F v c).fld G j = s.fld G j :=
  State.fld_setF_other _ _ _ _ _ _ (fun e => hG (e ▸ h))

theorem State.set64_fld_mem {F1 F2 : Field} {c : Nat} (hG : G.key j ∉ Field.memCounts) (h1 : F1.key c ∈ Field.memCounts) (h2 : F2.key c ∈ Field.memCounts) :
    (s.set64 F1 F2 v c).fld G j = s.fld G j := by
  unfold State.set64; rw [State.fld_setF_mem _ _ _ hG h2, State.fld_setF_mem _ _ _ hG h1]

theorem State.memCount_fld {c : Nat} (hc : c < 2) (n w : Nat) (hG : G.key j ∉ Field.memCounts) : (s.memCount c n w).fld G j = s.fld G j := by
  have k : c = 0 ∨ c = 1 := by omega
  unfold State.memCount
  rw [State.set64_fld_mem _ _ hG, State.set64_fld_mem _ _ hG, State.set64_fld_mem _ _ hG] <;>
    (rcases k with rfl | rfl <;> decide)

/-- Two steps, one a channel, that each leave a field leave it together. -/
theorem State.fld_fold2 (f : State → Nat → State) (h : ∀ s c, c < 2 → (f s c).fld G j = s.fld G j) :
    ((List.range 2).foldl f s).fld G j = s.fld G j := by
  simp only [show List.range 2 = [0, 1] from rfl, List.foldl]
  rw [h _ 1 (by decide), h _ 0 (by decide)]

theorem State.linesWritten_fld (o n : Nat) (w : Nat → Bool) (hG : G.key j ∉ Field.memCounts) : (s.linesWritten o n w).fld G j = s.fld G j := by
  refine State.fld_fold2 s _ fun s c hc => ?_
  dsimp only
  split
  · rfl
  · have k : c = 0 ∨ c = 1 := by omega
    rw [State.addF_eq, State.fld_setF_mem _ _ _ hG (by rcases k with rfl | rfl <;> decide), State.memCount_fld _ hc _ _ hG]

theorem State.intPut_fld (a : Nat) (bs : List Byte) (hG : G.key j ∉ Field.memCounts) : (s.intPut a bs).fld G j = s.fld G j := by
  unfold State.intPut
  split
  · rfl
  · split
    · exact State.linesWritten_fld s _ _ _ hG
    · split <;> rfl

/-- An entry's bytes written leave every register that `spares` names. -/
theorem State.hostPut_fld (a : Nat) (bs : List Byte) (hG : s.spares (G.key j)) : (s.hostPut a bs).fld G j = s.fld G j := by
  unfold State.hostPut State.hostPutRo
  split
  · rename_i h
    exact State.intPut_fld _ _ _ (hG.2.resolve_left (by simp [h]))
  · split <;> rfl

theorem State.freeHandle_fld (h : Nat) (hG : Field.notHqe (G.key j)) : (s.freeHandle h).fld G j = s.fld G j := by
  rw [State.freeHandle, State.updFree, State.fld_setF_hqe _ _ _ _ hG (by decide) (by decide)]; rfl

theorem State.cqPut_fld (c : Fin 16) (e : Cqe) (hG : s.spares (G.key j)) : (s.cqPut c e).fld G j = s.fld G j := by
  have hn := hG.1
  have k (F : Field) (h : ∀ c : Fin 16, 0x200000 ≤ F.key c ∧ F.key c < 0x400000) (s : State) (v : Nat) :
      (s.setF F v c.val).fld G j = s.fld G j := State.fld_setF_hqe _ _ _ _ hn (h c).1 (h c).2
  simp only [State.cqPut, State.setB_eq, State.ringWrote_fld]
  rw [k Reg.CQ_STATUS_FULL (by decide), k Reg.CQ_STATUS_PHASE (by decide), k Reg.CQ_STATUS_TAIL (by decide)]
  rw [State.hostPut_fld _ _ _ (State.spares_congr (by simp) hG), State.hostPut_fld _ _ _ hG]

theorem State.cqForm_fld (c : Fin 16) (e : Cqe) (f : Option Nat) (hG : s.spares (G.key j)) : (s.cqForm c e f).fld G j = s.fld G j := by
  unfold State.cqForm
  split
  · dsimp only
    split
    · rw [State.freeHandle_fld _ _ hG.1, State.cqPut_fld _ _ _ hG]
    · rw [State.cqPut_fld _ _ _ hG]
  · rfl

theorem State.acceptWith_fld (h a b : Nat) (hG : s.spares (G.key j)) : (s.acceptWith h a b).fld G j = s.fld G j := by
  unfold State.acceptWith
  split
  · rfl
  · split
    · rfl
    · rw [State.cqForm_fld _ _ _ _ (State.spares_congr (by simp) hG)]; simp

theorem State.accept_fld (h : Nat) (hG : s.spares (G.key j)) : (s.accept h).fld G j = s.fld G j := State.acceptWith_fld _ _ _ _ hG

theorem State.takeUp_fld (h : Nat) (hG : s.spares (G.key j)) : (s.takeUp h).fld G j = s.fld G j :=
  (State.fld_congr _ _ (by simp [State.takeUp])).trans (State.accept_fld s h hG)

theorem State.progress_fld (h a b : Nat) (hG : s.spares (G.key j)) : (s.progress h a b).fld G j = s.fld G j := by
  unfold State.progress
  split
  · rfl
  · split
    · rfl
    · rw [State.cqForm_fld _ _ _ _ (State.spares_congr (by simp) hG)]
      exact (State.fld_congr _ _ (by simp)).trans (State.accept_fld s h hG)

/-- A completion leaves every register that `spares` names. -/
theorem State.complete_fld (h st det a b : Nat) (hG : s.spares (G.key j)) : (s.complete h st det a b).fld G j = s.fld G j := by
  unfold State.complete
  split
  · rfl
  · dsimp only
    split
    · rfl
    · rw [State.cqForm_fld _ _ _ _ (State.spares_congr (by simp; split <;> rfl) hG)]
      simp only [State.updHandle_fld]
      split <;> rfl

theorem State.completeStop_fld (h a b : Nat) (hG : s.spares (G.key j)) : (s.completeStop h a b).fld G j = s.fld G j := by
  unfold State.completeStop; split <;> exact State.complete_fld _ _ _ _ _ _ hG

/-- A log entry leaves every register but the two sequence registers. -/
theorem State.logPut_fld (a b c d : Nat) (bs : List Byte) (h1 : Reg.SUM_LOG_NEWEST.key 0 ≠ G.key j) (h2 : Reg.SUM_LOG_OLDEST.key 0 ≠ G.key j) :
    (s.logPut a b c d bs).fld G j = s.fld G j := by
  unfold State.logPut
  extract_lets e n c' s1 s2 s3
  have h : s3.fld G j = s.fld G j := by
    simp only [s3]
    rw [State.fld_setF_other _ _ _ _ _ _ h2, State.fld_setF_other _ _ _ _ _ _ h1]; rfl
  split
  · rw [State.signal_fld, h]
  · exact h

/-- A log entry under the rate limit leaves every register but the log's three. -/
theorem State.logEvt_fld (a b c : Nat) (bs : List Byte) (h1 : Reg.SUM_LOG_NEWEST.key 0 ≠ G.key j) (h2 : Reg.SUM_LOG_OLDEST.key 0 ≠ G.key j)
    (h3 : Reg.SUM_LOG_SUPPRESSED.key 0 ≠ G.key j) : (s.logEvt a b c bs).fld G j = s.fld G j := by
  unfold State.logEvt
  split
  · rw [State.incF_eq, State.fld_setF_other _ _ _ _ _ _ h3]
  · rw [State.logPut_fld _ _ _ _ _ _ h1 h2]; rfl

end Sys2Proof.Machine
end

