-- ==== Sys2Proof/Laws/Frame.lean ====
section
/-! SUPPORT. What stays unchanged: the frames of Safety.lean over the shared operations. -/

namespace Sys2Proof.Machine

variable {ks : List Nat} {s t u : State}

theorem SameRegs.refl (ks : List Nat) (s : State) : SameRegs ks s s := fun _ _ _ => rfl

theorem SameRegs.of_eq (h : t.regs = s.regs) : SameRegs ks s t := fun k _ d => by rw [h]

theorem SameRegs.of_eq_right (h : SameRegs ks s t) (e : u.regs = t.regs) : SameRegs ks s u := fun k hk d => by rw [e]; exact h k hk d

theorem SameRegs.trans (h1 : SameRegs ks s t) (h2 : SameRegs ks t u) : SameRegs ks s u := fun k hk d => (h2 k hk d).trans (h1 k hk d)

theorem SameRegs.mono {ls : List Nat} (h : SameRegs ks s t) (hl : ∀ k ∈ ks, k ∈ ls) : SameRegs ls s t :=
  fun k hk d => h k (fun hm => hk (hl k hm)) d

theorem SameRegs.setF (h : SameRegs ks s t) {F : Field} {v i : Nat} (hF : F.key i ∈ ks) : SameRegs ks s (t.setF F v i) := by
  intro k hk d
  rw [← h k hk d]
  exact Store.read_write_other _ _ _ _ (fun e => hk (e ▸ hF))

theorem SameRegs.signal (h : SameRegs ks s t) (v : Nat) : SameRegs ks s (t.signal v) := fun k hk d => by rw [State.signal_regs]; exact h k hk d

theorem SameRegs.hqErr (h : SameRegs ks s t) {F : Field} (hF : F.key 0 ∈ ks) : SameRegs ks s (t.hqErr F) := (h.setF hF).signal 1

/-- A field whose key is not listed keeps its value. -/
theorem SameRegs.fld (h : SameRegs ks s t) {F : Field} {i : Nat} (hF : F.key i ∉ ks) : t.fld F i = s.fld F i := by
  simp [State.fld, h _ hF]

theorem OnlyRegs.refl (ks : List Nat) (s : State) : OnlyRegs ks s s := ⟨rfl, SameRegs.refl ks s⟩

theorem OnlyRegs.setF (h : OnlyRegs ks s t) {F : Field} {v i : Nat} (hF : F.key i ∈ ks) : OnlyRegs ks s (t.setF F v i) := by
  refine ⟨?_, h.2.setF hF⟩
  conv => lhs; rw [h.1]
  rfl

/-- A command whose data arrive goes on with them. -/
theorem State.withData_of (s : State) (x : Handle) (d : CmdData) (n : Nat) (bs : List Byte) (k : State → Nat → List Byte → State)
    (h : s.dataOf x d = some (n, bs)) : s.withData x d k = k (s.dataRead x d) n bs := by
  unfold State.dataOf at h
  unfold State.withData State.dataRead
  rcases e : s.buffer x d with ⟨⟨segs, w⟩, t⟩
  rw [e] at h
  dsimp only at h ⊢
  split at h
  · rename_i hw
    subst hw
    rcases e2 : t.readSegs segs d.data with ⟨r, u⟩
    rw [e2] at h
    dsimp only at h ⊢
    cases r <;> first
      | (simp only [Option.some.injEq, Prod.mk.injEq] at h; obtain ⟨rfl, rfl⟩ := h; rfl)
      | exact absurd h (by simp)
  · exact absurd h (by simp)

/-- Outside stand-alone operation a read of data changes nothing of itself. -/
theorem State.dataRead_host (s : State) (x : Handle) (d : CmdData) (h : s.pw.standalone = false) : s.dataRead x d = s := by
  have hb : (s.buffer x d).2 = s := by
    unfold State.buffer State.listBuffer State.listAt
    by_cases hc : x.chain = true <;> simp [h, hc]
  unfold State.dataRead State.readSegs
  simp [hb, h]
theorem walkFrom_known (pd : Nat) (e : BufEnd) (he : e.known = true) (ds : List DescElem) : ∀ (left i : Nat) (acc : List (Nat × Nat)),
    (walkFrom pd e ds left i acc).2.known = true := by
  induction ds with
  | nil => intro left i acc; unfold walkFrom; dsimp only; split <;> first | rfl | exact he
  | cons d ds ih =>
    intro left i acc
    unfold walkFrom
    repeat' split
    all_goals first | rfl | exact ih _ _ _

/-- A list that the host gives in full has a known end. -/
theorem State.listBuffer_known (s : State) (pd ptr count : Nat) (out : Bool) (d : CmdData) (bs : List Byte) (hs : s.pw.standalone = false)
    (hd : d.data = .ok bs) : (s.listBuffer pd ptr count out d).1.2.known = true := by
  unfold State.listBuffer State.listAt walkList
  simp only [hs, hd, Bool.false_and, Bool.false_eq_true, if_false]
  repeat' split
  all_goals first | rfl | exact walkFrom_known _ _ rfl _ _ _ _
/-- Outside stand-alone operation a walk of a list changes nothing of itself. -/
theorem State.listBuffer_host (s : State) (pd ptr count : Nat) (out : Bool) (d : CmdData) (hs : s.pw.standalone = false) :
    (s.listBuffer pd ptr count out d).2 = s := by
  unfold State.listBuffer State.listAt
  simp [hs]

end Sys2Proof.Machine
end

