-- ==== Sys2Proof/Laws/Row.lean ====
section
/-! SUPPORT. Laws of the fixed rows: the element set reads back, every other one keeps its value. -/

namespace Sys2Proof.Machine

variable {α : Type} {n : Nat}

theorem vmod_getD (v : Vector α n) (i j : Nat) (f : α → α) (d : α) :
    (vmod v i f).getD j d = if i = j ∧ j < n then f (v.getD j d) else v.getD j d := by
  unfold vmod
  split
  · rename_i h
    by_cases hj : j < n
    · by_cases hij : i = j
      · subst hij; simp [Vector.getD, h]
      · simp [Vector.getD, hij, hj, Vector.getElem_set]
    · have : i ≠ j := by omega
      simp [Vector.getD, this, hj]
  · rename_i h
    have : ¬ (i = j ∧ j < n) := by omega
    simp [this]

@[simp] theorem vset_getD (v : Vector α n) (i j : Nat) (x d : α) :
    (vset v i x).getD j d = if i = j ∧ j < n then x else v.getD j d := vmod_getD v i j _ d

end Sys2Proof.Machine
end

