-- ==== Sys2Proof/Laws/Ridge.lean ====
section
/-! SUPPORT. What a ridge bundle does: one lemma for a bundle that issues, one for an exception, and the cycles of a core. -/

namespace Sys2Proof.Machine

variable {s t : State} {c k n : Nat}

/-! ### Cores -/

theorem State.rc_updRc (s : State) (c k : Nat) (f : Rcore → Rcore) (hc : c < 8) :
    (s.updRc c f).rc k = if k = c then f (s.rc c) else s.rc k := by
  simp only [State.rc, State.updRc, vmod_getD]
  by_cases h : k = c
  · subst h; simp [hc]
  · simp [h, Ne.symm h]

@[simp] theorem State.rc_updRc_same (s : State) (f : Rcore → Rcore) (hc : c < 8) : (s.updRc c f).rc c = f (s.rc c) := by
  simp [State.rc_updRc _ _ _ _ hc]

@[simp] theorem State.updRc_fld (f : Rcore → Rcore) (F : Field) (i : Nat) : (s.updRc c f).fld F i = s.fld F i := rfl
@[simp] theorem State.updRc_mem (f : Rcore → Rcore) : (s.updRc c f).mem = s.mem := rfl
@[simp] theorem State.setF_rc (F : Field) (v i k : Nat) : (s.setF F v i).rc k = s.rc k := rfl
@[simp] theorem State.clrF_rc (F : Field) (v i k : Nat) : (s.clrF F v i).rc k = s.rc k := rfl

/-- One issue cycle of a core. -/
def Rcore.tick (r : Rcore) : Rcore := { r.settle (r.t + 1) with t := r.t + 1 }

/-- `n` issue cycles of a core. -/
def Rcore.ticks (r : Rcore) : Nat → Rcore
  | 0 => r
  | n + 1 => r.tick.ticks n

/-- The state changes only in register fields and cores, and of the cores only in core `c`. -/
def CoreOnly (c : Nat) (s t : State) : Prop := t = { s with rdg := t.rdg, regs := t.regs } ∧ ∀ k, k ≠ c → t.rc k = s.rc k

theorem CoreOnly.refl : CoreOnly c s s := ⟨rfl, fun _ _ => rfl⟩

theorem CoreOnly.trans {u : State} (h1 : CoreOnly c s t) (h2 : CoreOnly c t u) : CoreOnly c s u := by
  refine ⟨?_, fun k hk => (h2.2 k hk).trans (h1.2 k hk)⟩
  rw [h2.1, h1.1]

theorem CoreOnly.setF (h : CoreOnly c s t) (F : Field) (v i : Nat) : CoreOnly c s (t.setF F v i) :=
  h.trans ⟨rfl, fun _ _ => rfl⟩

theorem CoreOnly.addF (h : CoreOnly c s t) (F : Field) (v i : Nat) : CoreOnly c s (t.addF F v i) := by
  unfold State.addF; exact h.setF _ _ _

theorem CoreOnly.rCycles (h : CoreOnly c s t) (n : Nat) : CoreOnly c s (t.rCycles k n) := by
  unfold State.rCycles State.set64; exact (h.setF _ _ _).setF _ _ _

@[simp] theorem State.rCycles_rc : (s.rCycles c n).rc k = s.rc k := by unfold State.rCycles State.set64; rw [State.setF_rc, State.setF_rc]
@[simp] theorem State.addF_rc (F : Field) (v i k : Nat) : (s.addF F v i).rc k = s.rc k := by simp [State.addF]

theorem SameRegs.rCycles {ks : List Nat} (h : SameRegs ks s t) (n : Nat) (h1 : Reg.RDG_CYCLE_LO.key c ∈ ks) (h2 : Reg.RDG_CYCLE_HI.key c ∈ ks) :
    SameRegs ks s (t.rCycles c n) := by
  unfold State.rCycles State.set64; exact (h.setF h1).setF h2

theorem SameRegs.addF {ks : List Nat} (h : SameRegs ks s t) {F : Field} {v i : Nat} (hF : F.key i ∈ ks) : SameRegs ks s (t.addF F v i) := by
  unfold State.addF; exact h.setF hF

/-- Fields of one core's control block whose lowest keys differ keep apart. -/
theorem key_ne_lohi (c : Nat) : Reg.RDG_CYCLE_HI.key c ≠ Reg.RDG_CYCLE_LO.key c := by
  simp [Field.key, Field.addr, Reg.RDG_CYCLE_HI, Reg.RDG_CYCLE_LO]

theorem State.rCycles_fld64 : (s.rCycles c n).fld64 Reg.RDG_CYCLE_LO Reg.RDG_CYCLE_HI c =
    (s.fld64 Reg.RDG_CYCLE_LO Reg.RDG_CYCLE_HI c + n) % 2 ^ 64 := by
  unfold State.rCycles State.set64
  generalize s.fld64 Reg.RDG_CYCLE_LO Reg.RDG_CYCLE_HI c + n = v
  unfold State.fld64
  rw [State.fld_setF_same, State.fld_setF_other _ _ _ _ _ _ (key_ne_lohi c), State.fld_setF_same]
  rw [show Reg.RDG_CYCLE_LO.width = 32 from rfl, show Reg.RDG_CYCLE_HI.width = 32 from rfl]
  omega

theorem State.rCycles_fld {F : Field} {i : Nat} (h1 : Reg.RDG_CYCLE_LO.key c ≠ F.key i) (h2 : Reg.RDG_CYCLE_HI.key c ≠ F.key i) :
    (s.rCycles c n).fld F i = s.fld F i := by
  unfold State.rCycles State.set64
  rw [State.fld_setF_other _ _ _ _ _ _ h2, State.fld_setF_other _ _ _ _ _ _ h1]

theorem CoreOnly.updRc (h : CoreOnly c s t) (hc : c < 8) (f : Rcore → Rcore) : CoreOnly c s (t.updRc c f) :=
  h.trans ⟨rfl, fun k hk => by simp [State.rc_updRc _ _ _ _ hc, hk]⟩

theorem CoreOnly.mem (h : CoreOnly c s t) : t.mem = s.mem := by rw [h.1]

theorem State.rControl_coreOnly (t : Nat) : CoreOnly k s (s.rControl c t) ∧ (s.rControl c t).rdg = s.rdg := by
  unfold State.rControl
  generalize (s.rc c).flight.filter (fun w => w.due == t) = ws
  induction ws generalizing s with
  | nil => exact ⟨.refl, rfl⟩
  | cons w ws ih =>
    simp only [List.foldl_cons]
    refine ⟨.trans ?_ ih.1, ih.2.trans ?_⟩
    all_goals (split <;> first | rfl | exact CoreOnly.refl | exact CoreOnly.refl.setF _ _ _)

theorem State.rTick_coreOnly (hc : c < 8) : CoreOnly c s (s.rTick c) := by
  unfold State.rTick
  exact CoreOnly.updRc (State.rControl_coreOnly _).1 hc _

theorem State.rTick_rc (hc : c < 8) : (s.rTick c).rc c = (s.rc c).tick := by
  have h : ∀ k, (s.rControl c ((s.rc c).t + 1)).rc k = s.rc k := by
    intro k; unfold State.rc; rw [(State.rControl_coreOnly (k := 0) _).2]
  simp [State.rTick, State.rc_updRc_same _ _ hc, h, Rcore.tick]

theorem State.rTicks_rc (hc : c < 8) (n : Nat) : (s.rTicks c n).rc c = (s.rc c).ticks n := by
  induction n generalizing s with
  | zero => rfl
  | succ n ih => simp [State.rTicks, Rcore.ticks, ih, State.rTick_rc hc]

theorem State.rTicks_coreOnly (hc : c < 8) (n : Nat) : CoreOnly c s (s.rTicks c n) := by
  induction n generalizing s with
  | zero => exact .refl
  | succ n ih => exact (State.rTick_coreOnly hc).trans ih

/-- A cycle in which no result reaches IEN or IPEND changes the core alone. -/
theorem State.rTick_eq (h : ∀ w ∈ (s.rc c).flight, w.due = (s.rc c).t + 1 → w.dest ≠ .ien ∧ w.dest ≠ .ipend) :
    s.rTick c = s.updRc c Rcore.tick := by
  have hc : s.rControl c ((s.rc c).t + 1) = s := by
    unfold State.rControl
    have : ∀ w ∈ (s.rc c).flight.filter (fun w => w.due == (s.rc c).t + 1), w.dest ≠ .ien ∧ w.dest ≠ .ipend := by
      intro w hw; simp only [List.mem_filter, beq_iff_eq] at hw; exact h w hw.1 hw.2
    generalize (s.rc c).flight.filter (fun w => w.due == (s.rc c).t + 1) = ws at this
    induction ws with
    | nil => rfl
    | cons w ws ih =>
      have hw := this w (by simp)
      simp only [List.foldl_cons]
      split <;> simp_all
  simp only [State.rTick, hc]
  unfold State.updRc vmod
  split
  · simp only [State.rc, Vector.getD, Rcore.tick]; simp [*]
  · rfl

/-! ### Results keep the place of the core -/

theorem Rcore.putReg_pc (r : Rcore) (x : RDest) (v : Int) : (r.putReg x v).pc = r.pc := by
  cases x <;> simp only [Rcore.putReg, Rcore.putLoop] <;> split <;> rfl

theorem Rcore.land_pc (x : Rcore × Bool × Bool) (w : RWrite) : (Rcore.land x w).1.pc = x.1.pc := by
  unfold Rcore.land
  split
  split <;> simp [Rcore.putReg_pc]

theorem Rcore.settle_pc (r : Rcore) (t : Nat) : (r.settle t).pc = r.pc := by
  have : ∀ (ws : List RWrite) (x : Rcore × Bool × Bool), (ws.foldl Rcore.land x).1.pc = x.1.pc := by
    intro ws; induction ws with
    | nil => intro x; rfl
    | cons w ws ih => intro x; simp [ih, Rcore.land_pc]
  simp [Rcore.settle, this]

@[simp] theorem Rcore.tick_pc (r : Rcore) : r.tick.pc = r.pc := by simp [Rcore.tick, Rcore.settle_pc]

@[simp] theorem Rcore.commit_pc (r : Rcore) (b : RBundle) : (r.commit b).pc = r.pc := by
  simp only [Rcore.commit]
  split <;> simp [Rcore.putLoop]; split <;> rfl

@[simp] theorem Rcore.commit_t (r : Rcore) (b : RBundle) : (r.commit b).t = r.t := by
  simp only [Rcore.commit]
  split <;> simp [Rcore.putLoop]; split <;> rfl

@[simp] theorem Rcore.commit_flight (r : Rcore) (b : RBundle) : (r.commit b).flight = r.flight ++ b.writes := by
  simp only [Rcore.commit]
  split <;> simp [Rcore.putLoop]; split <;> rfl

@[simp] theorem Rcore.bundle_commit (r : Rcore) (b x : RBundle) : ({ r with bundle := x } : Rcore).commit b = r.commit b := rfl

/-- The core with its next bundle at `pc`. -/
def Rcore.at' (r : Rcore) (pc : Nat) : Rcore := { r with pc := pc }

/-! ### Bundles -/

/-- The bundle before its first operation. -/
def RBundle.first : RBundle := { RBundle.reset with begun := true }

/-- The bundle a ready core is given, without an exception, takes effect. -/
theorem State.rOp_commit {c : Fin 8} {f : Rcore → RBundle → RBundle} {b : RBundle} (h : s.coreReady c) (hb : f (s.rc c.val) RBundle.first = b)
    (h1 : b.twice = false) (h2 : b.exc = none) (h3 : b.access = none) :
    s.rOp c true f = (s.updRc c.val (fun r => { r with bundle := b })).rCommit c.val b := by
  obtain ⟨hr, hh, hl, hn⟩ := h
  have e : s.updRc c.val (fun r => { r with bundle := f r { r.bundle with begun := true } }) = s.updRc c.val (fun r => { r with bundle := b }) := by
    unfold State.updRc vmod
    split
    · congr 1
      simp only [State.rc, Vector.getD] at hn hb
      simp_all [RBundle.first]
    · rfl
  simp only [State.rOp, hr, hh, State.rLoopEnd, hl, Bool.not_true, Bool.not_false, Bool.or_false, Bool.false_eq_true, if_false, if_true, e]
  simp only [State.rIssue, State.rc_updRc_same _ _ c.isLt, h1, Bool.false_eq_true, if_false, h2, h3]

/-- The bundle a ready core is given, with an exception. -/
theorem State.rOp_except {c : Fin 8} {f : Rcore → RBundle → RBundle} {b : RBundle} {e : Nat × Option Nat} (h : s.coreReady c)
    (hb : f (s.rc c.val) RBundle.first = b) (h1 : b.twice = false) (h2 : b.exc = some e) :
    s.rOp c true f = (s.updRc c.val (fun r => { r with bundle := b })).rExcept c.val e.1 (s.rc c.val).pc e.2 := by
  obtain ⟨hr, hh, hl, hn⟩ := h
  have e' : s.updRc c.val (fun r => { r with bundle := f r { r.bundle with begun := true } }) = s.updRc c.val (fun r => { r with bundle := b }) := by
    unfold State.updRc vmod
    split
    · congr 1
      simp only [State.rc, Vector.getD] at hn hb
      simp_all [RBundle.first]
    · rfl
  simp only [State.rOp, hr, hh, State.rLoopEnd, hl, Bool.not_true, Bool.not_false, Bool.or_false, Bool.false_eq_true, if_false, if_true, e']
  simp only [State.rIssue, State.rc_updRc_same _ _ c.isLt, h1, Bool.false_eq_true, if_false, h2]

/-- A bank used less than eight cycles running is noted and nothing else happens. -/
theorem State.bankUse_eq {k : Nat} (h : (s.rc c).spare k) : s.bankUse c k = s.updRc c (fun r => r.uses k) := by
  have hn : (if (s.rc c |>.used.getD k (0, 0)).1 + 1 = (s.rc c).t then ((s.rc c).used.getD k (0, 0)).2 + 1 else 1) < 8 := by
    split
    · rename_i e; have := h e; omega
    · omega
  unfold State.bankUse
  simp only [hn, if_true]
  unfold State.updRc vmod
  split
  · simp [State.rc, Rcore.uses, Vector.getD, *]
  · rfl

@[simp] theorem Rcore.uses_t (r : Rcore) (k : Nat) : (r.uses k).t = r.t := rfl
@[simp] theorem Rcore.uses_pc (r : Rcore) (k : Nat) : (r.uses k).pc = r.pc := rfl
@[simp] theorem Rcore.uses_flight (r : Rcore) (k : Nat) : (r.uses k).flight = r.flight := rfl

/-- The use of one bank leaves the other one's. -/
theorem Rcore.uses_spare (r : Rcore) {j k : Nat} (h : j ≠ k) (hk : r.spare k) : (r.uses j).spare k := by
  unfold Rcore.spare Rcore.uses at *
  simpa [h] using hk

@[simp] theorem Rcore.usesAll_t (r : Rcore) (ks : List Nat) : (ks.foldl Rcore.uses r).t = r.t := by
  induction ks generalizing r with
  | nil => rfl
  | cons k ks ih => simp [ih]
@[simp] theorem Rcore.usesAll_pc (r : Rcore) (ks : List Nat) : (ks.foldl Rcore.uses r).pc = r.pc := by
  induction ks generalizing r with
  | nil => rfl
  | cons k ks ih => simp [ih]
@[simp] theorem Rcore.usesAll_flight (r : Rcore) (ks : List Nat) : (ks.foldl Rcore.uses r).flight = r.flight := by
  induction ks generalizing r with
  | nil => rfl
  | cons k ks ih => simp [ih]
theorem Rcore.usesAll_bundle (r : Rcore) (ks : List Nat) (b x : RBundle) :
    (ks.foldl Rcore.uses { r with bundle := x }).commit b = (ks.foldl Rcore.uses r).commit b := by
  have : ∀ (ks : List Nat) (r : Rcore), ks.foldl Rcore.uses { r with bundle := x } = { ks.foldl Rcore.uses r with bundle := x } := by
    intro ks; induction ks with
    | nil => intro r; rfl
    | cons k ks ih => intro r; exact ih (r.uses k)
  rw [this, Rcore.bundle_commit]

theorem State.updRc_updRc (f g : Rcore → Rcore) : (s.updRc c f).updRc c g = s.updRc c (fun r => g (f r)) := by
  unfold State.updRc vmod
  split <;> simp

theorem State.updRc_fold (f : Rcore → Nat → Rcore) (ks : List Nat) :
    ks.foldl (fun (s : State) k => s.updRc c (fun r => f r k)) s = s.updRc c (fun r => ks.foldl f r) := by
  induction ks generalizing s with
  | nil => simp only [List.foldl_nil]; unfold State.updRc vmod; split <;> simp
  | cons k ks ih => simp only [List.foldl_cons, ih, State.updRc_updRc]

/-- The banks of a bundle, each spare, are noted. -/
theorem State.bankUses_eq (hc : c < 8) {ks : List Nat} (hn : ks.Nodup) (h : ∀ k ∈ ks, (s.rc c).spare k) :
    ks.foldl (fun (s : State) k => s.bankUse c k) s = s.updRc c (fun r => ks.foldl Rcore.uses r) := by
  induction ks generalizing s with
  | nil => simp only [List.foldl_nil]; unfold State.updRc vmod; split <;> simp
  | cons k ks ih =>
    rw [List.nodup_cons] at hn
    simp only [List.foldl_cons]
    rw [State.bankUse_eq (h k (by simp)), ih hn.2, State.updRc_updRc]
    intro j hj
    rw [State.rc_updRc_same _ _ hc]
    exact Rcore.uses_spare _ (fun e => hn.1 (e ▸ hj)) (h j (by simp [hj]))

theorem SameRegs.setF_of_mem {ks : List Nat} (h : SameRegs ks s t) (F : Field) (v i : Nat) (hF : F.key i ∈ ks) : SameRegs ks s (t.setF F v i) :=
  h.setF hF

/-- The results of a bundle given to a core that has none in flight reach no interrupt register in the next cycle. -/
def RBundle.quiet (b : RBundle) (t : Nat) : Prop := ∀ w ∈ b.writes, w.due = t + 1 → w.dest ≠ .ien ∧ w.dest ≠ .ipend

theorem Bundles.of_go {i : Instr} {c : Fin 8} {f : Rcore → RBundle → RBundle} {b : RBundle} {lam : Nat} {q u : Rcore} (h : s.coreLone c)
    (he : exec i s = .next (s.rOp c true f)) (hb : f (s.rc c.val) RBundle.first = b)
    (h1 : b.twice = false) (h2 : b.exc = none) (h3 : b.access = none) (h4 : b.target = none) (h5 : b.fin = .go)
    (hk : b.banks.Nodup) (hs : ∀ k ∈ b.banks, (s.rc c.val).spare k) (hu : b.banks.foldl Rcore.uses (s.rc c.val) = u)
    (h6 : (u.commit b).atEnd = false) (h7 : b.quiet (s.rc c.val).t)
    (hq : ((u.commit b).tick.at' ((s.rc c.val).pc + 8)).ticks (lam - 1) = q) : Bundles i s c 1 lam q := by
  obtain ⟨hr, hf, -, hp, hp8⟩ := h
  rw [State.rOp_commit hr hb h1 h2 h3] at he
  refine ⟨_, he, ?_⟩
  have hut : u.t = (s.rc c.val).t := by subst hu; simp
  have hup : u.pc = (s.rc c.val).pc := by subst hu; simp
  have huf : u.flight = [] := by subst hu; simp [hf]
  generalize hB : s.updRc c.val (fun r => b.banks.foldl Rcore.uses { r with bundle := b }) = B
  have hBc : B.rc c.val = b.banks.foldl Rcore.uses { s.rc c.val with bundle := b } := by subst hB; simp
  have hBb : b.banks.foldl (fun (s : State) k => s.bankUse c.val k) (s.updRc c.val (fun r => { r with bundle := b })) = B := by
    rw [State.bankUses_eq c.isLt hk, State.updRc_updRc, hB]
    intro k hkb
    rw [State.rc_updRc_same _ _ c.isLt]
    exact hs k hkb
  have hcm : (B.rc c.val).commit b = u.commit b := by rw [hBc, Rcore.usesAll_bundle, hu]
  have hBp : (B.rc c.val).pc = (s.rc c.val).pc := by rw [hBc]; simp
  generalize hA : ((B.setF Reg.RDG_PC (s.rc c.val).pc c.val).addF Reg.RDG_ECC b.ecc c.val).updRc c.val (fun r => r.commit b) = A
  have hAc : A.rc c.val = u.commit b := by subst hA; simp [State.addF, hcm]
  have hAo : CoreOnly c.val s A := by
    subst hA hB
    exact ((((CoreOnly.refl.updRc c.isLt _).setF _ _ _).addF _ _ _).updRc c.isLt _)
  have hcom : (s.updRc c.val (fun r => { r with bundle := b })).rCommit c.val b =
      ((A.updRc c.val Rcore.tick).rCycles c.val 1).updRc c.val (fun r => r.at' ((s.rc c.val).pc + 8)) := by
    unfold State.rCommit
    simp only [hBb, hBp, hA, State.rNextBundle, h5, h4, hAc, h6, Bool.false_eq_true, if_false]
    rw [State.rTick_eq (by rw [hAc, Rcore.commit_flight, huf, Rcore.commit_t, hut]; exact h7)]
    have h9 : ((A.updRc c.val Rcore.tick).rCycles c.val 1).rc c.val = (u.commit b).tick := by
      simp [hAc]
    unfold Fetchable at hp8
    simp only [State.rGo, h9, Rcore.tick_pc, Rcore.commit_pc, hup]
    rw [if_neg (by omega), if_neg (by omega)]
    rfl
  rw [hcom]
  have hco : CoreOnly c.val s (((A.updRc c.val Rcore.tick).rCycles c.val 1).updRc c.val (fun r => r.at' ((s.rc c.val).pc + 8))) :=
    (((hAo.updRc c.isLt _).rCycles _).updRc c.isLt _)
  refine ⟨?_, hco.1, hco.2, ?_, ?_, ?_⟩
  · rw [State.rTicks_rc c.isLt]; simp [hAc, hq]
  · subst hA hB
    refine SameRegs.of_eq_right (SameRegs.rCycles (SameRegs.of_eq_right ((SameRegs.setF (.of_eq rfl) ?_).addF ?_) rfl) _ ?_ ?_) rfl <;> simp
  · subst hA hB
    rw [State.updRc_fld, State.rCycles_fld, State.updRc_fld, State.updRc_fld, State.addF, State.fld_setF_other, State.fld_setF_same, Nat.mod_eq_of_lt]
    · unfold Fetchable at hp; rw [show Reg.RDG_PC.width = 32 from rfl]; omega
    all_goals simp [Field.key, Field.addr, Reg.RDG_CYCLE_HI, Reg.RDG_CYCLE_LO, Reg.RDG_PC, Reg.RDG_ECC]; try omega
  · subst hA hB
    have : ∀ u : State, (u.updRc c.val (fun r => r.at' ((s.rc c.val).pc + 8))).fld64 Reg.RDG_CYCLE_LO Reg.RDG_CYCLE_HI c.val =
      u.fld64 Reg.RDG_CYCLE_LO Reg.RDG_CYCLE_HI c.val := fun _ => rfl
    rw [this, State.rCycles_fld64]
    unfold State.fld64 State.addF
    rw [State.updRc_fld, State.updRc_fld, State.updRc_fld, State.updRc_fld, State.fld_setF_other, State.fld_setF_other, State.fld_setF_other, State.fld_setF_other]
    · rfl
    all_goals simp [Field.key, Field.addr, Reg.RDG_CYCLE_HI, Reg.RDG_CYCLE_LO, Reg.RDG_PC, Reg.RDG_ECC]; try omega

end Sys2Proof.Machine
end

