-- ==== Sys2Proof/Tests/Slice0.lean ====
section
/-! SUPPORT. Tests: ill-formed commands that the checks refuse, words and values written out in the spec, and for every statement with hypotheses a witness that something meets them. -/

namespace Sys2Proof.Tests

set_option Elab.async false

open Sys2Proof.Machine

/-! ### Small states -/

/-- A chip in RUN with its link up. -/
def run : State := { State.reset with pw := { Power.reset with mode := stRun, phase := .firmware, porLow := false, perstLow := false, linkUp := true, crs := false, sumMhz := 400, ref10m := true } }
/-- Changes of the power state. -/
def State.pwr (s : State) (f : Power → Power) : State := { s with pw := f s.pw }
/-- A command of one opcode with its parameters. -/
def hnd (i op : Nat) (ps : List Nat) : Handle :=
  { idx := i, gen := 1, op := op, flags := 0, tag := 7, wdog := 1000, ptr0 := 0x1000, len0 := 64, params := ps, sq := 0, cq := 0, order := 0,
    started := true, accepted := false, running := false, done := false }
def State.holds (s : State) (x : Handle) : State := { s with hq := { s.hq with handles := s.hq.handles ++ [x] } }
/-- The chip in RUN holding command 5. -/
def cmd (op : Nat) (ps : List Nat) : State := State.holds run (hnd 5 op ps)
/-- The boot ROM runs, in BOOT. -/
def boot : State := State.pwr run (fun p => { p with mode := stBoot, phase := .rom })
/-- The time base at `n`. -/
def State.time (s : State) (n : Nat) : State := { s with tb := { s.tb with now := n } }
/-- Register fields set: the field, its index and value. -/
def State.sets (s : State) (l : List (Field × Nat × Nat)) : State := l.foldl (fun (s : State) x => s.setF x.1 x.2.2 x.2.1) s
/-- Queue 0 enabled with one entry to fetch. -/
def queue : State := State.sets run [(Reg.HQE_CTL_EN0, 0, 1), (Reg.HQE_CTL_EN1, 0, 1), (Reg.SQ_CFG_EN, 0, 1), (Reg.CQ_CFG_EN, 0, 1), (Reg.SQ_STATUS_TAIL, 0, 1)]
/-- Changes of the queue engines and of the acquisition. -/
def State.hqe (s : State) (f : Hqe → Hqe) : State := { s with hq := f s.hq }
def State.probe (s : State) (f : Acq → Acq) : State := { s with acq := f s.acq }
/-- A command with a buffer of `n` bytes. -/
def buf (op : Nat) (ps : List Nat) (n : Nat) : Handle := { hnd 5 op ps with len0 := n }
/-- A command with a list of `n` elements. -/
def listed (op n : Nat) : Handle := { hnd 5 op [] with flags := 2, len0 := n }
/-- MSI-X enabled. -/
def msixOn : Store Nat := [(0x102, 0x80000000)]
/-- In D0 with a data write and two vectors kept. -/
def resumes : State := State.hqe (State.sets { run with hostHeld := [(0, ⟨0x1000, [1], false⟩)] } [(Reg.HQE_CTL_EN0, 0, 1)]) (fun q => { q with pba := [0, 63], cfg := msixOn, msix := [] })
/-- Data read from the host. -/
def data (bs : List Byte) : CmdData := ⟨[], .ok bs⟩
/-- A plan of one tone, at the least frame and window, and its record. -/
def plan : Plan :=
  { stagger := 0, frameTicks := 2000, window := 64, winOfs := 0, lead := 1, lag := 1, align := false, userRef := false, div := 1, gauge := 1, alignM := 0, ng := 14000,
    tones := [{ lane := 72, depth := 1, slot := 0, down := false, fKhz := 300000, bKhz := 160000, nc := 16, edge := 0, ampl := 1, shifts := 0 }] }
def planRec : List Byte :=
  leBytes 4 0x4E414C50 ++ leBytes 2 1 ++ leBytes 2 1 ++ leBytes 4 2000 ++ leBytes 4 64 ++ leBytes 2 0 ++ leBytes 2 257 ++ leBytes 4 0x10100 ++ leBytes 40 14000 ++
  leBytes 4 0x148 ++ leBytes 4 300000 ++ leBytes 4 160000 ++ leBytes 20 0x10010
/-- An acquisition of that plan runs. -/
def acquires : State := State.probe run (fun a => { a with run := some (1, plan), handle := some 9, plans := [(1, plan)], inFrame := true, fired := 1 })
/-- A block and a stream of phase differences. -/
def blk : SBlock :=
  { stream := 0x109, kind := 0, frame := 0, stamp := 0, plan := 1, first := 0, points := 1, samples := 1, state := 0, tone := 0, nulls := false, reduced := false,
    age := 0, series := 0, step := 1, payload := [1, 2, 3, 4], groomed := false, through := false, k := 0, epoch := 0, epochEnd := 0 }
def strm : Stream :=
  { id := 0x109, handle := some 9, dest := .ring 0, kind := 0, first := 0, count := 1, mS := 1, mT := 1, groomed := false, k := 0, groups := [], open_ := none,
    ready := [blk], ovf := false, eps := [], delivered := 0, discarded := 0, closing := none }
def State.streams (s : State) (l : List Stream) : State := { s with red := { s.red with streams := l } }
/-- Ring 0 with one buffer in use. -/
def State.ring0 (s : State) (x : SrState) : State := { s with hq := { s.hq with srs := s.hq.srs.set 0 x } }
def cur (n : Nat) : CurBuf := ⟨⟨0x2000, 4096, 7⟩, n, 1⟩

/-! ### States: Registers -/

/-- A write of HQE_CTL waits in its crossing. -/
def crossing : State := { run with xing := [⟨3, 0x10000, (leBytes 4 (1 : Word).toNat).map some, .pcie, 0⟩] }

/-! ### States: Probe and plan -/

/-- The registers that ACQ_START needs. -/
def ready : List (Field × Nat × Nat) := [(Reg.PWR_STATUS_CONV_LOCK, 0, 1), (Reg.CAL_STATUS_LOADED, 0, 1)]

/-! ### States: Raman -/

/-- The shortest Raman record: one coil, one point, one slot. -/
def ramanRec : List Byte :=
  leBytes 4 0x4E4D5241 ++ leBytes 4 0x02000001 ++ leBytes 4 1 ++ leBytes 4 0 ++ leBytes 4 2000 ++ leBytes 4 2 ++ leBytes 4 0xFF000010 ++ leBytes 4 0 ++
  leBytes 4 0x10001 ++ leBytes 4 0 ++ leBytes 4 0 ++ leBytes 4 100000 ++ leBytes 4 0 ++ leBytes 4 0x0101 ++ leBytes 4 0 ++ leBytes 4 14000
def raman : DtsCfg := parseDts ramanRec
def State.raman (s : State) (f : Dts → Dts) : State := { s with dts := f s.dts }
/-- An average of 2¹⁰ shots runs. -/
def average : State := State.raman (State.sets run [(Reg.DTS_STATUS_STATE, 0, dtsAveraging)]) (fun d => { d with cfg := some raman, run := some ⟨some 9, 10, false⟩ })

/-! ### States: Captures -/

/-- A program of one gate that never matches. -/
def program : List Byte :=
  leBytes 4 0x4D4C4C53 ++ leBytes 12 0x10001 ++ leBytes 4 0xE6 ++ leBytes 4 1 ++ leBytes 4 0 ++ leBytes 4 0x1F1F ++ leBytes 4 0 ++ leBytes 4 0 ++ leBytes 4 0 ++
  leBytes 4 1 ++ leBytes 16 0x10001
def State.slalom (s : State) (f : Slm → Slm) : State := { s with slm := f s.slm }
/-- Armed at gate 15. -/
def armed : State := State.slalom (State.sets run [(Reg.SLM_STATUS_ARMED, 0, 1), (Reg.SLM_STATUS_GATE, 0, 15)]) (fun x => { x with loaded := true, handle := some 9 })
/-- A stored capture of no blocks. -/
def cap : Cap :=
  { id := 1, slot := 0, order := 0, stored := true, handle := 5, gate := 0, host := true, lift := false, extended := false, preShort := false, truncated := false, lost := false, ovf := false,
    oos := false, trigger := 0, start := 0, stop := 0, first := 0, points := 1, avg := 0x10001, ended := true, liftWait := none, extWait := none, early := none, limit := none, next := 0, base := 0, bytes := 0,
    blocks := 0, data := [], plans := [] }
/-- The glacier ring runs beside an acquisition. -/
def glacier : State := State.sets acquires [(Reg.SLM_GL_CTL_RUN, 0, 1), (Reg.MEM_RGN_ESIZE, 0, 1), (Reg.MEM_RGN_ESIZE, 1, 1)]
def feed : Stream := { strm with id := 0, handle := none, dest := .glacier }

/-! ### States: Groomer -/

/-- Slot 63 SAVED, with a context of zeros but for its check value `c`. -/
def ctxMem (c : Nat) : Memory := Memory.writeN [] 2613308 (leBytes 4 c)
def saved (c : Nat) : State :=
  { State.sets (cmd 0x42 [63]) [(Reg.GRM_SLOT_STATE, 3, 0x80000000), (Reg.MEM_RGN_ESIZE, 2, 3)] with
    mem := { Memories.reset with ext := ctxMem c } }
theorem ctxMem_zeros (c a n : Nat) (h : a + n ≤ 2613308 ∨ 2613312 ≤ a) : (ctxMem c).readN a n = zeros n := by
  apply Memory.readN_zeros
  intro b h1 h2
  unfold ctxMem
  rw [Memory.read_writeN_other _ _ _ _ (by simp only [leBytes_length]; omega)]
  rfl
theorem ctxMem_code (c : Nat) : (ctxMem c).readN 2613308 4 = leBytes 4 c := by
  have h := Memory.readN_writeN [] 2613308 (leBytes 4 c)
  rw [leBytes_length] at h
  rw [ctxMem, h]
theorem saved_ctx_good (c : Nat) (hc : crc32c (zeros 60 ++ zeros 8128) = c) : ctxGood ((saved c).extGet ((saved c).ctxOfs 63) 40960) = true := by
  have h0 : (saved c).ctxOfs 63 = 2580480 := (show (saved 0).ctxOfs 63 = 2580480 by decide)
  have h1 (a n : Nat) : (saved c).extGet a n = (ctxMem c).readN a n := rfl
  rw [h0, h1, ctxGood, field, Memory.readN_part _ _ _ _ _ (by omega), Memory.readN_part _ _ _ _ _ (by omega), Memory.readN_part _ _ _ _ _ (by omega),
    ctxMem_code, ctxMem_zeros _ _ _ (by omega), ctxMem_zeros _ _ _ (by omega), leNat_leBytes, hc, Nat.mod_eq_of_lt (by rw [← hc]; exact crc32c_lt _)]
  exact beq_self_eq_true _
def job : GJob :=
  { handle := 5, op := 0x40, compress := true, inst := some 0, level := 0, k := 0, pred := 0, qmode := 0, elem := 3, stride := 1, slot := some 63, inList := 0x1000,
    inElems := 1, ins := [(0x4000, 65536)], inEnd := .whole, inDone := 0, outDone := 0, outs := [(0x8000, 65560)], outEnd := .whole, hist := [], a := 0, n := 0,
    eps := [], begun := false, plain := false }

/-! ### States: Ridge cores -/

/-- Core 0 runs at 0x10100, with pointers at the ends of the memories. -/
def core : State :=
  State.updRc (State.sets run [(Reg.RDG_STATUS, 0, rRunning)]) 0 (fun r =>
    { r with pc := 0x10100, bank := { r.bank with p := #v[0x20000, 0x3FFF8, 0x20002, 0x1000] }, phi := #v[0x2FFF8, 0x1FFF8, 0, 0] })
def State.core0 (s : State) (f : Rcore → Rcore) : State := State.updRc s 0 f
theorem core_lone : core.coreLone 0 := by unfold State.coreLone State.coreReady Fetchable; decide
/-- The halves of the registers of core 0. -/
def halves (x : Fin 32) (hi : Bool) : Int := if hi then (((core.rc 0).word x).extractLsb' 16 16).toInt else (((core.rc 0).word x).extractLsb' 0 16).toInt

/-! ### States: Ridge images -/

/-- A ridge image of one section of 8 bytes at the end of data memory, with check value `c`. -/
def image (c : Nat) : List Byte :=
  leBytes 4 0x47444952 ++ leBytes 2 1 ++ leBytes 2 1 ++ leBytes 4 0x1FFF8 ++ leBytes 4 56 ++ leBytes 12 0 ++ leBytes 4 c ++ leBytes 4 1 ++ leBytes 4 0x3FFF8 ++
  leBytes 4 8 ++ leBytes 4 0 ++ leBytes 8 0x0102030405060708

/-! ### States: Memory -/

/-- One MiB of external memory. -/
def memory : State := State.sets run [(Reg.MEM_SIZE, 0, 1)]
def State.mctl (s : State) (f : Mc → Mc) : State := { s with mc := f s.mc }

/-! ### States: Cairn -/

/-- The sequencer runs at word 14 of a program of 16. -/
def cairn : State := { State.sets run [(Reg.CRN_STATUS_STATE, 0, crnRunning), (Reg.CRN_PC, 0, 14)] with crn := { run.crn with words := 16 } }
def watch (s : State) : State := State.pwr s (fun p => { p with mode := stWatch })
def State.vbat (s : State) (f : Vbat → Vbat) : State := { s with vb := f s.vb }

/-! ### States: Slow converters -/

/-- The shortest record of a slow channel. -/
def sadRec : List Byte := leBytes 4 0x44415353 ++ leBytes 4 0x03000001 ++ leBytes 40 256
def State.slow (s : State) (f : Sad → Sad) : State := { s with sad := f s.sad }

/-! ### States: Sources -/

/-- A binning record at its limits, with the cooler between 25 °C and 25.01 °C. -/
def binRec : List Byte :=
  leBytes 4 0x4E494250 ++ leBytes 4 1 ++ leBytes 4 2000 ++ leBytes 4 1 ++ leBytes 4 0 ++ leBytes 4 1 ++ leBytes 4 0 ++ leBytes 4 2000 ++ leBytes 4 20000 ++
  leBytes 2 2500 ++ leBytes 2 2501
/-- The cooler parts of a record: LAMBDA_TGT, TEC_LO and TEC_HI. -/
def binTec (a b c : Nat) : List Byte := zeros 20 ++ leBytes 4 100 ++ leBytes 4 a ++ zeros 8 ++ leBytes 2 b ++ leBytes 2 c
def State.source (s : State) (f : Src → Src) : State := { s with src := f s.src }
/-- Pump 3 with a record. -/
def pump3 (f : Pump → Pump) : State := State.source run (fun a => { a with pumps := a.pumps.set 3 (f { Pump.reset with record := some ⟨2000, 1, 2000, 20000⟩ }) })

/-! ### States: Timing -/

def State.timing (s : State) (f : Tiu → Tiu) : State := { s with tiu := f s.tiu }
/-- A section record at its limits. -/
def secRec : List Byte :=
  leBytes 4 0x45544B53 ++ leBytes 4 0xFF020001 ++ leBytes 4 0 ++ leBytes 4 1 ++ leBytes 4 16 ++ leBytes 4 1000 ++ leBytes 4 1 ++ leBytes 4 0 ++ leBytes 8 1
def sec (h : Nat) : SkSec := parseSec secRec (some h)
/-- Section 0 runs for handle 9. -/
def skates : State := State.timing (State.sets acquires [(Reg.RED_E_STATUS, 0, 1), (Reg.TIU_IN_CFG_ELEC, 2, 1)]) (fun a => { a with secs := a.secs.set 0 (some (sec 9)) })
theorem run_no_section (s : State) (h : s.tiu.secs = Vector.replicate 4 none) (j : Nat) : s.runningSec j = none := by
  unfold State.runningSec State.sec?
  rw [h]
  by_cases hj : j < 4 <;> simp [Vector.getD, hj]

/-! ### States: Check units -/

def State.patrol (s : State) (f : Pat → Pat) : State := { s with pat := f s.pat }
/-- Node 31 of the patrol link, and the check value of its poll. -/
def node : State := State.sets run [(Reg.PAT_CTL_ADDR, 0, 31)]
def pollCode (c : Byte) : Byte := BitVec.ofNat 8 (crc8 [31, 255, c])

/-! ### States: Panel -/

/-- A timing record: pixels a line and in front of it, lines, and the stride. -/
def timing (w fp v st : Nat) : List Byte :=
  leBytes 4 0x544C4E50 ++ leBytes 4 1 ++ leBytes 4 25000 ++ leBytes 2 w ++ leBytes 2 fp ++ leBytes 4 0x10001 ++ leBytes 2 v ++ leBytes 4 0x10001 ++ leBytes 2 1 ++ leBytes 4 st
def State.panel (s : State) (f : Pnl → Pnl) : State := { s with pnl := f s.pnl }
/-- A panel with a stored record and its region, in a state of PNL_STATUS. -/
def panel (st : Nat) : State := State.panel (State.sets run [(Reg.PNL_STATUS_STATE, 0, st), (Reg.MEM_RGN_ESIZE, 6, 16)]) (fun p => { p with pclk := some 25000 })

/-! ### States: Calibration -/

def State.calib (s : State) (f : Cal → Cal) : State := { s with cal := f s.cal }

/-! ### States: Images, signatures and the journal -/

/-- The hash of the public key of the signed images below, which twice the base point of the curve gives. -/
def keyHash : Nat := 0x728F0B1F7C8F999347DCA33C1964CF745779012692830EDC267075562DC31278439732D095AD7C6363EB54EB284BC8E4
/-- SHA-384 of nothing. -/
def noBytes : List Byte := beBytes 48 0x38B060A751AC96384CD9327EB1B1E36A21FDB71114BE07434C0CC7BF63F6E1DA274EDEBFE76F65FBD51AD2F14898B95B
theorem sha_nothing : sha384 [] = noBytes := by decide +kernel
/-- A loader manifest of one empty part, signed, alone in MRAM. -/
def loaderMan : List Byte :=
  leBytes 7 0x10001464D4847 ++ zeros 9 ++
  leBytes 48 0x61DF9552C7A9965BF8640EBE6EE8E04F9E6EB99FD107D251D634F4A659590289F0975BC545002669D9D2A37B0599D908 ++
  leBytes 48 0x800E940A701E50612DE2394DE943FD5F25B46A255F504E903EC46CBC75D875B274BA6DFDDFE8BFB7ED3C1B5BFAF1808E ++ zeros 32 ++
  leBytes 48 0x5BB99848F1D21AD5FB656FE7BFDE4E27DAE1F663BFC70C4C4307BE1411B7FD216AE3B1B17E32D94C3896AC51A760B038 ++ zeros 960 ++
  leBytes 48 0x31C80005C7E5D7020D582650AEBB08B4A66D56D340F2A4BE06CD2D2010399DCB987DDC5F7E3C796414FA6F60D4417A07 ++
  leBytes 48 0x644A13255B8CEB193B3EE98CEC6D05A36A13F623F3100D2ED8B5157D01EA11AC714819BE08BCEBCC9B40E5708E843079
@[irreducible] def loaderMem : Memory := Memory.writeN [] 0 loaderMan
theorem loader_digest : sha384 (loaderMan.take 1152) = beBytes 48 0x5C9D0A0291CFCDAA9DD0BB1D7A92DE236CFB4BE436E5877B457A00D5D0FE311328E4C4B6BDBE631C5B26C01898732557 := by decide +kernel
theorem loader_key : beNat (sha384 ((loaderMan.drop 16).take 96)) = keyHash := by decide +kernel
theorem loader_signed : signatureOk loaderMan = true := by unfold signatureOk; rw [loader_digest]; decide +kernel
theorem loader_length : loaderMan.length = 1248 := by decide +kernel
theorem loader_fields : field loaderMan 0 4 = 0x464D4847 ∧ field loaderMan 4 2 = 1 ∧ field loaderMan 6 1 = 1 ∧ partAt loaderMan 0 = ⟨0, 0, 0, 0, 0, noBytes⟩ := by
  decide +kernel
theorem loaderMem_read : loaderMem.readN 0 1248 = loaderMan := by
  have h := Memory.readN_writeN [] 0 loaderMan
  rw [loader_length] at h
  unfold loaderMem
  exact h
theorem loaderMem_above (n : Nat) : loaderMem.readN 0x40000 n = zeros n := by
  unfold loaderMem
  apply Memory.readN_zeros
  intro b h1 _
  exact Memory.read_writeN_other _ _ _ _ (.inr (by rw [loader_length]; omega))
/-- The boot ROM finds that loader. -/
def loaderBoot : State := { boot with mem := { Memories.reset with mram := loaderMem }, sum := { Summit.reset with key := keyHash } }
theorem loader_mram : loaderBoot.mem.mram = loaderMem := rfl
theorem loader_good : loaderBoot.loaderGood = true := by
  have k : loaderBoot.keyOk loaderMan = true := by
    unfold State.keyOk
    rw [loader_key]
    exact beq_self_eq_true _
  obtain ⟨f0, f1, f2, f3⟩ := loader_fields
  have h5 (o : Nat) : loaderMem.readN o 0 = [] := rfl
  unfold State.loaderGood
  simp only [loader_mram, loaderMem_read, k, loader_signed, f0, f1, f2, f3, h5, sha_nothing]
  simp
theorem loader_alone : loaderBoot.genValid = false := by
  unfold State.genValid State.genBytes
  simp only [loader_mram, loaderMem_above]
  decide +kernel
/-- The first bytes of a cairn part of one word. -/
def cairnStart : List Byte := leBytes 4 0x4E524143 ++ leBytes 4 1 ++ leBytes 4 1 ++ zeros 16
def cairnHead (c : Nat) : List Byte := cairnStart ++ leBytes 4 c
def cairnPart : List Byte := cairnHead 0xE02CF8A1 ++ zeros 1060
theorem zeros_add (a b : Nat) : zeros (a + b) = zeros a ++ zeros b := by unfold zeros; rw [List.replicate_add]

theorem cairn_crc0 : (zeros 106).foldl (crcByte 0) 0xF542BE56 = 0x67084386 := by decide +kernel
theorem cairn_crc1 : (zeros 106).foldl (crcByte 0) 0x67084386 = 0xEB4AAC89 := by decide +kernel
theorem cairn_crc2 : (zeros 106).foldl (crcByte 0) 0xEB4AAC89 = 0xC077C930 := by decide +kernel
theorem cairn_crc3 : (zeros 106).foldl (crcByte 0) 0xC077C930 = 0x147CEDE5 := by decide +kernel
theorem cairn_crc4 : (zeros 106).foldl (crcByte 0) 0x147CEDE5 = 0x3200557F := by decide +kernel
theorem cairn_crc5 : (zeros 106).foldl (crcByte 0) 0x3200557F = 0xDA832103 := by decide +kernel
theorem cairn_crc6 : (zeros 106).foldl (crcByte 0) 0xDA832103 = 0x79415282 := by decide +kernel
theorem cairn_crc7 : (zeros 106).foldl (crcByte 0) 0x79415282 = 0x44ACBF38 := by decide +kernel
theorem cairn_crc8 : (zeros 106).foldl (crcByte 0) 0x44ACBF38 = 0x8123EFDE := by decide +kernel
theorem cairn_crc9 : (zeros 106).foldl (crcByte 0) 0x8123EFDE = 0x1FD3075E := by decide +kernel
theorem crc_append (x y : List Byte) (a b c : Nat) (h1 : x.foldl (crcByte 0) (crcInit 0) = a) (h2 : y.foldl (crcByte 0) a = b)
    (h3 : b ^^^ crcXor 0 = c) : crc32c (x ++ y) = c := by
  subst h1 h2 h3
  unfold crc32c crc
  rw [List.foldl_append]
theorem zeros_fold (m n a b c : Nat) (h1 : (zeros m).foldl (crcByte 0) a = b) (h2 : (zeros n).foldl (crcByte 0) b = c) :
    (zeros (m + n)).foldl (crcByte 0) a = c := by rw [zeros_add, List.foldl_append, h1, h2]
theorem cairn_crc : crc32c (cairnHead 0 ++ zeros 1060) = 0xE02CF8A1 :=
  crc_append _ _ 0xF542BE56 0x1FD3075E _ (by decide +kernel)
    (zeros_fold 106 954 _ _ _ cairn_crc0 (zeros_fold 106 848 _ _ _ cairn_crc1 (zeros_fold 106 742 _ _ _ cairn_crc2 (zeros_fold 106 636 _ _ _ cairn_crc3
      (zeros_fold 106 530 _ _ _ cairn_crc4 (zeros_fold 106 424 _ _ _ cairn_crc5 (zeros_fold 106 318 _ _ _ cairn_crc6
        (zeros_fold 106 212 _ _ _ cairn_crc7 (zeros_fold 106 106 _ _ _ cairn_crc8 cairn_crc9))))))))) (by decide)
theorem cairnPart_length : cairnPart.length = 1092 := by
  unfold cairnPart
  rw [List.length_append, show (zeros 1060).length = 1060 from List.length_replicate, show (cairnHead 0xE02CF8A1).length = 32 by decide]
theorem cairnPart_ok : crnPartOk cairnPart = true := by
  have h : cairnPart.take 28 ++ zeros 4 ++ cairnPart.drop 32 = cairnHead 0 ++ zeros 1060 := by
    have a : cairnPart.take 28 = cairnStart := by
      unfold cairnPart cairnHead
      rw [List.append_assoc]
      exact List.take_left' (by decide)
    have b : cairnPart.drop 32 = zeros 1060 := List.drop_left' (by decide)
    rw [a, b]
    rfl
  have f : field cairnPart 8 2 = 1 ∧ field cairnPart 10 2 = 0 ∧ field cairnPart 0 4 = 0x4E524143 ∧ field cairnPart 4 2 = 1 ∧ field cairnPart 6 2 = 0 ∧
      field cairnPart 28 4 = 0xE02CF8A1 := by decide +kernel
  unfold crnPartOk
  rw [h, cairn_crc]
  simp [f, cairnPart_length]
theorem cairnPart_digest : sha384 cairnPart = beBytes 48 0xFB885F363EB88C587AE8091B37AB7BF28099A2F5A99A9224852ED29F1BA73A0441D3B3B41CE0C74BF79284FE90D250F3 := by decide +kernel
/-- The ridge image of above with its check value. -/
def ridgePart : List Byte := image 0x9BE6FD18
theorem ridgePart_length : ridgePart.length = 56 := by simp [ridgePart, image]
theorem ridgePart_digest : sha384 ridgePart = beBytes 48 0xF62266F2BB2823B1A390772A300AFA3E3E9B509CB61EC6AA24A95079345DCA3A75566F48690F813D2005E7996A680DCC := by decide +kernel
theorem ridgePart_ok : ridgeImage ridgePart = .ok 0x1FFF8 [⟨true, 0x1FFF8, leBytes 8 0x0102030405060708⟩] := by decide +kernel
/-- The manifest page of an image of generation 1, signed. -/
def page : List Byte :=
  leBytes 9 0x100050001464D4847 ++ zeros 4 ++
  leBytes 48 0x52C7A9965BF8640EBE6EE8E04F9E6EB99FD107D251D634F4A659590289F0975BC545002669D9D2A37B0599D908000030 ++
  leBytes 48 0xA701E50612DE2394DE943FD5F25B46A255F504E903EC46CBC75D875B274BA6DFDDFE8BFB7ED3C1B5BFAF1808E61DF95 ++ leBytes 3 0x800E94 ++ zeros 16 ++
  leBytes 1 0x1 ++ zeros 4 ++ leBytes 1 0x10 ++ zeros 6 ++
  leBytes 48 0xF1D21AD5FB656FE7BFDE4E27DAE1F663BFC70C4C4307BE1411B7FD216AE3B1B17E32D94C3896AC51A760B03800000001 ++
  leBytes 48 0x7950A924AAC61EB69C509B3E3EFA0A302A7790A3B12328BBF26622F60000000100000038000020000000FF025BB99848 ++
  leBytes 21 0x3CC0D686A99E705203D810F69486F56753ACA5D34 ++ zeros 4 ++
  leBytes 48 0x1CB4B3D341043AA71B9FD22E8524929AA9F5A29980F27BAB371B09E87A588CB83E365F88FB0000000100000444000010 ++
  leBytes 12 0x4F350D290FE8492F74BC7E0 ++ zeros 4 ++ leBytes 1 0x10 ++ zeros 6 ++
  leBytes 48 0xF1D21AD5FB656FE7BFDE4E27DAE1F663BFC70C4C4307BE1411B7FD216AE3B1B17E32D94C3896AC51A760B03800000001 ++ leBytes 5 0x55BB99848 ++
  zeros 4 ++ leBytes 1 0x10 ++ zeros 6 ++
  leBytes 48 0xF1D21AD5FB656FE7BFDE4E27DAE1F663BFC70C4C4307BE1411B7FD216AE3B1B17E32D94C3896AC51A760B03800000001 ++ leBytes 4 0x5BB99848 ++
  zeros 704 ++ leBytes 48 0x31C80005C7E5D7020D582650AEBB08B4A66D56D340F2A4BE06CD2D2010399DCB987DDC5F7E3C796414FA6F60D4417A07 ++
  leBytes 48 0xC12D75BD5EA005991941A0CAFDD5F468E2C6116A25247AEF6D7F9A16144C9262166AC18EC3F66E49886BBC7619F72D7 ++ zeros 2848
theorem page_length : page.length = 4096 := by decide +kernel
/-- The parts of the page. -/
def pageParts : List Part :=
  [⟨1, 0, 4096, 0, 1, noBytes⟩,
   ⟨2, 255, 8192, 56, 1, beBytes 48 0xF62266F2BB2823B1A390772A300AFA3E3E9B509CB61EC6AA24A95079345DCA3A75566F48690F813D2005E7996A680DCC⟩,
   ⟨3, 0, 4096, 1092, 1, beBytes 48 0xFB885F363EB88C587AE8091B37AB7BF28099A2F5A99A9224852ED29F1BA73A0441D3B3B41CE0C74BF79284FE90D250F3⟩,
   ⟨4, 0, 4096, 0, 1, noBytes⟩,
   ⟨5, 0, 4096, 0, 1, noBytes⟩]
theorem page_parts : manParts page = pageParts := by decide +kernel
theorem page_bad : manBad page = none := by decide +kernel
theorem page_bytes : manBytes page = 12288 := by decide +kernel
theorem page_gen : manGen page = 1 := by decide +kernel
theorem page_digest : sha384 (page.take 1152) = beBytes 48 0x77635A7C96529FA1E44046C78A4C3731DD215B04A591EDD6FEC57860B4084E9EBADA064BF2A1BEA42B7AC21C6FF952DC := by decide +kernel
theorem page_key : beNat (sha384 ((page.drop 16).take 96)) = keyHash := by decide +kernel
theorem page_signed : signatureOk page = true := by unfold signatureOk; rw [page_digest]; decide +kernel
/-- That image, staged whole. -/
@[irreducible] def stagedMem : Memory := ((Memory.writeN [] 0 page).writeN 4096 cairnPart).writeN 8192 ridgePart
theorem stagedMem_page : stagedMem.readN 0 4096 = page := by
  have h := Memory.readN_writeN [] 0 page
  rw [page_length] at h
  unfold stagedMem
  rw [Memory.readN_writeN_other _ _ _ _ _ (.inl (by omega)), Memory.readN_writeN_other _ _ _ _ _ (.inl (by omega)), h]
theorem stagedMem_cairn : stagedMem.readN 4096 1092 = cairnPart := by
  have h := Memory.readN_writeN (Memory.writeN [] 0 page) 4096 cairnPart
  rw [cairnPart_length] at h
  unfold stagedMem
  rw [Memory.readN_writeN_other _ _ _ _ _ (.inl (by omega)), h]
theorem stagedMem_ridge : stagedMem.readN 8192 56 = ridgePart := by
  have h := Memory.readN_writeN ((Memory.writeN [] 0 page).writeN 4096 cairnPart) 8192 ridgePart
  rw [ridgePart_length] at h
  unfold stagedMem
  exact h
theorem stagedMem_listed (e : Nat × Byte) (he : e ∈ stagedMem) : e.1 < 4096 ∨ (4096 ≤ e.1 ∧ e.1 < 5188) ∨ (8192 ≤ e.1 ∧ e.1 < 8248) := by
  unfold stagedMem at he
  rcases Memory.mem_writeN he with he | ⟨h1, h2⟩
  · rcases Memory.mem_writeN he with he | ⟨h1, h2⟩
    · rcases Memory.mem_writeN he with he | ⟨h1, h2⟩
      · cases he
      · rw [page_length] at h2; exact .inl (by omega)
    · rw [cairnPart_length] at h2; exact .inr (.inl ⟨h1, by omega⟩)
  · rw [ridgePart_length] at h2; exact .inr (.inr ⟨h1, by omega⟩)
def staged : State :=
  { State.sets (cmd 0x82 []) [(Reg.MEM_RGN_ESIZE, 5, 64)] with
    mem := { Memories.reset with ext := stagedMem }, sum := { Summit.reset with key := keyHash, stage := some ⟨12288, [0]⟩ } }
theorem staged_ext : staged.mem.ext = stagedMem := rfl
theorem staged_base : staged.rgnBase 5 = 0 := by decide
theorem staged_get (o n : Nat) : staged.stageGet o n = stagedMem.readN o n := by
  unfold State.stageGet State.extGet
  rw [staged_base, Nat.zero_add, staged_ext]
theorem staged_stray : staged.stageStray 12288 pageParts = none := by
  unfold State.stageStray
  rw [staged_base, staged_ext, Option.map_eq_none_iff, List.find?_eq_none]
  intro e he
  have k := stagedMem_listed e he
  simp [pageParts]
  omega
theorem staged_key : staged.keyOk page = true := by
  unfold State.keyOk
  rw [page_key]
  exact beq_self_eq_true _
theorem staged_generation : staged.journal.cgen = 0 := by decide +kernel
theorem staged_ok : staged.stageVerdict ⟨12288, [0]⟩ = .ok := by
  have h0 : (⟨12288, [0]⟩ : Staging).missing = none := by decide
  have h1 (o n : Nat) : staged.stagePoison o n = false := rfl
  have h5 (o : Nat) : stagedMem.readN o 0 = [] := rfl
  unfold State.stageVerdict
  simp only [h0, staged_get, stagedMem_page, h1, page_bad, page_bytes, page_gen, page_parts, staged_stray, staged_key, page_signed, staged_generation]
  simp [pageParts, State.stageParts, h1, h5, Part.good, staged_get, stagedMem_cairn, stagedMem_ridge, sha_nothing, cairnPart_digest, cairnPart_ok, ridgePart_digest, ridgePart_ok]
/-- A record followed by its check value is valid. -/
theorem withCrc_valid (x : List Byte) (n : Nat) (h : x.length = n) : field (withCrc x) n 4 = crc32c ((withCrc x).take n) := by
  subst h
  unfold withCrc field
  rw [List.drop_left, List.take_left]
  have k := leNat_leBytes 4 (crc32c x)
  rw [Nat.mod_eq_of_lt (show crc32c x < 256 ^ 4 from crc32c_lt x)] at k
  rw [List.take_of_length_le (by simp), k]
/-- The bytes of a companion part: one page of one byte. -/
def compBytes : List Byte := [0, 0, 2, 0, 16, 0, 1] ++ zeros 10
def compDigest : List Byte := beBytes 48 0x95DA7453A55BACBA3AD5E1E5574D4BA33CA1EAFAB8973C531DEE37BAEDA19B616960B61E0DD5066FA7AE68157F882772
/-- A journal that is VERIFIED, of an empty part and a companion part, alone in MRAM. -/
def journal : Journal := { state := 2, reason := 0, parts := 2, seq := 1, gen := 1, cgen := 0, manDigest := [], partDigests := noBytes ++ compDigest, types := [1, 6] }
@[irreducible] def journalMem : Memory := Memory.writeN [] 0x30000 journal.bytes
theorem journal_length : journal.bytes.length = 1024 := by decide +kernel
theorem journal_fields : field journal.bytes 0 4 = 0x4C4E524A ∧ (parseJournal journal.bytes).state = 2 ∧
    ((parseJournal journal.bytes).partDigests.drop 0).take 48 = noBytes ∧ ((parseJournal journal.bytes).partDigests.drop 48).take 48 = compDigest := by decide +kernel
theorem journal_valid : jrnValid journal.bytes = true := by
  unfold jrnValid
  rw [journal_fields.1, show field journal.bytes 1020 4 = crc32c (journal.bytes.take 1020) from withCrc_valid _ _ (by decide +kernel)]
  simp
theorem journalMem_read : journalMem.readN 0x30000 1024 = journal.bytes := by
  have k := Memory.readN_writeN [] 0x30000 journal.bytes
  rw [journal_length] at k
  unfold journalMem
  exact k
theorem journalMem_above (n : Nat) : journalMem.readN 0x30400 n = zeros n := by
  unfold journalMem
  apply Memory.readN_zeros
  intro b h1 _
  exact Memory.read_writeN_other _ _ _ _ (.inr (by rw [journal_length]; omega))
def verified : State := { run with mem := { Memories.reset with mram := journalMem } }
theorem verified_journal (s : State) (h : s.mem.mram = journalMem) : s.journal = parseJournal journal.bytes := by
  have h0 : s.jrnCopy 0 = journal.bytes := by
    unfold State.jrnCopy jrnAt
    rw [h]
    exact journalMem_read
  have h1 : s.jrnCopy 1 = zeros 1024 := by
    unfold State.jrnCopy jrnAt
    rw [h]
    exact journalMem_above _
  have h2 : jrnValid (zeros 1024) = false := by decide +kernel
  unfold State.journal State.jrnLive
  simp only [h0, h1, h2, journal_valid]
def State.summit (s : State) (f : Summit → Summit) : State := { s with sum := f s.sum }
/-- Part 0 of an activation is to be written. -/
def activates (l : List Nat) : State := State.summit verified (fun m => { m with act := some ⟨some 9, 0 :: l⟩ })
theorem zeros_part : partAt (zeros 4096) 0 = ⟨0, 0, 0, 0, 0, zeros 48⟩ := by decide +kernel
theorem activates_get (l : List Nat) : (activates l).actGet 0 4096 = zeros 4096 := Memory.readN_zeros [] _ _ (fun _ _ _ => rfl)
theorem activates_part (l : List Nat) : partAt ((activates l).actGet 0 4096) 0 = ⟨0, 0, 0, 0, 0, zeros 48⟩ := by
  rw [activates_get, zeros_part]
theorem activates_digest (l : List Nat) : sha384 ((activates l).actGet (partAt ((activates l).actGet 0 4096) 0).ofs (partAt ((activates l).actGet 0 4096) 0).len) =
    ((activates l).journal.partDigests.drop (48 * 0)).take 48 := by
  rw [activates_part, verified_journal _ rfl]
  exact sha_nothing.trans journal_fields.2.2.1.symm
/-- Part 1 of an activation is to be written, a companion's. -/
def companion (l : List Nat) : State :=
  { run with
    mem := { Memories.reset with mram := journalMem, ext := [(192, 6), (197, 16), (200, 17), (4098, 2), (4100, 16), (4102, 1)] }
    sum := { Summit.reset with act := some ⟨some 9, 1 :: l⟩ } }
theorem companion_part (l : List Nat) : partAt ((companion l).actGet 0 4096) 1 = ⟨6, 0, 4096, 17, 0, zeros 48⟩ := by
  show partAt (Memory.readN [(192, 6), (197, 16), (200, 17), (4098, 2), (4100, 16), (4102, 1)] 0 4096) 1 = _
  decide +kernel
theorem companion_get (l : List Nat) : (companion l).actGet (partAt ((companion l).actGet 0 4096) 1).ofs (partAt ((companion l).actGet 0 4096) 1).len = compBytes := by
  rw [companion_part]
  show Memory.readN [(192, 6), (197, 16), (200, 17), (4098, 2), (4100, 16), (4102, 1)] 4096 17 = _
  decide +kernel
theorem companion_digest (l : List Nat) : sha384 ((companion l).actGet (partAt ((companion l).actGet 0 4096) 1).ofs (partAt ((companion l).actGet 0 4096) 1).len) =
    ((companion l).journal.partDigests.drop (48 * 1)).take 48 := by
  rw [companion_get, verified_journal _ rfl]
  exact (by decide +kernel : sha384 compBytes = compDigest).trans journal_fields.2.2.2.symm
theorem companion_ok (l : List Nat) : compOk ((companion l).actGet (partAt ((companion l).actGet 0 4096) 1).ofs (partAt ((companion l).actGet 0 4096) 1).len) = true := by
  rw [companion_get]
  decide +kernel
/-- The limits record at its limits. -/
def limits : List Byte := leBytes 4 0x544D4C53 ++ leBytes 4 0x01010001 ++ leBytes 8 0 ++ (List.replicate 20 (leBytes 4 0x10000)).flatten
def State.logged (s : State) (f : Log → Log) : State := { s with log := f s.log }
def entry (q : Nat) : LogEntry := ⟨q, 0, 1, 0, 0, []⟩
/-- An activation whose part 0 has bytes, poisoned. -/
def longPart : State :=
  { run with
    mem := { Memories.reset with ext := [(136, 64)] }, mc := { run.mc with poison := [0] }, sum := { Summit.reset with act := some ⟨some 9, [0]⟩ } }

/-! ### Ill-formed commands -/

theorem test_ldD_odd_register : Instr.wellFormed (.ldD 0 false 1 0 (.imm 0) .clean) = false := by decide
theorem test_stD_odd_register : Instr.wellFormed (.stD 0 false 31 0 (.imm 0)) = false := by decide
theorem test_tapz_last_of_half : Instr.wellFormed (.tapz 0 false false 0 false 0 15) = false := by decide
theorem test_tap_last_of_half : Instr.wellFormed (.tap 0 false false 0 false 0 31) = false := by decide
theorem test_movcR_no_register : Instr.wellFormed (.movcR 0 false 0 7) = false := by decide
theorem test_movcW_read_only : Instr.wellFormed (.movcW 0 false 0 24) = false := by decide
theorem test_movci_read_only : Instr.wellFormed (.movci 0 false 25 0) = false := by decide
theorem test_movci_long_buffer : Instr.wellFormed (.movci 0 false 16 131073) = false := by decide
theorem test_loop_no_body : Instr.wellFormed (.loop 0 false 0 false (.imm 1) 0) = false := by decide
theorem test_write_nothing : Instr.wellFormed (.registerWrite .pcie false 0 []) = false := by decide
theorem test_write_too_long : Instr.wellFormed (.registerWrite .pcie false 0 (List.replicate 513 none)) = false := by decide +kernel
theorem test_line_crossed : Instr.wellFormed (.memRequest 0 63 (some [0, 0]) (.errors [])) = false := by decide
theorem test_line_nothing : Instr.wellFormed (.memRequest 0 0 (some []) (.errors [])) = false := by decide
theorem test_tick_short : Instr.wellFormed (.firingProcessed [⟨[], [], [], []⟩]) = false := by decide
theorem test_tick_short_power : Instr.wellFormed (.bankPwrUpdate [⟨[], [], [], []⟩]) = false := by decide
theorem test_code_bins : Instr.wellFormed (.codeDensityDone []) = false := by decide
theorem test_ranges : Instr.wellFormed (.memTempPoll 0 [0, 0, 0, 0, 0]) = false := by decide

/-! ### Encodings written out in the spec -/

/-- R288, the worked example: b3 of the 8-tap kernel. -/
theorem test_bundle_b3 : bundleDecode 3 0x00000351023A9010 =
    some [.ridgeNop 3 false false, .tap 3 false true 0 true 0 17, .tap 3 true true 1 false 0 16] := by decide
/-- R295, the worked example: p9 of the 8-tap kernel. -/
theorem test_bundle_p9 : bundleDecode 3 0x4801FF0000BEA01F =
    some [.loop 3 false 0 false (.imm 1022) 5, .exth2 3 true true 8 0 1 15] := by decide
/-- R331: ADDI K3, K2, 0xFFFF is 000011 0011 0010 00 1111111111111111. -/
theorem test_cairn_addi : crnDecode 0x0CC8FFFF = some (.addi 3 2 0xFFFF) := by decide
/-- R331: CMP K1, K2 is 001001 0000 0001 0010 0000 0000000000. -/
theorem test_cairn_cmp : crnDecode 0x24048000 = some (.crnCmp 1 2) := by decide
/-- R331: a NOP with a field that is not 0 is ILLEGAL, and so is an OP past 0x12. -/
theorem test_cairn_illegal : crnDecode 1 = none ∧ crnDecode 0x4C000000 = none := by decide

/-! ### Worked examples of the spec -/

/-- Chapter 3: the address 0x013_4A10 is the register 0x010 of lane T37. -/
theorem test_tla_copy : foldTla 0x134A10 = 0x104A10 := by decide
/-- Chapter 18: CRC-32C of "123456789", and the CRC-8 of the poll 05 3A 01. -/
theorem test_crc32c : crc32c [0x31, 0x32, 0x33, 0x34, 0x35, 0x36, 0x37, 0x38, 0x39] = 0xE3069283 := by decide +kernel
theorem test_crc8 : crc8 [5, 0x3A, 1] = 0x98 := by decide +kernel
/-- Chapter 10: the first chunk of the two points A and B, quantised and coded. -/
theorem test_quantiser : (quantRun 0 2 true 2 [10, -3, 13, -2, 9, -3, 15, 1, 9, -4, 15, -2] []).1 = [2, -1, 4, 0, 2, -1, 4, 0, 2, -1, 4, 0] := by
  decide +kernel
theorem test_chunk : (encodeChunk ⟨0, 2, 0, 1, 2⟩ true [] [2, -1, 4, 0, 2, -1, 4, 0, 2, -1, 4, 0] 0 8 2).bytes.take 16 ++
    ((encodeChunk ⟨0, 2, 0, 1, 2⟩ true [] [2, -1, 4, 0, 2, -1, 4, 0, 2, -1, 4, 0] 0 8 2).bytes.drop 20) =
    [0x47, 0x43, 0x48, 0x4B, 0x88, 4, 2, 0, 0x18, 0, 0, 0, 8, 0, 0, 0, 0x40, 0xA0, 0x8E, 6, 0x40, 0, 0, 0] := by decide +kernel
/-- Chapter 6: the latency of lane 9 at depth 3 is 702.375 ns. -/
theorem test_latency : latencyView State.reset ⟨9, 3, 1, false, -1262500, 0, 129, 0, 0, 5⟩ 0 = 5619 := by decide +kernel
/-- Chapter 8: the slot of 43,068 single-ended points takes 516,928 bytes. -/
theorem test_slot : DtsCfg.slotBytes (DtsCfg.mk 0 false false 43068 0 0 0 40 64 0 1 0 0 1 0 1 23030 0 0 2 0 0 14671) = 516928 := by decide
/-- Chapter 11: post-increments in the buffer at 0x0002_1000 of 0x100 bytes. -/
def ring (p : Word) : Rcore :=
  { Rcore.reset with b := Vector.replicate 8 0x21000, l := Vector.replicate 8 0x100, bank := { Rcore.reset.bank with p := Vector.replicate 4 p } }
theorem test_modulo : (ring 0x210F8).postMod 0 16 = 0x21008 ∧ (ring 0x21004).postMod 0 (-16) = 0x210F4 := by decide +kernel
/-- Chapter 15: code 2,948,613 of the reference coil is 25.000 °C. -/
theorem test_rtd : (rtdCelsius 2948613 ⟨312188, 100000, 3908300, -577500, 0, false, 0⟩).map (fun t => ((Dbl.ofInt 1000).mul (t.add (.ofRat 27315 100))).rhe) = some 298150 := by
  decide +kernel
/-- Chapter 16: the cooler target of the 976 nm pump is 306,721 mK. -/
theorem test_cooler : coolerTarget (zeros 16 ++ leBytes 4 975400 ++ leBytes 4 7000 ++ leBytes 4 976000 ++ zeros 8 ++ leBytes 2 1500 ++ leBytes 2 4500) =
    (306721, false) := by decide +kernel
/-- Chapter 17: energy cell 5,010 maps to cell 1,186 at position 400,000.5. -/
theorem test_map_cell : SkSec.mapCell ⟨none, 0, 0xFF, 5000, 146, 1228800, 600000, 2043400, 0, 100, 0, true, [], [], [], 0, 0, 0, 0⟩ ⟨0, 400000, 1, 2, false⟩ 10 = 1186 := by
  decide
/-- Chapter 20: a gain of 1.0062 and a phase of 0.008029 rad of XQ move its codes by −12 and −8. -/
theorem test_trim : newCodes false false true (5 * (8029 * 2 ^ 40 / 1000000)) [0, 0, 0, 0]
    ⟨0, 384 * 2 ^ 24 * 10062 / 10000, -(384 * 2 ^ 24 * 10062 / 10000), 8029 * 2 ^ 40 / 1000000, 8029 * 2 ^ 40 / 1000000⟩ = [0, -12, 0, -8] := by decide +kernel

/-! ### Witnesses: the hypotheses of every clause of a statement, met -/

/-- Meets the hypotheses of `Obligations.Resets`. -/
theorem witness_Resets :
    (∃ (s : State), s.pw.standby = false ∧ s.pw.brownBlock = true) ∧
    (∃ (s : State) (v : Word), s.answers 0x1004 = true ∧ s.crossing 0x1004 = false ∧ s.warmable = true ∧ v.toNat % 2 = 1) ∧
    (∃ (s : State) (v : Word), s.answers 0x1010 = true ∧ s.crossing 0x1010 = false ∧ s.fld Reg.PWR_ISL_RST = 0 ∧ v.toNat = 2 ^ 16 ∧ (s.rc 0).msgs = []) ∧
    (∃ (s : State), s.pw.phase = .held ∧ s.pw.warm = true) :=
  ⟨⟨State.pwr run (fun p => { p with brownBlock := true }), by decide⟩,
   ⟨run, 1, by decide⟩,
   ⟨run, 0x10000, by decide⟩,
   ⟨State.pwr run (fun p => { p with phase := .held, warm := true }), by decide⟩⟩

/-- Meets the hypotheses of `Obligations.BootEvents`. -/
theorem witness_BootEvents :
    (∃ (s : State), s.pw.phase = .held ∧ s.pw.warm = false ∧ s.pw.standby = false ∧ s.pw.porLow = true ∧ s.pw.testHold = false) ∧
    (∃ (s : State), s.awake = true ∧ s.pw.toWatch = true) ∧
    (∃ (s : State), s.awake = true ∧ s.pw.phase = .rom ∧ s.pw.toWatch = false ∧ s.pstate = stBoot ∧ (s.fld Reg.PWR_ISL_RST).testBit 5 = false ∧ s.loaderGood = false) ∧
    (∃ (s : State), s.awake = true ∧ s.pw.phase = .rom ∧ s.pw.restart = false ∧ s.pw.toWatch = false ∧ s.pstate = stBoot ∧ (s.fld Reg.PWR_ISL_RST).testBit 5 = false ∧ s.loaderGood = true ∧ s.genValid = false ∧ s.sum.factory = false) ∧
    (∃ (s : State), s.awake = true ∧ s.pw.toWatch = false ∧ s.pstate = stBoot ∧ s.pw.phase = .firmware ∧ s.fld Reg.MEM_STATUS_TRAINED = 0 ∧ s.pw.warm = false ∧ s.sum.tables = [] ∧ s.loaderPers = false) ∧
    (∃ (s : State), s.pw.phase = .firmware ∧ s.pstate = stBoot ∧ s.fld Reg.PWR_STATUS_STATE = stBoot ∧ s.sum.act = none) :=
  ⟨⟨State.reset, by decide⟩,
   ⟨State.pwr run (fun p => { p with toWatch := true }), by decide⟩,
   ⟨boot, by decide⟩,
   ⟨loaderBoot, ⟨by decide, by decide, by decide, by decide, by decide, by decide, loader_good, loader_alone, by decide⟩⟩,
   ⟨State.pwr boot (fun p => { p with phase := .firmware }), by decide⟩,
   ⟨State.pwr boot (fun p => { p with phase := .firmware }), by decide⟩⟩

/-- Meets the hypotheses of `Obligations.PowerTransitions`. -/
theorem witness_PowerTransitions :
    (∃ (s : State) (h : Fin 256) (x : Handle), s.cmd? h.val 0x04 = some x ∧ x.p 0 = 2 ∧ s.loaderPers = false ∧ s.activating = false ∧ s.pstate = stRun ∧ s.pw.trans = none) ∧
    (∃ (s : State) (h : Fin 256) (x : Handle), s.cmd? h.val 0x04 = some x ∧ x.p 0 = 2 ∧ s.loaderPers = false ∧ s.activating = false ∧ s.pstate = stWatch ∧ s.pw.trans = none) ∧
    (∃ (s : State) (h : Fin 256) (x : Handle), s.cmd? h.val 0x04 = some x ∧ (x.p 0 = 0 ∨ 3 < x.p 0)) ∧
    (∃ (s : State) (h : Nat), s.pw.trans = some ⟨1, 2, [h], false⟩ ∧ s.awake = true ∧ s.pw.fresh = false ∧ s.pw.hostResetOwed = false) ∧
    (∃ (s : State) (tr : Transition), s.pw.queued = some tr ∧ s.pw.trans = none ∧ s.pstate = stWatch) ∧
    (∃ (s : State), s.pw.standby = true ∧ s.pw.wakeLatch ≠ 0 ∧ s.pw.pwrOn = false) ∧
    (∃ (s : State), s.pw.standby = true ∧ s.timerDue .wake 200000000 = true ∧ s.pw.pwrOn = true ∧ s.pw.wakeTries = 0) ∧
    (∃ (s : State), s.pw.standby = true ∧ s.timerDue .wake 200000000 = true ∧ s.pw.pwrOn = false ∧ s.pw.wakeTries = 1) ∧
    (∃ (s : State), s.pw.standby = true ∧ s.timerDue .wake 200000000 = true ∧ s.pw.pwrOn = true ∧ s.pw.wakeTries = 1) :=
  ⟨⟨cmd 4 [2], 5, hnd 5 4 [2], by decide⟩,
   ⟨State.pwr (cmd 4 [2]) (fun p => { p with mode := stWatch }), 5, hnd 5 4 [2], by decide⟩,
   ⟨cmd 4 [4], 5, hnd 5 4 [4], by decide⟩,
   ⟨State.pwr run (fun p => { p with trans := some ⟨1, 2, [5], false⟩ }), 5, by decide⟩,
   ⟨State.pwr run (fun p => { p with mode := stWatch, queued := some ⟨1, 2, [5], false⟩ }), ⟨1, 2, [5], false⟩, by decide⟩,
   ⟨State.pwr run (fun p => { p with standby := true, pwrOn := false, wakeLatch := 1 }), by decide⟩,
   ⟨State.pwr { run with tick := 200000000, timers := [(.wake, 0)] } (fun p => { p with standby := true, pwrOn := true }), by decide⟩,
   ⟨State.pwr run (fun p => { p with standby := true, pwrOn := false, wakeTries := 1 }), by decide⟩,
   ⟨State.pwr run (fun p => { p with standby := true, wakeTries := 1 }), by decide⟩⟩

/-- Meets the hypotheses of `Obligations.ReferencesAndPins`. -/
theorem witness_ReferencesAndPins :
    (∃ (s : State) (lift : Bool), s.selected lift = true ∧ s.awake = true ∧ s.acq.run = none ∧ s.dts.run = none ∧ s.pstate ≠ stWatch) ∧
    (∃ (s : State) (lift : Bool), s.selected lift = true ∧ s.awake = true ∧ s.pw.phase ≠ .rom) ∧
    (∃ (s : State) (v : Word), s.answers 0x100C = true ∧ s.crossing 0x100C = false ∧ s.acqRuns = false ∧ s.dts.run = none ∧ v.toNat = 1 ∧ (∀ c, c < 8 → s.rHeld c = true)) ∧
    (∃ (s : State), s.pw.standalone = false ∧ s.pw.perstLow = false ∧ s.awake = true ∧ s.pw.linkUp = true ∧ s.pw.crs = true) ∧
    (∃ (s : State), s.pw.standalone = false ∧ s.pw.perstLow = false ∧ s.awake = true ∧ s.pw.linkUp = true ∧ s.pw.crs = false) :=
  ⟨⟨run, false, by decide⟩,
   ⟨run, false, by decide⟩,
   ⟨run.setF Reg.PWR_ISL_RST 0xFF0000, 1, by decide +kernel⟩,
   ⟨State.pwr run (fun p => { p with crs := true }), by decide⟩,
   ⟨run, by decide⟩⟩

/-- Meets the hypotheses of `Obligations.TimeBaseDiscipline`. -/
theorem witness_TimeBaseDiscipline :
    (∃ (s : State), s.timed = true ∧ s.ppsInWindow = false) ∧
    (∃ (s : State), s.timed = true ∧ s.ppsInWindow = true ∧ s.on Reg.GLB_TB_CTL_LOAD_ARM = true) ∧
    (∃ (s : State), s.timed = true ∧ s.ppsInWindow = true ∧ s.on Reg.GLB_TB_CTL_LOAD_ARM = false ∧ s.on Reg.GLB_TB_CTL_DISC_EN = true ∧ s.on Reg.GLB_TB_STATUS_PPS_FAR = false ∧ (ppsError s.now).natAbs ≤ 10000) ∧
    (∃ (s : State), s.timed = true ∧ s.ppsInWindow = true ∧ s.on Reg.GLB_TB_CTL_LOAD_ARM = false ∧ 10000 < (ppsError s.now).natAbs) ∧
    (∃ (s : State), s.timed = true ∧ 1500000000 ≤ wrapSub 64 s.now s.tb.ppsAt) ∧
    (∃ (s : State), s.awake = true) ∧
    (∃ (s : State), s.pending = [] ∧ s.dueNow = none ∧ s.timed = true ∧ s.tb.rate = 0 ∧ s.tb.rateAcc = 0 ∧ s.tb.slew = 0 ∧ s.now + 5 < 2 ^ 64) :=
  ⟨⟨State.time (run.setF Reg.GLB_TB_STATUS_PPS_VALID 1) 999899999, by decide⟩,
   ⟨State.time ((run.setF Reg.GLB_TB_STATUS_PPS_VALID 1).setF Reg.GLB_TB_CTL_LOAD_ARM 1) 1000100000, by decide⟩,
   ⟨State.time (run.setF Reg.GLB_TB_CTL_DISC_EN 1) 2000010000, by decide⟩,
   ⟨State.time run 2000010001, by decide⟩,
   ⟨State.time run 1500000000, by decide⟩,
   ⟨run, by decide⟩,
   ⟨State.time run (2 ^ 64 - 6), by decide⟩⟩

/-- Meets the hypotheses of `Obligations.RegisterAccesses`. -/
theorem witness_RegisterAccesses :
    (∃ (s : State), s.awake = true ∧ s.xing = []) ∧
    (∃ (s : State) (x : XWrite) (v : BitVec 32), s.xing = [x] ∧ x.island = 3 ∧ x.off = 0x10000 ∧ x.data = (leBytes 4 v.toNat).map some ∧ s.answers 0x10000 = true) ∧
    (∃ (s : State), s.awake = true ∧ (s.xing.any (fun x => x.island == 3) = true)) ∧
    (∃ (s : State) (x : XWrite), s.xing = [x] ∧ x.island = 3 ∧ x.off = 0x10000 ∧ s.answers 0x10000 = false ∧ x.accepted + 200000 ≤ s.tick) ∧
    (∃ (s : State) (x : XWrite), s.xing = [x] ∧ x.island = 3 ∧ x.off = 0x10000 ∧ s.answers 0x10000 = false ∧ s.tick < x.accepted + 200000) ∧
    (∃ (s : State) (off : Nat), s.awake = true ∧ servedHere off = false ∧ s.answers off = false) :=
  ⟨⟨run, by decide⟩,
   ⟨crossing, ⟨3, 0x10000, (leBytes 4 (1 : Word).toNat).map some, .pcie, 0⟩, 1, by decide⟩,
   ⟨crossing, by decide⟩,
   ⟨State.sets { crossing with tick := 200000 } [(Reg.PWR_ISL_RST, 0, 8)], ⟨3, 0x10000, (leBytes 4 (1 : Word).toNat).map some, .pcie, 0⟩, by decide⟩,
   ⟨State.sets crossing [(Reg.PWR_ISL_RST, 0, 8)], ⟨3, 0x10000, (leBytes 4 (1 : Word).toNat).map some, .pcie, 0⟩, by decide⟩,
   ⟨State.sets run [(Reg.PWR_ISL_RST, 0, 8)], 0x1100C, by decide⟩⟩

/-- Meets the hypotheses of `Obligations.QueueRegisterWrites`. -/
theorem witness_QueueRegisterWrites :
    (∃ (s : State) (q : Fin 16) (v : Word), s.answers (0x11008 + 0x40 * q.val) = true ∧ s.crossing (0x11008 + 0x40 * q.val) = false ∧ s.fld Reg.SQ_CFG_EN q = 0 ∧ v.toNat / 2 ^ 16 % 2 = 1 ∧ v.toNat / 2 ^ 8 % 16 / 8 = q.val / 8) ∧
    (∃ (s : State) (q : Fin 16) (v : Word), s.answers (0x11008 + 0x40 * q.val) = true ∧ s.crossing (0x11008 + 0x40 * q.val) = false ∧ s.fld Reg.SQ_CFG_EN q = 0 ∧ v.toNat / 2 ^ 16 % 2 = 1 ∧ v.toNat / 2 ^ 8 % 16 / 8 ≠ q.val / 8) ∧
    (∃ (s : State) (q : Fin 16), s.answers (0x11000 + 0x40 * q.val) = true ∧ s.crossing (0x11000 + 0x40 * q.val) = false ∧ s.fld Reg.SQ_CFG_EN q = 0) ∧
    (∃ (s : State) (q : Fin 16) (v : Word), s.answers (0x11000 + 0x40 * q.val) = true ∧ s.crossing (0x11000 + 0x40 * q.val) = false ∧ s.fld Reg.SQ_CFG_EN q = 1 ∧ v.toNat / 64 ≠ s.fld Reg.SQ_BASE_LO q) ∧
    (∃ (s : State) (c : Fin 16) (v : Word), s.answers (0x12008 + 0x40 * c.val) = true ∧ s.crossing (0x12008 + 0x40 * c.val) = false ∧ s.fld Reg.CQ_CFG_IRQ_EN c = 0 ∧ v.toNat / 2 ^ 17 % 2 = 1) ∧
    (∃ (s : State) (v : Word), s.answers 0x10008 = true ∧ s.crossing 0x10008 = false ∧ 100 ≤ v.toNat % 65536 ∧ 10 * s.fld Reg.HQE_CTO ≤ v.toNat % 65536 ∧ v.toNat % 65536 ≤ 60000) ∧
    (∃ (s : State) (v : Word), s.answers 0x10008 = true ∧ s.crossing 0x10008 = false ∧ (v.toNat % 65536 < 100 ∨ v.toNat % 65536 < 10 * s.fld Reg.HQE_CTO ∨ 60000 < v.toNat % 65536)) ∧
    (∃ (s : State) (v : Word), s.answers 0x1000C = true ∧ s.crossing 0x1000C = false ∧ 0 < v.toNat % 128 ∧ v.toNat % 128 ≤ 100 ∧ 10 * (v.toNat % 128) ≤ s.fld Reg.HQE_WDOG) ∧
    (∃ (s : State) (v : Word), s.answers 0x1000C = true ∧ s.crossing 0x1000C = false ∧ (v.toNat % 128 = 0 ∨ 100 < v.toNat % 128 ∨ s.fld Reg.HQE_WDOG < 10 * (v.toNat % 128))) :=
  ⟨⟨run, 15, 0x10800, by decide⟩,
   ⟨run, 8, 0x10700, by decide⟩,
   ⟨run, 15, by decide⟩,
   ⟨queue, 0, 64, by decide⟩,
   ⟨run, 15, 0x20000, by decide⟩,
   ⟨run, 60000, by decide⟩,
   ⟨run, 99, by decide⟩,
   ⟨run, 100, by decide⟩,
   ⟨run, 101, by decide⟩⟩

/-- Meets the hypotheses of `Obligations.CompletionEntries`. -/
theorem witness_CompletionEntries :
    (∃ (s : State) (h r0 r1 : Nat) (x : Handle) (G : Field) (j : Nat), s.handle? h = some x ∧ x.done = false ∧ x.accepted = true ∧ s.cqOpen x.cq = true ∧ s.hq.held = [] ∧ s.pw.standalone = false ∧ r0 < 2 ^ 32 ∧ r1 < 2 ^ 24 ∧ Field.notHqe (G.key j)) ∧
    (∃ (s : State) (h : Nat) (x : Handle), s.handle? h = some x ∧ x.done = false ∧ s.cqOpen x.cq = false ∧ s.hq.held = []) ∧
    (∃ (s : State) (x : HeldCqe) (h n a : Nat), s.hq.held = [x] ∧ x.frees = some h ∧ s.cqOpen x.cq = true ∧ s.pw.standalone = false ∧ n = s.fld Reg.CQ_STATUS_TAIL x.cq ∧ a = s.ringBase (0x12000 + 0x40 * x.cq.val) + 16 * n) ∧
    (∃ (s : State) (c : Fin 16), s.hq.coalTimers.contains c.val = true ∧ s.on Reg.CQ_CFG_IRQ_EN c = true ∧ s.timerDue (.coal c.val) (200 * s.fld Reg.CQ_COAL_TIME_US c) = true ∧ s.vecOpen (s.fld Reg.CQ_CFG_VEC c) = true) ∧
    (∃ (s : State) (r : Fin 8), s.hq.coalTimers.contains (16 + r.val) = true ∧ s.on Reg.SR_CFG_IRQ_EN r = true ∧ s.timerDue (.coal (16 + r.val)) (200 * s.fld Reg.SR_COAL_TIME_US r) = true ∧ s.vecOpen (s.fld Reg.SR_CFG_VEC r) = true) :=
  ⟨⟨State.holds queue { hnd 5 0 [] with accepted := true }, 5, 2 ^ 32 - 1, 2 ^ 24 - 1, { hnd 5 0 [] with accepted := true }, Reg.GLB_TB_CTL_DISC_EN, 0, by refine ⟨by decide, by decide, by decide, by decide, by decide, by decide, by decide, by decide, ?_⟩; unfold Field.notHqe; decide⟩,
   ⟨cmd 0 [], 5, hnd 5 0 [], by decide⟩,
   ⟨State.hqe queue (fun q => { q with held := [⟨0, ⟨261, 7, 0, 0, 0, 0, 0, 2⟩, some 5⟩] }), ⟨0, ⟨261, 7, 0, 0, 0, 0, 0, 2⟩, some 5⟩, 5, 0, 0, by decide⟩,
   ⟨State.hqe (State.sets run [(Reg.CQ_CFG_IRQ_EN, 15, 1)]) (fun q => { q with coalTimers := [15], cfg := msixOn, msix := [] }), 15, by decide⟩,
   ⟨State.hqe (State.sets run [(Reg.SR_CFG_IRQ_EN, 7, 1)]) (fun q => { q with coalTimers := [23], cfg := msixOn, msix := [] }), 7, by decide⟩⟩

/-- Meets the hypotheses of `Obligations.InformationCommands`. -/
theorem witness_InformationCommands :
    (∃ (s : State) (h : Fin 256) (x : Handle), s.cmd? h.val 0x00 = some x) ∧
    (∃ (s : State) (h : Fin 256) (x : Handle), s.cmd? h.val 0x01 = some x ∧ x.chain = false ∧ s.pw.standalone = false ∧ 256 ≤ x.len0) ∧
    (∃ (s : State) (h : Fin 256) (x : Handle), s.cmd? h.val 0x01 = some x ∧ x.chain = false ∧ s.pw.standalone = false ∧ x.len0 < 256) ∧
    (∃ (s v : State) (h : Fin 256) (d : CmdData) (x : Handle) (b : Buffer), s.cmd? h.val 0x01 = some x ∧ s.buffer x d = (b, v) ∧ 256 ≤ segsLen b.1) ∧
    (∃ (s v : State) (h : Fin 256) (d : CmdData) (x : Handle) (b : Buffer), s.cmd? h.val 0x01 = some x ∧ s.buffer x d = (b, v) ∧ segsLen b.1 < 256 ∧ b.2 = .whole) ∧
    (∃ (s v : State), ∃ (h : Fin 256), ∃ (d : CmdData), ∃ (x : Handle), ∃ (b : Buffer), ∃ det i, s.cmd? h.val 0x01 = some x ∧ s.buffer x d = (b, v) ∧ segsLen b.1 < 256 ∧ b.2 = .fault det i) ∧
    (∃ (s : State) (h : Fin 256) (x y : Handle), s.cmd? h.val 0x03 = some x ∧ s.handle? (x.p 0 % 256) = some y ∧ y.gen = x.p 0 / 256 % 256) ∧
    (∃ (s : State) (h : Fin 256) (x y : Handle), s.cmd? h.val 0x03 = some x ∧ s.handle? (x.p 0 % 256) = some y ∧ y.gen ≠ x.p 0 / 256 % 256) ∧
    (∃ (s : State) (h : Fin 256) (x : Handle), s.cmd? h.val 0x03 = some x ∧ s.handle? (x.p 0 % 256) = none) :=
  ⟨⟨cmd 0 [], 5, hnd 5 0 [], by decide⟩,
   ⟨State.holds run (buf 1 [] 256), 5, buf 1 [] 256, by decide⟩,
   ⟨State.holds run (buf 1 [] 255), 5, buf 1 [] 255, by decide⟩,
   ⟨State.holds run (buf 1 [] 256), State.holds run (buf 1 [] 256), 5, data [], buf 1 [] 256, ([(0x1000, 256)], .whole), ⟨by decide, rfl, by decide⟩⟩,
   ⟨State.holds run (buf 1 [] 255), State.holds run (buf 1 [] 255), 5, data [], buf 1 [] 255, ([(0x1000, 255)], .whole), ⟨by decide, rfl, by decide, rfl⟩⟩,
   ⟨State.holds run (listed 1 2), State.holds run (listed 1 2), 5, ⟨[⟨0x2000, 255, false, false⟩, ⟨0x3000, 0, false, false⟩], .ok []⟩, listed 1 2, ([(0x2000, 255)], .fault 16 1), 16, 1, ⟨by decide, rfl, by decide, rfl⟩⟩,
   ⟨State.holds (cmd 3 [0x109]) (hnd 9 0 []), 5, hnd 5 3 [0x109], hnd 9 0 [], by decide⟩,
   ⟨State.holds (cmd 3 [0x209]) (hnd 9 0 []), 5, hnd 5 3 [0x209], hnd 9 0 [], by decide⟩,
   ⟨cmd 3 [0x109], 5, hnd 5 3 [0x109], by decide⟩⟩

/-- Meets the hypotheses of `Obligations.SubmissionPath`. -/
theorem witness_SubmissionPath :
    (∃ (s : State) (q : Fin 16) (v : Word), s.islUp 3 = true ∧ v.toNat % 4096 < s.sqSize q) ∧
    (∃ (s : State) (q : Fin 16) (v : Word), s.islUp 3 = true ∧ s.sqSize q ≤ v.toNat % 4096) ∧
    (∃ (s : State) (c : Fin 16) (v : Word), s.islUp 3 = true ∧ v.toNat % 16384 < s.cqSize c ∧ noPass (s.cqSize c) (s.fld Reg.CQ_STATUS_HEAD c) (v.toNat % 16384) (s.fld Reg.CQ_STATUS_TAIL c) = true) ∧
    (∃ (s : State) (c : Fin 16) (v : Word), s.islUp 3 = true ∧ (s.cqSize c ≤ v.toNat % 16384 ∨ noPass (s.cqSize c) (s.fld Reg.CQ_STATUS_HEAD c) (v.toNat % 16384) (s.fld Reg.CQ_STATUS_TAIL c) = false)) ∧
    (∃ (s : State) (r : Fin 8) (v : Word) (bs : List Byte), s.pw.standalone = false ∧ s.islUp 3 = true ∧ v.toNat % 4096 < s.srSize r ∧ (s.sr r).bufs = [] ∧ s.bufFetchable r = true ∧ s.bufReading r = false ∧ (s.sr r).fetched ≠ v.toNat % 4096 ∧ (parseBuf bs).good (s.sr r).maxBlock = true) ∧
    (∃ (s : State) (r : Fin 8) (v : Word), s.islUp 3 = true ∧ v.toNat % 4096 < s.srSize r ∧ noPass (s.srSize r) (s.sr r).fillHead (v.toNat % 4096) (s.fld Reg.SR_STATUS_FILL_TAIL r) = true) ∧
    (∃ (s : State) (e : Fin 2) (bs : List Byte) (q i : Nat), s.pickSq e = some q ∧ s.heldHandles < 248 ∧ s.on Reg.HQE_STATUS_HQ_STALL = false ∧ s.freeIdx = some i ∧ i < 256 ∧ s.pw.standalone = false ∧ opAtOnce (parseEntry bs).op = true ∧ entryBad (parseEntry bs) (s.fld Reg.HQE_CTO) = none ∧ s.loaderPers = false ∧ s.fencedAt q s.hq.nextOrder (bit (parseEntry bs).flags 0) = false) ∧
    (∃ (s : State) (e : Fin 2) (q : Nat), s.pickSq e = some q ∧ 248 ≤ s.heldHandles) ∧
    (∃ (s : State) (h : Fin 256) (x : Handle), s.handle? h.val = some x ∧ x.started = false ∧ s.fenceOver x = true ∧ s.loaderPers = false) ∧
    (∃ (s : State) (tag : Nat) (d : HostData), s.islUp 3 = true ∧ (s.hq.reads.find? (fun r => r.tag == tag) = none) ∧ d ≠ .outstanding ∧ d ≠ .timeout) ∧
    (∃ (s : State) (tag : Nat) (r : HostReadRec) (q : Fin 16) (bs : List Byte) (i : Nat), (s.hq.reads.find? (fun r => r.tag == tag) = some r) ∧ r.dead = false ∧ s.pw.standalone = false ∧ r.target = .fetch q ∧ s.freeIdx = some i ∧ entryBad (parseEntry bs) (s.fld Reg.HQE_CTO) = none ∧ opAtOnce (parseEntry bs).op = true ∧ s.loaderPers = false ∧ s.fencedAt q s.hq.nextOrder (bit (parseEntry bs).flags 0) = false) ∧
    (∃ (s : State) (tag : Nat) (r : HostReadRec) (q : Fin 16), (s.hq.reads.find? (fun r => r.tag == tag) = some r) ∧ r.dead = false ∧ r.target = .fetch q ∧ s.timerDue (.read tag) (200000 * s.fld Reg.HQE_CTO) = true) ∧
    (∃ (s : State) (tag : Nat) (r : HostReadRec) (h : Nat), (s.hq.reads.find? (fun r => r.tag == tag) = some r) ∧ r.dead = false ∧ r.target = .cmd h ∧ s.timerDue (.read tag) (200000 * s.fld Reg.HQE_CTO) = true) ∧
    (∃ (s : State) (tag : Nat) (r : HostReadRec), (s.hq.reads.find? (fun r => r.tag == tag) = some r) ∧ s.timerDue (.read tag) (200000 * s.fld Reg.HQE_CTO) = false) :=
  ⟨⟨run, 0, 15, by decide⟩,
   ⟨run, 0, 16, by decide⟩,
   ⟨State.sets run [(Reg.CQ_STATUS_TAIL, 0, 15)], 0, 15, by decide⟩,
   ⟨run, 0, 1, by decide⟩,
   ⟨State.sets run [(Reg.SR_CFG_EN, 0, 1), (Reg.HQE_CTL_EN0, 0, 1)], 0, 15, leBytes 8 4096 ++ leBytes 8 4096, by decide⟩,
   ⟨State.sets run [(Reg.SR_STATUS_FILL_TAIL, 0, 15)], 0, 15, by decide⟩,
   ⟨queue, 0, leBytes 64 0, 0, 0, by decide⟩,
   ⟨State.hqe queue (fun q => { q with handles := (List.range 248).map (fun i => hnd i 0x80 []) }), 0, 0, by decide +kernel⟩,
   ⟨State.holds run { hnd 5 0 [] with started := false }, 5, { hnd 5 0 [] with started := false }, by decide⟩,
   ⟨run, 3, .poisoned, by decide⟩,
   ⟨State.hqe run (fun q => { q with reads := [⟨3, .fetch 2, false⟩] }), 3, ⟨3, .fetch 2, false⟩, 2, leBytes 64 0, 0, by decide⟩,
   ⟨State.hqe run (fun q => { q with reads := [⟨3, .fetch 2, false⟩] }), 3, ⟨3, .fetch 2, false⟩, 2, by decide⟩,
   ⟨State.hqe (cmd 0 []) (fun q => { q with reads := [⟨3, .cmd 5, false⟩] }), 3, ⟨3, .cmd 5, false⟩, 5, by decide⟩,
   ⟨State.hqe { run with timers := [(.read 3, 0)] } (fun q => { q with reads := [⟨3, .cmd 5, false⟩] }), 3, ⟨3, .cmd 5, false⟩, by decide⟩⟩

/-- Meets the hypotheses of `Obligations.AbortAndWatchdog`. -/
theorem witness_AbortAndWatchdog :
    (∃ (s : State) (h : Fin 256) (x : Handle), s.cmd? h.val 0x02 = some x ∧ x.p 0 < 65536 ∧ (∀ y, s.handle? (x.p 0 % 256) = some y → y.gen ≠ x.p 0 / 256)) ∧
    (∃ (s : State) (h : Fin 256) (x : Handle), s.cmd? h.val 0x02 = some x ∧ 65536 ≤ x.p 0) ∧
    (∃ (s : State) (h : Fin 256) (x y : Handle), s.cmd? h.val 0x02 = some x ∧ x.p 0 < 65536 ∧ s.handle? (x.p 0 % 256) = some y ∧ y.gen = x.p 0 / 256 ∧ y.op = 0x02) ∧
    (∃ (s : State) (h : Fin 256) (x y : Handle), s.cmd? h.val 0x02 = some x ∧ x.p 0 < 65536 ∧ s.handle? (x.p 0 % 256) = some y ∧ y.gen = x.p 0 / 256 ∧ y.op ≠ 0x02 ∧ y.done = true) ∧
    (∃ (s : State) (h : Fin 256) (x y : Handle), s.cmd? h.val 0x02 = some x ∧ x.p 0 < 65536 ∧ s.handle? (x.p 0 % 256) = some y ∧ y.gen = x.p 0 / 256 ∧ y.op ≠ 0x02 ∧ y.done = false ∧ s.acq.handle ≠ some y.idx ∧ (∀ z ∈ s.red.streams, z.handle ≠ some y.idx)) ∧
    (∃ (s : State) (h : Fin 256) (x y : Handle), s.cmd? h.val 0x02 = some x ∧ x.p 0 < 65536 ∧ s.handle? (x.p 0 % 256) = some y ∧ y.gen = x.p 0 / 256 ∧ y.op ≠ 0x02 ∧ y.done = false ∧ s.acq.handle = some y.idx ∧ s.acq.run.isSome = true ∧ s.acq.ending = none) ∧
    (∃ (s : State) (h : Fin 256) (x : Handle), s.handle? h.val = some x ∧ x.started = true ∧ x.done = false ∧ s.wdogDue x = true ∧ s.acq.handle ≠ some x.idx ∧ (∀ z ∈ s.red.streams, z.handle ≠ some x.idx)) ∧
    (∃ (s : State) (h : Fin 256) (x : Handle), s.handle? h.val = some x ∧ x.started = true ∧ x.done = false ∧ s.wdogDue x = true ∧ s.acq.handle = some x.idx ∧ s.acq.run.isSome = true ∧ s.acq.ending = none) ∧
    (∃ (s : State) (h : Fin 256) (x : Handle), s.handle? h.val = some x ∧ s.wdogDue x = false) :=
  ⟨⟨cmd 2 [0x109], 5, hnd 5 2 [0x109], ⟨by decide, by decide, fun _ h => absurd h (by decide +revert)⟩⟩,
   ⟨cmd 2 [0x10000], 5, hnd 5 2 [0x10000], by decide⟩,
   ⟨State.holds (cmd 2 [0x109]) (hnd 9 2 []), 5, hnd 5 2 [0x109], hnd 9 2 [], by decide⟩,
   ⟨State.holds (cmd 2 [0x109]) { hnd 9 0 [] with done := true }, 5, hnd 5 2 [0x109], { hnd 9 0 [] with done := true }, by decide⟩,
   ⟨State.holds (cmd 2 [0x109]) (hnd 9 0 []), 5, hnd 5 2 [0x109], hnd 9 0 [], by decide⟩,
   ⟨State.holds (State.holds acquires (hnd 5 2 [0x109])) (hnd 9 0x12 []), 5, hnd 5 2 [0x109], hnd 9 0x12 [], by decide⟩,
   ⟨{ cmd 0x40 [] with tick := 2000000000, timers := [(.handle 5, 0)] }, 5, hnd 5 0x40 [], by decide⟩,
   ⟨State.holds acquires (hnd 9 0x12 []), 9, hnd 9 0x12 [], by decide⟩,
   ⟨{ cmd 0x40 [] with timers := [(.handle 5, 0)] }, 5, hnd 5 0x40 [], by decide⟩⟩

/-- Meets the hypotheses of `Obligations.LinkAndHostReset`. -/
theorem witness_LinkAndHostReset :
    (∃ (s u : State), s.pw.standalone = false ∧ s.pw.linkUp = true ∧ s.pw.perstLow = false ∧ u = { s with pw := { s.pw with d3hot := false } } ∧ (∀ w ∈ s.hostHeld, u.engineWrites w.1 = true)) ∧
    (∃ (s : State), s.pw.standalone = false ∧ s.pw.perstLow = false ∧ s.pw.linkTraining = true ∧ s.pw.d3hot = false ∧ s.hostHeld = []) ∧
    (∃ (s : State), s.timerDue .pewake 200000000 = true) ∧
    (∃ (s : State), s.pw.standalone = false ∧ s.awake = true ∧ s.pstate ≠ stWatch) ∧
    (∃ (s : State), s.pw.standalone = false ∧ s.pw.standby = false ∧ s.pw.phase ≠ .held ∧ s.pstate ≠ stWatch ∧ s.pw.perstLow = true) :=
  ⟨⟨resumes, resumes, ⟨rfl, rfl, rfl, rfl, by decide⟩⟩,
   ⟨State.pwr run (fun p => { p with linkTraining := true }), by decide⟩,
   ⟨{ run with tick := 200000000, timers := [(.pewake, 0)] }, by decide⟩,
   ⟨run, by decide⟩,
   ⟨State.pwr run (fun p => { p with perstLow := true }), by decide⟩⟩

/-- Meets the hypotheses of `Obligations.PlanLoading`. -/
theorem witness_PlanLoading :
    (∃ (s : State), ∃ (h : Fin 256), ∃ (d : CmdData), ∃ (n : Nat), ∃ (bs : List Byte), ∃ (x : Handle), ∃ p, s.cmd? h.val 0x10 = some x ∧ x.p 0 ≠ 0 ∧ s.runsPlan (x.p 0) = false ∧ (x.len0 ≠ 0 ∨ x.chain = true) ∧ s.dataOf x d = some (n, bs) ∧ checkPlan n bs s.refLen = .ok p ∧ ((s.plan? (x.p 0)).isSome = true ∨ s.acq.plans.length < 8)) ∧
    (∃ (s : State), ∃ (h : Fin 256), ∃ (d : CmdData), ∃ (n : Nat), ∃ (bs : List Byte), ∃ (x : Handle), ∃ p, s.cmd? h.val 0x10 = some x ∧ x.p 0 ≠ 0 ∧ s.runsPlan (x.p 0) = false ∧ (x.len0 ≠ 0 ∨ x.chain = true) ∧ s.dataOf x d = some (n, bs) ∧ checkPlan n bs s.refLen = .ok p ∧ s.plan? (x.p 0) = none ∧ 8 ≤ s.acq.plans.length) ∧
    (∃ (s : State), ∃ (h : Fin 256), ∃ (d : CmdData), ∃ (n : Nat), ∃ (bs : List Byte), ∃ (x : Handle), ∃ st det r0, s.cmd? h.val 0x10 = some x ∧ x.p 0 ≠ 0 ∧ s.runsPlan (x.p 0) = false ∧ (x.len0 ≠ 0 ∨ x.chain = true) ∧ s.dataOf x d = some (n, bs) ∧ checkPlan n bs s.refLen = .bad st det r0) ∧
    (∃ (s : State) (h : Fin 256) (x : Handle), s.cmd? h.val 0x10 = some x ∧ x.p 0 ≠ 0 ∧ s.runsPlan (x.p 0) = true) ∧
    (∃ (s : State) (h : Fin 256) (x : Handle), s.cmd? h.val 0x10 = some x ∧ x.p 0 ≠ 0 ∧ s.runsPlan (x.p 0) = false ∧ x.len0 = 0 ∧ x.chain = false) ∧
    (∃ (s : State), ∃ (h : Fin 256), ∃ (d : CmdData), ∃ (n : Nat), ∃ (bs : List Byte), ∃ (x : Handle), ∃ p, s.cmd? h.val 0x11 = some x ∧ x.p 0 ≠ 0 ∧ s.dataOf x d = some (n, bs) ∧ checkPlan n bs s.refLen = .ok p) ∧
    (∃ (s : State), ∃ (h : Fin 256), ∃ (d : CmdData), ∃ (n : Nat), ∃ (bs : List Byte), ∃ (x : Handle), ∃ st det r0, s.cmd? h.val 0x11 = some x ∧ x.p 0 ≠ 0 ∧ s.dataOf x d = some (n, bs) ∧ checkPlan n bs s.refLen = .bad st det r0) :=
  ⟨⟨State.holds run (buf 0x10 [1] 96), 5, data planRec, 96, planRec, buf 0x10 [1] 96, plan, by decide +kernel⟩,
   ⟨State.probe (State.holds run (buf 0x10 [1] 96)) (fun a => { a with plans := (List.range 8).map (fun i => (i + 2, plan)) }), 5, data planRec, 96, planRec, buf 0x10 [1] 96, plan, by decide +kernel⟩,
   ⟨State.holds run (buf 0x10 [1] 96), 5, data [], 96, [], buf 0x10 [1] 96, stInvalid, 16, 0, by decide +kernel⟩,
   ⟨State.holds acquires (buf 0x10 [1] 96), 5, buf 0x10 [1] 96, by decide⟩,
   ⟨State.holds run (buf 0x10 [1] 0), 5, buf 0x10 [1] 0, by decide⟩,
   ⟨State.holds run (buf 0x11 [1] 96), 5, data planRec, 96, planRec, buf 0x11 [1] 96, plan, by decide +kernel⟩,
   ⟨State.holds run (buf 0x11 [1] 96), 5, data [], 96, [], buf 0x11 [1] 96, stInvalid, 16, 0, by decide +kernel⟩⟩

/-- Meets the hypotheses of `Obligations.AcquisitionCommands`. -/
theorem witness_AcquisitionCommands :
    (∃ (s : State), ∃ (h : Fin 256), ∃ (x : Handle), ∃ p, s.cmd? h.val 0x12 = some x ∧ s.acq.run = none ∧ s.startBad (x.p 0) (bit (x.p 1) 0) = none ∧ s.plan? (x.p 0) = some p ∧ bit (x.p 1) 0 = false ∧ s.dts.run = none) ∧
    (∃ (s : State), ∃ (h : Fin 256), ∃ (x : Handle), ∃ st det r0, s.cmd? h.val 0x12 = some x ∧ s.acq.run = none ∧ s.startBad (x.p 0) (bit (x.p 1) 0) = some (st, det, r0)) ∧
    (∃ (s : State) (h : Fin 256) (x : Handle) (r : Nat × Plan), s.cmd? h.val 0x12 = some x ∧ s.acq.run = some r ∧ s.acq.ending = none) ∧
    (∃ (s : State) (h : Fin 256) (x y : Handle), s.cmd? h.val 0x13 = some x ∧ s.named (x.p 0) = some y ∧ y.op = 0x12 ∧ y.done = false ∧ s.acq.queued = none ∧ s.acq.handle = some y.idx ∧ s.acq.run.isSome = true ∧ s.acq.ending = none ∧ s.acq.sw = none) ∧
    (∃ (s : State) (h : Fin 256) (x : Handle), s.cmd? h.val 0x13 = some x ∧ s.named (x.p 0) = none) ∧
    (∃ (s : State) (h : Fin 256) (x : Handle) (p : Plan), s.cmd? h.val 0x14 = some x ∧ s.acq.run.isSome = true ∧ s.acq.ending = none ∧ s.runsPlan (x.p 0) = false ∧ s.acq.sw = none ∧ s.plan? (x.p 0) = some p ∧ s.refBad p = none ∧ s.rangeBad p = false ∧ s.fld Reg.PRB_STATE_STATE ≠ prbStarting) ∧
    (∃ (s : State) (h : Fin 256) (x : Handle), s.cmd? h.val 0x14 = some x ∧ s.acq.run = none) ∧
    (∃ (s : State) (h : Fin 256) (x : Handle), s.cmd? h.val 0x14 = some x ∧ s.acq.ending = none ∧ s.runsPlan (x.p 0) = true) :=
  ⟨⟨State.probe (State.sets (cmd 0x12 [1]) ready) (fun a => { a with plans := [(1, plan)] }), 5, hnd 5 0x12 [1], plan, by decide⟩,
   ⟨cmd 0x12 [1], 5, hnd 5 0x12 [1], stNotReady, 1, 0, by decide⟩,
   ⟨State.holds acquires (hnd 5 0x12 [1]), 5, hnd 5 0x12 [1], (1, plan), by decide⟩,
   ⟨State.holds (State.holds acquires (hnd 5 0x13 [0x109])) (hnd 9 0x12 [1]), 5, hnd 5 0x13 [0x109], hnd 9 0x12 [1], by decide⟩,
   ⟨cmd 0x13 [0x109], 5, hnd 5 0x13 [0x109], by decide⟩,
   ⟨State.probe (State.holds acquires (hnd 5 0x14 [2])) (fun a => { a with plans := [(2, plan)] }), 5, hnd 5 0x14 [2], plan, by decide⟩,
   ⟨cmd 0x14 [2], 5, hnd 5 0x14 [2], by decide⟩,
   ⟨State.holds acquires (hnd 5 0x14 [1]), 5, hnd 5 0x14 [1], by decide⟩⟩

/-- Meets the hypotheses of `Obligations.FramesAndBias`. -/
theorem witness_FramesAndBias :
    (∃ (s : State) (id : Nat) (p : Plan), s.acq.run = some (id, p) ∧ s.fld Reg.PRB_STATE_STATE = prbStarting ∧ s.acq.sw = none ∧ s.ph.stepPend = 0 ∧ s.now < 2 ^ 64) ∧
    (∃ (s : State) (id : Nat) (p : Plan), s.acq.run = some (id, p) ∧ s.fld Reg.PRB_STATE_STATE = prbRun ∧ s.frameFull p = true ∧ s.acq.ending = none ∧ s.acq.sw = none ∧ s.ph.stepPend = 0 ∧ s.fld64 Reg.GLB_FRAME_LO Reg.GLB_FRAME_HI + 1 < 2 ^ 64) ∧
    (∃ (s : State) (id k : Nat) (p : Plan) (u : Tone), s.acq.run = some (id, p) ∧ p.toneAt (s.acq.fired % p.n) = some k ∧ p.tones[k]? = some u ∧ s.firingDue p = true ∧ s.latchedCode 0x10 = none ∧ s.fld64 Reg.PRB_FIRE_LO Reg.PRB_FIRE_HI + 1 < 2 ^ 64) ∧
    (∃ (s : State) (id : Nat) (p : Plan) (w : PendSwitch), s.acq.run = some (id, p) ∧ s.acq.sw = some w ∧ w.dark = false ∧ s.acq.ending = none ∧ s.frameFull p = true) ∧
    (∃ (s : State) (id : Nat) (p : Plan) (w : PendSwitch), s.acq.run = some (id, p) ∧ s.acq.sw = some w ∧ w.dark = true ∧ s.acq.ending = none ∧ p.frameTicks ≤ s.frameAge ∧ s.acq.stamps = [] ∧ s.red.streams = [] ∧ s.dts.run = none ∧ s.ph.resetHandles = []) ∧
    (∃ (s : State) (r : Nat × Plan) (e : AcqEnd) (i n : Nat), s.acq.run = some r ∧ s.acq.ending = some e ∧ e.stoppers = [n] ∧ s.acq.handle = some i ∧ s.acq.silent = false ∧ s.acq.inFrame = false ∧ s.acq.queued = none ∧ s.acq.stamps = []) ∧
    (∃ (s : State), s.fieldUp = true ∧ s.on Reg.PRB_DAC_TEST = false ∧ s.gateOpen 0 = false ∧ s.dacVisited = false ∧ s.mbDue = true) ∧
    (∃ (s : State), 64 ≤ s.acq.mbCycles ∧ s.on Reg.PRB_MB_STATUS_STARVED = false ∧ s.dacVisited = false ∧ s.on Reg.PRB_DAC_TEST = false) :=
  ⟨⟨State.sets acquires [(Reg.PRB_STATE_STATE, 0, prbStarting)], 1, plan, by decide⟩,
   ⟨{ State.sets acquires [(Reg.PRB_STATE_STATE, 0, prbRun)] with tick := 2000 }, 1, plan, by decide⟩,
   ⟨State.probe acquires (fun a => { a with fired := 0 }), 1, 0, plan, { lane := 72, depth := 1, slot := 0, down := false, fKhz := 300000, bKhz := 160000, nc := 16, edge := 0, ampl := 1, shifts := 0 }, by decide⟩,
   ⟨State.probe { acquires with tick := 2000 } (fun a => { a with sw := some ⟨5, 2, plan, false⟩ }), 1, plan, ⟨5, 2, plan, false⟩, by decide⟩,
   ⟨State.probe { State.holds acquires (hnd 5 0x14 [2]) with tick := 2000 } (fun a => { a with sw := some ⟨5, 2, plan, true⟩, inFrame := false }), 1, plan, ⟨5, 2, plan, true⟩, by decide⟩,
   ⟨State.probe (State.holds (State.holds acquires (hnd 9 0x12 [])) (hnd 5 0x13 [0x109])) (fun a => { a with inFrame := false, ending := some ⟨stAborted, 1, [5], 0⟩ }), (1, plan), ⟨stAborted, 1, [5], 0⟩, 9, 5, by decide⟩,
   ⟨run, by decide⟩,
   ⟨State.probe run (fun a => { a with mbCycles := 64 }), by decide⟩⟩

/-- Meets the hypotheses of `Obligations.LanesAndZones`. -/
theorem witness_LanesAndZones :
    (∃ (s : State) (l : Fin 4) (v : Word), s.answers (0x30008 + 0x20 * l.val) = true ∧ s.crossing (0x30008 + 0x20 * l.val) = false ∧ v.toNat < 2 ^ 11) ∧
    (∃ (s : State) (l : Fin 4), s.answers (0x30004 + 0x20 * l.val) = true ∧ s.crossing (0x30004 + 0x20 * l.val) = false) ∧
    (∃ (s : State), s.runs 1 = true) ∧
    (∃ (s : State), s.runs 1 = false) ∧
    (∃ (s : State), s.acq.run = none ∧ 65534 ≤ s.rx.pwrN) ∧
    (∃ (s : State) (m : Int) (id : Nat) (p : Plan), s.acq.run = some (id, p) ∧ m ≠ 0 ∧ s.rx.pwrN + 2 < 2 * p.frameTicks) ∧
    (∃ (s : State), s.red.cells.length = 2 ^ s.fld Reg.RED_E_CFG_INTERVAL ∧ (∀ k : Fin 4, s.runningSec k = none)) :=
  ⟨⟨run, 3, 0x7FF, by decide⟩,
   ⟨run, 3, by decide⟩,
   ⟨run, by decide⟩,
   ⟨State.reset, by decide⟩,
   ⟨{ run with rx := { run.rx with pwrN := 65534 } }, by decide⟩,
   ⟨acquires, 1, 1, plan, by decide⟩,
   ⟨{ run with red := { run.red with cells := (List.range (2 ^ Reg.RED_E_CFG_INTERVAL.reset 0)).map (fun _ => [0]) } }, by decide +kernel⟩⟩

/-- Meets the hypotheses of `Obligations.SpareLane`. -/
theorem witness_SpareLane :
    (∃ (s : State), s.runs 1 = true ∧ s.spLocked = false ∧ s.spVisited = false ∧ s.fld Reg.RCV_SP_STATUS_PHASE = spIdle ∧ s.fld Reg.RCV_SP_CTL_LANE < 4) ∧
    (∃ (s : State), (s.spLocked = true ∨ s.fld Reg.RCV_SP_STATUS_PHASE ≠ spIdle ∨ 4 ≤ s.fld Reg.RCV_SP_CTL_LANE)) ∧
    (∃ (s : State), s.fld Reg.RCV_SP_STATUS_PHASE = spSettle ∧ s.timerDue .settle (ticksUs 2) = true) ∧
    (∃ (s : State), s.fld Reg.RCV_SP_STATUS_PHASE = spCarry ∧ s.spLocked = false ∧ s.rx.releasing = false) ∧
    (∃ (s : State) (pairs : List (Int × Int)), s.timerDue .compare compareTicks = true ∧ s.fld Reg.RCV_SP_STATUS_PHASE = spCompareIn ∧ s.fld Reg.RCV_SP_STATUS_LANE < 4 ∧ 4 * (pairs.length - (spSums pairs).2) ≤ pairs.length ∧ (spSums pairs).1 ≤ s.spMatch * s.spMatch * (spSums pairs).2) ∧
    (∃ (s : State) (pairs : List (Int × Int)), s.timerDue .compare compareTicks = true ∧ s.fld Reg.RCV_SP_STATUS_PHASE = spCompareIn ∧ s.fld Reg.RCV_SP_STATUS_LANE < 4 ∧ 4 * (pairs.length - (spSums pairs).2) ≤ pairs.length ∧ s.spMatch * s.spMatch * (spSums pairs).2 < (spSums pairs).1) ∧
    (∃ (s : State) (pairs : List (Int × Int)), s.timerDue .compare compareTicks = true ∧ s.fld Reg.RCV_SP_STATUS_PHASE = spCompareOut ∧ 4 * (pairs.length - (spSums pairs).2) ≤ pairs.length ∧ s.spMatch * s.spMatch * (spSums pairs).2 < (spSums pairs).1) ∧
    (∃ (s : State) (pairs : List (Int × Int)), s.timerDue .compare compareTicks = true ∧ s.fld Reg.RCV_SP_STATUS_PHASE = spCompareIn ∧ pairs.length < 4 * (pairs.length - (spSums pairs).2) ∧ s.rx.compares < 8) :=
  ⟨⟨State.sets run [(Reg.RCV_SP_CTL_LANE, 0, 3)], by decide⟩,
   ⟨State.sets run [(Reg.RCV_SP_CTL_LANE, 0, 4)], by decide⟩,
   ⟨State.sets run [(Reg.RCV_SP_STATUS_PHASE, 0, spSettle)], by decide⟩,
   ⟨State.sets run [(Reg.RCV_SP_STATUS_PHASE, 0, spCarry)], by decide⟩,
   ⟨State.sets run [(Reg.RCV_SP_STATUS_PHASE, 0, spCompareIn), (Reg.RCV_SP_CTL_MATCH, 0, 1), (Reg.RCV_SP_STATUS_LANE, 0, 3)], [(1, 0), (1, 0), (1, 0), (511, 0)], by decide⟩,
   ⟨State.sets run [(Reg.RCV_SP_STATUS_PHASE, 0, spCompareIn), (Reg.RCV_SP_CTL_MATCH, 0, 1), (Reg.RCV_SP_STATUS_LANE, 0, 3)], [(2, 0)], by decide⟩,
   ⟨State.sets run [(Reg.RCV_SP_STATUS_PHASE, 0, spCompareOut), (Reg.RCV_SP_CTL_MATCH, 0, 1), (Reg.RCV_SP_STATUS_LANE, 0, 3)], [(2, 0)], by decide⟩,
   ⟨State.sets run [(Reg.RCV_SP_STATUS_PHASE, 0, spCompareIn)], [(511, 0)], by decide⟩⟩

/-- Meets the hypotheses of `Obligations.AlignmentAndSteps`. -/
theorem witness_AlignmentAndSteps :
    (∃ (s : State) (id k : Nat) (p : Plan) (u : Tone), s.runs 1 = true ∧ s.energyWhole = false ∧ s.firingReady p s.ph.nextN = true ∧ s.acq.run = some (id, p) ∧ s.ph.nextN < s.acq.fired ∧ s.ph.stepAt = [] ∧ p.toneAt (s.ph.nextN % p.n) = some k ∧ p.tones[k]? = some u) ∧
    (∃ (s : State) (id : Nat) (p : Plan), s.acq.run = some (id, p) ∧ p.align = true ∧ s.on Reg.CMP_ALIGN_CTL_RELOCK_EN = true) ∧
    (∃ (s : State) (h : Fin 256) (x : Handle), s.cmd? h.val 0x15 = some x ∧ s.acq.run = none) ∧
    (∃ (s : State) (h : Fin 256) (x : Handle) (id : Nat) (p : Plan), s.cmd? h.val 0x15 = some x ∧ s.acq.run = some (id, p) ∧ p.align = false) ∧
    (∃ (s : State) (h : Fin 256) (x : Handle) (id : Nat) (p : Plan), s.cmd? h.val 0x15 = some x ∧ s.acq.run = some (id, p) ∧ p.align = true) ∧
    (∃ (s : State), ∃ (c : Nat), ∃ cs, ∃ a, c < 8 ∧ cs ∈ (s.applyStep c).ph.cells ∧ a ∈ cs) ∧
    (∃ (j : Nat), 1 < j ∧ j ≤ 8) ∧
    (∃ (a j : Nat), 8 < j ∧ a < 65536) ∧
    (∃ (lf : Nat), 0 < lf ∧ lf < 65536) :=
  ⟨⟨{ acquires with rx := { acquires.rx with next := 3000 } }, 1, 0, plan, { lane := 72, depth := 1, slot := 0, down := false, fKhz := 300000, bKhz := 160000, nc := 16, edge := 0, ampl := 1, shifts := 0 }, by decide⟩,
   ⟨State.sets (State.probe run (fun a => { a with run := some (1, { plan with align := true }) })) [(Reg.CMP_ALIGN_CTL_RELOCK_EN, 0, 1)], 1, { plan with align := true }, by decide⟩,
   ⟨cmd 0x15 [], 5, hnd 5 0x15 [], by decide⟩,
   ⟨State.holds acquires (hnd 5 0x15 []), 5, hnd 5 0x15 [], 1, plan, by decide⟩,
   ⟨State.holds (State.probe run (fun a => { a with run := some (1, { plan with align := true }) })) (hnd 5 0x15 []), 5, hnd 5 0x15 [], 1, { plan with align := true }, by decide⟩,
   ⟨{ run with ph := { run.ph with cells := [[5]] } }, 7, [0], 0, by decide⟩,
   ⟨8, by decide⟩,
   ⟨65535, 9, by decide⟩,
   ⟨65535, by decide⟩⟩

/-- Meets the hypotheses of `Obligations.StreamCommands`. -/
theorem witness_StreamCommands :
    (∃ (s : State) (h : Fin 256) (x : Handle), s.cmd? h.val 0x20 = some x ∧ s.ringClosing (x.p 0) = false ∧ s.acq.run = none) ∧
    (∃ (s : State) (h : Fin 256) (x : Handle) (id : Nat) (p : Plan) (r : Fin 8), s.cmd? h.val 0x20 = some x ∧ x.p 0 = r.val ∧ s.ringClosing r = false ∧ s.acq.run = some (id, p) ∧ s.on Reg.SR_CFG_EN r = true ∧ s.on Reg.SR_STATUS_OPEN r = false ∧ s.reqBad p (x.streamReq 1) 28 = none ∧ ((s.sr r).bufs.any (fun b => decide (b.len < (x.streamReq 1).maxBlock)) = false) ∧ s.gctxMissing (x.streamReq 1) = false) ∧
    (∃ (s : State) (h : Fin 256) (x : Handle) (id f : Nat) (p : Plan), s.cmd? h.val 0x22 = some x ∧ s.acq.run = some (id, p) ∧ x.p 0 % 64 = 0 ∧ x.p 0 < 0x7FFF00 ∧ x.p 1 % 64 = 0 ∧ x.p 0 + x.p 1 ≤ 0x7FFF00 ∧ s.reqBad p (x.streamReq 2) 32 = none ∧ s.firnSlot = some f ∧ (x.streamReq 2).maxBlock ≤ x.p 1 ∧ s.gctxMissing (x.streamReq 2) = false ∧ s.mem.firn.wf = true) ∧
    (∃ (s : State) (h : Fin 256) (x y : Handle) (st : Stream) (r : Fin 8), s.cmd? h.val 0x21 = some x ∧ s.named (x.p 0) = some y ∧ y.op = 0x20 ∧ y.done = false ∧ s.red.waiting = [] ∧ s.red.streams = [st] ∧ st.handle = some y.idx ∧ st.closing = none ∧ st.dest = .ring r ∧ st.ready = [] ∧ st.open_ = none ∧ (s.sr r).cur = none ∧ (s.sr r).ret = none) ∧
    (∃ (s : State) (h : Fin 256) (x : Handle), s.cmd? h.val 0x21 = some x ∧ s.named (x.p 0) = none) :=
  ⟨⟨cmd 0x20 [0], 5, hnd 5 0x20 [0], by decide⟩,
   ⟨State.sets (State.holds acquires (hnd 5 0x20 [0, 2, 0, 1, 0x10001, 0])) [(Reg.SR_CFG_EN, 0, 1)], 5, hnd 5 0x20 [0, 2, 0, 1, 0x10001, 0], 1, plan, 0, by decide⟩,
   ⟨State.holds acquires (hnd 5 0x22 [0, 0x7FFF00, 2, 0, 1, 0x10001, 0]), 5, hnd 5 0x22 [0, 0x7FFF00, 2, 0, 1, 0x10001, 0], 1, 0, plan, by decide⟩,
   ⟨State.streams (State.holds (cmd 0x21 [0x109]) (hnd 9 0x20 [])) [{ strm with ready := [] }], 5, hnd 5 0x21 [0x109], hnd 9 0x20 [], { strm with ready := [] }, 0, by decide +kernel⟩,
   ⟨cmd 0x21 [0x109], 5, hnd 5 0x21 [0x109], by decide⟩⟩

/-- Meets the hypotheses of `Obligations.StreamDelivery`. -/
theorem witness_StreamDelivery :
    (∃ (s : State) (id : BitVec 16) (st : Stream) (b : SBlock) (bs : List SBlock) (r : Fin 8) (c : CurBuf), id ≠ 0 ∧ s.stream? id.toNat = some st ∧ st.ready = b :: bs ∧ st.owesGroom b = false ∧ st.dest = .ring r ∧ s.on Reg.SR_CFG_EN r = true ∧ s.engineOn r 4 = true ∧ s.pw.standalone = false ∧ s.linkOk = true ∧ (s.sr r).ret = none ∧ s.on Reg.SR_STATUS_BUF_ERR r = false ∧ (s.sr r).cur = some c ∧ c.bytes + (b.bytes st.ovf).length ≤ c.buf.len) ∧
    (∃ (s : State) (id : BitVec 16) (st : Stream) (b : SBlock) (bs : List SBlock) (r : Fin 8), id ≠ 0 ∧ s.stream? id.toNat = some st ∧ st.ready = b :: bs ∧ st.owesGroom b = false ∧ st.dest = .ring r ∧ s.on Reg.SR_CFG_EN r = false) ∧
    (∃ (s : State) (id : BitVec 16) (st : Stream), s.stream? id.toNat = some st ∧ s.timerDue (.block id.toNat) (ticksMs (max 1 (s.fld Reg.RED_CTL))) = true) ∧
    (∃ (s : State) (r : Fin 8) (c : CurBuf), (s.sr r).cur = some c ∧ c.bytes ≠ 0 ∧ (s.sr r).bufs = [] ∧ s.fillOpen r = true ∧ s.linkOk = true ∧ s.pw.standalone = false ∧ s.timerDue (.flush r) (ticksUs (max 10 (s.fld Reg.SR_FLUSH r))) = true) ∧
    (∃ (s : State) (r : Fin 8) (f : FillRet), (s.sr r).ret = some f ∧ s.fillOpen r = true ∧ s.linkOk = true ∧ s.pw.standalone = false ∧ s.red.streams = [] ∧ (s.sr r).bufs = []) :=
  ⟨⟨State.sets (State.ring0 (State.streams run [strm]) { SrState.reset with cur := some (cur 3968) }) [(Reg.SR_CFG_EN, 0, 1), (Reg.HQE_CTL_EN0, 0, 1), (Reg.HQE_CTL_EN1, 0, 1)], 0x109, strm, blk, [], 0, cur 3968, by decide +kernel⟩,
   ⟨State.streams run [strm], 0x109, strm, blk, [], 0, by decide⟩,
   ⟨State.streams run [strm], 0x109, strm, by decide⟩,
   ⟨State.ring0 queue { SrState.reset with cur := some (cur 64) }, 0, cur 64, by decide⟩,
   ⟨State.ring0 queue { SrState.reset with ret := some ⟨7, 64, 1, 0⟩ }, 0, ⟨7, 64, 1, 0⟩, by decide⟩⟩

/-- Meets the hypotheses of `Obligations.RamanCommands`. -/
theorem witness_RamanCommands :
    (∃ (s : State) (h : Fin 256) (d : CmdData) (bs : List Byte) (x : Handle), s.cmd? h.val 0x50 = some x ∧ s.dts.run = none ∧ s.dataOf x d = some (64, bs) ∧ dtsBad bs = none) ∧
    (∃ (s : State), ∃ (h : Fin 256), ∃ (d : CmdData), ∃ (bs : List Byte), ∃ (x : Handle), ∃ o, s.cmd? h.val 0x50 = some x ∧ s.dts.run = none ∧ s.dataOf x d = some (64, bs) ∧ dtsBad bs = some o) ∧
    (∃ (s : State) (h : Fin 256) (d : CmdData) (bs : List Byte) (n : Nat) (x : Handle), s.cmd? h.val 0x50 = some x ∧ s.dts.run = none ∧ s.dataOf x d = some (n, bs) ∧ n ≠ 64) ∧
    (∃ (s : State) (h : Fin 256) (x : Handle) (r : DtsRun), s.cmd? h.val 0x50 = some x ∧ s.dts.run = some r) ∧
    (∃ (s : State) (h : Fin 256) (x : Handle), s.cmd? h.val 0x51 = some x ∧ 10 ≤ x.p 0 ∧ x.p 0 ≤ 22 ∧ s.dts.run = none ∧ s.dts.cfg = none) ∧
    (∃ (s : State), ∃ (h : Fin 256), ∃ (x : Handle), ∃ c, s.cmd? h.val 0x51 = some x ∧ 10 ≤ x.p 0 ∧ x.p 0 ≤ 22 ∧ s.dts.run = none ∧ s.dts.cfg = some c ∧ s.latchedCode 0x20 = none ∧ s.on Reg.PWR_STATUS_REF_LOCK = true ∧ s.dtsFits c = false) ∧
    (∃ (s : State), ∃ (h : Fin 256), ∃ (x : Handle), ∃ c, s.cmd? h.val 0x51 = some x ∧ 10 ≤ x.p 0 ∧ x.p 0 ≤ 22 ∧ s.dts.run = none ∧ s.dts.cfg = some c ∧ s.latchedCode 0x20 = none ∧ s.on Reg.PWR_STATUS_REF_LOCK = true ∧ s.dtsFits c = true) ∧
    (∃ (s : State) (h : Fin 256) (x : Handle), s.cmd? h.val 0x52 = some x ∧ s.dts.run = none) ∧
    (∃ (s : State) (h : Fin 256) (x : Handle) (r : DtsRun) (i : Nat), s.cmd? h.val 0x52 = some x ∧ s.dts.run = some r ∧ r.handle = some i ∧ s.dts.waiting = []) ∧
    (∃ (s : State) (h : Fin 256) (x : Handle), s.cmd? h.val 0x53 = some x ∧ x.p 0 = 0 ∧ s.dts.newest = none) ∧
    (∃ (s : State) (h : Fin 256) (d : CmdData) (x : Handle) (c : DtsCfg), s.cmd? h.val 0x53 = some x ∧ s.dts.cfg = some c ∧ x.p 0 = 1 ∧ s.dts.doneA = true ∧ s.fld Reg.DTS_STATUS_STATE ≠ dtsClosing ∧ c.slotBytes ≤ segsLen (s.buffer x d).1.1) :=
  ⟨⟨State.holds run (buf 0x50 [] 64), 5, data ramanRec, ramanRec, buf 0x50 [] 64, by decide⟩,
   ⟨State.holds run (buf 0x50 [] 64), 5, data (zeros 64), zeros 64, buf 0x50 [] 64, 0, by decide⟩,
   ⟨State.holds run (buf 0x50 [] 63), 5, data (zeros 63), zeros 63, 63, buf 0x50 [] 63, by decide⟩,
   ⟨State.holds average (buf 0x50 [] 64), 5, buf 0x50 [] 64, ⟨some 9, 10, false⟩, by decide⟩,
   ⟨cmd 0x51 [22], 5, hnd 5 0x51 [22], by decide⟩,
   ⟨State.sets (State.raman (cmd 0x51 [10]) (fun d => { d with cfg := some { raman with winOfs := 2000 } })) [(Reg.PWR_STATUS_REF_LOCK, 0, 1)], 5, hnd 5 0x51 [10], { raman with winOfs := 2000 }, by decide⟩,
   ⟨State.sets (State.raman (cmd 0x51 [10]) (fun d => { d with cfg := some raman })) [(Reg.PWR_STATUS_REF_LOCK, 0, 1)], 5, hnd 5 0x51 [10], raman, by decide⟩,
   ⟨cmd 0x52 [], 5, hnd 5 0x52 [], by decide⟩,
   ⟨State.holds average (hnd 5 0x52 []), 5, hnd 5 0x52 [], ⟨some 9, 10, false⟩, 9, by decide⟩,
   ⟨cmd 0x53 [0], 5, hnd 5 0x53 [0], by decide⟩,
   ⟨State.raman (State.holds run (buf 0x53 [1] 128)) (fun d => { d with cfg := some raman, doneA := true }), 5, data [], buf 0x53 [1] 128, raman, by decide⟩⟩

/-- Meets the hypotheses of `Obligations.RamanAverages`. -/
theorem witness_RamanAverages :
    (∃ (s : State) (r : DtsRun) (c : DtsCfg), s.dts.run = some r ∧ s.dts.cfg = some c ∧ s.shotDue r c = true ∧ s.dts.windowEnd = none ∧ s.dts.closeEnd = none ∧ s.fld Reg.DTS_STATUS_STATE = dtsAveraging ∧ s.dts.shots < 2 ^ r.l ∧ s.dts.reverse = false ∧ s.dts.shots + 1 < 2 ^ 23) ∧
    (∃ (s : State) (r : DtsRun) (c : DtsCfg) (e : Nat), s.dts.run = some r ∧ s.dts.cfg = some c ∧ s.shotDue r c = true ∧ s.dts.windowEnd = some e ∧ s.tick < e + c.darkN) ∧
    (∃ (s : State) (r : DtsRun) (c : DtsCfg), s.dts.run = some r ∧ s.dts.cfg = some c ∧ c.dual = true ∧ s.legOver r = true ∧ s.dts.reverse = false) ∧
    (∃ (s : State) (r : DtsRun) (c : DtsCfg), s.dts.run = some r ∧ s.dts.cfg = some c ∧ c.dual = false ∧ s.legOver r = true ∧ s.mem.firn.wf = true) ∧
    (∃ (s : State) (r : DtsRun) (c : DtsCfg) (h : Nat), s.dts.run = some r ∧ s.dts.cfg = some c ∧ r.handle = some h ∧ r.cont = false ∧ s.dts.waiting = [] ∧ s.fld Reg.DTS_STATUS_STATE = dtsClosing ∧ s.dts.closeFrom + c.closeTicks ≤ s.tick ∧ s.pw.standalone = false ∧ s.mem.firn.wf = true) ∧
    (∃ (s : State) (r : DtsRun) (c : DtsCfg), s.dts.run = some r ∧ s.dts.cfg = some c ∧ s.shotDue r c = false) :=
  ⟨⟨average, ⟨some 9, 10, false⟩, raman, by decide⟩,
   ⟨State.raman (State.probe { average with tick := 100 } (fun a => { a with run := some (1, plan), inFrame := true, frameTick := 100 })) (fun d => { d with windowEnd := some 100 }), ⟨some 9, 10, false⟩, raman, 100, by decide⟩,
   ⟨State.raman average (fun d => { d with cfg := some { raman with dual := true }, shots := 1024 }), ⟨some 9, 10, false⟩, { raman with dual := true }, by decide⟩,
   ⟨State.raman average (fun d => { d with shots := 1024 }), ⟨some 9, 10, false⟩, raman, by decide⟩,
   ⟨{ State.holds (State.sets average [(Reg.DTS_STATUS_STATE, 0, dtsClosing)]) (hnd 9 0x51 [10]) with tick := 4001 }, ⟨some 9, 10, false⟩, raman, 9, by decide⟩,
   ⟨State.raman average (fun d => { d with shotAt := some 0 }), ⟨some 9, 10, false⟩, raman, by decide⟩⟩

/-- Meets the hypotheses of `Obligations.SequencerCommands`. -/
theorem witness_SequencerCommands :
    (∃ (s : State) (h : Fin 256) (d : CmdData) (n : Nat) (bs : List Byte) (x : Handle), s.cmd? h.val 0x30 = some x ∧ s.on Reg.SLM_STATUS_ARMED = false ∧ s.dataOf x d = some (n, bs) ∧ n = 16 + 48 * field bs 6 2 ∧ programBad bs (field bs 6 2) = none) ∧
    (∃ (s : State), ∃ (h : Fin 256), ∃ (d : CmdData), ∃ (n : Nat), ∃ (bs : List Byte), ∃ (x : Handle), ∃ o, s.cmd? h.val 0x30 = some x ∧ s.on Reg.SLM_STATUS_ARMED = false ∧ s.dataOf x d = some (n, bs) ∧ n = 16 + 48 * field bs 6 2 ∧ programBad bs (field bs 6 2) = some o) ∧
    (∃ (s : State) (h : Fin 256) (d : CmdData) (n : Nat) (bs : List Byte) (x : Handle), s.cmd? h.val 0x30 = some x ∧ s.on Reg.SLM_STATUS_ARMED = false ∧ s.dataOf x d = some (n, bs) ∧ n ≠ 16 + 48 * field bs 6 2) ∧
    (∃ (s : State) (h : Fin 256) (x : Handle), s.cmd? h.val 0x30 = some x ∧ s.on Reg.SLM_STATUS_ARMED = true) ∧
    (∃ (n : Nat) (g : Fin 16), g.val < n) ∧
    (∃ (n : Nat) (g : Fin 16), n ≤ g.val) ∧
    (∃ (s : State) (h : Fin 256) (x : Handle), s.cmd? h.val 0x31 = some x ∧ x.p 0 < 16 ∧ s.slm.loaded = false) ∧
    (∃ (s : State) (h : Fin 256) (x : Handle), s.cmd? h.val 0x31 = some x ∧ x.p 0 < 16 ∧ s.slm.loaded = true ∧ s.on Reg.SLM_STATUS_ARMED = true) ∧
    (∃ (s : State) (h : Fin 256) (x : Handle), s.cmd? h.val 0x31 = some x ∧ x.p 0 < 16 ∧ s.slm.loaded = true ∧ s.on Reg.SLM_STATUS_ARMED = false ∧ x.p 1 % 4 = 0 ∧ s.on Reg.SLM_STATUS_LIFT_STUCK = false) ∧
    (∃ (s : State) (h : Nat), s.slm.handle = some h) ∧
    (∃ (s : State) (h : Fin 256) (x : Handle), s.cmd? h.val 0x32 = some x ∧ s.named (x.p 0) = none) ∧
    (∃ (s : State), ∃ (h : Fin 256), ∃ (x : Handle), ∃ y, s.cmd? h.val 0x32 = some x ∧ s.named (x.p 0) = some y ∧ y.op = 0x31 ∧ y.done = false ∧ s.slm.handle = some y.idx) ∧
    (∃ (s : State) (h : Fin 256) (x : Handle), s.cmd? h.val 0x35 = some x ∧ x.p 0 ≤ 2 ∧ x.p 1 ≤ 31 ∧ s.on Reg.SLM_STATUS_ARMED = false) :=
  ⟨⟨State.holds run (buf 0x30 [] 64), 5, data program, 64, program, buf 0x30 [] 64, by decide⟩,
   ⟨State.holds run (buf 0x30 [] 16), 5, data (zeros 16), 16, zeros 16, buf 0x30 [] 16, 0, by decide⟩,
   ⟨State.holds run (buf 0x30 [] 15), 5, data (zeros 15), 15, zeros 15, buf 0x30 [] 15, by decide⟩,
   ⟨State.holds armed (hnd 5 0x30 []), 5, hnd 5 0x30 [], by decide⟩,
   ⟨1, 0, by decide⟩,
   ⟨1, 15, by decide⟩,
   ⟨cmd 0x31 [15], 5, hnd 5 0x31 [15], by decide⟩,
   ⟨State.holds armed (hnd 5 0x31 [15]), 5, hnd 5 0x31 [15], by decide⟩,
   ⟨State.slalom (cmd 0x31 [15]) (fun x => { x with loaded := true }), 5, hnd 5 0x31 [15], by decide⟩,
   ⟨armed, 9, by decide⟩,
   ⟨cmd 0x32 [0x109], 5, hnd 5 0x32 [0x109], by decide⟩,
   ⟨State.holds (State.holds armed (hnd 5 0x32 [0x109])) (hnd 9 0x31 []), 5, hnd 5 0x32 [0x109], hnd 9 0x31 [], by decide⟩,
   ⟨cmd 0x35 [2, 31], 5, hnd 5 0x35 [2, 31], by decide⟩⟩

/-- Meets the hypotheses of `Obligations.SequencerEvents`. -/
theorem witness_SequencerEvents :
    (∃ (s : State) (g n : Fin 16), s.on Reg.SLM_STATUS_ARMED = true ∧ s.slm.entered = false ∧ s.fld Reg.SLM_STATUS_GATE = g.val ∧ s.fld Reg.SLM_GATE_COUNT g ≤ s.fld Reg.SLM_GATE_CNT g + 1 ∧ s.fld Reg.SLM_GATE_ACT g % 4 = 0 ∧ s.fld Reg.SLM_GATE_NEXT g % 32 = n.val ∧ s.now < 2 ^ 64) ∧
    (∃ (s : State) (g : Fin 16), s.on Reg.SLM_STATUS_ARMED = true ∧ s.slm.entered = false ∧ s.fld Reg.SLM_STATUS_GATE = g.val ∧ s.fld Reg.SLM_GATE_COUNT g ≤ s.fld Reg.SLM_GATE_CNT g + 1 ∧ s.fld Reg.SLM_GATE_ACT g = 0 ∧ s.fld Reg.SLM_GATE_NEXT g % 32 = 0x1F) ∧
    (∃ (s : State) (g n : Fin 16), s.on Reg.SLM_STATUS_ARMED = true ∧ s.slm.entered = false ∧ s.fld Reg.SLM_STATUS_GATE = g.val ∧ s.on Reg.SLM_GATE_TIMER g = true ∧ s.fld Reg.SLM_GATE_TMR g ≤ 1 ∧ bits (s.fld Reg.SLM_GATE_NEXT g) 12 8 = n.val) ∧
    (∃ (s : State), s.slm.entered = true) ∧
    (∃ (s : State) (n : Fin 4), s.fld Reg.SLM_PT n ≠ 0 ∧ s.slm.ptLeft[n] ≤ 1) ∧
    (∃ (s : State) (n : Fin 4), s.answers (0x80018 + 4 * n.val) = true ∧ s.crossing (0x80018 + 4 * n.val) = false) ∧
    (∃ (s : State), s.slm.fireLine = false ∧ s.on Reg.SLM_STATUS_LIFT_ARMED = true ∧ s.now < 2 ^ 64) ∧
    (∃ (s : State), s.slm.fireLine = true ∧ s.on Reg.SLM_STATUS_LIFT_ARMED = true) :=
  ⟨⟨State.sets armed [(Reg.SLM_GATE_ACT, 15, 0), (Reg.SLM_GATE_NEXT, 15, 14), (Reg.SLM_GATE_COUNT, 15, 1)], 15, 14, by decide⟩,
   ⟨State.sets armed [(Reg.SLM_GATE_ACT, 15, 0), (Reg.SLM_GATE_NEXT, 15, 0x1F1F)], 15, by decide⟩,
   ⟨State.sets armed [(Reg.SLM_GATE_TIMER, 15, 1), (Reg.SLM_GATE_TMR, 15, 1), (Reg.SLM_GATE_NEXT, 15, 0xE00)], 15, 14, by decide⟩,
   ⟨State.slalom armed (fun x => { x with entered := true }), by decide⟩,
   ⟨State.sets run [(Reg.SLM_PT, 3, 1)], 3, by decide⟩,
   ⟨run, 3, by decide⟩,
   ⟨State.sets run [(Reg.SLM_STATUS_LIFT_ARMED, 0, 1)], by decide⟩,
   ⟨State.slalom (State.sets run [(Reg.SLM_STATUS_LIFT_ARMED, 0, 1)]) (fun x => { x with fireLine := true, handle := some 9 }), by decide⟩⟩

/-- Meets the hypotheses of `Obligations.GlacierAndCaptures`. -/
theorem witness_GlacierAndCaptures :
    (∃ (s : State) (st : Stream) (b : SBlock) (bs : List SBlock) (g : GSeg), s.stream? 0 = some st ∧ st.dest = .glacier ∧ st.ready = b :: bs ∧ st.owesGroom b = false ∧ s.openSeg = some g ∧ g.used + b.padded ≤ segBytes ∧ 64 ≤ g.used ∧ s.mem.ext.wf = true) ∧
    (∃ (s : State) (st : Stream) (b : SBlock) (bs : List SBlock), s.stream? 0 = some st ∧ st.dest = .glacier ∧ st.ready = b :: bs ∧ st.owesGroom b = false ∧ s.openSeg = none ∧ s.nextPos = none) ∧
    (∃ (s : State) (g : GSeg), s.openSeg = some g ∧ g.blks ≠ [] ∧ s.mem.ext.wf = true) ∧
    (∃ (s : State) (h : Fin 256) (x : Handle), s.cmd? h.val 0x33 = some x ∧ s.ringRuns = false) ∧
    (∃ (s : State) (h : Fin 256) (x : Handle), s.cmd? h.val 0x33 = some x ∧ s.capBad (x.p 0 + x.p 1 * 2 ^ 32) (x.p 3) (x.p 4) (x.p 5) (x.p 6) = none ∧ s.freeSlot = none) ∧
    (∃ (s : State), ∃ (h : Fin 256), ∃ (x : Handle), ∃ k, s.cmd? h.val 0x33 = some x ∧ s.capBad (x.p 0 + x.p 1 * 2 ^ 32) (x.p 3) (x.p 4) (x.p 5) (x.p 6) = none ∧ s.freeSlot = some k) ∧
    (∃ (s : State) (k : Fin 8) (c : Cap), s.cap? k.val = some c ∧ c.stop ≤ s.now ∧ c.liftWait = none ∧ c.ended = false ∧ c.early = none) ∧
    (∃ (s : State) (k : Fin 8) (c : Cap), s.cap? k.val = some c ∧ c.stop ≤ s.now ∧ c.liftWait = none ∧ c.ended = false ∧ c.early.isSome = true) ∧
    (∃ (s : State) (k : Fin 8) (c : Cap), s.cap? k.val = some c ∧ s.memReady = true ∧ c.ended = true ∧ c.oos = false ∧ s.slm.segs = [] ∧ s.capUsed ≤ s.rgnSize 1) ∧
    (∃ (s : State) (h : Fin 256) (x : Handle), s.cmd? h.val 0x34 = some x ∧ (s.slm.caps.find? (fun c => c.id == x.p 0) = none)) ∧
    (∃ (s : State), ∃ (h : Fin 256), ∃ (x : Handle), ∃ c, s.cmd? h.val 0x34 = some x ∧ (s.slm.caps.find? (fun c => c.id == x.p 0) = some c) ∧ s.capHolds c = true) ∧
    (∃ (s : State), ∃ (h : Fin 256), ∃ (x : Handle), ∃ c, s.cmd? h.val 0x34 = some x ∧ (s.slm.caps.find? (fun c => c.id == x.p 0) = some c) ∧ s.capHolds c = false) ∧
    (∃ (s : State) (r : CapRead) (x : Handle) (c : Cap), s.slm.reads = [r] ∧ s.hasTurn r.handle = true ∧ s.memReady = true ∧ r.left = 0 ∧ s.handle? r.handle = some x ∧ (s.slm.caps.find? (fun c => c.id == r.id) = some c) ∧ ((s.readGone r.handle).capLines c.base (64 + c.bytes)).capPoisoned c.base (64 + c.bytes) = false ∧ (((s.readGone r.handle).capLines c.base (64 + c.bytes)).capReadOut c).2.1 = 0 ∧ ((((s.readGone r.handle).capLines c.base (64 + c.bytes)).capReadOut c).1).length ≤ segsLen r.buf.1) :=
  ⟨⟨State.slalom (State.streams glacier [feed]) (fun x => { x with segs := [⟨0, 0, 64, false, [], false⟩] }), feed, blk, [], ⟨0, 0, 64, false, [], false⟩, by decide⟩,
   ⟨State.streams run [feed], feed, blk, [], by decide⟩,
   ⟨State.slalom glacier (fun x => { x with segs := [⟨0, 0, 192, false, [{ serial := 0, off := 64, len := 128, stamp := 0, last := 0, frame := 0, plan := 1, first := 0, points := 1, ovf := false }], false⟩] }), ⟨0, 0, 192, false, [{ serial := 0, off := 64, len := 128, stamp := 0, last := 0, frame := 0, plan := 1, first := 0, points := 1, ovf := false }], false⟩, by decide⟩,
   ⟨cmd 0x33 [], 5, hnd 5 0x33 [], by decide⟩,
   ⟨State.slalom (State.holds glacier (hnd 5 0x33 [0, 0, 0, 30000, 63, 1, 0x10001])) (fun x => { x with caps := (List.range 8).map (fun k => { cap with slot := k, stored := false }) }), 5, hnd 5 0x33 [0, 0, 0, 30000, 63, 1, 0x10001], by decide⟩,
   ⟨State.slalom (State.holds glacier (hnd 5 0x33 [0, 0, 0, 30000, 63, 1, 0x10001])) (fun x => { x with caps := ((List.range 8).map (fun k => { cap with slot := k, stored := false })).take 7 }), 5, hnd 5 0x33 [0, 0, 0, 30000, 63, 1, 0x10001], 7, by decide⟩,
   ⟨State.slalom glacier (fun x => { x with caps := [{ cap with slot := 7, stored := false, ended := false }] }), 7, { cap with slot := 7, stored := false, ended := false }, by decide⟩,
   ⟨State.slalom glacier (fun x => { x with caps := [{ { cap with slot := 7, stored := false, ended := false } with early := some 0 }] }), 7, { { cap with slot := 7, stored := false, ended := false } with early := some 0 }, by decide⟩,
   ⟨State.slalom glacier (fun x => { x with caps := [{ cap with slot := 7, stored := false }] }), 7, { cap with slot := 7, stored := false }, by decide⟩,
   ⟨cmd 0x34 [1], 5, hnd 5 0x34 [1], by decide⟩,
   ⟨State.slalom (cmd 0x34 [1]) (fun x => { x with caps := [{ cap with slot := 7, stored := false, ended := false }] }), 5, hnd 5 0x34 [1], { cap with slot := 7, stored := false, ended := false }, by decide⟩,
   ⟨State.slalom (State.holds glacier (buf 0x34 [1] 256)) (fun x => { x with caps := [{ cap with order := 1 }] }), 5, buf 0x34 [1] 256, { cap with order := 1 }, by decide⟩,
   ⟨State.slalom (State.holds { glacier with grm := { glacier.grm with turns := [5] } } (buf 0x34 [1] 256)) (fun x => { x with caps := [cap], reads := [⟨5, 1, ([(0x1000, 256)], .whole), 0⟩] }), ⟨5, 1, ([(0x1000, 256)], .whole), 0⟩, buf 0x34 [1] 256, cap, by decide⟩⟩

/-- Meets the hypotheses of `Obligations.GroomedChunks`. -/
theorem witness_GroomedChunks :
    (∃ (s : State) (st : Stream) (b : SBlock), s.red.streams = [st] ∧ st.groomed = true ∧ st.ready = [b] ∧ b.through = false ∧ b.groomed = false) ∧
    (∃ (s : State) (st : Stream) (b : SBlock) (r : Fin 8), s.red.streams = [st] ∧ st.groomed = true ∧ st.ready = [b] ∧ b.through = false ∧ st.dest = .ring r) ∧
    (∃ (s : State) (h : Fin 256) (d : HostData) (j : GJob) (bs : List Byte), s.job? h.val = some j ∧ j.inst.isSome = true ∧ s.runs 6 = true ∧ s.jobReady j = true ∧ j.compress = true ∧ j.elem < 4 ∧ 0 < j.left ∧ j.left ≤ 65536 ∧ j.inEnd = .whole ∧ 65560 ≤ segsLen (s.clipBuffer (j.outs, j.outEnd)).1 ∧ ((s.timerStart (.handle h.val)).chunkIn j d).1 = .ok bs) ∧
    (∃ (s : State) (h : Fin 256) (j : GJob), s.job? h.val = some j ∧ j.inst.isSome = true ∧ s.runs 6 = true ∧ s.jobReady j = true ∧ (j.compress = true ∨ s.hasTurn h.val = true) ∧ s.pw.standalone = false) ∧
    (∃ (j : GJob), ∃ k, j.slot = some k ∧ k < 64) ∧
    (∃ (s : State) (h : Fin 256) (j : GJob), s.job? h.val = some j ∧ j.inst = none) :=
  ⟨⟨State.streams run [{ strm with groomed := true }], { strm with groomed := true }, blk, by decide⟩,
   ⟨State.streams run [{ strm with groomed := true }], { strm with groomed := true }, blk, 0, by decide⟩,
   ⟨{ run with grm := { run.grm with jobs := [job] } }, 5, .ok [], job, [], by decide⟩,
   ⟨{ run with grm := { run.grm with jobs := [job] } }, 5, job, by decide⟩,
   ⟨job, 63, by decide⟩,
   ⟨{ run with grm := { run.grm with jobs := [{ job with inst := none }] } }, 5, { job with inst := none }, by decide⟩⟩

/-- Meets the hypotheses of `Obligations.GroomerCommands`. -/
theorem witness_GroomerCommands :
    (∃ (s : State) (h : Fin 256) (i : CmdData) (x : Handle), s.cmd? h.val 0x40 = some x ∧ (s.listBuffer 8 x.ptr0 x.len0 false i).1.2.known = true ∧ (s.listBuffer 8 x.ptr0 x.len0 false i).1.2 = .whole ∧ segsLen (s.listBuffer 8 x.ptr0 x.len0 false i).1.1 % (elemBytes (bits (x.p 3) 21 20)) ≠ 0) ∧
    (∃ (s : State), ∃ (h : Fin 256), ∃ (i : CmdData), ∃ (x : Handle), ∃ f, s.cmd? h.val 0x40 = some x ∧ (s.listBuffer 8 x.ptr0 x.len0 false i).1.2.known = true ∧ (s.listBuffer 8 x.ptr0 x.len0 false i).1.2 = .whole ∧ segsLen (s.listBuffer 8 x.ptr0 x.len0 false i).1.1 % (elemBytes (bits (x.p 3) 21 20)) = 0 ∧ compressBad x = some f) ∧
    (∃ (s : State) (h : Fin 256) (i o : CmdData) (x : Handle) (k : Nat), s.cmd? h.val 0x40 = some x ∧ (s.listBuffer 8 x.ptr0 x.len0 false i).1.2.known = true ∧ (s.listBuffer 8 x.ptr0 x.len0 false i).1.2 = .whole ∧ segsLen (s.listBuffer 8 x.ptr0 x.len0 false i).1.1 % (elemBytes (bits (x.p 3) 21 20)) = 0 ∧ compressBad x = none ∧ x.p 4 = k ∧ k < 64 ∧ s.slotState k = slotFree ∧ s.rgnSize 2 ≠ 0 ∧ s.grm.jobs.length < 16 ∧ ((s.listBuffer 8 x.ptr0 x.len0 false i).2.listBuffer 24 (x.p 0 + x.p 1 * 2 ^ 32) (x.p 2) true o).1.2.known = true) ∧
    (∃ (s : State) (h : Fin 256) (i o : CmdData) (x : Handle), s.cmd? h.val 0x41 = some x ∧ x.p 4 = 0xFF ∧ s.grm.jobs.length < 16 ∧ (s.listBuffer 8 x.ptr0 x.len0 false i).1.2.known = true ∧ ((s.listBuffer 8 x.ptr0 x.len0 false i).2.listBuffer 24 (x.p 0 + x.p 1 * 2 ^ 32) (x.p 2) true o).1.2.known = true) ∧
    (∃ (s : State) (h : Fin 256) (x : Handle), s.cmd? h.val 0x42 = some x ∧ (63 < x.p 0 ∨ s.slotState (x.p 0) = slotFree)) ∧
    (∃ (s : State) (h : Fin 256) (i o : CmdData) (x : Handle), s.cmd? h.val 0x42 = some x ∧ x.p 0 ≤ 63 ∧ s.slotState (x.p 0) = slotSaved ∧ s.grm.jobs.length < 16 ∧ s.memReady = true ∧ s.poisoned (s.ctxOfs (x.p 0)) 40960 = false ∧ ctxGood (s.extGet (s.ctxOfs (x.p 0)) 40960) = true ∧ ((s.linesRead (s.ctxOfs (x.p 0)) 40960).listBuffer 8 (ctxJob (s.extGet (s.ctxOfs (x.p 0)) 40960) h.val (x.p 0)).inList (ctxJob (s.extGet (s.ctxOfs (x.p 0)) 40960) h.val (x.p 0)).inElems false i).1.2.known = true ∧ (((s.linesRead (s.ctxOfs (x.p 0)) 40960).listBuffer 8 (ctxJob (s.extGet (s.ctxOfs (x.p 0)) 40960) h.val (x.p 0)).inList (ctxJob (s.extGet (s.ctxOfs (x.p 0)) 40960) h.val (x.p 0)).inElems false i).2.listBuffer 28 (x.p 1 + x.p 2 * 2 ^ 32) (x.p 3) true o).1.2.known = true) ∧
    (∃ (s : State) (h : Fin 256) (x : Handle), s.cmd? h.val 0x43 = some x ∧ 63 < x.p 0) ∧
    (∃ (s : State) (h : Fin 256) (x : Handle), s.cmd? h.val 0x43 = some x ∧ x.p 0 ≤ 63 ∧ s.slotState (x.p 0) ≠ slotActive) ∧
    (∃ (i v : Nat) (k : Fin 64), i < 64 ∧ v < 4 ∧ k.val ≠ i) :=
  ⟨⟨State.holds run ({ hnd 5 0x40 [0, 0, 0, 0x100000] with ptr0 := 0x1000, len0 := 1 }), 5, ⟨[⟨0x4000, 63, true, false⟩], .ok []⟩, { hnd 5 0x40 [0, 0, 0, 0x100000] with ptr0 := 0x1000, len0 := 1 }, by decide⟩,
   ⟨State.holds run ({ hnd 5 0x40 [0, 0, 0, 10] with ptr0 := 0x1000, len0 := 1 }), 5, ⟨[⟨0x4000, 64, true, false⟩], .ok []⟩, { hnd 5 0x40 [0, 0, 0, 10] with ptr0 := 0x1000, len0 := 1 }, 36, by decide⟩,
   ⟨State.sets (State.holds run ({ hnd 5 0x40 [0, 0, 0, 0, 63, 1] with ptr0 := 0x1000, len0 := 1 })) [(Reg.MEM_RGN_ESIZE, 2, 1)], 5, ⟨[⟨0x4000, 64, true, false⟩], .ok []⟩, ⟨[⟨0x8000, 64, true, false⟩], .ok []⟩, { hnd 5 0x40 [0, 0, 0, 0, 63, 1] with ptr0 := 0x1000, len0 := 1 }, 63, by decide⟩,
   ⟨State.holds run (hnd 5 0x41 [0, 0, 0, 0, 0xFF]), 5, data [], data [], hnd 5 0x41 [0, 0, 0, 0, 0xFF], by decide⟩,
   ⟨cmd 0x42 [64], 5, hnd 5 0x42 [64], by decide⟩,
   ⟨saved (crc32c (zeros 60 ++ zeros 8128)), 5, data [], data [], hnd 5 0x42 [63], ⟨by decide, by decide, by decide, by decide, by decide, by decide, saved_ctx_good _ rfl, State.listBuffer_known _ _ _ _ _ _ [] (by rw [State.linesRead_pw]; rfl) rfl, State.listBuffer_known _ _ _ _ _ _ [] (by rw [State.listBuffer_host _ _ _ _ _ _ (by rw [State.linesRead_pw]; rfl), State.linesRead_pw]; rfl) rfl⟩⟩,
   ⟨cmd 0x43 [64], 5, hnd 5 0x43 [64], by decide⟩,
   ⟨cmd 0x43 [63], 5, hnd 5 0x43 [63], by decide⟩,
   ⟨63, 3, 62, by decide⟩⟩

/-- Meets the hypotheses of `Obligations.RidgeAlu`. -/
theorem witness_RidgeAlu :
    (∃ (s : State), ∃ (c : Fin 8), ∃ (r : Rcore), ∃ (da db : Fin 32), ∃ w, s.coreLone c ∧ r = s.rc c.val ∧ w = r.word da &&& r.word db) ∧
    (∃ (s : State), ∃ (c : Fin 8), ∃ (r : Rcore), ∃ (da db : Fin 32), ∃ w, s.coreLone c ∧ r = s.rc c.val ∧ w = r.word da ||| r.word db) ∧
    (∃ (s : State), ∃ (c : Fin 8), ∃ (r : Rcore), ∃ (da db : Fin 32), ∃ w, s.coreLone c ∧ r = s.rc c.val ∧ w = r.word da ^^^ r.word db) ∧
    (∃ (s : State), ∃ (c : Fin 8), ∃ (r : Rcore), ∃ (db : Fin 32), ∃ (imm : Bool), ∃ k, s.coreLone c ∧ r = s.rc c.val ∧ k = (if imm then db.val else (r.word db).toNat % 32)) ∧
    (∃ (s : State), ∃ (c : Fin 8), ∃ (r : Rcore), ∃ (da db : Fin 32), ∃ q, ∃ (d : Word), s.coreLone c ∧ r = s.rc c.val ∧ q = r.goes (r.pc + 8) 1 ∧ d = r.word da - r.word db) ∧
    (∃ (s : State), ∃ (c : Fin 8), ∃ (r : Rcore), ∃ (dd da db : Fin 32), ∃ (aa ab : Fin 8), ∃ (n : Fin 16), ∃ (sat : Bool), ∃ i lam v, s.coreLone c ∧ r = s.rc c.val ∧ (i, lam, v) ∈ [(Instr.add c true sat dd da db, 1, (r.word da).toInt + (r.word db).toInt), (.sub c true sat dd da db, 1, (r.word da).toInt - (r.word db).toInt), (.abs c true sat dd da, 1, ((r.word da).toInt.natAbs : Int)), (.neg c true sat dd da, 1, -(r.word da).toInt), (.mul c true sat dd da db, 3, (r.word da).toInt * (r.word db).toInt), (.ridgeExt c true sat dd aa n, 2, shrRne (r.a aa) n.val), (.ext2 c true sat dd aa ab n, 2, shrRne (r.a aa + r.a ab) n.val)]) ∧
    (∃ (s : State), ∃ (c : Fin 8), ∃ (r : Rcore), ∃ (dd : Fin 32), ∃ (aa ab : Fin 8), ∃ (n : Fin 16), ∃ (sat : Bool), ∃ i v, s.coreLone c ∧ r = s.rc c.val ∧ (i, v) ∈ [(Instr.exth c true sat dd aa n, shrRne (r.a aa) n.val), (.exth2 c true sat dd aa ab n, shrRne (r.a aa + r.a ab) n.val)]) ∧
    (∃ (s : State), ∃ (c : Fin 8), ∃ (r : Rcore), ∃ (dd da db : Fin 32), ∃ (sat : Bool), ∃ (l h l' h' : Int), ∃ i lam v w, s.coreLone c ∧ r = s.rc c.val ∧ l = ((r.word da).extractLsb' 0 16).toInt ∧ h = ((r.word da).extractLsb' 16 16).toInt ∧ l' = ((r.word db).extractLsb' 0 16).toInt ∧ h' = ((r.word db).extractLsb' 16 16).toInt ∧ (i, lam, v, w) ∈ [(Instr.add2 c true sat dd da db, 1, l + l', h + h'), (.sub2 c true sat dd da db, 1, l - l', h - h'), (.mulq2 c true sat dd da db, 3, shrRne (l * l') 15, shrRne (h * h') 15)]) :=
  ⟨⟨core, 0, core.rc 0, 31, 15, _, ⟨core_lone, rfl, rfl⟩⟩,
   ⟨core, 0, core.rc 0, 31, 15, _, ⟨core_lone, rfl, rfl⟩⟩,
   ⟨core, 0, core.rc 0, 31, 15, _, ⟨core_lone, rfl, rfl⟩⟩,
   ⟨core, 0, core.rc 0, 31, true, _, ⟨core_lone, rfl, rfl⟩⟩,
   ⟨core, 0, core.rc 0, 31, 15, _, _, ⟨core_lone, rfl, rfl, rfl⟩⟩,
   ⟨core, 0, core.rc 0, 31, 15, 16, 0, 7, 15, true, _, _, _, ⟨core_lone, rfl, List.mem_cons_self⟩⟩,
   ⟨core, 0, core.rc 0, 31, 0, 7, 15, true, _, _, ⟨core_lone, rfl, List.mem_cons_self⟩⟩,
   ⟨core, 0, core.rc 0, 31, 15, 16, true, _, _, _, _, _, _, _, _, ⟨core_lone, rfl, rfl, rfl, rfl, rfl, List.mem_cons_self⟩⟩⟩

/-- Meets the hypotheses of `Obligations.RidgeAccumulators`. -/
theorem witness_RidgeAccumulators :
    (∃ (s : State), ∃ (c : Fin 8), ∃ (r : Rcore), ∃ (da db : Fin 32), ∃ (ad : Fin 8), ∃ (sat ha hb : Bool), ∃ (half : Fin 32 → Bool → Int), ∃ (p q t : Int), ∃ i v, s.coreLone c ∧ r = s.rc c.val ∧ (∀ x, half x false = ((r.word x).extractLsb' 0 16).toInt ∧ half x true = ((r.word x).extractLsb' 16 16).toInt) ∧ p = half da ha * half db hb ∧ q = half da false * half db ha + (if hb then -1 else 1) * (half da true * half db (!ha)) ∧ t = half db false * half da ha ∧ (i, v) ∈ [(Instr.mac c true sat ad ha hb da db, p), (.msu c true sat ad ha hb da db, -p), (.dmac c true sat ad ha hb da db, q), (.dmsu c true sat ad ha hb da db, -q)]) ∧
    (∃ (s : State) (c : Fin 8) (r : Rcore) (da db : Fin 32) (ha hb : Bool) (half : Fin 32 → Bool → Int) (p q t : Int), s.coreLone c ∧ r = s.rc c.val ∧ (∀ x, half x false = ((r.word x).extractLsb' 0 16).toInt ∧ half x true = ((r.word x).extractLsb' 16 16).toInt) ∧ p = half da ha * half db hb ∧ q = half da false * half db ha + (if hb then -1 else 1) * (half da true * half db (!ha)) ∧ t = half db false * half da ha ∧ db.val ≠ 15 ∧ db.val ≠ 31) ∧
    (∃ (s : State) (c : Fin 8) (r : Rcore) (da db : Fin 32) (ha hb : Bool) (half : Fin 32 → Bool → Int) (p q t : Int), s.coreLone c ∧ r = s.rc c.val ∧ (∀ x, half x false = ((r.word x).extractLsb' 0 16).toInt ∧ half x true = ((r.word x).extractLsb' 16 16).toInt) ∧ p = half da ha * half db hb ∧ q = half da false * half db ha + (if hb then -1 else 1) * (half da true * half db (!ha)) ∧ t = half db false * half da ha ∧ (db.val = 15 ∨ db.val = 31)) ∧
    (∃ (s : State) (c : Fin 8) (r : Rcore) (aa : Fin 8) (half : Fin 32 → Bool → Int) (w : BitVec 40), s.coreLone c ∧ r = s.rc c.val ∧ (∀ x, half x false = ((r.word x).extractLsb' 0 16).toInt ∧ half x true = ((r.word x).extractLsb' 16 16).toInt) ∧ w = BitVec.ofInt 40 (r.a aa)) ∧
    (∃ (s : State), ∃ (c : Fin 8), ∃ (r : Rcore), ∃ (aa ab : Fin 8), ∃ (sat : Bool), ∃ (half : Fin 32 → Bool → Int), ∃ i v, s.coreLone c ∧ r = s.rc c.val ∧ (∀ x, half x false = ((r.word x).extractLsb' 0 16).toInt ∧ half x true = ((r.word x).extractLsb' 16 16).toInt) ∧ (i, v) ∈ [(Instr.aadd c true sat aa ab, r.a aa + r.a ab), (.asub c true sat aa ab, r.a aa - r.a ab)]) :=
  ⟨⟨core, 0, core.rc 0, 0, 31, 7, true, true, false, halves, _, _, _, _, _, ⟨core_lone, rfl, fun _ => ⟨rfl, rfl⟩, rfl, rfl, rfl, List.mem_cons_self⟩⟩,
   ⟨core, 0, core.rc 0, 0, 30, true, false, halves, _, _, _, ⟨core_lone, rfl, fun _ => ⟨rfl, rfl⟩, rfl, rfl, rfl, by decide, by decide⟩⟩,
   ⟨core, 0, core.rc 0, 0, 31, true, false, halves, _, _, _, ⟨core_lone, rfl, fun _ => ⟨rfl, rfl⟩, rfl, rfl, rfl, by decide⟩⟩,
   ⟨core, 0, core.rc 0, 7, halves, _, ⟨core_lone, rfl, fun _ => ⟨rfl, rfl⟩, rfl⟩⟩,
   ⟨core, 0, core.rc 0, 0, 7, true, halves, _, _, ⟨core_lone, rfl, fun _ => ⟨rfl, rfl⟩, List.mem_cons_self⟩⟩⟩

/-- Meets the hypotheses of `Obligations.RidgeMoves`. -/
theorem witness_RidgeMoves :
    (∃ (s : State), ∃ (c : Fin 8), ∃ (r : Rcore), ∃ (p : Fin 8), ∃ (m : MemMod), ∃ (size : Nat), ∃ (by' : Int), ∃ (p' : Nat), ∃ (a : Nat), ∃ v, ∃ q, s.coreLone c ∧ r = s.rc c.val ∧ a = r.p p ∧ by' = (match m with | .imm i => i.toInt * size | .reg d => (r.word d).toInt) ∧ (∀ base len : Int, base = ((r.b.getD p.val 0).toNat : Int) → len = ((r.l.getD p.val 0).toNat : Int) → (p' : Int) = (if len = 0 then (a + by') % 2 ^ 32 else (base + (a - base + by') % len) % 2 ^ 32)) ∧ a % size = 0 ∧ 0x20000 ≤ a ∧ a < 0x40000 ∧ r.spare ((a - 0x20000) / 0x10000) ∧ v = r.dmem.readLe (a - 0x20000) size ∧ q = ((r.uses ((a - 0x20000) / 0x10000)).goes (r.pc + 8) 3).putReg (.p p.val) p' ∧ size = 2) ∧
    (∃ (s : State), ∃ (c : Fin 8), ∃ (r : Rcore), ∃ (p : Fin 8), ∃ (m : MemMod), ∃ (size : Nat), ∃ (by' : Int), ∃ (p' : Nat), ∃ (a : Nat), ∃ v, ∃ q, s.coreLone c ∧ r = s.rc c.val ∧ a = r.p p ∧ by' = (match m with | .imm i => i.toInt * size | .reg d => (r.word d).toInt) ∧ (∀ base len : Int, base = ((r.b.getD p.val 0).toNat : Int) → len = ((r.l.getD p.val 0).toNat : Int) → (p' : Int) = (if len = 0 then (a + by') % 2 ^ 32 else (base + (a - base + by') % len) % 2 ^ 32)) ∧ a % size = 0 ∧ 0x20000 ≤ a ∧ a < 0x40000 ∧ r.spare ((a - 0x20000) / 0x10000) ∧ v = r.dmem.readLe (a - 0x20000) size ∧ q = ((r.uses ((a - 0x20000) / 0x10000)).goes (r.pc + 8) 3).putReg (.p p.val) p' ∧ size = 4) ∧
    (∃ (s : State), ∃ (c : Fin 8), ∃ (r : Rcore), ∃ (x : Fin 32), ∃ (p : Fin 8), ∃ (m : MemMod), ∃ (size : Nat), ∃ (by' : Int), ∃ (p' : Nat), ∃ (a : Nat), ∃ v, ∃ q, s.coreLone c ∧ r = s.rc c.val ∧ a = r.p p ∧ by' = (match m with | .imm i => i.toInt * size | .reg d => (r.word d).toInt) ∧ (∀ base len : Int, base = ((r.b.getD p.val 0).toNat : Int) → len = ((r.l.getD p.val 0).toNat : Int) → (p' : Int) = (if len = 0 then (a + by') % 2 ^ 32 else (base + (a - base + by') % len) % 2 ^ 32)) ∧ a % size = 0 ∧ 0x20000 ≤ a ∧ a < 0x40000 ∧ r.spare ((a - 0x20000) / 0x10000) ∧ v = r.dmem.readLe (a - 0x20000) size ∧ q = ((r.uses ((a - 0x20000) / 0x10000)).goes (r.pc + 8) 3).putReg (.p p.val) p' ∧ size = 8 ∧ x.val % 2 = 0) ∧
    (∃ (s : State) (c : Fin 8) (r : Rcore) (x : Fin 32) (p : Fin 8) (m : MemMod) (size : Nat) (by' : Int) (p' : Nat) (a : Nat), s.coreLone c ∧ r = s.rc c.val ∧ a = r.p p ∧ by' = (match m with | .imm i => i.toInt * size | .reg d => (r.word d).toInt) ∧ (∀ base len : Int, base = ((r.b.getD p.val 0).toNat : Int) → len = ((r.l.getD p.val 0).toNat : Int) → (p' : Int) = (if len = 0 then (a + by') % 2 ^ 32 else (base + (a - base + by') % len) % 2 ^ 32)) ∧ x.val % 2 = 1) ∧
    (∃ (s : State) (c : Fin 8) (r : Rcore) (p : Fin 8) (m : MemMod) (size : Nat) (by' : Int) (p' : Nat) (a : Nat), s.coreLone c ∧ r = s.rc c.val ∧ a = r.p p ∧ by' = (match m with | .imm i => i.toInt * size | .reg d => (r.word d).toInt) ∧ (∀ base len : Int, base = ((r.b.getD p.val 0).toNat : Int) → len = ((r.l.getD p.val 0).toNat : Int) → (p' : Int) = (if len = 0 then (a + by') % 2 ^ 32 else (base + (a - base + by') % len) % 2 ^ 32)) ∧ size = 4 ∧ a % 4 ≠ 0) ∧
    (∃ (s : State) (c : Fin 8) (r : Rcore) (p : Fin 8) (m : MemMod) (size : Nat) (by' : Int) (p' : Nat) (a : Nat), s.coreLone c ∧ r = s.rc c.val ∧ a = r.p p ∧ by' = (match m with | .imm i => i.toInt * size | .reg d => (r.word d).toInt) ∧ (∀ base len : Int, base = ((r.b.getD p.val 0).toNat : Int) → len = ((r.l.getD p.val 0).toNat : Int) → (p' : Int) = (if len = 0 then (a + by') % 2 ^ 32 else (base + (a - base + by') % len) % 2 ^ 32)) ∧ size = 4 ∧ a % 4 = 0 ∧ 0x1000 ≤ a ∧ a < 0x20000) ∧
    (∃ (s : State), ∃ (c : Fin 8), ∃ (r : Rcore), ∃ (p : Fin 8), ∃ (q : Fin 8), ∃ (pb : Fin 8), ∃ (a : Nat), ∃ (b : Nat), ∃ v, ∃ w, ∃ (x0 : Fin 32), ∃ (x1 : Fin 32), ∃ (x2 : Fin 32), ∃ (x3 : Fin 32), s.coreLone c ∧ r = s.rc c.val ∧ a = r.p p ∧ b = r.p pb ∧ p ≠ pb ∧ a % 8 = 0 ∧ b % 8 = 0 ∧ 0x20000 ≤ a ∧ a < 0x30000 ∧ 0x30000 ≤ b ∧ b < 0x40000 ∧ r.spare 0 ∧ r.spare 1 ∧ v = r.dmem.readLe (a - 0x20000) 8 ∧ w = r.dmem.readLe (b - 0x20000) 8 ∧ x0.val = 4 * q.val ∧ x1 = x0 + 1 ∧ x2 = x0 + 2 ∧ x3 = x0 + 3) ∧
    (∃ (s : State) (c : Fin 8) (r : Rcore) (p : Fin 8) (pb : Fin 8) (a : Nat) (b : Nat), s.coreLone c ∧ r = s.rc c.val ∧ a = r.p p ∧ b = r.p pb ∧ p ≠ pb ∧ a % 8 = 0 ∧ b % 8 = 0 ∧ 0x20000 ≤ a ∧ a < 0x30000 ∧ 0x20000 ≤ b ∧ b < 0x30000) ∧
    (∃ (s : State) (c : Fin 8) (r : Rcore) (n : Fin 32) (k : Fin 8) (v : Nat), s.coreLone c ∧ r = s.rc c.val ∧ (n.val, v) ∈ [(0, r.sr), (1, r.bank.l0.count), (2, r.l1.count), (3, r.rotb), (4, s.fld Reg.RDG_IEN c.val), (5, s.fld Reg.RDG_IPEND c.val), (6, r.iret), (8 + k.val, (r.b.getD k.val 0).toNat), (16 + k.val, (r.l.getD k.val 0).toNat), (24, s.fld Reg.RDG_CYCLE_LO c.val), (25, s.fld Reg.RDG_CYCLE_HI c.val)]) ∧
    (∃ (s : State), ∃ (c : Fin 8), ∃ (r : Rcore), ∃ (x : Fin 32), ∃ (n : Fin 32), ∃ (k : Fin 8), ∃ (w : Word), ∃ (i : Instr), ∃ d, s.coreLone c ∧ r = s.rc c.val ∧ (i, w) ∈ [(Instr.movcW c true x n, r.word x), (.movci c true n w, w)] ∧ (n.val, d) ∈ [(0, RDest.sr), (1, .lc 0), (2, .lc 1), (3, .rotb), (6, .iret), (8 + k.val, .b k.val)]) ∧
    (∃ (s : State) (c : Fin 8) (r : Rcore) (x : Fin 32) (n : Fin 32) (k : Fin 8) (w : Word) (i : Instr), s.coreLone c ∧ r = s.rc c.val ∧ (i, w) ∈ [(Instr.movcW c true x n, r.word x), (.movci c true n w, w)] ∧ n.val = 16 + k.val ∧ w.toNat ≤ 131072) ∧
    (∃ (s : State) (c : Fin 8) (r : Rcore) (x : Fin 32) (n : Fin 32) (k : Fin 8) (w : Word) (i : Instr), s.coreLone c ∧ r = s.rc c.val ∧ (i, w) ∈ [(Instr.movcW c true x n, r.word x), (.movci c true n w, w)] ∧ n.val = 16 + k.val ∧ 131072 < w.toNat) ∧
    (∃ (s : State) (c : Fin 8) (r : Rcore) (x : Fin 32) (n : Fin 32) (w : Word) (i : Instr), s.coreLone c ∧ r = s.rc c.val ∧ (i, w) ∈ [(Instr.movcW c true x n, r.word x), (.movci c true n w, w)] ∧ n.val = 4) ∧
    (∃ (s : State) (c : Fin 8) (r : Rcore) (x : Fin 32) (n : Fin 32) (w : Word) (i : Instr), s.coreLone c ∧ r = s.rc c.val ∧ (i, w) ∈ [(Instr.movcW c true x n, r.word x), (.movci c true n w, w)] ∧ n.val = 5) ∧
    (∃ (s : State) (c : Fin 8) (r : Rcore) (n : Fin 32), s.coreLone c ∧ r = s.rc c.val ∧ n.val ∈ [7, 24, 25, 26, 27, 28, 29, 30, 31] ∧ n.val ≠ 24 ∧ n.val ≠ 25) :=
  ⟨⟨core, 0, core.rc 0, 0, .imm (31), 2, 62, 0x2003E, 0x20000, _, _, ⟨core_lone, rfl, by decide, by decide, fun b l hb hl => by subst hb; subst hl; decide, by decide, by decide, by decide, by unfold Rcore.spare; decide, rfl, rfl, rfl⟩⟩,
   ⟨core, 0, core.rc 0, 1, .imm (-32), 4, -128, 0x3FF78, 0x3FFF8, _, _, ⟨core_lone, rfl, by decide, by decide, fun b l hb hl => by subst hb; subst hl; decide, by decide, by decide, by decide, by unfold Rcore.spare; decide, rfl, rfl, rfl⟩⟩,
   ⟨core, 0, core.rc 0, 30, 1, .imm (0), 8, 0, 0x3FFF8, 0x3FFF8, _, _, ⟨core_lone, rfl, by decide, by decide, fun b l hb hl => by subst hb; subst hl; decide, by decide, by decide, by decide, by unfold Rcore.spare; decide, rfl, rfl, rfl, by decide⟩⟩,
   ⟨core, 0, core.rc 0, 31, 1, .imm (0), 8, 0, 0x3FFF8, 0x3FFF8, ⟨core_lone, rfl, by decide, by decide, fun b l hb hl => by subst hb; subst hl; decide, by decide⟩⟩,
   ⟨core, 0, core.rc 0, 2, .imm (0), 4, 0, 0x20002, 0x20002, ⟨core_lone, rfl, by decide, by decide, fun b l hb hl => by subst hb; subst hl; decide, rfl, by decide⟩⟩,
   ⟨core, 0, core.rc 0, 3, .imm (0), 4, 0, 0x1000, 0x1000, ⟨core_lone, rfl, by decide, by decide, fun b l hb hl => by subst hb; subst hl; decide, rfl, by decide, by decide, by decide⟩⟩,
   ⟨core, 0, core.rc 0, 0, 7, 1, 0x20000, 0x3FFF8, _, _, 28, _, _, _, ⟨core_lone, rfl, by decide, by decide, by decide, by decide, by decide, by decide, by decide, by decide, by decide, by unfold Rcore.spare; decide, by unfold Rcore.spare; decide, rfl, rfl, by decide, rfl, rfl, rfl⟩⟩,
   ⟨core, 0, core.rc 0, 0, 4, 0x20000, 0x2FFF8, ⟨core_lone, by decide⟩⟩,
   ⟨core, 0, core.rc 0, 0, 0, _, ⟨core_lone, rfl, List.mem_cons_self⟩⟩,
   ⟨core, 0, core.rc 0, 31, 0, 0, _, _, _, ⟨core_lone, rfl, List.mem_cons_self, List.mem_cons_self⟩⟩,
   ⟨core, 0, core.rc 0, 31, 23, 7, 131072, _, ⟨core_lone, rfl, List.mem_cons_of_mem _ List.mem_cons_self, by decide, by decide⟩⟩,
   ⟨core, 0, core.rc 0, 31, 23, 7, 131073, _, ⟨core_lone, rfl, List.mem_cons_of_mem _ List.mem_cons_self, by decide, by decide⟩⟩,
   ⟨core, 0, core.rc 0, 31, 4, _, _, ⟨core_lone, rfl, List.mem_cons_self, by decide⟩⟩,
   ⟨core, 0, core.rc 0, 31, 5, _, _, ⟨core_lone, rfl, List.mem_cons_self, by decide⟩⟩,
   ⟨core, 0, core.rc 0, 31, ⟨core_lone, by decide⟩⟩⟩

/-- Meets the hypotheses of `Obligations.RidgeControl`. -/
theorem witness_RidgeControl :
    (∃ (s : State) (c : Fin 8) (r : Rcore) (cond : Fin 9) (rel : BitVec 11) (a : Nat), s.coreLone c ∧ r = s.rc c.val ∧ (a : Int) = (r.pc + 8 * rel.toInt) % 2 ^ 32 ∧ condHolds cond r.bank.sr = false) ∧
    (∃ (s : State) (c : Fin 8) (r : Rcore) (cond : Fin 9) (rel : BitVec 11) (a : Nat), s.coreLone c ∧ r = s.rc c.val ∧ (a : Int) = (r.pc + 8 * rel.toInt) % 2 ^ 32 ∧ condHolds cond r.bank.sr = true ∧ Fetchable a) ∧
    (∃ (s : State) (c : Fin 8) (r : Rcore) (cond : Fin 9) (rel : BitVec 11) (a : Nat), s.coreLone c ∧ r = s.rc c.val ∧ (a : Int) = (r.pc + 8 * rel.toInt) % 2 ^ 32 ∧ condHolds cond r.bank.sr = true ∧ (a < 0x10000 ∨ 0x20000 ≤ a)) ∧
    (∃ (s : State) (c : Fin 8) (r : Rcore) (p : Fin 8), s.coreLone c ∧ r = s.rc c.val ∧ Fetchable (r.p p)) ∧
    (∃ (s : State) (c : Fin 8) (r : Rcore) (p : Fin 8), s.coreLone c ∧ r = s.rc c.val ∧ r.p p % 8 ≠ 0) ∧
    (∃ (s : State) (c : Fin 8) (r : Rcore) (p : Fin 8), s.coreLone c ∧ r = s.rc c.val ∧ r.p p % 8 = 0 ∧ (r.p p < 0x10000 ∨ 0x20000 ≤ r.p p)) ∧
    (∃ (s : State) (c : Fin 8) (r : Rcore) (rot : Bool) (n : LoopCount) (stop : BitVec 13) (k : Nat) (e : Nat), s.coreLone c ∧ r = s.rc c.val ∧ k = (match n with | .imm i => i.toNat | .reg d => r.d d) ∧ e = r.pc + 8 * stop.toNat ∧ (stop = 0 ∨ (rot = true ∧ r.shd = true))) ∧
    (∃ (s : State) (c : Fin 8) (r : Rcore) (lvl : Fin 2) (rot : Bool) (n : LoopCount) (stop : BitVec 13) (k : Nat) (e : Nat), s.coreLone c ∧ r = s.rc c.val ∧ k = (match n with | .imm i => i.toNat | .reg d => r.d d) ∧ e = r.pc + 8 * stop.toNat ∧ stop ≠ 0 ∧ ¬ (rot = true ∧ r.shd = true) ∧ (r.loop lvl.val).active = true) ∧
    (∃ (s : State) (c : Fin 8) (r : Rcore) (lvl : Fin 2) (rot : Bool) (n : LoopCount) (stop : BitVec 13) (k : Nat) (e : Nat), s.coreLone c ∧ r = s.rc c.val ∧ k = (match n with | .imm i => i.toNat | .reg d => r.d d) ∧ e = r.pc + 8 * stop.toNat ∧ stop ≠ 0 ∧ ¬ (rot = true ∧ r.shd = true) ∧ (r.loop lvl.val).active = false ∧ 0x20000 ≤ e) ∧
    (∃ (s : State) (c : Fin 8) (r : Rcore) (lvl : Fin 2) (rot : Bool) (n : LoopCount) (stop : BitVec 13) (k : Nat) (e : Nat), s.coreLone c ∧ r = s.rc c.val ∧ k = (match n with | .imm i => i.toNat | .reg d => r.d d) ∧ e = r.pc + 8 * stop.toNat ∧ stop ≠ 0 ∧ ¬ (rot = true ∧ r.shd = true) ∧ (r.loop lvl.val).active = false ∧ e < 0x20000 ∧ 0 < k) ∧
    (∃ (s : State) (c : Fin 8) (r : Rcore) (lvl : Fin 2) (rot : Bool) (n : LoopCount) (stop : BitVec 13) (k : Nat) (e : Nat), s.coreLone c ∧ r = s.rc c.val ∧ k = (match n with | .imm i => i.toNat | .reg d => r.d d) ∧ e = r.pc + 8 * stop.toNat ∧ stop ≠ 0 ∧ ¬ (rot = true ∧ r.shd = true) ∧ (r.loop lvl.val).active = false ∧ e + 8 < 0x20000 ∧ k = 0) ∧
    (∃ (s : State) (c : Fin 8) (r : Rcore), s.coreLone c ∧ r = s.rc c.val ∧ r.shd = false) ∧
    (∃ (s : State) (c : Fin 8) (r : Rcore), s.coreLone c ∧ r = s.rc c.val ∧ r.shd = true ∧ Fetchable r.iret) ∧
    (∃ (s : State) (c : Fin 8) (r : Rcore), s.coreLone c ∧ r = s.rc c.val ∧ s.rPending c.val = false) ∧
    (∃ (s : State) (c : Fin 8) (r : Rcore), s.coreLone c ∧ r = s.rc c.val ∧ s.rPending c.val = true) ∧
    (∃ (s : State) (i : Instr) (c : Fin 8), coreOp? i = some (c, false) ∧ s.rRuns c.val = true ∧ s.rHeld c.val = false ∧ (s.rc c.val).loopDue = false) ∧
    (∃ (s : State) (i : Instr) (c : Fin 8) (last : Bool), coreOp? i = some (c, last) ∧ (s.rRuns c.val = false ∨ s.rHeld c.val = true)) ∧
    (∃ (s : State), ∃ (c : Fin 8), ∃ (r : Rcore), ∃ b, r = s.rc c.val ∧ s.rRuns c.val = true ∧ s.rHeld c.val = false ∧ r.loopDue = true ∧ r.flight = [] ∧ r.bank.l0.active = true ∧ r.bank.l0.stop = r.pc ∧ (r.l1.active = true → r.l1.stop ≠ r.pc) ∧ r.rotb < 16 ∧ b = (if r.bank.l0.rot then (r.rotb + 15) % 16 else r.rotb) ∧ 1 < r.bank.l0.count ∧ Fetchable r.bank.l0.start) ∧
    (∃ (s : State), ∃ (c : Fin 8), ∃ (r : Rcore), ∃ b, r = s.rc c.val ∧ s.rRuns c.val = true ∧ s.rHeld c.val = false ∧ r.loopDue = true ∧ r.flight = [] ∧ r.bank.l0.active = true ∧ r.bank.l0.stop = r.pc ∧ (r.l1.active = true → r.l1.stop ≠ r.pc) ∧ r.rotb < 16 ∧ b = (if r.bank.l0.rot then (r.rotb + 15) % 16 else r.rotb) ∧ r.bank.l0.count ≤ 1 ∧ Fetchable (r.pc + 8)) ∧
    (∃ (s : State) (c : Fin 8) (r : Rcore) (n : Nat), r = s.rc c.val ∧ s.coreReady c ∧ r.shd = false ∧ r.bank.sr.testBit 0 = true ∧ r.flight = [] ∧ n < 8 ∧ (s.fld Reg.RDG_IEN c.val &&& s.fld Reg.RDG_IPEND c.val).testBit n = true ∧ (∀ m, m < n → (s.fld Reg.RDG_IEN c.val &&& s.fld Reg.RDG_IPEND c.val).testBit m = false) ∧ Fetchable (s.fld Reg.RDG_IVEC c.val * 512 + 64 * n)) :=
  ⟨⟨core, 0, core.rc 0, 1, 1023, 0x120F8, ⟨core_lone, by decide⟩⟩,
   ⟨core, 0, core.rc 0, 0, 2016, 0x10000, by unfold State.coreLone State.coreReady Fetchable; decide⟩,
   ⟨core, 0, core.rc 0, 0, 2015, 0xFFF8, ⟨core_lone, by decide⟩⟩,
   ⟨core, 0, core.rc 0, 5, by unfold State.coreLone State.coreReady Fetchable; decide⟩,
   ⟨core, 0, core.rc 0, 2, ⟨core_lone, by decide⟩⟩,
   ⟨core, 0, core.rc 0, 0, ⟨core_lone, by decide⟩⟩,
   ⟨core, 0, core.rc 0, false, .imm 1, 0, _, _, ⟨core_lone, rfl, rfl, rfl, by decide⟩⟩,
   ⟨State.core0 core (fun r => { r with l1 := ⟨true, 1, 0x10100, 0x10200, false⟩ }), 0, (State.core0 core (fun r => { r with l1 := ⟨true, 1, 0x10100, 0x10200, false⟩ })).rc 0, 1, false, .imm 1, 1, 1, 0x10108, by unfold State.coreLone State.coreReady Fetchable; decide⟩,
   ⟨core, 0, core.rc 0, 1, false, .imm 1, 8160, 1, 0x20000, ⟨core_lone, by decide⟩⟩,
   ⟨core, 0, core.rc 0, 1, false, .imm 1, 8159, 1, 0x1FFF8, ⟨core_lone, by decide⟩⟩,
   ⟨core, 0, core.rc 0, 0, false, .imm 0, 8158, 0, 0x1FFF0, ⟨core_lone, by decide⟩⟩,
   ⟨core, 0, core.rc 0, ⟨core_lone, by decide⟩⟩,
   ⟨State.core0 core (fun r => { r with shd := true, iret := 0x1FFF8 }), 0, (State.core0 core (fun r => { r with shd := true, iret := 0x1FFF8 })).rc 0, by unfold State.coreLone State.coreReady Fetchable; decide⟩,
   ⟨core, 0, core.rc 0, ⟨core_lone, by decide⟩⟩,
   ⟨State.sets core [(Reg.RDG_IEN, 0, 128), (Reg.RDG_IPEND, 0, 128)], 0, (State.sets core [(Reg.RDG_IEN, 0, 128), (Reg.RDG_IPEND, 0, 128)]).rc 0, by unfold State.coreLone State.coreReady Fetchable; decide⟩,
   ⟨core, .halt 0 false, 0, by decide⟩,
   ⟨run, .halt 7 true, 7, true, by decide⟩,
   ⟨State.core0 core (fun r => { r with loopDue := true, bank := { r.bank with l0 := ⟨true, 2, 0x10000, 0x10100, true⟩ } }), 0, (State.core0 core (fun r => { r with loopDue := true, bank := { r.bank with l0 := ⟨true, 2, 0x10000, 0x10100, true⟩ } })).rc 0, 15, by unfold Fetchable; decide⟩,
   ⟨State.core0 core (fun r => { r with loopDue := true, bank := { r.bank with l0 := ⟨true, 1, 0x10000, 0x10100, true⟩ } }), 0, (State.core0 core (fun r => { r with loopDue := true, bank := { r.bank with l0 := ⟨true, 1, 0x10000, 0x10100, true⟩ } })).rc 0, 15, by unfold Fetchable; decide⟩,
   ⟨State.core0 (State.sets core [(Reg.RDG_IEN, 0, 128), (Reg.RDG_IPEND, 0, 128), (Reg.RDG_IVEC, 0, 128)]) (fun r => { r with bank := { r.bank with sr := 1 } }), 0, (State.core0 (State.sets core [(Reg.RDG_IEN, 0, 128), (Reg.RDG_IPEND, 0, 128), (Reg.RDG_IVEC, 0, 128)]) (fun r => { r with bank := { r.bank with sr := 1 } })).rc 0, 7, by unfold State.coreReady Fetchable; decide⟩⟩

/-- Meets the hypotheses of `Obligations.RidgeCommands`. -/
theorem witness_RidgeCommands :
    (∃ (s : State) (h : Fin 256) (x : Handle), s.cmd? h.val 0xA0 = some x ∧ 255 < x.p 0) ∧
    (∃ (s : State), ∃ (h : Fin 256), ∃ (d : CmdData), ∃ (n : Nat), ∃ (bs : List Byte), ∃ (x : Handle), ∃ o, s.cmd? h.val 0xA0 = some x ∧ x.p 0 ≤ 255 ∧ s.dataOf x d = some (n, bs) ∧ 32 ≤ n ∧ ridgeImage bs = .bad o) ∧
    (∃ (s : State) (h : Fin 256) (d : CmdData) (n : Nat) (bs : List Byte) (x : Handle), s.cmd? h.val 0xA0 = some x ∧ x.p 0 ≤ 255 ∧ s.dataOf x d = some (n, bs) ∧ 32 ≤ n ∧ ridgeImage bs = .crc) ∧
    (∃ (s : State), ∃ (h : Fin 256), ∃ (d : CmdData), ∃ (n : Nat), ∃ (bs : List Byte), ∃ (x : Handle), ∃ e xs free m, s.cmd? h.val 0xA0 = some x ∧ x.p 0 ≤ 255 ∧ s.dataOf x d = some (n, bs) ∧ 32 ≤ n ∧ ridgeImage bs = .ok e xs ∧ (free = (coresOf (x.p 0)).filter (fun c => !s.rLive c && !s.rHeld c)) ∧ (m = (free.map (fun c => 2 ^ c)).sum)) ∧
    (∃ (l : List Nat) (c : Nat), l.Nodup ∧ c < 8) ∧
    (∃ (s : State) (h : Fin 256) (x : Handle) (e : Nat), s.cmd? h.val 0xA1 = some x ∧ x.p 0 ≤ 255 ∧ x.p 1 = e ∧ e ≠ 0xFFFFFFFF ∧ ¬ Fetchable e) ∧
    (∃ (s : State) (h : Fin 256) (x : Handle) (e : Nat) (free : List Nat) (ent : Nat → Nat), s.cmd? h.val 0xA1 = some x ∧ x.p 0 ≤ 255 ∧ x.p 1 = e ∧ (free = (coresOf (x.p 0)).filter (fun c => !s.rLive c && !s.rHeld c)) ∧ (∀ c, ent c = if e = 0xFFFFFFFF then ((s.rc c).entry).getD 0 else e) ∧ ((e = 0xFFFFFFFF ∧ free.all (fun c => (s.rc c).entry.isSome)) ∨ Fetchable e)) ∧
    (∃ (s : State) (h : Fin 256) (x : Handle), s.cmd? h.val 0xA2 = some x ∧ 255 < x.p 0) ∧
    (∃ (s : State) (h : Fin 256) (x : Handle), s.cmd? h.val 0xA2 = some x ∧ x.p 0 ≤ 255) ∧
    (∃ (s : State) (c : Fin 8), s.fld Reg.RDG_STATUS c = rStopped) ∧
    (∃ (s : State) (c : Fin 8) (k : Fin 8), s.fld Reg.RDG_STATUS c ≠ rStopped ∧ (s.rc c).flight = [] ∧ (∀ ch : Fin 4, s.on Reg.RDG_DMA_STATUS_BUSY (dmaIx c ch) = false) ∧ k ≠ c) ∧
    (∃ (s : State) (h : Fin 256) (x : Handle) (c : Nat), s.cmd? h.val 0xA3 = some x ∧ x.p 0 = c ∧ 7 < c) ∧
    (∃ (s : State) (h : Fin 256) (x : Handle) (c : Nat), s.cmd? h.val 0xA3 = some x ∧ x.p 0 = c ∧ c ≤ 7 ∧ (s.rLive c = false ∨ s.rHeld c = true)) ∧
    (∃ (s : State) (h : Fin 256) (x : Handle) (c : Nat), s.cmd? h.val 0xA3 = some x ∧ x.p 0 = c ∧ c ≤ 7 ∧ s.rLive c = true ∧ s.rHeld c = false ∧ (s.rc c).msgs = [] ∧ s.on Reg.RDG_MSG_STATUS c = false) ∧
    (∃ (s : State) (h : Fin 256) (x : Handle) (c : Nat), s.cmd? h.val 0xA3 = some x ∧ x.p 0 = c ∧ c ≤ 7 ∧ s.rLive c = true ∧ s.rHeld c = false ∧ s.on Reg.RDG_MSG_STATUS c = true) :=
  ⟨⟨State.holds (run) (hnd 5 0xA0 [256]), 5, hnd 5 0xA0 [256], by decide⟩,
   ⟨State.holds run (buf 0xA0 [255] 56), 5, data (zeros 56), 56, (zeros 56), buf 0xA0 [255] 56, 0, by decide +kernel⟩,
   ⟨State.holds run (buf 0xA0 [255] 56), 5, data (image 0), 56, (image 0), buf 0xA0 [255] 56, by decide +kernel⟩,
   ⟨State.holds run (buf 0xA0 [255] 56), 5, data (image 0x9be6fd18), 56, (image 0x9be6fd18), buf 0xA0 [255] 56, 0x1FFF8, [⟨true, 0x1FFF8, leBytes 8 0x0102030405060708⟩], List.range 8, 255, by decide +kernel⟩,
   ⟨[0, 7], 7, by decide⟩,
   ⟨State.holds (run) (hnd 5 0xA1 [255, 0x20000]), 5, hnd 5 0xA1 [255, 0x20000], 0x20000, by unfold Fetchable; decide⟩,
   ⟨State.holds (run) (hnd 5 0xA1 [255, 0x1FFF8]), 5, hnd 5 0xA1 [255, 0x1FFF8], 0x1FFF8, List.range 8, fun _ => 0x1FFF8, ⟨by decide, by decide, by decide, by decide, fun _ => rfl, Or.inr (by unfold Fetchable; decide)⟩⟩,
   ⟨State.holds (core) (hnd 5 0xA2 [256]), 5, hnd 5 0xA2 [256], by decide⟩,
   ⟨State.holds (core) (hnd 5 0xA2 [255]), 5, hnd 5 0xA2 [255], by decide⟩,
   ⟨run, 7, by decide⟩,
   ⟨core, 0, 1, by decide⟩,
   ⟨State.holds (run) (hnd 5 0xA3 [8]), 5, hnd 5 0xA3 [8], 8, by decide⟩,
   ⟨State.holds (run) (hnd 5 0xA3 [7]), 5, hnd 5 0xA3 [7], 7, by decide⟩,
   ⟨State.holds (core) (hnd 5 0xA3 [0]), 5, hnd 5 0xA3 [0], 0, by decide⟩,
   ⟨State.holds (State.sets core [(Reg.RDG_MSG_STATUS, 0, 1)]) (hnd 5 0xA3 [0]), 5, hnd 5 0xA3 [0], 0, by decide⟩⟩

/-- Meets the hypotheses of `Obligations.RidgeEvents`. -/
theorem witness_RidgeEvents :
    (∃ (s : State) (c : Fin 8), s.rHeld c.val = false ∧ (s.rc c.val).msgs = []) ∧
    (∃ (s : State) (c : Fin 8), s.rHeld c.val = false ∧ s.tgSource ≠ c.val + 1 ∧ s.on Reg.RDG_TG_CTL_EN c.val = true) ∧
    (∃ (s : State) (c : Fin 8), s.rHeld c.val = false ∧ s.tgSource ≠ c.val + 1 ∧ s.on Reg.RDG_TG_CTL_EN c.val = false) ∧
    (∃ (s : State) (c : Fin 8), s.rHeld c.val = false ∧ s.fld Reg.RDG_TIMER c.val ≠ 0 ∧ (s.rc c.val).timer ≤ 1) ∧
    (∃ (s : State) (c : Fin 8), s.rHeld c.val = false ∧ s.fld Reg.RDG_TIMER c.val = 0) ∧
    (∃ (s : State) (c : Fin 8) (ch : Fin 4) (v : Word), s.answers (Reg.RDG_DMA_GO.addr (dmaIx c.val ch.val)) = true ∧ s.crossing (Reg.RDG_DMA_GO.addr (dmaIx c.val ch.val)) = false ∧ descOk v.toNat = true ∧ s.on Reg.RDG_DMA_STATUS_BUSY (dmaIx c.val ch.val) = false) ∧
    (∃ (s : State) (c : Fin 8) (ch : Fin 4) (v : Word), s.answers (Reg.RDG_DMA_GO.addr (dmaIx c.val ch.val)) = true ∧ s.crossing (Reg.RDG_DMA_GO.addr (dmaIx c.val ch.val)) = false ∧ descOk v.toNat = true ∧ s.on Reg.RDG_DMA_STATUS_BUSY (dmaIx c.val ch.val) = true) ∧
    (∃ (s : State) (c : Fin 8) (ch : Fin 4) (ecc : DmaEcc) (a src dst len : Nat), s.on Reg.RDG_DMA_STATUS_BUSY (dmaIx c.val ch.val) = true ∧ (s.rc c.val).dma.getD ch.val ⟨0, false⟩ = ⟨a, false⟩ ∧ s.rDesc c.val a = ⟨src, dst, len, 1, 0, 0, 0⟩ ∧ 0 < len ∧ len ≤ 0x100000 ∧ descOk a = true ∧ (dst + len ≤ a ∨ a + 32 ≤ dst) ∧ 0x20000 ≤ src ∧ src + len ≤ 0x40000 ∧ 0x20000 ≤ dst ∧ dst + len ≤ 0x40000 ∧ ecc.bad = none) ∧
    (∃ (s : State) (c : Fin 8) (ch : Fin 4) (ecc : DmaEcc) (a src dst len : Nat), s.on Reg.RDG_DMA_STATUS_BUSY (dmaIx c.val ch.val) = true ∧ (s.rc c.val).dma.getD ch.val ⟨0, false⟩ = ⟨a, false⟩ ∧ s.rDesc c.val a = ⟨src, dst, len, 1, 0, 0, 0⟩ ∧ 0 < len ∧ len ≤ 0x100000 ∧ descOk a = true ∧ (dst + len ≤ a ∨ a + 32 ≤ dst) ∧ 0x20000 ≤ src ∧ src + len ≤ 0x40000 ∧ 0x20000 ≤ dst ∧ dst + len ≤ 0x40000 ∧ ecc.bad = some 0) ∧
    (∃ (s : State) (c : Fin 8) (ch : Fin 4) (a : Nat), s.rHeld c.val = false ∧ (s.rc c.val).dma.getD ch.val ⟨0, false⟩ = ⟨a, false⟩ ∧ s.on Reg.RDG_DMA_STATUS_BUSY (dmaIx c.val ch.val) = true ∧ (s.rGet c.val (a + 14) 2).testBit 4 = false) ∧
    (∃ (s : State) (c : Fin 8) (ch : Fin 4) (a : Nat), s.rHeld c.val = false ∧ (s.rc c.val).dma.getD ch.val ⟨0, false⟩ = ⟨a, false⟩ ∧ s.on Reg.RDG_DMA_STATUS_BUSY (dmaIx c.val ch.val) = false) :=
  ⟨⟨core, 0, by decide⟩,
   ⟨State.sets core [(Reg.RDG_TG_CTL_EN, 7, 1)], 7, by decide⟩,
   ⟨core, 7, by decide⟩,
   ⟨State.sets core [(Reg.RDG_TIMER, 7, 1)], 7, by decide⟩,
   ⟨core, 7, by decide⟩,
   ⟨core, 7, 3, 0x3FFE0, by decide⟩,
   ⟨State.sets core [(Reg.RDG_DMA_STATUS_BUSY, 31, 1)], 7, 3, 0x20000, by decide⟩,
   ⟨State.core0 (State.sets core [(Reg.RDG_DMA_STATUS_BUSY, 3, 1)]) (fun r => { r with dma := r.dma.set 3 ⟨0x20000, false⟩, dmem := r.dmem.writeN 0 (leBytes 4 0x3FFF8 ++ leBytes 4 0x20020 ++ leBytes 4 8 ++ leBytes 4 1) }), 0, 3, ⟨1, none⟩, 0x20000, 0x3FFF8, 0x20020, 8, by decide⟩,
   ⟨State.core0 (State.sets core [(Reg.RDG_DMA_STATUS_BUSY, 3, 1)]) (fun r => { r with dma := r.dma.set 3 ⟨0x20000, false⟩, dmem := r.dmem.writeN 0 (leBytes 4 0x3FFF8 ++ leBytes 4 0x20020 ++ leBytes 4 8 ++ leBytes 4 1) }), 0, 3, ⟨0, some 0⟩, 0x20000, 0x3FFF8, 0x20020, 8, by decide⟩,
   ⟨State.core0 (State.sets core [(Reg.RDG_DMA_STATUS_BUSY, 3, 1)]) (fun r => { r with dma := r.dma.set 3 ⟨0x20000, false⟩, dmem := r.dmem.writeN 0 (leBytes 4 0x3FFF8 ++ leBytes 4 0x20020 ++ leBytes 4 8 ++ leBytes 4 1) }), 0, 3, 0x20000, by decide⟩,
   ⟨State.core0 core (fun r => { r with dma := r.dma.set 3 ⟨0x20000, false⟩ }), 0, 3, 0x20000, by decide⟩⟩

/-- Meets the hypotheses of `Obligations.MemoryRequests`. -/
theorem witness_MemoryRequests :
    (∃ (s : State), s.runs 2 = false) ∧
    (∃ (s : State) (src : Fin 20) (a : BitVec 38), s.runs 2 = true ∧ s.spaceBytes ≤ a.toNat ∧ src.val ≠ 19) ∧
    (∃ (s : State) (src : Fin 20) (a : BitVec 38) (w : Option (List Byte)) (first : FirstRead) (q : MemReq), s.runs 2 = true ∧ a.toNat < s.spaceBytes ∧ w ≠ some [] ∧ (q = ⟨src.val, a.toNat, w.map (fun b => b.take (64 - a.toNat % 64)), first, none, s.tick⟩) ∧ (s.memCredit (s.chanOf a.toNat).1 = false ∨ s.mc.queue.any (fun e => e.src == src.val) = true)) ∧
    (∃ (s : State) (src : Fin 20) (a : BitVec 38) (w : Option (List Byte)) (first : FirstRead) (q : MemReq), s.runs 2 = true ∧ a.toNat < s.spaceBytes ∧ w ≠ some [] ∧ (q = ⟨src.val, a.toNat, w.map (fun b => b.take (64 - a.toNat % 64)), first, none, s.tick⟩) ∧ s.memCredit (s.chanOf a.toNat).1 = true ∧ (s.mc.queue.any (fun e => e.src == src.val) = false) ∧ (first = .stalled ∨ s.mc.flight.any (s.memBehind q) = true)) ∧
    (∃ (s : State) (src : Fin 20) (a : BitVec 38) (gs : List (Fin 20)) (q : MemReq) (c : Nat) (rs : List MemReply), s.runs 2 = true ∧ a.toNat < s.spaceBytes ∧ src.val ≠ 19 ∧ c = (s.chanOf a.toNat).1 ∧ s.memCredit c = true ∧ (s.mc.queue.any (fun e => e.src == src.val) = false) ∧ q = ⟨src.val, a.toNat, none, .errors gs, none, s.tick⟩ ∧ s.mc.flight.any (s.memBehind q) = false ∧ s.poisoned a.toNat 1 = false ∧ rs = s.mc.replies ++ [⟨src.val, stOk, 0, s.mem.ext.readN (a.toNat / 64 * 64) 64⟩] ∧ gs = []) ∧
    (∃ (s : State), ∃ (src : Fin 20), ∃ (a : BitVec 38), ∃ (gs : List (Fin 20)), ∃ (q : MemReq), ∃ (c : Nat), ∃ (rs : List MemReply), ∃ g, s.runs 2 = true ∧ a.toNat < s.spaceBytes ∧ src.val ≠ 19 ∧ c = (s.chanOf a.toNat).1 ∧ s.memCredit c = true ∧ (s.mc.queue.any (fun e => e.src == src.val) = false) ∧ q = ⟨src.val, a.toNat, none, .errors gs, none, s.tick⟩ ∧ s.mc.flight.any (s.memBehind q) = false ∧ s.poisoned a.toNat 1 = false ∧ rs = s.mc.replies ++ [⟨src.val, stOk, 0, s.mem.ext.readN (a.toNat / 64 * 64) 64⟩] ∧ gs.head? = some g ∧ gs.all (· == g) = true) ∧
    (∃ (s : State), ∃ (src : Fin 20), ∃ (a : BitVec 38), ∃ (gs : List (Fin 20)), ∃ (q : MemReq), ∃ (c : Nat), ∃ (rs : List MemReply), ∃ g, s.runs 2 = true ∧ a.toNat < s.spaceBytes ∧ src.val ≠ 19 ∧ c = (s.chanOf a.toNat).1 ∧ s.memCredit c = true ∧ (s.mc.queue.any (fun e => e.src == src.val) = false) ∧ q = ⟨src.val, a.toNat, none, .errors gs, none, s.tick⟩ ∧ s.mc.flight.any (s.memBehind q) = false ∧ s.poisoned a.toNat 1 = false ∧ rs = s.mc.replies ++ [⟨src.val, stOk, 0, s.mem.ext.readN (a.toNat / 64 * 64) 64⟩] ∧ gs.head? = some g ∧ gs.all (· == g) = false) ∧
    (∃ (s : State) (src : Fin 20) (a : BitVec 38) (bs : List Byte) (q : MemReq) (c home : Nat), s.runs 2 = true ∧ a.toNat < s.spaceBytes ∧ src.val ≠ 19 ∧ bs ≠ [] ∧ a.toNat % 64 + bs.length ≤ 64 ∧ c = (s.chanOf a.toNat).1 ∧ home = (s.lineAt a.toNat).2.2.2 ∧ s.memCredit c = true ∧ (s.mc.queue.any (fun e => e.src == src.val) = false) ∧ q = ⟨src.val, a.toNat, some bs, .errors [], none, s.tick⟩ ∧ s.mc.flight.any (s.memBehind q) = false) ∧
    (∃ (s : State) (src : Fin 20) (good fb : Bool) (q : MemReq) (u : State), (s.mc.flight.find? (fun q => q.src == src.val && q.group.isSome) = some q) ∧ s.runs 2 = true ∧ u = { s with mc := { s.mc with flight := s.mc.flight.erase q } }.memReread q good fb) ∧
    (∃ (s : State) (q : MemReq) (c : Nat), q.src ≠ 19 ∧ c = (s.chanOf q.off).1 ∧ q.write = none ∧ s.poisoned q.off 1 = false) ∧
    (∃ (s : State) (q : MemReq) (c : Nat), q.src ≠ 19 ∧ c = (s.chanOf q.off).1 ∧ s.poisoned q.off 1 = false ∧ s.on Reg.MEM_ERR_STATUS_UE = true) ∧
    (∃ (s : State) (q : MemReq) (c : Nat), q.src ≠ 19 ∧ c = (s.chanOf q.off).1 ∧ s.poisoned q.off 1 = false ∧ s.on Reg.MEM_ERR_STATUS_UE = false) ∧
    (∃ (s : State) (q : MemReq) (c : Nat), q.src ≠ 19 ∧ c = (s.chanOf q.off).1 ∧ s.poisoned q.off 1 = true) ∧
    (∃ (s : State), (s.mc.flight.all (fun q => q.group.isSome || q.first == .stalled) = true) ∧ s.mc.queue = [] ∧ s.mc.freq = none) ∧
    (∃ (s : State) (q r : MemReq), s.mc.queue = [q, r] ∧ q.src ≠ r.src ∧ s.memCredit (s.chanOf q.off).1 = true ∧ s.memCredit (s.chanOf r.off).1 = true ∧ q.src < 20 ∧ r.src < 20 ∧ memClass r.src < memClass q.src) ∧
    (∃ (s : State) (q r : MemReq), s.mc.queue = [q, r] ∧ q.src ≠ r.src ∧ s.memCredit (s.chanOf q.off).1 = true ∧ s.memCredit (s.chanOf r.off).1 = true ∧ q.src < 20 ∧ r.src < 20 ∧ memClass q.src < memClass r.src) ∧
    (∃ (s : State) (q r : MemReq), s.mc.queue = [q, r] ∧ q.src ≠ r.src ∧ s.memCredit (s.chanOf q.off).1 = true ∧ s.memCredit (s.chanOf r.off).1 = true ∧ q.src < 20 ∧ r.src < 20 ∧ memClass r.src = memClass q.src ∧ s.mc.turn.getD (memClass q.src - 1) 0 = q.src) ∧
    (∃ (s : State) (src : Fin 20) (q : MemReq), (s.mc.flight.find? (fun q => q.src == src.val) = some q) ∧ s.tick < q.accepted + 20000) ∧
    (∃ (s : State) (src : Fin 20) (q : MemReq) (v u : State), (s.mc.flight.find? (fun q => q.src == src.val) = some q) ∧ q.accepted + 20000 ≤ s.tick ∧ v = s.timeoutEvt false (rowOf 0x90000) ∧ u = { v with mc := { v.mc with flight := v.mc.flight.erase q, replies := if src.val = 19 then v.mc.replies else v.mc.replies ++ [⟨src.val, stTimeout, 3, []⟩] } }) ∧
    (∃ n, 16 ≤ n) ∧
    (∃ (s : State) (i : Fin 3) (j : GJob), (s.grm.jobs.find? (fun j => j.inst == some i.val) = some j)) ∧
    (∃ (s : State) (a : BitVec 38) (first : FirstRead) (c : Nat), c = (s.chanOf a.toNat).1 ∧ s.runs 2 = true ∧ s.fld Reg.MEM_SCRUB ≠ 0 ∧ a.toNat < s.spaceBytes ∧ a.toNat / 64 = s.mc.scrubAt ∧ (∀ x ∈ s.mc.scrubLast.getD c none, x + 191 ≤ s.tick) ∧ s.memCredit c = true ∧ (s.mc.queue.any (fun e => e.src == 19) = false) ∧ (s.mc.scrubRests = false ∨ s.mc.scrubFrom + s.fld Reg.MEM_SCRUB * 720000000000 ≤ s.tick) ∧ first = .stalled) ∧
    (∃ (s : State), ∃ (a : BitVec 38), ∃ (first : FirstRead), ∃ (c : Nat), ∃ g, c = (s.chanOf a.toNat).1 ∧ s.runs 2 = true ∧ s.fld Reg.MEM_SCRUB ≠ 0 ∧ a.toNat < s.spaceBytes ∧ a.toNat / 64 = s.mc.scrubAt ∧ (∀ x ∈ s.mc.scrubLast.getD c none, x + 191 ≤ s.tick) ∧ s.memCredit c = true ∧ (s.mc.queue.any (fun e => e.src == 19) = false) ∧ (s.mc.scrubRests = false ∨ s.mc.scrubFrom + s.fld Reg.MEM_SCRUB * 720000000000 ≤ s.tick) ∧ first = .errors [g] ∧ s.poisoned a.toNat 1 = false ∧ s.mc.flight = []) ∧
    (∃ (s : State) (a : BitVec 38), (s.fld Reg.MEM_SCRUB = 0 ∨ a.toNat / 64 ≠ s.mc.scrubAt ∨ s.memCredit (s.chanOf a.toNat).1 = false)) :=
  ⟨⟨State.reset, by decide⟩,
   ⟨memory, 1, 0x100000, by decide⟩,
   ⟨State.mctl memory (fun m => { m with selfRef := true }), 1, 0xFFFFF, some [1, 2], .errors [], ⟨1, 0xFFFFF, some [1], .errors [], none, 0⟩, by decide⟩,
   ⟨State.mctl memory (fun m => { m with flight := [⟨1, 0xFFFC0, none, .errors [19, 18], some 19, 0⟩] }), 1, 0xFFFC0, none, .errors [], ⟨1, 0xFFFC0, none, .errors [], none, 0⟩, by decide⟩,
   ⟨memory, 18, 0xFFFFF, [], ⟨18, 0xFFFFF, none, .errors [], none, 0⟩, 1, [⟨18, 0, 0, zeros 64⟩], by decide⟩,
   ⟨memory, 18, 0xFFFFF, [19, 19], ⟨18, 0xFFFFF, none, .errors [19, 19], none, 0⟩, 1, [⟨18, 0, 0, zeros 64⟩], 19, by decide⟩,
   ⟨memory, 18, 0xFFFFF, [19, 0], ⟨18, 0xFFFFF, none, .errors [19, 0], none, 0⟩, 1, [⟨18, 0, 0, zeros 64⟩], 19, by decide⟩,
   ⟨State.mctl memory (fun m => { m with poison := [0x3FFF] }), 18, 0xFFFFF, [1], ⟨18, 0xFFFFF, some [1], .errors [], none, 0⟩, 1, 0, by decide⟩,
   ⟨State.mctl memory (fun m => { m with flight := [⟨1, 0xFFFC0, none, .errors [19, 18], some 19, 0⟩] }), 1, true, false, ⟨1, 0xFFFC0, none, .errors [19, 18], some 19, 0⟩, State.memReread (State.mctl memory (fun m => { m with flight := [] })) ⟨1, 0xFFFC0, none, .errors [19, 18], some 19, 0⟩ true false, ⟨by decide, by decide, rfl⟩⟩,
   ⟨memory, ⟨1, 0xFFFC0, none, .errors [19, 18], some 19, 0⟩, 1, by decide⟩,
   ⟨State.sets memory [(Reg.MEM_ERR_STATUS_UE, 0, 1)], ⟨1, 0xFFFC0, none, .errors [19, 18], some 19, 0⟩, 1, by decide⟩,
   ⟨memory, ⟨1, 0xFFFC0, none, .errors [19, 18], some 19, 0⟩, 1, by decide⟩,
   ⟨State.mctl memory (fun m => { m with poison := [0x3FFF] }), ⟨1, 0xFFFC0, none, .errors [19, 18], some 19, 0⟩, 1, by decide⟩,
   ⟨State.mctl memory (fun m => { m with flight := [⟨1, 0xFFFC0, none, .errors [19, 18], some 19, 0⟩] }), by decide⟩,
   ⟨State.mctl memory (fun m => { m with queue := [⟨19, 0, none, .errors [], none, 0⟩, ⟨0, 0, none, .errors [], none, 0⟩] }), ⟨19, 0, none, .errors [], none, 0⟩, ⟨0, 0, none, .errors [], none, 0⟩, by decide⟩,
   ⟨State.mctl memory (fun m => { m with queue := [⟨17, 0, none, .errors [], none, 0⟩, ⟨1, 0, none, .errors [], none, 0⟩] }), ⟨17, 0, none, .errors [], none, 0⟩, ⟨1, 0, none, .errors [], none, 0⟩, by decide⟩,
   ⟨State.mctl memory (fun m => { m with queue := [⟨16, 0, none, .errors [], none, 0⟩, ⟨15, 0, none, .errors [], none, 0⟩], turn := #v[0, 16, 0] }), ⟨16, 0, none, .errors [], none, 0⟩, ⟨15, 0, none, .errors [], none, 0⟩, by decide⟩,
   ⟨State.mctl memory (fun m => { m with flight := [⟨1, 0xFFFC0, none, .errors [19, 18], some 19, 0⟩] }), 1, ⟨1, 0xFFFC0, none, .errors [19, 18], some 19, 0⟩, by decide⟩,
   ⟨{ State.mctl memory (fun m => { m with flight := [⟨1, 0xFFFC0, none, .errors [19, 18], some 19, 0⟩] }) with tick := 20000 }, 1, ⟨1, 0xFFFC0, none, .errors [19, 18], some 19, 0⟩, State.timeoutEvt { State.mctl memory (fun m => { m with flight := [⟨1, 0xFFFC0, none, .errors [19, 18], some 19, 0⟩] }) with tick := 20000 } false (rowOf 0x90000), State.mctl (State.timeoutEvt { State.mctl memory (fun m => { m with flight := [⟨1, 0xFFFC0, none, .errors [19, 18], some 19, 0⟩] }) with tick := 20000 } false (rowOf 0x90000)) (fun m => { m with flight := [], replies := [⟨1, stTimeout, 3, []⟩] }), ⟨by decide, by decide, rfl, rfl⟩⟩,
   ⟨16, by decide⟩,
   ⟨{ memory with grm := { memory.grm with jobs := [job] } }, 0, job, by decide⟩,
   ⟨State.mctl (State.sets memory [(Reg.MEM_SCRUB, 0, 1)]) (fun m => { m with scrubAt := 0x3FFF }), 0xFFFC0, .stalled, 1, by decide⟩,
   ⟨State.mctl (State.sets memory [(Reg.MEM_SCRUB, 0, 1)]) (fun m => { m with scrubAt := 0x3FFF }), 0xFFFC0, .errors [19], 1, 19, by decide⟩,
   ⟨State.sets memory [(Reg.MEM_SCRUB, 0, 1)], 0xFFFC0, by decide⟩⟩

/-- Meets the hypotheses of `Obligations.MemoryUpkeep`. -/
theorem witness_MemoryUpkeep :
    (∃ (s : State) (ch : Fin 2) (r : Fin 4) (o : Nat), s.refreshes ch.val r.val = true ∧ o = (s.mc.owed.getD ch.val (Vector.replicate 4 0)).getD r.val 0 ∧ s.on Reg.MEM_CH_STATUS_HOT ch.val = false ∧ s.timerDue (.refresh ch.val r.val) 780 = true ∧ o < 4) ∧
    (∃ (s : State) (ch : Fin 2) (r : Fin 4) (o : Nat), s.refreshes ch.val r.val = true ∧ o = (s.mc.owed.getD ch.val (Vector.replicate 4 0)).getD r.val 0 ∧ (s.on Reg.MEM_CH_STATUS_HOT ch.val = true ∨ 4 ≤ o) ∧ s.timerDue (.refresh ch.val r.val) (if s.on Reg.MEM_CH_STATUS_HOT ch.val then 390 else 780) = true) ∧
    (∃ (s : State) (ch : Fin 2) (r : Fin 4) (o : Nat), s.refreshes ch.val r.val = true ∧ o = (s.mc.owed.getD ch.val (Vector.replicate 4 0)).getD r.val 0 ∧ s.timerDue (.refresh ch.val r.val) 390 = false) ∧
    (∃ (s : State) (ch : Fin 2), s.timerDue (.poll ch.val) 6400000 = false) ∧
    (∃ (s : State) (ch : Fin 2) (rs : List (Fin 3)), s.timerDue (.poll ch.val) 6400000 = true ∧ (rs.any (fun r => decide (1 ≤ r.val)) = false)) ∧
    (∃ (s : State) (ch : Fin 2) (rs : List (Fin 3)), s.timerDue (.poll ch.val) 6400000 = true ∧ (rs.any (fun r => decide (1 ≤ r.val)) = true)) ∧
    (∃ (s : State) (ch : Fin 2) (r : Nat), s.mc.want[ch] = some r) ∧
    (∃ (s : State) (ch : Fin 2) (r sp : Nat), s.mc.mig[ch] = some r ∧ s.mc.spare[ch] = some sp ∧ r < 4 ∧ s.fld Reg.MEM_MIG_PTR ch.val < s.rankLines ch.val) ∧
    (∃ (s : State) (ch : Fin 2) (r sp : Nat), s.mc.mig[ch] = some r ∧ s.mc.spare[ch] = some sp ∧ r < 4 ∧ s.rankLines ch.val ≤ s.fld Reg.MEM_MIG_PTR ch.val) ∧
    (∃ (s : State), s.mc.flight = [] ∧ s.mc.poison = [] ∧ s.on Reg.MEM_STATUS_INTLV = true) ∧
    (∃ (s : State) (ch : Fin 2) (v : Word) (r o : Nat), o = Reg.MEM_MIG_CTL_RETIRE.addr ch.val ∧ s.answers o = true ∧ s.crossing o = false ∧ r = v.toNat % 8 ∧ r ≠ 7 ∧ v.toNat / 2 ^ 16 % 2 = 0 ∧ s.spareFree ch.val = true ∧ s.mc.order[ch].contains r = true) ∧
    (∃ (s : State) (ch : Fin 2) (v : Word) (r o : Nat), o = Reg.MEM_MIG_CTL_RETIRE.addr ch.val ∧ s.answers o = true ∧ s.crossing o = false ∧ r = v.toNat % 8 ∧ r ≠ 7 ∧ v.toNat / 2 ^ 16 % 2 = 0 ∧ (s.spareFree ch.val = false ∨ s.mc.order[ch].contains r = false ∧ (s.mc.spare[ch] = some r ∨ (s.fld Reg.MEM_CH_STATUS_RETIRED ch.val).testBit r = true))) ∧
    (∃ (s : State) (ch : Fin 2) (v : Word) (r o : Nat), o = Reg.MEM_MIG_CTL_RETIRE.addr ch.val ∧ s.answers o = true ∧ s.crossing o = false ∧ r = v.toNat % 8 ∧ r ≠ 7 ∧ v.toNat / 2 ^ 16 % 2 = 0 ∧ s.spareFree ch.val = true ∧ s.mc.order[ch].contains r = false ∧ s.mc.spare[ch] ≠ some r ∧ (s.fld Reg.MEM_CH_STATUS_RETIRED ch.val).testBit r = false) ∧
    (∃ (s : State) (v : Word), s.answers 0x90010 = true ∧ s.crossing 0x90010 = false ∧ v.toNat % 4 ≠ 3 ∧ v.toNat / 16 % 2 = 1 ∧ v.toNat / 2 ^ 12 % 2 = 0 ∧ s.mc.freq = none ∧ s.ringRuns = false ∧ s.panelOn = false ∧ s.mc.mig.any (·.isSome) = false) ∧
    (∃ (s : State) (v : Word), s.answers 0x90010 = true ∧ s.crossing 0x90010 = false ∧ v.toNat % 4 ≠ 3 ∧ v.toNat / 16 % 2 = 1 ∧ v.toNat / 2 ^ 12 % 2 = 0 ∧ (s.ringRuns = true ∨ s.panelOn = true ∨ s.mc.mig.any (·.isSome) = true)) ∧
    (∃ (s : State) (n : Nat), s.mc.freq = some n ∧ n < 4 ∧ (s.mc.selfRef = false ∨ s.runs 2 = false)) ∧
    (∃ (s : State) (n : Nat), s.mc.freq = some n ∧ n < 4 ∧ s.mc.selfRef = true ∧ s.runs 2 = true ∧ s.mc.flight = [] ∧ s.mc.queue = []) ∧
    (∃ (s : State) (ini : Initiator) (n : Fin 7) (v : Word) (tb : List (Nat × Nat)), s.answers (Reg.MEM_RGN_SIZE.addr n.val) = true ∧ s.crossing (Reg.MEM_RGN_SIZE.addr n.val) = false ∧ s.rgnLocked ini n.val = false ∧ tb = setAt s.rgnTable n.val (s.fld Reg.MEM_RGN_BASE n.val, v.toNat % 2 ^ 18) ∧ s.rgnOk tb n.val = true) ∧
    (∃ (s : State) (ini : Initiator) (n : Fin 7) (v : Word) (tb : List (Nat × Nat)), s.answers (Reg.MEM_RGN_SIZE.addr n.val) = true ∧ s.crossing (Reg.MEM_RGN_SIZE.addr n.val) = false ∧ s.rgnLocked ini n.val = false ∧ tb = setAt s.rgnTable n.val (s.fld Reg.MEM_RGN_BASE n.val, v.toNat % 2 ^ 18) ∧ s.rgnOk tb n.val = false) ∧
    (∃ (s : State) (ini : Initiator) (v : Word), s.answers 0x90140 = true ∧ s.crossing 0x90140 = false ∧ v.toNat % 2 = 1 ∧ (∀ n, n < 7 → s.rgnLocked ini n = false ∨ s.rgnStaged.getD n (0, 0) = s.rgnTable.getD n (0, 0)) ∧ (∀ n, n < 7 → s.rgnOk s.rgnStaged n = true)) ∧
    (∃ (s : State), ∃ (ini : Initiator), ∃ (v : Word), ∃ n, s.answers 0x90140 = true ∧ s.crossing 0x90140 = false ∧ v.toNat % 2 = 1 ∧ (∀ n, n < 7 → s.rgnLocked ini n = false ∨ s.rgnStaged.getD n (0, 0) = s.rgnTable.getD n (0, 0)) ∧ n < 7 ∧ s.rgnOk s.rgnStaged n = false ∧ (∀ m, m < n → s.rgnOk s.rgnStaged m = true)) ∧
    (∃ (s : State) (ch : Fin 2) (v : Word), s.answers (Reg.MEM_SPARE_CLR.addr ch.val) = true ∧ s.crossing (Reg.MEM_SPARE_CLR.addr ch.val) = false ∧ s.pw.brownBlock = false ∧ v.toNat % 2 ^ 16 = 0x5EA1) :=
  ⟨⟨State.mctl (State.sets memory [(Reg.MEM_CH_STATUS_RANKS, 1, 8)]) (fun m => { m with owed := m.owed.set 1 #v[0, 0, 0, 3] }), 1, 3, 3, by decide⟩,
   ⟨State.mctl (State.sets memory [(Reg.MEM_CH_STATUS_RANKS, 1, 8)]) (fun m => { m with owed := m.owed.set 1 #v[0, 0, 0, 4] }), 1, 3, 4, by decide⟩,
   ⟨{ State.mctl (State.sets memory [(Reg.MEM_CH_STATUS_RANKS, 1, 8)]) (fun m => { m with owed := m.owed.set 1 #v[0, 0, 0, 3] }) with timers := [(.refresh 1 3, 0)], tick := 389 }, 1, 3, 3, by decide⟩,
   ⟨{ memory with timers := [(.poll 1, 0)], tick := 6399999 }, 1, by decide⟩,
   ⟨memory, 1, [0], by decide⟩,
   ⟨memory, 1, [0, 2], by decide⟩,
   ⟨State.mctl memory (fun m => { m with want := #v[none, some 3] }), 1, 3, by decide⟩,
   ⟨State.mctl memory (fun m => { m with mib := #v[0, 1], spare := #v[none, some 3], order := #v[[], [0, 1]], mig := #v[none, some 1] }), 1, 1, 3, by decide⟩,
   ⟨State.sets (State.mctl memory (fun m => { m with mib := #v[0, 1], spare := #v[none, some 3], order := #v[[], [0, 1]], mig := #v[none, some 1] })) [(Reg.MEM_MIG_PTR, 1, 0x4000)], 1, 1, 3, by decide⟩,
   ⟨State.sets memory [(Reg.MEM_STATUS_INTLV, 0, 1)], by decide⟩,
   ⟨State.mctl memory (fun m => { m with mib := #v[0, 1], spare := #v[none, some 3], order := #v[[], [0, 1]] }), 1, 1, 1, 0x91408, by decide⟩,
   ⟨State.mctl memory (fun m => { m with mib := #v[0, 1], spare := #v[none, some 3], order := #v[[], [0, 1]] }), 1, 3, 3, 0x91408, by decide⟩,
   ⟨State.mctl memory (fun m => { m with mib := #v[0, 1], spare := #v[none, some 3], order := #v[[], [0, 1]] }), 1, 6, 6, 0x91408, by decide⟩,
   ⟨memory, 0x10, by decide +kernel⟩,
   ⟨State.sets memory [(Reg.SLM_GL_CTL_RUN, 0, 1)], 0x10, by decide⟩,
   ⟨State.mctl memory (fun m => { m with freq := some 3 }), 3, by decide⟩,
   ⟨State.mctl memory (fun m => { m with freq := some 3, selfRef := true }), 3, by decide⟩,
   ⟨memory, .summit, 4, 1, [(0, 0), (0, 0), (0, 0), (0, 0), (0, 1), (0, 0), (0, 0)], by decide⟩,
   ⟨memory, .summit, 4, 2, [(0, 0), (0, 0), (0, 0), (0, 0), (0, 2), (0, 0), (0, 0)], by decide⟩,
   ⟨State.sets memory [(Reg.MEM_SIZE, 0, 65), (Reg.MEM_RGN_SIZE, 4, 1), (Reg.MEM_RGN_BASE, 5, 1), (Reg.MEM_RGN_SIZE, 5, 64)], .summit, 1, by decide⟩,
   ⟨memory, .summit, 1, 4, by decide⟩,
   ⟨memory, 1, 0x5EA1, by decide⟩⟩

/-- Meets the hypotheses of `Obligations.CairnProgram`. -/
theorem witness_CairnProgram :
    (∃ (s : State) (k : Crn) (pc : Nat) (ka : Fin 16) (imm : BitVec 16) (a : Nat), s.crnRuns = true ∧ k = s.crn ∧ pc = s.fld Reg.CRN_PC + 1 ∧ pc < k.words ∧ pc < 4096 ∧ a = ((k.reg ka).toNat + imm.toNat) % 4096) ∧
    (∃ (s : State) (k : Crn) (pc : Nat) (ka kb n : Fin 16) (a y y' : Nat), s.crnRuns = true ∧ k = s.crn ∧ pc = s.fld Reg.CRN_PC + 1 ∧ pc < k.words ∧ pc < 4096 ∧ a = (k.reg ka).toNat ∧ y = k.word a * 2 ^ 16 + k.word (a + 1) ∧ y < 2 ^ 32 ∧ (y' : Int) = y + Int.fdiv (((k.reg kb).toNat : Int) * 2 ^ 16 - y) (2 ^ n.val)) ∧
    (∃ (s : State) (k : Crn) (pc : Nat) (t : BitVec 12), s.crnRuns = true ∧ k = s.crn ∧ pc = s.fld Reg.CRN_PC + 1 ∧ pc < k.words ∧ pc < 4096 ∧ t.toNat < k.words) ∧
    (∃ (s : State) (k : Crn) (pc : Nat) (p : BitVec 16), s.crnRuns = true ∧ k = s.crn ∧ pc = s.fld Reg.CRN_PC + 1 ∧ pc < k.words ∧ pc < 4096 ∧ p.toNat ≠ 8) ∧
    (∃ (s : State) (k : Crn) (pc : Nat), s.crnRuns = true ∧ k = s.crn ∧ pc = s.fld Reg.CRN_PC + 1 ∧ pc < k.words ∧ pc < 4096 ∧ s.on Reg.CRN_STATUS_ZREADY = true) ∧
    (∃ (s : State) (k : Crn) (pc : Nat), s.crnRuns = true ∧ k = s.crn ∧ pc = s.fld Reg.CRN_PC + 1 ∧ pc < k.words ∧ pc < 4096 ∧ s.on Reg.CRN_STATUS_ZREADY = false) ∧
    (∃ (s : State) (k : Crn) (pc : Nat) (kd : Fin 16) (v : Nat), s.crnRuns = true ∧ k = s.crn ∧ pc = s.fld Reg.CRN_PC + 1 ∧ pc < k.words ∧ pc < 4096 ∧ v = (k.reg kd).toNat ∧ s.vb.writes.length < 4) ∧
    (∃ (s : State) (k : Crn) (pc : Nat) (ka : Fin 16) (a z : Nat), s.crnRuns = true ∧ k = s.crn ∧ pc = s.fld Reg.CRN_PC + 1 ∧ pc < k.words ∧ pc < 4096 ∧ a = (k.reg ka).toNat ∧ z = k.word a + k.word (a + 1) * 2 ^ 16 + k.word (a + 2) * 2 ^ 32 + k.word (a + 3) * 2 ^ 48 ∧ s.pstate = stWatch) ∧
    (∃ (s : State) (k : Crn) (pc : Nat) (r : BitVec 8), s.crnRuns = true ∧ k = s.crn ∧ pc = s.fld Reg.CRN_PC + 1 ∧ pc < k.words ∧ pc < 4096 ∧ 1 ≤ r.toNat ∧ r.toNat ≤ 0xEF ∧ s.pstate = stWatch ∧ s.pw.trans = none) ∧
    (∃ (s : State) (k : Crn) (pc : Nat) (r : BitVec 8), s.crnRuns = true ∧ k = s.crn ∧ pc = s.fld Reg.CRN_PC + 1 ∧ pc < k.words ∧ pc < 4096 ∧ (r.toNat = 0 ∨ 0xEF < r.toNat)) ∧
    (∃ (s : State) (k : Crn) (pc : Nat), s.crnRuns = true ∧ k = s.crn ∧ pc = s.fld Reg.CRN_PC + 1 ∧ pc < k.words ∧ pc < 4096 ∧ s.pw.trans = none ∧ s.pw.vbatPresent = true ∧ s.vb.cfg % 16 ≠ 0) ∧
    (∃ (s : State) (k : Crn) (pc : Nat), s.crnRuns = true ∧ k = s.crn ∧ pc = s.fld Reg.CRN_PC + 1 ∧ pc < k.words ∧ pc < 4096 ∧ s.pw.trans = none ∧ (s.pw.vbatPresent = false ∨ s.vb.cfg % 16 = 0)) ∧
    (∃ (s : State) (p : BitVec 16), s.crnRuns = true ∧ s.pstate = stWatch ∧ s.pw.trans = none ∧ p.toNat ≠ 32 ∧ p.toNat ≠ 33) ∧
    (∃ (s : State) (c : BitVec 12), s.crnRuns = true ∧ s.pstate = stWatch ∧ s.pw.trans = none ∧ s.crn.words ≤ c.toNat) ∧
    (∃ (s : State), s.crnRuns = true ∧ s.pstate = stWatch ∧ s.pw.trans = none ∧ s.tick < s.crn.fedTick + max 1 (s.fld Reg.CRN_WDOG) * 200000) ∧
    (∃ (s : State), s.crnRuns = true ∧ s.pstate = stWatch ∧ s.pw.trans = none ∧ s.crn.fedTick + max 1 (s.fld Reg.CRN_WDOG) * 200000 ≤ s.tick) ∧
    (∃ (s : State) (i : Instr), (crnEncode i).isSome = true ∧ s.crnRuns = false) :=
  ⟨⟨cairn, cairn.crn, 15, 15, 0xFFFF, 4095, by decide⟩,
   ⟨cairn, cairn.crn, 15, 15, 14, 15, 0, 0, 0, by decide⟩,
   ⟨cairn, cairn.crn, 15, 15, by decide⟩,
   ⟨cairn, cairn.crn, 15, 9, by decide⟩,
   ⟨State.sets cairn [(Reg.CRN_STATUS_ZREADY, 0, 1)], (State.sets cairn [(Reg.CRN_STATUS_ZREADY, 0, 1)]).crn, 15, by decide⟩,
   ⟨cairn, cairn.crn, 15, by decide⟩,
   ⟨cairn, cairn.crn, 15, 15, 0, by decide⟩,
   ⟨watch cairn, cairn.crn, 15, 15, 0, 0, by decide⟩,
   ⟨watch cairn, cairn.crn, 15, 0xEF, by decide⟩,
   ⟨cairn, cairn.crn, 15, 0xF0, by decide⟩,
   ⟨State.vbat cairn (fun v => { v with cfg := 8 }), cairn.crn, 15, by decide⟩,
   ⟨State.vbat cairn (fun v => { v with cfg := 0 }), cairn.crn, 15, by decide⟩,
   ⟨watch cairn, 34, by decide⟩,
   ⟨watch cairn, 16, by decide⟩,
   ⟨watch cairn, by decide⟩,
   ⟨{ watch cairn with tick := 200000 * max 1 (cairn.fld Reg.CRN_WDOG) }, by decide⟩,
   ⟨run, .crnNop, by decide⟩⟩

/-- Meets the hypotheses of `Obligations.WatchAndVbat`. -/
theorem witness_WatchAndVbat :
    (∃ (s : State), s.watchDue = false) ∧
    (∃ (s : State), s.watchDue = true) ∧
    (∃ (s : State), s.timerDue .mirror 6103 = false) ∧
    (∃ (s : State), s.timerDue .mirror 6103 = true ∧ (s.vb.rtc + 1) % 2 ^ 48 ≠ s.vb.alarm) ∧
    (∃ (s : State), s.timerDue .mirror 6103 = true ∧ (s.vb.rtc + 1) % 2 ^ 48 = s.vb.alarm ∧ s.pw.standby = true ∧ s.vb.cfg.testBit 0 = true) ∧
    (∃ (s : State), s.timerDue .mirror 6103 = true ∧ (s.vb.rtc + 1) % 2 ^ 48 = s.vb.alarm ∧ (s.pw.standby = false ∨ s.vb.cfg.testBit 0 = false)) ∧
    (∃ (s : State) (off v : Nat) (ws : List (Nat × Nat)), s.vb.writes = (off, v) :: ws) ∧
    (∃ (s : State), (s.vb.rtc ≠ s.vb.alarm ∨ s.vb.matched = true)) ∧
    (∃ (s : State), s.vb.rtc = s.vb.alarm ∧ s.vb.matched = false ∧ s.pw.standby = true ∧ s.vb.cfg.testBit 0 = true) ∧
    (∃ (s : State), s.vb.rtc = s.vb.alarm ∧ s.vb.matched = false ∧ (s.pw.standby = false ∨ s.vb.cfg.testBit 0 = false)) ∧
    (∃ (s : State) (p : Fin 2), s.vb.armed[p] = true ∧ s.vb.cfg.testBit (1 + p.val) = true ∧ s.pw.standby = true) ∧
    (∃ (s : State) (p : Fin 2), (s.vb.armed[p] = false ∨ s.vb.cfg.testBit (1 + p.val) = false)) ∧
    (∃ (s : State), s.vb.levels.testBit 2 = false) :=
  ⟨⟨run, by decide⟩,
   ⟨State.sets run [(Reg.CRN_STATUS_SLICE, 0, 1)], by decide⟩,
   ⟨{ run with timers := [(.mirror, 0)], tick := 6102 }, by decide⟩,
   ⟨State.vbat run (fun v => { v with rtc := 2 ^ 48 - 1, alarm := 1 }), by decide⟩,
   ⟨State.vbat (State.pwr (State.vbat run (fun v => { v with cfg := 1, armed := #v[true, true] })) (fun p => { p with standby := true })) (fun v => { v with alarm := 1 }), by decide⟩,
   ⟨State.vbat (State.pwr (State.vbat run (fun v => { v with cfg := 0, armed := #v[true, true] })) (fun p => { p with standby := true })) (fun v => { v with alarm := 1 }), by decide⟩,
   ⟨State.vbat run (fun v => { v with writes := [(0, 1)] }), 0, 1, [], by decide⟩,
   ⟨State.vbat run (fun v => { v with alarm := 1 }), by decide⟩,
   ⟨State.pwr (State.vbat run (fun v => { v with cfg := 1, armed := #v[true, true] })) (fun p => { p with standby := true }), by decide⟩,
   ⟨State.pwr (State.vbat run (fun v => { v with cfg := 0, armed := #v[true, true] })) (fun p => { p with standby := true }), by decide⟩,
   ⟨State.pwr (State.vbat run (fun v => { v with cfg := 4, armed := #v[true, true] })) (fun p => { p with standby := true }), 1, by decide⟩,
   ⟨State.vbat run (fun v => { v with armed := #v[false, false] }), 1, by decide⟩,
   ⟨State.vbat run (fun v => { v with levels := 3 }), by decide⟩⟩

/-- Meets the hypotheses of `Obligations.SadCommands`. -/
theorem witness_SadCommands :
    (∃ (s : State) (h : Fin 256) (x : Handle) (n : Nat), s.cmd? h.val 0x60 = some x ∧ x.p 0 = n ∧ 8 < n) ∧
    (∃ (s : State) (h : Fin 256) (d : CmdData) (bs : List Byte) (x : Handle) (n k : Nat), s.cmd? h.val 0x60 = some x ∧ x.p 0 = n ∧ n ≤ 8 ∧ s.dataOf x d = some (k, bs) ∧ k ≠ 48) ∧
    (∃ (s : State), ∃ (h : Fin 256), ∃ (d : CmdData), ∃ (bs : List Byte), ∃ (x : Handle), ∃ (n k : Nat), ∃ o, s.cmd? h.val 0x60 = some x ∧ x.p 0 = n ∧ n ≤ 8 ∧ s.dataOf x d = some (k, bs) ∧ k = 48 ∧ sadBad n bs = some o) ∧
    (∃ (s : State) (h : Fin 256) (d : CmdData) (bs : List Byte) (x : Handle) (n k : Nat), s.cmd? h.val 0x60 = some x ∧ x.p 0 = n ∧ n ≤ 8 ∧ s.dataOf x d = some (k, bs) ∧ k = 48 ∧ sadBad n bs = none ∧ s.sad.cal = none) ∧
    (∃ (s : State) (h : Fin 256) (d : CmdData) (bs : List Byte) (x : Handle) (n k : Nat) (g : Option Nat) (c m : Nat), s.cmd? h.val 0x60 = some x ∧ x.p 0 = n ∧ n ≤ 8 ∧ s.dataOf x d = some (k, bs) ∧ k = 48 ∧ sadBad n bs = none ∧ s.sad.cal = some (g, c, m) ∧ s.carrier n = some c) ∧
    (∃ (n : Nat), ∃ k, n ≤ 8 ∧ k < 9 ∧ k ≠ n) ∧
    (∃ (s : State) (n : Nat) (bs : List Byte), n ≤ 8 ∧ (s.carrier n).isSome = true ∧ field bs 6 1 / 2 % 2 = 0) ∧
    (∃ (s : State) (h : Fin 256) (x : Handle) (m : Nat), s.cmd? h.val 0x62 = some x ∧ x.p 0 = m ∧ (m = 0 ∨ 511 < m)) ∧
    (∃ (s : State) (h : Fin 256) (d : CmdData) (x : Handle) (m : Nat) (b : Buffer) (v : State) (bs : List Byte), s.cmd? h.val 0x62 = some x ∧ x.p 0 = m ∧ m ≠ 0 ∧ m ≤ 511 ∧ s.buffer x d = (b, v) ∧ (bs = ((List.range 9).filter (fun n => m.testBit n)).flatMap s.sadRecord) ∧ bs.length ≤ segsLen b.1) ∧
    (∃ (s : State) (h : Fin 256) (d : CmdData) (x : Handle) (m : Nat) (b : Buffer) (v : State) (bs : List Byte), s.cmd? h.val 0x62 = some x ∧ x.p 0 = m ∧ m ≠ 0 ∧ m ≤ 511 ∧ s.buffer x d = (b, v) ∧ (bs = ((List.range 9).filter (fun n => m.testBit n)).flatMap s.sadRecord) ∧ segsLen b.1 < bs.length ∧ b.2 = .whole) ∧
    (∃ (s : State) (h : Fin 256) (x : Handle), s.cmd? h.val 0x61 = some x ∧ s.sad.cal.isSome = true) ∧
    (∃ (s : State) (h : Fin 256) (x : Handle), s.cmd? h.val 0x61 = some x ∧ s.sad.cal = none ∧ s.sad.fb.isSome = true) ∧
    (∃ (s : State) (h : Fin 256) (x : Handle), s.cmd? h.val 0x61 = some x ∧ s.sad.cal = none ∧ s.sad.fb = none) ∧
    (∃ (s : State) (h : Fin 256) (x : Handle) (n : Nat), s.cmd? h.val 0x63 = some x ∧ x.p 0 = n ∧ 7 < n ∧ n ≠ 0xFF) ∧
    (∃ (s : State) (h : Fin 256) (x : Handle) (n : Nat), s.cmd? h.val 0x63 = some x ∧ x.p 0 = n ∧ (n ≤ 7 ∨ n = 0xFF) ∧ s.sad.cal.isSome = true) ∧
    (∃ (s : State) (h : Fin 256) (x : Handle) (n : Nat), s.cmd? h.val 0x63 = some x ∧ x.p 0 = n ∧ (n ≤ 7 ∨ n = 0xFF) ∧ s.sad.cal = none ∧ s.sad.fb.isSome = true) ∧
    (∃ (s : State) (h : Fin 256) (x : Handle) (n : Nat), s.cmd? h.val 0x63 = some x ∧ x.p 0 = n ∧ s.sad.cal = none ∧ s.sad.fb = none ∧ n = 0xFF ∧ s.sxPair = none) ∧
    (∃ (s : State), ∃ (h : Fin 256), ∃ (x : Handle), ∃ (n : Nat), ∃ p, s.cmd? h.val 0x63 = some x ∧ x.p 0 = n ∧ s.sad.cal = none ∧ s.sad.fb = none ∧ n ≤ 7 ∧ s.sxPair = some p ∧ n ≠ p) ∧
    (∃ (s : State) (h : Fin 256) (x : Handle) (n : Nat), s.cmd? h.val 0x63 = some x ∧ x.p 0 = n ∧ s.sad.cal = none ∧ s.sad.fb = none ∧ n ≤ 7 ∧ s.sxPair = some n ∧ s.sad.role = s.fld Reg.SAD_STATUS_FB_ROLE) ∧
    (∃ (s : State), ∃ (h : Fin 256), ∃ (x : Handle), ∃ (n : Nat), ∃ p, s.cmd? h.val 0x63 = some x ∧ x.p 0 = n ∧ s.sad.cal = none ∧ s.sad.fb = none ∧ n = 0xFF ∧ s.sxPair = some p ∧ s.on Reg.SAD_STATUS_FB_ROLE = true) ∧
    (∃ (s : State), ∃ (h : Fin 256), ∃ (x : Handle), ∃ (n : Nat), ∃ p, s.cmd? h.val 0x63 = some x ∧ x.p 0 = n ∧ s.sad.cal = none ∧ s.sad.fb = none ∧ n = 0xFF ∧ s.sxPair = some p ∧ s.on Reg.SAD_STATUS_FB_ROLE = false) ∧
    (∃ (s : State) (h : Fin 256) (x : Handle) (n : Nat), s.cmd? h.val 0x63 = some x ∧ x.p 0 = n ∧ s.sad.cal = none ∧ s.sad.fb = none ∧ n ≤ 7 ∧ (s.sxPair = none ∨ s.sxPair = some n ∧ s.sad.role = 0 ∧ s.fld Reg.SAD_STATUS_FB_ROLE = 1)) ∧
    (∃ (s : State) (h : Fin 256) (x : Handle) (n : Nat), s.cmd? h.val 0x63 = some x ∧ x.p 0 = n ∧ s.sad.cal = none ∧ s.sad.fb = none ∧ n ≤ 7 ∧ s.sxPair = some n ∧ s.sad.role = 1 ∧ s.fld Reg.SAD_STATUS_FB_ROLE = 0) :=
  ⟨⟨State.holds (run) (hnd 5 0x60 [9]), 5, hnd 5 0x60 [9], 9, by decide⟩,
   ⟨State.holds (run) (buf 0x60 [8] 47), 5, data (zeros 47), (zeros 47), buf 0x60 [8] 47, 8, 47, by decide⟩,
   ⟨State.holds (run) (buf 0x60 [8] 48), 5, data (zeros 48), (zeros 48), buf 0x60 [8] 48, 8, 48, 0, by decide⟩,
   ⟨State.holds (run) (buf 0x60 [8] 48), 5, data sadRec, sadRec, buf 0x60 [8] 48, 8, 48, by decide⟩,
   ⟨State.holds (State.slow run (fun a => { a with cal := some (some 9, 7, 0) })) (buf 0x60 [7] 48), 5, data sadRec, sadRec, buf 0x60 [7] 48, 7, 48, some 9, 7, 0, by decide⟩,
   ⟨0, 8, by decide⟩,
   ⟨run, 7, [], by decide⟩,
   ⟨State.holds (run) (hnd 5 0x62 [512]), 5, hnd 5 0x62 [512], 512, by decide⟩,
   ⟨State.holds run (buf 0x62 [511] 216), 5, data [], buf 0x62 [511] 216, 511, ([(0x1000, 216)], .whole), State.holds run (buf 0x62 [511] 216), _, by refine ⟨by decide, by decide, by decide, by decide, rfl, rfl, ?_⟩; decide +kernel⟩,
   ⟨State.holds run (buf 0x62 [511] 215), 5, data [], buf 0x62 [511] 215, 511, ([(0x1000, 215)], .whole), State.holds run (buf 0x62 [511] 215), _, by refine ⟨by decide, by decide, by decide, by decide, rfl, rfl, ?_⟩; decide +kernel⟩,
   ⟨State.holds (State.slow run (fun a => { a with cal := some (some 9, 7, 0) })) (hnd 5 0x61 []), 5, hnd 5 0x61 [], by decide⟩,
   ⟨State.holds (State.slow run (fun a => { a with fb := some (some 9, 7, 7) })) (hnd 5 0x61 []), 5, hnd 5 0x61 [], by decide⟩,
   ⟨State.holds (run) (hnd 5 0x61 []), 5, hnd 5 0x61 [], by decide⟩,
   ⟨State.holds (run) (hnd 5 0x63 [8]), 5, hnd 5 0x63 [8], 8, by decide⟩,
   ⟨State.holds (State.slow run (fun a => { a with cal := some (some 9, 7, 0) })) (hnd 5 0x63 [255]), 5, hnd 5 0x63 [255], 255, by decide⟩,
   ⟨State.holds (State.slow run (fun a => { a with fb := some (some 9, 7, 7) })) (hnd 5 0x63 [255]), 5, hnd 5 0x63 [255], 255, by decide⟩,
   ⟨State.holds (run) (hnd 5 0x63 [255]), 5, hnd 5 0x63 [255], 255, by decide⟩,
   ⟨State.holds (State.sets run [(Reg.SAD_STATUS_FB_PAIR, 0, 7), (Reg.SAD_STATUS_FB_ROLE, 0, 0)]) (hnd 5 0x63 [6]), 5, hnd 5 0x63 [6], 6, 7, by decide⟩,
   ⟨State.holds (State.sets run [(Reg.SAD_STATUS_FB_PAIR, 0, 7), (Reg.SAD_STATUS_FB_ROLE, 0, 0)]) (hnd 5 0x63 [7]), 5, hnd 5 0x63 [7], 7, by decide⟩,
   ⟨State.holds (State.sets run [(Reg.SAD_STATUS_FB_PAIR, 0, 7), (Reg.SAD_STATUS_FB_ROLE, 0, 1)]) (hnd 5 0x63 [255]), 5, hnd 5 0x63 [255], 255, 7, by decide⟩,
   ⟨State.holds (State.sets run [(Reg.SAD_STATUS_FB_PAIR, 0, 7), (Reg.SAD_STATUS_FB_ROLE, 0, 0)]) (hnd 5 0x63 [255]), 5, hnd 5 0x63 [255], 255, 7, by decide⟩,
   ⟨State.holds (State.sets run [(Reg.SAD_STATUS_FB_PAIR, 0, 7), (Reg.SAD_STATUS_FB_ROLE, 0, 1)]) (hnd 5 0x63 [7]), 5, hnd 5 0x63 [7], 7, by decide⟩,
   ⟨State.holds (State.slow (State.sets run [(Reg.SAD_STATUS_FB_PAIR, 0, 7), (Reg.SAD_STATUS_FB_ROLE, 0, 0)]) (fun a => { a with role := 1 })) (hnd 5 0x63 [7]), 5, hnd 5 0x63 [7], 7, by decide⟩⟩

/-- Meets the hypotheses of `Obligations.SadEvents`. -/
theorem witness_SadEvents :
    (∃ (s : State) (c : Fin 9) (n : Nat) (f : BitVec 64) (v raw q : Int), s.slowUp = true ∧ s.carried c.val = some n ∧ n < 9 ∧ s.on Reg.SAD_CH_CFG_EN n = true ∧ (s.fld Reg.SAD_CH_STATUS_STATE n = sadSettling ∨ s.fld Reg.SAD_CH_STATUS_STATE n = sadConverting) ∧ (s.sad.cal.any (fun k => k.2.1 == c.val) = false) ∧ s.sad.fb = none ∧ s.sadBlanked n = false ∧ (s.sadCh n).startAt ≤ f.toNat ∧ f.toNat ≤ s.now ∧ raw = shrRne ((v - s.fldS Reg.SAD_CAL_OFS c.val) * s.fld Reg.SAD_CAL_GAIN c.val) 22 ∧ q = max (-8388608) (min 8388607 raw)) ∧
    (∃ (s : State) (n : Nat), s.fld Reg.SAD_CH_CFG_KIND n = 0 ∧ s.on Reg.SAD_CH_CFG_REF n = false) ∧
    (∃ (s : State) (n : Fin 9), (s.carrier n.val).isSome = true ∧ s.on Reg.SAD_CH_CFG_EN n.val = true ∧ s.on Reg.SAD_CH_CFG_SINGLE n.val = true ∧ s.fld Reg.SAD_CH_STATUS_STATE n.val = sadIdle) ∧
    (∃ (s : State) (n : Fin 9), (s.carrier n.val).isSome = true ∧ s.on Reg.SAD_CH_CFG_EN n.val = true ∧ s.on Reg.SAD_CH_CFG_SINGLE n.val = true ∧ s.fld Reg.SAD_CH_STATUS_STATE n.val ≠ sadIdle) ∧
    (∃ (s : State) (level : Bool), s.on Reg.SAD_STATUS_BLANK = level) ∧
    (∃ (s : State) (level : Bool), s.slowUp = true ∧ s.on Reg.SAD_STATUS_BLANK = !level) ∧
    (∃ (s : State) (p : Pause), s.slowUp = true ∧ s.on Reg.SAD_STATUS_BLANK = true ∧ s.sad.pauses.head? = some p ∧ p.stuck = none ∧ s.now ≤ p.start + max 1 (s.fld Reg.SAD_CTL) * 1000000) ∧
    (∃ (s : State) (p : Pause), s.slowUp = true ∧ s.on Reg.SAD_STATUS_BLANK = true ∧ s.sad.pauses.head? = some p ∧ p.stuck = none ∧ p.start + max 1 (s.fld Reg.SAD_CTL) * 1000000 < s.now) ∧
    (∃ (s : State) (h : Option Nat) (c p : Nat), s.sad.fb = some (h, c, p) ∧ c < 9 ∧ s.slowUp = true ∧ (s.fld Reg.SAD_STATUS_FB_PHASE = 1 ∨ s.fld Reg.SAD_STATUS_FB_PHASE = 2) ∧ s.timerDue .discharge 20200 = false) ∧
    (∃ (s : State) (h : Option Nat) (c p : Nat), s.sad.fb = some (h, c, p) ∧ c < 9 ∧ s.slowUp = true ∧ (s.fld Reg.SAD_STATUS_FB_PHASE = 1 ∨ s.fld Reg.SAD_STATUS_FB_PHASE = 2) ∧ s.timerDue .discharge 20200 = true) ∧
    (∃ (s : State) (h : Option Nat) (k m : Nat) (ofs gain : BitVec 24) (good : Bool), s.sad.cal = some (h, k, m) ∧ k < 9 ∧ s.slowUp = true ∧ good = decide (ofs.toInt.natAbs ≤ 2 ^ 20 ∧ 95 * 2 ^ 22 ≤ 100 * gain.toNat ∧ 100 * gain.toNat ≤ 105 * 2 ^ 22) ∧ s.timerDue .slot 4800000 = false) ∧
    (∃ (s : State) (h : Option Nat) (k m : Nat) (ofs gain : BitVec 24) (good : Bool), s.sad.cal = some (h, k, m) ∧ k < 9 ∧ s.slowUp = true ∧ good = decide (ofs.toInt.natAbs ≤ 2 ^ 20 ∧ 95 * 2 ^ 22 ≤ 100 * gain.toNat ∧ 100 * gain.toNat ≤ 105 * 2 ^ 22) ∧ s.timerDue .slot 4800000 = true ∧ s.sad.waits = [] ∧ k < 8) ∧
    (∃ (s : State), ∃ (h : Option Nat), ∃ (k m : Nat), ∃ (ofs gain : BitVec 24), ∃ (good : Bool), ∃ i m', s.sad.cal = some (h, k, m) ∧ k < 9 ∧ s.slowUp = true ∧ good = decide (ofs.toInt.natAbs ≤ 2 ^ 20 ∧ 95 * 2 ^ 22 ≤ 100 * gain.toNat ∧ 100 * gain.toNat ≤ 105 * 2 ^ 22) ∧ s.timerDue .slot 4800000 = true ∧ s.sad.waits = [] ∧ k = 8 ∧ h = some i ∧ m' = m + (if good then 2 ^ 8 else 0)) :=
  ⟨⟨State.sets run [(Reg.SAD_CH_CFG_EN, 7, 1), (Reg.SAD_CH_STATUS_STATE, 7, sadConverting)], 7, 7, 0, 8388608, _, _, by refine ⟨by decide, by decide, by decide, by decide, by decide, by decide, by decide, by decide, by decide, by decide, rfl, rfl⟩⟩,
   ⟨run, 7, by decide⟩,
   ⟨State.sets run [(Reg.SAD_CH_CFG_EN, 7, 1), (Reg.SAD_CH_CFG_SINGLE, 7, 1), (Reg.SAD_CH_STATUS_STATE, 7, sadIdle)], 7, by decide⟩,
   ⟨State.sets run [(Reg.SAD_CH_CFG_EN, 7, 1), (Reg.SAD_CH_CFG_SINGLE, 7, 1), (Reg.SAD_CH_STATUS_STATE, 7, sadSettling)], 7, by decide⟩,
   ⟨run, false, by decide⟩,
   ⟨run, true, by decide⟩,
   ⟨State.slow (State.sets run [(Reg.SAD_STATUS_BLANK, 0, 1)]) (fun a => { a with pauses := [⟨0, none, none⟩] }), ⟨0, none, none⟩, by decide⟩,
   ⟨State.time (State.slow (State.sets run [(Reg.SAD_STATUS_BLANK, 0, 1)]) (fun a => { a with pauses := [⟨0, none, none⟩] })) (max 1 (run.fld Reg.SAD_CTL) * 1000000 + 1), ⟨0, none, none⟩, by decide⟩,
   ⟨{ State.slow (State.sets run [(Reg.SAD_STATUS_FB_PHASE, 0, 2)]) (fun a => { a with fb := some (none, 8, 7) }) with timers := [(.discharge, 0)], tick := 20199 }, none, 8, 7, by decide⟩,
   ⟨State.slow (State.sets run [(Reg.SAD_STATUS_FB_PHASE, 0, 2)]) (fun a => { a with fb := some (none, 8, 7) }), none, 8, 7, by decide⟩,
   ⟨{ State.slow run (fun a => { a with cal := some (some 9, 7, 0) }) with timers := [(.slot, 0)], tick := 4799999 }, some 9, 7, 0, 0x100000, 4404019, true, by decide⟩,
   ⟨State.slow run (fun a => { a with cal := some (some 9, 7, 0) }), some 9, 7, 0, 0x100000, 4404019, true, by decide⟩,
   ⟨State.slow run (fun a => { a with cal := some (some 9, 8, 0) }), some 9, 8, 0, 0x100000, 4404019, true, 9, 256, by decide⟩⟩

/-- Meets the hypotheses of `Obligations.SourceCommands`. -/
theorem witness_SourceCommands :
    (∃ (s : State) (h : Fin 256) (x : Handle) (n : Nat), s.cmd? h.val 0xB0 = some x ∧ x.p 0 = n ∧ 3 < n) ∧
    (∃ (s : State) (h : Fin 256) (d : CmdData) (bs : List Byte) (x : Handle) (n k : Nat), s.cmd? h.val 0xB0 = some x ∧ x.p 0 = n ∧ n ≤ 3 ∧ s.dataOf x d = some (k, bs) ∧ k ≠ 40) ∧
    (∃ (s : State), ∃ (h : Fin 256), ∃ (d : CmdData), ∃ (bs : List Byte), ∃ (x : Handle), ∃ (n k : Nat), ∃ o, s.cmd? h.val 0xB0 = some x ∧ x.p 0 = n ∧ n ≤ 3 ∧ s.dataOf x d = some (k, bs) ∧ k = 40 ∧ binBad bs = some o) ∧
    (∃ (s : State) (h : Fin 256) (d : CmdData) (bs : List Byte) (x : Handle) (n k : Nat), s.cmd? h.val 0xB0 = some x ∧ x.p 0 = n ∧ n ≤ 3 ∧ s.dataOf x d = some (k, bs) ∧ k = 40 ∧ binBad bs = none ∧ s.fld Reg.SRC_PUMP_STATUS_STATE n ≠ pumpOff) ∧
    (∃ (s : State) (h : Fin 256) (d : CmdData) (bs : List Byte) (x : Handle) (n k : Nat), s.cmd? h.val 0xB0 = some x ∧ x.p 0 = n ∧ n ≤ 3 ∧ s.dataOf x d = some (k, bs) ∧ k = 40 ∧ binBad bs = none ∧ s.fld Reg.SRC_PUMP_STATUS_STATE n = pumpOff) ∧
    (∃ (n : Fin 4) (k : Fin 4), k ≠ n) ∧
    (∃ (s : State) (n : Fin 4) (bs : List Byte), s.fld Reg.SRC_PUMP_MEAS n.val ≤ field bs 8 4) ∧
    (∃ (bs : List Byte) (T lo hi : Dbl), T = (Dbl.ofInt 25).add ((Dbl.ofInt ((field bs 24 4 : Int) - field bs 16 4)).div (.ofRat (field bs 20 4) 100)) ∧ lo = Dbl.ofRat (sx 16 (field bs 36 2)) 100 ∧ hi = Dbl.ofRat (sx 16 (field bs 38 2)) 100 ∧ lo.le T = true ∧ T.le hi = true) ∧
    (∃ (bs : List Byte) (T lo hi : Dbl), T = (Dbl.ofInt 25).add ((Dbl.ofInt ((field bs 24 4 : Int) - field bs 16 4)).div (.ofRat (field bs 20 4) 100)) ∧ lo = Dbl.ofRat (sx 16 (field bs 36 2)) 100 ∧ hi = Dbl.ofRat (sx 16 (field bs 38 2)) 100 ∧ lo.le T = false) ∧
    (∃ (bs : List Byte) (T lo hi : Dbl), T = (Dbl.ofInt 25).add ((Dbl.ofInt ((field bs 24 4 : Int) - field bs 16 4)).div (.ofRat (field bs 20 4) 100)) ∧ lo = Dbl.ofRat (sx 16 (field bs 36 2)) 100 ∧ hi = Dbl.ofRat (sx 16 (field bs 38 2)) 100 ∧ lo.le T = true ∧ T.le hi = false) ∧
    (∃ (s : State) (h : Fin 256) (x : Handle) (n i r : Nat), s.cmd? h.val 0xB1 = some x ∧ x.p 0 = n ∧ x.p 1 = i ∧ x.p 2 = r ∧ 3 < n) ∧
    (∃ (s : State) (h : Fin 256) (x : Handle) (n i r : Nat), s.cmd? h.val 0xB1 = some x ∧ x.p 0 = n ∧ x.p 1 = i ∧ x.p 2 = r ∧ n ≤ 3 ∧ (s.pump n).record = none ∧ r ≤ 1000000) ∧
    (∃ (s : State) (h : Fin 256) (x : Handle) (n i r : Nat), s.cmd? h.val 0xB1 = some x ∧ x.p 0 = n ∧ x.p 1 = i ∧ x.p 2 = r ∧ n ≤ 3 ∧ (s.pump n).record = none ∧ 1000000 < r) ∧
    (∃ (s : State), ∃ (h : Fin 256), ∃ (x : Handle), ∃ (n i r : Nat), ∃ q, s.cmd? h.val 0xB1 = some x ∧ x.p 0 = n ∧ x.p 1 = i ∧ x.p 2 = r ∧ n ≤ 3 ∧ (s.pump n).record = some q ∧ q.imax < i) ∧
    (∃ (s : State), ∃ (h : Fin 256), ∃ (x : Handle), ∃ (n i r : Nat), ∃ q, s.cmd? h.val 0xB1 = some x ∧ x.p 0 = n ∧ x.p 1 = i ∧ x.p 2 = r ∧ n ≤ 3 ∧ (s.pump n).record = some q ∧ i ≤ q.imax ∧ 1000000 < r) ∧
    (∃ (s : State), ∃ (h : Fin 256), ∃ (x : Handle), ∃ (n i r : Nat), ∃ q, s.cmd? h.val 0xB1 = some x ∧ x.p 0 = n ∧ x.p 1 = i ∧ x.p 2 = r ∧ n ≤ 3 ∧ (s.pump n).record = some q ∧ i ≤ q.imax ∧ r ≤ 1000000 ∧ s.fld Reg.SRC_PUMP_STATUS_STATE n = pumpLatched) ∧
    (∃ (s : State), ∃ (h : Fin 256), ∃ (x : Handle), ∃ (n i r : Nat), ∃ q, s.cmd? h.val 0xB1 = some x ∧ x.p 0 = n ∧ x.p 1 = i ∧ x.p 2 = r ∧ n ≤ 3 ∧ (s.pump n).record = some q ∧ i ≤ q.imax ∧ r ≤ 1000000 ∧ s.fld Reg.SRC_PUMP_STATUS_STATE n = pumpHold ∧ s.fld Reg.SRC_PUMP_TARGET n = i) ∧
    (∃ (s : State), ∃ (h : Fin 256), ∃ (x : Handle), ∃ (n i r : Nat), ∃ q, s.cmd? h.val 0xB1 = some x ∧ x.p 0 = n ∧ x.p 1 = i ∧ x.p 2 = r ∧ n ≤ 3 ∧ (s.pump n).record = some q ∧ i ≤ q.imax ∧ i < 2 ^ 24 ∧ r ≤ 1000000 ∧ s.fld Reg.SRC_PUMP_STATUS_STATE n ≠ pumpLatched ∧ ¬ (s.fld Reg.SRC_PUMP_STATUS_STATE n = pumpHold ∧ s.fld Reg.SRC_PUMP_TARGET n = i)) ∧
    (∃ (s : State) (h : Fin 256) (x : Handle) (m : Nat), s.cmd? h.val 0xB2 = some x ∧ x.p 0 = m ∧ 15 < m) ∧
    (∃ (s : State) (h : Fin 256) (x : Handle) (m : Nat), s.cmd? h.val 0xB2 = some x ∧ x.p 0 = m ∧ m ≤ 15 ∧ (∀ n, n < 4 → m.testBit n = true → s.fld Reg.SRC_PUMP_STATUS_STATE n = pumpOff ∨ s.fld Reg.SRC_PUMP_STATUS_STATE n = pumpLatched)) ∧
    (∃ (s : State), ∃ (h : Fin 256), ∃ (x : Handle), ∃ (m : Nat), ∃ n, s.cmd? h.val 0xB2 = some x ∧ x.p 0 = m ∧ m ≤ 15 ∧ n < 4 ∧ m.testBit n = true ∧ s.fld Reg.SRC_PUMP_STATUS_STATE n ≠ pumpOff ∧ s.fld Reg.SRC_PUMP_STATUS_STATE n ≠ pumpLatched) ∧
    (∃ (s : State) (h : Fin 256) (x : Handle) (m : Nat), s.cmd? h.val 0xB3 = some x ∧ x.p 0 = m ∧ 63 < m) ∧
    (∃ (s : State) (h : Fin 256) (x : Handle) (m : Nat) (hit : List Nat), s.cmd? h.val 0xB3 = some x ∧ x.p 0 = m ∧ m ≤ 63 ∧ (hit = (List.range 6).filter (fun c => m.testBit c && s.src.codes.getD c 0 != 0 && !s.src.thermal))) ∧
    (∃ (c : Fin 6), c.val < 4) ∧
    (∃ (c : Fin 6), 4 ≤ c.val) :=
  ⟨⟨State.holds (run) (hnd 5 0xB0 [4]), 5, hnd 5 0xB0 [4], 4, by decide⟩,
   ⟨State.holds (run) (buf 0xB0 [3] 39), 5, data (zeros 39), (zeros 39), buf 0xB0 [3] 39, 3, 39, by decide⟩,
   ⟨State.holds (run) (buf 0xB0 [3] 40), 5, data (zeros 40), (zeros 40), buf 0xB0 [3] 40, 3, 40, 0, by decide⟩,
   ⟨State.holds (State.sets (pump3 id) [(Reg.SRC_PUMP_STATUS_STATE, 3, pumpHold)]) (buf 0xB0 [3] 40), 5, data binRec, binRec, buf 0xB0 [3] 40, 3, 40, by decide⟩,
   ⟨State.holds (run) (buf 0xB0 [3] 40), 5, data binRec, binRec, buf 0xB0 [3] 40, 3, 40, by decide⟩,
   ⟨3, 0, by decide⟩,
   ⟨run, 3, binRec, by decide⟩,
   ⟨binTec 0 2500 2501, _, _, _, by refine ⟨rfl, rfl, rfl, ?_, ?_⟩ <;> decide⟩,
   ⟨binTec 0 2501 2502, _, _, _, by refine ⟨rfl, rfl, rfl, ?_⟩ <;> decide⟩,
   ⟨binTec 10 2500 2501, _, _, _, by refine ⟨rfl, rfl, rfl, ?_, ?_⟩ <;> decide⟩,
   ⟨State.holds (run) (hnd 5 0xB1 [4, 0, 0]), 5, hnd 5 0xB1 [4, 0, 0], 4, 0, 0, by decide⟩,
   ⟨State.holds (run) (hnd 5 0xB1 [3, 0, 1000000]), 5, hnd 5 0xB1 [3, 0, 1000000], 3, 0, 1000000, by decide⟩,
   ⟨State.holds (run) (hnd 5 0xB1 [3, 0, 1000001]), 5, hnd 5 0xB1 [3, 0, 1000001], 3, 0, 1000001, by decide⟩,
   ⟨State.holds (pump3 id) (hnd 5 0xB1 [3, 2001, 0]), 5, hnd 5 0xB1 [3, 2001, 0], 3, 2001, 0, ⟨2000, 1, 2000, 20000⟩, by decide⟩,
   ⟨State.holds (pump3 id) (hnd 5 0xB1 [3, 2000, 1000001]), 5, hnd 5 0xB1 [3, 2000, 1000001], 3, 2000, 1000001, ⟨2000, 1, 2000, 20000⟩, by decide⟩,
   ⟨State.holds (State.sets (pump3 id) [(Reg.SRC_PUMP_STATUS_STATE, 3, pumpLatched)]) (hnd 5 0xB1 [3, 2000, 1000000]), 5, hnd 5 0xB1 [3, 2000, 1000000], 3, 2000, 1000000, ⟨2000, 1, 2000, 20000⟩, by decide⟩,
   ⟨State.holds (State.sets (pump3 id) [(Reg.SRC_PUMP_STATUS_STATE, 3, pumpHold), (Reg.SRC_PUMP_TARGET, 3, 2000)]) (hnd 5 0xB1 [3, 2000, 1000000]), 5, hnd 5 0xB1 [3, 2000, 1000000], 3, 2000, 1000000, ⟨2000, 1, 2000, 20000⟩, by decide⟩,
   ⟨State.holds (pump3 id) (hnd 5 0xB1 [3, 2000, 1000000]), 5, hnd 5 0xB1 [3, 2000, 1000000], 3, 2000, 1000000, ⟨2000, 1, 2000, 20000⟩, by decide⟩,
   ⟨State.holds (run) (hnd 5 0xB2 [16]), 5, hnd 5 0xB2 [16], 16, by decide⟩,
   ⟨State.holds (run) (hnd 5 0xB2 [15]), 5, hnd 5 0xB2 [15], 15, by decide⟩,
   ⟨State.holds (State.sets (pump3 id) [(Reg.SRC_PUMP_STATUS_STATE, 3, pumpHold)]) (hnd 5 0xB2 [15]), 5, hnd 5 0xB2 [15], 15, 3, by decide⟩,
   ⟨State.holds (run) (hnd 5 0xB3 [64]), 5, hnd 5 0xB3 [64], 64, by decide⟩,
   ⟨State.holds (State.source run (fun a => { a with codes := a.codes.set 5 0x25 })) (hnd 5 0xB3 [63]), 5, hnd 5 0xB3 [63], 63, [5], by decide⟩,
   ⟨3, by decide⟩,
   ⟨5, by decide⟩⟩

/-- Meets the hypotheses of `Obligations.SourceEvents`. -/
theorem witness_SourceEvents :
    (∃ (s : State) (n : Fin 4) (T : Nat), s.pumpDue n.val = true ∧ s.fld Reg.SRC_PUMP_STATUS_STATE n.val ≠ pumpOff ∧ s.fld Reg.SRC_PUMP_STATUS_STATE n.val ≠ pumpLatched ∧ T = 500 * s.fld Reg.SRC_PUMP_TARGET n.val) ∧
    (∃ (s : State) (n : Fin 4), s.pumpDue n.val = false) ∧
    (∃ (s : State) (n : Fin 4), s.pumpDue n.val = true ∧ s.fld Reg.SRC_PUMP_STATUS_STATE n.val = pumpOff) ∧
    (∃ (s : State), ∃ (n : Fin 4), ∃ h, (s.fld Reg.SRC_PUMP_STATUS_STATE n.val = pumpUp ∨ s.fld Reg.SRC_PUMP_STATUS_STATE n.val = pumpDown) ∧ (s.pump n.val).ramp = 500 * s.fld Reg.SRC_PUMP_TARGET n.val ∧ (s.pump n.val).toOff = false ∧ (s.pump n.val).handle = some h) ∧
    (∃ (s : State) (n : Fin 4), (s.fld Reg.SRC_PUMP_STATUS_STATE n.val = pumpUp ∨ s.fld Reg.SRC_PUMP_STATUS_STATE n.val = pumpDown) ∧ (s.pump n.val).ramp = 500 * s.fld Reg.SRC_PUMP_TARGET n.val ∧ (s.pump n.val).toOff = true ∧ s.src.offs = []) ∧
    (∃ (s : State) (n : Fin 4), (s.pump n.val).open_ < 25 ∧ (s.pump n.val).short < 25 ∧ (s.pump n.val).excess < 25) ∧
    (∃ (s : State) (n : Fin 4), s.src.codes.getD n.val 0 = 0 ∧ 25 ≤ (s.pump n.val).open_) ∧
    (∃ (s : State) (g : Fin 2), s.fieldUp = true ∧ s.gateOpen g.val = false ∧ (s.src.gates[g].stop = 0 ∨ s.src.gates[g].stop + 16 ≤ s.tick)) ∧
    (∃ (s : State) (g : Fin 2), s.fieldUp = true ∧ s.gateOpen g.val = true ∧ s.on Reg.SRC_GATE_CFG g.val = true ∧ s.src.gates[g].start + 40 ≤ s.src.gates[g].stop ∧ s.src.gates[g].start + 20 ≤ s.tick) ∧
    (∃ (s : State) (g : Fin 2), (s.fieldUp = false ∨ s.timerDue (.verdict g.val) (s.verdictTicks g.val) = false)) ∧
    (∃ (s : State) (g : Fin 2), s.fieldUp = true ∧ s.timerDue (.verdict g.val) (s.verdictTicks g.val) = true ∧ 2 * s.src.gates[g].opens ≤ s.src.gates[g].total ∧ 2 * s.src.gates[g].shorts ≤ s.src.gates[g].total) ∧
    (∃ (s : State) (g : Fin 2), s.fieldUp = true ∧ s.timerDue (.verdict g.val) (s.verdictTicks g.val) = true ∧ s.src.gates[g].total < 2 * s.src.gates[g].opens ∧ s.src.gates[g].verdict ≠ 1) ∧
    (∃ (s : State) (g : Fin 2), s.fieldUp = true ∧ s.timerDue (.verdict g.val) (s.verdictTicks g.val) = true ∧ s.src.gates[g].total < 2 * s.src.gates[g].opens ∧ s.src.gates[g].verdict = 1 ∧ s.src.codes.getD (4 + g.val) 0 = 0) :=
  ⟨⟨{ State.sets (pump3 id) [(Reg.SRC_PUMP_STATUS_STATE, 3, pumpHold)] with tick := 300 }, 3, _, by refine ⟨by decide, by decide, by decide, rfl⟩⟩,
   ⟨run, 3, by decide⟩,
   ⟨{ State.sets (pump3 id) [(Reg.SRC_PUMP_STATUS_STATE, 3, pumpOff)] with tick := 300 }, 3, by decide⟩,
   ⟨State.sets (pump3 (fun p => { p with ramp := 500, handle := some 9 })) [(Reg.SRC_PUMP_STATUS_STATE, 3, pumpUp), (Reg.SRC_PUMP_TARGET, 3, 1)], 3, 9, by decide⟩,
   ⟨State.sets (pump3 (fun p => { p with toOff := true })) [(Reg.SRC_PUMP_STATUS_STATE, 3, pumpDown)], 3, by decide⟩,
   ⟨pump3 (fun p => { p with open_ := 24, short := 24, excess := 24 }), 3, by decide⟩,
   ⟨pump3 (fun p => { p with open_ := 25 }), 3, by decide⟩,
   ⟨State.source { run with tick := 20 } (fun a => { a with gates := a.gates.set 1 { Gate.reset with start := 1, stop := 4 } }), 1, by decide⟩,
   ⟨State.source { State.sets run [(Reg.SRC_GATE_CFG, 1, 1)] with tick := 20 } (fun a => { a with gates := a.gates.set 1 { Gate.reset with start := 0, stop := 40 } }), 1, by decide⟩,
   ⟨{ run with timers := [(.verdict 1, 0)], tick := 199999 }, 1, by decide⟩,
   ⟨State.source run (fun a => { a with gates := a.gates.set 1 { Gate.reset with total := 2, opens := 1, shorts := 1, verdict := 0 } }), 1, by decide⟩,
   ⟨State.source run (fun a => { a with gates := a.gates.set 1 { Gate.reset with total := 1, opens := 1, shorts := 0, verdict := 0 } }), 1, by decide⟩,
   ⟨State.source run (fun a => { a with gates := a.gates.set 1 { Gate.reset with total := 1, opens := 1, shorts := 0, verdict := 1 } }), 1, by decide⟩⟩

/-- Meets the hypotheses of `Obligations.TimingCalibration`. -/
theorem witness_TimingCalibration :
    (∃ (s : State) (h : Fin 256) (x : Handle) (i m p : Nat), s.cmd? h.val 0xC0 = some x ∧ x.p 0 = i ∧ x.p 1 = m ∧ x.p 2 = p ∧ 7 < i) ∧
    (∃ (s : State) (h : Fin 256) (x : Handle) (i m p : Nat), s.cmd? h.val 0xC0 = some x ∧ x.p 0 = i ∧ x.p 1 = m ∧ x.p 2 = p ∧ i ≤ 7 ∧ (m % 4 = 3 ∨ m / 4 % 4 = 3 ∨ (m / 16 % 2 = 1 ∧ m % 4 ≠ 2) ∨ 32 ≤ m)) ∧
    (∃ (s : State) (h : Fin 256) (x : Handle) (i m p : Nat), s.cmd? h.val 0xC0 = some x ∧ x.p 0 = i ∧ x.p 1 = m ∧ x.p 2 = p ∧ i ≤ 7 ∧ m % 4 ≠ 3 ∧ m / 4 % 4 ≠ 3 ∧ (m / 16 % 2 = 1 → m % 4 = 2) ∧ m < 32 ∧ 8 < p) ∧
    (∃ (s : State) (h : Fin 256) (x : Handle) (i m p : Nat), s.cmd? h.val 0xC0 = some x ∧ x.p 0 = i ∧ x.p 1 = m ∧ x.p 2 = p ∧ i ≤ 7 ∧ m % 4 ≠ 3 ∧ m / 4 % 4 ≠ 3 ∧ (m / 16 % 2 = 1 → m % 4 = 2) ∧ m < 32 ∧ p ≤ 8 ∧ s.tiCalibrating i = true) ∧
    (∃ (s : State) (h : Fin 256) (x : Handle) (i m p : Nat), s.cmd? h.val 0xC0 = some x ∧ x.p 0 = i ∧ x.p 1 = m ∧ x.p 2 = p ∧ i ≤ 7 ∧ m % 4 ≠ 3 ∧ m / 4 % 4 ≠ 3 ∧ (m / 16 % 2 = 1 → m % 4 = 2) ∧ m < 32 ∧ p ≤ 8 ∧ s.tiCalibrating i = false ∧ s.feedsSection i = true) ∧
    (∃ (s : State) (h : Fin 256) (x : Handle) (i m p : Nat) (v : State), s.cmd? h.val 0xC0 = some x ∧ x.p 0 = i ∧ x.p 1 = m ∧ x.p 2 = p ∧ i ≤ 7 ∧ m % 4 ≠ 3 ∧ m / 4 % 4 ≠ 3 ∧ (m / 16 % 2 = 1 → m % 4 = 2) ∧ m < 32 ∧ p ≤ 8 ∧ s.tiCalibrating i = false ∧ s.feedsSection i = false ∧ v = (((s.setF Reg.TIU_IN_CFG_ELEC (m % 4) i).setF Reg.TIU_IN_CFG_EDGE (m / 4 % 4) i).setF Reg.TIU_IN_CFG_FILTER (m / 16 % 2) i).setF Reg.TIU_IN_CFG_P p i ∧ (2 ≤ i ∨ (s.fld Reg.TIU_IN_CFG_ELEC i = m % 4 ∧ s.fld Reg.TIU_IN_CFG_EDGE i = m / 4 % 4 ∧ s.fld Reg.TIU_IN_CFG_FILTER i = m / 16 % 2 ∧ s.fld Reg.TIU_IN_CFG_P i = p))) ∧
    (∃ (s : State) (h : Fin 256) (x : Handle) (i m p : Nat) (v : State), s.cmd? h.val 0xC0 = some x ∧ x.p 0 = i ∧ x.p 1 = m ∧ x.p 2 = p ∧ i ≤ 7 ∧ m % 4 ≠ 3 ∧ m / 4 % 4 ≠ 3 ∧ (m / 16 % 2 = 1 → m % 4 = 2) ∧ m < 32 ∧ p ≤ 8 ∧ s.tiCalibrating i = false ∧ s.feedsSection i = false ∧ v = (((s.setF Reg.TIU_IN_CFG_ELEC (m % 4) i).setF Reg.TIU_IN_CFG_EDGE (m / 4 % 4) i).setF Reg.TIU_IN_CFG_FILTER (m / 16 % 2) i).setF Reg.TIU_IN_CFG_P p i ∧ i < 2 ∧ (s.fld Reg.TIU_IN_CFG_ELEC i ≠ m % 4 ∨ s.fld Reg.TIU_IN_CFG_EDGE i ≠ m / 4 % 4 ∨ s.fld Reg.TIU_IN_CFG_FILTER i ≠ m / 16 % 2 ∨ s.fld Reg.TIU_IN_CFG_P i ≠ p)) ∧
    (∃ (s : State) (h : Fin 256) (x : Handle) (m : Nat), s.cmd? h.val 0xC1 = some x ∧ x.p 0 = m ∧ (m = 0 ∨ 255 < m)) ∧
    (∃ (s : State), ∃ (h : Fin 256), ∃ (x : Handle), ∃ (m : Nat), ∃ i, s.cmd? h.val 0xC1 = some x ∧ x.p 0 = m ∧ m ≤ 255 ∧ i < 8 ∧ m.testBit i = true ∧ s.feedsSection i = true) ∧
    (∃ (s : State) (h : Fin 256) (x : Handle) (m : Nat), s.cmd? h.val 0xC1 = some x ∧ x.p 0 = m ∧ m ≠ 0 ∧ m ≤ 255 ∧ (∀ i, i < 8 → m.testBit i = true → s.feedsSection i = false) ∧ s.tiu.cal.isSome = true) ∧
    (∃ (s : State), ∃ (h : Fin 256), ∃ (x : Handle), ∃ (m : Nat), ∃ i, s.cmd? h.val 0xC1 = some x ∧ x.p 0 = m ∧ m ≠ 0 ∧ m ≤ 255 ∧ (∀ i, i < 8 → m.testBit i = true → s.feedsSection i = false) ∧ s.tiu.cal = none ∧ i < 8 ∧ m.testBit i = true ∧ (∀ j, j < i → m.testBit j = false)) ∧
    (∃ (n : List Nat) (k : Nat), k < 128 ∧ (8 * ((codeWidths n).getD k 0 : Int) - n.getD k 0).natAbs = 4) ∧
    (∃ (s : State), (s.tiu.cal = none ∨ s.timerDue .density 63000000 = false ∨ s.runs 7 = false)) ∧
    (∃ (n : List Nat), 512 < (maxDnl (codeWidths n))) ∧
    (∃ (i : Fin 8) (j : Fin 8), j ≠ i) ∧
    (∃ (s : State), ∃ (c : TiuCal), ∃ (n : List Nat), ∃ (d : Nat), ∃ (v : State), ∃ i l, s.tiu.cal = some c ∧ c.input < 8 ∧ s.runs 7 = true ∧ s.timerDue .density 63000000 = true ∧ d = maxDnl (codeWidths n) ∧ v = s.densityPut c.input n ∧ c.left = i :: l ∧ i < 8) ∧
    (∃ (s : State), ∃ (c : TiuCal), ∃ (n : List Nat), ∃ (d : Nat), ∃ (v : State), ∃ h, s.tiu.cal = some c ∧ c.input < 8 ∧ s.runs 7 = true ∧ s.timerDue .density 63000000 = true ∧ d = maxDnl (codeWidths n) ∧ v = s.densityPut c.input n ∧ c.left = [] ∧ c.handle = some h) :=
  ⟨⟨State.holds (run) (hnd 5 0xC0 [8, 0, 0]), 5, hnd 5 0xC0 [8, 0, 0], 8, 0, 0, by decide +kernel⟩,
   ⟨State.holds (run) (hnd 5 0xC0 [7, 32, 0]), 5, hnd 5 0xC0 [7, 32, 0], 7, 32, 0, by decide +kernel⟩,
   ⟨State.holds (run) (hnd 5 0xC0 [7, 26, 9]), 5, hnd 5 0xC0 [7, 26, 9], 7, 26, 9, by decide +kernel⟩,
   ⟨State.holds (State.timing run (fun a => { a with cal := some ⟨some 9, [], 7, 0, false⟩ })) (hnd 5 0xC0 [7, 26, 8]), 5, hnd 5 0xC0 [7, 26, 8], 7, 26, 8, by decide +kernel⟩,
   ⟨State.holds (skates) (hnd 5 0xC0 [2, 26, 8]), 5, hnd 5 0xC0 [2, 26, 8], 2, 26, 8, by decide +kernel⟩,
   ⟨State.holds (run) (hnd 5 0xC0 [7, 26, 8]), 5, hnd 5 0xC0 [7, 26, 8], 7, 26, 8, _, by refine ⟨by decide, by decide, by decide, by decide, by decide, by decide, by decide, by decide, by decide, by decide, by decide, by decide +kernel, rfl, ?_⟩; decide⟩,
   ⟨State.holds (run) (hnd 5 0xC0 [1, 26, 8]), 5, hnd 5 0xC0 [1, 26, 8], 1, 26, 8, _, by refine ⟨by decide, by decide, by decide, by decide, by decide, by decide, by decide, by decide, by decide, by decide, by decide, by decide +kernel, rfl, ?_⟩; decide⟩,
   ⟨State.holds (run) (hnd 5 0xC1 [256]), 5, hnd 5 0xC1 [256], 256, by decide +kernel⟩,
   ⟨State.holds (skates) (hnd 5 0xC1 [255]), 5, hnd 5 0xC1 [255], 255, 2, by decide +kernel⟩,
   ⟨State.holds (State.timing run (fun a => { a with cal := some ⟨some 9, [], 7, 0, false⟩ })) (hnd 5 0xC1 [255]), 5, hnd 5 0xC1 [255], 255, by decide +kernel⟩,
   ⟨State.holds (run) (hnd 5 0xC1 [128]), 5, hnd 5 0xC1 [128], 128, 7, by decide +kernel⟩,
   ⟨[4], 0, by decide +kernel⟩,
   ⟨run, by decide +kernel⟩,
   ⟨[], by decide +kernel⟩,
   ⟨0, 1, by decide +kernel⟩,
   ⟨State.timing run (fun a => { a with cal := some ⟨some 9, [7], 0, 0, false⟩ }), ⟨some 9, [7], 0, 0, false⟩, [8], _, State.densityPut (State.timing run (fun a => { a with cal := some ⟨some 9, [7], 0, 0, false⟩ })) 0 [8], 7, [], by refine ⟨by decide, by decide, by decide, by decide, rfl, rfl, ?_⟩; decide⟩,
   ⟨State.timing run (fun a => { a with cal := some ⟨some 9, [], 7, 0, false⟩ }), ⟨some 9, [], 7, 0, false⟩, [8], _, State.densityPut (State.timing run (fun a => { a with cal := some ⟨some 9, [], 7, 0, false⟩ })) 7 [8], 9, by refine ⟨by decide, by decide, by decide, by decide, rfl, rfl, ?_⟩; decide⟩⟩

/-- Meets the hypotheses of `Obligations.SkateCommands`. -/
theorem witness_SkateCommands :
    (∃ (s : State) (h : Fin 256) (c : Handle) (k : Nat), s.cmd? h.val 0xC2 = some c ∧ c.p 0 = k ∧ 3 < k) ∧
    (∃ (s : State) (h : Fin 256) (d : CmdData) (bs : List Byte) (c : Handle) (k n : Nat) (x : SkSec) (v : State), s.cmd? h.val 0xC2 = some c ∧ c.p 0 = k ∧ k ≤ 3 ∧ s.dataOf c d = some (n, bs) ∧ x = parseSec bs (some h.val) ∧ v = s.dataRead c d ∧ n ≠ 40) ∧
    (∃ (s : State), ∃ (h : Fin 256), ∃ (d : CmdData), ∃ (bs : List Byte), ∃ (c : Handle), ∃ (k n : Nat), ∃ (x : SkSec), ∃ (v : State), ∃ o, s.cmd? h.val 0xC2 = some c ∧ c.p 0 = k ∧ k ≤ 3 ∧ s.dataOf c d = some (n, bs) ∧ x = parseSec bs (some h.val) ∧ v = s.dataRead c d ∧ n = 40 ∧ secBad bs (if s.acqRuns then s.fld Reg.RED_E_STATUS else 16384) = some o) ∧
    (∃ (s : State) (h : Fin 256) (d : CmdData) (bs : List Byte) (c : Handle) (k n : Nat) (x : SkSec) (v : State), s.cmd? h.val 0xC2 = some c ∧ c.p 0 = k ∧ k ≤ 3 ∧ s.dataOf c d = some (n, bs) ∧ x = parseSec bs (some h.val) ∧ v = s.dataRead c d ∧ n = 40 ∧ secBad bs (if s.acqRuns then s.fld Reg.RED_E_STATUS else 16384) = none ∧ v.mapTaken k x.mapOfs = true) ∧
    (∃ (s : State), ∃ (h : Fin 256), ∃ (d : CmdData), ∃ (bs : List Byte), ∃ (c : Handle), ∃ (k n : Nat), ∃ (x : SkSec), ∃ (v : State), ∃ y, s.cmd? h.val 0xC2 = some c ∧ c.p 0 = k ∧ k ≤ 3 ∧ s.dataOf c d = some (n, bs) ∧ x = parseSec bs (some h.val) ∧ v = s.dataRead c d ∧ n = 40 ∧ secBad bs (if s.acqRuns then s.fld Reg.RED_E_STATUS else 16384) = none ∧ v.mapTaken k x.mapOfs = false ∧ s.runningSec k = some y ∧ (y.stoppers = [] ∨ (s.secWait k).isSome = true)) ∧
    (∃ (s : State), ∃ (h : Fin 256), ∃ (d : CmdData), ∃ (bs : List Byte), ∃ (c : Handle), ∃ (k n : Nat), ∃ (x : SkSec), ∃ (v : State), ∃ y, s.cmd? h.val 0xC2 = some c ∧ c.p 0 = k ∧ k ≤ 3 ∧ s.dataOf c d = some (n, bs) ∧ x = parseSec bs (some h.val) ∧ v = s.dataRead c d ∧ n = 40 ∧ secBad bs (if s.acqRuns then s.fld Reg.RED_E_STATUS else 16384) = none ∧ v.mapTaken k x.mapOfs = false ∧ s.runningSec k = some y ∧ y.stoppers ≠ [] ∧ s.secWait k = none) ∧
    (∃ (s : State) (h : Fin 256) (d : CmdData) (bs : List Byte) (c : Handle) (k n : Nat) (x : SkSec) (v : State), s.cmd? h.val 0xC2 = some c ∧ c.p 0 = k ∧ k ≤ 3 ∧ s.dataOf c d = some (n, bs) ∧ x = parseSec bs (some h.val) ∧ v = s.dataRead c d ∧ n = 40 ∧ secBad bs (if s.acqRuns then s.fld Reg.RED_E_STATUS else 16384) = none ∧ v.mapTaken k x.mapOfs = false ∧ s.runningSec k = none ∧ (s.acqRuns = false ∨ s.encOn x = false)) ∧
    (∃ (s : State) (h : Fin 256) (d : CmdData) (bs : List Byte) (c : Handle) (k n : Nat) (x : SkSec) (v : State), s.cmd? h.val 0xC2 = some c ∧ c.p 0 = k ∧ k ≤ 3 ∧ s.dataOf c d = some (n, bs) ∧ x = parseSec bs (some h.val) ∧ v = s.dataRead c d ∧ n = 40 ∧ secBad bs (if s.acqRuns then s.fld Reg.RED_E_STATUS else 16384) = none ∧ v.mapTaken k x.mapOfs = false ∧ s.runningSec k = none ∧ s.acqRuns = true ∧ s.encOn x = true ∧ s.pw.standalone = false) ∧
    (∃ (s : State) (h : Fin 256) (c : Handle), s.cmd? h.val 0xC3 = some c ∧ s.named (c.p 0) = none) ∧
    (∃ (s : State), ∃ (h : Fin 256), ∃ (c : Handle), ∃ y, s.cmd? h.val 0xC3 = some c ∧ s.named (c.p 0) = some y ∧ y.op ≠ 0xC2) ∧
    (∃ (s : State), ∃ (h : Fin 256), ∃ (c : Handle), ∃ y, s.cmd? h.val 0xC3 = some c ∧ s.named (c.p 0) = some y ∧ y.op = 0xC2 ∧ y.done = true) ∧
    (∃ (s : State), ∃ (h : Fin 256), ∃ (c : Handle), ∃ y, s.cmd? h.val 0xC3 = some c ∧ s.named (c.p 0) = some y ∧ y.op = 0xC2 ∧ y.done = false ∧ (∀ j, j < 4 → s.secWait j = none) ∧ (∀ j, j < 4 → ((s.runningSec j).any (fun x => x.handle == some y.idx)) = false)) ∧
    (∃ (s : State), ∃ (h : Fin 256), ∃ (c : Handle), ∃ y, ∃ k x, s.cmd? h.val 0xC3 = some c ∧ s.named (c.p 0) = some y ∧ y.op = 0xC2 ∧ y.done = false ∧ (∀ j, j < 4 → s.secWait j = none) ∧ k < 4 ∧ s.runningSec k = some x ∧ x.handle = some y.idx ∧ (∀ j, j < k → ((s.runningSec j).any (fun x => x.handle == some y.idx)) = false)) ∧
    (∃ (s : State), ∃ (h : Fin 256), ∃ (c : Handle), ∃ y, ∃ (k : Nat), ∃ (w : SkWait), s.cmd? h.val 0xC3 = some c ∧ s.named (c.p 0) = some y ∧ y.op = 0xC2 ∧ y.done = false ∧ k < 4 ∧ s.secWait k = some w ∧ w.handle = y.idx ∧ (∀ j, j < k → ((s.secWait j).any (fun w => w.handle == y.idx)) = false)) ∧
    (∃ (s : State) (h : Fin 256) (c : Handle) (k : Nat), s.cmd? h.val 0xC4 = some c ∧ c.p 0 = k ∧ 3 < k) ∧
    (∃ (s : State) (h : Fin 256) (c : Handle) (k : Nat), s.cmd? h.val 0xC4 = some c ∧ c.p 0 = k ∧ k ≤ 3 ∧ s.sec? k = none) ∧
    (∃ (s : State) (h : Fin 256) (d : CmdData) (c : Handle) (k : Nat) (x : SkSec) (b : Buffer) (v : State), s.cmd? h.val 0xC4 = some c ∧ c.p 0 = k ∧ k ≤ 3 ∧ s.sec? k = some x ∧ s.buffer c d = (b, v) ∧ segsLen b.1 < 147520 ∧ b.2 = .whole) ∧
    (∃ (s : State) (h : Fin 256) (d : CmdData) (c : Handle) (k : Nat) (x : SkSec) (b : Buffer) (v : State), s.cmd? h.val 0xC4 = some c ∧ c.p 0 = k ∧ k ≤ 3 ∧ s.sec? k = some x ∧ s.buffer c d = (b, v) ∧ 147520 ≤ segsLen b.1) :=
  ⟨⟨State.holds (run) (hnd 5 0xC2 [4]), 5, hnd 5 0xC2 [4], 4, by decide +kernel⟩,
   ⟨State.holds (run) (buf 0xC2 [3] 39), 5, data (zeros 39), (zeros 39), buf 0xC2 [3] 39, 3, 39, parseSec (zeros 39) (some 5), State.holds (run) (buf 0xC2 [3] 39), by refine ⟨by decide, by decide, by decide, by decide, rfl, rfl, ?_⟩; decide⟩,
   ⟨State.holds (run) (buf 0xC2 [3] 40), 5, data (zeros 40), (zeros 40), buf 0xC2 [3] 40, 3, 40, parseSec (zeros 40) (some 5), State.holds (run) (buf 0xC2 [3] 40), 0, by refine ⟨by decide, by decide, by decide, by decide, rfl, rfl, ?_⟩; decide⟩,
   ⟨State.holds (skates) (buf 0xC2 [3] 40), 5, data secRec, secRec, buf 0xC2 [3] 40, 3, 40, parseSec secRec (some 5), State.holds (skates) (buf 0xC2 [3] 40), by refine ⟨by decide, by decide, by decide, by decide, rfl, rfl, ?_⟩; decide⟩,
   ⟨State.holds (skates) (buf 0xC2 [0] 40), 5, data secRec, secRec, buf 0xC2 [0] 40, 0, 40, parseSec secRec (some 5), State.holds (skates) (buf 0xC2 [0] 40), sec 9, by refine ⟨by decide, by decide, by decide, by decide, rfl, rfl, ?_⟩; decide⟩,
   ⟨State.holds (State.timing skates (fun a => { a with secs := a.secs.set 0 (some { sec 9 with stoppers := [1] }) })) (buf 0xC2 [0] 40), 5, data secRec, secRec, buf 0xC2 [0] 40, 0, 40, parseSec secRec (some 5), State.holds (State.timing skates (fun a => { a with secs := a.secs.set 0 (some { sec 9 with stoppers := [1] }) })) (buf 0xC2 [0] 40), { sec 9 with stoppers := [1] }, by refine ⟨by decide, by decide, by decide, by decide, rfl, rfl, ?_⟩; decide⟩,
   ⟨State.holds (State.sets run [(Reg.RED_E_STATUS, 0, 1), (Reg.TIU_IN_CFG_ELEC, 2, 1)]) (buf 0xC2 [3] 40), 5, data secRec, secRec, buf 0xC2 [3] 40, 3, 40, parseSec secRec (some 5), State.holds (State.sets run [(Reg.RED_E_STATUS, 0, 1), (Reg.TIU_IN_CFG_ELEC, 2, 1)]) (buf 0xC2 [3] 40), by refine ⟨by decide, by decide, by decide, by decide, rfl, rfl, ?_⟩; decide⟩,
   ⟨State.holds (State.sets acquires [(Reg.RED_E_STATUS, 0, 1), (Reg.TIU_IN_CFG_ELEC, 2, 1)]) (buf 0xC2 [3] 40), 5, data secRec, secRec, buf 0xC2 [3] 40, 3, 40, parseSec secRec (some 5), State.holds (State.sets acquires [(Reg.RED_E_STATUS, 0, 1), (Reg.TIU_IN_CFG_ELEC, 2, 1)]) (buf 0xC2 [3] 40), by refine ⟨by decide, by decide, by decide, by decide, rfl, rfl, ?_⟩; decide⟩,
   ⟨State.holds (run) (hnd 5 0xC3 [0x109]), 5, hnd 5 0xC3 [0x109], by decide +kernel⟩,
   ⟨State.holds (State.holds run (hnd 9 0xC1 [])) (hnd 5 0xC3 [0x109]), 5, hnd 5 0xC3 [0x109], hnd 9 0xC1 [], by decide +kernel⟩,
   ⟨State.holds (State.holds run { hnd 9 0xC2 [3] with done := true }) (hnd 5 0xC3 [0x109]), 5, hnd 5 0xC3 [0x109], { hnd 9 0xC2 [3] with done := true }, by decide +kernel⟩,
   ⟨State.holds (State.holds run (hnd 9 0xC2 [3])) (hnd 5 0xC3 [0x109]), 5, hnd 5 0xC3 [0x109], hnd 9 0xC2 [3], by decide +kernel⟩,
   ⟨State.holds (State.holds skates (hnd 9 0xC2 [0])) (hnd 5 0xC3 [0x109]), 5, hnd 5 0xC3 [0x109], hnd 9 0xC2 [0], 0, sec 9, by decide +kernel⟩,
   ⟨State.holds (State.holds (State.timing skates (fun a => { a with waits := a.waits.set 0 (some ⟨9, sec 9⟩) })) (hnd 9 0xC2 [0])) (hnd 5 0xC3 [0x109]), 5, hnd 5 0xC3 [0x109], hnd 9 0xC2 [0], 0, ⟨9, sec 9⟩, by decide +kernel⟩,
   ⟨State.holds (run) (hnd 5 0xC4 [4]), 5, hnd 5 0xC4 [4], 4, by decide +kernel⟩,
   ⟨State.holds (run) (hnd 5 0xC4 [3]), 5, hnd 5 0xC4 [3], 3, by decide +kernel⟩,
   ⟨State.holds skates (buf 0xC4 [0] 147519), 5, data [], buf 0xC4 [0] 147519, 0, sec 9, ([(0x1000, 147519)], .whole), State.holds skates (buf 0xC4 [0] 147519), by refine ⟨by decide, by decide, by decide, by decide, rfl, ?_⟩; decide⟩,
   ⟨State.holds skates (buf 0xC4 [0] 147520), 5, data [], buf 0xC4 [0] 147520, 0, sec 9, ([(0x1000, 147520)], .whole), State.holds skates (buf 0xC4 [0] 147520), by refine ⟨by decide, by decide, by decide, by decide, rfl, ?_⟩; decide⟩⟩

/-- Meets the hypotheses of `Obligations.TimingEvents`. -/
theorem witness_TimingEvents :
    (∃ (s : State) (i : Fin 8), (s.on Reg.TIU_IN_CFG_ELEC i = false ∨ s.tiCalibrating i = true)) ∧
    (∃ (s : State) (i : Fin 8) (n : BitVec 64) (c : Fin 128) (f e : Nat), s.on Reg.TIU_IN_CFG_ELEC i = true ∧ s.tiCalibrating i = false ∧ f = s.codeCentre i c ∧ e = n.toNat * 128 + f ∧ (s.tiu.ins[i].last.any (fun l => decide (e < l + 320)) = true ∨ 7680 < s.tiu.ins[i].fill - (e - s.tiu.ins[i].fillAt))) ∧
    (∃ (s : State) (i : Fin 8) (n : BitVec 64) (c : Fin 128) (f e : Nat), s.on Reg.TIU_IN_CFG_ELEC i = true ∧ s.tiCalibrating i = false ∧ f = s.codeCentre i c ∧ e = n.toNat * 128 + f ∧ (s.tiu.ins[i].last.any (fun l => decide (e < l + 320)) = false) ∧ s.tiu.ins[i].fill - (e - s.tiu.ins[i].fillAt) ≤ 7680) ∧
    (∃ (s : State) (v : Fin 4) (b from_ : Nat) (l : List (Nat × Nat)), s.tiu.starts[v] = (b, from_) :: l ∧ s.tick < from_ + (s.fld Reg.TIU_IV_CFG_WINDOW_NS v + 104) / 5) ∧
    (∃ (s : State) (v : Fin 4) (b from_ : Nat) (l : List (Nat × Nat)), s.tiu.starts[v] = (b, from_) :: l ∧ s.runs 7 = true ∧ from_ + (s.fld Reg.TIU_IV_CFG_WINDOW_NS v + 104) / 5 ≤ s.tick ∧ s.fld Reg.TIU_IV_CFG_WINDOW_NS v = 0) ∧
    (∃ (s : State) (v : Fin 4) (w b from_ : Nat) (l : List (Nat × Nat)) (es : List Nat), s.runs 7 = true ∧ s.tiu.starts[v] = (b, from_) :: l ∧ from_ + (s.fld Reg.TIU_IV_CFG_WINDOW_NS v + 104) / 5 ≤ s.tick ∧ w = 128 * s.fld Reg.TIU_IV_CFG_WINDOW_NS v ∧ w ≠ 0 ∧ es = s.tiu.edges.getD (s.fld Reg.TIU_IV_CFG_STOP v) [] ∧ (∀ u ∈ es, u + w < b ∨ b + w < u)) ∧
    (∃ (s : State), ∃ (v : Fin 4), ∃ (w b from_ : Nat), ∃ (l : List (Nat × Nat)), ∃ (es : List Nat), ∃ u, s.runs 7 = true ∧ s.tiu.starts[v] = (b, from_) :: l ∧ from_ + (s.fld Reg.TIU_IV_CFG_WINDOW_NS v + 104) / 5 ≤ s.tick ∧ w = 128 * s.fld Reg.TIU_IV_CFG_WINDOW_NS v ∧ w ≠ 0 ∧ es = s.tiu.edges.getD (s.fld Reg.TIU_IV_CFG_STOP v) [] ∧ u ∈ es ∧ b ≤ u + w ∧ u ≤ b + w ∧ (∀ e ∈ es, ((u : Int) - b).natAbs < ((e : Int) - b).natAbs ∨ (((u : Int) - b).natAbs = ((e : Int) - b).natAbs ∧ e ≤ u))) ∧
    (∃ (s : State) (k : Fin 4), (s.runningSec k = none ∨ s.fld Reg.TIU_SK_STATUS k ≠ 1)) ∧
    (∃ (s : State), ∃ (k : Fin 4), ∃ x, s.runningSec k = some x ∧ s.timerDue (.stall k) (200000 * x.stallMs) = false) ∧
    (∃ (s : State), ∃ (k : Fin 4), ∃ x, s.runningSec k = some x ∧ s.timerDue (.stall k) (200000 * x.stallMs) = true ∧ s.fld Reg.TIU_SK_STATUS k = 1) ∧
    (∃ (s : State) (k : Fin 4), (s.runningSec k = none ∨ s.midDue k = none)) ∧
    (∃ (s : State) (k : Fin 4) (x : SkSec) (m : Nat) (f : Nat × Nat), s.runningSec k = some x ∧ s.midDue k = some m ∧ f = edgeFraction x.edges (128 * m)) ∧
    (∃ (es : List (Nat × Nat)), es.length < 2) ∧
    (∃ (es : List (Nat × Nat)), ∃ (m : Nat), ∃ a b l, es = a :: b :: l ∧ b.1 < a.1 ∧ a.1 ≤ 128 * m ∧ (128 * m - a.1) * 65536 ≤ (a.1 - b.1) * 65535) ∧
    (∃ (es : List (Nat × Nat)), ∃ (m : Nat), ∃ a b l, es = a :: b :: l ∧ b.1 < a.1 ∧ a.1 ≤ 128 * m ∧ (a.1 - b.1) * 65535 ≤ (128 * m - a.1) * 65536) :=
  ⟨⟨run, 7, by decide +kernel⟩,
   ⟨State.timing (State.sets run [(Reg.TIU_IN_CFG_ELEC, 7, 1)]) (fun a => { a with ins := a.ins.set 7 ⟨some 12800, 7680, 0, none⟩ }), 7, 100, 0, _, _, by refine ⟨by decide, by decide, rfl, rfl, ?_⟩; decide +kernel⟩,
   ⟨State.timing (State.sets run [(Reg.TIU_IN_CFG_ELEC, 7, 1)]) (fun a => { a with ins := a.ins.set 7 ⟨some 0, 7680, 0, none⟩ }), 7, 100, 0, _, _, by refine ⟨by decide, by decide, rfl, rfl, ?_⟩; decide +kernel⟩,
   ⟨{ State.timing (State.sets run [(Reg.TIU_IV_CFG_WINDOW_NS, 3, 1), (Reg.TIU_IV_CFG_STOP, 3, 7)]) (fun a => { a with starts := a.starts.set 3 [(1000, 5)], edges := a.edges.set 7 [] }) with tick := 24 }, 3, 1000, 5, [], by decide +kernel⟩,
   ⟨{ State.timing (State.sets run [(Reg.TIU_IV_CFG_WINDOW_NS, 3, 0), (Reg.TIU_IV_CFG_STOP, 3, 7)]) (fun a => { a with starts := a.starts.set 3 [(1000, 5)], edges := a.edges.set 7 [] }) with tick := 25 }, 3, 1000, 5, [], by decide +kernel⟩,
   ⟨{ State.timing (State.sets run [(Reg.TIU_IV_CFG_WINDOW_NS, 3, 1), (Reg.TIU_IV_CFG_STOP, 3, 7)]) (fun a => { a with starts := a.starts.set 3 [(1000, 5)], edges := a.edges.set 7 [871, 1129] }) with tick := 26 }, 3, 128, 1000, 5, [], [871, 1129], by decide +kernel⟩,
   ⟨{ State.timing (State.sets run [(Reg.TIU_IV_CFG_WINDOW_NS, 3, 1), (Reg.TIU_IV_CFG_STOP, 3, 7)]) (fun a => { a with starts := a.starts.set 3 [(1000, 5)], edges := a.edges.set 7 [900, 1128] }) with tick := 26 }, 3, 128, 1000, 5, [], [900, 1128], 900, by decide +kernel⟩,
   ⟨run, 3, by decide +kernel⟩,
   ⟨{ State.timing (State.sets skates [(Reg.TIU_SK_STATUS, 3, 1)]) (fun a => { a with secs := a.secs.set 3 (some (sec 9)) }) with timers := [(.stall 3, 1)] }, 3, sec 9, by decide +kernel⟩,
   ⟨State.timing (State.sets skates [(Reg.TIU_SK_STATUS, 3, 1)]) (fun a => { a with secs := a.secs.set 3 (some (sec 9)) }), 3, sec 9, by decide +kernel⟩,
   ⟨run, 3, by decide +kernel⟩,
   ⟨State.time (State.probe skates (fun a => { a with stamps := [0] })) 1000000000, 0, sec 9, 20475000, (0, 1), by decide +kernel⟩,
   ⟨[(1, 2)], by decide +kernel⟩,
   ⟨[(128, 2), (1, 1)], 1, (128, 2), (1, 1), [], by decide +kernel⟩,
   ⟨[(1, 2), (0, 1)], 1, (1, 2), (0, 1), [], by decide +kernel⟩⟩

/-- Meets the hypotheses of `Obligations.TelegramAndTrips`. -/
theorem witness_TelegramAndTrips :
    (∃ (s : State) (h : Fin 256) (x : Handle) (a : Nat), s.cmd? h.val 0xE0 = some x ∧ x.p 0 = a ∧ (a = 0 ∨ 31 < a)) ∧
    (∃ (s : State) (h : Fin 256) (x : Handle) (a : Nat), s.cmd? h.val 0xE0 = some x ∧ x.p 0 = a ∧ 1 ≤ a ∧ a ≤ 31) ∧
    (∃ (s : State) (h : Fin 256) (x : Handle) (v : State), s.cmd? h.val 0xE1 = some x ∧ v = ((s.setF Reg.PAT_TG_ZONE_LO (x.p 0)).setF Reg.PAT_TG_ZONE_HI (x.p 1)).setF Reg.PAT_TG_ALARM (x.p 2) ∧ s.tgSource = 0 ∧ s.inWatch = false) ∧
    (∃ (s : State) (h : Fin 256) (x : Handle) (v : State), s.cmd? h.val 0xE1 = some x ∧ v = ((s.setF Reg.PAT_TG_ZONE_LO (x.p 0)).setF Reg.PAT_TG_ZONE_HI (x.p 1)).setF Reg.PAT_TG_ALARM (x.p 2) ∧ (s.tgSource ≠ 0 ∨ s.inWatch = true)) ∧
    (∃ (s : State) (h : Fin 256) (x : Handle), s.cmd? h.val 0xE2 = some x ∧ 3 < x.p 0) ∧
    (∃ (s : State) (h : Fin 256) (x : Handle), s.cmd? h.val 0xE2 = some x ∧ x.p 0 ≤ 3) ∧
    (∃ (s : State) (h : Fin 256) (x : Handle) (j : Fin 2), s.cmd? h.val 0xE2 = some x ∧ (x.p 0).testBit j = true) ∧
    (∃ (s : State) (j : Fin 2), s.on Reg.PAT_TRIP_CFG_LATCH j = true ∧ s.tripCond s.evtLevel j = true) ∧
    (∃ (s : State) (j : Fin 2), (s.on Reg.PAT_TRIP_CFG_LATCH j = false ∨ s.tripCond s.evtLevel j = false)) ∧
    (∃ (s : State), max 1 (s.fld Reg.PAT_CTL_STALE_MS) < s.tgAge) ∧
    (∃ (s : State), s.tgAge ≤ max 1 (s.fld Reg.PAT_CTL_STALE_MS)) :=
  ⟨⟨State.holds (run) (hnd 5 0xE0 [32]), 5, hnd 5 0xE0 [32], 32, by decide⟩,
   ⟨State.holds (run) (hnd 5 0xE0 [31]), 5, hnd 5 0xE0 [31], 31, by decide⟩,
   ⟨State.holds (run) (hnd 5 0xE1 [1, 2, 3]), 5, hnd 5 0xE1 [1, 2, 3], _, ⟨by decide, rfl, by decide, by decide⟩⟩,
   ⟨State.holds (State.pwr run (fun p => { p with mode := stWatch })) (hnd 5 0xE1 [1, 2, 3]), 5, hnd 5 0xE1 [1, 2, 3], _, ⟨by decide, rfl, by decide⟩⟩,
   ⟨State.holds (run) (hnd 5 0xE2 [4]), 5, hnd 5 0xE2 [4], by decide⟩,
   ⟨State.holds (run) (hnd 5 0xE2 [3]), 5, hnd 5 0xE2 [3], by decide⟩,
   ⟨State.holds (run) (hnd 5 0xE2 [2]), 5, hnd 5 0xE2 [2], 1, by decide⟩,
   ⟨State.patrol (State.sets run [(Reg.PAT_TRIP_CFG_LATCH, 1, 1), (Reg.PAT_TRIP_CFG_STALE, 1, 1)]) (fun p => { p with stale := true }), 1, by decide⟩,
   ⟨run, 1, by decide⟩,
   ⟨State.sets run [(Reg.PAT_CTL_STALE_MS, 0, 65534)], by decide⟩,
   ⟨State.sets run [(Reg.PAT_CTL_STALE_MS, 0, 65535)], by decide⟩⟩

/-- Meets the hypotheses of `Obligations.PatrolLink`. -/
theorem witness_PatrolLink :
    (∃ (s : State), s.patAlive = false) ∧
    (∃ (s : State), s.on Reg.PAT_STATUS_DRIVING = true) ∧
    (∃ (s : State) (f : Bool), s.patAlive = true ∧ f = false) ∧
    (∃ (s : State) (f : Bool), s.patAlive = true ∧ f = true) ∧
    (∃ (s : State), s.patAlive = true ∧ s.on Reg.PAT_STATUS_DRIVING = false) ∧
    (∃ (s : State), (s.pat.reply.isSome = true ∨ s.on Reg.PAT_STATUS_DRIVING = true)) ∧
    (∃ (s : State), s.pat.reply = none ∧ s.on Reg.PAT_STATUS_DRIVING = false ∧ s.pat.drop ≠ 0) ∧
    (∃ (s : State), s.pat.reply = none ∧ s.on Reg.PAT_STATUS_DRIVING = false ∧ s.pat.drop = 0 ∧ s.pat.poll.length < 3) ∧
    (∃ (s : State) (r : Byte) (a : Byte) (q : Byte) (c : Byte) (v : State), s.pat.reply = none ∧ s.on Reg.PAT_STATUS_DRIVING = false ∧ s.pat.drop = 0 ∧ s.pat.poll = [a, q, c] ∧ v = { s with pat := { s.pat with poll := [] } } ∧ r.toNat ≠ crc8 [a, q, c]) ∧
    (∃ (s : State) (r : Byte) (a : Byte) (q : Byte) (c : Byte) (v : State), s.pat.reply = none ∧ s.on Reg.PAT_STATUS_DRIVING = false ∧ s.pat.drop = 0 ∧ s.pat.poll = [a, q, c] ∧ v = { s with pat := { s.pat with poll := [] } } ∧ r.toNat = crc8 [a, q, c] ∧ (a.toNat ≠ s.fld Reg.PAT_CTL_ADDR ∨ s.fld Reg.PAT_CTL_ADDR = 0)) ∧
    (∃ (s : State) (r : Byte) (a : Byte) (q : Byte) (c : Byte) (v : State), s.pat.reply = none ∧ s.on Reg.PAT_STATUS_DRIVING = false ∧ s.pat.drop = 0 ∧ s.pat.poll = [a, q, c] ∧ v = { s with pat := { s.pat with poll := [] } } ∧ r.toNat = crc8 [a, q, c] ∧ a.toNat = s.fld Reg.PAT_CTL_ADDR ∧ a.toNat ≠ 0 ∧ c.toNat ≠ 1) ∧
    (∃ (s : State) (r : Byte) (a : Byte) (q : Byte) (c : Byte) (v : State), s.pat.reply = none ∧ s.on Reg.PAT_STATUS_DRIVING = false ∧ s.pat.drop = 0 ∧ s.pat.poll = [a, q, c] ∧ v = { s with pat := { s.pat with poll := [] } } ∧ r.toNat = crc8 [a, q, c] ∧ a.toNat = s.fld Reg.PAT_CTL_ADDR ∧ a.toNat ≠ 0 ∧ c.toNat = 1 ∧ s.on Reg.PAT_CTL_EN = false) ∧
    (∃ (s : State) (r : Byte) (a : Byte) (q : Byte) (c : Byte) (v : State), s.pat.reply = none ∧ s.on Reg.PAT_STATUS_DRIVING = false ∧ s.pat.drop = 0 ∧ s.pat.poll = [a, q, c] ∧ v = { s with pat := { s.pat with poll := [] } } ∧ r.toNat = crc8 [a, q, c] ∧ a.toNat = s.fld Reg.PAT_CTL_ADDR ∧ a.toNat ≠ 0 ∧ c.toNat = 1 ∧ s.on Reg.PAT_CTL_EN = true) ∧
    (∃ (s : State), (s.pat.reply = none ∨ s.timerDue .reply 3616 = false)) ∧
    (∃ (s : State), s.pat.reply.isSome = true ∧ s.timerDue .reply 368 = true) ∧
    (∃ (s : State), s.timerDue .reply 368 = false) ∧
    (∃ (s : State), ∃ r, s.pat.reply = some r ∧ s.timerDue .reply 3616 = true) ∧
    (∃ (s : State), s.inWatch = true) ∧
    (∃ (s : State), ∃ x, x ∈ s.liveSlots) ∧
    (∃ (s : State), ∃ l, s.pat.refreshed = some l) ∧
    (∃ (s : State), s.pat.refreshed = none) :=
  ⟨⟨State.reset, by decide⟩,
   ⟨State.sets node [(Reg.PAT_STATUS_DRIVING, 0, 1)], by decide⟩,
   ⟨node, false, by decide⟩,
   ⟨node, true, by decide⟩,
   ⟨node, by decide⟩,
   ⟨State.patrol node (fun p => { p with reply := some [] }), by decide⟩,
   ⟨State.patrol node (fun p => { p with drop := 3 }), by decide⟩,
   ⟨State.patrol node (fun p => { p with poll := [31, 255] }), by decide⟩,
   ⟨State.patrol (node) (fun p => { p with poll := [31, 255, 1] }), pollCode 1 + 1, 31, 255, 1, State.patrol (node) (fun p => { p with poll := [] }), by refine ⟨by decide, by decide, by decide, by decide, rfl, ?_⟩; decide⟩,
   ⟨State.patrol (run) (fun p => { p with poll := [31, 255, 1] }), pollCode 1, 31, 255, 1, State.patrol (run) (fun p => { p with poll := [] }), by refine ⟨by decide, by decide, by decide, by decide, rfl, ?_⟩; decide⟩,
   ⟨State.patrol (node) (fun p => { p with poll := [31, 255, 2] }), pollCode 2, 31, 255, 2, State.patrol (node) (fun p => { p with poll := [] }), by refine ⟨by decide, by decide, by decide, by decide, rfl, ?_⟩; decide⟩,
   ⟨State.patrol (State.sets node [(Reg.PAT_CTL_EN, 0, 0)]) (fun p => { p with poll := [31, 255, 1] }), pollCode 1, 31, 255, 1, State.patrol (State.sets node [(Reg.PAT_CTL_EN, 0, 0)]) (fun p => { p with poll := [] }), by refine ⟨by decide, by decide, by decide, by decide, rfl, ?_⟩; decide⟩,
   ⟨State.patrol (State.sets node [(Reg.PAT_CTL_EN, 0, 1)]) (fun p => { p with poll := [31, 255, 1] }), pollCode 1, 31, 255, 1, State.patrol (State.sets node [(Reg.PAT_CTL_EN, 0, 1)]) (fun p => { p with poll := [] }), by refine ⟨by decide, by decide, by decide, by decide, rfl, ?_⟩; decide⟩,
   ⟨node, by decide⟩,
   ⟨State.patrol node (fun p => { p with reply := some [] }), by decide⟩,
   ⟨{ node with timers := [(.reply, 0)], tick := 367 }, by decide⟩,
   ⟨State.patrol node (fun p => { p with reply := some [] }), [], by decide⟩,
   ⟨State.pwr node (fun p => { p with mode := stWatch }), by decide⟩,
   ⟨node, (node.cmdSlot), by decide⟩,
   ⟨State.patrol node (fun p => { p with refreshed := some 0 }), 0, by decide⟩,
   ⟨node, by decide⟩⟩

/-- Meets the hypotheses of `Obligations.CheckUnits`. -/
theorem witness_CheckUnits :
    (∃ (s : State) (u : Fin 4) (v : Word) (p : Nat) (i : Instr) (k : Nat), s.awake = true ∧ p = s.fld Reg.CHK_CTL_POLY u ∧ ((i = .chkData8 u v ∧ k = 1) ∨ (i = .chkData16 u v ∧ k = 2) ∨ (i = .chkData32 u v ∧ k = 4))) ∧
    (∃ (s : State) (u : Fin 4) (v : Word) (bs : List Byte) (p : Nat) (a : Nat) (r : Nat), s.awake = true ∧ p = s.fld Reg.CHK_CTL_POLY u ∧ a = s.fld Reg.CHK_ALIVE u ∧ s.chk[u].crc = bs.foldl (crcByte p) (crcInit p) ∧ (r = crc p (bs ++ if s.on Reg.CHK_CTL_FOLD u then (List.range (crcWidth p)).map (fun j => BitVec.ofNat 8 (a / 2 ^ (8 * j))) else [])) ∧ v.toNat % 2 = 0) ∧
    (∃ (s : State) (u : Fin 4) (v : Word) (bs : List Byte) (p : Nat) (a : Nat) (r : Nat), s.awake = true ∧ p = s.fld Reg.CHK_CTL_POLY u ∧ a = s.fld Reg.CHK_ALIVE u ∧ s.chk[u].crc = bs.foldl (crcByte p) (crcInit p) ∧ (r = crc p (bs ++ if s.on Reg.CHK_CTL_FOLD u then (List.range (crcWidth p)).map (fun j => BitVec.ofNat 8 (a / 2 ^ (8 * j))) else [])) ∧ v.toNat % 2 = 1) :=
  ⟨⟨run, 3, 0, _, .chkData8 3 0, 1, ⟨rfl, rfl, by decide⟩⟩,
   ⟨run, 3, 0, [], _, _, _, ⟨rfl, rfl, rfl, by decide, rfl, by decide⟩⟩,
   ⟨run, 3, 1, [], _, _, _, ⟨rfl, rfl, rfl, by decide, rfl, by decide⟩⟩⟩

/-- Meets the hypotheses of `Obligations.PanelCommands`. -/
theorem witness_PanelCommands :
    (∃ (s : State) (h : Fin 256) (d : CmdData) (n : Nat) (r : List Byte) (c : Handle) (v : State), s.cmd? h.val 0xD0 = some c ∧ s.dataOf c d = some (n, r) ∧ v = s.dataRead c d ∧ n ≠ 32) ∧
    (∃ (s : State), ∃ (h : Fin 256), ∃ (d : CmdData), ∃ (n : Nat), ∃ (r : List Byte), ∃ (c : Handle), ∃ (v : State), ∃ o, s.cmd? h.val 0xD0 = some c ∧ s.dataOf c d = some (n, r) ∧ v = s.dataRead c d ∧ n = 32 ∧ pnlFieldBad r = some o) ∧
    (∃ (s : State) (h : Fin 256) (d : CmdData) (n : Nat) (r : List Byte) (c : Handle) (v : State), s.cmd? h.val 0xD0 = some c ∧ s.dataOf c d = some (n, r) ∧ v = s.dataRead c d ∧ n = 32 ∧ pnlFieldBad r = none ∧ recHTotal r < field r 12 2 + 32) ∧
    (∃ (s : State) (h : Fin 256) (d : CmdData) (n : Nat) (r : List Byte) (c : Handle) (v : State), s.cmd? h.val 0xD0 = some c ∧ s.dataOf c d = some (n, r) ∧ v = s.dataRead c d ∧ n = 32 ∧ pnlFieldBad r = none ∧ field r 12 2 + 32 ≤ recHTotal r ∧ (field r 8 4 * 1000 < 20 * recHTotal r * recVTotal r ∨ 120 * recHTotal r * recVTotal r < field r 8 4 * 1000)) ∧
    (∃ (s : State) (h : Fin 256) (d : CmdData) (n : Nat) (r : List Byte) (c : Handle) (v : State), s.cmd? h.val 0xD0 = some c ∧ s.dataOf c d = some (n, r) ∧ v = s.dataRead c d ∧ n = 32 ∧ pnlFieldBad r = none ∧ field r 12 2 + 32 ≤ recHTotal r ∧ 20 * recHTotal r * recVTotal r ≤ field r 8 4 * 1000 ∧ field r 8 4 * 1000 ≤ 120 * recHTotal r * recVTotal r ∧ s.panelOn = true) ∧
    (∃ (s : State) (h : Fin 256) (d : CmdData) (n : Nat) (r : List Byte) (c : Handle) (v : State), s.cmd? h.val 0xD0 = some c ∧ s.dataOf c d = some (n, r) ∧ v = s.dataRead c d ∧ n = 32 ∧ pnlFieldBad r = none ∧ field r 12 2 + 32 ≤ recHTotal r ∧ 20 * recHTotal r * recVTotal r ≤ field r 8 4 * 1000 ∧ field r 8 4 * 1000 ≤ 120 * recHTotal r * recVTotal r ∧ s.panelOn = false) ∧
    (∃ (s u : State) (r : List Byte), u = s.pnlStore r ∧ pnlFieldBad r = none) ∧
    (∃ (s : State) (h : Fin 256) (d : CmdData) (n : Nat) (r : List Byte) (c : Handle) (v : State), s.cmd? h.val 0xD1 = some c ∧ s.dataOf c d = some (n, r) ∧ v = s.dataRead c d ∧ n ≠ 1024) ∧
    (∃ (s : State), ∃ (h : Fin 256), ∃ (d : CmdData), ∃ (n : Nat), ∃ (r : List Byte), ∃ (c : Handle), ∃ (v : State), ∃ i, s.cmd? h.val 0xD1 = some c ∧ s.dataOf c d = some (n, r) ∧ v = s.dataRead c d ∧ n = 1024 ∧ i < 256 ∧ field r (4 * i + 3) 1 ≠ 0 ∧ (∀ j, j < i → field r (4 * j + 3) 1 = 0)) ∧
    (∃ (s : State) (h : Fin 256) (d : CmdData) (n : Nat) (r : List Byte) (c : Handle) (v : State), s.cmd? h.val 0xD1 = some c ∧ s.dataOf c d = some (n, r) ∧ v = s.dataRead c d ∧ n = 1024 ∧ (∀ i, i < 256 → field r (4 * i + 3) 1 = 0) ∧ s.panelOn = false) ∧
    (∃ (s : State) (h : Fin 256) (d : CmdData) (n : Nat) (r : List Byte) (c : Handle) (v : State), s.cmd? h.val 0xD1 = some c ∧ s.dataOf c d = some (n, r) ∧ v = s.dataRead c d ∧ n = 1024 ∧ (∀ i, i < 256 → field r (4 * i + 3) 1 = 0) ∧ s.panelOn = true) ∧
    (∃ (s : State) (h : Fin 256) (c : Handle) (st : Nat), s.cmd? h.val 0xD2 = some c ∧ st = s.fld Reg.PNL_STATUS_STATE ∧ c.p 0 % 2 = 1 ∧ s.pnl.pclk = none) ∧
    (∃ (s : State) (h : Fin 256) (c : Handle) (st : Nat), s.cmd? h.val 0xD2 = some c ∧ st = s.fld Reg.PNL_STATUS_STATE ∧ c.p 0 % 2 = 1 ∧ s.pnl.pclk ≠ none ∧ s.rgnSize 6 ≠ 0x1000000) ∧
    (∃ (s : State) (h : Fin 256) (c : Handle) (st : Nat), s.cmd? h.val 0xD2 = some c ∧ st = s.fld Reg.PNL_STATUS_STATE ∧ c.p 0 % 2 = 1 ∧ s.pnl.pclk ≠ none ∧ s.rgnSize 6 = 0x1000000 ∧ st = 0) ∧
    (∃ (s : State) (h : Fin 256) (c : Handle) (st : Nat), s.cmd? h.val 0xD2 = some c ∧ st = s.fld Reg.PNL_STATUS_STATE ∧ c.p 0 % 2 = 1 ∧ s.pnl.pclk ≠ none ∧ s.rgnSize 6 = 0x1000000 ∧ (st = 1 ∨ st = 2)) ∧
    (∃ (s : State) (h : Fin 256) (c : Handle) (st : Nat), s.cmd? h.val 0xD2 = some c ∧ st = s.fld Reg.PNL_STATUS_STATE ∧ c.p 0 % 2 = 1 ∧ s.pnl.pclk ≠ none ∧ s.rgnSize 6 = 0x1000000 ∧ st = 3 ∧ s.pnl.again = none) ∧
    (∃ (s : State) (h : Fin 256) (c : Handle) (st : Nat), s.cmd? h.val 0xD2 = some c ∧ st = s.fld Reg.PNL_STATUS_STATE ∧ c.p 0 % 2 = 1 ∧ s.pnl.pclk ≠ none ∧ s.rgnSize 6 = 0x1000000 ∧ st = 3 ∧ s.pnl.again ≠ none) ∧
    (∃ (s : State) (h : Fin 256) (c : Handle) (st : Nat), s.cmd? h.val 0xD2 = some c ∧ st = s.fld Reg.PNL_STATUS_STATE ∧ c.p 0 % 2 = 0 ∧ s.pnl.again = none ∧ st = 0) ∧
    (∃ (s : State), ∃ (h : Fin 256), ∃ (c : Handle), ∃ (st : Nat), ∃ g, s.cmd? h.val 0xD2 = some c ∧ st = s.fld Reg.PNL_STATUS_STATE ∧ c.p 0 % 2 = 0 ∧ s.pnl.again = none ∧ st = 1 ∧ s.pnl.starters = [g] ∧ g ≠ h.val ∧ s.pnl.palettes = []) ∧
    (∃ (s : State) (h : Fin 256) (c : Handle) (st : Nat), s.cmd? h.val 0xD2 = some c ∧ st = s.fld Reg.PNL_STATUS_STATE ∧ c.p 0 % 2 = 0 ∧ s.pnl.again = none ∧ st = 2) ∧
    (∃ (s : State), ∃ (h : Fin 256), ∃ (c : Handle), ∃ (st : Nat), ∃ g, s.cmd? h.val 0xD2 = some c ∧ st = s.fld Reg.PNL_STATUS_STATE ∧ c.p 0 % 2 = 0 ∧ st = 3 ∧ s.pnl.again = some g ∧ g ≠ h.val) :=
  ⟨⟨State.holds (run) (buf 0xD0 [] 16), 5, data (zeros 16), 16, (zeros 16).take 16, buf 0xD0 [] 16, _, by refine ⟨by decide, by decide +kernel, rfl, by decide⟩⟩,
   ⟨State.holds (run) (buf 0xD0 [] 32), 5, data (zeros 32), 32, (zeros 32).take 32, buf 0xD0 [] 32, _, 0, by refine ⟨by decide, by decide +kernel, rfl, by decide, by decide⟩⟩,
   ⟨State.holds (run) (buf 0xD0 [] 32), 5, data (timing 64 1 32 64), 32, (timing 64 1 32 64).take 32, buf 0xD0 [] 32, _, by refine ⟨by decide, by decide +kernel, rfl, by decide, by decide, by decide⟩⟩,
   ⟨State.holds (run) (buf 0xD0 [] 32), 5, data (timing 64 30 32 64), 32, (timing 64 30 32 64).take 32, buf 0xD0 [] 32, _, by refine ⟨by decide, by decide +kernel, rfl, by decide, by decide, by decide, by decide⟩⟩,
   ⟨State.holds (panel 2) (buf 0xD0 [] 32), 5, data (timing 1000 30 600 1024), 32, (timing 1000 30 600 1024).take 32, buf 0xD0 [] 32, _, by refine ⟨by decide, by decide +kernel, rfl, by decide, by decide, by decide, by decide, by decide, by decide⟩⟩,
   ⟨State.holds (run) (buf 0xD0 [] 32), 5, data (timing 1000 30 600 1024), 32, (timing 1000 30 600 1024).take 32, buf 0xD0 [] 32, _, by refine ⟨by decide, by decide +kernel, rfl, by decide, by decide, by decide, by decide, by decide, by decide⟩⟩,
   ⟨run, _, timing 1000 30 600 1024, ⟨rfl, by decide⟩⟩,
   ⟨State.holds (run) (buf 0xD1 [] 16), 5, data (zeros 16), 16, zeros 16, buf 0xD1 [] 16, _, by refine ⟨by decide, by decide +kernel, rfl, by decide⟩⟩,
   ⟨State.holds (run) (buf 0xD1 [] 1024), 5, data (zeros 1023 ++ [1]), 1024, zeros 1023 ++ [1], buf 0xD1 [] 1024, _, 255, by refine ⟨by decide, by decide +kernel, rfl, by decide, by decide, ?_, ?_⟩ <;> decide +kernel⟩,
   ⟨State.holds (run) (buf 0xD1 [] 1024), 5, data (zeros 1024), 1024, zeros 1024, buf 0xD1 [] 1024, _, by refine ⟨by decide, by decide +kernel, rfl, by decide, ?_, by decide⟩; decide +kernel⟩,
   ⟨State.holds (panel 3) (buf 0xD1 [] 1024), 5, data (zeros 1024), 1024, zeros 1024, buf 0xD1 [] 1024, _, by refine ⟨by decide, by decide +kernel, rfl, by decide, ?_, by decide⟩; decide +kernel⟩,
   ⟨State.holds (run) (hnd 5 0xD2 [1]), 5, hnd 5 0xD2 [1], _, ⟨by decide, rfl, by decide, by decide⟩⟩,
   ⟨State.holds (State.sets (panel 0) [(Reg.MEM_RGN_ESIZE, 6, 0)]) (hnd 5 0xD2 [1]), 5, hnd 5 0xD2 [1], _, ⟨by decide, rfl, by decide, by decide, by decide⟩⟩,
   ⟨State.holds (panel 0) (hnd 5 0xD2 [1]), 5, hnd 5 0xD2 [1], _, ⟨by decide, rfl, by decide, by decide, by decide, by decide⟩⟩,
   ⟨State.holds (panel 2) (hnd 5 0xD2 [1]), 5, hnd 5 0xD2 [1], _, ⟨by decide, rfl, by decide, by decide, by decide, by decide⟩⟩,
   ⟨State.holds (panel 3) (hnd 5 0xD2 [1]), 5, hnd 5 0xD2 [1], _, ⟨by decide, rfl, by decide, by decide, by decide, by decide, by decide⟩⟩,
   ⟨State.holds (State.panel (panel 3) (fun p => { p with again := some 6 })) (hnd 5 0xD2 [1]), 5, hnd 5 0xD2 [1], _, ⟨by decide, rfl, by decide, by decide, by decide, by decide, by decide⟩⟩,
   ⟨State.holds (panel 0) (hnd 5 0xD2 [0]), 5, hnd 5 0xD2 [0], _, ⟨by decide, rfl, by decide, by decide, by decide⟩⟩,
   ⟨State.holds (State.holds (State.panel (panel 1) (fun p => { p with starters := [6] })) (hnd 6 0xD2 [1])) (hnd 5 0xD2 [0]), 5, hnd 5 0xD2 [0], _, 6, ⟨by decide, rfl, by decide, by decide, by decide, by decide, by decide, by decide⟩⟩,
   ⟨State.holds (panel 2) (hnd 5 0xD2 [0]), 5, hnd 5 0xD2 [0], _, ⟨by decide, rfl, by decide, by decide, by decide⟩⟩,
   ⟨State.holds (State.panel (panel 3) (fun p => { p with again := some 6 })) (hnd 5 0xD2 [0]), 5, hnd 5 0xD2 [0], _, 6, ⟨by decide, rfl, by decide, by decide, by decide, by decide⟩⟩⟩

/-- Meets the hypotheses of `Obligations.PanelFrames`. -/
theorem witness_PanelFrames :
    (∃ (s : State), (s.pnl.inActive = true ∨ s.runs 8 = false ∨ s.fld Reg.PNL_STATUS_STATE = 0 ∨ (s.fld Reg.PNL_STATUS_STATE ≠ 1 ∧ s.timerDue .frame (s.lineTicks s.frameLines) = false))) ∧
    (∃ (s t : State), s.pnl.inActive = false ∧ s.runs 8 = true ∧ s.fld Reg.PNL_STATUS_STATE = 2 ∧ s.timerDue .frame (s.lineTicks s.frameLines) = true ∧ s.pnl.palettes = [] ∧ t = s.timerStart .frame) ∧
    (∃ (s t : State), ∃ h bs, s.pnl.inActive = false ∧ s.runs 8 = true ∧ s.fld Reg.PNL_STATUS_STATE = 2 ∧ s.timerDue .frame (s.lineTicks s.frameLines) = true ∧ s.pnl.palettes = [(h, bs)] ∧ t = ({ s.timerStart .frame with pnl := { s.pnl with ofs := s.fld Reg.PNL_FB_OFS, palettes := [], inActive := true, line := 0, crc := 0xFFFFFFFF, same := 0 } } : State)) ∧
    (∃ (s t : State) (h : Nat), s.pnl.inActive = false ∧ s.runs 8 = true ∧ s.pnl.palettes = [] ∧ s.fld Reg.PNL_STATUS_STATE = 1 ∧ s.pnl.starters = [h] ∧ t = ({ s.setF Reg.PNL_STATUS_STATE 2 with pnl := { s.pnl with starters := [] } } : State)) ∧
    (∃ (s t : State) (h : Nat), s.pnl.inActive = false ∧ s.runs 8 = true ∧ s.pnl.palettes = [] ∧ s.fld Reg.PNL_STATUS_STATE = 3 ∧ s.pnl.stoppers = [h] ∧ s.pnl.again = none ∧ s.timerDue .frame (s.lineTicks s.frameLines) = true ∧ t = (s.setF Reg.PNL_STATUS_STATE 0).setF Reg.PNL_STATUS_DIV 0) ∧
    (∃ (s : State), ∃ (h : Nat), ∃ g, s.pnl.inActive = false ∧ s.runs 8 = true ∧ s.pnl.palettes = [] ∧ s.fld Reg.PNL_STATUS_STATE = 3 ∧ s.pnl.stoppers = [h] ∧ s.pnl.again = some g ∧ s.timerDue .frame (s.lineTicks s.frameLines) = true) ∧
    (∃ (s : State) (n : Fin 2048) (w m f o k : Nat) (px : List (Nat × Nat × Nat)), s.runs 8 = true ∧ s.pnl.inActive = true ∧ s.pnl.line < s.fld Reg.PNL_VTIM0_V_ACTIVE ∧ w = s.fld Reg.PNL_HTIM0_H_ACTIVE ∧ f = s.fld Reg.PNL_CFG ∧ m = f % 4 ∧ o = s.pnl.ofs * 64 + s.pnl.line * s.fld Reg.PNL_STRIDE ∧ k = (if s.memReady then n.val else 0) ∧ (px = (List.range w).map (fun x => if x < k then s.pixel (f.testBit 2) ((o + (if f.testBit 2 then 4 else 1) * x) % 2 ^ 24) else (0, 0, 0)))) ∧
    (∃ (s : State) (o a v : Nat), a = s.rgnBase 6 + o ∧ s.poisoned a 1 = false ∧ v = s.fld Reg.PNL_PAL (s.mem.ext.read a).toNat) ∧
    (∃ (s : State) (o a v : Nat), a = s.rgnBase 6 + o ∧ s.poisoned a 1 = true ∧ v = s.fld Reg.PNL_PAL 0) ∧
    (∃ (e : Nat) (de vs hs : Bool), e = 64 * b2n de + 32 * b2n vs + 16 * b2n hs) ∧
    (∃ (s : State) (g n : Nat), s.runs 8 = true ∧ s.pnl.inActive = true ∧ s.pnl.line = s.fld Reg.PNL_VTIM0_V_ACTIVE ∧ s.timerDue .frame (s.lineTicks s.activeEnd) = true ∧ g = s.pnl.crc ^^^ 0xFFFFFFFF ∧ n = (if s.pnl.prev = some g then s.pnl.same + 1 else 0)) ∧
    (∃ (s : State), (s.pnl.inActive = false ∨ s.runs 8 = false)) ∧
    (∃ (s : State), s.timerDue .frame (s.lineTicks s.activeEnd) = false) :=
  ⟨⟨run, by decide⟩,
   ⟨panel 2, _, ⟨by decide, by decide, by decide, by decide, by decide, rfl⟩⟩,
   ⟨State.holds (State.panel (panel 2) (fun p => { p with palettes := [(5, [])] })) (hnd 5 0xD1 []), _, 5, [], ⟨by decide, by decide, by decide, by decide, by decide, rfl⟩⟩,
   ⟨State.holds (State.panel (panel 1) (fun p => { p with starters := [5] })) (hnd 5 0xD2 []), _, 5, ⟨by decide, by decide, by decide, by decide, by decide, rfl⟩⟩,
   ⟨State.holds (State.panel (panel 3) (fun p => { p with stoppers := [5] })) (hnd 5 0xD2 []), _, 5, ⟨by decide, by decide, by decide, by decide, by decide, by decide, by decide, rfl⟩⟩,
   ⟨State.holds (State.panel (panel 3) (fun p => { p with stoppers := [5], again := some 6 })) (hnd 5 0xD2 []), 5, 6, by decide⟩,
   ⟨State.panel (State.sets run [(Reg.PNL_VTIM0_V_ACTIVE, 0, 32), (Reg.PNL_HTIM0_H_ACTIVE, 0, 64)]) (fun p => { p with inActive := true, line := 31 }), 64, _, _, _, _, _, _, ⟨by decide, by decide, by decide, rfl, rfl, rfl, rfl, rfl, rfl⟩⟩,
   ⟨run, 0xFFFFFF, _, _, ⟨rfl, by decide, rfl⟩⟩,
   ⟨State.mctl run (fun m => { m with poison := [0] }), 63, _, _, ⟨rfl, by decide, rfl⟩⟩,
   ⟨_, true, true, true, rfl⟩,
   ⟨State.panel (State.sets run [(Reg.PNL_VTIM0_V_ACTIVE, 0, 32), (Reg.PNL_HTIM0_H_ACTIVE, 0, 64)]) (fun p => { p with inActive := true, line := 32 }), _, _, ⟨by decide, by decide, by decide, by decide, rfl, rfl⟩⟩,
   ⟨run, by decide⟩,
   ⟨{ panel 2 with timers := [(.frame, 1)] }, by decide⟩⟩

/-- Meets the hypotheses of `Obligations.CalibrationCommands`. -/
theorem witness_CalibrationCommands :
    (∃ (s : State) (h : Fin 256) (x : Handle) (m : Nat), s.cmd? h.val 0x70 = some x ∧ x.p 0 = m ∧ (m = 0 ∨ 127 < m)) ∧
    (∃ (s : State) (h : Fin 256) (x : Handle) (m : Nat), s.cmd? h.val 0x70 = some x ∧ x.p 0 = m ∧ 1 ≤ m ∧ m ≤ 127 ∧ s.cal.run.isSome = true) ∧
    (∃ (s : State) (h : Fin 256) (x : Handle) (m : Nat), s.cmd? h.val 0x70 = some x ∧ x.p 0 = m ∧ 32 ≤ m ∧ m ≤ 127 ∧ s.cal.run = none ∧ s.acqRuns = true) ∧
    (∃ (s : State) (h : Fin 256) (x : Handle) (m : Nat), s.cmd? h.val 0x70 = some x ∧ x.p 0 = m ∧ 32 ≤ m ∧ m ≤ 127 ∧ s.cal.run = none ∧ s.acqRuns = false ∧ s.loaderPers = true) ∧
    (∃ (s : State), ∃ (h : Fin 256), ∃ (x : Handle), ∃ (m : Nat), ∃ l, s.cmd? h.val 0x70 = some x ∧ x.p 0 = m ∧ m ≤ 127 ∧ s.cal.run = none ∧ (32 ≤ m → s.acqRuns = false ∧ s.loaderPers = false) ∧ s.cal.visit = none ∧ s.fld Reg.RCV_SP_STATUS_PHASE = 0 ∧ s.runs 1 = true ∧ l < 7 ∧ m.testBit l = true ∧ (∀ j, j < l → m.testBit j = false)) ∧
    (∃ (s : State) (h : Fin 256) (x : Handle), s.cmd? h.val 0x71 = some x) ∧
    (∃ (s : State) (h : Fin 256) (x : Handle) (st g k : Nat), s.cmd? h.val 0x72 = some x ∧ st = s.fld Reg.CAL_STATUS_STORE ∧ g = (if st = 0 then 1 else s.fld Reg.CAL_GEN + 1) ∧ k = (if st = 1 then 1 else 0) ∧ s.cal.run.isSome = true) ∧
    (∃ (s : State) (h : Fin 256) (x : Handle) (st g k : Nat), s.cmd? h.val 0x72 = some x ∧ st = s.fld Reg.CAL_STATUS_STORE ∧ g = (if st = 0 then 1 else s.fld Reg.CAL_GEN + 1) ∧ k = (if st = 1 then 1 else 0) ∧ s.cal.run = none ∧ st ≠ 0 ∧ s.fld Reg.CAL_GEN = 0xFFFFFFFE) ∧
    (∃ (s : State) (h : Fin 256) (x : Handle) (b : Bool) (st g k : Nat), s.cmd? h.val 0x72 = some x ∧ st = s.fld Reg.CAL_STATUS_STORE ∧ g = (if st = 0 then 1 else s.fld Reg.CAL_GEN + 1) ∧ k = (if st = 1 then 1 else 0) ∧ s.cal.run = none ∧ (st = 0 ∨ s.fld Reg.CAL_GEN < 0xFFFFFFFE) ∧ b = true ∧ s.pw.brownBlock = false) ∧
    (∃ (s : State) (h : Fin 256) (x : Handle) (b : Bool) (st g k : Nat), s.cmd? h.val 0x72 = some x ∧ st = s.fld Reg.CAL_STATUS_STORE ∧ g = (if st = 0 then 1 else s.fld Reg.CAL_GEN + 1) ∧ k = (if st = 1 then 1 else 0) ∧ s.cal.run = none ∧ (st = 0 ∨ s.fld Reg.CAL_GEN < 0xFFFFFFFE) ∧ (b = false ∨ s.pw.brownBlock = true)) ∧
    (∃ (s v : State) (h : Fin 256) (d : CmdData) (x : Handle) (b : Buffer), s.cmd? h.val 0x73 = some x ∧ s.buffer x d = (b, v) ∧ segsLen b.1 < 2368 ∧ b.2 = .whole) ∧
    (∃ (s v : State) (h : Fin 256) (d : CmdData) (x : Handle) (b : Buffer), s.cmd? h.val 0x73 = some x ∧ s.buffer x d = (b, v) ∧ 2368 ≤ segsLen b.1) :=
  ⟨⟨State.holds (run) (hnd 5 0x70 [128]), 5, hnd 5 0x70 [128], 128, by decide⟩,
   ⟨State.holds (State.calib run (fun a => { a with run := some ⟨9, 64, [], 0⟩ })) (hnd 5 0x70 [127]), 5, hnd 5 0x70 [127], 127, by decide⟩,
   ⟨State.holds (acquires) (hnd 5 0x70 [32]), 5, hnd 5 0x70 [32], 32, by decide⟩,
   ⟨State.holds (State.sets run [(Reg.SUM_BOOT_STATUS_PERSONALITY, 0, 2)]) (hnd 5 0x70 [32]), 5, hnd 5 0x70 [32], 32, by decide⟩,
   ⟨State.holds (run) (hnd 5 0x70 [64]), 5, hnd 5 0x70 [64], 64, 6, by decide⟩,
   ⟨State.holds (run) (hnd 5 0x71 [1]), 5, hnd 5 0x71 [1], by decide⟩,
   ⟨State.holds (State.calib run (fun a => { a with run := some ⟨9, 64, [], 0⟩ })) (hnd 5 0x72 []), 5, hnd 5 0x72 [], _, _, _, ⟨by decide, rfl, rfl, rfl, by decide⟩⟩,
   ⟨State.holds (State.sets run [(Reg.CAL_STATUS_STORE, 0, 1), (Reg.CAL_GEN, 0, 0xFFFFFFFE)]) (hnd 5 0x72 []), 5, hnd 5 0x72 [], _, _, _, ⟨by decide, rfl, rfl, rfl, by decide, by decide, by decide⟩⟩,
   ⟨State.holds (State.sets run [(Reg.CAL_STATUS_STORE, 0, 2), (Reg.CAL_GEN, 0, 0xFFFFFFFD)]) (hnd 5 0x72 []), 5, hnd 5 0x72 [], true, _, _, _, ⟨by decide, rfl, rfl, rfl, by decide, by decide, by decide, by decide⟩⟩,
   ⟨State.holds (run) (hnd 5 0x72 []), 5, hnd 5 0x72 [], false, _, _, _, ⟨by decide, rfl, rfl, rfl, by decide, by decide, by decide⟩⟩,
   ⟨State.holds run (buf 0x73 [] 2367), State.holds run (buf 0x73 [] 2367), 5, data [], buf 0x73 [] 2367, ([(0x1000, 2367)], .whole), ⟨by decide, rfl, by decide, by decide⟩⟩,
   ⟨State.holds run (buf 0x73 [] 2368), State.holds run (buf 0x73 [] 2368), 5, data [], buf 0x73 [] 2368, ([(0x1000, 2368)], .whole), ⟨by decide, rfl, by decide⟩⟩⟩

/-- Meets the hypotheses of `Obligations.CalibrationVisits`. -/
theorem witness_CalibrationVisits :
    (∃ (s : State), (s.on Reg.CAL_STATUS_BG_ON = false ∨ s.cal.run.isSome = true ∨ s.cal.visit.isSome = true ∨ s.pstate ≠ stRun ∨ s.timerDue .rotation (ticksS s.bgPeriod) = false)) ∧
    (∃ (s : State) (l : Nat), s.on Reg.CAL_STATUS_BG_ON = true ∧ s.cal.run = none ∧ s.cal.visit = none ∧ s.pstate = stRun ∧ s.runs 1 = true ∧ s.timerDue .rotation (ticksS s.bgPeriod) = true ∧ s.fld Reg.RCV_SP_STATUS_PHASE = 0 ∧ l = s.fld Reg.CAL_STATUS_BG_NEXT % 5) ∧
    (∃ (s : State) (l : Nat), s.on Reg.CAL_STATUS_BG_ON = true ∧ s.cal.run = none ∧ s.cal.visit = none ∧ s.pstate = stRun ∧ s.timerDue .rotation (ticksS s.bgPeriod) = true ∧ s.on Reg.RCV_SP_CTL_PIN = true ∧ s.spHolds l = true ∧ l < 3 ∧ s.fld Reg.CAL_STATUS_BG_NEXT = l) ∧
    (∃ (s : State), (s.cal.visit = none ∨ (∀ v, s.cal.visit = some v → s.timerDue .visit (visitTicks v.lane) = false))) ∧
    (∃ (s : State) (l : Fin 4), s.cal.visit = some ⟨l.val, false, false⟩ ∧ s.spHolds l = true ∧ s.timerDue .visit (ticksMs 40) = true ∧ s.cal.run = none) ∧
    (∃ (s : State) (m : LaneMeas) (k : Fin 2) (c : CalRun) (o n : List Int), s.cal.visit = some ⟨5 + k.val, true, false⟩ ∧ s.timerDue .visit (ticksMs 20) = true ∧ s.cal.run = some c ∧ c.left = [] ∧ s.fld Reg.RCV_SP_STATUS_PHASE = 0 ∧ o = codesOf (s.fld Reg.CAL_DAC_TRIM k) ∧ n = newCodes true (k == 0) false 0 o m ∧ offRail n = false) ∧
    (∃ (s : State) (m : LaneMeas) (k : Fin 2) (c : CalRun) (o n : List Int), s.cal.visit = some ⟨5 + k.val, true, false⟩ ∧ s.timerDue .visit (ticksMs 20) = true ∧ s.cal.run = some c ∧ c.left = [] ∧ s.fld Reg.RCV_SP_STATUS_PHASE = 0 ∧ o = codesOf (s.fld Reg.CAL_DAC_TRIM k) ∧ n = newCodes true (k == 0) false 0 o m ∧ offRail n = true) ∧
    (∃ (dac pi : Bool) (o : List Int) (w f : Int), w = (if dac then 2 ^ 22 else 2 ^ 21) ∧ f = (if dac then 3072 else 768) * 2 ^ 24 ∧ o.length = 4 ∧ pi = true) ∧
    (∃ (dac q : Bool) (o : List Int) (w f : Int), w = (if dac then 2 ^ 22 else 2 ^ 21) ∧ f = (if dac then 3072 else 768) * 2 ^ 24 ∧ o.length = 4 ∧ q = false) :=
  ⟨⟨run, by decide⟩,
   ⟨State.sets run [(Reg.CAL_STATUS_BG_ON, 0, 1), (Reg.CAL_STATUS_BG_NEXT, 0, 4)], 4, by decide⟩,
   ⟨State.sets run [(Reg.CAL_STATUS_BG_ON, 0, 1), (Reg.CAL_STATUS_BG_NEXT, 0, 2), (Reg.RCV_SP_CTL_PIN, 0, 1), (Reg.RCV_SP_STATUS_PHASE, 0, spCarry), (Reg.RCV_SP_STATUS_LANE, 0, 2)], 2, by decide⟩,
   ⟨run, .inl rfl⟩,
   ⟨State.calib (State.sets run [(Reg.RCV_SP_STATUS_PHASE, 0, spCarry), (Reg.RCV_SP_STATUS_LANE, 0, 3)]) (fun a => { a with visit := some ⟨3, false, false⟩ }), 3, by decide⟩,
   ⟨State.holds (State.calib run (fun a => { a with visit := some ⟨6, true, false⟩, run := some ⟨9, 64, [], 0⟩ })) (hnd 9 0x70 [64]), ⟨128 * 2 ^ 22, stepTwo true, 0, 0, 0⟩, 1, ⟨9, 64, [], 0⟩, _, _, ⟨by decide, by decide, by decide, by decide, by decide, rfl, rfl, by decide +kernel⟩⟩,
   ⟨State.holds (State.calib run (fun a => { a with visit := some ⟨6, true, false⟩, run := some ⟨9, 64, [], 0⟩ })) (hnd 9 0x70 [64]), ⟨129 * 2 ^ 22, stepTwo true, 0, 0, 0⟩, 1, ⟨9, 64, [], 0⟩, _, _, ⟨by decide, by decide, by decide, by decide, by decide, rfl, rfl, by decide +kernel⟩⟩,
   ⟨true, true, [0, 0, 0, 0], _, _, ⟨rfl, rfl, rfl, rfl⟩⟩,
   ⟨true, false, [0, 0, 0, 0], _, _, ⟨rfl, rfl, rfl, rfl⟩⟩⟩

/-- Meets the hypotheses of `Obligations.UpdateCommands`. -/
theorem witness_UpdateCommands :
    (∃ (s : State), ∃ (h : Fin 256), ∃ (d : CmdData), ∃ (x : Handle), ∃ (r : Nat), ∃ i op, s.fwRuns h.val = some r ∧ (i, op) ∈ [(Instr.fwBegin h, 0x80), (.fwBlock h d, 0x81), (.fwVerify h, 0x82), (.fwActivate h, 0x83), (.fwConfirm h, 0x84)] ∧ s.cmd? h.val op = some x) ∧
    (∃ (s : State), s.activating = true) ∧
    (∃ (s : State), ∃ (h : Nat), ∃ k t y, s.activating = false ∧ ⟨t, .cmd k, false⟩ ∈ s.hq.reads ∧ k ≠ h ∧ s.handle? k = some y ∧ 0x80 ≤ y.op ∧ y.op ≤ 0x84) ∧
    (∃ (s : State) (h : Fin 256) (x : Handle) (b : Nat), s.cmd? h.val 0x80 = some x ∧ s.fwRuns h.val = none ∧ x.p 0 = b ∧ (b < 4096 ∨ 67108864 < b ∨ b % 4096 ≠ 0)) ∧
    (∃ (s : State) (h : Fin 256) (x : Handle) (b : Nat), s.cmd? h.val 0x80 = some x ∧ s.fwRuns h.val = none ∧ x.p 0 = b ∧ 4096 ≤ b ∧ b ≤ 67108864 ∧ b % 4096 = 0 ∧ s.rgnSize 5 = 0) ∧
    (∃ (s : State) (h : Fin 256) (x : Handle) (b : Nat), s.cmd? h.val 0x80 = some x ∧ s.fwRuns h.val = none ∧ x.p 0 = b ∧ 4096 ≤ b ∧ b ≤ 67108864 ∧ b % 4096 = 0 ∧ s.rgnSize 5 ≠ 0) ∧
    (∃ (s : State) (h : Fin 256) (x : Handle) (o : Nat), s.cmd? h.val 0x81 = some x ∧ s.fwRuns h.val = none ∧ x.p 0 = o ∧ s.sum.stage = none) ∧
    (∃ (s : State), ∃ (h : Fin 256), ∃ (x : Handle), ∃ (o : Nat), ∃ g, s.cmd? h.val 0x81 = some x ∧ s.fwRuns h.val = none ∧ x.p 0 = o ∧ s.sum.stage = some g ∧ (o % 65536 ≠ 0 ∨ g.bytes ≤ o)) ∧
    (∃ (s : State), ∃ (h : Fin 256), ∃ (d : CmdData), ∃ (x : Handle), ∃ (o : Nat), ∃ g n k bs v, s.cmd? h.val 0x81 = some x ∧ s.fwRuns h.val = none ∧ x.p 0 = o ∧ s.sum.stage = some g ∧ o % 65536 = 0 ∧ o < g.bytes ∧ n = min 65536 (g.bytes - o) ∧ s.dataOf x d = some (k, bs) ∧ v = s.dataRead x d ∧ k ≠ n) ∧
    (∃ (s : State), ∃ (h : Fin 256), ∃ (d : CmdData), ∃ (x : Handle), ∃ (o : Nat), ∃ g n k bs v, s.cmd? h.val 0x81 = some x ∧ s.fwRuns h.val = none ∧ x.p 0 = o ∧ s.sum.stage = some g ∧ o % 65536 = 0 ∧ o < g.bytes ∧ n = min 65536 (g.bytes - o) ∧ s.dataOf x d = some (k, bs) ∧ v = s.dataRead x d ∧ k = n ∧ v.memReady = false) ∧
    (∃ (s : State), ∃ (h : Fin 256), ∃ (d : CmdData), ∃ (x : Handle), ∃ (o : Nat), ∃ g n k bs v, s.cmd? h.val 0x81 = some x ∧ s.fwRuns h.val = none ∧ x.p 0 = o ∧ s.sum.stage = some g ∧ o % 65536 = 0 ∧ o < g.bytes ∧ n = min 65536 (g.bytes - o) ∧ s.dataOf x d = some (k, bs) ∧ v = s.dataRead x d ∧ k = n ∧ v.memReady = true ∧ bs.length = n) ∧
    (∃ (s : State) (h : Fin 256) (x : Handle), s.cmd? h.val 0x82 = some x ∧ s.fwRuns h.val = none ∧ s.sum.stage = none) ∧
    (∃ (s : State), ∃ (h : Fin 256), ∃ (x : Handle), ∃ g i, s.cmd? h.val 0x82 = some x ∧ s.fwRuns h.val = none ∧ s.sum.stage = some g ∧ i < (65535 + g.bytes) / 65536 ∧ i ∉ g.blocks ∧ (∀ j, j < i → j ∈ g.blocks) ∧ s.memReady = true) ∧
    (∃ (s : State), ∃ (h : Fin 256), ∃ (x : Handle), ∃ g st det r0 r1 e p, s.cmd? h.val 0x82 = some x ∧ s.fwRuns h.val = none ∧ s.sum.stage = some g ∧ s.memReady = true ∧ g.missing = none ∧ s.stageVerdict g = .bad st det r0 r1 e p) ∧
    (∃ (s : State), ∃ (h : Fin 256), ∃ (x : Handle), ∃ g, s.cmd? h.val 0x82 = some x ∧ s.fwRuns h.val = none ∧ s.sum.stage = some g ∧ s.memReady = false) ∧
    (∃ (s : State), ∃ (h : Fin 256), ∃ (x : Handle), ∃ g m, ∃ p, s.cmd? h.val 0x82 = some x ∧ s.fwRuns h.val = none ∧ s.sum.stage = some g ∧ s.memReady = true ∧ s.stageVerdict g = .ok ∧ m = s.stageGet 0 4096 ∧ p ∈ manParts m) ∧
    (∃ (s v : State) (h : Fin 256) (x : Handle) (m : List Byte), s.cmd? h.val 0x83 = some x ∧ s.fwRuns h.val = none ∧ v = s.takeUp h.val ∧ m = v.stageGet 0 4096 ∧ s.journal.state ≠ 2) ∧
    (∃ (s v : State) (h : Fin 256) (x : Handle) (m : List Byte), s.cmd? h.val 0x83 = some x ∧ s.fwRuns h.val = none ∧ v = s.takeUp h.val ∧ m = v.stageGet 0 4096 ∧ s.journal.state = 2) ∧
    (∃ (s : State) (h : Fin 256) (x : Handle), s.cmd? h.val 0x84 = some x ∧ s.fwRuns h.val = none ∧ s.loaderPers = true) ∧
    (∃ (s : State) (h : Fin 256) (x : Handle), s.cmd? h.val 0x84 = some x ∧ s.fwRuns h.val = none ∧ s.loaderPers = false ∧ s.genConfirmed = true) ∧
    (∃ (s : State) (h : Fin 256) (x : Handle), s.cmd? h.val 0x84 = some x ∧ s.fwRuns h.val = none ∧ s.loaderPers = false ∧ s.genConfirmed = false) ∧
    (∃ (s : State) (h : Fin 256) (x : Handle), s.cmd? h.val 0x85 = some x) :=
  ⟨⟨State.holds (activates []) (hnd 5 0x80 []), 5, data [], hnd 5 0x80 [], 0x83, .fwBegin 5, 0x80, ⟨by decide, List.mem_cons_self, by decide⟩⟩,
   ⟨activates [], by decide⟩,
   ⟨(let z := State.holds run (hnd 6 0x81 []); { z with hq := { z.hq with reads := [⟨0, .cmd 6, false⟩] } }), 5, 6, 0, hnd 6 0x81 [], by decide⟩,
   ⟨State.holds (run) (hnd 5 0x80 [67112960]), 5, hnd 5 0x80 [67112960], 67112960, by decide⟩,
   ⟨State.holds (run) (hnd 5 0x80 [67108864]), 5, hnd 5 0x80 [67108864], 67108864, by decide⟩,
   ⟨State.holds (State.sets run [(Reg.MEM_RGN_ESIZE, 5, 64)]) (hnd 5 0x80 [67108864]), 5, hnd 5 0x80 [67108864], 67108864, by decide⟩,
   ⟨State.holds (run) (hnd 5 0x81 [0]), 5, hnd 5 0x81 [0], 0, by decide⟩,
   ⟨State.holds (State.summit run (fun m => { m with stage := some ⟨65537, []⟩ })) (hnd 5 0x81 [131072]), 5, hnd 5 0x81 [131072], 131072, ⟨65537, []⟩, by decide⟩,
   ⟨State.holds (State.summit run (fun m => { m with stage := some ⟨65537, []⟩ })) { buf 0x81 [65536] 2 with len0 := 2 }, 5, data (zeros 2), { buf 0x81 [65536] 2 with len0 := 2 }, 65536, ⟨65537, []⟩, _, 2, zeros 2, _, ⟨by decide, by decide, by decide, by decide, by decide, by decide, rfl, by decide +kernel, rfl, by decide⟩⟩,
   ⟨State.holds (State.summit (State.sets run [(Reg.PWR_ISL_RST, 0, 4)]) (fun m => { m with stage := some ⟨65537, []⟩ })) { buf 0x81 [65536] 1 with len0 := 1 }, 5, data (zeros 1), { buf 0x81 [65536] 1 with len0 := 1 }, 65536, ⟨65537, []⟩, _, 1, zeros 1, _, ⟨by decide, by decide, by decide, by decide, by decide, by decide, rfl, by decide +kernel, rfl, by decide, by decide⟩⟩,
   ⟨State.holds (State.summit run (fun m => { m with stage := some ⟨65537, []⟩ })) { buf 0x81 [65536] 1 with len0 := 1 }, 5, data (zeros 1), { buf 0x81 [65536] 1 with len0 := 1 }, 65536, ⟨65537, []⟩, _, 1, zeros 1, _, ⟨by decide, by decide, by decide, by decide, by decide, by decide, rfl, by decide +kernel, rfl, by decide, by decide, by decide⟩⟩,
   ⟨State.holds (run) (hnd 5 0x82 []), 5, hnd 5 0x82 [], by decide⟩,
   ⟨State.holds (State.summit run (fun m => { m with stage := some ⟨65537, [0]⟩ })) (hnd 5 0x82 []), 5, hnd 5 0x82 [], ⟨65537, [0]⟩, 1, by decide⟩,
   ⟨State.holds (State.summit run (fun m => { m with stage := some ⟨4096, [0]⟩ })) (hnd 5 0x82 []), 5, hnd 5 0x82 [], ⟨4096, [0]⟩, stInvalid, 0xFF, 0, 0, 0, 0, ⟨by decide, by decide, by decide, by decide, by decide, by decide +kernel⟩⟩,
   ⟨State.holds (State.summit (State.sets run [(Reg.PWR_ISL_RST, 0, 4)]) (fun m => { m with stage := some ⟨65537, []⟩ })) (hnd 5 0x82 []), 5, hnd 5 0x82 [], ⟨65537, []⟩, by decide⟩,
   ⟨staged, 5, hnd 5 0x82 [], ⟨12288, [0]⟩, _, ⟨5, 0, 4096, 0, 1, noBytes⟩, ⟨by decide, by decide, by decide, by decide, staged_ok, rfl, by rw [staged_get, stagedMem_page, page_parts]; decide +kernel⟩⟩,
   ⟨State.holds (run) (hnd 5 0x83 []), _, 5, hnd 5 0x83 [], _, ⟨by decide, by decide, rfl, rfl, by decide +kernel⟩⟩,
   ⟨State.holds (verified) (hnd 5 0x83 []), _, 5, hnd 5 0x83 [], _, ⟨by decide, by decide, rfl, rfl, by rw [verified_journal _ rfl]; exact journal_fields.2.1⟩⟩,
   ⟨State.holds (State.sets run [(Reg.SUM_BOOT_STATUS_PERSONALITY, 0, 2)]) (hnd 5 0x84 []), 5, hnd 5 0x84 [], by decide⟩,
   ⟨State.holds ({ run with mem := { Memories.reset with mram := [(0x40004, 0x10)] } }) (hnd 5 0x84 []), 5, hnd 5 0x84 [], by decide⟩,
   ⟨State.holds (run) (hnd 5 0x84 []), 5, hnd 5 0x84 [], by decide⟩,
   ⟨State.holds (run) (hnd 5 0x85 []), 5, hnd 5 0x85 [], by decide⟩⟩

/-- Meets the hypotheses of `Obligations.ActivationAndWatchdog`. -/
theorem witness_ActivationAndWatchdog :
    (∃ (s : State), (s.sum.act = none ∨ s.sumRuns = false ∨ s.memReady = false)) ∧
    (∃ (s : State), ∃ (a : Activation), ∃ (i : Nat), ∃ (l : List Nat), ∃ (p : Part), ∃ (bs : List Byte), ∃ (m : List Byte), ∃ h, s.sum.act = some a ∧ a.left = i :: l ∧ i < 16 ∧ s.sumRuns = true ∧ s.memReady = true ∧ m = s.actGet 0 4096 ∧ p = partAt m i ∧ bs = s.actGet p.ofs p.len ∧ a.handle = some h ∧ s.poisoned (s.sum.actBase + p.ofs) p.len = false ∧ sha384 bs ≠ (s.journal.partDigests.drop (48 * i)).take 48) ∧
    (∃ (s : State), ∃ (a : Activation), ∃ (i : Nat), ∃ (l : List Nat), ∃ (p : Part), ∃ (bs : List Byte), ∃ (m : List Byte), ∃ h, s.sum.act = some a ∧ a.left = i :: l ∧ i < 16 ∧ s.sumRuns = true ∧ s.memReady = true ∧ m = s.actGet 0 4096 ∧ p = partAt m i ∧ bs = s.actGet p.ofs p.len ∧ a.handle = some h ∧ s.poisoned (s.sum.actBase + p.ofs) p.len = true) ∧
    (∃ (s : State), ∃ (a : Activation), ∃ (i : Nat), ∃ (l : List Nat), ∃ (p : Part), ∃ (bs : List Byte), ∃ (m : List Byte), ∃ h, ∃ (r : ActOutcome), s.sum.act = some a ∧ a.left = i :: l ∧ i < 16 ∧ s.sumRuns = true ∧ s.memReady = true ∧ m = s.actGet 0 4096 ∧ p = partAt m i ∧ bs = s.actGet p.ofs p.len ∧ s.poisoned (s.sum.actBase + p.ofs) p.len = false ∧ sha384 bs = (s.journal.partDigests.drop (48 * i)).take 48 ∧ a.handle = some h ∧ p.type ≠ 6 ∧ r ≠ .ok) ∧
    (∃ (s : State), ∃ (a : Activation), ∃ (i : Nat), ∃ (l : List Nat), ∃ (p : Part), ∃ (bs : List Byte), ∃ (m : List Byte), ∃ h, ∃ (r : ActOutcome), s.sum.act = some a ∧ a.left = i :: l ∧ i < 16 ∧ s.sumRuns = true ∧ s.memReady = true ∧ m = s.actGet 0 4096 ∧ p = partAt m i ∧ bs = s.actGet p.ofs p.len ∧ s.poisoned (s.sum.actBase + p.ofs) p.len = false ∧ sha384 bs = (s.journal.partDigests.drop (48 * i)).take 48 ∧ a.handle = some h ∧ p.type = 6 ∧ (r ≠ .ok ∨ compOk bs = false)) ∧
    (∃ (s : State) (a : Activation) (i : Nat) (l : List Nat) (p : Part) (bs : List Byte) (m : List Byte), s.sum.act = some a ∧ a.left = i :: l ∧ i < 16 ∧ s.sumRuns = true ∧ s.memReady = true ∧ m = s.actGet 0 4096 ∧ p = partAt m i ∧ bs = s.actGet p.ofs p.len ∧ s.poisoned (s.sum.actBase + p.ofs) p.len = false ∧ sha384 bs = (s.journal.partDigests.drop (48 * i)).take 48 ∧ p.type = 6 ∧ l ≠ [] ∧ compOk bs = true) ∧
    (∃ (s : State) (a : Activation) (i : Nat) (l : List Nat) (p : Part) (bs : List Byte) (m : List Byte), s.sum.act = some a ∧ a.left = i :: l ∧ i < 16 ∧ s.sumRuns = true ∧ s.memReady = true ∧ m = s.actGet 0 4096 ∧ p = partAt m i ∧ bs = s.actGet p.ofs p.len ∧ s.poisoned (s.sum.actBase + p.ofs) p.len = false ∧ sha384 bs = (s.journal.partDigests.drop (48 * i)).take 48 ∧ p.type ≠ 6 ∧ l ≠ [] ∧ s.pw.brownBlock = false) ∧
    (∃ (s : State) (a : Activation) (i : Nat) (l : List Nat) (p : Part) (bs : List Byte) (m : List Byte), s.sum.act = some a ∧ a.left = i :: l ∧ i < 16 ∧ s.sumRuns = true ∧ s.memReady = true ∧ m = s.actGet 0 4096 ∧ p = partAt m i ∧ bs = s.actGet p.ofs p.len ∧ s.poisoned (s.sum.actBase + p.ofs) p.len = false ∧ sha384 bs = (s.journal.partDigests.drop (48 * i)).take 48 ∧ p.type ≠ 6 ∧ l = [] ∧ s.pw.brownBlock = false) ∧
    (∃ (s : State), (s.sumRuns = false ∨ s.on Reg.SUM_BOOT_STATUS_CONFIRM_PENDING = false ∨ s.sum.confirmNs ≠ 0)) ∧
    (∃ (s : State), s.sumRuns = true ∧ s.sum.confirmNs = 0 ∧ s.on Reg.SUM_BOOT_STATUS_CONFIRM_PENDING = true) ∧
    (∃ (s : State), (s.sumRuns = false ∨ (s.pstate ≠ stRun ∧ s.pstate ≠ stLoader) ∨ s.timerDue .summit (ticksS 1) = false)) ∧
    (∃ (s : State), s.sumRuns = true ∧ (s.pstate = stRun ∨ s.pstate = stLoader) ∧ s.timerDue .summit (ticksS 1) = true) ∧
    (∃ (s : State) (v : Word), s.sumRuns = true ∧ v.toNat = 0x5A) ∧
    (∃ (s : State) (v : Word), (s.sumRuns = false ∨ v.toNat ≠ 0x5A)) :=
  ⟨⟨run, by decide⟩,
   ⟨State.summit run (fun m => { m with act := some ⟨some 9, [0]⟩ }), ⟨some 9, 0 :: []⟩, 0, [], _, _, _, 9, ⟨by decide, by decide, by decide, by decide, by decide, rfl, rfl, rfl, by decide, by decide, by decide +kernel⟩⟩,
   ⟨longPart, ⟨some 9, [0]⟩, 0, [], _, _, _, 9, ⟨by decide, by decide, by decide, by decide, by decide, rfl, rfl, rfl, by decide, by decide +kernel⟩⟩,
   ⟨activates [], ⟨some 9, 0 :: []⟩, 0, [], _, _, _, 9, .flashBad, ⟨by decide, by decide, by decide, by decide, by decide, rfl, rfl, rfl, by decide, activates_digest _, by decide, by rw [activates_part]; decide, by decide⟩⟩,
   ⟨companion [], ⟨some 9, [1]⟩, 1, [], _, _, _, 9, .companionBad, ⟨by decide, by decide, by decide, by decide, by decide, rfl, rfl, rfl, by decide, companion_digest _, by decide, by rw [companion_part], by decide⟩⟩,
   ⟨companion [2], ⟨some 9, [1, 2]⟩, 1, [2], _, _, _, ⟨by decide, by decide, by decide, by decide, by decide, rfl, rfl, rfl, by decide, companion_digest _, by rw [companion_part], by decide, companion_ok _⟩⟩,
   ⟨activates [1], ⟨some 9, 0 :: [1]⟩, 0, [1], _, _, _, ⟨by decide, by decide, by decide, by decide, by decide, rfl, rfl, rfl, by decide, activates_digest _, by rw [activates_part]; decide, by decide, by decide⟩⟩,
   ⟨activates [], ⟨some 9, 0 :: []⟩, 0, [], _, _, _, ⟨by decide, by decide, by decide, by decide, by decide, rfl, rfl, rfl, by decide, activates_digest _, by rw [activates_part]; decide, rfl, by decide⟩⟩,
   ⟨run, by decide⟩,
   ⟨State.sets run [(Reg.SUM_BOOT_STATUS_CONFIRM_PENDING, 0, 1)], by decide⟩,
   ⟨watch run, by decide⟩,
   ⟨run, by decide⟩,
   ⟨run, 0x5A, by decide⟩,
   ⟨run, 0x5B, by decide⟩⟩

/-- Meets the hypotheses of `Obligations.LogAndSensors`. -/
theorem witness_LogAndSensors :
    (∃ (s : State) (h : Fin 256) (x : Handle) (p : Nat), s.cmd? h.val 0x90 = some x ∧ x.p 1 = p ∧ (p = 0 ∨ 32768 < p)) ∧
    (∃ (s : State) (h : Fin 256) (d : CmdData) (x : Handle) (p : Nat) (b : Buffer) (v : State) (w : List Nat) (n : Nat), s.cmd? h.val 0x90 = some x ∧ x.p 1 = p ∧ 1 ≤ p ∧ p ≤ 32768 ∧ s.buffer x d = (b, v) ∧ b.2 = .whole ∧ w = s.logWalk (x.p 0 % 2 ^ 24) ∧ n = min w.length (min p (segsLen b.1 / 32)) ∧ segsLen b.1 < 32) ∧
    (∃ (s : State) (h : Fin 256) (d : CmdData) (x : Handle) (p : Nat) (b : Buffer) (v : State) (w : List Nat) (n : Nat), s.cmd? h.val 0x90 = some x ∧ x.p 1 = p ∧ 1 ≤ p ∧ p ≤ 32768 ∧ s.buffer x d = (b, v) ∧ b.2 = .whole ∧ w = s.logWalk (x.p 0 % 2 ^ 24) ∧ n = min w.length (min p (segsLen b.1 / 32)) ∧ 32 ≤ segsLen b.1 ∧ w = []) ∧
    (∃ (s : State) (h : Fin 256) (d : CmdData) (x : Handle) (p : Nat) (b : Buffer) (v : State) (w : List Nat) (n : Nat) (f : Nat → List Byte), s.cmd? h.val 0x90 = some x ∧ x.p 1 = p ∧ 1 ≤ p ∧ p ≤ 32768 ∧ s.buffer x d = (b, v) ∧ b.2 = .whole ∧ w = s.logWalk (x.p 0 % 2 ^ 24) ∧ n = min w.length (min p (segsLen b.1 / 32)) ∧ 32 ≤ segsLen b.1 ∧ w ≠ [] ∧ (∀ q ∈ w, s.logBytes q = some (f q))) ∧
    (∃ (s : State) (q : Nat) (a : Nat) (o : Nat) (n : Nat), s.log.count = n + 1 ∧ n < 2 ^ 23 ∧ s.log.next < 2 ^ 24 ∧ q < 2 ^ 24 ∧ a = (s.log.next + 2 ^ 24 - 1) % 2 ^ 24 ∧ o = (a + 2 ^ 24 - n) % 2 ^ 24 ∧ (q + 2 ^ 24 - o) % 2 ^ 24 ≤ n) ∧
    (∃ (s : State) (q : Nat) (a : Nat) (o : Nat) (n : Nat), s.log.count = n + 1 ∧ n < 2 ^ 23 ∧ s.log.next < 2 ^ 24 ∧ q < 2 ^ 24 ∧ a = (s.log.next + 2 ^ 24 - 1) % 2 ^ 24 ∧ o = (a + 2 ^ 24 - n) % 2 ^ 24 ∧ n < (q + 2 ^ 24 - o) % 2 ^ 24 ∧ 1 ≤ (q + 2 ^ 24 - a) % 2 ^ 24 ∧ (q + 2 ^ 24 - a) % 2 ^ 24 ≤ 2 ^ 23) ∧
    (∃ (s : State) (q : Nat) (a : Nat) (o : Nat) (n : Nat), s.log.count = n + 1 ∧ n < 2 ^ 23 ∧ s.log.next < 2 ^ 24 ∧ q < 2 ^ 24 ∧ a = (s.log.next + 2 ^ 24 - 1) % 2 ^ 24 ∧ o = (a + 2 ^ 24 - n) % 2 ^ 24 ∧ n < (q + 2 ^ 24 - o) % 2 ^ 24 ∧ 2 ^ 23 < (q + 2 ^ 24 - a) % 2 ^ 24) ∧
    (∃ (s : State) (v : State) (h : Fin 256) (x : Handle) (d : List Byte) (e : List Byte), s.cmd? h.val 0x91 = some x ∧ (d = (List.range 4).flatMap (fun i => leBytes 4 (x.p i))) ∧ e = leBytes 4 (x.p 4) ++ leBytes 4 (x.p 5) ∧ v = s.logPut 0 0x0F00 0x22 s.now d) ∧
    (∃ (s : State) (t : State) (c : Nat) (r : Nat) (k : Nat) (d : List Byte), s.log.next < 2 ^ 24 ∧ s.log.count ≤ 32768 ∧ t = s.logPut 0 c r k d) ∧
    (∃ (s : State) (v : State) (h : Fin 256) (d : CmdData) (x : Handle) (b : Buffer), s.cmd? h.val 0x92 = some x ∧ s.buffer x d = (b, v) ∧ segsLen b.1 < 64 ∧ b.2 = .whole) ∧
    (∃ (s : State) (v : State) (h : Fin 256) (d : CmdData) (x : Handle) (b : Buffer), s.cmd? h.val 0x92 = some x ∧ s.buffer x d = (b, v) ∧ 64 ≤ segsLen b.1) ∧
    (∃ (s : State), ∃ (b : List Byte), ∃ i, b = s.sensorRecord ∧ i < 8) ∧
    (∃ (s : State), ∃ (b : List Byte), ∃ i, b = s.sensorRecord ∧ i < 12) ∧
    (∃ (s : State) (v : State) (h : Fin 256) (d : CmdData) (n : Nat) (r : List Byte) (x : Handle), s.cmd? h.val 0x93 = some x ∧ s.dataOf x d = some (n, r) ∧ v = s.dataRead x d ∧ n ≠ 96) ∧
    (∃ (s : State), ∃ (v : State), ∃ (h : Fin 256), ∃ (d : CmdData), ∃ (n : Nat), ∃ (r : List Byte), ∃ (x : Handle), ∃ o, s.cmd? h.val 0x93 = some x ∧ s.dataOf x d = some (n, r) ∧ v = s.dataRead x d ∧ n = 96 ∧ limitsBad r = some o) ∧
    (∃ (s : State) (v : State) (h : Fin 256) (d : CmdData) (n : Nat) (r : List Byte) (x : Handle), s.cmd? h.val 0x93 = some x ∧ s.dataOf x d = some (n, r) ∧ v = s.dataRead x d ∧ n = 96 ∧ limitsBad r = none) ∧
    (∃ (s : State) (r : List Byte) (m : Summit), m = (s.setLimits r).sum) ∧
    (∃ (r : List Byte), ∃ i, limitsBad r = none ∧ i < 20) ∧
    (∃ (r : List Byte), field r 0 4 = 0x544D4C53 ∧ field r 4 2 = 1 ∧ 1 ≤ field r 6 1 ∧ field r 6 1 ≤ 64 ∧ field r 7 1 ≠ 0 ∧ field r 8 8 = 0 ∧ (∀ i, i < 20 → (limitPair r i).1 < (limitPair r i).2)) ∧
    (∃ (s : State), (s.pw.standby = true ∨ s.pw.phase = .held ∨ s.timerDue .sensors (ticksMs 10) = false)) ∧
    (∃ (s : State) (ts : List Int) (vs : List Nat) (r : Nat → Int), s.pw.standby = false ∧ s.pw.phase ≠ .held ∧ s.timerDue .sensors (ticksMs 10) = true ∧ ts.length = 8 ∧ vs.length = 12 ∧ (∀ x ∈ ts, -32768 ≤ x ∧ x < 32768) ∧ (∀ v ∈ vs, v < 65536) ∧ (r = (fun i => if i < 8 then ts.getD i 0 else (vs.getD (i - 8) 0 : Int)))) :=
  ⟨⟨State.holds (run) (hnd 5 0x90 [0, 32769]), 5, hnd 5 0x90 [0, 32769], 32769, by decide⟩,
   ⟨State.holds (run) (buf 0x90 [0, 32768] 31), 5, data [], buf 0x90 [0, 32768] 31, 32768, ([(0x1000, 31)], .whole), State.holds (run) (buf 0x90 [0, 32768] 31), [], 0, ⟨by decide, by decide, by decide, by decide, rfl, by decide, rfl, rfl, by decide⟩⟩,
   ⟨State.holds (run) (buf 0x90 [0, 32768] 32), 5, data [], buf 0x90 [0, 32768] 32, 32768, ([(0x1000, 32)], .whole), State.holds (run) (buf 0x90 [0, 32768] 32), [], 0, ⟨by decide, by decide, by decide, by decide, rfl, by decide, rfl, rfl, by decide, by decide⟩⟩,
   ⟨State.holds (State.logged run (fun l => { l with buf := [entry 0], count := 1, next := 1 })) (buf 0x90 [0, 32768] 32), 5, data [], buf 0x90 [0, 32768] 32, 32768, ([(0x1000, 32)], .whole), State.holds (State.logged run (fun l => { l with buf := [entry 0], count := 1, next := 1 })) (buf 0x90 [0, 32768] 32), [0], 1, fun q => (entry 0).bytes, ⟨by decide, by decide, by decide, by decide, rfl, by decide, rfl, rfl, by decide, by decide, by decide +kernel⟩⟩,
   ⟨State.logged run (fun l => { l with count := 2 ^ 23, next := 0 }), 2 ^ 23, _, _, 2 ^ 23 - 1, by refine ⟨?_, ?_, ?_, ?_, rfl, rfl, ?_⟩ <;> decide⟩,
   ⟨State.logged run (fun l => { l with count := 2 ^ 23 - 1, next := 0 }), 1, _, _, 2 ^ 23 - 1 - 1, by refine ⟨?_, ?_, ?_, ?_, rfl, rfl, ?_⟩ <;> decide⟩,
   ⟨State.logged run (fun l => { l with count := 1, next := 0 }), 2 ^ 23, _, _, 1 - 1, by refine ⟨?_, ?_, ?_, ?_, rfl, rfl, ?_⟩ <;> decide⟩,
   ⟨State.holds run (hnd 5 0x91 [1, 2, 3, 4, 5, 6]), _, 5, hnd 5 0x91 [1, 2, 3, 4, 5, 6], _, _, ⟨by decide, rfl, rfl, rfl⟩⟩,
   ⟨run, _, 1, 2, 3, [], ⟨by decide, by decide, rfl⟩⟩,
   ⟨State.holds run (buf 0x92 [] 63), State.holds run (buf 0x92 [] 63), 5, data [], buf 0x92 [] 63, ([(0x1000, 63)], .whole), ⟨by decide, rfl, by decide, by decide⟩⟩,
   ⟨State.holds run (buf 0x92 [] 64), State.holds run (buf 0x92 [] 64), 5, data [], buf 0x92 [] 64, ([(0x1000, 64)], .whole), ⟨by decide, rfl, by decide⟩⟩,
   ⟨run, _, 7, ⟨rfl, by decide⟩⟩,
   ⟨run, _, 11, ⟨rfl, by decide⟩⟩,
   ⟨State.holds run (buf 0x93 [] 95), _, 5, data (zeros 95), 95, (zeros 95), buf 0x93 [] 95, by refine ⟨?_, ?_, rfl, ?_⟩ <;> decide +kernel⟩,
   ⟨State.holds run (buf 0x93 [] 96), _, 5, data (zeros 96), 96, (zeros 96), buf 0x93 [] 96, 0, by refine ⟨?_, ?_, rfl, ?_, ?_⟩ <;> decide +kernel⟩,
   ⟨State.holds run (buf 0x93 [] 96), _, 5, data limits, 96, limits, buf 0x93 [] 96, by refine ⟨?_, ?_, rfl, ?_, ?_⟩ <;> decide +kernel⟩,
   ⟨run, limits, _, rfl⟩,
   ⟨limits, 0, by decide +kernel⟩,
   ⟨limits, by refine ⟨?_, ?_, ?_, ?_, ?_, ?_, ?_⟩ <;> decide +kernel⟩,
   ⟨State.reset, by decide⟩,
   ⟨run, List.replicate 8 (-32768), List.replicate 12 65535, _, by refine ⟨?_, ?_, ?_, ?_, ?_, ?_, ?_, rfl⟩ <;> decide⟩⟩

/-- Meets the hypotheses of `Obligations.NumericBounds`. -/
theorem witness_NumericBounds :
    (∃ (len : Nat), ∃ (bs : List Byte), ∃ (refLen : Nat → Nat), ∃ (p : Plan), ∃ t, checkPlan len bs refLen = .ok p ∧ t ∈ p.tones) ∧
    (∃ (v : Int) (k : Nat), -512 ≤ v ∧ v ≤ 511 ∧ 8 ≤ k ∧ k ≤ 20) ∧
    (∃ (q : Nat) (sums : List Int) (i : Nat), 1 < q ∧ i < sums.length) ∧
    (∃ (bs : List Byte) (k : Nat), dtsBad bs = none ∧ k < (parseDts bs).slots) ∧
    (∃ (p : Nat) (codes : List Nat) (i : Nat), (∀ c ∈ codes, c < 2 ^ 14) ∧ i < p) ∧
    (∃ (elem k stride : Nat), ∃ (xs : List Int), ∃ e, elem < 2 ∧ 1 ≤ k ∧ k ≤ 8 ∧ 1 ≤ stride ∧ e ∈ (quantRun elem k true stride xs []).2.2) ∧
    (∃ (elem k stride : Nat), ∃ (xs : List Int), ∃ q, elem < 2 ∧ 1 ≤ k ∧ k ≤ 8 ∧ 1 ≤ stride ∧ q ∈ (quantRun elem k true stride xs []).1) ∧
    (∃ (b u : Nat), 0 < b ∧ u < 2 ^ b) ∧
    (∃ (l d : Nat), 4 ≤ l ∧ l ≤ 259 ∧ 0 < d ∧ d < 2 ^ 15) ∧
    (∃ (b : Nat) (q : Int), 0 < b ∧ -(2 ^ (b - 1) : Int) ≤ q ∧ q < 2 ^ (b - 1)) :=
  ⟨⟨96, planRec, fun _ => 0, plan, { lane := 72, depth := 1, slot := 0, down := false, fKhz := 300000, bKhz := 160000, nc := 16, edge := 0, ampl := 1, shifts := 0 }, by decide +kernel⟩,
   ⟨-512, 20, by decide⟩,
   ⟨2, [1], 0, by decide⟩,
   ⟨ramanRec, 0, by decide⟩,
   ⟨1, [16383], 0, by decide⟩,
   ⟨0, 8, 1, [128], 128, by decide⟩,
   ⟨1, 8, 1, [128], 0, by decide⟩,
   ⟨8, 255, by decide⟩,
   ⟨259, 32767, by decide⟩,
   ⟨8, -128, by decide⟩⟩

/-- Meets the hypotheses of `Obligations.CoreCodes`. -/
theorem witness_CoreCodes :
    (∃ (i : Instr) (w : Nat), crnEncode i = some w) ∧
    (∃ (c : Fin 8) (m x y : Instr) (w : Nat), m.wellFormed = true ∧ x.wellFormed = true ∧ y.wellFormed = true ∧ coreOp? m = some (c, false) ∧ coreOp? x = some (c, false) ∧ coreOp? y = some (c, true) ∧ bundleStd m x y = some w) ∧
    (∃ (c : Fin 8) (l y : Instr) (w : Nat), l.wellFormed = true ∧ y.wellFormed = true ∧ coreOp? l = some (c, false) ∧ coreOp? y = some (c, true) ∧ bundleLong l y = some w) :=
  ⟨⟨.addi 3 2 0xFFFF, 0x0CC8FFFF, by decide⟩,
   ⟨3, .ridgeNop 3 false false, .tap 3 false true 0 true 0 17, .tap 3 true true 1 false 0 16, 0x0000_0351_023A_9010, by decide⟩,
   ⟨3, .loop 3 false 0 false (.imm 1022) 5, .exth2 3 true true 8 0 1 15, 0x4801_FF00_00BE_A01F, by decide⟩⟩

/-- Meets the hypotheses of `Obligations.StepTakesFront`. -/
theorem witness_StepTakesFront :
    (∃ (c : Instr) (r : List Instr) (s : State), s.pending = c :: r) ∧
    (∃ (s : State) (i : Instr), s.pending = [] ∧ s.dueNow = some i) ∧
    (∃ (s : State), s.pending = [] ∧ s.dueNow = none) :=
  ⟨⟨.crnNop, [.stby], { run with pending := [.crnNop, .stby] }, rfl⟩,
   ⟨State.probe acquires (fun a => { a with fired := 0 }), .toneFiring, by decide +kernel⟩,
   ⟨run, by decide⟩⟩

/-- Meets the hypotheses of `Obligations.MemoriesKept`. -/
theorem witness_MemoriesKept :
    (∃ (s t : State), s.mem.ok = true ∧ step s = .next t) :=
   ⟨run, run.idle, ⟨rfl, rfl⟩⟩

end Sys2Proof.Tests
end

section
/-! SUPPORT. The canonical form of the addressed memories (O60): the predicate on states and on outcomes, and its rules for the parts of a state, for a branch and for a fold. -/

namespace Sys2Proof.Machine

/-- The memories are in canonical form. -/
@[irreducible] def Memories.Ok (m : Memories) : Prop := m.ok = true

/-- The addressed memories of the state are in canonical form. Irreducible, so that a proof follows the operations by their names. -/
@[irreducible] def State.MemOk (s : State) : Prop := s.mem.Ok

/-- The next state that a command answers has its memories in canonical form. -/
@[irreducible] def MemKept (o : Out) : Prop := ∀ t, o = .next t → t.MemOk

variable {s t : State}

theorem State.memOk_iff : s.MemOk ↔ s.mem.Ok := by unfold State.MemOk; rfl

theorem Memories.ok_iff {m : Memories} : m.Ok ↔ m.ok = true := by unfold Memories.Ok; rfl

namespace Memories.Ok

variable {m : Memories} {b : Memory}

theorem wf_iff : m.Ok ↔ m.sram.wf = true ∧ m.firn.wf = true ∧ m.ext.wf = true ∧ m.mram.wf = true ∧ m.flash.wf = true := by
  simp only [Memories.ok_iff, Memories.ok, Bool.and_eq_true, and_assoc]

theorem of (h : s.MemOk) : s.mem.Ok := State.memOk_iff.mp h

/-- One memory changed, in a way that keeps its canonical form. -/
theorem putSram (h : m.Ok) (hb : m.sram.wf = true → b.wf = true) : Memories.Ok ⟨b, m.firn, m.ext, m.mram, m.flash⟩ := by
  rw [wf_iff] at *
  exact ⟨hb h.1, h.2⟩

theorem putFirn (h : m.Ok) (hb : m.firn.wf = true → b.wf = true) : Memories.Ok ⟨m.sram, b, m.ext, m.mram, m.flash⟩ := by
  rw [wf_iff] at *
  exact ⟨h.1, hb h.2.1, h.2.2⟩

theorem putExt (h : m.Ok) (hb : m.ext.wf = true → b.wf = true) : Memories.Ok ⟨m.sram, m.firn, b, m.mram, m.flash⟩ := by
  rw [wf_iff] at *
  exact ⟨h.1, h.2.1, hb h.2.2.1, h.2.2.2⟩

theorem putMram (h : m.Ok) (hb : m.mram.wf = true → b.wf = true) : Memories.Ok ⟨m.sram, m.firn, m.ext, b, m.flash⟩ := by
  rw [wf_iff] at *
  exact ⟨h.1, h.2.1, h.2.2.1, hb h.2.2.2.1, h.2.2.2.2⟩

theorem putFlash (h : m.Ok) (hb : m.flash.wf = true → b.wf = true) : Memories.Ok ⟨m.sram, m.firn, m.ext, m.mram, b⟩ := by
  rw [wf_iff] at *
  exact ⟨h.1, h.2.1, h.2.2.1, h.2.2.2.1, hb h.2.2.2.2⟩

end Memories.Ok

theorem MemKept.next (h : s.MemOk) : MemKept (.next s) := by
  unfold MemKept
  intro t ht
  cases ht
  exact h

theorem MemKept.of_next {o : Out} (h : MemKept o) (e : o = .next t) : t.MemOk := by
  unfold MemKept at h
  exact h t e

theorem MemKept.ite {c : Prop} [Decidable c] {o p : Out} (ho : MemKept o) (hp : MemKept p) : MemKept (if c then o else p) := by
  split <;> assumption

namespace State.MemOk

/-- A change of any part of the state but its memories. -/
theorem upd {x : State} (h : x.MemOk) {pending regs tick timers tb pw jtag xing hq acq rx ph red slm dts sad src tiu pat chk pnl
    cal grm rdg mc crn vb sum log pulses evtPrev pins hostOut hostHeld irqOut readOut free} :
    State.MemOk ⟨pending, regs, tick, timers, tb, pw, jtag, xing, hq, acq, rx, ph, red, slm, dts, sad, src, tiu, pat, chk, pnl,
      cal, grm, rdg, mc, crn, vb, sum, log, pulses, evtPrev, pins, x.mem, hostOut, hostHeld, irqOut, readOut, free⟩ := by
  rw [State.memOk_iff] at *
  exact h

/-- A change of the memories that keeps their canonical form, beside any other change. -/
theorem store {m : Memories} (h : m.Ok) {pending regs tick timers tb pw jtag xing hq acq rx ph red slm dts sad src tiu pat chk pnl
    cal grm rdg mc crn vb sum log pulses evtPrev pins hostOut hostHeld irqOut readOut free} :
    State.MemOk ⟨pending, regs, tick, timers, tb, pw, jtag, xing, hq, acq, rx, ph, red, slm, dts, sad, src, tiu, pat, chk, pnl,
      cal, grm, rdg, mc, crn, vb, sum, log, pulses, evtPrev, pins, m, hostOut, hostHeld, irqOut, readOut, free⟩ := by
  rw [State.memOk_iff]
  exact h

theorem ite {c : Prop} [Decidable c] (hs : s.MemOk) (ht : t.MemOk) : (if c then s else t).MemOk := by
  split <;> assumption

theorem foldl {α : Type} {f : State → α → State} {l : List α} (h : s.MemOk) (hf : ∀ t a, t.MemOk → (f t a).MemOk) :
    (l.foldl f s).MemOk := by
  induction l generalizing s with
  | nil => exact h
  | cons a l ih => exact ih (hf s a h)

/-- The state that a pair holds, once the pair is taken apart. -/
theorem snd {α : Type} {p : α × State} {a : α} (e : p = (a, t)) (h : p.2.MemOk) : t.MemOk := by
  subst e
  exact h

theorem fst {α : Type} {p : State × α} {a : α} (e : p = (t, a)) (h : p.1.MemOk) : t.MemOk := by
  subst e
  exact h

theorem foldlSnd {α β : Type} {f : β × State → α → β × State} {p : β × State} {l : List α} (h : p.2.MemOk)
    (hf : ∀ q a, q.2.MemOk → (f q a).2.MemOk) : (l.foldl f p).2.MemOk := by
  induction l generalizing p with
  | nil => exact h
  | cons a l ih => exact ih (hf p a h)

theorem foldlFst {α β : Type} {f : State × β → α → State × β} {p : State × β} {l : List α} (h : p.1.MemOk)
    (hf : ∀ q a, q.1.MemOk → (f q a).1.MemOk) : (l.foldl f p).1.MemOk := by
  induction l generalizing p with
  | nil => exact h
  | cons a l ih => exact ih (hf p a h)

theorem iteSnd {α : Type} {c : Prop} [Decidable c] {p q : α × State} (hp : p.2.MemOk) (hq : q.2.MemOk) : (if c then p else q).2.MemOk := by
  split <;> assumption

theorem iteFst {α : Type} {c : Prop} [Decidable c] {p q : State × α} (hp : p.1.MemOk) (hq : q.1.MemOk) : (if c then p else q).1.MemOk := by
  split <;> assumption

end State.MemOk

end Sys2Proof.Machine
end

section
/-! SUPPORT. The canonical form of the memories is kept (O60): the operations that every unit uses, and the reads of operands. -/

namespace Sys2Proof.Machine

variable {s t : State}

/-- The state that an option holds, once it is known. -/
theorem State.MemOk.ofSome (e : some s = some t) (h : s.MemOk) : t.MemOk := Option.some.inj e ▸ h

theorem State.MemOk.setF (h : s.MemOk) {F v i} : (s.setF F v i).MemOk := .upd h

theorem State.MemOk.setB (h : s.MemOk) {F b i} : (s.setB F b i).MemOk := .setF h

theorem State.MemOk.addF (h : s.MemOk) {F n i} : (s.addF F n i).MemOk := .setF h

theorem State.MemOk.incF (h : s.MemOk) {F i} : (s.incF F i).MemOk := .addF h

theorem State.MemOk.orF (h : s.MemOk) {F m i} : (s.orF F m i).MemOk := .setF h

theorem State.MemOk.clrF (h : s.MemOk) {F m i} : (s.clrF F m i).MemOk := .setF h

theorem State.MemOk.setS (h : s.MemOk) {F v i} : (s.setS F v i).MemOk := .setF h

theorem State.MemOk.set64 (h : s.MemOk) {lo hi v i} : (s.set64 lo hi v i).MemOk := .setF (.setF h)

theorem State.MemOk.resetFields (h : s.MemOk) {fs} : (s.resetFields fs).MemOk := .upd h

theorem State.MemOk.resetFieldsOf (h : s.MemOk) {fs i} : (s.resetFieldsOf fs i).MemOk := .upd h

theorem State.MemOk.freeVal (h : s.MemOk) {w} : (s.freeVal w).2.MemOk := .upd h

theorem State.MemOk.freeRound (h : s.MemOk) {num den} : (s.freeRound num den).2.MemOk := by
  unfold State.freeRound
  refine .iteSnd h ?_
  split
  rename_i u eu
  exact .snd eu (.freeVal h)

theorem State.MemOk.timerStart (h : s.MemOk) {a} : (s.timerStart a).MemOk := .upd h

theorem State.MemOk.timersStart (h : s.MemOk) {ts} : (s.timersStart ts).MemOk := .foldl h fun _ _ ht => .timerStart ht

theorem State.MemOk.pulse (h : s.MemOk) {id} : (s.pulse id).MemOk := .upd h

theorem State.MemOk.signal (h : s.MemOk) {v} : (s.signal v).MemOk := .ite (.upd h) (.ite h (.upd h))

theorem State.MemOk.showState (h : s.MemOk) {n} : (s.showState n).MemOk := .ite h (.signal (.setF h))

theorem State.MemOk.setMode (h : s.MemOk) {n} : (s.setMode n).MemOk := .showState (.upd h)

theorem State.MemOk.updMc (h : s.MemOk) {f} : (s.updMc f).MemOk := .upd h

theorem State.MemOk.memCount (h : s.MemOk) {c n w} : (s.memCount c n w).MemOk := .set64 (.set64 (.set64 h))

theorem State.MemOk.linesRead (h : s.MemOk) {off n} : (s.linesRead off n).MemOk := .foldl h fun _ _ ht => .ite ht (.addF (.memCount ht))

theorem State.MemOk.linesWritten (h : s.MemOk) {off n whole} : (s.linesWritten off n whole).MemOk :=
  .foldl h fun _ _ ht => .ite ht (.addF (.memCount ht))

theorem State.MemOk.extStore (h : s.MemOk) {off bs} : (s.extStore off bs).MemOk := .store (.putExt (.of h) (Memory.writeN_wf _ _))

theorem State.MemOk.extPut (h : s.MemOk) {off bs} : (s.extPut off bs).MemOk := .extStore (.linesWritten h)

theorem State.MemOk.intPut (h : s.MemOk) {a bs} : (s.intPut a bs).MemOk :=
  .ite h (.ite (.extPut h) (.ite (.store (.putSram (.of h) (Memory.writeN_wf _ _))) (.store (.putFirn (.of h) (Memory.writeN_wf _ _)))))

theorem State.MemOk.intRead (h : s.MemOk) {a n} : (s.intRead a n).2.MemOk := .iteSnd h (.iteSnd h (.iteSnd (.linesRead h) (.iteSnd h h)))

theorem State.MemOk.hostRead (h : s.MemOk) {a n d} : (s.hostRead a n d).2.MemOk := .iteSnd (.intRead h) h

theorem State.MemOk.hostPutRo (h : s.MemOk) {ro a bs} : (s.hostPutRo ro a bs).MemOk := .ite (.intPut h) (.ite (.upd h) h)

theorem State.MemOk.hostPut (h : s.MemOk) {a bs} : (s.hostPut a bs).MemOk := .hostPutRo h

theorem State.MemOk.logPut (h : s.MemOk) {sev code src stamp data} : (s.logPut sev code src stamp data).MemOk := by
  unfold State.logPut
  extract_lets e n c src1 u u1
  have hu1 : u1.MemOk := .setF (.setF (.upd h))
  exact .ite (.signal hu1) hu1

theorem State.MemOk.logEvt (h : s.MemOk) {sev code src data} : (s.logEvt sev code src data).MemOk := .ite (.incF h) (.logPut (.upd h))

theorem State.MemOk.regErr (h : s.MemOk) {b ini off wr} : (s.regErr b ini off wr).MemOk := by
  unfold State.regErr
  extract_lets adr info u u1 dat put
  have hu1 : u1.MemOk := .signal (.incF (.setF (.ite (.setF (.setB (.setF (.setF (.setF h))))) (.setF h))))
  split
  · exact .ite (.incF hu1) (.logPut (.upd hu1))
  · exact .logPut (.upd hu1)

theorem State.MemOk.aerSet (h : s.MemOk) {b} : (s.aerSet b).MemOk := .ite h (.upd h)

theorem State.MemOk.hqErr (h : s.MemOk) {F} : (s.hqErr F).MemOk := .signal (.setF h)

theorem State.MemOk.timeoutEvt (h : s.MemOk) {pcie src} : (s.timeoutEvt pcie src).MemOk := .signal (.logEvt h)

theorem State.MemOk.updHandle (h : s.MemOk) {a f} : (s.updHandle a f).MemOk := .upd h

theorem State.MemOk.updFree (h : s.MemOk) : s.updFree.MemOk := .setF h

theorem State.MemOk.freeHandle (h : s.MemOk) {a} : (s.freeHandle a).MemOk := .updFree (.upd h)

theorem State.MemOk.dataPut (h : s.MemOk) {e a bs} : (s.dataPut e a bs).MemOk := .ite (.hostPut h) (.upd h)

theorem State.MemOk.flushWrites (h : s.MemOk) : s.flushWrites.MemOk := .foldl (.upd h) fun _ _ ht => .hostPut ht

theorem State.MemOk.ringWrote (h : s.MemOk) {n urgent} : (s.ringWrote n urgent).MemOk :=
  .ite h (.ite (.signal (.upd h)) (.upd (.ite h (.timerStart h))))

theorem State.MemOk.cqPut (h : s.MemOk) {c e} : (s.cqPut c e).MemOk := .ringWrote (.setB (.setF (.setF (.hostPut (.hostPut h)))))

theorem State.MemOk.cqForm (h : s.MemOk) {c e frees} : (s.cqForm c e frees).MemOk := by
  unfold State.cqForm
  refine .ite ?_ (.upd h)
  dsimp only
  split
  · exact .freeHandle (.cqPut h)
  · exact .cqPut h

theorem State.MemOk.acceptWith (h : s.MemOk) {a r0 r1} : (s.acceptWith a r0 r1).MemOk := by
  unfold State.acceptWith
  split
  · exact h
  · exact .ite h (.cqForm (.updHandle h))

theorem State.MemOk.accept (h : s.MemOk) {a} : (s.accept a).MemOk := .acceptWith h

theorem State.MemOk.progress (h : s.MemOk) {a r0 r1} : (s.progress a r0 r1).MemOk := by
  unfold State.progress
  split
  · exact h
  · exact .ite h (.cqForm (.timerStart (.accept h)))

theorem State.MemOk.complete (h : s.MemOk) {a st det r0 r1} : (s.complete a st det r0 r1).MemOk := by
  unfold State.complete
  split
  · exact h
  · exact .ite h (.cqForm (.updHandle (.ite (.upd h) h)))

theorem State.MemOk.completeStop (h : s.MemOk) {a r0 r1} : (s.completeStop a r0 r1).MemOk := .ite (.complete h) (.complete h)

theorem State.MemOk.takeUp (h : s.MemOk) {a} : (s.takeUp a).MemOk := .timerStart (.updHandle (.accept h))

theorem State.MemOk.stopIdle (h : s.MemOk) {a y both} : (s.stopIdle a y both).MemOk := .ite (.complete h) (.complete (.complete h))

theorem State.MemOk.onRead (h : s.MemOk) {i d fail k} (hf : ∀ st det, (fail st det).MemOk) (hk : ∀ bs, (k bs).MemOk) :
    (s.onRead i d fail k).MemOk := by
  unfold State.onRead
  split
  · exact hk _
  · exact .upd (.timerStart h)
  · exact .aerSet (hf _ _)
  · exact hf _ _
  · exact hf _ _

theorem State.MemOk.chainAt (h : s.MemOk) {fuel a left} : (s.chainAt fuel a left).2.MemOk := by
  induction fuel generalizing s a left with
  | zero => exact h
  | succ fuel ih =>
    unfold State.chainAt
    refine .iteSnd h ?_
    split
    · rename_i u eu
      have hu : u.MemOk := .snd eu (.intRead h)
      refine .iteSnd hu ?_
      split
      rename_i v ev
      exact .snd ev (.iteSnd (ih hu) (ih hu))
    · rename_i u _ eu
      exact .snd eu (.intRead h)

theorem State.MemOk.listAt (h : s.MemOk) {ptr count d} : (s.listAt ptr count d).2.MemOk := .iteSnd (.chainAt h) h

theorem State.MemOk.listBuffer (h : s.MemOk) {pd ptr count output d} : (s.listBuffer pd ptr count output d).2.MemOk := by
  unfold State.listBuffer
  split
  rename_i u eu
  exact .snd eu (.listAt h)

theorem State.MemOk.buffer (h : s.MemOk) {x d} : (s.buffer x d).2.MemOk := by
  unfold State.buffer
  split
  rename_i u eu
  exact .snd eu (.iteSnd (.listBuffer h) h)

theorem State.MemOk.putSegs (h : s.MemOk) {e segs bs} : (s.putSegs e segs bs).MemOk := by
  induction segs generalizing s bs with
  | nil => exact h
  | cons a segs ih =>
    unfold State.putSegs
    exact .ite h (ih (.dataPut h))

theorem State.MemOk.readSegs (h : s.MemOk) {segs d} : (s.readSegs segs d).2.MemOk := by
  unfold State.readSegs
  refine .iteSnd h (.foldlSnd h fun q _ hq => ?_)
  split
  · split
    · rename_i u eu
      exact .snd eu (.intRead hq)
    · exact .intRead hq
  · exact hq

theorem State.MemOk.bufEnds (h : s.MemOk) (ht : t.MemOk) {i e} : (s.bufEnds t i e).MemOk := by
  unfold State.bufEnds
  split
  · exact .complete ht
  · exact .complete ht
  · exact .onRead h (fun _ _ => .complete ht) fun _ => h

theorem State.MemOk.withData (h : s.MemOk) {x d k} (hk : ∀ t n bs, t.MemOk → (k t n bs).MemOk) : (s.withData x d k).MemOk := by
  unfold State.withData
  split
  rename_i u eu
  have hu : u.MemOk := .snd eu (.buffer h)
  refine .ite ?_ (.bufEnds hu hu)
  split
  rename_i v ev
  have hv : v.MemOk := .snd ev (.readSegs hu)
  exact .onRead hv (fun _ _ => .complete hv) fun _ => hk _ _ _ hv

theorem State.MemOk.giveTo (h : s.MemOk) {x b bs st det r0 r1} : (s.giveTo x b bs st det r0 r1).MemOk :=
  .ite (.complete (.putSegs h)) (.bufEnds h (.ite h (.putSegs h)))

theorem State.MemOk.giveData (h : s.MemOk) {x d bs} : (s.giveData x d bs).MemOk := by
  unfold State.giveData
  split
  rename_i u eu
  have hu : u.MemOk := .snd eu (.buffer h)
  exact .giveTo hu

theorem State.MemOk.withRecord (h : s.MemOk) {x d size k} (hk : ∀ t bs, t.MemOk → (k t bs).MemOk) : (s.withRecord x d size k).MemOk :=
  .withData h fun _ _ _ ht => .ite (hk _ _ ht) (.complete ht)

end Sys2Proof.Machine
end

section
/-! SUPPORT. The canonical form of the memories is kept (O60): the plan, the receiver, the reducer, the distributed temperature sensing and the timing unit. -/

namespace Sys2Proof.Machine

variable {s t : State}

theorem State.MemOk.storePlan (h : s.MemOk) {id p} : (s.storePlan id p).MemOk := .upd h

theorem State.MemOk.removePlan (h : s.MemOk) {id} : (s.removePlan id).MemOk := .upd h

theorem State.MemOk.planLoad (h : s.MemOk) {a id len bs} : (s.planLoad a id len bs).MemOk := by
  unfold State.planLoad
  split
  · exact .complete h
  · exact .ite (.complete h) (.complete (.storePlan h))

theorem MemKept.execPlanLoad (h : s.MemOk) {a d} : MemKept (execPlanLoad a d s) := by
  unfold Machine.execPlanLoad
  split
  · exact .next h
  · exact .next (.ite (.complete h) (.ite (.complete h) (.ite (.complete (.removePlan h)) (.withData h fun _ _ _ ht => .planLoad ht))))

theorem MemKept.execPlanCheck (h : s.MemOk) {a d} : MemKept (execPlanCheck a d s) := by
  unfold Machine.execPlanCheck
  split
  · exact .next h
  · refine .next (.ite (.complete h) (.withData h ?_))
    intro u n bs hu1
    split
    · exact .complete hu1
    · exact .complete hu1

theorem State.MemOk.gateOpens (h : s.MemOk) {g ticks} : (s.gateOpens g ticks).MemOk := .set64 (.upd h)

theorem State.MemOk.gateShut (h : s.MemOk) {g} : (s.gateShut g).MemOk := .upd h

theorem MemKept.execDtsConfig (h : s.MemOk) {a d} : MemKept (execDtsConfig a d s) := by
  unfold Machine.execDtsConfig
  split
  · exact .next h
  · refine .next (.ite (.complete h) (.withRecord h ?_))
    intro u bs hu1
    split
    · exact .complete hu1
    · exact .complete (.setF (.setF (.setF (.upd hu1))))

theorem State.MemOk.dtsServe (h : s.MemOk) : s.dtsServe.MemOk := by
  unfold State.dtsServe
  refine .foldl (.upd h) ?_
  intro u a hu1
  split
  · exact .complete hu1
  · refine .ite ?_ (.complete hu1)
    split
    · exact .giveTo hu1
    · exact hu1

theorem State.MemOk.dtsEnd (h : s.MemOk) {status det r0} : (s.dtsEnd status det r0).MemOk := by
  unfold State.dtsEnd
  split
  · exact h
  · extract_lets src u u1
    have hu1 : u1.MemOk := .dtsServe (.setF (.setF (.setF (.gateShut (.upd h)))))
    split
    · exact .complete hu1
    · exact hu1

theorem State.MemOk.dtsRefit (h : s.MemOk) : s.dtsRefit.MemOk := by
  unfold State.dtsRefit
  split
  · exact .ite h (.dtsEnd h)
  · exact h

theorem MemKept.execDtsStart (h : s.MemOk) {a} : MemKept (execDtsStart a s) := by
  unfold Machine.execDtsStart
  split
  · exact .next h
  · refine .next (.ite (.complete h) (.ite (.complete h) ?_))
    split
    · exact .complete h
    · split
      · exact .complete h
      · exact .ite (.complete h) (.ite (.complete h) (.setF (.setF (.setF (.upd (.takeUp h))))))

theorem MemKept.execDtsStop (h : s.MemOk) {a} : MemKept (execDtsStop a s) := by
  unfold Machine.execDtsStop
  split
  · exact .next h
  · exact .next (.dtsEnd (.complete h))

theorem State.MemOk.showDark (h : s.MemOk) {F codes} : (s.showDark F codes).MemOk := by
  unfold State.showDark
  split
  rename_i u eu
  have hu : u.MemOk := .snd eu (.freeRound h)
  exact .setF hu

theorem State.MemOk.dtsShot (h : s.MemOk) {r c k} : (s.dtsShot r c k).MemOk := by
  have hclip : ∀ {xs F} {u : State}, u.MemOk → (if clipped xs then u.incF F else u).MemOk := fun hu => .ite (.incF hu) hu
  unfold State.dtsShot
  dsimp only
  refine .ite (.setF (.upd ?_)) (.ite (.setF (.upd ?_)) ?_)
  all_goals exact .showDark (.showDark (hclip (hclip (.upd (.gateOpens h)))))

theorem MemKept.execRamanShot (h : s.MemOk) {k} : MemKept (execRamanShot k s) := by
  unfold Machine.execRamanShot
  split
  · refine .ite (.next h) ?_
    extract_lets u src u1 src1
    have hu1 : u1.MemOk := .upd (.timersStart h)
    exact .ite (.next (.incF (.upd hu1))) (.next (.dtsShot hu1))
  · exact .next h

theorem MemKept.execDtsLegEnd (h : s.MemOk) : MemKept (execDtsLegEnd s) := by
  unfold Machine.execDtsLegEnd
  split
  · exact .ite (.ite (.next (.setF (.upd h))) (.next (.setF (.setF (.setF (.upd h)))))) (.next h)
  · exact .next h

theorem MemKept.execDtsCloseStart (h : s.MemOk) : MemKept (execDtsCloseStart s) := by
  unfold Machine.execDtsCloseStart
  split
  · exact .ite (.next (.setF (.setF (.store (.putFirn (.of h) (Memory.writeLe_wf _ _ _)))))) (.next h)
  · exact .next h

theorem State.MemOk.invTemp (h : s.MemOk) {m n} : (s.invTemp m n).2.MemOk := by
  unfold State.invTemp
  refine .iteSnd ?_ h
  split
  rename_i u eu
  exact .snd eu (.freeVal h)

theorem State.MemOk.headMk (h : s.MemOk) {a} : (s.headMk a).2.MemOk := by
  unfold State.headMk
  split
  · exact .freeRound h
  · split
    rename_i u eu
    exact .snd eu (.freeVal h)

theorem State.MemOk.coilLn (h : s.MemOk) {c u first count} : (s.coilLn c u first count).2.MemOk := by
  unfold State.coilLn
  split
  · exact h
  · split
    rename_i u eu
    exact .snd eu (.freeVal h)

theorem State.MemOk.dtsSlot (h : s.MemOk) {c l} : (s.dtsSlot c l).2.MemOk := by
  unfold State.dtsSlot
  extract_lets u
  split
  rename_i s₁ e₁
  have h₁ : s₁.MemOk := .snd e₁ (.coilLn h)
  split
  rename_i s₂ e₂
  have h₂ : s₂.MemOk := .snd e₂ (.coilLn h₁)
  extract_lets t1 t2 refBad
  split
  split
  rename_i s₃ e₃
  have h₃ : s₃.MemOk := .snd e₃ (.invTemp h₂)
  split
  rename_i s₄ e₄
  have h₄ : s₄.MemOk := .snd e₄ (.invTemp h₃)
  split
  extract_lets fit
  split
  rename_i s₅ e₅
  have h₅ : s₅.MemOk := .snd e₅ (.headMk h₄)
  split
  rename_i s₆ e₆
  have h₆ : s₆.MemOk := .snd e₆ (.iteSnd h₅ (.headMk h₅))
  split
  rename_i s₇ e₇
  exact .snd e₇ (.iteSnd (.headMk h₆) (.iteSnd h₆ (.freeRound h₆)))

theorem MemKept.execDtsCloseEnd (h : s.MemOk) : MemKept (execDtsCloseEnd s) := by
  unfold Machine.execDtsCloseEnd
  split
  · refine .ite (.next h) ?_
    dsimp only
    refine .ite (.next (.setF ?_)) (.next ?_)
    · split
      · exact .progress (.dtsServe (.pulse (.setF (.setF (.setB (.setF (.store (.putFirn (.of (.dtsSlot h)) (Memory.writeN_wf _ _)))))))))
      · exact .dtsServe (.pulse (.setF (.setF (.setB (.setF (.store (.putFirn (.of (.dtsSlot h)) (Memory.writeN_wf _ _))))))))
    · split
      · refine .complete (.setF (.upd ?_))
        split
        · exact .progress (.dtsServe (.pulse (.setF (.setF (.setB (.setF (.store (.putFirn (.of (.dtsSlot h)) (Memory.writeN_wf _ _)))))))))
        · exact .dtsServe (.pulse (.setF (.setF (.setB (.setF (.store (.putFirn (.of (.dtsSlot h)) (Memory.writeN_wf _ _))))))))
      · refine .setF (.upd ?_)
        split
        · exact .progress (.dtsServe (.pulse (.setF (.setF (.setB (.setF (.store (.putFirn (.of (.dtsSlot h)) (Memory.writeN_wf _ _)))))))))
        · exact .dtsServe (.pulse (.setF (.setF (.setB (.setF (.store (.putFirn (.of (.dtsSlot h)) (Memory.writeN_wf _ _))))))))
  · exact .next h

theorem MemKept.execDtsRead (h : s.MemOk) {a d} : MemKept (execDtsRead a d s) := by
  unfold Machine.execDtsRead
  split
  · exact .next h
  · refine .next (.ite (.complete h) ?_)
    split
    · refine .ite ?_ (.ite (.giveData h) (.complete h))
      split
      rename_i u eu
      have hu : u.MemOk := .snd eu (.buffer h)
      exact .ite (.upd (.takeUp hu)) (.giveTo hu)
    · exact .complete h

theorem State.MemOk.clipTick (h : s.MemOk) {l xs} : (s.clipTick l xs).MemOk := .ite (.setF (.incF h)) h

theorem State.MemOk.dcbTick (h : s.MemOk) {l xs m gate} : (s.dcbTick l xs m gate).2.MemOk := .iteSnd (.setB h) (.setS (.upd (.setB h)))

theorem State.MemOk.bankShow (h : s.MemOk) : s.bankShow.MemOk := .upd (.foldl h fun _ _ ht => .setF (.setF ht))

theorem State.MemOk.bankTick (h : s.MemOk) {m x0 x1 y0 y1} : (s.bankTick m x0 x1 y0 y1).MemOk := .ite (.bankShow (.upd h)) (.upd h)

theorem State.MemOk.coarseTick (h : s.MemOk) : s.coarseTick.MemOk := .bankTick (.upd (.addF (.addF h)))

theorem State.MemOk.convCodes (h : s.MemOk) {c} : (s.convCodes c).2.MemOk := .iteSnd h (.upd h)

theorem State.MemOk.rxTick (h : s.MemOk) {c} : (s.rxTick c).MemOk := by
  unfold State.rxTick
  split
  rename_i u eu
  have hu : u.MemOk := .snd eu (.convCodes h)
  dsimp only
  exact .coarseTick (.upd (.dcbTick (.dcbTick (.dcbTick (.dcbTick (.clipTick (.clipTick (.clipTick (.clipTick hu)))))))))

theorem State.MemOk.rxTicks (h : s.MemOk) {cs} : (s.rxTicks cs).MemOk := .foldl h fun _ _ ht => .rxTick ht

theorem MemKept.execBankPwrUpdate (h : s.MemOk) {fresh} : MemKept (execBankPwrUpdate fresh s) := .next (.ite (.rxTicks h) h)

theorem State.MemOk.laneReport (h : s.MemOk) {lane frame xs ys} : (s.laneReport lane frame xs ys).MemOk := by
  unfold State.laneReport
  extract_lets n fl pw u src u1 u2
  have hu1 : u1.MemOk := .upd (.addF (.addF h))
  exact .setF (.setF (.ite hu1 (.set64 (.orF (.orF hu1)))))

theorem State.MemOk.satEntry (h : s.MemOk) {row n} : (s.satEntry row n).MemOk := .ite h (.logEvt h)

theorem State.MemOk.satSecond (h : s.MemOk) : s.satSecond.MemOk := .ite (.upd (.satEntry (.satEntry h))) h

theorem State.MemOk.dcbKChanged (h : s.MemOk) {l old} : (s.dcbKChanged l old).MemOk := .upd h

theorem State.MemOk.dcbPreset (h : s.MemOk) {l} : (s.dcbPreset l).MemOk := .setS (.upd h)

theorem State.MemOk.spRequest (h : s.MemOk) {l} : (s.spRequest l).MemOk := .ite (.setF (.setF (.upd (.timerStart h)))) h

theorem State.MemOk.spFree (h : s.MemOk) : s.spFree.MemOk := .setF (.setF (.upd (.foldl h fun _ _ ht => .setF ht)))

theorem MemKept.execSpReq (h : s.MemOk) : MemKept (execSpReq s) := .next (.ite h (.spRequest h))

theorem State.MemOk.spRelease (h : s.MemOk) : s.spRelease.MemOk := .ite (.upd (.ite h (.timerStart h))) h

theorem MemKept.execSpRelease (h : s.MemOk) : MemKept (execSpRelease s) := .next (.ite h (.spRelease h))

theorem State.MemOk.spUnpinned (h : s.MemOk) : s.spUnpinned.MemOk := .ite (.spRelease h) h

theorem MemKept.execSpSettleEnd (h : s.MemOk) : MemKept (execSpSettleEnd s) :=
  .next (.ite h (.ite (.setF (.timerStart h)) (.ite (.setF (.upd (.timerStart h))) h)))

theorem State.MemOk.spFail (h : s.MemOk) {ph rms} : (s.spFail ph rms).MemOk := by
  unfold State.spFail
  extract_lets l u
  have hu : u.MemOk := .logEvt (.setF h)
  exact .ite (.spFree hu) (.signal (.setF (.setF hu)))

theorem State.MemOk.spPass (h : s.MemOk) {ph} : (s.spPass ph).MemOk := by
  unfold State.spPass
  refine .ite ?_ (.setF h)
  extract_lets u src
  have hu : u.MemOk := .setF (.setF h)
  exact .ite (.upd hu) hu

theorem State.MemOk.spReturned (h : s.MemOk) : s.spReturned.MemOk := .ite (.spFree (.incF h)) h

theorem State.MemOk.applyStep (h : s.MemOk) {cause} : (s.applyStep cause).MemOk :=
  .incF (.setF (.setF (.setF (.setF (.setF (.upd (.upd h)))))))

theorem State.MemOk.frameEnd (h : s.MemOk) {p} : (s.frameEnd p).MemOk := .setF (.setF (.ite (.setF h) h))

theorem State.MemOk.phaseSamples (h : s.MemOk) {p k slot c} : (s.phaseSamples p k slot c).2.MemOk :=
  .iteSnd (.setF (.upd (.addF h))) (.upd (.addF h))

theorem State.MemOk.compressNext (h : s.MemOk) {p a n} : (s.compressNext p a n).2.MemOk := .addF (.laneReport h)

theorem State.MemOk.epsClear (h : s.MemOk) {st} : (s.epsClear st).MemOk := .ite (.store (.putExt (.of h) (Memory.clear_wf _ _))) h

theorem State.MemOk.streamSample (h : s.MemOk) {at_ pts st} : (s.streamSample at_ pts st).2.MemOk := .iteSnd h (.extPut (.linesRead h))

theorem State.MemOk.blocksTimed (h : s.MemOk) {old} : (s.blocksTimed old).MemOk := .foldl h fun _ _ ht => .timerStart ht

theorem State.MemOk.streamSamples (h : s.MemOk) {at_ pts} : (s.streamSamples at_ pts).MemOk := by
  unfold State.streamSamples
  split
  rename_i u eu
  have hu : u.MemOk := .snd eu (.foldlSnd h fun _ _ hq => .iteSnd (.streamSample hq) hq)
  exact .blocksTimed (.upd hu)

theorem State.MemOk.streamsStep (h : s.MemOk) : s.streamsStep.MemOk := .foldl (.upd h) fun _ _ ht => .epsClear ht

theorem State.MemOk.setZone (h : s.MemOk) {z b} : (s.setZone z b).MemOk := .ite (.orF h) (.clrF h)

theorem State.MemOk.zoneWritten (h : s.MemOk) {z} : (s.zoneWritten z).MemOk := .ite h (.upd (.setZone h))

theorem State.MemOk.zoneLevel (h : s.MemOk) {z e} : (s.zoneLevel z e).MemOk := .ite (.setZone h) (.ite (.setZone h) h)

theorem State.MemOk.zonesDone (h : s.MemOk) {bands} : (s.zonesDone bands).MemOk :=
  .foldl (.upd h) fun _ _ ht => .ite (.zoneLevel ht) (.setZone ht)

theorem State.MemOk.energySample (h : s.MemOk) {at_ pts} : (s.energySample at_ pts).MemOk := .ite (.ite (.upd h) (.ite h (.upd h))) h

theorem State.MemOk.energyDone (h : s.MemOk) {plan} : (s.energyDone plan).MemOk := .ite h (.blocksTimed (.upd (.zonesDone h)))

theorem MemKept.execTiuConfig (h : s.MemOk) {a} : MemKept (execTiuConfig a s) := by
  unfold Machine.execTiuConfig
  split
  · exact .next h
  · refine .next (.ite (.complete h) (.ite (.complete h) (.ite (.complete h) (.ite (.complete h) (.ite (.complete h) ?_)))))
    extract_lets moved u src u1
    have hu : u.MemOk := .setF (.setB (.setF (.setF h)))
    exact .complete (.ite (.setF (.setF (.upd hu))) hu)

theorem State.MemOk.launchFire (h : s.MemOk) {start} : (s.launchFire start).MemOk := .ite (.upd h) h

theorem State.MemOk.delayMean (h : s.MemOk) {F ds} : (s.delayMean F ds).MemOk := by
  unfold State.delayMean
  refine .ite (.setF h) ?_
  split
  rename_i u eu
  have hu : u.MemOk := .snd eu (.freeRound h)
  exact .setS hu

theorem State.MemOk.launchMeans (h : s.MemOk) : s.launchMeans.MemOk := .delayMean (.delayMean h)

theorem State.MemOk.launchSettle (h : s.MemOk) : s.launchSettle.MemOk := .ite h (.launchMeans (.upd (.addF h)))

theorem State.MemOk.launchFrame (h : s.MemOk) {firstFrame} : (s.launchFrame firstFrame).MemOk := .upd h

theorem State.MemOk.intervalEdge (h : s.MemOk) {i a} : (s.intervalEdge i a).MemOk := .upd h

theorem State.MemOk.tiPassed (h : s.MemOk) {i cycle code} : (s.tiPassed i cycle code).2.MemOk := by
  have hp : ∀ {u : State}, u.MemOk → (if i = 6 then u.pulse 0xBC else if i = 7 then u.pulse 0xBD else u).MemOk :=
    fun hu => .ite (.pulse hu) (.ite (.pulse hu) hu)
  unfold State.tiPassed
  refine .iteSnd (.setF (.incF (.upd h))) ?_
  dsimp only
  exact .iteSnd (.set64 (.upd h)) (.launchSettle (.upd (hp (.intervalEdge (.incF (.setF (.set64 (.set64 (.upd h)))))))))

theorem MemKept.execIntervalResult (h : s.MemOk) {v} : MemKept (execIntervalResult v s) := by
  unfold Machine.execIntervalResult
  dsimp only
  split
  · exact .next h
  · refine .ite (.next h) (.ite (.next (.upd h)) ?_)
    split
    · exact .next (.incF (.upd h))
    · exact .next (.setS (.incF (.setB (.setB (.setB (.setS (.upd h)))))))

theorem State.MemOk.tiuCalNext (h : s.MemOk) {c} : (s.tiuCalNext c).MemOk := by
  unfold State.tiuCalNext
  split
  · exact .setF (.upd (.timersStart h))
  · extract_lets src u
    have hu : u.MemOk := .setF (.upd h)
    split
    · exact .complete hu
    · exact hu

theorem MemKept.execTiuCal (h : s.MemOk) {a} : MemKept (execTiuCal a s) := by
  unfold Machine.execTiuCal
  split
  · exact .next h
  · exact .next (.ite (.complete h) (.ite (.complete h) (.ite (.complete h) (.tiuCalNext (.takeUp h)))))

theorem State.MemOk.densityPut (h : s.MemOk) {i counts} : (s.densityPut i counts).MemOk := by
  unfold State.densityPut
  extract_lets ws u
  have hu : u.MemOk := .setF h
  clear_value u ws
  exact .ite (.foldl (.upd hu) fun _ _ ht => .setF ht) (.setF hu)

theorem MemKept.execCodeDensityDone (h : s.MemOk) {counts} : MemKept (execCodeDensityDone counts s) := by
  unfold Machine.execCodeDensityDone
  split
  · exact .next h
  · exact .next (.tiuCalNext (.densityPut h))

theorem State.MemOk.setSec (h : s.MemOk) {k x} : (s.setSec k x).MemOk := .upd h

theorem State.MemOk.setSecWait (h : s.MemOk) {k w} : (s.setSecWait k w).MemOk := .upd h

theorem State.MemOk.showSec (h : s.MemOk) {k st} : (s.showSec k st).MemOk := by
  unfold State.showSec
  extract_lets u u1
  have hu : u.MemOk := .setF h
  have hu1 : u1.MemOk := .ite (.clrF hu) (.orF hu)
  exact .ite (.orF hu1) (.clrF hu1)

theorem State.MemOk.firnPut (h : s.MemOk) {a bs} : (s.firnPut a bs).MemOk := .store (.putFirn (.of h) (Memory.writeN_wf _ _))

theorem State.MemOk.secStart (h : s.MemOk) {k x} : (s.secStart k x).MemOk := by
  unfold State.secStart
  exact .showSec (.setSec (.firnPut (.store (.putFirn (.of (.resetFieldsOf (.timerStart h))) (Memory.clear_wf _ _)))))

theorem MemKept.execSkateStart (h : s.MemOk) {a d} : MemKept (execSkateStart a d s) := by
  unfold Machine.execSkateStart
  split
  · exact .next h
  · refine .next (.ite (.complete h) (.withRecord h ?_))
    intro u bs hu1
    dsimp only
    split
    · exact .complete hu1
    · refine .ite (.complete hu1) ?_
      split
      · exact .ite (.complete hu1) (.setSecWait (.takeUp hu1))
      · exact .ite (.secStart (.takeUp hu1)) (.complete hu1)

theorem State.MemOk.secEnd (h : s.MemOk) {k st det} : (s.secEnd k st det).MemOk := by
  unfold State.secEnd
  split
  · exact h
  · extract_lets revs u u1 u2 u3
    have hu : u.MemOk := .showSec (.setSec h)
    have hu1 : u1.MemOk := by
      unfold u1
      split
      · exact .complete hu
      · exact hu
    have hu2 : u2.MemOk := .foldl hu1 fun _ _ ht => .complete ht
    have hu3 : u3.MemOk := .setSecWait hu2
    split
    · exact hu2
    · exact .ite (.secStart hu3) (.complete hu3)

theorem State.MemOk.secsEnd (h : s.MemOk) {st det} : (s.secsEnd st det).MemOk := .foldl h fun _ _ ht => .secEnd ht

theorem State.MemOk.secUnqueue (h : s.MemOk) {k} : (s.secUnqueue k).MemOk := by
  unfold State.secUnqueue
  split
  · exact .complete (.setSecWait h)
  · exact h

theorem MemKept.execSkateStop (h : s.MemOk) {a} : MemKept (execSkateStop a s) := by
  unfold Machine.execSkateStop
  split
  · exact .next h
  · refine .next ?_
    split
    · exact .complete h
    · refine .ite (.complete h) (.ite (.stopIdle h) ?_)
      split
      · exact .complete (.secUnqueue h)
      · split
        · exact .stopIdle h
        · extract_lets u
          have hu : u.MemOk := .secUnqueue (.takeUp h)
          split
          · exact .setSec hu
          · exact hu

theorem MemKept.execSkateRead (h : s.MemOk) {a d} : MemKept (execSkateRead a d s) := by
  unfold Machine.execSkateRead
  split
  · exact .next h
  · refine .next (.ite (.complete h) ?_)
    split
    · exact .complete h
    · exact .giveData h

theorem State.MemOk.secsSwitch (h : s.MemOk) : s.secsSwitch.MemOk := .foldl h fun _ _ ht => .ite (.secEnd ht) ht

theorem State.MemOk.secEncoder (h : s.MemOk) {k x a} : (s.secEncoder k x a).MemOk := by
  unfold State.secEncoder
  extract_lets p n u prev x1 u1 stalled
  have hu1 : u1.MemOk := .setSec (.timerStart (.addF (.setF h)))
  clear_value prev
  split
  · exact hu1
  · extract_lets u2
    have hu2 : u2.MemOk := .ite (.showSec hu1) hu1
    exact .ite hu2 (.setF hu2)

theorem State.MemOk.secIndex (h : s.MemOk) {k x} : (s.secIndex k x).MemOk := by
  unfold State.secIndex
  extract_lets n r u
  have hu : u.MemOk := .setF (.setS h)
  exact .ite hu (.incF hu)

theorem MemKept.execTiEdge (h : s.MemOk) {i e} : MemKept (execTiEdge i e s) := by
  unfold Machine.execTiEdge
  refine .ite (.next h) ?_
  split
  · exact .next (.ite (.incF h) h)
  · split
    rename_i u eu
    have hu : u.MemOk := .snd eu (.tiPassed h)
    split
    · exact .next hu
    · refine .next (.foldl hu ?_)
      intro u1 a hu2
      split
      · exact hu2
      · exact .ite (.secEncoder hu2) (.ite (.secIndex hu2) hu2)

theorem MemKept.execEncoderStall (h : s.MemOk) {k} : MemKept (execEncoderStall k s) := .next (.ite (.setF (.showSec h)) h)

theorem MemKept.execSkatePosSample (h : s.MemOk) {k} : MemKept (execSkatePosSample k s) := by
  unfold Machine.execSkatePosSample
  split
  · exact .next h
  · exact .next h
  · exact .next (.setSec h)

/-- A fold of writes keeps the canonical form. -/
theorem foldl_wf {α : Type} {f : Memory → α → Memory} {l : List α} {m : Memory} (h : m.wf = true)
    (hf : ∀ m a, m.wf = true → (f m a).wf = true) : (l.foldl f m).wf = true := by
  induction l generalizing m with
  | nil => exact h
  | cons a l ih => exact ih (hf m a h)

/-- An energy worked into a cell of a map keeps the canonical form. -/
theorem mapUpdate_wf {m : Memory} (ofs avg cell : Nat) (es : List Nat) (h : m.wf = true) : (mapUpdate m ofs avg cell es).wf = true := by
  unfold mapUpdate
  exact Memory.writeLe_wf _ _ _ (foldl_wf h fun _ _ hm => Memory.writeLe_wf _ _ _ hm)

theorem State.MemOk.secApply (h : s.MemOk) {k t0 t1} : (s.secApply k t0 t1).MemOk := by
  unfold State.secApply
  split
  exact h
  extract_lets due sm src u
  have hu : u.MemOk := by
    unfold u
    clear_value due
    split
    exact .setSec h
    refine .ite (.setSec (.incF h)) ?_
    extract_lets x m v w
    have hv : v.MemOk := .setSec (.store (.putFirn (.of h) fun hm => foldl_wf hm fun _ _ => mapUpdate_wf _ _ _ _))
    exact .firnPut (.setF (.ite (.incF hv) hv))
  clear_value u
  exact .ite hu (.secEnd hu)

theorem MemKept.execEnergyInterval (h : s.MemOk) : MemKept (execEnergyInterval s) :=
  .ite (.next h) (.next (.foldl (.energyDone h) fun _ _ ht => .secApply ht))

end Sys2Proof.Machine
end

section
/-! SUPPORT. The canonical form of the memories is kept (O60): the groomer and the recorder. -/

namespace Sys2Proof.Machine

variable {s t : State}

theorem State.MemOk.setSlot (h : s.MemOk) {i v} : (s.setSlot i v).MemOk := .setF h

theorem State.MemOk.grmShow (h : s.MemOk) : s.grmShow.MemOk := .setF (.upd h)

theorem State.MemOk.turnJoin (h : s.MemOk) {a} : (s.turnJoin a).MemOk := .upd h

theorem State.MemOk.turnLeave (h : s.MemOk) {a} : (s.turnLeave a).MemOk := .upd h

theorem State.MemOk.turnOver (h : s.MemOk) {a} : (s.turnOver a).MemOk := .ite (.turnJoin (.turnLeave h)) h

theorem State.MemOk.jobEnd (h : s.MemOk) {j v st det r0 r1} : (s.jobEnd j v st det r0 r1).MemOk := by
  unfold State.jobEnd
  extract_lets src u u1
  have hu : u.MemOk := .turnLeave (.upd h)
  have hu1 : u1.MemOk := by
    unfold u1
    split
    · exact .setSlot hu
    · exact hu
  exact .complete (.grmShow hu1)

theorem State.MemOk.jobStop (h : s.MemOk) {j st det} : (s.jobStop j st det).MemOk := .jobEnd h

theorem State.MemOk.jobPut (h : s.MemOk) {j} : (s.jobPut j).MemOk := by
  unfold State.jobPut
  extract_lets u u1 u2 src
  have hu : u.MemOk := .takeUp h
  have hu1 : u1.MemOk := by
    unfold u1
    split
    · exact .setSlot hu
    · exact hu
  exact .grmShow (.upd (.ite hu1 (.turnJoin hu1)))

theorem State.MemOk.jobStart (h : s.MemOk) {x pd ptr count outl fail j} (hf : ∀ t st det, t.MemOk → (fail t st det).MemOk) :
    (s.jobStart x pd ptr count outl fail j).MemOk := by
  unfold State.jobStart
  split
  rename_i u eu
  have hu : u.MemOk := .snd eu (.listBuffer h)
  split
  · exact .onRead hu (fun _ _ => hf _ _ _ hu) fun _ => hu
  · exact .jobPut hu

theorem State.MemOk.jobInput (h : s.MemOk) {i ptr count inl fail k} (hf : ∀ t st det, t.MemOk → (fail t st det).MemOk)
    (hk : ∀ t b, t.MemOk → (k t b).MemOk) : (s.jobInput i ptr count inl fail k).MemOk := by
  unfold State.jobInput
  split
  rename_i u eu
  have hu : u.MemOk := .snd eu (.listBuffer h)
  split
  · exact .onRead hu (fun _ _ => hf _ _ _ hu) fun _ => hu
  · exact hk _ _ hu

theorem MemKept.execGrmCompress (h : s.MemOk) {a inl outl} : MemKept (execGrmCompress a inl outl s) := by
  unfold Machine.execGrmCompress
  split
  · exact .next h
  · refine .next (.jobInput h (fun _ _ _ ht => .complete ht) ?_)
    intro u b hu1
    refine .ite (.complete hu1) ?_
    split
    · exact .complete hu1
    · split
      · exact .complete hu1
      · exact .jobStart hu1 fun _ _ _ ht => .complete ht

theorem MemKept.execGrmDecompress (h : s.MemOk) {a inl outl} : MemKept (execGrmDecompress a inl outl s) := by
  unfold Machine.execGrmDecompress
  split
  · exact .next h
  · refine .next ?_
    split
    · exact .complete h
    · split
      · exact .complete h
      · exact .jobInput h (fun _ _ _ ht => .complete ht) fun _ _ ht => .jobStart ht fun _ _ _ ht1 => .complete ht1

theorem MemKept.execGrmResume (h : s.MemOk) {a inl outl} : MemKept (execGrmResume a inl outl s) := by
  unfold Machine.execGrmResume
  split
  · exact .next h
  · exact .next (.ite (.complete h) (.ite (.complete h) (.ite (.complete h) (.ite h (.ite (.complete (.setSlot h)) (.ite
      (.complete (.setSlot h)) (.jobInput (.linesRead h) (fun _ _ _ ht => .complete (.setSlot ht)) fun _ _ ht => .jobStart ht
      fun _ _ _ ht1 => .complete (.setSlot ht1))))))))

theorem MemKept.execGrmCtxDrop (h : s.MemOk) {a} : MemKept (execGrmCtxDrop a s) := by
  unfold Machine.execGrmCtxDrop
  split
  · exact .next h
  · exact .next (.ite (.complete h) (.ite (.complete h) (.complete (.setSlot h))))

theorem State.MemOk.jobNoRoom (h : s.MemOk) {j b bs} : (s.jobNoRoom j b bs).MemOk := by
  unfold State.jobNoRoom
  split
  · exact .jobEnd h
  · exact .onRead h (fun _ _ => .jobStop h) fun _ => h
  · split
    rename_i u eu
    have hu : u.MemOk := .snd eu (.freeVal h)
    extract_lets u1
    have hu1 : u1.MemOk := .putSegs hu
    split
    · exact .jobEnd hu1
    · exact .jobEnd (.extPut hu1)

theorem State.MemOk.jobWrote (h : s.MemOk) {old j bs} : (s.jobWrote old j bs).MemOk := by
  unfold State.jobWrote
  refine .ite (.jobNoRoom h) ?_
  extract_lets u j1 src u1 u2
  have hu1 : u1.MemOk := .turnOver (.upd (.putSegs h))
  have hu2 : u2.MemOk := .ite (.set64 (.set64 hu1)) (.set64 hu1)
  exact .ite (.jobStop hu2) hu2

theorem State.MemOk.jobListEnd (h : s.MemOk) {j} : (s.jobListEnd j).MemOk := by
  unfold State.jobListEnd
  split
  · exact .jobEnd h
  · exact .jobStop h

theorem State.MemOk.compressStep (h : s.MemOk) {j bs} : (s.compressStep j bs).MemOk := .ite (.jobListEnd h) (.jobWrote (.ite (.incF h) h))

theorem State.MemOk.decompressStep (h : s.MemOk) {j bs} : (s.decompressStep j bs).MemOk := by
  unfold State.decompressStep
  dsimp only
  split
  · exact .ite (.jobListEnd h) (.jobStop (.incF h))
  · exact .jobWrote h

theorem State.MemOk.chunkIn (h : s.MemOk) {j d} : (s.chunkIn j d).2.MemOk := by
  unfold State.chunkIn
  refine .iteSnd h (.iteSnd (.readSegs h) ?_)
  split
  · rename_i u eu
    have hu : u.MemOk := .snd eu (.readSegs h)
    exact .readSegs hu
  · exact .readSegs h

theorem MemKept.execJobChunkDone (h : s.MemOk) {a d} : MemKept (execJobChunkDone a d s) := by
  unfold Machine.execJobChunkDone
  split
  · exact .next h
  · refine .ite (.next h) ?_
    split
    rename_i u eu
    have hu : u.MemOk := .snd eu (.chunkIn (.timerStart h))
    exact .next (.onRead hu (fun _ _ => .jobStop hu) fun _ => .ite (.compressStep hu) (.decompressStep hu))

theorem State.MemOk.glRefresh (h : s.MemOk) : s.glRefresh.MemOk := by
  unfold State.glRefresh
  dsimp only
  split
  · exact .set64 (.setF (.setF h))
  · exact .set64 (.setF (.setF h))

theorem State.MemOk.updSeg (h : s.MemOk) {f} : (s.updSeg f).MemOk := .upd h

theorem State.MemOk.segDone (h : s.MemOk) : s.segDone.MemOk := by
  unfold State.segDone
  split
  · exact h
  · exact .glRefresh (.extPut (.updSeg h))

theorem State.MemOk.segBegin (h : s.MemOk) (e : s.segBegin = some t) : t.MemOk := by
  -- `delta` on the function itself: the kernel then compares the bodies and does not evaluate the search for a position.
  obtain ⟨f, hf⟩ : ∃ f, f = State.segBegin := ⟨_, rfl⟩
  rw [← hf] at e
  delta State.segBegin at hf
  subst hf
  beta_reduce at e
  generalize s.nextPos = o at e
  cases o with
  | none => cases e
  | some p => exact .ofSome e (.extPut (.upd h))

theorem State.MemOk.segPut (h : s.MemOk) {g b ovf} : (s.segPut g b ovf).MemOk := .extPut (.extPut (.updSeg (.upd h)))

/-- A feed block put into the segment just begun. -/
theorem State.MemOk.segFirst (h : s.MemOk) {b ovf} (e : s.openSeg.map (fun g => (s.segPut g b ovf).glRefresh) = some t) : t.MemOk := by
  obtain ⟨g, -, rfl⟩ := Option.map_eq_some_iff.mp e
  exact .glRefresh (.segPut h)

theorem State.MemOk.glWrite (h : s.MemOk) {b ovf} (e : s.glWrite b ovf = some t) : t.MemOk := by
  have hp : ∀ v, s.segBegin = some v → v.MemOk := fun _ => .segBegin h
  have hq : ∀ v, s.segDone.segBegin = some v → v.MemOk := fun _ => .segBegin (.segDone h)
  unfold State.glWrite at e
  extract_lets fits at e
  generalize s.segBegin = p at *
  generalize s.segDone.segBegin = q at *
  generalize s.openSeg = o at e
  clear_value fits
  cases o with
  | none =>
    cases p with
    | none => cases e
    | some u => exact .segFirst (hp u rfl) e
  | some g =>
    dsimp only at e
    split at e
    · exact .ofSome e (.glRefresh (.segPut h))
    · cases q with
      | none => cases e
      | some u => exact .segFirst (hq u rfl) e

theorem MemKept.execSegmentComplete (h : s.MemOk) : MemKept (execSegmentComplete s) := by
  unfold Machine.execSegmentComplete
  split
  · exact .next (.ite h (.segDone h))
  · exact .next h

theorem State.MemOk.capBegin (h : s.MemOk) {k x gate host lift q wait} : (s.capBegin k x gate host lift q wait).MemOk := .glRefresh (.upd h)

theorem State.MemOk.updCap (h : s.MemOk) {k f} : (s.updCap k f).MemOk := .upd h

theorem State.MemOk.capRefuse (h : s.MemOk) {k} : (s.capRefuse k).MemOk := by
  unfold State.capRefuse
  split
  · exact .glRefresh (.complete (.upd h))
  · exact h

theorem State.MemOk.capFrame0 (h : s.MemOk) : s.capFrame0.MemOk := by
  unfold State.capFrame0
  refine .foldl h ?_
  intro u a hu1
  split
  · split
    · exact hu1
    · exact .ite (.capRefuse hu1) (.updCap hu1)
  · exact hu1

theorem MemKept.execCapture (h : s.MemOk) {a} : MemKept (execCapture a s) := by
  unfold Machine.execCapture
  split
  · exact .next h
  · refine .next ?_
    split
    · exact .complete h
    · split
      · exact .complete h
      · exact .capBegin (.takeUp h)

theorem State.MemOk.capRoom (h : s.MemOk) {n fuel} : (s.capRoom n fuel).1.MemOk := by
  induction fuel generalizing s with
  | zero => exact h
  | succ fuel ih =>
    unfold State.capRoom
    refine .iteFst h ?_
    split
    · exact .iteFst h (ih (.upd h))
    · exact h

theorem State.MemOk.copyTake (h : s.MemOk) {k b} : (s.copyTake k b).MemOk := by
  unfold State.copyTake
  extract_lets u
  have hu : u.MemOk := .linesRead h
  refine .ite (.updCap hu) ?_
  split
  rename_i u1 _ eu1
  have hu1 : u1.MemOk := .fst eu1 (.capRoom hu)
  exact .ite (.updCap hu1) (.updCap hu1)

theorem State.MemOk.copyBlock (h : s.MemOk) {k c b} : (s.copyBlock k c b).MemOk := by
  unfold State.copyBlock
  extract_lets u
  have hu : u.MemOk := .updCap h
  exact .ite (.copyTake hu) hu

theorem State.MemOk.copyStep (h : s.MemOk) {k} : (s.copyStep k).MemOk := by
  unfold State.copyStep
  split
  · exact h
  · refine .ite h ?_
    split
    · exact .glRefresh (.copyBlock h)
    · exact h

theorem State.MemOk.copyAll (h : s.MemOk) {k n} : (s.copyAll k n).MemOk := by
  induction n generalizing s with
  | zero => exact h
  | succ n ih => exact ih (.copyStep h)

theorem State.MemOk.copyTick (h : s.MemOk) : s.copyTick.MemOk := .ite (.foldl h fun _ _ ht => .copyStep ht) h

theorem State.MemOk.copyLost (h : s.MemOk) : s.copyLost.MemOk := by
  unfold State.copyLost
  split
  · exact h
  · split
    · exact .glRefresh (.updCap h)
    · exact h

theorem State.MemOk.capPut (h : s.MemOk) {o bs} : (s.capPut o bs).MemOk := .extPut (.extPut h)

theorem State.MemOk.capLines (h : s.MemOk) {o n} : (s.capLines o n).MemOk := .linesRead (.linesRead h)

theorem State.MemOk.capFinish (h : s.MemOk) {k} : (s.capFinish k).MemOk := by
  unfold State.capFinish
  split
  rename_i u _ eu
  have hu : u.MemOk := .fst eu (.capRoom h)
  split
  · exact hu
  · exact .complete (.glRefresh (.ite (.capPut (.upd hu)) (.upd hu)))

theorem MemKept.execCaptureWindowEnd (h : s.MemOk) {slot} : MemKept (execCaptureWindowEnd slot s) := by
  unfold Machine.execCaptureWindowEnd
  split
  · exact .next h
  · exact .next (.ite h (.ite (.capRefuse h) (.glRefresh (.updCap h))))

theorem MemKept.execCaptureCopyDone (h : s.MemOk) {slot} : MemKept (execCaptureCopyDone slot s) := by
  unfold Machine.execCaptureCopyDone
  split
  · exact .next h
  · exact .next (.ite (.capFinish (.copyAll h)) h)

theorem State.MemOk.capTruncate (h : s.MemOk) : s.capTruncate.MemOk := .upd h

theorem MemKept.execCaptureRead (h : s.MemOk) {a d} : MemKept (execCaptureRead a d s) := by
  unfold Machine.execCaptureRead
  split
  · exact .next h
  · split
    · exact .next (.complete h)
    · refine .ite (.next (.complete h)) ?_
      split
      rename_i u eu
      have hu : u.MemOk := .snd eu (.buffer (.takeUp h))
      exact .next (.upd hu)

theorem State.MemOk.readDeliver (h : s.MemOk) {r x c} : (s.readDeliver r x c).MemOk := by
  unfold State.readDeliver
  extract_lets u
  have hu : u.MemOk := .capLines h
  refine .ite (.complete hu) ?_
  split
  extract_lets u1
  have hu1 : u1.MemOk := .set64 (.addF hu)
  exact .ite (.giveTo hu1) (.giveTo hu1)

theorem State.MemOk.readGone (h : s.MemOk) {a} : (s.readGone a).MemOk := .turnLeave (.upd h)

theorem State.MemOk.readTick (h : s.MemOk) : s.readTick.MemOk := by
  unfold State.readTick
  split
  · exact h
  · refine .ite h (.ite (.turnOver (.upd (.timerStart h))) ?_)
    split
    · exact .readDeliver (.readGone h)
    · exact .complete (.readGone h)

end Sys2Proof.Machine
end

section
/-! SUPPORT. The canonical form of the memories is kept (O60): the host queues and interrupts. -/

namespace Sys2Proof.Machine

variable {s t : State}

theorem State.MemOk.stallAtBound (h : s.MemOk) : s.stallAtBound.MemOk := .ite (.setF h) h

theorem State.MemOk.takeEntry (h : s.MemOk) {q bs} : (s.takeEntry q bs).MemOk := by
  unfold State.takeEntry
  split
  · exact h
  · extract_lets e u g ord bad refuse waits x u1 src u2
    have hu2 : u2.MemOk := .updFree (.upd (.timerStart (.setF h)))
    refine .stallAtBound ?_
    clear_value bad
    split
    · exact .complete hu2
    · exact .ite (.complete hu2) (.ite hu2 (.accept hu2))

theorem State.MemOk.fetchErr (h : s.MemOk) {F} : (s.fetchErr F).MemOk := .hqErr (.ite (.aerSet h) h)

theorem State.MemOk.fetchFail (h : s.MemOk) {q F} : (s.fetchFail q F).MemOk := .fetchErr (.setF h)

theorem State.MemOk.bufFail (h : s.MemOk) {r F} : (s.bufFail r F).MemOk := .fetchErr (.setF h)

theorem State.MemOk.readSq (h : s.MemOk) {q d} : (s.readSq q d).2.MemOk := .hostRead h

theorem State.MemOk.served (h : s.MemOk) {e q} : (s.served e q).MemOk := .upd h

theorem State.MemOk.fetch (h : s.MemOk) {e d} : (s.fetch e d).MemOk := by
  unfold State.fetch
  split
  · exact h
  · refine .ite (.stallAtBound h) ?_
    split
    rename_i u eu
    have hu : u.MemOk := .snd eu (.readSq (.served h))
    split
    · exact .takeEntry hu
    · exact .upd (.timerStart hu)
    · exact .fetchFail hu
    · exact .fetchFail hu
    · exact .fetchFail hu

theorem MemKept.execSubmissionFetch (h : s.MemOk) {engine d} : MemKept (execSubmissionFetch engine d s) := .next (.fetch h)

theorem MemKept.execFenceRelease (h : s.MemOk) {a} : MemKept (execFenceRelease a s) := by
  unfold Machine.execFenceRelease
  split
  · refine .ite ?_ (.next h)
    extract_lets u
    have hu : u.MemOk := .timerStart (.updHandle h)
    exact .next (.ite (.complete hu) hu)
  · exact .next h

theorem MemKept.execFetchResume (h : s.MemOk) : MemKept (execFetchResume s) := .next (.ite (.setF h) h)

theorem State.MemOk.writeHeld1 (h : s.MemOk) {c} : (s.writeHeld1 c).MemOk := by
  unfold State.writeHeld1
  split
  · exact h
  · refine .ite ?_ h
    extract_lets src u
    have hu : u.MemOk := .cqPut (.upd h)
    split
    · exact .freeHandle hu
    · exact hu

theorem State.MemOk.writeHeld (h : s.MemOk) {c n} : (s.writeHeld c n).MemOk := by
  induction n generalizing s with
  | zero => exact h
  | succ n ih => exact ih (.writeHeld1 h)

theorem MemKept.execHeldEntryWrite (h : s.MemOk) {c} : MemKept (execHeldEntryWrite c s) := .next (.writeHeld h)

theorem State.MemOk.dbRange (h : s.MemOk) : s.dbRange.MemOk := .hqErr h

theorem MemKept.execSqTailDb (h : s.MemOk) {q v} : MemKept (execSqTailDb q v s) := .next (.ite h (.ite (.setF h) (.dbRange h)))

theorem MemKept.execCqHeadDb (h : s.MemOk) {c v} : MemKept (execCqHeadDb c v s) := .next (.ite h (.ite (.setB (.setF h)) (.dbRange h)))

theorem MemKept.execCoalTimer (h : s.MemOk) {r} : MemKept (execCoalTimer r s) := .ite (.next (.signal (.upd h))) (.next h)

theorem State.MemOk.updSr (h : s.MemOk) {r f} : (s.updSr r f).MemOk := .upd h

theorem State.MemOk.updNobuf (h : s.MemOk) {r} : (s.updNobuf r).MemOk := .setB h

theorem State.MemOk.fillPut (h : s.MemOk) {r f} : (s.fillPut r f).MemOk := .ringWrote (.updSr (.setF (.hostPut (.hostPut h))))

theorem State.MemOk.returnBuf (h : s.MemOk) {r f} : (s.returnBuf r f).MemOk := .ite (.fillPut (.updSr h)) (.updSr (.updSr h))

theorem State.MemOk.popBuf (h : s.MemOk) {r} : (s.popBuf r).MemOk := .updNobuf (.setF (.updSr h))

theorem State.MemOk.returnBad (h : s.MemOk) {r n} : (s.returnBad r n).MemOk := by
  induction n generalizing s with
  | zero => exact h
  | succ n ih =>
    unfold State.returnBad
    dsimp only
    split
    · exact h
    · exact .ite h (ih (.returnBuf (.popBuf h)))

theorem State.MemOk.returnCur (h : s.MemOk) {r st} : (s.returnCur r st).MemOk := by
  unfold State.returnCur
  split
  · exact h
  · exact .returnBad (.returnBuf h)

theorem State.MemOk.takeBuf (h : s.MemOk) {r} : (s.takeBuf r).MemOk := by
  unfold State.takeBuf
  extract_lets u x
  have hu : u.MemOk := .returnBad h
  split
  · exact .ite (.updSr (.popBuf hu)) hu
  · exact hu

theorem State.MemOk.bufRead (h : s.MemOk) {r} : (s.bufRead r).MemOk := .ite (.upd (.timerStart h)) h

theorem State.MemOk.bufResume (h : s.MemOk) : s.bufResume.MemOk := .foldl h fun _ _ ht => .ite ht (.bufRead ht)

theorem State.MemOk.readBuf (h : s.MemOk) {r d} : (s.readBuf r d).2.MemOk := .hostRead h

theorem State.MemOk.fetchBufs (h : s.MemOk) {r ds} : (s.fetchBufs r ds).MemOk := by
  induction ds generalizing s with
  | nil => exact .bufRead h
  | cons d ds ih =>
    unfold State.fetchBufs
    refine .ite h ?_
    split <;> rename_i u eu <;> have hu : u.MemOk := .snd eu (.readBuf h)
    · exact ih (.updNobuf (.setF (.updSr hu)))
    · exact .bufRead hu
    · exact .bufFail hu
    · exact .bufFail hu
    · exact .bufFail hu

theorem MemKept.execSrBufDb (h : s.MemOk) {r v entries} : MemKept (execSrBufDb r v entries s) :=
  .next (.ite h (.ite (.returnBad (.ite (.fetchBufs (.updSr h)) (.updSr h))) (.dbRange h)))

theorem MemKept.execSrFillDb (h : s.MemOk) {r v} : MemKept (execSrFillDb r v s) := .next (.ite h (.ite (.updSr h) (.dbRange h)))

theorem State.MemOk.dropRead (h : s.MemOk) {a} : (s.dropRead a).MemOk := .upd h

theorem State.MemOk.killRead (h : s.MemOk) {a} : (s.killRead a).MemOk := .upd h

theorem State.MemOk.unexpected (h : s.MemOk) : s.unexpected.MemOk := .hqErr (.aerSet (.incF h))

theorem State.MemOk.readFailed (h : s.MemOk) {a tmo st det} : (s.readFailed a tmo st det).MemOk := by
  unfold State.readFailed
  dsimp only
  split
  · exact .fetchFail h
  · exact .bufFail h
  · exact .ite (.complete (.aerSet h)) (.complete h)

theorem State.MemOk.readAgain (h : s.MemOk) {a d} : (s.readAgain a d).2.MemOk := by
  unfold State.readAgain
  split
  · exact .readSq h
  · exact .readBuf h
  · exact h

theorem MemKept.execHostReadCompletion (h : s.MemOk) {tag d} : MemKept (execHostReadCompletion tag d s) := by
  unfold Machine.execHostReadCompletion
  split
  · refine .next ?_
    split
    · exact h
    · exact h
    · exact .ite (.unexpected h) h
  · refine .ite (.next h) (.next ?_)
    split
    · rename_i u eu
      have hu : u.MemOk := .snd eu (.readAgain h)
      exact h
    · rename_i u eu
      have hu : u.MemOk := .snd eu (.readAgain h)
      exact h
    · rename_i u eu
      have hu : u.MemOk := .snd eu (.readAgain h)
      exact .readFailed (.killRead hu)
    · rename_i u eu
      have hu : u.MemOk := .snd eu (.readAgain h)
      exact .readFailed (.killRead hu)
    · rename_i u eu
      have hu : u.MemOk := .snd eu (.readAgain h)
      extract_lets u1
      have hu1 : u1.MemOk := .dropRead hu
      split
      · exact .takeEntry hu1
      · exact .returnBad (.fetchBufs hu1)
      · exact hu1

theorem MemKept.execHqeCtoExpiry (h : s.MemOk) {tag} : MemKept (execHqeCtoExpiry tag s) := by
  unfold Machine.execHqeCtoExpiry
  split
  · exact .next h
  · refine .ite (.next h) ?_
    extract_lets u
    have hu : u.MemOk := .dropRead h
    exact .next (.ite hu (.readFailed (.timeoutEvt hu)))

theorem State.MemOk.flushPba (h : s.MemOk) : s.flushPba.MemOk := .upd h

theorem State.MemOk.linkResume (h : s.MemOk) : s.linkResume.MemOk := .bufResume (.flushPba (.flushWrites h))

theorem MemKept.execD3hotEntry (h : s.MemOk) : MemKept (execD3hotEntry s) := .next (.ite h (.upd h))

theorem MemKept.execD0Return (h : s.MemOk) : MemKept (execD0Return s) := .next (.linkResume (.upd h))

theorem MemKept.execLinkL0 (h : s.MemOk) {speed width} : MemKept (execLinkL0 speed width s) := .next (.ite h (.linkResume (.upd h)))

theorem MemKept.execPewakeTimeout (h : s.MemOk) : MemKept (execPewakeTimeout s) := .next (.ite (.upd h) h)

theorem MemKept.execNop (h : s.MemOk) {a} : MemKept (execNop a s) := by
  unfold Machine.execNop
  split
  · exact .next h
  · exact .next (.complete h)

theorem MemKept.execIdentify (h : s.MemOk) {a d} : MemKept (execIdentify a d s) := by
  unfold Machine.execIdentify
  split
  · exact .next h
  · exact .next (.giveData h)

theorem MemKept.execQuery (h : s.MemOk) {a} : MemKept (execQuery a s) := by
  unfold Machine.execQuery
  split
  · exact .next h
  · split
    · refine .ite ?_ (.next (.complete h))
      split
      rename_i u eu
      have hu : u.MemOk := .snd eu (.freeVal h)
      split
      rename_i u1 eu1
      have hu1 : u1.MemOk := .snd eu1 (.freeVal hu)
      exact .next (.complete hu1)
    · exact .next (.complete h)

theorem State.MemOk.updRc (h : s.MemOk) {c f} : (s.updRc c f).MemOk := .upd h

theorem State.MemOk.rCycles (h : s.MemOk) {c n} : (s.rCycles c n).MemOk := .set64 h

theorem State.MemOk.rWake (h : s.MemOk) {c} : (s.rWake c).MemOk := by
  unfold State.rWake
  refine .ite ?_ h
  split
  rename_i u eu
  have hu : u.MemOk := .snd eu (.freeVal h)
  exact .setF (.rCycles hu)

theorem State.MemOk.rPend (h : s.MemOk) {c n} : (s.rPend c n).MemOk := .rWake (.orF h)

theorem State.MemOk.rStream (h : s.MemOk) {f} : (s.rStream f).MemOk := .foldl h fun _ _ ht => .ite (.rPend ht) ht

theorem State.MemOk.rFrame (h : s.MemOk) : s.rFrame.MemOk := .foldl h fun _ _ ht => .ite ht (.rPend ht)

end Sys2Proof.Machine
end

section
/-! SUPPORT. The canonical form of the memories is kept (O60): the streams and the acquisition. -/

namespace Sys2Proof.Machine

variable {s t : State}

theorem State.MemOk.updStream (h : s.MemOk) {id f} : (s.updStream id f).MemOk := .upd h

theorem State.MemOk.groomOne (h : s.MemOk) {st b} : (s.groomOne st b).1.MemOk := .iteFst (.set64 (.set64 h)) (.incF (.set64 (.set64 h)))

theorem State.MemOk.lose (h : s.MemOk) {st} : (s.lose st).MemOk := by
  unfold State.lose
  extract_lets u
  have hu : u.MemOk := .updStream h
  clear_value u
  split
  · exact .updSr (.incF hu)
  · exact .incF hu
  · exact .store (.putFirn (.of hu) (Memory.writeLe_wf _ _ _))

theorem MemKept.execGroomBlock (h : s.MemOk) {short} : MemKept (execGroomBlock short s) := by
  unfold Machine.execGroomBlock
  split
  · exact .next h
  · refine .ite (.next (.setF (.lose (.updStream h)))) ?_
    split
    · exact .next h
    · split
      rename_i u _ eu
      have hu : u.MemOk := .fst eu (.groomOne h)
      exact .next (.updStream hu)

theorem State.MemOk.ringWrite (h : s.MemOk) {r c bs} : (s.ringWrite r c bs).MemOk := .updSr (.hostPutRo (.ite (.timerStart h) h))

theorem State.MemOk.deliverRing (h : s.MemOk) {r n bs} : (s.deliverRing r n bs).1.MemOk := by
  unfold State.deliverRing
  refine .iteFst h ?_
  dsimp only
  split
  · refine .iteFst (.ringWrite (.takeBuf ?_)) (.takeBuf ?_)
    · split
      · exact .ite h (.returnCur h)
      · exact h
    · split
      · exact .ite h (.returnCur h)
      · exact h
  · refine .takeBuf ?_
    split
    · exact .ite h (.returnCur h)
    · exact h

theorem State.MemOk.deliverFirn (h : s.MemOk) {f n bs} (e : s.deliverFirn f n bs = some t) : t.MemOk := by
  unfold State.deliverFirn at e
  extract_lets m base size wr rd wraps adv m₁ wr₁ m₂ at e
  have hm : s.mem.firn.wf = true → m₂.wf = true := fun w => by
    refine Memory.writeLe_wf _ _ _ (Memory.writeLe_wf _ _ _ ?_)
    unfold m₁
    split
    · exact Memory.writeN_wf _ _ (Memory.writeLe_wf _ _ _ w)
    · exact Memory.writeN_wf _ _ w
  clear_value m₂ adv
  split at e
  · exact .ofSome e (.rStream (.store (.putFirn (.of h) hm)))
  · cases e

/-- A delivery that may fail leaves the state as it was when it does. -/
theorem State.MemOk.getD (h : s.MemOk) {o : Option State} (ho : ∀ t, o = some t → t.MemOk) : (o.getD s).MemOk := by
  cases o with
  | none => exact h
  | some t => exact ho t rfl

theorem State.MemOk.deliver (h : s.MemOk) {st b} : (s.deliver st b).MemOk := by
  unfold State.deliver
  dsimp only
  have hu : (match st.dest with
      | .ring r => s.deliverRing r (b.bytes st.ovf).length (b.bytes st.ovf)
      | .firn f => ((s.deliverFirn f (b.bytes st.ovf).length (b.bytes st.ovf)).getD s,
        (s.deliverFirn f (b.bytes st.ovf).length (b.bytes st.ovf)).isSome)
      | .glacier => ((s.glWrite b st.ovf).getD s, (s.glWrite b st.ovf).isSome)).1.MemOk := by
    split
    · exact .deliverRing h
    · exact .getD h fun _ e => .deliverFirn h e
    · exact .getD h fun _ e => .glWrite h e
  exact .ite (.updStream (.timersStart hu)) (.lose hu)

theorem State.MemOk.deliverFirst (h : s.MemOk) {id} : (s.deliverFirst id).MemOk := by
  unfold State.deliverFirst
  split
  · exact h
  · split
    · exact h
    · exact .ite h (.deliver (.updStream h))

theorem MemKept.execStreamBlockComplete (h : s.MemOk) {id} : MemKept (execStreamBlockComplete id s) := .next (.ite h (.deliverFirst h))

theorem MemKept.execGlacierBlockWrite (h : s.MemOk) : MemKept (execGlacierBlockWrite s) := .next (.deliverFirst h)

theorem MemKept.execBlockCloseTimer (h : s.MemOk) {id} : MemKept (execBlockCloseTimer id s) := .next (.ite (.updStream h) h)

theorem MemKept.execSrFlushTimer (h : s.MemOk) {r} : MemKept (execSrFlushTimer r s) := by
  unfold Machine.execSrFlushTimer
  split
  · exact .next (.ite h (.returnCur h))
  · exact .next h

theorem State.MemOk.drainStream (h : s.MemOk) {id n} : (s.drainStream id n).MemOk := by
  induction n generalizing s with
  | zero => exact h
  | succ n ih =>
    unfold State.drainStream
    split
    · exact h
    · split
      · exact h
      · split
        rename_i u _ eu
        have hu : u.MemOk := .fst eu (.iteFst (.groomOne h) h)
        exact ih (.deliver (.updStream hu))

theorem State.MemOk.finishClose (h : s.MemOk) {st status det closer} : (s.finishClose st status det closer).MemOk := by
  unfold State.finishClose
  dsimp only
  split
  · refine .completeStop ?_
    split
    · refine .complete ?_
      split
      · exact .updSr (.setF (.upd h))
      · exact .store (.putFirn (.of h) (Memory.writeLe_wf _ _ _))
      · exact .upd h
    · split
      · exact .updSr (.setF (.upd h))
      · exact .store (.putFirn (.of h) (Memory.writeLe_wf _ _ _))
      · exact .upd h
  · split
    · refine .complete ?_
      split
      · exact .updSr (.setF (.upd h))
      · exact .store (.putFirn (.of h) (Memory.writeLe_wf _ _ _))
      · exact .upd h
    · split
      · exact .updSr (.setF (.upd h))
      · exact .store (.putFirn (.of h) (Memory.writeLe_wf _ _ _))
      · exact .upd h

theorem State.MemOk.closeStream (h : s.MemOk) {id status det closer fill} : (s.closeStream id status det closer fill).MemOk := by
  unfold State.closeStream
  extract_lets u u1
  have hu1 : u1.MemOk := .drainStream (.updStream h)
  split
  · exact hu1
  · split
    · extract_lets u2
      have hu2 : u2.MemOk := .returnCur hu1
      exact .ite (.updStream hu2) (.finishClose hu2)
    · exact .finishClose hu1

theorem State.MemOk.openRing (h : s.MemOk) {x} : (s.openRing x).MemOk := by
  unfold State.openRing
  dsimp only
  split
  · exact .complete h
  · refine .ite (.complete h) (.ite (.complete h) ?_)
    split
    · exact .complete h
    · exact .ite (.complete h) (.ite (.complete h) (.epsClear (.upd (.updSr (.setF (.takeUp h))))))

theorem MemKept.execStreamOpen (h : s.MemOk) {a} : MemKept (execStreamOpen a s) := by
  unfold Machine.execStreamOpen
  split
  · exact .next h
  · exact .next (.ite (.ite (.complete h) (.upd (.takeUp h))) (.openRing h))

theorem MemKept.execStreamFirn (h : s.MemOk) {a} : MemKept (execStreamFirn a s) := by
  unfold Machine.execStreamFirn
  split
  · exact .next h
  · refine .next ?_
    split
    · exact .complete h
    · refine .ite (.complete h) (.ite (.complete h) ?_)
      split
      · exact .complete h
      · split
        · exact .complete h
        · exact .ite (.complete h) (.ite (.complete h) (.epsClear (.store (.putFirn (.of (.takeUp h)) (Memory.writeN_wf _ _)))))

theorem MemKept.execStreamClose (h : s.MemOk) {a} : MemKept (execStreamClose a s) := by
  unfold Machine.execStreamClose
  split
  · exact .next h
  · refine .next ?_
    split
    · exact .complete h
    · refine .ite (.complete h) (.ite (.stopIdle h) (.ite (.complete (.complete (.upd h))) ?_))
      split
      · exact .stopIdle h
      · exact .ite (.complete h) (.closeStream (.takeUp h))

theorem State.MemOk.openWaiting (h : s.MemOk) {r} : (s.openWaiting r).MemOk := by
  unfold State.openWaiting
  split
  · exact h
  · dsimp only
    split
    · exact .openRing (.upd h)
    · exact .upd h

theorem MemKept.execPendingReturnWrite (h : s.MemOk) {r} : MemKept (execPendingReturnWrite r s) := by
  unfold Machine.execPendingReturnWrite
  split
  · exact .next h
  · refine .ite (.next h) ?_
    extract_lets u u1
    have hu : u.MemOk := .fillPut h
    have hu1 : u1.MemOk := by
      unfold u1
      split
      · split
        · exact .openWaiting (.finishClose hu)
        · exact hu
      · exact hu
    exact .next (.returnBad hu1)

theorem State.MemOk.closeAll (h : s.MemOk) {status det fill} : (s.closeAll status det fill).MemOk :=
  .foldl h fun _ _ ht => .ite ht (.closeStream ht)

theorem State.MemOk.stepsDue (h : s.MemOk) : s.stepsDue.MemOk := .foldl (.upd h) fun _ _ ht => .streamsStep (.applyStep ht)

theorem State.MemOk.processFiring (h : s.MemOk) {id p n} : (s.processFiring id p n).MemOk := by
  unfold State.processFiring
  extract_lets u slot
  have hu : u.MemOk := .stepsDue h
  split
  · exact hu
  · split
    · exact hu
    · split
      rename_i u1 eu1
      have hu1 : u1.MemOk := .snd eu1 (.compressNext hu)
      dsimp only
      exact .upd (.ite (.frameEnd (.energySample (.streamSamples (.phaseSamples hu1)))) (.energySample (.streamSamples
        (.phaseSamples hu1))))

theorem MemKept.execFiringProcessed (h : s.MemOk) {fresh} : MemKept (execFiringProcessed fresh s) := by
  unfold Machine.execFiringProcessed
  refine .ite (.next h) ?_
  extract_lets u
  have hu : u.MemOk := .rxTicks h
  split
  · exact .next (.ite (.processFiring hu) hu)
  · exact .next hu

theorem MemKept.execAlignReset (h : s.MemOk) {a} : MemKept (execAlignReset a s) := by
  unfold Machine.execAlignReset
  split
  · exact .next h
  · refine .next ?_
    split
    · exact .complete h
    · exact .ite (.upd (.takeUp h)) (.complete h)

theorem State.MemOk.relock (h : s.MemOk) : s.relock.MemOk := by
  unfold State.relock
  split
  · exact .ite (.upd h) h
  · exact h

theorem MemKept.execRelockEdge (h : s.MemOk) : MemKept (execRelockEdge s) := .next (.relock h)

theorem State.MemOk.showPlan (h : s.MemOk) {id p} : (s.showPlan id p).MemOk :=
  .foldl (.setF (.setF (.setF (.setF (.setF (.setF (.setB (.setF (.setF (.setF h)))))))))) fun _ _ ht => .setF ht

theorem State.MemOk.hidePlan (h : s.MemOk) : s.hidePlan.MemOk := .resetFields h

theorem State.MemOk.acqBegin (h : s.MemOk) {a id p ring} : (s.acqBegin a id p ring).MemOk := by
  unfold State.acqBegin
  extract_lets u src src1 u1 u2 u3 src2 src3
  have hu3 : u3.MemOk := .dtsRefit (.setF (.showPlan (.upd (.setF (.takeUp h)))))
  exact .ite (.epsClear (.glRefresh (.setF (.setF (.upd hu3))))) hu3

theorem State.MemOk.acqStart (h : s.MemOk) {a id ring} : (s.acqStart a id ring).MemOk := by
  unfold State.acqStart
  split
  · exact .complete h
  · split
    · exact .acqBegin h
    · exact h

theorem MemKept.execAcqStart (h : s.MemOk) {a} : MemKept (execAcqStart a s) := by
  unfold Machine.execAcqStart
  split
  · exact .next h
  · refine .next ?_
    split
    · exact .acqStart h
    · exact .ite (.showState (.upd (.takeUp h))) (.complete h)

theorem State.MemOk.freshSeries (h : s.MemOk) {p} : (s.freshSeries p).MemOk := .setF (.setF (.setF (.upd h)))

theorem State.MemOk.frameBegin (h : s.MemOk) {zero} : (s.frameBegin zero).MemOk := by
  unfold State.frameBegin
  extract_lets u src u1 u2 src1
  have hu1 : u1.MemOk := .pulse (.launchFrame (.upd (.timersStart (.launchSettle h))))
  exact .ite hu1 (.upd (.foldl hu1 fun _ _ ht => .complete ht))

theorem State.MemOk.frame0 (h : s.MemOk) {p} : (s.frame0 p).MemOk := .capFrame0 (.setF (.set64 (.set64 (.frameBegin (.freshSeries h)))))

theorem State.MemOk.frameOver (h : s.MemOk) {whole} : (s.frameOver whole).MemOk :=
  .upd (.ite (.upd h) (.foldl (.upd h) fun _ _ ht => .ite ht (.setF ht)))

theorem MemKept.execFrameStart (h : s.MemOk) : MemKept (execFrameStart s) := by
  unfold Machine.execFrameStart
  split
  · exact .next h
  · exact .ite (.next (.frame0 (.ite (.showState h) h))) (.ite (.next (.frameBegin (.set64 (.ite (.frameOver h) h)))) (.next h))

theorem MemKept.execToneFiring (h : s.MemOk) : MemKept (execToneFiring s) := by
  unfold Machine.execToneFiring
  split
  · exact .next h
  · split
    · exact .next h
    · exact .ite (.next (.set64 (.upd (.gateOpens (.launchFire h))))) (.next h)

theorem MemKept.execPlanSwitch (h : s.MemOk) {a} : MemKept (execPlanSwitch a s) := by
  unfold Machine.execPlanSwitch
  split
  · exact .next h
  · refine .next (.ite (.complete h) (.ite (.complete h) (.ite (.complete h) ?_)))
    split
    · exact .complete h
    · split
      · exact .complete h
      · refine .ite (.complete h) ?_
        extract_lets u src u1
        have hu1 : u1.MemOk := .upd (.takeUp h)
        exact .ite hu1 (.setF hu1)

theorem State.MemOk.switchStreams (h : s.MemOk) {p} : (s.switchStreams p).MemOk :=
  .foldl (.upd (.foldl h fun _ _ ht => .closeStream ht)) fun _ _ ht => .epsClear ht

theorem State.MemOk.resetsMoot (h : s.MemOk) : s.resetsMoot.MemOk := .upd (.foldl h fun _ _ ht => .complete ht)

theorem MemKept.execPlanSwitchApply (h : s.MemOk) : MemKept (execPlanSwitchApply s) := by
  unfold Machine.execPlanSwitchApply
  split
  · refine .ite (.next h) (.ite ?_ (.next (.setF (.upd (.frameOver h)))))
    extract_lets u src src1 u1 u2 u3 u4
    have hu1 : u1.MemOk := .upd (.showPlan (.switchStreams h))
    have hu3 : u3.MemOk := .secsSwitch (.dtsRefit (.setF (.frame0 (.ite hu1 (.resetsMoot hu1)))))
    have hu4 : u4.MemOk := by
      unfold u4
      split
      · exact .progress hu3
      · exact hu3
    exact .next (.complete hu4)
  · exact .next h

theorem State.MemOk.acqEnd (h : s.MemOk) {status det stopper} : (s.acqEnd status det stopper).MemOk := by
  unfold State.acqEnd
  refine .ite h ?_
  dsimp only
  split
  · exact .upd h
  · refine .setF (.upd ?_)
    split
    · exact .complete h
    · exact h

theorem State.MemOk.unqueueStart (h : s.MemOk) : s.unqueueStart.MemOk := by
  unfold State.unqueueStart
  split
  · exact .showState (.complete (.upd h))
  · exact h

theorem MemKept.execAcqStop (h : s.MemOk) {a} : MemKept (execAcqStop a s) := by
  unfold Machine.execAcqStop
  split
  · exact .next h
  · refine .next ?_
    split
    · exact .complete h
    · exact .ite (.complete h) (.ite (.complete (.unqueueStart h)) (.ite (.acqEnd (.unqueueStart (.takeUp h))) (.stopIdle h)))

theorem MemKept.execMbMeasurement (h : s.MemOk) : MemKept (execMbMeasurement s) := .ite (.next h) (.next (.setF (.upd h)))

theorem State.MemOk.mbLock (h : s.MemOk) {i c} : (s.mbLock i c).MemOk := .ite (.orF (.upd h)) (.ite (.clrF (.upd h)) (.upd h))

theorem State.MemOk.mbCorrect (h : s.MemOk) {i} : (s.mbCorrect i).MemOk := by
  unfold State.mbCorrect
  refine .ite h ?_
  split
  rename_i u eu
  have hu : u.MemOk := .snd eu (.freeVal h)
  extract_lets d u1 c out
  have hu1 : u1.MemOk := .mbLock hu
  exact .ite hu1 (.ite (.signal (.logEvt (.orF (.setF hu1)))) (.setF hu1))

theorem MemKept.execMbCorrection (h : s.MemOk) : MemKept (execMbCorrection s) :=
  .ite (.next h) (.next (.foldl (.upd h) fun _ _ ht => .mbCorrect ht))

theorem MemKept.execMbStarved (h : s.MemOk) : MemKept (execMbStarved s) := .next (.ite (.setF h) h)

end Sys2Proof.Machine
end

section
/-! SUPPORT. The canonical form of the memories is kept (O60): the slalom unit, the end of an acquisition, the calibration and the panel. -/

namespace Sys2Proof.Machine

variable {s t : State}

theorem State.MemOk.pinTick (h : s.MemOk) : s.pinTick.MemOk := .upd h

theorem MemKept.execTriggerInput (h : s.MemOk) {pin level} : MemKept (execTriggerInput pin level s) := .next (.upd h)

theorem State.MemOk.ptWritten (h : s.MemOk) {n} : (s.ptWritten n).MemOk := .upd h

theorem MemKept.execPeriodicTimer (h : s.MemOk) {n} : MemKept (execPeriodicTimer n s) := .next (.ite h (.ptWritten (.pulse h)))

theorem State.MemOk.ptTick (h : s.MemOk) : s.ptTick.MemOk := .foldl h fun _ _ ht => .ite ht (.ite (.ptWritten (.pulse ht)) (.upd ht))

theorem State.MemOk.liftRefresh (h : s.MemOk) : s.liftRefresh.MemOk := .setB h

theorem MemKept.execLiftArmChange (h : s.MemOk) {asserted} : MemKept (execLiftArmChange asserted s) := .next (.liftRefresh (.upd h))

theorem State.MemOk.enterGate (h : s.MemOk) {g} : (s.enterGate g).MemOk := .setF (.setF (.setF (.upd h)))

theorem State.MemOk.leaveGate (h : s.MemOk) : s.leaveGate.MemOk := .ite (.setF (.setF h)) h

theorem State.MemOk.disarm (h : s.MemOk) {status det} : (s.disarm status det).MemOk := by
  unfold State.disarm
  extract_lets u u1 src
  have hu : u.MemOk := .setF (.setF (.leaveGate h))
  have hu1 : u1.MemOk := by
    unfold u1
    split
    · exact .complete hu
    · exact hu
  exact .liftRefresh (.upd hu1)

theorem State.MemOk.goGate (h : s.MemOk) {n} : (s.goGate n).MemOk := .ite (.enterGate (.leaveGate h)) (.disarm h)

theorem State.MemOk.fireCapture (h : s.MemOk) {g a} : (s.fireCapture g a).MemOk := by
  unfold State.fireCapture
  dsimp only
  split
  · exact .incF h
  · exact h
  · split
    · exact .pulse (.incF (.upd h))
    · exact .capBegin (.acceptWith (.upd h))

theorem State.MemOk.fire (h : s.MemOk) {g} : (s.fire g).MemOk := by
  unfold State.fire
  extract_lets t src u src1 u1 post
  have hu : u.MemOk := .incF (.upd h)
  have hu1 : u1.MemOk := .ite (.upd hu) hu
  split
  · exact .ite (.incF hu1) (.glRefresh (.updCap hu1))
  · exact .incF hu1
  · exact .fireCapture hu1

theorem State.MemOk.gateActions (h : s.MemOk) {g} : (s.gateActions g).MemOk := by
  unfold State.gateActions
  extract_lets act u u1 src u2
  have hu : u.MemOk := .ite (.set64 (.pulse h)) h
  have hu1 : u1.MemOk := .ite (.incF hu) hu
  have hu2 : u2.MemOk := .ite (.liftRefresh (.upd hu1)) hu1
  exact .ite (.fire hu2) hu2

theorem State.MemOk.gateDone (h : s.MemOk) : s.gateDone.MemOk := .ite (.goGate (.gateActions h)) h

theorem State.MemOk.gateTimedOut (h : s.MemOk) : s.gateTimedOut.MemOk := .ite (.goGate h) h

theorem MemKept.execGateMatchComplete (h : s.MemOk) : MemKept (execGateMatchComplete s) := .next (.ite h (.gateDone h))

theorem MemKept.execGateTimeout (h : s.MemOk) : MemKept (execGateTimeout s) := .next (.ite h (.gateTimedOut h))

theorem State.MemOk.gateTick (h : s.MemOk) {now} : (s.gateTick now).MemOk := by
  unfold State.gateTick
  refine .ite h ?_
  extract_lets u src g u1 u2
  have hu : u.MemOk := .timersStart h
  have hu1 : u1.MemOk := .ite (.incF hu) hu
  have hu2 : u2.MemOk := .setF hu1
  exact .ite (.upd hu) (.ite (.gateDone hu1) (.ite hu1 (.ite (.gateTimedOut hu2) hu2)))

theorem State.MemOk.fabricTick (h : s.MemOk) : s.fabricTick.MemOk := by
  unfold State.fabricTick
  extract_lets u now e u1 u2 u3 src
  have hu1 : u1.MemOk := .upd (.ptTick (.pinTick h))
  exact .upd (.gateTick (.ite (.relock hu1) hu1))

theorem State.MemOk.loadGate (h : s.MemOk) {g w} : (s.loadGate g w).MemOk := .foldl h fun _ _ ht => .setF ht

theorem State.MemOk.loadProgram (h : s.MemOk) {bs n} : (s.loadProgram bs n).MemOk := .upd (.foldl h fun _ _ ht => .loadGate ht)

theorem MemKept.execSlmLoad (h : s.MemOk) {a d} : MemKept (execSlmLoad a d s) := by
  unfold Machine.execSlmLoad
  split
  · exact .next h
  · refine .next (.ite (.complete h) (.withData h ?_))
    intro u n bs hu1
    refine .ite (.complete hu1) ?_
    split
    · exact .complete hu1
    · exact .complete (.loadProgram hu1)

theorem MemKept.execSlmArm (h : s.MemOk) {a} : MemKept (execSlmArm a s) := by
  unfold Machine.execSlmArm
  split
  · exact .next h
  · exact .next (.ite (.complete h) (.ite (.complete h) (.ite (.complete h) (.ite (.complete h) (.ite (.complete h) (.ite
      (.complete h) (.liftRefresh (.enterGate (.setF (.upd (.takeUp h)))))))))))

theorem MemKept.execSlmDisarm (h : s.MemOk) {a} : MemKept (execSlmDisarm a s) := by
  unfold Machine.execSlmDisarm
  split
  · exact .next h
  · refine .next ?_
    split
    · exact .complete h
    · exact .ite (.complete h) (.ite (.complete (.disarm h)) (.stopIdle h))

theorem MemKept.execLiftCfg (h : s.MemOk) {a} : MemKept (execLiftCfg a s) := by
  unfold Machine.execLiftCfg
  split
  · exact .next h
  · exact .next (.ite (.complete h) (.ite (.complete h) (.ite (.complete h) (.complete (.setF (.setF h))))))

theorem MemKept.execLiftFireEdge (h : s.MemOk) : MemKept (execLiftFireEdge s) :=
  .ite (.next h) (.ite (.next (.glRefresh (.upd (.pulse (.incF (.set64 (.upd h))))))) (.next (.upd h)))

theorem MemKept.execLiftFireRelease (h : s.MemOk) : MemKept (execLiftFireRelease s) := .next (.upd h)

theorem MemKept.execLiftLatchTimeout (h : s.MemOk) : MemKept (execLiftLatchTimeout s) := .next (.glRefresh (.upd h))

theorem MemKept.execLiftStuck (h : s.MemOk) : MemKept (execLiftStuck s) := .next (.ite (.disarm (.setF h)) h)

theorem State.MemOk.dependantsEnd (h : s.MemOk) {e} : (s.dependantsEnd e).MemOk :=
  .capTruncate (.foldl (.secsEnd (.closeAll h)) fun _ _ ht => .complete ht)

theorem State.MemOk.acqIdle (h : s.MemOk) : s.acqIdle.MemOk := .upd (.setF (.setF (.setF (.setF (.gateShut (.hidePlan h))))))

theorem State.MemOk.acqOver (h : s.MemOk) {e} : (s.acqOver e).MemOk := by
  unfold State.acqOver
  extract_lets u u1
  have hu1 : u1.MemOk := .dtsRefit (.glRefresh (.acqIdle (.dependantsEnd (.ite (.frameOver h) h))))
  refine .foldl ?_ fun _ _ ht => .completeStop ht
  split
  · exact .ite hu1 (.complete hu1)
  · exact hu1

theorem State.MemOk.startQueued (h : s.MemOk) : s.startQueued.MemOk := by
  unfold State.startQueued
  split
  · exact h
  · extract_lets src u u1
    have hu1 : u1.MemOk := .acqStart (.showState (.upd h))
    exact .ite hu1 (.showState hu1)

theorem MemKept.execAcqStopDrained (h : s.MemOk) : MemKept (execAcqStopDrained s) := by
  unfold Machine.execAcqStopDrained
  split
  · exact .ite (.next h) (.next (.startQueued (.acqOver h)))
  · exact .next h

theorem State.MemOk.updCal (h : s.MemOk) {f} : (s.updCal f).MemOk := .upd h

theorem State.MemOk.calE (h : s.MemOk) {q m} : (s.calE q m).2.MemOk := by
  unfold State.calE
  split
  · exact h
  · split
    rename_i u eu
    exact .snd eu (.freeVal h)

theorem State.MemOk.putRes (h : s.MemOk) {F i num den} : (s.putRes F i num den).MemOk := by
  unfold State.putRes
  split
  rename_i u eu
  have hu : u.MemOk := .snd eu (.freeRound h)
  refine .ite (.setS hu) ?_
  split
  rename_i u1 eu1
  have hu1 : u1.MemOk := .snd eu1 (.freeVal hu)
  exact .setF hu1

theorem State.MemOk.putQual (h : s.MemOk) {i old new m} : (s.putQual i old new m).MemOk := .putRes (.putRes h)

theorem State.MemOk.putIrr (h : s.MemOk) {x} : (s.putIrr x).MemOk := by
  unfold State.putIrr
  dsimp only
  split
  · exact .setF h
  · exact .setF (.freeVal h)

theorem State.MemOk.calCodes (h : s.MemOk) {lane pos m} : (s.calCodes lane pos m).2.MemOk := by
  unfold State.calCodes
  dsimp only
  exact .iteSnd (.calE h) h

theorem State.MemOk.calWrite (h : s.MemOk) {lane pos new e m} : (s.calWrite lane pos new e m).MemOk := by
  unfold State.calWrite
  refine .ite (.setF h) ?_
  extract_lets u
  have hu : u.MemOk := .putQual (.setF h)
  exact .ite (.putIrr (.updCal hu)) hu

theorem State.MemOk.calApply (h : s.MemOk) {v ms} : (s.calApply v ms).2.MemOk := by
  unfold State.calApply
  extract_lets pos ks
  split
  rename_i u eu
  have hu : u.MemOk := .snd eu (.foldlSnd h fun _ _ hq => .calCodes hq)
  extract_lets rail lim v1
  have hv1 : v1.MemOk := .foldl hu fun _ _ ht => .calWrite ht
  exact .ite (.logEvt (.orF (.setF hv1))) (.updCal hv1)

theorem State.MemOk.calBegin (h : s.MemOk) {v} : (s.calBegin v).MemOk := by
  unfold State.calBegin
  extract_lets u
  have hu : u.MemOk := .updCal h
  exact .ite (.spRequest hu) (.timerStart hu)

theorem State.MemOk.calGo (h : s.MemOk) {r ls} : (s.calGo r ls).MemOk := by
  induction ls with
  | nil => exact .complete (.setF (.updCal h))
  | cons l ls ih =>
    unfold State.calGo
    exact .ite (.calBegin (.updCal h)) ih

theorem State.MemOk.calNext (h : s.MemOk) : s.calNext.MemOk := by
  unfold State.calNext
  split
  · exact .ite (.calGo (.timerStart h)) h
  · exact h

theorem MemKept.execCalRun (h : s.MemOk) {a} : MemKept (execCalRun a s) := by
  unfold Machine.execCalRun
  split
  · exact .next h
  · exact .next (.ite (.complete h) (.ite (.complete h) (.ite (.complete h) (.ite (.complete h) (.calNext (.updCal (.setF (.takeUp h))))))))

theorem MemKept.execCalBg (h : s.MemOk) {a} : MemKept (execCalBg a s) := by
  unfold Machine.execCalBg
  split
  · exact .next h
  · exact .next (.complete (.setF (.ite h (.timerStart h))))

theorem MemKept.execCalBgTimer (h : s.MemOk) : MemKept (execCalBgTimer s) := by
  unfold Machine.execCalBgTimer
  refine .ite (.next h) ?_
  dsimp only
  split
  · exact .next h
  · exact .next (.ite (.calBegin (.setF (.timerStart h))) (.setF (.timerStart h)))

theorem MemKept.execCalVisitDone (h : s.MemOk) {m p1 p2 p3} : MemKept (execCalVisitDone m p1 p2 p3 s) := by
  unfold Machine.execCalVisitDone
  split
  · exact .next h
  · refine .ite (.next h) ?_
    split
    rename_i u eu
    have hu : u.MemOk := .snd eu (.calApply h)
    extract_lets u1 u2 u3 u4
    have hu1 : u1.MemOk := .updCal hu
    have hu2 : u2.MemOk := .ite (.setF hu1) hu1
    have hu3 : u3.MemOk := .ite hu2 (.incF hu2)
    exact .next (.calNext (.ite (.spRelease hu3) hu3))

theorem State.MemOk.calEnd (h : s.MemOk) {st det} : (s.calEnd st det).MemOk := by
  unfold State.calEnd
  extract_lets r u
  have hu : u.MemOk := .setF (.updCal h)
  clear_value r
  split
  · exact .complete hu
  · exact hu

theorem State.MemOk.calCompared (h : s.MemOk) : s.calCompared.MemOk := .calNext (.ite (.updCal h) (.ite (.timerStart h) h))

theorem State.MemOk.spTick (h : s.MemOk) : s.spTick.MemOk := .ite (.calNext (.spReturned h)) h

theorem MemKept.execSpCompareEnd (h : s.MemOk) {pairs} : MemKept (execSpCompareEnd pairs s) :=
  .ite (.next h) (.ite (.ite (.next (.upd (.timerStart (.setF h)))) (.next (.calCompared (.spFail (.setF h))))) (.ite (.next
    (.calCompared (.spPass (.setF h)))) (.next (.calCompared (.spFail (.setF h))))))

theorem State.MemOk.calLoadFrom (h : s.MemOk) {bs} : (s.calLoadFrom bs).MemOk := by
  unfold State.calLoadFrom
  extract_lets fl rx dac u u1 u2 u3 m
  have hu : u.MemOk := .ite (.foldl h fun _ _ ht => .setF (.setF ht)) h
  have hu1 : u1.MemOk := .ite (.foldl hu fun _ _ ht => .setF ht) hu
  have hu2 : u2.MemOk := .ite (.foldl hu1 fun _ _ ht => .setF (.setF ht)) hu1
  exact .setB (.updCal (.ite (.foldl hu2 fun _ _ ht => .setF ht) hu2))

theorem State.MemOk.calLoad (h : s.MemOk) : s.calLoad.MemOk := by
  unfold State.calLoad
  split
  · exact .calLoadFrom (.setF (.setF h))
  · exact .logEvt (.setF h)

theorem State.MemOk.calCheckLane (h : s.MemOk) {lane pos m} : (s.calCheckLane lane pos m).MemOk := by
  unfold State.calCheckLane
  split
  rename_i u eu
  have hu : u.MemOk := .snd eu (.calCodes h)
  split
  extract_lets u1 low
  have hu1 : u1.MemOk := .calWrite hu
  exact .ite (.logEvt (.setF hu1)) hu1

theorem State.MemOk.calCheck (h : s.MemOk) {ms} : (s.calCheck ms).MemOk := by
  unfold State.calCheck
  extract_lets one
  have hone : ∀ u k lane pos, u.MemOk → (one u k lane pos).MemOk := by
    intro u k lane pos hu
    unfold one
    split
    · exact .calCheckLane hu
    · exact hu
  exact .foldl (.foldl (.foldl h fun _ _ ht => hone _ _ _ _ ht) fun _ _ ht => hone _ _ _ _ ht) fun _ _ ht => hone _ _ _ _ ht

theorem MemKept.execCalStore (h : s.MemOk) {a readBack} : MemKept (execCalStore a readBack s) := by
  unfold Machine.execCalStore
  split
  · exact .next h
  · refine .next (.ite (.complete h) (.ite (.complete h) (.ite (.complete (.setF (.setF (.store (.putMram (.of h)
      (Memory.writeN_wf _ _)))))) ?_)))
    split
    rename_i u eu
    have hu : u.MemOk := .snd eu (.freeVal h)
    dsimp only
    exact .complete (.logEvt (.setF (.freeVal (.ite hu (.store (.putMram (.of hu) (Memory.writeN_wf _ _)))))))

theorem MemKept.execCalReport (h : s.MemOk) {a d} : MemKept (execCalReport a d s) := by
  unfold Machine.execCalReport
  split
  · exact .next h
  · exact .next (.giveData h)

theorem State.MemOk.updPnl (h : s.MemOk) {f} : (s.updPnl f).MemOk := .upd h

theorem State.MemOk.pnlStore (h : s.MemOk) {bs} : (s.pnlStore bs).MemOk := by
  unfold State.pnlStore
  dsimp only
  exact .setF (.setF (.setF (.setF (.setF (.setF (.setF (.setF (.setF (.setF (.setF (.updPnl (.freeVal h))))))))))))

theorem MemKept.execPnlMode (h : s.MemOk) {a d} : MemKept (execPnlMode a d s) := by
  unfold Machine.execPnlMode
  split
  · exact .next h
  · refine .next (.withRecord h ?_)
    intro u bs hu1
    split
    · exact .complete hu1
    · refine .ite ?_ (.ite (.complete hu1) (.ite (.complete hu1) (.complete (.pnlStore hu1))))
      split
      rename_i u2 eu2
      have hu2 : u2.MemOk := .snd eu2 (.freeVal hu1)
      exact .complete hu2

theorem State.MemOk.palPut (h : s.MemOk) {bs} : (s.palPut bs).MemOk := .foldl h fun _ _ ht => .setF ht

theorem MemKept.execPnlPalette (h : s.MemOk) {a d} : MemKept (execPnlPalette a d s) := by
  unfold Machine.execPnlPalette
  split
  · exact .next h
  · refine .next (.withRecord h ?_)
    intro u bs hu1
    split
    · exact .complete hu1
    · exact .ite (.updPnl (.takeUp hu1)) (.complete (.palPut hu1))

theorem State.MemOk.completeAll (h : s.MemOk) {hs} : (s.completeAll hs).MemOk := .foldl h fun _ _ ht => .complete ht

theorem State.MemOk.pnlStart (h : s.MemOk) {a} : (s.pnlStart a).MemOk :=
  .ite (.setF (.updPnl (.takeUp h))) (.ite (.complete h) (.ite (.complete h) (.updPnl (.takeUp h))))

theorem State.MemOk.pnlCancel (h : s.MemOk) : s.pnlCancel.MemOk := by
  unfold State.pnlCancel
  split
  · exact .complete (.updPnl h)
  · exact h

theorem State.MemOk.pnlOver (h : s.MemOk) : s.pnlOver.MemOk := .foldl (.setF (.setF (.updPnl h))) fun _ _ ht => .complete (.palPut ht)

theorem State.MemOk.pnlStop (h : s.MemOk) {a} : (s.pnlStop a).MemOk := by
  unfold State.pnlStop
  extract_lets u u1 u2 u3
  have hu : u.MemOk := .pnlCancel h
  have hu2 : u2.MemOk := .pnlOver (.updPnl (.foldl hu fun _ _ ht => .complete ht))
  have hu3 : u3.MemOk := .setF hu
  refine .ite ?_ (.ite ?_ ?_)
  · split
    · exact .complete hu2
    · exact hu2
  · split
    · exact .updPnl (.takeUp hu3)
    · exact hu3
  · split
    · exact .complete hu
    · exact hu

theorem MemKept.execPnlEnable (h : s.MemOk) {a} : MemKept (execPnlEnable a s) := by
  unfold Machine.execPnlEnable
  split
  · exact .next h
  · refine .next (.ite (.pnlStop h) ?_)
    split
    · exact .complete h
    · exact .pnlStart h

theorem State.MemOk.frameOpen (h : s.MemOk) : s.frameOpen.MemOk := .foldl (.updPnl (.timerStart h)) fun _ _ ht => .complete (.palPut ht)

theorem MemKept.execPanelFrameStart (h : s.MemOk) : MemKept (execPanelFrameStart s) := by
  unfold Machine.execPanelFrameStart
  refine .ite (.next h) (.ite ?_ (.ite (.next (.completeAll (.frameOpen (.setF (.updPnl h))))) (.ite (.next (.frameOpen h)) (.next h))))
  extract_lets hs u
  have hu : u.MemOk := .completeAll (.pnlOver h)
  refine .next ?_
  split
  · exact .setF (.updPnl hu)
  · exact hu

theorem State.MemOk.pnlLines (h : s.MemOk) {o n} : (s.pnlLines o n).MemOk := .linesRead (.linesRead h)

theorem MemKept.execLineFetch (h : s.MemOk) {present} : MemKept (execLineFetch present s) := by
  unfold Machine.execLineFetch
  refine .ite ?_ (.next h)
  extract_lets fl map xrgb w sz o at' n px cut crc link bad u u1
  have hu : u.MemOk := .updPnl (.pnlLines h)
  have hu1 : u1.MemOk := .ite (.setF hu) hu
  exact .next (.ite (.incF (.setF hu1)) hu1)

theorem State.MemOk.pnlMismatch (h : s.MemOk) {pipe pins} : (s.pnlMismatch pipe pins).MemOk := by
  unfold State.pnlMismatch
  extract_lets u u1
  have hu : u.MemOk := .incF (.setF h)
  exact .ite hu (.signal (.logEvt (.updPnl hu)))

theorem MemKept.execPanelActiveEnd (h : s.MemOk) {pins clkOk} : MemKept (execPanelActiveEnd pins clkOk s) := by
  unfold Machine.execPanelActiveEnd
  refine .ite ?_ (.next h)
  extract_lets sig u u1 u2 u3 u4
  have hu3 : u3.MemOk := .setF (.set64 (.setF (.setF (.updPnl h))))
  have hu4 : u4.MemOk := .ite hu3 (.pnlMismatch hu3)
  exact .next (.ite hu4 (.setF hu4))

end Sys2Proof.Machine
end

section
/-! SUPPORT. The canonical form of the memories is kept (O60): the memory controller, the patrol, the wake sources and the battery domain. -/

namespace Sys2Proof.Machine

variable {s t : State}

theorem State.MemOk.recPut (h : s.MemOk) {f} : (s.recPut f).MemOk := .ite h (.updMc h)

theorem State.MemOk.capsDrop (h : s.MemOk) : s.capsDrop.MemOk := .upd h

theorem State.MemOk.rgnPut (h : s.MemOk) {a} : (s.rgnPut a).MemOk := by
  unfold State.rgnPut
  extract_lets moved u u1 src
  have hu : u.MemOk := .foldl h fun _ _ ht => .setF (.setF ht)
  exact .ite (.upd (.capsDrop hu)) hu

theorem State.MemOk.rgnPair (h : s.MemOk) {n} : (s.rgnPair n).MemOk := .ite (.setF (.rgnPut h)) (.setF h)

theorem State.MemOk.rgnCommit (h : s.MemOk) : s.rgnCommit.MemOk := by
  unfold State.rgnCommit
  dsimp only
  split
  · exact .setF (.rgnPut h)
  · exact .setF h

theorem State.MemOk.rgnLoad (h : s.MemOk) {a} : (s.rgnLoad a).MemOk := by
  unfold State.rgnLoad
  split
  rename_i u _ eu
  have hu : u.MemOk := .fst eu (.foldlFst (.rgnPut h) fun _ _ hq =>
    .iteFst (.rgnPair (.setF (.setF hq))) (.logEvt (.rgnPair (.setF (.setF hq)))))
  exact .setF hu

theorem State.MemOk.migWant (h : s.MemOk) {c r} : (s.migWant c r).MemOk := .updMc h

theorem State.MemOk.migLog (h : s.MemOk) {c r what} : (s.migLog c r what).MemOk := .logEvt h

theorem State.MemOk.migOnUe (h : s.MemOk) {c r} : (s.migOnUe c r).MemOk := by
  unfold State.migOnUe
  split
  · exact .ite h (.migLog (.setF h))
  · exact .ite (.migWant h) h

theorem State.MemOk.migOnCe (h : s.MemOk) {c r} : (s.migOnCe c r).MemOk := .ite (.migWant (.updMc h)) (.updMc h)

theorem State.MemOk.retire (h : s.MemOk) {c} : (s.retire c).MemOk := .ite (.setF h) (.ite (.migWant (.setF h)) (.setF (.setF h)))

theorem MemKept.execMigrationStart (h : s.MemOk) {ch} : MemKept (execMigrationStart ch s) := by
  unfold Machine.execMigrationStart
  split
  · exact .next h
  · exact .next (.migLog (.setF (.setF (.recPut (.updMc h)))))

theorem State.MemOk.migLine (h : s.MemOk) {c r} : (s.migLine c r).MemOk := .ite h (.incF (.memCount (.linesRead h)))

theorem State.MemOk.migTick (h : s.MemOk) : s.migTick.MemOk := by
  unfold State.migTick
  refine .foldl h ?_
  intro u a hu1
  split
  · exact hu1
  · exact .ite hu1 (.ite (.migLine (.updMc hu1)) (.ite (.updMc hu1) (.migLine (.updMc hu1))))

theorem MemKept.execMigrationDone (h : s.MemOk) {ch} : MemKept (execMigrationDone ch s) := by
  unfold Machine.execMigrationDone
  dsimp only
  split
  · exact .ite (.next h) (.next (.signal (.migLog (.orF (.setF (.setF (.recPut (.updMc h))))))))
  · exact .next h

theorem State.MemOk.refIssue (h : s.MemOk) {c n} : (s.refIssue c n).MemOk := .set64 h

theorem MemKept.execRefresh (h : s.MemOk) {ch rank busy} : MemKept (execRefresh ch rank busy s) := by
  unfold Machine.execRefresh
  refine .ite (.next h) ?_
  extract_lets u owed put
  have hu : u.MemOk := .timerStart h
  exact .ite (.next (.refIssue hu)) (.ite (.ite (.next (.setF (.updMc hu))) (.next (.refIssue hu))) (.next (.refIssue (.updMc hu))))

theorem State.MemOk.refFlush (h : s.MemOk) {c} : (s.refFlush c).MemOk := .refIssue (.updMc h)

theorem MemKept.execMemTempPoll (h : s.MemOk) {ch ranges} : MemKept (execMemTempPoll ch ranges s) := by
  unfold Machine.execMemTempPoll
  refine .ite (.next h) ?_
  extract_lets u hot u1 u2
  have hu : u.MemOk := .timerStart h
  have hu2 : u2.MemOk := .setB (.ite (.refFlush hu) hu)
  exact .next (.ite (.signal (.logEvt (.setF hu2))) hu2)

theorem State.MemOk.selfRefresh (h : s.MemOk) : s.selfRefresh.MemOk := .updMc (.refFlush (.refFlush h))

theorem State.MemOk.freqSleep (h : s.MemOk) : s.freqSleep.MemOk := .ite (.selfRefresh h) h

theorem State.MemOk.memReply (h : s.MemOk) {src status detail data} : (s.memReply src status detail data).MemOk := .ite h (.updMc h)

theorem State.MemOk.memGood (h : s.MemOk) {q} : (s.memGood q).MemOk := by
  unfold State.memGood
  split
  split
  · exact .memReply h
  · exact .memReply (.extStore (.memCount (.ite (.incF h) h)))

theorem State.MemOk.memRead (h : s.MemOk) {q} : (s.memRead q).2.MemOk := by
  unfold State.memRead
  split
  dsimp only
  refine .iteSnd (.memCount h) ?_
  split
  · exact .memGood (.memCount h)
  · exact .memGood (.migOnCe (.incF (.memCount (.memCount h))))
  · exact .memCount h

theorem State.MemOk.memServe (h : s.MemOk) {q} : (s.memServe q).2.MemOk := by
  unfold State.memServe
  refine .iteSnd h ?_
  split
  · exact .iteSnd (.memGood h) (.memRead h)
  · exact .memRead h

theorem State.MemOk.memSettle (h : s.MemOk) {n} : (s.memSettle n).MemOk := by
  induction n generalizing s with
  | zero => exact h
  | succ n ih =>
    unfold State.memSettle
    split
    · exact h
    · split
      · exact h
      · exact ih (.updMc (.memServe h))

theorem State.MemOk.memAccept (h : s.MemOk) {q} : (s.memAccept q).MemOk := by
  unfold State.memAccept
  refine .ite (.updMc h) ?_
  split
  rename_i u eu
  have hu : u.MemOk := .snd eu (.memServe h)
  exact .updMc hu

theorem State.MemOk.memPump (h : s.MemOk) {n} : (s.memPump n).MemOk := by
  induction n generalizing s with
  | zero => exact h
  | succ n ih =>
    unfold State.memPump
    split
    · exact h
    · split
      · exact h
      · exact ih (.memAccept (.updMc h))

theorem State.MemOk.memGoOn (h : s.MemOk) : s.memGoOn.MemOk := .freqSleep (.memPump (.memSettle h))

theorem State.MemOk.memAsk (h : s.MemOk) {q} : (s.memAsk q).MemOk := .ite (.memAccept h) (.ite h (.updMc h))

theorem MemKept.execMemRequest (h : s.MemOk) {src a w first} : MemKept (execMemRequest src a w first s) := by
  unfold Machine.execMemRequest
  refine .next (.ite h (.ite (.memReply h) ?_))
  split
  · exact .memReply h
  · exact .memAsk h

theorem State.MemOk.ueCapture (h : s.MemOk) {q} : (s.ueCapture q).MemOk :=
  .ite (.setF h) (.setF (.setF (.setF (.setF (.setF (.setF (.setF (.setF h))))))))

theorem State.MemOk.memUe (h : s.MemOk) {q} : (s.memUe q).MemOk := by
  unfold State.memUe
  split
  extract_lets dat u u1 u2
  have hu1 : u1.MemOk := .updMc (.incF (.ueCapture (.memCount h)))
  exact .memReply (.migOnUe (.logEvt (.ite (.signal hu1) hu1)))

theorem State.MemOk.memReread (h : s.MemOk) {q good fallback} : (s.memReread q good fallback).MemOk := by
  unfold State.memReread
  split
  extract_lets u
  have hu : u.MemOk := .memCount h
  exact .ite (.memReply (.incF hu)) (.ite (.memGood (.logEvt (.incF (.memCount hu)))) (.ite (.memGood (.memCount hu)) (.memUe hu)))

theorem MemKept.execMemRereadDone (h : s.MemOk) {src good fallback} : MemKept (execMemRereadDone src good fallback s) := by
  unfold Machine.execMemRereadDone
  split
  · exact .next h
  · exact .next (.ite h (.memGoOn (.memReread (.updMc h))))

theorem MemKept.execScrub (h : s.MemOk) {a first} : MemKept (execScrub a first s) := .ite (.next h) (.next (.memAccept (.updMc h)))

theorem State.MemOk.memSleep (h : s.MemOk) : s.memSleep.MemOk := .selfRefresh h

theorem State.MemOk.memWake (h : s.MemOk) : s.memWake.MemOk := .memGoOn (.updMc h)

theorem State.MemOk.freqGo (h : s.MemOk) : s.freqGo.MemOk := .ite (.setF h) (.freqSleep (.updMc h))

theorem MemKept.execFreqChangeDone (h : s.MemOk) : MemKept (execFreqChangeDone s) := by
  unfold Machine.execFreqChangeDone
  split
  · exact .next h
  · exact .ite (.next h) (.next (.memGoOn (.setF (.updMc (.recPut h)))))

theorem State.MemOk.trainCh (h : s.MemOk) {c a} : (s.trainCh c a).MemOk := by
  unfold State.trainCh
  split
  · exact .setF (.updMc h)
  · extract_lets gone rs sp base u u1
    have hu1 : u1.MemOk := .setF (.updMc h)
    clear_value gone
    split
    · exact .setF (.setF hu1)
    · exact hu1

theorem State.MemOk.memTrain (h : s.MemOk) {t0 t1 sp} : (s.memTrain t0 t1 sp).MemOk :=
  .memGoOn (.setF (.updMc (.recPut (.foldl (.setF (.setB (.setF (.trainCh (.trainCh h))))) fun _ _ ht => .setB ht))))

theorem State.MemOk.memCold (h : s.MemOk) : s.memCold.MemOk := .store (.putExt (.of h) (fun _ => rfl))

theorem State.MemOk.memFinish (h : s.MemOk) {q} : (s.memFinish q).MemOk := by
  unfold State.memFinish
  split
  rename_i u eu
  have hu : u.MemOk := .snd eu (.freeVal h)
  refine .ite (.memReread hu) ?_
  split
  · rename_i u1 eu1
    have hu1 : u1.MemOk := .snd eu1 (.memServe hu)
    exact .memReread hu1
  · rename_i u1 eu1
    exact .snd eu1 (.memServe hu)

theorem State.MemOk.memDrain (h : s.MemOk) : s.memDrain.MemOk := .foldl (.updMc h) fun _ _ ht => .memFinish ht

theorem State.MemOk.memWarm (h : s.MemOk) : s.memWarm.MemOk := .upd h

theorem State.MemOk.updPat (h : s.MemOk) {f} : (s.updPat f).MemOk := .upd h

theorem State.MemOk.tripLatch (h : s.MemOk) {lv a} : (s.tripLatch lv a).MemOk := .ite (.orF h) h

theorem State.MemOk.tripTick (h : s.MemOk) : s.tripTick.MemOk := .foldl h fun _ _ ht => .tripLatch ht

theorem MemKept.execTripCondition (h : s.MemOk) {a} : MemKept (execTripCondition a s) := .next (.tripLatch h)

theorem State.MemOk.tripClear (h : s.MemOk) {m} : (s.tripClear m).MemOk := .foldl h fun _ _ ht => .ite (.clrF ht) ht

theorem MemKept.execTripLatchClear (h : s.MemOk) {m} : MemKept (execTripLatchClear m s) := .next (.tripClear h)

theorem MemKept.execTrip (h : s.MemOk) {a} : MemKept (execTrip a s) := by
  unfold Machine.execTrip
  split
  · exact .next h
  · exact .next (.ite (.complete h) (.complete (.setF h)))

theorem State.MemOk.tgRefresh (h : s.MemOk) : s.tgRefresh.MemOk := .setF (.updPat h)

theorem State.MemOk.tgCommit (h : s.MemOk) {i x} : (s.tgCommit i x).MemOk := by
  unfold State.tgCommit
  extract_lets u
  have hu : u.MemOk := .updPat h
  exact .ite (.tgRefresh hu) hu

theorem State.MemOk.tgCairn (h : s.MemOk) {x} : (s.tgCairn x).MemOk := by
  unfold State.tgCairn
  extract_lets u
  have hu : u.MemOk := .updPat h
  exact .ite (.tgRefresh hu) hu

theorem State.MemOk.tgEnterWatch (h : s.MemOk) : s.tgEnterWatch.MemOk := .setF (.setF (.setF (.updPat h)))

theorem State.MemOk.tgEnterRun (h : s.MemOk) : s.tgEnterRun.MemOk := .updPat h

theorem MemKept.execPatTelegram (h : s.MemOk) {a} : MemKept (execPatTelegram a s) := by
  unfold Machine.execPatTelegram
  split
  · exact .next h
  · extract_lets u u1
    have hu : u.MemOk := .setF (.setF (.setF h))
    exact .next (.complete (.ite (.tgRefresh hu) hu))

theorem MemKept.execPatConfig (h : s.MemOk) {a} : MemKept (execPatConfig a s) := by
  unfold Machine.execPatConfig
  split
  · exact .next h
  · exact .next (.ite (.complete h) (.complete (.setF (.ite h (.updPat h)))))

theorem State.MemOk.staleTick (h : s.MemOk) : s.staleTick.MemOk := .ite (.updPat h) h

theorem MemKept.execStaleTimeout (h : s.MemOk) : MemKept (execStaleTimeout s) := .next (.staleTick h)

theorem State.MemOk.pollDone (h : s.MemOk) {bs} : (s.pollDone bs).MemOk := by
  unfold State.pollDone
  extract_lets u a u1
  have hu : u.MemOk := .updPat h
  have hu1 : u1.MemOk := .set64 (.incF hu)
  exact .ite (.incF hu) (.ite (.incF hu) (.ite (.incF hu) (.ite (.updPat (.timerStart hu1)) hu1)))

theorem State.MemOk.pollByte (h : s.MemOk) {b} : (s.pollByte b).MemOk := .ite h (.ite (.updPat h) (.ite (.updPat h) (.pollDone h)))

theorem State.MemOk.pollFraming (h : s.MemOk) : s.pollFraming.MemOk := .ite h (.incF (.updPat h))

theorem MemKept.execPatrolPoll (h : s.MemOk) {bs framing} : MemKept (execPatrolPoll bs framing s) := by
  unfold Machine.execPatrolPoll
  refine .ite (.next h) ?_
  extract_lets u
  have hu : u.MemOk := .timerStart h
  exact .next (.ite (.pollFraming (.foldl hu fun _ _ ht => .pollByte ht)) (.foldl hu fun _ _ ht => .pollByte ht))

theorem State.MemOk.replyTick (h : s.MemOk) : s.replyTick.MemOk := .ite (.setF h) h

theorem MemKept.execReplyEnd (h : s.MemOk) : MemKept (execReplyEnd s) := by
  unfold Machine.execReplyEnd
  split
  · exact .next h
  · exact .next (.ite h (.incF (.setF (.updPat h))))

theorem MemKept.execPollGapTimeout (h : s.MemOk) : MemKept (execPollGapTimeout s) := .next (.ite (.updPat h) h)

theorem MemKept.execLineBreak (h : s.MemOk) : MemKept (execLineBreak s) := .ite (.next h) (.next (.incF (.updPat h)))

theorem State.MemOk.toRunBegin (h : s.MemOk) {hs cairn} : (s.toRunBegin hs cairn).MemOk := .upd (.timerStart h)

theorem State.MemOk.keepSource (h : s.MemOk) {src} : (s.keepSource src).MemOk := .upd h

theorem State.MemOk.wakeRun (h : s.MemOk) {reason} : (s.wakeRun reason).MemOk :=
  .ite (.keepSource (.setF (.setF (.toRunBegin h)))) (.ite (.showState h) h)

theorem State.MemOk.updVb (h : s.MemOk) {f} : (s.updVb f).MemOk := .upd h

theorem State.MemOk.vbtShow (h : s.MemOk) : s.vbtShow.MemOk := .setF (.setB h)

theorem State.MemOk.mirrorCfg (h : s.MemOk) {v} : (s.mirrorCfg v).MemOk := .setF (.setF (.setF (.setF (.setF h))))

theorem State.MemOk.mirrorPut (h : s.MemOk) {off v} : (s.mirrorPut off v).MemOk :=
  .ite (.set64 h) (.ite (.set64 h) (.ite (.mirrorCfg h) (.ite (.clrF (.clrF h)) (.setF h))))

theorem State.MemOk.vbtWrite (h : s.MemOk) {ini off v} : (s.vbtWrite ini off v).MemOk :=
  .ite (.regErr (.orF h)) (.vbtShow (.mirrorPut (.updVb h)))

theorem MemKept.execVbtCommit (h : s.MemOk) : MemKept (execVbtCommit s) := by
  unfold Machine.execVbtCommit
  split
  · exact .next h
  · exact .next (.vbtShow (.updVb h))

theorem State.MemOk.mirrorCopy (h : s.MemOk) : s.mirrorCopy.MemOk := by
  unfold State.mirrorCopy
  extract_lets b put u u1 u2
  have hput : ∀ {off v} {w : State}, w.MemOk → (put off v w).MemOk := fun hw => .ite hw (.mirrorPut hw)
  have hu : u.MemOk := hput (hput (hput h))
  exact .foldl (.set64 (.ite hu (.setB (.setB hu)))) fun _ _ ht => hput ht

theorem State.MemOk.showWake (h : s.MemOk) : s.showWake.MemOk := by
  unfold State.showWake
  extract_lets m put u
  have hput : ∀ {n F} {v : State}, v.MemOk → (put n F v).MemOk := fun hv => .ite (.setF hv) hv
  exact .upd (hput (hput (hput (hput h))))

theorem State.MemOk.wakeEvent (h : s.MemOk) {src} : (s.wakeEvent src).MemOk := .ite (.upd h) h

theorem State.MemOk.alarmCheck (h : s.MemOk) : s.alarmCheck.MemOk := .ite h (.ite (.wakeEvent (.updVb h)) (.updVb (.updVb h)))

theorem MemKept.execRtcAlarm (h : s.MemOk) : MemKept (execRtcAlarm s) := .next (.alarmCheck h)

theorem MemKept.execVbtMirrorCopy (h : s.MemOk) : MemKept (execVbtMirrorCopy s) := by
  unfold Machine.execVbtMirrorCopy
  refine .ite (.next h) ?_
  extract_lets u
  have hu : u.MemOk := .alarmCheck (.updVb (.timerStart h))
  exact .next (.ite (.mirrorCopy hu) hu)

theorem State.MemOk.wakeLevel (h : s.MemOk) {bit level} : (s.wakeLevel bit level).MemOk := .updVb h

theorem MemKept.execWakePin (h : s.MemOk) {pin level} : MemKept (execWakePin pin level s) := by
  unfold Machine.execWakePin
  extract_lets u armed u1
  have hu1 : u1.MemOk := .updVb (.wakeLevel h)
  exact .next (.ite (.wakeEvent hu1) hu1)

theorem MemKept.execTamperAssert (h : s.MemOk) {level} : MemKept (execTamperAssert level s) := by
  unfold Machine.execTamperAssert
  extract_lets was u u1
  have hu : u.MemOk := .wakeLevel h
  have hu1 : u1.MemOk := .updVb hu
  exact .ite (.next hu) (.next (.ite (.wakeEvent hu1) hu1))

end Sys2Proof.Machine
end

section
/-! SUPPORT. The canonical form of the memories is kept (O60): the cairn core and the ridge cores. -/

namespace Sys2Proof.Machine

variable {s t : State}

theorem State.MemOk.updCrn (h : s.MemOk) {f} : (s.updCrn f).MemOk := .upd h

theorem State.MemOk.watchTick (h : s.MemOk) {c} : (s.watchTick c).MemOk := by
  unfold State.watchTick
  dsimp only
  exact .upd (.dcbTick (.dcbTick (.clipTick (.clipTick h))))

theorem State.MemOk.watchLaunch (h : s.MemOk) : s.watchLaunch.MemOk := .ite (.gateOpens h) h

theorem State.MemOk.dWrite (h : s.MemOk) {a v} : (s.dWrite a v).MemOk := .updCrn h

theorem State.MemOk.zonePut (h : s.MemOk) {es} : (s.zonePut es).MemOk := by
  unfold State.zonePut
  extract_lets late u u1 u2
  have hu1 : u1.MemOk := .setF (.incF (.foldl h fun _ _ ht => .dWrite ht))
  have hu2 : u2.MemOk := .ite (.updCrn (.incF hu1)) hu1
  exact .ite (.setF hu2) hu2

theorem MemKept.execWatchFrame (h : s.MemOk) {x} : MemKept (execWatchFrame x s) :=
  .ite (.next h) (.next (.zonePut (.updCrn (.addF (.addF (.foldl h fun _ _ ht => .watchTick ht))))))

theorem State.MemOk.kPut (h : s.MemOk) {k v} : (s.kPut k v).MemOk := .ite h (.updCrn h)

theorem State.MemOk.crnHalt (h : s.MemOk) {cause} : (s.crnHalt cause).MemOk := .wakeRun (.logEvt (.setF (.setF h)))

theorem State.MemOk.crnGo (h : s.MemOk) {pc} : (s.crnGo pc).MemOk := .ite (.crnHalt (.setF h)) (.setF h)

theorem State.MemOk.crnStep (h : s.MemOk) : s.crnStep.MemOk := .crnGo h

theorem State.MemOk.crnDo (h : s.MemOk) {f : State → State} (hf : (f s).MemOk) : (s.crnDo f).MemOk := .ite (.crnStep hf) h

theorem State.MemOk.crnStart (h : s.MemOk) : s.crnStart.MemOk := .crnGo (.setF (.setF (.setF (.setF (.setF (.updCrn h))))))

theorem State.MemOk.crnStop (h : s.MemOk) : s.crnStop.MemOk := by
  unfold State.crnStop
  extract_lets u
  have hu : u.MemOk := .gateShut (.setF h)
  exact .ite hu (.setF hu)

theorem MemKept.execCrnNop (h : s.MemOk) : MemKept (execCrnNop s) := .next (.crnDo h (f := id) h)

theorem MemKept.execCrnAdd (h : s.MemOk) {kd ka kb} : MemKept (execCrnAdd kd ka kb s) := .next (.crnDo h (.kPut h))

theorem MemKept.execCrnSub (h : s.MemOk) {kd ka kb} : MemKept (execCrnSub kd ka kb s) := .next (.crnDo h (.kPut h))

theorem MemKept.execAddi (h : s.MemOk) {kd ka imm} : MemKept (execAddi kd ka imm s) := .next (.crnDo h (.kPut h))

theorem MemKept.execCrnAnd (h : s.MemOk) {kd ka kb} : MemKept (execCrnAnd kd ka kb s) := .next (.crnDo h (.kPut h))

theorem MemKept.execCrnOr (h : s.MemOk) {kd ka kb} : MemKept (execCrnOr kd ka kb s) := .next (.crnDo h (.kPut h))

theorem MemKept.execShr (h : s.MemOk) {kd ka n} : MemKept (execShr kd ka n s) := .next (.crnDo h (.kPut h))

theorem MemKept.execLd (h : s.MemOk) {kd ka imm} : MemKept (execLd kd ka imm s) := .next (.crnDo h (.kPut h))

theorem MemKept.execSt (h : s.MemOk) {kd ka imm} : MemKept (execSt kd ka imm s) := .next (.crnDo h (.dWrite h))

theorem MemKept.execCrnCmp (h : s.MemOk) {ka kb} : MemKept (execCrnCmp ka kb s) := .next (.crnDo h (.updCrn h))

theorem MemKept.execCrnBr (h : s.MemOk) {cond target} : MemKept (execCrnBr cond target s) := .next (.ite h (.ite (.crnGo h) (.crnStep h)))

theorem MemKept.execIir (h : s.MemOk) {kd ka kb n} : MemKept (execIir kd ka kb n s) := .next (.crnDo h (.kPut (.dWrite (.dWrite h))))

theorem MemKept.execRules (h : s.MemOk) {kd ka kb} : MemKept (execRules kd ka kb s) := .next (.crnDo h (.kPut h))

theorem MemKept.execWaitf (h : s.MemOk) {kd} : MemKept (execWaitf kd s) :=
  .next (.ite h (.ite (.crnStep (.kPut (.updCrn (.setF h)))) (.setF h)))

theorem MemKept.execCrnIn (h : s.MemOk) {kd port} : MemKept (execCrnIn kd port s) := by
  unfold Machine.execCrnIn
  refine .next (.crnDo h (.ite ?_ (.kPut (.ite (.updCrn h) h))))
  split
  rename_i u eu
  have hu : u.MemOk := .snd eu (.freeVal h)
  exact .kPut hu

theorem MemKept.execCrnOut (h : s.MemOk) {kd port} : MemKept (execCrnOut kd port s) :=
  .next (.ite h (.ite (.crnStep (.vbtWrite h)) (.ite (.crnStep (.vbtWrite h)) (.crnHalt h))))

theorem MemKept.execTgram (h : s.MemOk) {ka kb} : MemKept (execTgram ka kb s) := .next (.crnDo h (.updCrn (.tgCairn h)))

theorem MemKept.execWake (h : s.MemOk) {reason} : MemKept (execWake reason s) := .next (.ite h (.ite (.crnHalt h) (.crnStep (.wakeRun h))))

theorem MemKept.execStby (h : s.MemOk) : MemKept (execStby s) := .next (.crnDo h (.ite (.ite (.showState h) h) (.ite (.upd h) (.setF h))))

theorem MemKept.execCrnWatchdog (h : s.MemOk) : MemKept (execCrnWatchdog s) := .next (.ite (.crnHalt h) h)

theorem State.MemOk.crnLoad (h : s.MemOk) {bs} : (s.crnLoad bs).MemOk :=
  .ite (.updCrn h) (.foldl (.foldl (.updCrn h) fun _ _ ht => .setF ht) fun _ _ ht => .setF (.setF ht))

theorem State.MemOk.crnFetch (h : s.MemOk) : s.crnFetch.MemOk := by
  unfold State.crnFetch
  refine .ite h (.ite (.crnHalt h) ?_)
  split
  · exact .upd h
  · exact .crnHalt h

theorem State.MemOk.rControl (h : s.MemOk) {c a} : (s.rControl c a).MemOk := by
  unfold State.rControl
  refine .foldl h ?_
  intro u a hu1
  split
  · exact .setF hu1
  · exact .clrF hu1
  · exact hu1

theorem State.MemOk.rTick (h : s.MemOk) {c} : (s.rTick c).MemOk := .updRc (.rControl h)

theorem State.MemOk.rTicks (h : s.MemOk) {c n} : (s.rTicks c n).MemOk := by
  induction n generalizing s with
  | zero => exact h
  | succ n ih => exact ih (.rTick h)

theorem State.MemOk.rDrain (h : s.MemOk) {c} : (s.rDrain c).MemOk := .rTicks h

theorem State.MemOk.rDmaLast (h : s.MemOk) {c} : (s.rDmaLast c).MemOk := .updRc h

theorem State.MemOk.rExcept (h : s.MemOk) {c cause pc addr} : (s.rExcept c cause pc addr).MemOk := by
  unfold State.rExcept
  extract_lets u u1 u2 u3 u4 dat
  have hu2 : u2.MemOk := .setF (.setB (.setF (.setF (.rDrain (.updRc h)))))
  have hu3 : u3.MemOk := by
    unfold u3
    split
    · exact .setF hu2
    · exact hu2
  have hu4 : u4.MemOk := .rDmaLast hu3
  exact .ite (.signal (.logEvt hu4)) (.logEvt hu4)

theorem State.MemOk.rGo (h : s.MemOk) {c pc} : (s.rGo c pc).MemOk := .ite (.rExcept (.updRc h)) (.ite (.rExcept (.updRc h)) (.updRc h))

theorem MemKept.execInterruptEntry (h : s.MemOk) {c} : MemKept (execInterruptEntry c s) := by
  unfold Machine.execInterruptEntry
  refine .ite (.next h) ?_
  split
  · exact .next h
  · exact .next (.rGo (.updRc (.rCycles (.rDrain h))))

theorem State.MemOk.rTimer (h : s.MemOk) {c} : (s.rTimer c).MemOk := .ite h (.rPend (.updRc h))

theorem MemKept.execRidgeTimer (h : s.MemOk) {c} : MemKept (execRidgeTimer c s) := .next (.ite h (.rTimer h))

theorem State.MemOk.rTimerTick (h : s.MemOk) : s.rTimerTick.MemOk := .foldl h fun _ _ ht => .ite ht (.ite (.rTimer ht) (.updRc ht))

theorem State.MemOk.dmaTake (h : s.MemOk) {c ch v} : (s.dmaTake c ch v).MemOk := .upd (.updRc h)

theorem State.MemOk.dmaGo (h : s.MemOk) {c ch v} : (s.dmaGo c ch v).MemOk := .ite (.setF h) (.setF (.dmaTake h))

theorem State.MemOk.rPut (h : s.MemOk) {c a bs} : (s.rPut c a bs).MemOk := .updRc h

theorem State.MemOk.spacePut (h : s.MemOk) {c sp a bs} : (s.spacePut c sp a bs).MemOk := by
  unfold State.spacePut
  split
  · exact .rPut h
  · exact .store (.putFirn (.of h) (Memory.writeN_wf _ _))
  · exact .extPut h

theorem State.MemOk.dmaEnd (h : s.MemOk) {c ch st bytes} : (s.dmaEnd c ch st bytes).MemOk := by
  unfold State.dmaEnd
  extract_lets x fl next u u1
  have hu : u.MemOk := .rPut h
  have hu1 : u1.MemOk := .ite (.rPend hu) hu
  exact .ite (.dmaTake hu1) (.setF hu1)

theorem State.MemOk.dmaRow (h : s.MemOk) {c d i bad} (e : s.dmaRow c d i bad = .ok t) : t.MemOk := by
  unfold State.dmaRow at e
  dsimp only at e
  split at e
  · cases e
  · split at e
    · cases e
    · split at e
      · cases e
      · rw [Except.ok.injEq] at e
        subst e
        exact .spacePut (.ite (.linesRead h) h)

theorem State.MemOk.dmaRows (h : s.MemOk) {c d bad n i} : (s.dmaRows c d bad n i).1.MemOk := by
  induction n generalizing s i with
  | zero => exact h
  | succ n ih =>
    unfold State.dmaRows
    split
    · exact h
    · rename_i u eu
      exact ih (.dmaRow h eu)

theorem State.MemOk.dmaStream (h : s.MemOk) {c ch d p} (e : s.dmaStream c ch d = some (t, p)) : t.MemOk := by
  unfold State.dmaStream at e
  extract_lets rec' m base wr rd o n u rd' at e
  have hu : u.MemOk := .rPut h
  clear_value u n o rd' m
  split at e
  · exact .fst (Option.some.inj e) h
  · split at e
    · split at e
      · cases e
      · exact .fst (Option.some.inj e) h
    · split at e
      · cases e
      · split at e
        · exact .fst (Option.some.inj e) h
        · split at e
          · exact .fst (Option.some.inj e) h
          · exact .fst (Option.some.inj e) (.store (.putFirn (.of hu) (Memory.writeLe_wf _ _ _)))

theorem MemKept.execDmaDescriptorDone (h : s.MemOk) {c ch ecc} : MemKept (execDmaDescriptorDone c ch ecc s) := by
  unfold Machine.execDmaDescriptorDone
  refine .ite (.next h) (.next (.ite (.dmaEnd h) (.ite ?_ (.ite h ?_))))
  · split
    · exact h
    · rename_i eu
      exact .dmaEnd (.dmaStream h eu)
  · extract_lets u
    have hu : u.MemOk := .ite (.addF h) h
    clear_value u
    split
    rename_i eu
    exact .dmaEnd (.fst eu (.dmaRows hu))

theorem State.MemOk.dmaAbort (h : s.MemOk) {c ch} : (s.dmaAbort c ch).MemOk := .ite (.dmaEnd h) h

theorem MemKept.execDmaAbort (h : s.MemOk) {c ch} : MemKept (execDmaAbort c ch s) := .next (.ite h (.dmaAbort h))

theorem State.MemOk.tgPort (h : s.MemOk) {c} : (s.tgPort c).MemOk := .ite (.tgCommit h) h

theorem State.MemOk.tgDrop (h : s.MemOk) {c} : (s.tgDrop c).MemOk := .updPat h

theorem MemKept.execTgCommit (h : s.MemOk) {c} : MemKept (execTgCommit c s) := .next (.ite h (.tgPort h))

theorem State.MemOk.rFull (h : s.MemOk) {c b} : (s.rFull c b).MemOk := .ite (.rPend (.setB h)) (.clrF (.setB h))

theorem State.MemOk.rDeliver (h : s.MemOk) {c m} : (s.rDeliver c m).MemOk := .complete (.rFull (.foldl h fun _ _ ht => .setF ht))

theorem State.MemOk.rNext (h : s.MemOk) {c n} : (s.rNext c n).MemOk := by
  induction n generalizing s with
  | zero => exact h
  | succ n ih =>
    unfold State.rNext
    split
    · exact h
    · exact .ite h (.ite (.rDeliver (.updRc h)) (ih (.complete (.updRc h))))

theorem State.MemOk.msgAck (h : s.MemOk) {c} : (s.msgAck c).MemOk := .rNext (.rFull h)

theorem MemKept.execMsgAck (h : s.MemOk) {c} : MemKept (execMsgAck c s) := .next (.ite h (.msgAck h))

theorem MemKept.execRdgMsg (h : s.MemOk) {a} : MemKept (execRdgMsg a s) := by
  unfold Machine.execRdgMsg
  split
  · exact .next h
  · exact .next (.ite (.complete h) (.ite (.complete h) (.rNext (.updRc (.takeUp h)))))

theorem MemKept.execRdgLoad (h : s.MemOk) {a d} : MemKept (execRdgLoad a d s) := by
  unfold Machine.execRdgLoad
  split
  · exact .next h
  · refine .next (.ite (.complete h) (.withData h ?_))
    intro u n bs hu1
    refine .ite (.complete hu1) ?_
    split
    · exact .complete hu1
    · exact .complete hu1
    · extract_lets free u2 m
      have hu2 : u2.MemOk := .foldl hu1 fun _ _ ht => .updRc ht
      exact .ite (.complete hu2) (.complete hu2)

theorem State.MemOk.rStart (h : s.MemOk) {c entry} : (s.rStart c entry).MemOk :=
  .setF (.updRc (.tgDrop (.setF (.resetFieldsOf (.updRc h)))))

theorem MemKept.execRdgStart (h : s.MemOk) {a} : MemKept (execRdgStart a s) := by
  unfold Machine.execRdgStart
  split
  · exact .next h
  · refine .next (.ite (.complete h) (.ite (.complete h) (.ite (.complete h) ?_)))
    extract_lets u
    have hu : u.MemOk := .foldl h fun _ _ ht => .rStart ht
    exact .ite (.complete hu) (.complete hu)

theorem State.MemOk.rStop (h : s.MemOk) {c} : (s.rStop c).MemOk :=
  .ite h (.setF (.tgDrop (.setF (.foldl (.rDrain (.updRc h)) fun _ _ ht => .dmaAbort ht))))

theorem MemKept.execRdgStop (h : s.MemOk) {a} : MemKept (execRdgStop a s) := by
  unfold Machine.execRdgStop
  split
  · exact .next h
  · exact .next (.ite (.complete h) (.complete (.foldl h fun _ _ ht => .rStop ht)))

theorem State.MemOk.rReset (h : s.MemOk) {c} : (s.rReset c).MemOk := .foldl (.tgDrop (.resetFieldsOf (.updRc h))) fun _ _ ht => .complete ht

end Sys2Proof.Machine
end

section
/-! SUPPORT. The canonical form of the memories is kept (O60): the source, the summit and its update. -/

namespace Sys2Proof.Machine

variable {s t : State}

theorem State.MemOk.updPump (h : s.MemOk) {n f} : (s.updPump n f).MemOk := .upd h

theorem State.MemOk.showRamp (h : s.MemOk) {n} : (s.showRamp n).MemOk := .setF h

theorem State.MemOk.showPower (h : s.MemOk) {n} : (s.showPower n).MemOk := by
  unfold State.showPower
  split
  · exact h
  · refine .ite (.setF h) ?_
    split
    rename_i u eu
    have hu : u.MemOk := .snd eu (.freeRound h)
    exact .setF hu

theorem State.MemOk.coolerPass (h : s.MemOk) {n mk} : (s.coolerPass n mk).MemOk := .ite (.upd h) h

theorem State.MemOk.binPut (h : s.MemOk) {n bs} : (s.binPut n bs).MemOk := by
  -- `delta` on the function itself: the kernel then compares the bodies and does not evaluate the target of the cooler.
  obtain ⟨f, hf⟩ : ∃ f, f = State.binPut := ⟨_, rfl⟩
  rw [← hf]
  delta State.binPut at hf
  subst hf
  beta_reduce
  generalize coolerTarget bs = p
  obtain ⟨u, c⟩ := p
  exact .showPower (.setF (.coolerPass (.setF (.setB (.setF (.updPump h))))))

theorem MemKept.execSrcConfig (h : s.MemOk) {a d} : MemKept (execSrcConfig a d s) := by
  unfold Machine.execSrcConfig
  split
  · exact .next h
  · refine .next (.ite (.complete h) (.withRecord h ?_))
    intro u bs hu1
    split
    · exact .complete hu1
    · exact .ite (.complete hu1) (.complete (.binPut hu1))

theorem State.MemOk.endPumpSet (h : s.MemOk) {n st det} : (s.endPumpSet n st det).MemOk := by
  unfold State.endPumpSet
  split
  · exact h
  · exact .complete (.updPump h)

theorem State.MemOk.takeFromOffs (h : s.MemOk) {n} : (s.takeFromOffs n).MemOk :=
  .foldl (.upd h) fun _ _ ht => .ite (.complete ht) (.ite (.complete ht) (.upd ht))

theorem State.MemOk.rampTo (h : s.MemOk) {n target rate off} : (s.rampTo n target rate off).MemOk := .setF (.setF (.updPump h))

theorem MemKept.execPumpSet (h : s.MemOk) {a} : MemKept (execPumpSet a s) := by
  unfold Machine.execPumpSet
  split
  · exact .next h
  · refine .next (.ite (.complete h) ?_)
    split
    · exact .ite (.complete h) (.complete h)
    · exact .ite (.complete h) (.ite (.complete h) (.ite (.complete h) (.ite (.complete h) (.rampTo (.updPump (.takeFromOffs
        (.endPumpSet (.takeUp h))))))))

theorem State.MemOk.rampOff (h : s.MemOk) {n} : (s.rampOff n).MemOk := .ite h (.rampTo (.endPumpSet h))

theorem MemKept.execPumpOff (h : s.MemOk) {a} : MemKept (execPumpOff a s) := by
  unfold Machine.execPumpOff
  split
  · exact .next h
  · refine .next (.ite (.complete h) ?_)
    extract_lets u left u1 src
    have hu : u.MemOk := .foldl h fun _ _ ht => .ite (.rampOff ht) ht
    exact .ite (.complete hu) (.upd (.takeUp hu))

theorem State.MemOk.offDone (h : s.MemOk) {n} : (s.offDone n).MemOk := .foldl (.upd h) fun _ _ ht => .ite (.complete ht) (.upd ht)

theorem MemKept.execPumpRampDone (h : s.MemOk) {n} : MemKept (execPumpRampDone n s) := by
  unfold Machine.execPumpRampDone
  refine .ite (.ite (.next (.offDone (.setF (.setF (.updPump h))))) ?_) (.next h)
  extract_lets u
  have hu : u.MemOk := .setF (.updPump h)
  refine .next ?_
  split
  · exact .complete hu
  · exact hu

theorem MemKept.execPumpPeriod (h : s.MemOk) {n k} : MemKept (execPumpPeriod n k s) := by
  unfold Machine.execPumpPeriod
  refine .ite (.next h) ?_
  extract_lets u st
  have hu : u.MemOk := .timersStart (.timerStart h)
  split
  extract_lets u1 p u2
  have hu1 : u1.MemOk := .updPump hu
  have hu2 : u2.MemOk := by
    unfold u2
    refine .ite hu1 ?_
    split
    rename_i u3 eu3
    have hu3 : u3.MemOk := .snd eu3 (.freeRound hu1)
    exact .showPower (.setF hu3)
  refine .ite (.next hu2) ?_
  split
  rename_i u3 eu3
  have hu3 : u3.MemOk := .snd eu3 (.freeVal hu2)
  exact .next (.showRamp (.updPump (.setF hu3)))

theorem State.MemOk.latchOne (h : s.MemOk) {c fault cause} : (s.latchOne c fault cause).MemOk :=
  .ite h (.ite (.offDone (.endPumpSet (.setF (.showRamp (.setF (.setF (.setF (.setF (.updPump (.upd h)))))))))) (.setF (.setF
    (.gateShut (.upd h)))))

theorem State.MemOk.faultEnds (h : s.MemOk) {fault} : (s.faultEnds fault).MemOk := .dtsEnd (.acqEnd h)

theorem State.MemOk.faultTold (h : s.MemOk) {c k} : (s.faultTold c k).MemOk := .faultEnds (.logEvt (.ite (.signal h) h))

theorem State.MemOk.srcFaults (h : s.MemOk) {l} : (s.srcFaults l).MemOk := by
  unfold State.srcFaults
  split
  · exact h
  · exact .wakeRun (.foldl (.setF (.foldl (.foldl h fun _ _ ht => .latchOne ht) fun _ _ ht => .latchOne ht)) fun _ _ ht => .faultTold ht)

theorem State.MemOk.srcFault (h : s.MemOk) {c k} : (s.srcFault c k).MemOk := .srcFaults h

theorem State.MemOk.thermalLatch (h : s.MemOk) {temps} : (s.thermalLatch temps).MemOk :=
  .faultEnds (.logEvt (.setF (.upd (.foldl h fun _ _ ht => .latchOne ht))))

theorem MemKept.execPumpFaultLatch (h : s.MemOk) {n} : MemKept (execPumpFaultLatch n s) := .next (.ite h (.srcFaults h))

theorem State.MemOk.updGate (h : s.MemOk) {g f} : (s.updGate g f).MemOk := .upd h

theorem MemKept.execGateSense (h : s.MemOk) {g m} : MemKept (execGateSense g m s) := by
  unfold Machine.execGateSense
  dsimp only
  split
  · exact .ite (.next h) (.next (.updGate (.setF h)))
  · exact .ite (.next (.updGate h)) (.next h)

theorem MemKept.execGateVerdict (h : s.MemOk) {g} : MemKept (execGateVerdict g s) := by
  unfold Machine.execGateVerdict
  refine .ite (.next h) ?_
  extract_lets u x v u1
  have hu1 : u1.MemOk := .updGate (.timerStart h)
  exact .ite (.next (.srcFault (.setB hu1))) (.next hu1)

theorem State.MemOk.unlatch (h : s.MemOk) {c} : (s.unlatch c).MemOk :=
  .ite (.clrF (.setF (.setF (.upd h)))) (.clrF (.setF (.setF (.updGate (.upd h)))))

theorem MemKept.execSrcClear (h : s.MemOk) {a} : MemKept (execSrcClear a s) := by
  unfold Machine.execSrcClear
  split
  · exact .next h
  · exact .next (.ite (.complete h) (.complete (.setB (.foldl h fun _ _ ht => .unlatch ht))))

theorem State.MemOk.updSum (h : s.MemOk) {f} : (s.updSum f).MemOk := .upd h

theorem State.MemOk.mramPut (h : s.MemOk) {o bs} : (s.mramPut o bs).MemOk := .ite h (.store (.putMram (.of h) (Memory.writeN_wf _ _)))

theorem State.MemOk.logFlush (h : s.MemOk) : s.logFlush.MemOk := .ite h (.upd (.foldl h fun _ _ ht => .mramPut ht))

theorem MemKept.execLogFlush (h : s.MemOk) : MemKept (execLogFlush s) := .next (.ite (.logFlush h) h)

theorem State.MemOk.logScan (h : s.MemOk) : s.logScan.MemOk := by
  unfold State.logScan
  dsimp only
  split
  · exact .upd h
  · exact .setF (.setF (.upd h))

theorem MemKept.execLogRead (h : s.MemOk) {a d} : MemKept (execLogRead a d s) := by
  unfold Machine.execLogRead
  split
  · exact .next h
  · refine .next (.ite (.complete h) ?_)
    split
    rename_i u eu
    have hu : u.MemOk := .snd eu (.buffer h)
    exact .ite (.complete hu) (.giveTo hu)

theorem MemKept.execLogMark (h : s.MemOk) {a} : MemKept (execLogMark a s) := by
  unfold Machine.execLogMark
  split
  · exact .next h
  · exact .next (.complete (.logPut (.logPut h)))

theorem MemKept.execSensorRead (h : s.MemOk) {a d} : MemKept (execSensorRead a d s) := by
  unfold Machine.execSensorRead
  split
  · exact .next h
  · exact .next (.giveData h)

theorem State.MemOk.setLimits (h : s.MemOk) {bs} : (s.setLimits bs).MemOk := .updSum h

theorem MemKept.execSensorLimits (h : s.MemOk) {a d} : MemKept (execSensorLimits a d s) := by
  unfold Machine.execSensorLimits
  split
  · exact .next h
  · refine .next (.withRecord h ?_)
    intro u bs hu1
    split
    · exact .complete hu1
    · exact .complete (.setLimits hu1)

theorem State.MemOk.limitCheck (h : s.MemOk) {i v} : (s.limitCheck i v).MemOk := by
  unfold State.limitCheck
  split
  · exact .clrF h
  · exact .ite (.ite h (.signal (.logEvt (.orF h)))) (.ite (.clrF h) h)

theorem State.MemOk.thermalCheck (h : s.MemOk) : s.thermalCheck.MemOk := by
  unfold State.thermalCheck
  extract_lets t hot u src
  have hu : u.MemOk := .updSum h
  exact .ite (.ite (.clrF (.upd hu)) hu) (.ite (.thermalLatch (.orF hu)) hu)

theorem MemKept.execSensorSample (h : s.MemOk) {temps supplies} : MemKept (execSensorSample temps supplies s) :=
  .ite (.next h) (.next (.thermalCheck (.updSum (.foldl (.foldl (.timerStart h) fun _ _ ht => .limitCheck (.setS ht))
    fun _ _ ht => .limitCheck (.setF ht)))))

theorem MemKept.execSumWdogKick (h : s.MemOk) {v} : MemKept (execSumWdogKick v s) := .next (.ite (.timerStart h) h)

theorem State.MemOk.genShow (h : s.MemOk) : s.genShow.MemOk := .setF (.setF h)

theorem State.MemOk.genPut (h : s.MemOk) {gen boots conf} : (s.genPut gen boots conf).MemOk := .genShow (.mramPut h)

theorem State.MemOk.jrnPut (h : s.MemOk) {j} : (s.jrnPut j).MemOk := .setF (.mramPut h)

theorem State.MemOk.jrnEnter (h : s.MemOk) {j state src} : (s.jrnEnter j state src).MemOk := .logEvt (.jrnPut h)

theorem State.MemOk.updateFail (h : s.MemOk) {reason gen part src} : (s.updateFail reason gen part src).MemOk := .logEvt h

theorem State.MemOk.flashPut (h : s.MemOk) {o bs} : (s.flashPut o bs).MemOk := .ite h (.store (.putFlash (.of h) (Memory.writeN_wf _ _)))

theorem State.MemOk.flashErase (h : s.MemOk) {keep} : (s.flashErase keep).MemOk := .ite h (.store (.putFlash (.of h) (Memory.filter_wf _)))

theorem MemKept.execFwBegin (h : s.MemOk) {a} : MemKept (execFwBegin a s) := by
  unfold Machine.execFwBegin
  split
  · exact .next h
  · refine .next ?_
    split
    · exact .complete h
    · exact .ite (.complete h) (.ite (.complete h) (.complete (.jrnEnter (.updSum h))))

theorem MemKept.execFwBlock (h : s.MemOk) {a d} : MemKept (execFwBlock a d s) := by
  unfold Machine.execFwBlock
  split
  · exact .next h
  · refine .next ?_
    split
    · exact .complete h
    · split
      · exact .complete h
      · refine .ite (.complete h) (.withRecord h ?_)
        intro u bs hu1
        refine .ite h ?_
        extract_lets u2 u3 u4
        have hu3 : u3.MemOk := .updSum (.extPut hu1)
        exact .complete (.ite (.jrnEnter hu3) hu3)

theorem MemKept.execFwVerify (h : s.MemOk) {a} : MemKept (execFwVerify a s) := by
  unfold Machine.execFwVerify
  split
  · exact .next h
  · refine .next ?_
    split
    · exact .complete h
    · split
      · exact .complete h
      · refine .ite h ?_
        extract_lets u m n u1
        have hu : u.MemOk := .ite h (.linesRead h)
        split
        · exact .complete (.setF (.setF hu))
        · exact .complete (.jrnEnter (.setF (.setF hu)))

theorem MemKept.execFwStatus (h : s.MemOk) {a} : MemKept (execFwStatus a s) := by
  unfold Machine.execFwStatus
  split
  · exact .next h
  · exact .next (.complete h)

theorem State.MemOk.actBegin (h : s.MemOk) {a} : (s.actBegin a).MemOk := by
  unfold State.actBegin
  exact .updSum (.jrnEnter h)

theorem MemKept.execFwActivate (h : s.MemOk) {a} : MemKept (execFwActivate a s) := by
  unfold Machine.execFwActivate
  split
  · exact .next h
  · refine .next ?_
    split
    · exact .complete h
    · exact .ite (.complete h) (.actBegin (.updSum (.takeUp h)))

theorem State.MemOk.actFail (h : s.MemOk) {a part st det} : (s.actFail a part st det).MemOk := by
  unfold State.actFail
  extract_lets j u u1
  have hu1 : u1.MemOk := .updSum (.updateFail (.jrnEnter h))
  split
  · exact .complete hu1
  · exact hu1

theorem MemKept.execFwConfirm (h : s.MemOk) {a} : MemKept (execFwConfirm a s) := by
  unfold Machine.execFwConfirm
  split
  · exact .next h
  · refine .next ?_
    split
    · exact .complete h
    · exact .ite (.complete h) (.complete (.ite h (.jrnEnter (.setF (.setF (.updSum (.genPut h)))))))

end Sys2Proof.Machine
end

section
/-! SUPPORT. The canonical form of the memories is kept (O60): the resets, the boot, the power states and the ends of commands. -/

namespace Sys2Proof.Machine

variable {s t : State}

theorem State.MemOk.updPw (h : s.MemOk) {f} : (s.updPw f).MemOk := .upd h

theorem State.MemOk.dropAcq (h : s.MemOk) : s.dropAcq.MemOk := .upd (.ite (.acqEnd h) h)

theorem State.MemOk.dropField (h : s.MemOk) : s.dropField.MemOk := .upd (.dtsEnd h)

theorem State.MemOk.dropServo (h : s.MemOk) : s.dropServo.MemOk := .upd h

theorem State.MemOk.dropSystem (h : s.MemOk) : s.dropSystem.MemOk := .upd h

theorem State.MemOk.ringsAbort (h : s.MemOk) : s.ringsAbort.MemOk := .foldl h fun _ _ ht => .returnCur ht

theorem State.MemOk.hostIsland (h : s.MemOk) : s.hostIsland.MemOk :=
  .resetFields (.dropSystem (.dropServo (.dropField (.dropAcq (.foldl (.upd (.ringsAbort h)) fun _ _ ht => .jobStop ht)))))

theorem MemKept.execHostReset (h : s.MemOk) : MemKept (execHostReset s) := by
  unfold Machine.execHostReset
  refine .next (.ite h ?_)
  extract_lets u
  have hu : u.MemOk := .updPw (.ringsAbort h)
  exact .ite hu (.ite (.updPw hu) (.hostIsland hu))

theorem MemKept.execFunctionLevelReset (h : s.MemOk) : MemKept (execFunctionLevelReset s) := .next (.ite h (.hostIsland (.updPw h)))

theorem MemKept.execPerstLRelease (h : s.MemOk) : MemKept (execPerstLRelease s) := .next (.updPw h)

/-- A reset leaves no byte in the summit SRAM and the firn memory; the memories that keep their bytes keep their form. -/
theorem Memories.Ok.afterReset {m : Memories} (h : m.Ok) : Memories.Ok ⟨[], [], m.ext, m.mram, m.flash⟩ :=
  .putFirn (.putSram h fun _ => rfl) fun _ => rfl

theorem State.MemOk.coldReset (h : s.MemOk) : s.coldReset.MemOk := by
  unfold State.coldReset
  extract_lets u
  have hu : u.MemOk := .memCold (.logFlush h)
  clear_value u
  exact .store (.putExt (.afterReset (.of hu)) fun _ => rfl)

theorem State.MemOk.setCause (h : s.MemOk) {F} : (s.setCause F).MemOk := .setF (.resetFields h)

theorem State.MemOk.warmReset (h : s.MemOk) {F} : (s.warmReset F).MemOk := by
  unfold State.warmReset
  extract_lets u
  have hu : u.MemOk := .memWarm (.hostIsland (.logFlush (.memDrain h)))
  clear_value u
  exact .setCause (.setF (.setF (.setF (.store (.afterReset (.of hu))))))

theorem MemKept.execPorLAssert (h : s.MemOk) {long} : MemKept (execPorLAssert long s) := .next (.ite (.coldReset (.updPw h)) h)

theorem MemKept.execSysRstLAssert (h : s.MemOk) {long} : MemKept (execSysRstLAssert long s) := .next (.ite (.warmReset h) h)

theorem State.MemOk.warmRst (h : s.MemOk) {v} : (s.warmRst v).MemOk := .ite (.warmReset h) h

theorem MemKept.execBrownoutCrossing (h : s.MemOk) {below} : MemKept (execBrownoutCrossing below s) := .next (.ite h (.updPw h))

theorem MemKept.execBrownoutReset (h : s.MemOk) : MemKept (execBrownoutReset s) := .next (.ite h (.setCause (.coldReset (.updPw h))))

theorem MemKept.execVbatReset (h : s.MemOk) : MemKept (execVbatReset s) := .next (.updPw (.upd h))

theorem MemKept.execVbatLow (h : s.MemOk) {low} : MemKept (execVbatLow low s) := .next (.updPw h)

theorem State.MemOk.sumReset (h : s.MemOk) : s.sumReset.MemOk := by
  unfold State.sumReset
  exact .updPw (.store (.putSram (.of (.setF (.setF (.setF (.resetFields (.logFlush h)))))) (fun _ => rfl)))

theorem MemKept.execSummitWatchdog (h : s.MemOk) {pc} : MemKept (execSummitWatchdog pc s) :=
  .ite (.next h) (.next (.sumReset (.updSum (.incF h))))

theorem State.MemOk.dataReset (h : s.MemOk) : s.dataReset.MemOk := by
  unfold State.dataReset
  extract_lets u u1 u2 u3 u4 u5 src src1 src2
  have hu : u.MemOk := .dtsEnd (.acqEnd (.unqueueStart h))
  have hu1 : u1.MemOk := by
    unfold u1
    split
    · exact .acqOver hu
    · exact hu
  exact .resetFields (.upd (.foldl (.foldl (.foldl (.calEnd (.disarm hu1)) fun _ _ ht => .ite ht (.complete ht))
    fun _ _ ht => .complete (.readGone ht)) fun _ _ ht => .offDone (.endPumpSet ht)))

theorem State.MemOk.panelReset (h : s.MemOk) : s.panelReset.MemOk := .resetFields (.upd (.foldl h fun _ _ ht => .complete ht))

theorem State.MemOk.slowReset (h : s.MemOk) : s.slowReset.MemOk := .resetFields (.upd (.foldl h fun _ _ ht => .complete ht))

theorem State.MemOk.cairnReset (h : s.MemOk) : s.cairnReset.MemOk := .setF (.resetFields (.resetFields (.upd h)))

theorem State.MemOk.islandReset (h : s.MemOk) {n} : (s.islandReset n).MemOk :=
  .ite (.dataReset h) (.ite (.resetFields (.upd h)) (.ite (.updPw (.hostIsland h)) (.ite (.sumReset h) (.ite (.resetFields
    (.foldl h fun _ _ ht => .jobStop ht)) (.ite (.panelReset h) (.ite (.slowReset h) (.ite (.cairnReset h) (.ite (.rReset h) h))))))))

theorem State.MemOk.islRst (h : s.MemOk) {v} : (s.islRst v).MemOk :=
  .foldl (.ite (.updPw (.setF h)) (.setF h)) fun _ _ ht => .islandReset ht

theorem State.MemOk.updSadCh (h : s.MemOk) {n f} : (s.updSadCh n f).MemOk := .upd h

theorem State.MemOk.sadFrom (h : s.MemOk) {n} : (s.sadFrom n).MemOk := .updSadCh h

theorem State.MemOk.sadRestart (h : s.MemOk) {n} : (s.sadRestart n).MemOk := by
  unfold State.sadRestart
  extract_lets u st
  have hu : u.MemOk := .sadFrom h
  exact .ite (.setF hu) (.ite (.setF hu) (.setF hu))

theorem State.MemOk.sadStore (h : s.MemOk) {n bs} : (s.sadStore n bs).MemOk := by
  unfold State.sadStore
  extract_lets mode u u1 u2 u3 u4 src u5
  have hu2 : u2.MemOk := .setF (.setF (.setF (.setF (.setF (.setF (.setF (.setB (.setB (.setB (.setB h))))))))))
  have hu4 : u4.MemOk := .updSadCh (.ite (.setF (.setF hu2)) hu2)
  exact .clrF (.ite (.upd hu4) hu4)

theorem State.MemOk.sadApply (h : s.MemOk) {n bs} : (s.sadApply n bs).MemOk := by
  unfold State.sadApply
  extract_lets running moved u u1 u2
  have hu : u.MemOk := .sadStore h
  have hu1 : u1.MemOk := .ite (.updSadCh (.setF hu)) hu
  have hu2 : u2.MemOk := .sadRestart hu1
  split
  · exact hu1
  · exact .ite hu2 (.ite (.orF hu2) (.clrF hu2))

theorem MemKept.execSadConfig (h : s.MemOk) {a d} : MemKept (execSadConfig a d s) := by
  unfold Machine.execSadConfig
  split
  · exact .next h
  · refine .next (.ite (.complete h) (.withRecord h ?_))
    intro u bs hu1
    split
    · exact .complete hu1
    · exact .ite (.upd (.takeUp hu1)) (.complete (.sadApply hu1))

theorem State.MemOk.fbDone (h : s.MemOk) {c} : (s.fbDone c).MemOk := by
  unfold State.fbDone
  split
  · refine .ite ?_ h
    extract_lets src u
    have hu : u.MemOk := .setF (.upd h)
    split
    · exact .complete hu
    · exact hu
  · exact h

theorem State.MemOk.sadPublish (h : s.MemOk) {n c first v ovr pos} : (s.sadPublish n c first v ovr pos).MemOk := by
  unfold State.sadPublish
  extract_lets raw code clamp k run opened bl blanked stuck val flags u u1 u2 u3 u4 u5 src
  have hu3 : u3.MemOk := .setB (.set64 (.incF (.setF (.setF (.setS (.setS (.updSadCh h)))))))
  have hu4 : u4.MemOk := .ite (.setF hu3) hu3
  have hu5 : u5.MemOk := .ite (.setF hu4) hu4
  exact .ite (.upd hu5) hu5

theorem MemKept.execSadResult (h : s.MemOk) {c first v ovr pos} : MemKept (execSadResult c first v ovr pos s) := by
  unfold Machine.execSadResult
  split
  · exact .next h
  · exact .ite (.next h) (.next (.fbDone (.setF (.sadPublish h))))

theorem MemKept.execSadRead (h : s.MemOk) {a d} : MemKept (execSadRead a d s) := by
  unfold Machine.execSadRead
  split
  · exact .next h
  · exact .next (.ite (.complete h) (.giveData h))

theorem State.MemOk.sadStart (h : s.MemOk) {n} : (s.sadStart n).MemOk := .ite h (.ite (.setF (.sadFrom h)) (.incF h))

theorem MemKept.execSadStart (h : s.MemOk) {n} : MemKept (execSadStart n s) := .next (.sadStart h)

theorem MemKept.execSaBlankChange (h : s.MemOk) {level} : MemKept (execSaBlankChange level s) :=
  .ite (.next h) (.next (.ite (.incF (.upd (.setB h))) (.upd (.setB h))))

theorem MemKept.execBlankMaxExpiry (h : s.MemOk) : MemKept (execBlankMaxExpiry s) := .ite (.next (.logEvt (.setF (.upd h)))) (.next h)

theorem State.MemOk.fbBreak (h : s.MemOk) : s.fbBreak.MemOk := .setF (.timerStart h)

theorem State.MemOk.sxRelease (h : s.MemOk) {a n} : (s.sxRelease a n).MemOk := by
  unfold State.sxRelease
  extract_lets mon u u1 src
  have hu : u.MemOk := .clrF (.setF h)
  exact .ite (.complete (.setF (.setF hu))) (.sadRestart (.fbBreak (.upd (.setF (.takeUp hu)))))

theorem State.MemOk.sxJoin (h : s.MemOk) {a n} : (s.sxJoin a n).MemOk := by
  unfold State.sxJoin
  extract_lets u src u1
  have hu1 : u1.MemOk := .fbBreak (.upd (.setF (.setF (.takeUp h))))
  exact .ite (.sadRestart (.setF (.clrF hu1))) (.sadRestart hu1)

theorem MemKept.execSadFallback (h : s.MemOk) {a} : MemKept (execSadFallback a s) := by
  unfold Machine.execSadFallback
  split
  · exact .next h
  · refine .next (.ite (.complete h) (.ite (.complete h) (.ite (.complete h) ?_)))
    split
    · exact .ite (.complete h) (.sxJoin h)
    · exact .ite (.sxRelease h) (.ite (.complete h) (.ite (.complete h) (.ite (.sxJoin h) (.sadRestart (.sadRestart (.upd
        (.fbBreak (.setF (.setF (.takeUp h))))))))))

theorem State.MemOk.sadTick (h : s.MemOk) : s.sadTick.MemOk := .ite (.setF h) h

theorem MemKept.execFbDischargeEnd (h : s.MemOk) : MemKept (execFbDischargeEnd s) := by
  unfold Machine.execFbDischargeEnd
  split
  · refine .ite ?_ (.next h)
    extract_lets u
    have hu : u.MemOk := .orF (.setF h)
    refine .next ?_
    split
    · exact .sadFrom hu
    · exact hu
  · exact .next h

theorem State.MemOk.slotBegin (h : s.MemOk) {c} : (s.slotBegin c).MemOk := by
  unfold State.slotBegin
  extract_lets u
  have hu : u.MemOk := .clrF (.timerStart h)
  split
  · exact .sadRestart hu
  · exact hu

theorem MemKept.execSadSelfcal (h : s.MemOk) {a} : MemKept (execSadSelfcal a s) := by
  unfold Machine.execSadSelfcal
  split
  · exact .next h
  · exact .next (.ite (.complete h) (.ite (.complete h) (.slotBegin (.upd (.setF (.takeUp h))))))

theorem State.MemOk.waitsApply (h : s.MemOk) {c} : (s.waitsApply c).MemOk := .foldl (.upd h) fun _ _ ht => .complete (.sadApply ht)

theorem MemKept.execSelfcalSlotEnd (h : s.MemOk) {ofs gain} : MemKept (execSelfcalSlotEnd ofs gain s) := by
  unfold Machine.execSelfcalSlotEnd
  split
  · exact .next h
  · extract_lets u o ok u1 src u2 m last src1 u3 live u4 u5 u6
    have hu : u.MemOk := .timersStart h
    have hu3 : u3.MemOk := .upd (.ite (.upd (.setF (.setS hu))) hu)
    have hu4 : u4.MemOk := by
      unfold u4
      split
      · exact .sadFrom hu3
      · exact hu3
    have hu5 : u5.MemOk := .waitsApply (.ite (.orF hu4) hu4)
    have hu6 : u6.MemOk := .setF hu5
    refine .ite (.next ?_) (.next (.slotBegin hu5))
    split
    · exact .complete hu6
    · exact hu6

theorem MemKept.execColdBoot (h : s.MemOk) {standalone testMode} : MemKept (execColdBoot standalone testMode s) := by
  unfold Machine.execColdBoot
  refine .ite (.next h) (.ite (.next (.updPw h)) ?_)
  extract_lets out held por u u1 u2 u3
  have hu : u.MemOk := .updPw h
  have hu1 : u1.MemOk := .ite (.setCause hu) (.ite (.setCause hu) hu)
  exact .next (.mirrorCopy (.setF (.setB (.ite (.setF hu1) hu1))))

theorem MemKept.execWarmBoot (h : s.MemOk) : MemKept (execWarmBoot s) := .ite (.next h) (.next (.mirrorCopy (.setF (.updPw h))))

theorem MemKept.execSystemPllLock (h : s.MemOk) : MemKept (execSystemPllLock s) := .next (.ite h (.setB (.updPw h)))

theorem MemKept.execConvPllLock (h : s.MemOk) : MemKept (execConvPllLock s) := .next (.ite h (.ite (.setF h) (.calLoad (.setF h))))

theorem State.MemOk.putWord (h : s.MemOk) {off v} : (s.putWord off v).MemOk := .foldl h fun _ _ ht => .setF ht

theorem State.MemOk.freeField (h : s.MemOk) {F i} : (s.freeField F i).MemOk := by
  unfold State.freeField
  split
  rename_i u eu
  have hu : u.MemOk := .snd eu (.freeVal h)
  exact .setF hu

theorem State.MemOk.freeSpeed (h : s.MemOk) : s.freeSpeed.MemOk := by
  unfold State.freeSpeed
  split
  rename_i u eu
  have hu : u.MemOk := .snd eu (.freeVal h)
  exact .setF hu

theorem State.MemOk.tabApply (h : s.MemOk) {all r} : (s.tabApply all r).MemOk := by
  unfold State.tabApply
  split
  · exact .updSum h
  · exact h
  · exact h
  · exact h
  · exact .ite (.updPat (.putWord (.putWord h))) h
  · exact h
  · exact .ite (.setLimits h) h
  · exact .ite (.foldl (.freeSpeed h) fun _ _ ht => .freeField (.freeField ht)) h
  · exact h
  · split
    rename_i u eu
    have hu : u.MemOk := .snd eu (.freeVal h)
    split
    rename_i u1 eu1
    have hu1 : u1.MemOk := .snd eu1 (.freeVal hu)
    exact .logEvt hu1

theorem State.MemOk.firmwareStart (h : s.MemOk) {all} : (s.firmwareStart all).MemOk := by
  unfold State.firmwareStart
  extract_lets ver tabs u u1 u2
  have hu1 : u1.MemOk := .timerStart (.updPw (.setF (.updSum h)))
  exact .foldl (.ite hu1 (.setF (.setF (.updSum hu1)))) fun _ _ ht => .tabApply ht

theorem State.MemOk.bootLog (h : s.MemOk) {src} : (s.bootLog src).MemOk := .logEvt h

theorem State.MemOk.enterLoader (h : s.MemOk) {reason} : (s.enterLoader reason).MemOk := by
  unfold State.enterLoader
  extract_lets u j u1 u2 u3
  have hu2 : u2.MemOk := .updPw (.setMode (.setF (.setF (.setF (.ite (.dataReset h) h)))))
  exact .updateFail (.bootLog (.ite (.jrnEnter hu2) hu2))

theorem State.MemOk.wdogReport (h : s.MemOk) : s.wdogReport.MemOk :=
  .ite h (.foldl (.updSum (.logEvt h)) fun _ _ ht => .ite (.complete ht) ht)

theorem State.MemOk.bootSelfcal (h : s.MemOk) : s.bootSelfcal.MemOk := .slotBegin (.setF (.upd h))

theorem MemKept.execLoaderStart (h : s.MemOk) : MemKept (execLoaderStart s) := by
  unfold Machine.execLoaderStart
  refine .ite (.next h) ?_
  extract_lets again u u1 u2 u3 counts n u4 warm u5
  have hu : u.MemOk := .setF (.genShow (.logScan (.timerStart h)))
  have hu1 : u1.MemOk := .ite hu (.setF hu)
  have hu2 : u2.MemOk := .ite hu1 (.updPw hu1)
  have hu3 : u3.MemOk := .ite (.updPw (.logEvt hu2)) hu2
  have hu4 : u4.MemOk := .ite (.genPut hu3) hu3
  have hu5 : u5.MemOk := by
    unfold u5
    split
    · exact .firmwareStart hu4
    · exact .updPw (.actBegin hu4)
    · exact .enterLoader hu4
  exact .ite (.next (.updPw (.setF hu))) (.next (.ite (.wdogReport hu5) (.bootSelfcal (.wdogReport hu5))))

theorem State.MemOk.layoutLoad (h : s.MemOk) {degraded} : (s.layoutLoad degraded).MemOk := by
  unfold State.layoutLoad
  split
  · exact .rgnLoad h
  · refine .ite ?_ h
    split
    rename_i u eu
    have hu : u.MemOk := .snd eu (.freeVal h)
    exact .rgnPut hu

theorem MemKept.execMemoryTrainingDone (h : s.MemOk) {t0 t1} : MemKept (execMemoryTrainingDone t0 t1 s) := by
  unfold Machine.execMemoryTrainingDone
  refine .ite (.next h) (.ite (.next (.memWake h)) ?_)
  extract_lets src src1 u u1 bad u2 u3
  have hu : u.MemOk := .ite (.store (.putExt (.of h) fun _ => rfl)) h
  have hu3 : u3.MemOk := .ite (.logEvt (.setB (.memTrain hu))) (.setB (.memTrain hu))
  exact .next (.ite hu3 (.layoutLoad hu3))

theorem State.MemOk.bootRidge (h : s.MemOk) : s.bootRidge.MemOk := by
  unfold State.bootRidge
  refine .store (.putFirn (.of (.foldl h ?_)) (fun _ => rfl))
  intro u a hu1
  split
  · exact .foldl hu1 fun _ _ ht => .updRc ht
  · exact hu1

theorem State.MemOk.bootCairn (h : s.MemOk) : s.bootCairn.MemOk := by
  unfold State.bootCairn
  split
  · exact .crnLoad h
  · exact h

theorem State.MemOk.bootSad (h : s.MemOk) : s.bootSad.MemOk := .foldl h fun _ _ ht => .ite ht (.sadApply ht)

theorem MemKept.execBootComplete (h : s.MemOk) {ms} : MemKept (execBootComplete ms s) := by
  unfold Machine.execBootComplete
  refine .ite (.next h) ?_
  extract_lets cold u u1 u2
  have hu : u.MemOk := .calCheck (.bootCairn (.bootRidge h))
  exact .next (.bootLog (.setMode (.updPw (.ite (.bootSad hu) hu))))

theorem State.MemOk.actDone (h : s.MemOk) {a m} : (s.actDone a m).MemOk := by
  unfold State.actDone
  extract_lets ps u u1 u2 u3 u4
  have hu3 : u3.MemOk := .updSum (.jrnEnter (.genPut (.flashPut (.flashErase h))))
  have hu4 : u4.MemOk := by
    unfold u4
    split
    · exact .complete hu3
    · exact hu3
  exact .warmReset hu4

theorem MemKept.execActivationProgress (h : s.MemOk) {r} : MemKept (execActivationProgress r s) := by
  unfold Machine.execActivationProgress
  split
  · exact .next h
  · split
    · exact .next h
    · refine .ite (.next h) ?_
      extract_lets u m p bs u1 u2 u3 u4
      have hu1 : u1.MemOk := .linesRead (.setF (.timersStart h))
      have hu3 : u3.MemOk := .updSum (.ite (.updSum hu1) (.flashPut hu1))
      have hu4 : u4.MemOk := by
        unfold u4
        split
        · exact .progress hu3
        · exact hu3
      exact .next (.ite (.actFail hu1) (.ite (.actFail hu1) (.ite (.actFail hu1) (.ite (.actFail hu1) (.ite (.actDone hu4) hu4)))))

theorem MemKept.execConfirmTimeout (h : s.MemOk) : MemKept (execConfirmTimeout s) := .next (.ite (.warmReset (.updateFail h)) h)

theorem State.MemOk.stateLog (h : s.MemOk) {old new} : (s.stateLog old new).MemOk := .logEvt h

theorem State.MemOk.leaveRun (h : s.MemOk) {dst} : (s.leaveRun dst).MemOk := by
  unfold State.leaveRun
  extract_lets u u1 u2 keep
  have hu : u.MemOk := .dtsEnd (.acqEnd (.unqueueStart h))
  exact .foldl (.pnlStop (.spFree (.calEnd (.ite (.disarm hu) hu)))) fun _ _ ht => .ite ht (.rampOff ht)

theorem State.MemOk.transBegin (h : s.MemOk) {src dst a} : (s.transBegin src dst a).MemOk := by
  unfold State.transBegin
  extract_lets u u1
  have hu : u.MemOk := .setF (.takeUp h)
  exact .ite (.toRunBegin hu) (.updPw (.ite (.leaveRun hu) hu))

theorem State.MemOk.unqueueRun (h : s.MemOk) : s.unqueueRun.MemOk := by
  unfold State.unqueueRun
  split
  · exact h
  · exact .foldl (.showState (.updPw h)) fun _ _ ht => .complete ht

theorem State.MemOk.powerMeets (h : s.MemOk) {a b d} : (s.powerMeets a b d).MemOk := by
  unfold State.powerMeets
  refine .ite ?_ ?_
  · split
    · exact .complete h
    · exact .showState (.updPw (.takeUp h))
  · extract_lets u
    have hu : u.MemOk := .ite h (.unqueueRun h)
    exact .ite (.updPw (.takeUp hu)) (.complete hu)

theorem MemKept.execPowerState (h : s.MemOk) {a} : MemKept (execPowerState a s) := by
  unfold Machine.execPowerState
  split
  · exact .next h
  · refine .next (.ite (.complete h) (.ite (.ite (.complete h) (.complete h)) (.ite (.complete h) (.ite (.complete h) (.ite
      (.complete h) (.ite (.complete h) ?_))))))
    split
    · exact .powerMeets h
    · refine .ite (.complete h) (.ite ?_ (.transBegin h))
      split
      · exact .complete h
      · exact .transBegin h

theorem State.MemOk.transComplete (h : s.MemOk) {a r} : (s.transComplete a r).MemOk := .foldl h fun _ _ ht => .complete ht

theorem State.MemOk.watchFromRun (h : s.MemOk) {a} : (s.watchFromRun a).MemOk := by
  unfold State.watchFromRun
  extract_lets u u1 u2 src u3
  have hu3 : u3.MemOk := .crnStart (.upd (.updPw (.transComplete (.stateLog (.setMode (.tgEnterWatch (.memSleep (.ite (.pnlOver h) h))))))))
  exact .ite (.showState hu3) hu3

theorem State.MemOk.watchFromStandby (h : s.MemOk) : s.watchFromStandby.MemOk := by
  unfold State.watchFromStandby
  extract_lets u u1 u2 u3 src
  have hu : u.MemOk := by
    unfold u
    split
    · exact .crnLoad h
    · exact .updCrn h
  have hu3 : u3.MemOk := .setMode (.tgEnterWatch (.updPw (.mirrorCopy (.showWake (.keepSource hu)))))
  exact .ite (.crnStart (.upd hu3)) hu3

theorem State.MemOk.freshRun (h : s.MemOk) : s.freshRun.MemOk := by
  unfold State.freshRun
  extract_lets u u1
  have hu1 : u1.MemOk := .updPw (.setF (.genShow (.logScan h)))
  exact .ite (.enterLoader hu1) (.setMode (.bootSad (.bootRidge (.calLoad (.firmwareStart hu1)))))

theorem State.MemOk.runFromWatch (h : s.MemOk) {a} : (s.runFromWatch a).MemOk := by
  unfold State.runFromWatch
  extract_lets owed u src u1 u2 u3 u4
  have hu1 : u1.MemOk := .updPw (.upd (.tgEnterRun (.crnStop h)))
  have hu2 : u2.MemOk := .ite (.hostIsland hu1) hu1
  have hu4 : u4.MemOk := .stateLog (.timerStart (.ite (.freshRun hu2) (.setMode (.memWake hu2))))
  exact .ite hu4 (.transComplete hu4)

theorem State.MemOk.standbyReached (h : s.MemOk) {a} : (s.standbyReached a).MemOk := by
  unfold State.standbyReached
  split
  rename_i u eu
  have hu : u.MemOk := .snd eu (.freeVal h)
  extract_lets u1
  have hu1 : u1.MemOk := .updPw (.coldReset (.transComplete hu))
  exact .ite (.updPw (.timerStart hu1)) hu1

theorem MemKept.execTransitionDone (h : s.MemOk) : MemKept (execTransitionDone s) := by
  unfold Machine.execTransitionDone
  split
  · exact .next h
  · exact .next (.ite h (.ite (.runFromWatch h) (.ite (.standbyReached h) (.ite (.watchFromStandby h) (.watchFromRun h)))))

theorem MemKept.execQueuedTransitionStart (h : s.MemOk) : MemKept (execQueuedTransitionStart s) := by
  unfold Machine.execQueuedTransitionStart
  split
  · exact .next (.ite (.showState (.setF (.toRunBegin (.updPw h)))) h)
  · exact .next h

theorem MemKept.execStandbyWake (h : s.MemOk) : MemKept (execStandbyWake s) := .next (.ite (.updPw (.timerStart h)) h)

theorem MemKept.execWakeRetryTimer (h : s.MemOk) : MemKept (execWakeRetryTimer s) :=
  .next (.ite h (.ite (.updPw (.timerStart h)) (.ite (.updPw (.timerStart h)) (.ite (.updPw (.updVb h)) h))))

theorem State.MemOk.setRef (h : s.MemOk) {lift here} : (s.setRef lift here).MemOk := .updPw h

theorem MemKept.execRefLost (h : s.MemOk) {lift} : MemKept (execRefLost lift s) := by
  unfold Machine.execRefLost
  extract_lets u src u1 u2
  have hu : u.MemOk := .setRef h
  have hu1 : u1.MemOk := .updPw (.setF (.setF (.setF hu)))
  exact .ite (.next hu) (.next (.wakeRun (.faultEnds (.logEvt (.ite (.signal hu1) hu1)))))

theorem MemKept.execRefReturn (h : s.MemOk) {lift} : MemKept (execRefReturn lift s) := by
  unfold Machine.execRefReturn
  extract_lets u
  have hu : u.MemOk := .setRef h
  exact .next (.ite hu (.setB (.setF (.updPw hu))))

theorem MemKept.execJtagInstruction (h : s.MemOk) {i gateD gateT pumps} : MemKept (execJtagInstruction i gateD gateT pumps s) :=
  .next (.upd h)

theorem State.MemOk.powerDrop (h : s.MemOk) {i} : (s.powerDrop i).MemOk := .ite (.showState (.updPw h)) (.updPw h)

theorem State.MemOk.startDrop (h : s.MemOk) {i} : (s.startDrop i).MemOk := .ite (.showState (.upd h)) h

theorem State.MemOk.switchDrop (h : s.MemOk) {i} : (s.switchDrop i).MemOk := by
  unfold State.switchDrop
  refine .ite ?_ h
  extract_lets src u
  have hu : u.MemOk := .setF (.upd h)
  exact .ite hu (.setF hu)

theorem State.MemOk.waitDrop (h : s.MemOk) {i} : (s.waitDrop i).MemOk := .upd h

theorem State.MemOk.readsDrop (h : s.MemOk) {i} : (s.readsDrop i).MemOk := .upd h

theorem State.MemOk.capDropOne (h : s.MemOk) {i} : (s.capDropOne i).MemOk := .glRefresh (.upd h)

theorem State.MemOk.selfcalDrop (h : s.MemOk) {i} : (s.selfcalDrop i).MemOk := by
  unfold State.selfcalDrop
  split
  · refine .ite h ?_
    extract_lets src u live
    have hu : u.MemOk := .setF (.upd h)
    exact .waitsApply (.ite (.orF hu) hu)
  · exact h

theorem State.MemOk.tiuCalDrop (h : s.MemOk) {i} : (s.tiuCalDrop i).MemOk := .ite (.setF (.upd h)) h

theorem State.MemOk.rampStay (h : s.MemOk) {n} : (s.rampStay n).MemOk := .rampTo h

theorem State.MemOk.pumpsDrop (h : s.MemOk) {i st det} : (s.pumpsDrop i st det).MemOk :=
  .foldl (.upd (.foldl h fun _ _ ht => .ite (.rampStay (.endPumpSet ht)) ht)) fun _ _ ht => .ite (.rampStay ht) ht

theorem State.MemOk.secsDrop (h : s.MemOk) {i st det} : (s.secsDrop i st det).MemOk := by
  unfold State.secsDrop
  refine .foldl h ?_
  intro u a hu1
  extract_lets u2
  have hu2 : u2.MemOk := .ite (.setSecWait hu1) hu1
  split
  · exact .ite (.secEnd hu2) (.setSec hu2)
  · exact hu2

theorem State.MemOk.pnlDrop (h : s.MemOk) {i} : (s.pnlDrop i).MemOk := .ite (.pnlOver (.updPnl h)) h

theorem State.MemOk.unitStop (h : s.MemOk) {x st det} : (s.unitStop x st det).MemOk := by
  unfold State.unitStop
  extract_lets i u u1 u2 u3 u4 u5
  have hu : u.MemOk := .readGone (.capDropOne (.waitDrop (.switchDrop (.startDrop (.powerDrop h)))))
  have hu2 : u2.MemOk := .foldl (.ite (.disarm hu) hu) fun _ _ ht => .ite (.jobStop ht) ht
  have hu4 : u4.MemOk := .tiuCalDrop (.selfcalDrop (.ite (.dtsEnd hu2) hu2))
  exact .complete (.pnlDrop (.secsDrop (.pumpsDrop (.ite (.calEnd hu4) hu4))))

theorem State.MemOk.abortCmd (h : s.MemOk) {x st det asker} : (s.abortCmd x st det asker).MemOk := by
  unfold State.abortCmd
  extract_lets u answer held
  have hu : u.MemOk := .readsDrop h
  refine .ite (.acqEnd ?_) ?_
  · unfold held
    split
    · exact .takeUp hu
    · exact hu
  · split
    · refine .ite ?_ (.closeStream ?_)
      · unfold answer
        split
        · exact .complete (.complete hu)
        · exact .complete hu
      · unfold held
        split
        · exact .takeUp hu
        · exact hu
    · unfold answer
      split
      · exact .complete (.unitStop hu)
      · exact .unitStop hu

theorem MemKept.execAbort (h : s.MemOk) {a} : MemKept (execAbort a s) := by
  unfold Machine.execAbort
  split
  · exact .next h
  · refine .next (.ite (.complete h) ?_)
    split
    · exact .complete h
    · exact .ite (.complete h) (.ite (.complete h) (.ite (.complete h) (.abortCmd h)))

theorem State.MemOk.expire (h : s.MemOk) {x} : (s.expire x).MemOk := by
  unfold State.expire
  refine .ite (.acqEnd (.complete (.upd (.readsDrop h)))) ?_
  split
  · extract_lets u
    have hu : u.MemOk := .complete (.updStream (.readsDrop h))
    exact .ite hu (.closeStream hu)
  · exact .abortCmd h

theorem MemKept.execHandleWatchdog (h : s.MemOk) {a} : MemKept (execHandleWatchdog a s) := by
  unfold Machine.execHandleWatchdog
  split
  · exact .next h
  · exact .next (.ite (.expire (.incF h)) h)

theorem State.MemOk.engineReadLost (h : s.MemOk) {e} : (s.engineReadLost e).MemOk := by
  unfold State.engineReadLost
  split
  · exact .ite (.readFailed (.dropRead h)) h
  · exact h

theorem State.MemOk.fabricLost (h : s.MemOk) {src} : (s.fabricLost src).MemOk := by
  unfold State.fabricLost
  refine .ite ?_ (.ite ?_ (.ite (.copyLost h) (.ite ?_ (.ite (.engineReadLost h) h))))
  · split
    · exact .jobStop h
    · exact h
  · split
    · exact .dmaEnd h
    · exact h
  · split
    · exact .actFail h
    · exact h

theorem MemKept.execFabricTimeout (h : s.MemOk) {src} : MemKept (execFabricTimeout src s) := by
  unfold Machine.execFabricTimeout
  split
  · exact .next h
  · exact .ite (.next h) (.next (.memGoOn (.fabricLost (.memReply (.updMc (.timeoutEvt h))))))

end Sys2Proof.Machine
end

section
/-! SUPPORT. The canonical form of the memories is kept (O60): the register accesses. Where a branch depends on the address map or on a read of another unit, that value is generalized and the branches are a lemma of their own, so that the kernel compares them and does not evaluate it. -/

namespace Sys2Proof.Machine

variable {s t : State}

theorem State.MemOk.configWord (h : s.MemOk) {reg} : (s.configWord reg).2.MemOk := by
  unfold State.configWord
  refine .iteSnd h ?_
  split
  rename_i u eu
  exact .snd eu (.freeVal h)

theorem State.MemOk.configPut (h : s.MemOk) {reg v} : (s.configPut reg v).MemOk := by
  unfold State.configPut
  extract_lets src u src1
  have hu : u.MemOk := .ite (.upd h) h
  split
  · exact .flushPba (.upd hu)
  · exact hu

theorem MemKept.execConfigurationRequest (h : s.MemOk) {req} : MemKept (execConfigurationRequest req s) := by
  unfold Machine.execConfigurationRequest
  refine .ite (.next h) (.ite (.next (.upd h)) ?_)
  dsimp only
  split
  · exact .next (.configPut h)
  · exact .next (.upd (.configWord h))

theorem State.MemOk.updChk (h : s.MemOk) {u f} : (s.updChk u f).MemOk := .upd h

theorem State.MemOk.chkFeed (h : s.MemOk) {u bs} : (s.chkFeed u bs).MemOk := .addF (.updChk h)

theorem State.MemOk.chkSelect (h : s.MemOk) {u v} : (s.chkSelect u v).MemOk := .setF (.updChk (.setF (.setF (.setF h))))

theorem State.MemOk.chkClose (h : s.MemOk) {u} : (s.chkClose u).MemOk := by
  unfold State.chkClose
  extract_lets poly c alive r again u u1 u2 u3
  have hu : u.MemOk := .setF h
  have hu2 : u2.MemOk := .setF (.ite (.incF (.setF hu)) hu)
  exact .setF (.updChk (.ite (.incF hu2) hu2))

theorem MemKept.execChkCtl (h : s.MemOk) {u v} : MemKept (execChkCtl u v s) := .next (.ite (.chkSelect h) h)

theorem MemKept.execChkData8 (h : s.MemOk) {u v} : MemKept (execChkData8 u v s) := .next (.ite (.chkFeed h) h)

theorem MemKept.execChkData16 (h : s.MemOk) {u v} : MemKept (execChkData16 u v s) := .next (.ite (.chkFeed h) h)

theorem MemKept.execChkData32 (h : s.MemOk) {u v} : MemKept (execChkData32 u v s) := .next (.ite (.chkFeed h) h)

theorem MemKept.execChkFinal (h : s.MemOk) {u v} : MemKept (execChkFinal u v s) := .next (.ite (.chkClose h) h)

theorem State.MemOk.clearRc (h : s.MemOk) {fs} : (s.clearRc fs).MemOk := .foldl h fun _ _ ht => .ite (.setF ht) ht

theorem State.MemOk.mailRead (h : s.MemOk) {ini off o n} : (s.mailRead ini off o n).2.MemOk := by
  unfold State.mailRead
  split
  · exact .regErr h
  · exact .linesRead h

theorem State.MemOk.readWord (h : s.MemOk) {ini off} : (s.readWord ini off).2.MemOk := by
  have hm : ∀ o, (s.mailRead ini off o 4).2.MemOk := fun _ => .mailRead h
  unfold State.readWord
  generalize s.mailRead ini off = g at *
  generalize siteAt off = p
  as_aux_lemma =>
    cases p with
    | reg fs => exact .clearRc h
    | reserved => exact .regErr h
    | mailbox o => exact hm o
    | _ => exact h

theorem State.MemOk.ppsCorrect (h : s.MemOk) {e} : (s.ppsCorrect e).MemOk := .ite (.setS (.upd h)) (.setF h)

theorem MemKept.execPpsEdge (h : s.MemOk) : MemKept (execPpsEdge s) := by
  unfold Machine.execPpsEdge
  refine .ite (.next h) (.ite (.next (.incF h)) (.ite (.next (.setB (.setF (.setF (.setF (.upd h)))))) ?_))
  extract_lets e src t u
  have hu : u.MemOk := .setB (.setF (.setS (.upd h)))
  exact .next (.ite (.ppsCorrect hu) (.ite hu (.setF hu)))

theorem MemKept.execPpsLoss (h : s.MemOk) : MemKept (execPpsLoss s) := .next (.ite (.setF (.setF h)) h)

theorem State.MemOk.tbLoadLo (h : s.MemOk) {v} : (s.tbLoadLo v).MemOk := .upd (.setF h)

theorem MemKept.execTbLoadWrite (h : s.MemOk) {v} : MemKept (execTbLoadWrite v s) := .next (.ite (.tbLoadLo h) h)

theorem State.MemOk.putField {o : State} {a : State × Bool} (h : a.1.MemOk) {ini v F i} : (o.putField ini v a F i).1.MemOk := by
  obtain ⟨u, bad⟩ := a
  unfold State.putField
  dsimp only
  split
  · exact .clrF h
  · exact .orF h
  · exact .iteFst h h
  · exact h
  · exact h
  · exact h
  all_goals
    split
    · exact .ite h (.setF h)
    · exact h

theorem State.MemOk.sqEnable (h : s.MemOk) {q was now} : (s.sqEnable q was now).MemOk :=
  .ite (.foldl h fun _ _ ht => .killRead ht) (.ite (.setF h) h)

theorem State.MemOk.ringClear (h : s.MemOk) {off i} : (s.ringClear off i).MemOk :=
  .ite (.setF (.setF h)) (.ite (.setF (.setF (.setF (.setF h)))) (.updNobuf (.setF (.setF (.updSr (.foldl h fun _ _ ht => .killRead ht))))))

theorem State.MemOk.coalRestart (h : s.MemOk) {n} : (s.coalRestart n).MemOk := .upd h

theorem State.MemOk.srEnable (h : s.MemOk) {r was now} : (s.srEnable r was now).MemOk := .ite (.bufRead h) h

theorem State.MemOk.dacTest (h : s.MemOk) : s.dacTest.MemOk := .ite h (.ite (.upd h) (.upd h))

theorem State.MemOk.refPut (h : s.MemOk) {v} : (s.refPut v).MemOk := .ite h (.setF (.upd h))

theorem State.MemOk.refLenPut (h : s.MemOk) {v} : (s.refLenPut v).MemOk := .upd h

theorem State.MemOk.rgnCommitBy (h : s.MemOk) {ini off} : (s.rgnCommitBy ini off).MemOk := .ite (.regErr h) (.rgnCommit h)

theorem State.MemOk.ringCommit (h : s.MemOk) {F i} : (s.ringCommit F i).MemOk := .upd h

theorem State.MemOk.actHqe (h : s.MemOk) {o : State} {F i x} : (o.actHqe s F i x).MemOk := by
  unfold State.actHqe
  extract_lets was u
  have hu : u.MemOk := .ite (.ringCommit h) h
  exact .ite (.sqEnable h) (.ite (.ite hu (.ringClear hu)) (.ite (.coalRestart h) (.ite (.coalRestart h)
    (.ite (.srEnable h) (.ite (.bufResume (.flushWrites h)) h)))))

theorem State.MemOk.actData (h : s.MemOk) {o : State} {ini F i x v} : (o.actData s ini F i x v).MemOk := by
  unfold State.actData
  refine .ite (.dcbKChanged h) (.ite (.dcbPreset h) (.ite (.ite (.setF (.spRequest h)) h) (.ite (.ite (.setF (.spRelease h)) h)
    (.ite (.ite (.spUnpinned h) h) (.ite (.dacTest h) (.ite (.ite h (.refPut h)) (.ite (.ite h (.refLenPut h)) ?_)))))))
  exact .ite (.ptWritten h) (.ite (.zoneWritten h) h)

theorem State.MemOk.actRidge (h : s.MemOk) {o : State} {F i x} : (o.actRidge s F i x).MemOk := by
  unfold State.actRidge
  extract_lets c
  refine .ite (.ite (.tgDrop h) h) (.ite (.ite (.setF (.tgPort h)) h) (.ite (.rWake h) (.ite ?_ ?_)))
  · exact .foldl h fun _ _ ht => .ite (.pulse ht) ht
  · exact .ite (.ite (.msgAck h) h) (.ite (.updRc h) (.ite (.dmaGo h) (.ite (.ite (.setF (.dmaAbort h)) h) h)))

theorem State.MemOk.actMem (h : s.MemOk) {o : State} {ini off F i x} : (o.actMem s ini off F i x).MemOk := by
  unfold State.actMem
  exact .ite (.ite (.freqGo (.setF h)) h) (.ite (.ite (.rgnPair h) h) (.ite (.ite (.rgnCommitBy (.setF h)) h) (.ite (.retire h)
    (.ite (.ite (.recPut h) h) h))))

theorem State.MemOk.actSlow (h : s.MemOk) {o : State} {ini F i x} : (o.actSlow s ini F i x).MemOk := by
  unfold State.actSlow
  refine .ite (.tbLoadLo h) (.ite (.warmRst h) (.ite ?_ (.ite ?_ ?_)))
  · split
    · exact .islRst h
    · exact h
  · exact .foldl h fun _ _ ht => .ite (.sadStart ht) ht
  · exact .ite (.tripClear h) (.ite (.chkSelect h) (.ite (.chkFeed h) (.ite (.chkFeed h) (.ite (.chkFeed h) (.ite (.ite
      (.chkClose h) h) h)))))

theorem State.MemOk.act (h : s.MemOk) {o : State} {ini off v F i} : (o.act ini off v s F i).MemOk := by
  unfold State.act
  exact .ite (.actHqe h) (.ite (.actMem h) (.ite (.actRidge h) (.ite (.actData h) (.actSlow h))))

theorem State.MemOk.vbtPut (h : s.MemOk) {ini off v} : (s.vbtPut ini off v).MemOk :=
  .ite (.updVb h) (.ite (.updVb h) (.ite (.vbtWrite h) (.ite (.vbtWrite h) (.ite (.vbtWrite h) h))))

theorem State.MemOk.putFields (h : s.MemOk) {ini off v fs} : (s.putFields ini off v fs).MemOk := by
  unfold State.putFields
  refine .ite (.regErr h) ?_
  split
  rename_i u _ eu
  have hu : u.MemOk := .fst eu (.foldlFst h fun _ _ ht => .putField ht)
  exact .foldl (.ite (.regErr hu) hu) fun _ _ ht => .act ht

theorem Memory.writeEn_wf {m : Memory} (a : Nat) (d : List (Option Byte)) (h : m.wf) : (m.writeEn a d).wf := by
  induction d generalizing m a with
  | nil => exact h
  | cons b d ih =>
    cases b with
    | none => exact ih (a + 1) h
    | some b => exact ih (a + 1) (Memory.write_wf a b h)

theorem State.MemOk.mramWrite (h : s.MemOk) {ini off o d} : (s.mramWrite ini off o d).MemOk :=
  .ite (.ite (.regErr h) h) (.ite h (.store (.putMram (.of h) (Memory.writeEn_wf _ _))))

theorem State.MemOk.mailWrite (h : s.MemOk) {ini off o d} : (s.mailWrite ini off o d).MemOk :=
  .ite (.regErr h) (.store (.putExt (.of (.linesWritten h)) (Memory.writeEn_wf _ _)))

theorem State.MemOk.crnMemWrite (h : s.MemOk) {ini off w v} : (s.crnMemWrite ini off w v).MemOk := .ite (.upd h) (.ite h (.regErr h))

theorem State.MemOk.ridgePut (h : s.MemOk) {ini off c o v} : (s.ridgePut ini off c o v).MemOk :=
  .ite (.updRc h) (.ite (.ite h (.regErr h)) (.updRc h))

theorem State.MemOk.writeWord (h : s.MemOk) {ini off v} : (s.writeWord ini off v).MemOk := by
  unfold State.writeWord
  split
  · exact .ite (.vbtPut h) (.putFields h)
  · exact .regErr h
  · exact h
  · exact .crnMemWrite h
  · exact .ridgePut h
  · exact .store (.putFirn (.of h) (Memory.writeLe_wf _ _ _))
  · exact .mailWrite h
  · exact .mramWrite h

theorem State.MemOk.post (h : s.MemOk) {ini off d} : (s.post ini off d).MemOk := .ite (.regErr (.orF h)) (.upd h)

theorem State.MemOk.deliverWrite (h : s.MemOk) {x} : (s.deliverWrite x).MemOk := by
  unfold State.deliverWrite
  split
  · exact .mailWrite h
  · exact .mramWrite h
  · exact .writeWord h

theorem State.MemOk.applyPosted (h : s.MemOk) {n} : (s.applyPosted n).MemOk := by
  unfold State.applyPosted
  split
  · exact .ite (.deliverWrite (.upd h)) h
  · exact h

theorem MemKept.execPostedWriteApply (h : s.MemOk) {island} : MemKept (execPostedWriteApply island s) := .next (.applyPosted h)

theorem State.MemOk.abandon (h : s.MemOk) {ini off wr} : (s.abandon ini off wr).MemOk := .regErr (.orF h)

theorem MemKept.execCrossingTimeout (h : s.MemOk) {a} : MemKept (execCrossingTimeout a s) := by
  unfold Machine.execCrossingTimeout
  split
  · split
    · exact .next (.ite h (.abandon (.upd h)))
    · exact .next h
  · exact .next (.ite h (.abandon (.upd h)))

theorem State.MemOk.writeFrom (h : s.MemOk) {ini off v} : (s.writeFrom ini off v).MemOk := .ite (.writeWord h) (.post h)

theorem State.MemOk.busWrite (h : s.MemOk) {ini off d} : (s.busWrite ini off d).MemOk := by
  unfold State.busWrite
  generalize siteAt off = p
  as_aux_lemma =>
    split
    · exact .store (.putFirn (.of h) (Memory.writeEn_wf _ _))
    · exact .ite (.post h) (.ite (.regErr h) (.ite (.writeFrom (.writeFrom h)) (.writeFrom h)))

theorem State.MemOk.msixWrite (h : s.MemOk) {off d} : (s.msixWrite off d).MemOk := .flushPba (.upd h)

theorem MemKept.bar2Write (h : s.MemOk) {off d} : MemKept (s.bar2Write off d) :=
  .ite (.next (.hqErr h)) (.ite (.execSqTailDb h) (.ite (.execCqHeadDb h) (.ite (.execSrBufDb h) (.ite (.execSrFillDb h) (.next
    (.ite (.msixWrite h) h))))))

theorem MemKept.execRegisterWrite (h : s.MemOk) {ini bar2 off d} : MemKept (execRegisterWrite ini bar2 off d s) := by
  unfold Machine.execRegisterWrite
  refine .ite (.next h) ?_
  generalize s.bar2At ini bar2 off = o
  as_aux_lemma =>
    cases o with
    | none => exact .next (.busWrite h)
    | some o => exact .bar2Write h

theorem State.MemOk.answer (h : s.MemOk) {v} : (s.answer v).MemOk := .upd h

theorem State.MemOk.behind (h : s.MemOk) {ini off} : (s.behind ini off).MemOk := .ite (.applyPosted h) h

theorem State.MemOk.readFrom (h : s.MemOk) {ini off p} (e : s.readFrom ini off = some p) : p.2.MemOk := by
  unfold State.readFrom at e
  split at e
  · exact Option.some.inj e ▸ .readWord h
  · split at e
    · cases e
    · exact Option.some.inj e ▸ .readWord (.behind h)

theorem State.MemOk.windowGet (h : s.MemOk) {ini off n} : (s.windowGet ini off n).2.MemOk := by
  have hm : ∀ o, (s.mailRead ini off o n).2.MemOk := fun _ => .mailRead h
  have hw : (s.readWord ini off).2.MemOk := .readWord h
  unfold State.windowGet
  generalize s.mailRead ini off = g at *
  generalize s.readWord ini off = w at *
  generalize siteAt off = p
  as_aux_lemma =>
    split
    · exact h
    · exact hm _
    · exact h
    · exact hw

theorem State.MemOk.busRead (h : s.MemOk) {ini off len} : (s.busRead ini off len).MemOk := by
  have hw : ((s.behind ini off).windowGet ini off len).2.MemOk := .windowGet (.behind h)
  have hr : ∀ p, s.readFrom ini off = some p → p.2.MemOk := fun _ => .readFrom h
  unfold State.busRead
  generalize (s.behind ini off).windowGet ini off len = w at *
  generalize s.readFrom ini off = o at *
  as_aux_lemma =>
    refine .ite (.ite (.answer hw) h) ?_
    cases o with
    | none => exact h
    | some p =>
      have hp : p.2.MemOk := hr p rfl
      have hq : ∀ q, p.2.readFrom ini (off + 4) = some q → q.2.MemOk := fun _ => .readFrom hp
      refine .ite (.answer hp) ?_
      generalize p.2.readFrom ini (off + 4) = o at *
      as_aux_lemma =>
        cases o with
        | none => exact hp
        | some q => exact .answer (hq q rfl)

theorem MemKept.execReadClear (h : s.MemOk) {a ecc} : MemKept (execReadClear a ecc s) := by
  unfold Machine.execReadClear
  refine .ite (.next h) ?_
  generalize s.bar2At a.ini a.bar2 a.off = o
  generalize siteAt a.off = p
  generalize (!anyWidth a.off && !widthOk a.off a.len a.full) = b
  as_aux_lemma =>
    split
    · exact .next (.answer h)
    · refine .ite (.next h) ?_
      split
      · refine .ite (.next (.busRead h)) ?_
        split
        · exact .next (.busRead h)
        · exact .next (.busRead (.incF h))
        · exact .next (.answer h)
      · exact .next (.busRead h)

theorem State.MemOk.narrowRead (h : s.MemOk) {ini off len} : (s.narrowRead ini off len).MemOk := by
  unfold State.narrowRead
  extract_lets u
  have hu : u.MemOk := .regErr h
  exact .ite (.busRead hu) (.answer hu)

theorem MemKept.execReservedAccess (h : s.MemOk) {a write} : MemKept (execReservedAccess a write s) := by
  unfold Machine.execReservedAccess
  refine .ite (.next h) ?_
  generalize s.bar2At a.ini a.bar2 a.off = o
  generalize siteAt a.off = p
  as_aux_lemma =>
    split
    · exact .next (.ite h (.ite (.hqErr h) (.answer h)))
    · refine .ite (.next h) (.ite (.next (.ite (.regErr h) (.narrowRead h))) ?_)
      split
      · exact .next (.ite (.busWrite h) (.busRead h))
      · exact .next h

theorem State.MemOk.effect (h : s.MemOk) {ini off v} : (s.effect ini off v).MemOk := .ite h (.ite (.writeWord h) (.post h))

theorem MemKept.execWarmRst (h : s.MemOk) {ini v} : MemKept (execWarmRst ini v s) := .next (.effect h)

theorem MemKept.execIslandResetHold (h : s.MemOk) {ini v} : MemKept (execIslandResetHold ini v s) := .next (.effect h)

theorem MemKept.execRefSrcWrite (h : s.MemOk) {ini v} : MemKept (execRefSrcWrite ini v s) := .next (.effect h)

theorem MemKept.execSqEnableWrite (h : s.MemOk) {ini q v} : MemKept (execSqEnableWrite ini q v s) := .next (.effect h)

theorem MemKept.execRingConfigWrite (h : s.MemOk) {ini off v} : MemKept (execRingConfigWrite ini off v s) := .next (.ite (.effect h) h)

theorem MemKept.execIrqEnWrite (h : s.MemOk) {ini ring v} : MemKept (execIrqEnWrite ini ring v s) := .next (.effect h)

theorem MemKept.execHqeWdogWrite (h : s.MemOk) {ini cto v} : MemKept (execHqeWdogWrite ini cto v s) := .next (.effect h)

theorem MemKept.execDcbPresetWrite (h : s.MemOk) {ini lane v} : MemKept (execDcbPresetWrite ini lane v s) := .next (.effect h)

theorem MemKept.execDcbKWrite (h : s.MemOk) {ini lane v} : MemKept (execDcbKWrite ini lane v s) := .next (.effect h)

theorem MemKept.execPtWrite (h : s.MemOk) {ini n v} : MemKept (execPtWrite ini n v s) := .next (.effect h)

theorem MemKept.execDmaGo (h : s.MemOk) {ini c ch v} : MemKept (execDmaGo ini c ch v s) := .next (.effect h)

theorem MemKept.execRetireWrite (h : s.MemOk) {ini ch v} : MemKept (execRetireWrite ini ch v s) := .next (.effect h)

theorem MemKept.execFreqChange (h : s.MemOk) {ini v} : MemKept (execFreqChange ini v s) := .next (.effect h)

theorem MemKept.execRgnSizeWrite (h : s.MemOk) {ini n v} : MemKept (execRgnSizeWrite ini n v s) := .next (.effect h)

theorem MemKept.execRgnCommit (h : s.MemOk) {ini v} : MemKept (execRgnCommit ini v s) := .next (.effect h)

theorem MemKept.execMemSpareClr (h : s.MemOk) {ini ch v} : MemKept (execMemSpareClr ini ch v s) := .next (.effect h)

end Sys2Proof.Machine
end

section
/-! SUPPORT. The canonical form of the memories is kept (O60): the instructions of the ridge cores. -/

namespace Sys2Proof.Machine

variable {s t : State}

theorem State.MemOk.rLoopEnd (h : s.MemOk) {c} : (s.rLoopEnd c).MemOk := .ite h (.rGo (.rCycles (.rTick (.updRc h))))

theorem MemKept.execLoopEnd (h : s.MemOk) {c} : MemKept (execLoopEnd c s) := .next (.ite (.rLoopEnd h) h)

theorem State.MemOk.rStall (h : s.MemOk) {c off} : (s.rStall c off).MemOk := by
  unfold State.rStall
  split
  rename_i u eu
  have hu : u.MemOk := .snd eu (.freeVal h)
  exact .rCycles (.addF hu)

/-- The state that a bus access of a ridge core leaves has its memories in canonical form. -/
def RBus.MemOk : RBus → Prop
  | .error s => s.MemOk
  | .done s _ => s.MemOk

theorem RBus.MemOk.rBusLoad (h : s.MemOk) {c a} : (s.rBusLoad c a).MemOk := by
  unfold State.rBusLoad
  extract_lets off fin u
  have hfin : ∀ x : Option Nat × State, x.2.MemOk → (fin x).MemOk := by
    rintro ⟨v, t⟩ hx
    cases v <;> exact hx
  have hu : u.MemOk := .rStall h
  have hr : ∀ x, u.readFrom (.ridge c) off = some x → x.2.MemOk := fun _ => .readFrom hu
  have hw : (fin (s.readWord (.ridge c) off)).MemOk := hfin _ (.readWord h)
  clear_value fin u
  generalize u.readFrom (.ridge c) off = o at *
  as_aux_lemma =>
    split
    · exact hw
    · cases o with
      | none => exact State.MemOk.abandon hu
      | some x => exact hfin x (hr x rfl)

theorem State.MemOk.rBusStore (h : s.MemOk) {c a v} : (s.rBusStore c a v).MemOk := .ite (.writeWord h) (.busWrite (.rStall h))

theorem RBus.MemOk.rBus (h : s.MemOk) {c x} : (s.rBus c x).MemOk := by
  unfold State.rBus
  split
  · exact State.MemOk.rBusStore h
  · exact .rBusLoad h

theorem State.MemOk.rReturn (h : s.MemOk) {c} : (s.rReturn c).MemOk := .rGo (.updRc (.rCycles (.rDrain h)))

theorem State.MemOk.rNextBundle (h : s.MemOk) {c b} : (s.rNextBundle c b).MemOk := by
  unfold State.rNextBundle
  split
  · exact .rReturn h
  · exact .rWake (.setF (.updRc (.rCycles (.rDrain h))))
  · exact .setF (.updRc (.rCycles (.rDrain h)))
  · exact .rGo (.rCycles (.rTicks h))
  · exact .ite (.updRc h) (.rGo (.rCycles (.rTick h)))

theorem State.MemOk.bankUse (h : s.MemOk) {c k} : (s.bankUse c k).MemOk := by
  unfold State.bankUse
  refine .ite (.updRc h) ?_
  split
  rename_i u eu
  have hu : u.MemOk := .snd eu (.freeVal h)
  exact .ite (.updRc hu) (.rCycles (.updRc (.incF hu)))

theorem State.MemOk.rCommit (h : s.MemOk) {c b} : (s.rCommit c b).MemOk :=
  .rNextBundle (.updRc (.addF (.setF (.foldl h fun _ _ ht => .bankUse ht))))

theorem State.MemOk.rIssue (h : s.MemOk) {c} : (s.rIssue c).MemOk := by
  unfold State.rIssue
  extract_lets r b
  split
  · exact .rExcept h
  · exact .rCommit h
  · rename_i x _ _
    have hb : (s.rBus c x).MemOk := .rBus h
    generalize s.rBus c x = o at *
    as_aux_lemma =>
      cases o with
      | error u => exact .rExcept hb
      | done u v => exact .rCommit hb

theorem State.MemOk.rOp (h : s.MemOk) {c last f} : (s.rOp c last f).MemOk := by
  unfold State.rOp
  refine .ite h ?_
  extract_lets u u1
  have hu : u.MemOk := .rLoopEnd h
  have hu1 : u1.MemOk := .updRc hu
  exact .ite hu (.ite (.rIssue hu1) hu1)

theorem MemKept.execRidgeNop (h : s.MemOk) {c last parity} : MemKept (execRidgeNop c last parity s) := .next (.rOp h)

theorem MemKept.execAdd (h : s.MemOk) {c last sat dd da db} : MemKept (execAdd c last sat dd da db s) := .next (.rOp h)

theorem MemKept.execSub (h : s.MemOk) {c last sat dd da db} : MemKept (execSub c last sat dd da db s) := .next (.rOp h)

theorem MemKept.execAdd2 (h : s.MemOk) {c last sat dd da db} : MemKept (execAdd2 c last sat dd da db s) := .next (.rOp h)

theorem MemKept.execSub2 (h : s.MemOk) {c last sat dd da db} : MemKept (execSub2 c last sat dd da db s) := .next (.rOp h)

theorem MemKept.execAnd (h : s.MemOk) {c last dd da db} : MemKept (execAnd c last dd da db s) := .next (.rOp h)

theorem MemKept.execOr (h : s.MemOk) {c last dd da db} : MemKept (execOr c last dd da db s) := .next (.rOp h)

theorem MemKept.execXor (h : s.MemOk) {c last dd da db} : MemKept (execXor c last dd da db s) := .next (.rOp h)

theorem MemKept.execSll (h : s.MemOk) {c last imm dd da db} : MemKept (execSll c last imm dd da db s) := .next (.rOp h)

theorem MemKept.execSrl (h : s.MemOk) {c last imm dd da db} : MemKept (execSrl c last imm dd da db s) := .next (.rOp h)

theorem MemKept.execSra (h : s.MemOk) {c last imm dd da db} : MemKept (execSra c last imm dd da db s) := .next (.rOp h)

theorem MemKept.execMin (h : s.MemOk) {c last dd da db} : MemKept (execMin c last dd da db s) := .next (.rOp h)

theorem MemKept.execMax (h : s.MemOk) {c last dd da db} : MemKept (execMax c last dd da db s) := .next (.rOp h)

theorem MemKept.execAbs (h : s.MemOk) {c last sat dd da} : MemKept (execAbs c last sat dd da s) := .next (.rOp h)

theorem MemKept.execNeg (h : s.MemOk) {c last sat dd da} : MemKept (execNeg c last sat dd da s) := .next (.rOp h)

theorem MemKept.execCmp (h : s.MemOk) {c last da db} : MemKept (execCmp c last da db s) := .next (.rOp h)

theorem MemKept.execPack (h : s.MemOk) {c last dd da db} : MemKept (execPack c last dd da db s) := .next (.rOp h)

theorem MemKept.execMul (h : s.MemOk) {c last sat dd da db} : MemKept (execMul c last sat dd da db s) := .next (.rOp h)

theorem MemKept.execMulq2 (h : s.MemOk) {c last sat dd da db} : MemKept (execMulq2 c last sat dd da db s) := .next (.rOp h)

theorem MemKept.execMpa (h : s.MemOk) {c last sat ad ha hb da db} : MemKept (execMpa c last sat ad ha hb da db s) := .next (.rOp h)

theorem MemKept.execMac (h : s.MemOk) {c last sat ad ha hb da db} : MemKept (execMac c last sat ad ha hb da db s) := .next (.rOp h)

theorem MemKept.execMsu (h : s.MemOk) {c last sat ad ha hb da db} : MemKept (execMsu c last sat ad ha hb da db s) := .next (.rOp h)

theorem MemKept.execDmpa (h : s.MemOk) {c last sat ad ha hb da db} : MemKept (execDmpa c last sat ad ha hb da db s) := .next (.rOp h)

theorem MemKept.execDmac (h : s.MemOk) {c last sat ad ha hb da db} : MemKept (execDmac c last sat ad ha hb da db s) := .next (.rOp h)

theorem MemKept.execDmsu (h : s.MemOk) {c last sat ad ha hb da db} : MemKept (execDmsu c last sat ad ha hb da db s) := .next (.rOp h)

theorem MemKept.execTapz (h : s.MemOk) {c last sat ad ha da db} : MemKept (execTapz c last sat ad ha da db s) := .next (.rOp h)

theorem MemKept.execTap (h : s.MemOk) {c last sat ad ha da db} : MemKept (execTap c last sat ad ha da db s) := .next (.rOp h)

theorem MemKept.execExt (h : s.MemOk) {c last sat dd aa n} : MemKept (execExt c last sat dd aa n s) := .next (.rOp h)

theorem MemKept.execExt2 (h : s.MemOk) {c last sat dd aa ab n} : MemKept (execExt2 c last sat dd aa ab n s) := .next (.rOp h)

theorem MemKept.execExth (h : s.MemOk) {c last sat dd aa n} : MemKept (execExth c last sat dd aa n s) := .next (.rOp h)

theorem MemKept.execExth2 (h : s.MemOk) {c last sat dd aa ab n} : MemKept (execExth2 c last sat dd aa ab n s) := .next (.rOp h)

theorem MemKept.execAclr (h : s.MemOk) {c last aa} : MemKept (execAclr c last aa s) := .next (.rOp h)

theorem MemKept.execAgetl (h : s.MemOk) {c last dd aa} : MemKept (execAgetl c last dd aa s) := .next (.rOp h)

theorem MemKept.execAgeth (h : s.MemOk) {c last dd aa} : MemKept (execAgeth c last dd aa s) := .next (.rOp h)

theorem MemKept.execAputl (h : s.MemOk) {c last dd aa} : MemKept (execAputl c last dd aa s) := .next (.rOp h)

theorem MemKept.execAputh (h : s.MemOk) {c last dd aa} : MemKept (execAputh c last dd aa s) := .next (.rOp h)

theorem MemKept.execAadd (h : s.MemOk) {c last sat aa ab} : MemKept (execAadd c last sat aa ab s) := .next (.rOp h)

theorem MemKept.execAsub (h : s.MemOk) {c last sat aa ab} : MemKept (execAsub c last sat aa ab s) := .next (.rOp h)

theorem MemKept.execLdH (h : s.MemOk) {c last x p m ecc} : MemKept (execLdH c last x p m ecc s) := .next (.rOp h)

theorem MemKept.execLdHu (h : s.MemOk) {c last x p m ecc} : MemKept (execLdHu c last x p m ecc s) := .next (.rOp h)

theorem MemKept.execLdW (h : s.MemOk) {c last x p m ecc} : MemKept (execLdW c last x p m ecc s) := .next (.rOp h)

theorem MemKept.execLdD (h : s.MemOk) {c last x p m ecc} : MemKept (execLdD c last x p m ecc s) := .next (.rOp h)

theorem MemKept.execStH (h : s.MemOk) {c last x p m} : MemKept (execStH c last x p m s) := .next (.rOp h)

theorem MemKept.execStW (h : s.MemOk) {c last x p m} : MemKept (execStW c last x p m s) := .next (.rOp h)

theorem MemKept.execStD (h : s.MemOk) {c last x p m} : MemKept (execStD c last x p m s) := .next (.rOp h)

theorem MemKept.execLdp (h : s.MemOk) {c last q pa pb ma mb ecc} : MemKept (execLdp c last q pa pb ma mb ecc s) := .next (.rOp h)

theorem MemKept.execMov (h : s.MemOk) {c last d x} : MemKept (execMov c last d x s) := .next (.rOp h)

theorem MemKept.execMovi (h : s.MemOk) {c last d imm} : MemKept (execMovi c last d imm s) := .next (.rOp h)

theorem MemKept.execPget (h : s.MemOk) {c last d p} : MemKept (execPget c last d p s) := .next (.rOp h)

theorem MemKept.execPset (h : s.MemOk) {c last d p} : MemKept (execPset c last d p s) := .next (.rOp h)

theorem MemKept.execPmod (h : s.MemOk) {c last p imm} : MemKept (execPmod c last p imm s) := .next (.rOp h)

theorem MemKept.execMovi32 (h : s.MemOk) {c last d imm} : MemKept (execMovi32 c last d imm s) := .next (.rOp h)

theorem MemKept.execPseti (h : s.MemOk) {c last p imm} : MemKept (execPseti c last p imm s) := .next (.rOp h)

theorem MemKept.execMovcR (h : s.MemOk) {c last d x} : MemKept (execMovcR c last d x s) := .next (.rOp h)

theorem MemKept.execMovcW (h : s.MemOk) {c last d x} : MemKept (execMovcW c last d x s) := .next (.rOp h)

theorem MemKept.execMovci (h : s.MemOk) {c last x imm} : MemKept (execMovci c last x imm s) := .next (.rOp h)

theorem MemKept.execBr (h : s.MemOk) {c last cond rel} : MemKept (execBr c last cond rel s) := .next (.rOp h)

theorem MemKept.execJr (h : s.MemOk) {c last p} : MemKept (execJr c last p s) := .next (.rOp h)

theorem MemKept.execJmp (h : s.MemOk) {c last tgt} : MemKept (execJmp c last tgt s) := .next (.rOp h)

theorem MemKept.execCall (h : s.MemOk) {c last p tgt} : MemKept (execCall c last p tgt s) := .next (.rOp h)

theorem MemKept.execRot (h : s.MemOk) {c last} : MemKept (execRot c last s) := .next (.rOp h)

theorem MemKept.execReti (h : s.MemOk) {c last} : MemKept (execReti c last s) := .next (.rOp h)

theorem MemKept.execWait (h : s.MemOk) {c last} : MemKept (execWait c last s) := .next (.rOp h)

theorem MemKept.execHalt (h : s.MemOk) {c last} : MemKept (execHalt c last s) := .next (.rOp h)

theorem MemKept.execBreak (h : s.MemOk) {c last} : MemKept (execBreak c last s) := .next (.rOp h)

theorem MemKept.execLoop (h : s.MemOk) {c last lvl rot n stop} : MemKept (execLoop c last lvl rot n stop s) := .next (.rOp h)

theorem State.MemOk.rFetch (h : s.MemOk) {c} : (s.rFetch c).MemOk := by
  unfold State.rFetch
  refine .ite h (.ite (.upd h) (.ite (.upd h) (.ite (.rExcept h) ?_)))
  split
  · exact .upd h
  · exact .rExcept h

theorem State.MemOk.rFetchAll (h : s.MemOk) : s.rFetchAll.MemOk := .foldl h fun _ _ ht => .rFetch ht

end Sys2Proof.Machine
end

section
/-! SUPPORT. The canonical form of the memories is kept (O60): the idle tick and every step. -/

namespace Sys2Proof.Machine

variable {s t : State}

theorem State.MemOk.tickTime (h : s.MemOk) : s.tickTime.MemOk := .ite (.upd h) h

theorem State.MemOk.confirmTick (h : s.MemOk) : s.confirmTick.MemOk := .ite (.setF (.updSum h)) h

theorem State.MemOk.sadEvents (h : s.MemOk) {prev} : (s.sadEvents prev).MemOk := .foldl h fun _ _ ht => .ite (.sadStart ht) ht

theorem State.MemOk.dataTick (h : s.MemOk) : s.dataTick.MemOk :=
  .ite (.copyTick (.tripTick (.sadEvents (.fabricTick (.ite (.rFrame h) h))))) h

theorem State.MemOk.unitsTick (h : s.MemOk) : s.unitsTick.MemOk := by
  unfold State.unitsTick
  extract_lets u u1 u2 u3
  have hu : u.MemOk := .watchLaunch (.satSecond (.replyTick (.staleTick h)))
  have hu1 : u1.MemOk := .confirmTick (.launchSettle (.dataTick (.spTick hu)))
  have hu2 : u2.MemOk := .ite (.migTick hu1) hu1
  exact .ite (.rTimerTick (.ite (.readTick hu2) hu2)) hu

theorem State.MemOk.coresFetch (h : s.MemOk) : s.coresFetch.MemOk := by
  unfold State.coresFetch
  extract_lets u
  have hu : u.MemOk := .crnFetch h
  exact .ite (.rFetchAll hu) hu

theorem State.MemOk.tickPass (h : s.MemOk) : s.tickPass.MemOk := by
  unfold State.tickPass
  extract_lets u
  have hu : u.MemOk := .sadTick (.tickTime (.upd h))
  exact .ite (.coresFetch (.unitsTick hu)) hu

theorem State.MemOk.idle (h : s.MemOk) : s.idle.MemOk := by
  unfold State.idle
  split
  · exact .upd h
  · exact .tickPass h

/-- Every instruction keeps the canonical form of the memories. -/
theorem MemKept.exec (h : s.MemOk) (i : Instr) : MemKept (exec i s) := by
  cases i with
  | nop => exact .execNop h
  | identify => exact .execIdentify h
  | abort => exact .execAbort h
  | query => exact .execQuery h
  | powerState => exact .execPowerState h
  | planLoad => exact .execPlanLoad h
  | planCheck => exact .execPlanCheck h
  | acqStart => exact .execAcqStart h
  | acqStop => exact .execAcqStop h
  | planSwitch => exact .execPlanSwitch h
  | alignReset => exact .execAlignReset h
  | streamOpen => exact .execStreamOpen h
  | streamClose => exact .execStreamClose h
  | streamFirn => exact .execStreamFirn h
  | slmLoad => exact .execSlmLoad h
  | slmArm => exact .execSlmArm h
  | slmDisarm => exact .execSlmDisarm h
  | capture => exact .execCapture h
  | captureRead => exact .execCaptureRead h
  | liftCfg => exact .execLiftCfg h
  | grmCompress => exact .execGrmCompress h
  | grmDecompress => exact .execGrmDecompress h
  | grmResume => exact .execGrmResume h
  | grmCtxDrop => exact .execGrmCtxDrop h
  | dtsConfig => exact .execDtsConfig h
  | dtsStart => exact .execDtsStart h
  | dtsStop => exact .execDtsStop h
  | dtsRead => exact .execDtsRead h
  | sadConfig => exact .execSadConfig h
  | sadSelfcal => exact .execSadSelfcal h
  | sadRead => exact .execSadRead h
  | sadFallback => exact .execSadFallback h
  | calRun => exact .execCalRun h
  | calBg => exact .execCalBg h
  | calStore => exact .execCalStore h
  | calReport => exact .execCalReport h
  | fwBegin => exact .execFwBegin h
  | fwBlock => exact .execFwBlock h
  | fwVerify => exact .execFwVerify h
  | fwActivate => exact .execFwActivate h
  | fwConfirm => exact .execFwConfirm h
  | fwStatus => exact .execFwStatus h
  | logRead => exact .execLogRead h
  | logMark => exact .execLogMark h
  | sensorRead => exact .execSensorRead h
  | sensorLimits => exact .execSensorLimits h
  | rdgLoad => exact .execRdgLoad h
  | rdgStart => exact .execRdgStart h
  | rdgStop => exact .execRdgStop h
  | rdgMsg => exact .execRdgMsg h
  | srcConfig => exact .execSrcConfig h
  | pumpSet => exact .execPumpSet h
  | pumpOff => exact .execPumpOff h
  | srcClear => exact .execSrcClear h
  | tiuConfig => exact .execTiuConfig h
  | tiuCal => exact .execTiuCal h
  | skateStart => exact .execSkateStart h
  | skateStop => exact .execSkateStop h
  | skateRead => exact .execSkateRead h
  | pnlMode => exact .execPnlMode h
  | pnlPalette => exact .execPnlPalette h
  | pnlEnable => exact .execPnlEnable h
  | patConfig => exact .execPatConfig h
  | patTelegram => exact .execPatTelegram h
  | trip => exact .execTrip h
  | sqTailDb => exact .execSqTailDb h
  | cqHeadDb => exact .execCqHeadDb h
  | srBufDb => exact .execSrBufDb h
  | srFillDb => exact .execSrFillDb h
  | submissionFetch => exact .execSubmissionFetch h
  | fenceRelease => exact .execFenceRelease h
  | fetchResume => exact .execFetchResume h
  | heldEntryWrite => exact .execHeldEntryWrite h
  | coalTimer => exact .execCoalTimer h
  | hostReadCompletion => exact .execHostReadCompletion h
  | hqeCtoExpiry => exact .execHqeCtoExpiry h
  | handleWatchdog => exact .execHandleWatchdog h
  | streamBlockComplete => exact .execStreamBlockComplete h
  | blockCloseTimer => exact .execBlockCloseTimer h
  | srFlushTimer => exact .execSrFlushTimer h
  | pendingReturnWrite => exact .execPendingReturnWrite h
  | d3hotEntry => exact .execD3hotEntry h
  | d0Return => exact .execD0Return h
  | hostReset => exact .execHostReset h
  | functionLevelReset => exact .execFunctionLevelReset h
  | linkL0 => exact .execLinkL0 h
  | pewakeTimeout => exact .execPewakeTimeout h
  | sqEnableWrite => exact .execSqEnableWrite h
  | ringConfigWrite => exact .execRingConfigWrite h
  | irqEnWrite => exact .execIrqEnWrite h
  | hqeWdogWrite => exact .execHqeWdogWrite h
  | registerWrite => exact .execRegisterWrite h
  | reservedAccess => exact .execReservedAccess h
  | readClear => exact .execReadClear h
  | postedWriteApply => exact .execPostedWriteApply h
  | crossingTimeout => exact .execCrossingTimeout h
  | tbLoadWrite => exact .execTbLoadWrite h
  | ppsEdge => exact .execPpsEdge h
  | ppsLoss => exact .execPpsLoss h
  | warmRst => exact .execWarmRst h
  | islandResetHold => exact .execIslandResetHold h
  | refSrcWrite => exact .execRefSrcWrite h
  | porLAssert => exact .execPorLAssert h
  | coldBoot => exact .execColdBoot h
  | sysRstLAssert => exact .execSysRstLAssert h
  | warmBoot => exact .execWarmBoot h
  | systemPllLock => exact .execSystemPllLock h
  | convPllLock => exact .execConvPllLock h
  | loaderStart => exact .execLoaderStart h
  | memoryTrainingDone => exact .execMemoryTrainingDone h
  | bootComplete => exact .execBootComplete h
  | brownoutCrossing => exact .execBrownoutCrossing h
  | brownoutReset => exact .execBrownoutReset h
  | vbatReset => exact .execVbatReset h
  | vbatLow => exact .execVbatLow h
  | refLost => exact .execRefLost h
  | refReturn => exact .execRefReturn h
  | transitionDone => exact .execTransitionDone h
  | queuedTransitionStart => exact .execQueuedTransitionStart h
  | standbyWake => exact .execStandbyWake h
  | wakeRetryTimer => exact .execWakeRetryTimer h
  | frameStart => exact .execFrameStart h
  | toneFiring => exact .execToneFiring h
  | firingProcessed => exact .execFiringProcessed h
  | planSwitchApply => exact .execPlanSwitchApply h
  | acqStopDrained => exact .execAcqStopDrained h
  | relockEdge => exact .execRelockEdge h
  | energyInterval => exact .execEnergyInterval h
  | mbMeasurement => exact .execMbMeasurement h
  | mbCorrection => exact .execMbCorrection h
  | mbStarved => exact .execMbStarved h
  | dcbPresetWrite => exact .execDcbPresetWrite h
  | dcbKWrite => exact .execDcbKWrite h
  | bankPwrUpdate => exact .execBankPwrUpdate h
  | spReq => exact .execSpReq h
  | spRelease => exact .execSpRelease h
  | spSettleEnd => exact .execSpSettleEnd h
  | spCompareEnd => exact .execSpCompareEnd h
  | calBgTimer => exact .execCalBgTimer h
  | calVisitDone => exact .execCalVisitDone h
  | ramanShot => exact .execRamanShot h
  | dtsLegEnd => exact .execDtsLegEnd h
  | dtsCloseStart => exact .execDtsCloseStart h
  | dtsCloseEnd => exact .execDtsCloseEnd h
  | triggerInput => exact .execTriggerInput h
  | gateMatchComplete => exact .execGateMatchComplete h
  | gateTimeout => exact .execGateTimeout h
  | periodicTimer => exact .execPeriodicTimer h
  | ptWrite => exact .execPtWrite h
  | glacierBlockWrite => exact .execGlacierBlockWrite h
  | segmentComplete => exact .execSegmentComplete h
  | captureWindowEnd => exact .execCaptureWindowEnd h
  | captureCopyDone => exact .execCaptureCopyDone h
  | liftArmChange => exact .execLiftArmChange h
  | liftFireEdge => exact .execLiftFireEdge h
  | liftFireRelease => exact .execLiftFireRelease h
  | liftLatchTimeout => exact .execLiftLatchTimeout h
  | liftStuck => exact .execLiftStuck h
  | groomBlock => exact .execGroomBlock h
  | jobChunkDone => exact .execJobChunkDone h
  | interruptEntry => exact .execInterruptEntry h
  | loopEnd => exact .execLoopEnd h
  | dmaGo => exact .execDmaGo h
  | dmaDescriptorDone => exact .execDmaDescriptorDone h
  | dmaAbort => exact .execDmaAbort h
  | ridgeTimer => exact .execRidgeTimer h
  | tgCommit => exact .execTgCommit h
  | msgAck => exact .execMsgAck h
  | ridgeNop => exact .execRidgeNop h
  | add => exact .execAdd h
  | sub => exact .execSub h
  | add2 => exact .execAdd2 h
  | sub2 => exact .execSub2 h
  | and => exact .execAnd h
  | or => exact .execOr h
  | xor => exact .execXor h
  | sll => exact .execSll h
  | srl => exact .execSrl h
  | sra => exact .execSra h
  | min => exact .execMin h
  | max => exact .execMax h
  | abs => exact .execAbs h
  | neg => exact .execNeg h
  | cmp => exact .execCmp h
  | pack => exact .execPack h
  | mul => exact .execMul h
  | mulq2 => exact .execMulq2 h
  | mpa _ _ sat => exact .execMpa h (sat := sat)
  | mac => exact .execMac h
  | msu => exact .execMsu h
  | dmpa _ _ sat => exact .execDmpa h (sat := sat)
  | dmac => exact .execDmac h
  | dmsu => exact .execDmsu h
  | tapz _ _ sat => exact .execTapz h (sat := sat)
  | tap => exact .execTap h
  | ridgeExt => exact .execExt h
  | ext2 => exact .execExt2 h
  | exth => exact .execExth h
  | exth2 => exact .execExth2 h
  | aclr => exact .execAclr h
  | agetl => exact .execAgetl h
  | ageth => exact .execAgeth h
  | aputl => exact .execAputl h
  | aputh => exact .execAputh h
  | aadd => exact .execAadd h
  | asub => exact .execAsub h
  | ldH => exact .execLdH h
  | ldHu => exact .execLdHu h
  | ldW => exact .execLdW h
  | ldD => exact .execLdD h
  | stH => exact .execStH h
  | stW => exact .execStW h
  | stD => exact .execStD h
  | ldp => exact .execLdp h
  | mov => exact .execMov h
  | movi => exact .execMovi h
  | pget => exact .execPget h
  | pset => exact .execPset h
  | pmod => exact .execPmod h
  | movcR => exact .execMovcR h
  | movcW => exact .execMovcW h
  | br => exact .execBr h
  | jr => exact .execJr h
  | rot => exact .execRot h
  | reti => exact .execReti h
  | wait => exact .execWait h
  | halt => exact .execHalt h
  | ridgeBreak => exact .execBreak h
  | movi32 => exact .execMovi32 h
  | loop => exact .execLoop h
  | jmp => exact .execJmp h
  | call => exact .execCall h
  | pseti => exact .execPseti h
  | movci => exact .execMovci h
  | memRequest => exact .execMemRequest h
  | memRereadDone => exact .execMemRereadDone h
  | fabricTimeout => exact .execFabricTimeout h
  | refresh => exact .execRefresh h
  | memTempPoll => exact .execMemTempPoll h
  | scrub => exact .execScrub h
  | migrationStart => exact .execMigrationStart h
  | retireWrite => exact .execRetireWrite h
  | migrationDone => exact .execMigrationDone h
  | freqChange => exact .execFreqChange h
  | freqChangeDone => exact .execFreqChangeDone h
  | rgnSizeWrite => exact .execRgnSizeWrite h
  | rgnCommit => exact .execRgnCommit h
  | memSpareClr => exact .execMemSpareClr h
  | watchFrame => exact .execWatchFrame h
  | crnNop => exact .execCrnNop h
  | crnAdd => exact .execCrnAdd h
  | crnSub => exact .execCrnSub h
  | addi => exact .execAddi h
  | crnAnd => exact .execCrnAnd h
  | crnOr => exact .execCrnOr h
  | shr => exact .execShr h
  | ld => exact .execLd h
  | st => exact .execSt h
  | crnCmp => exact .execCrnCmp h
  | crnBr => exact .execCrnBr h
  | iir => exact .execIir h
  | rules => exact .execRules h
  | waitf => exact .execWaitf h
  | crnIn => exact .execCrnIn h
  | crnOut => exact .execCrnOut h
  | tgram => exact .execTgram h
  | wake => exact .execWake h
  | stby => exact .execStby h
  | crnWatchdog => exact .execCrnWatchdog h
  | vbtMirrorCopy => exact .execVbtMirrorCopy h
  | vbtCommit => exact .execVbtCommit h
  | rtcAlarm => exact .execRtcAlarm h
  | wakePin => exact .execWakePin h
  | tamperAssert => exact .execTamperAssert h
  | sadResult => exact .execSadResult h
  | sadStart => exact .execSadStart h
  | saBlankChange => exact .execSaBlankChange h
  | blankMaxExpiry => exact .execBlankMaxExpiry h
  | fbDischargeEnd => exact .execFbDischargeEnd h
  | selfcalSlotEnd => exact .execSelfcalSlotEnd h
  | pumpPeriod => exact .execPumpPeriod h
  | pumpRampDone => exact .execPumpRampDone h
  | pumpFaultLatch => exact .execPumpFaultLatch h
  | gateSense => exact .execGateSense h
  | gateVerdict => exact .execGateVerdict h
  | tiEdge => exact .execTiEdge h
  | intervalResult => exact .execIntervalResult h
  | codeDensityDone => exact .execCodeDensityDone h
  | encoderStall => exact .execEncoderStall h
  | skatePosSample => exact .execSkatePosSample h
  | patrolPoll => exact .execPatrolPoll h
  | replyEnd => exact .execReplyEnd h
  | pollGapTimeout => exact .execPollGapTimeout h
  | lineBreak => exact .execLineBreak h
  | staleTimeout => exact .execStaleTimeout h
  | tripCondition => exact .execTripCondition h
  | tripLatchClear => exact .execTripLatchClear h
  | chkCtl => exact .execChkCtl h
  | chkData8 => exact .execChkData8 h
  | chkData16 => exact .execChkData16 h
  | chkData32 => exact .execChkData32 h
  | chkFinal => exact .execChkFinal h
  | panelFrameStart => exact .execPanelFrameStart h
  | lineFetch => exact .execLineFetch h
  | panelActiveEnd => exact .execPanelActiveEnd h
  | summitWatchdog => exact .execSummitWatchdog h
  | sumWdogKick => exact .execSumWdogKick h
  | sensorSample => exact .execSensorSample h
  | logFlush => exact .execLogFlush h
  | confirmTimeout => exact .execConfirmTimeout h
  | configurationRequest => exact .execConfigurationRequest h
  | perstLRelease => exact .execPerstLRelease h
  | jtagInstruction => exact .execJtagInstruction h
  | activationProgress => exact .execActivationProgress h

/-- A step is an instruction that waits or an idle tick; each keeps the canonical form of the memories. -/
theorem MemKept.step (h : s.MemOk) : MemKept (step s) := by
  unfold Machine.step
  split
  · exact .next (.idle h)
  · exact .exec (.upd h) _

/-- Settles O60, from the same fact of each instruction and of the idle tick. -/
theorem memoriesKept : Obligations.MemoriesKept := by
  intro s t hs ht
  have h : s.MemOk := by rw [State.memOk_iff, Memories.ok_iff]; exact hs
  have k : t.MemOk := (MemKept.step h).of_next ht
  rwa [State.memOk_iff, Memories.ok_iff] at k

end Sys2Proof.Machine
end

section
/-! SUPPORT. Register accesses (O6): the state that refutes the statement, and its run. -/

namespace Sys2Proof.Machine

open Sys2Proof.Tests

/-- A stand-alone chip with both queue engines off: engine 0 keeps a data write of one byte to summit SRAM at 0x100, and a posted write of HQE_CTL.EN0 waits in the crossing of HOST. -/
def keptWrite : State :=
  { crossing with pw := { crossing.pw with standalone := true }, hostHeld := [(0, ⟨0x100, [5], false⟩)] }

/-- The write that waits there: HQE_CTL.EN0 to 1. -/
def enableWrite : XWrite := ⟨3, 0x10000, (leBytes 4 (1 : Word).toNat).map some, .pcie, 0⟩

/-- Once EN0 is set, the engine makes the data write it kept: the byte reaches summit SRAM (R80, R85, R110). -/
theorem keptWrite_applyPosted : (keptWrite.applyPosted 3).mem.sram.read 0x100 = 5 := by decide +kernel

/-- Before, that byte reads 0. -/
theorem keptWrite_sram : keptWrite.mem.sram.read 0x100 = 0 := rfl

/-- Refutes O6: the posted write of HQE_CTL that sets EN0 lets the engine make a data write that it kept while it was off (R80, R85); in stand-alone operation that write goes to a memory of the device (R110), so the second clause's `t.mem = s.mem` fails. -/
theorem not_registerAccesses : ¬ Obligations.RegisterAccesses := by
  unfold Obligations.RegisterAccesses
  rintro ⟨-, applied, -⟩
  obtain ⟨t, ht, -, -, -, -, -, hmem⟩ :=
    applied keptWrite enableWrite 1 rfl rfl rfl rfl (by decide)
  have hrun : t = keptWrite.applyPosted 3 := (Host.Outcome.next.inj ht).symm
  have := keptWrite_applyPosted
  rw [← hrun, hmem, keptWrite_sram] at this
  exact absurd this (by decide)

end Sys2Proof.Machine
end

section
/-! SUPPORT. What commands of the host leave: the memories outside stand-alone operation, and a handle that a completion ends. -/

namespace Sys2Proof.Machine

variable {s : State}

/-- A command that completes its handle in the state it meets ends it there. -/
theorem Ends.of_exec {i : Instr} {h st det r0 r1 : Nat} (e : exec i s = .next (s.complete h st det r0 r1)) :
    Ends i s h st det r0 r1 (fun u => u = s) := ⟨s, e, rfl, rfl⟩

@[simp] theorem State.timerStart_fld (a : Timer) (F : Field) (i : Nat) : (s.timerStart a).fld F i = s.fld F i := rfl

/-- An entry for the host leaves the memories of the device alone (R103, R110). -/
theorem State.hostPutRo_mem (ro : Bool) (a : Nat) (bs : List Byte) (h : s.pw.standalone = false) : (s.hostPutRo ro a bs).mem = s.mem := by
  unfold State.hostPutRo
  rw [h, if_neg Bool.false_ne_true]
  split <;> rfl

theorem State.hostPut_mem (a : Nat) (bs : List Byte) (h : s.pw.standalone = false) : (s.hostPut a bs).mem = s.mem :=
  State.hostPutRo_mem _ _ _ h

theorem State.cqPut_mem (c : Nat) (e : Cqe) (h : s.pw.standalone = false) : (s.cqPut c e).mem = s.mem := by
  simp [State.cqPut, State.setB_eq, State.hostPut_mem, h]

theorem State.cqForm_mem (c : Fin 16) (e : Cqe) (f : Option Nat) (h : s.pw.standalone = false) : (s.cqForm c e f).mem = s.mem := by
  unfold State.cqForm
  split
  · cases f <;> simp [State.cqPut_mem _ _ h]
  · rfl

theorem State.acceptWith_mem (i a b : Nat) (h : s.pw.standalone = false) : (s.acceptWith i a b).mem = s.mem := by
  unfold State.acceptWith
  split
  · rfl
  · split
    · rfl
    · simp [State.cqForm_mem, h]

theorem State.takeUp_mem (i : Nat) (h : s.pw.standalone = false) : (s.takeUp i).mem = s.mem := by
  simp [State.takeUp, State.accept, State.acceptWith_mem _ _ _ h]

theorem State.complete_mem (i st det a b : Nat) (h : s.pw.standalone = false) : (s.complete i st det a b).mem = s.mem := by
  unfold State.complete
  split
  · rfl
  · dsimp only
    split
    · rfl
    · rw [State.cqForm_mem _ _ _ (by simp only [State.updHandle_pw]; split <;> exact h), State.updHandle_mem]
      split <;> rfl

/-! ### Handles that end (R90, R96, R99) -/

/-- The first entry of a key, after a change of that key's entries that keeps the keys. -/
theorem find?_map_key {α : Type} {key : α → Nat} {f : α → α} {k : Nat} {l : List α} {x : α} (hf : ∀ y, key (f y) = key y)
    (h : l.find? (fun y => key y == k) = some x) :
    (l.map (fun y => if key y == k then f y else y)).find? (fun y => key y == k) = some (f x) := by
  have hp : ((fun y => key y == k) ∘ fun y => if key y == k then f y else y) = fun y => key y == k := by
    funext y
    by_cases hy : key y = k <;> simp [hy, hf]
  have hx : key x = k := by simpa using List.find?_some h
  simp only [List.find?_map, hp, h, Option.map_some, hx, beq_self_eq_true, if_true]

theorem State.handle?_freeHandle (i : Nat) : (s.freeHandle i).handle? i = none := by
  simp [State.handle?, State.freeHandle, State.updFree]

/-- The holder of an index after a change that keeps the index. -/
theorem State.handle?_updHandle {i : Nat} {x : Handle} {f : Handle → Handle} (hf : ∀ y, (f y).idx = y.idx) (h : s.handle? i = some x) :
    (s.updHandle i f).handle? i = some (f x) := find?_map_key (key := Handle.idx) hf h

/-- An entry that frees a handle: written, it has freed it; kept, the handle stays. -/
theorem State.handle?_cqForm (c : Fin 16) (e : Cqe) (i : Nat) :
    (s.cqForm c e (some i)).handle? i = none ∨ (s.cqForm c e (some i)).handle? i = s.handle? i := by
  unfold State.cqForm
  split
  · exact .inl (State.handle?_freeHandle i)
  · exact .inr rfl

/-- A completed handle has ended: its index is free, or its entry waits. -/
theorem State.complete_ended (i st det a b : Nat) : (s.complete i st det a b).ended i := by
  intro y hy
  unfold State.complete at hy
  split at hy
  · rename_i hn
    rw [hn] at hy
    cases hy
  · rename_i x hx
    extract_lets waits q u k at hy
    split at hy
    · rename_i hd
      rw [hx] at hy
      cases hy
      exact hd
    · have hu : u.handle? i = some x := by
        rw [← hx]
        simp only [u]
        split <;> rfl
      have hdone := State.handle?_updHandle (f := fun y => { y with done := true }) (fun _ => rfl) hu
      rcases State.handle?_cqForm (s := u.updHandle i _) _ _ i with hfree | hkept
      · rw [hfree] at hy
        cases hy
      · rw [hkept, hdone] at hy
        cases hy
        rfl

end Sys2Proof.Machine
end

section
/-! SUPPORT. Power-state transitions (O3): POWER_STATE for RUN, the way from WATCH to RUN, and the wake of STANDBY. -/

namespace Sys2Proof.Machine

variable {s : State}

/-! ### The state shown (R78) -/

@[simp] theorem State.showState_pw (n : Nat) : (s.showState n).pw = s.pw := by unfold State.showState; split <;> simp
@[simp] theorem State.showState_mem (n : Nat) : (s.showState n).mem = s.mem := by unfold State.showState; split <;> simp

theorem State.showState_fld {n : Nat} (h : n < 16) : (s.showState n).fld Reg.PWR_STATUS_STATE = n := by
  unfold State.showState
  split
  · assumption
  · rw [State.signal_fld, State.fld_setF_same]
    exact Nat.mod_eq_of_lt h

theorem State.showState_fld_other (n : Nat) {G : Field} {j : Nat} (h : Reg.PWR_STATUS_STATE.key 0 ≠ G.key j) :
    (s.showState n).fld G j = s.fld G j := by
  unfold State.showState
  split
  · rfl
  · rw [State.signal_fld, State.fld_setF_other _ _ _ _ _ _ h]

theorem State.setMode_pw (n : Nat) : (s.setMode n).pw = { s.pw with mode := n } := by simp [State.setMode]

theorem State.setMode_fld {n : Nat} (h : n < 16) : (s.setMode n).fld Reg.PWR_STATUS_STATE = n := State.showState_fld h

/-! ### Memory leaves the power domain alone (R320) -/

@[simp] theorem State.refFlush_pw (c : Nat) : (s.refFlush c).pw = s.pw := by simp [State.refFlush, State.refIssue, State.updMc]

@[simp] theorem State.freqSleep_pw : s.freqSleep.pw = s.pw := by
  unfold State.freqSleep State.selfRefresh State.updMc
  split <;> simp

@[simp] theorem State.memReply_pw (a b c : Nat) (d : List Byte) : (s.memReply a b c d).pw = s.pw := by
  unfold State.memReply
  split <;> rfl

@[simp] theorem State.memGood_pw (q : MemReq) : (s.memGood q).pw = s.pw := by
  unfold State.memGood
  dsimp only
  split
  · simp
  · rw [State.memReply_pw, State.extStore_pw, State.memCount_pw]
    split <;> rfl

@[simp] theorem State.migOnCe_pw (c r : Nat) : (s.migOnCe c r).pw = s.pw := by
  unfold State.migOnCe State.migWant State.updMc
  dsimp only
  split <;> rfl

@[simp] theorem State.memRead_pw (q : MemReq) : (s.memRead q).2.pw = s.pw := by
  unfold State.memRead
  split
  dsimp only
  split
  · exact State.memCount_pw _ _ _ _
  · split
    · rw [State.memGood_pw, State.memCount_pw]
    · rw [State.memGood_pw, State.migOnCe_pw, State.incF_eq, State.setF_pw, State.memCount_pw, State.memCount_pw]
    · exact State.memCount_pw _ _ _ _

@[simp] theorem State.memServe_pw (q : MemReq) : (s.memServe q).2.pw = s.pw := by
  unfold State.memServe
  split
  · rfl
  · split
    · split <;> simp
    · simp

@[simp] theorem State.memSettle_pw (n : Nat) : (s.memSettle n).pw = s.pw := by
  induction n generalizing s with
  | zero => rfl
  | succ n ih =>
    unfold State.memSettle
    split
    · rfl
    · split
      · rfl
      · rw [ih]
        exact State.memServe_pw _

@[simp] theorem State.memAccept_pw (q : MemReq) : (s.memAccept q).pw = s.pw := by
  unfold State.memAccept
  dsimp only
  split
  · rfl
  · exact State.memServe_pw _

@[simp] theorem State.memPump_pw (n : Nat) : (s.memPump n).pw = s.pw := by
  induction n generalizing s with
  | zero => rfl
  | succ n ih =>
    unfold State.memPump
    split
    · rfl
    · split
      · rfl
      · rw [ih, State.memAccept_pw]
        rfl

@[simp] theorem State.memWake_pw : s.memWake.pw = s.pw := by
  simp [State.memWake, State.memGoOn, State.updMc]

@[simp] theorem State.crnStop_pw : s.crnStop.pw = s.pw := by
  unfold State.crnStop State.gateShut
  dsimp only
  split <;> rfl

/-! ### POWER_STATE for RUN (R57, R59) -/

/-- POWER_STATE for RUN, taken with no transition under way: OK in RUN, else the way to RUN begins. -/
theorem exec_powerState_run {h : Fin 256} {x : Handle} (hc : s.cmd? h.val 0x04 = some x) (hp : x.p 0 = 2) (hl : s.loaderPers = false)
    (ha : s.activating = false) (hb : s.pstate ≠ stBoot) (ht : s.pw.trans = none) :
    exec (.powerState h) s = .next (if s.pstate = stRun then s.complete h.val stOk 0 stRun 0 else s.transBegin s.pstate stRun h.val) := by
  simp [exec, execPowerState, hc, hp, hl, ha, hb, ht, stRun, eq_comm (a := 2)]
  rfl

theorem exec_powerState_unknown {h : Fin 256} {x : Handle} (hc : s.cmd? h.val 0x04 = some x) (hp : x.p 0 = 0 ∨ 3 < x.p 0) :
    exec (.powerState h) s = .next (s.complete h.val stInvalid 24 0 0) := by
  simp [exec, execPowerState, hc, hp]

/-! ### WATCH to RUN (R57, R320) -/

@[simp] theorem State.toRunBegin_pw (hs : List Nat) (c : Bool) : (s.toRunBegin hs c).pw =
    { s.pw with trans := some ⟨1, 2, hs, c⟩, pewake := !s.pw.standalone && !s.pw.linkUp, linkTraining := !s.pw.standalone && !s.pw.linkUp } := rfl

/-- What a WATCH to RUN transition leaves when neither a fresh boot nor a host reset is owed: the state, shown, the transition over, its handles ended. -/
theorem State.runFromWatch_plain (t : Transition) (hf : s.pw.fresh = false) (ho : s.pw.hostResetOwed = false) :
    ∃ u : State, s.runFromWatch t = u.transComplete t u.pstate ∧ u.pstate = stRun ∧ u.pw.trans = none ∧ u.fld Reg.PWR_STATUS_STATE = stRun := by
  unfold State.runFromWatch
  extract_lets owed u src u1 u2 u3 u4
  have hu1 : u1.pw = { s.pw with trans := none, hostResetOwed := false } := by
    simp [u1, u, src, State.updPw, State.tgEnterRun, State.updPat]
  have hu2 : u2 = u1 := if_neg (by simp [owed, ho])
  have hu3 : u3 = u1.memWake.setMode stRun := by
    simp only [u3, hu2]
    exact if_neg (by simp [hu1, hf])
  have hpw : u4.pw = { s.pw with mode := stRun, trans := none, hostResetOwed := false } := by
    simp [u4, State.stateLog, hu3, State.setMode_pw, hu1]
  refine ⟨u4, if_neg (by simp [owed, ho]), by rw [State.pstate, hpw], by rw [hpw], ?_⟩
  simp only [u4, hu3]
  rw [State.stateLog, State.logEvt_fld _ _ _ _ _ (by decide) (by decide) (by decide), State.timerStart_fld]
  exact State.setMode_fld (by decide)

theorem exec_queuedTransitionStart_watch {tr : Transition} (hq : s.pw.queued = some tr) (ht : s.pw.trans = none) (hs : s.pstate = stWatch) :
    exec .queuedTransitionStart s = .next ((((s.updPw (fun p => { p with queued := none })).toRunBegin tr.handles false).setF
      Reg.PWR_WAKE_SRC_COMMAND 1).showState stStarting) := by
  simp only [exec, execQueuedTransitionStart, hq, ht, if_pos hs]

/-! ### Settled -/

/-- Settles O3, clause by clause from the effect of each command and event. -/
theorem powerTransitions : Obligations.PowerTransitions := by
  unfold Obligations.PowerTransitions
  refine ⟨?_, ?_, ?_, ?_, ?_, ?_, ?_, ?_, ?_⟩
  · intro s h x hc hp hl ha hs ht
    refine Ends.of_exec ?_
    rw [exec_powerState_run hc hp hl ha (by rw [hs]; decide) ht, if_pos hs]
  · intro s h x hc hp hl ha hs ht
    refine ⟨_, exec_powerState_run hc hp hl ha (by rw [hs]; decide) ht, ?_⟩
    rw [if_neg (by rw [hs]; decide)]
    exact ⟨rfl, State.fld_setF_same (s.takeUp h.val) _ 1 0, by simp [State.transBegin, stRun]⟩
  · intro s h x hc hp
    exact Ends.of_exec (exec_powerState_unknown hc hp)
  · intro s h ht ha hf ho
    obtain ⟨u, hu, hmode, htr, hst⟩ := State.runFromWatch_plain ⟨1, 2, [h], false⟩ hf ho
    refine ⟨u.complete h stOk 0 u.pstate 0, ?_, ?_, ?_, ?_⟩
    · simp [exec, execTransitionDone, ht, ha, hu, State.transComplete]
    · simpa [State.pstate] using hmode
    · rw [State.complete_fld _ _ _ _ _ _ ⟨.inl (by decide), .inr (by decide)⟩, hst]
    · simpa using htr
  · intro s tr hq ht hs
    refine ⟨_, exec_queuedTransitionStart_watch hq ht hs, ?_, ?_, ?_, ?_, ?_⟩
    · simp [State.updPw]
    · simp [State.updPw]
    · exact State.showState_fld (by decide)
    · rw [State.showState_fld_other _ (by decide)]
      exact State.fld_setF_same _ _ _ _
    · rw [State.showState_mem]
      rfl
  · intro s hsb hw hp
    refine ⟨_, rfl, ?_⟩
    simp [hsb, hw, hp, State.updPw, State.timerStart]
  · intro s hsb hd hp hn
    refine ⟨_, rfl, ?_⟩
    simp [hsb, ticksS, hd, hp, hn, State.updPw, State.timerStart]
  · intro s hsb hd hp hn
    refine ⟨_, rfl, ?_⟩
    simp [hsb, ticksS, hd, hp, hn, State.updPw, State.timerStart]
  · intro s hsb hd hp hn
    refine ⟨_, rfl, ?_⟩
    simp [hsb, ticksS, hd, hp, hn, State.updPw, State.updVb, vmod_getD]

end Sys2Proof.Machine
end

section
/-! SUPPORT. The commands of acquisition (O14): the start, the request to stop, and the switch of plans. -/

namespace Sys2Proof.Machine

variable {s : State}

/-! ### The running plan in the registers (R134) -/

/-- A field set in many places leaves every field of another key. -/
theorem foldl_setF_fld {F G : Field} {j : Nat} (v : Nat → Nat) (l : List Nat) (h : ∀ w ∈ l, F.key w ≠ G.key j) :
    (l.foldl (fun (s : State) w => s.setF F (v w) w) s).fld G j = s.fld G j := by
  induction l generalizing s with
  | nil => rfl
  | cons w l ih =>
    rw [List.foldl_cons, ih fun k hk => h k (List.mem_cons_of_mem _ hk)]
    exact State.fld_setF_other _ _ _ _ _ _ (h w List.mem_cons_self)

/-- What no register write changes, the fields of a plan do not change. -/
theorem State.showPlan_keeps {α : Type} (f : State → α) (h : ∀ (t : State) F v i, f (t.setF F v i) = f t) (id : Nat) (p : Plan) :
    f (s.showPlan id p) = f s := by
  have fold (v : Nat → Nat) (l : List Nat) (t : State) : f (l.foldl (fun (s : State) w => s.setF Reg.PRB_SLOT_MAP (v w) w) t) = f t := by
    induction l generalizing t with
    | nil => rfl
    | cons w l ih => rw [List.foldl_cons, ih, h]
  unfold State.showPlan
  extract_lets depths u1 u2 u3
  rw [fold]
  simp only [u3, u2, u1, State.setB_eq, h]

@[simp] theorem State.showPlan_acq (id : Nat) (p : Plan) : (s.showPlan id p).acq = s.acq := State.showPlan_keeps _ (fun _ _ _ _ => rfl) _ _
@[simp] theorem State.showPlan_dts (id : Nat) (p : Plan) : (s.showPlan id p).dts = s.dts := State.showPlan_keeps _ (fun _ _ _ _ => rfl) _ _
@[simp] theorem State.showPlan_mem (id : Nat) (p : Plan) : (s.showPlan id p).mem = s.mem := State.showPlan_keeps _ (fun _ _ _ _ => rfl) _ _

/-- A field that the tone, window, gate and slot fields of a plan leave: only the plan's ID and its frame can have changed it. -/
theorem State.showPlan_fld (id : Nat) (p : Plan) {G : Field} {j : Nat} (hw : ∀ w ∈ List.range 32, Reg.PRB_SLOT_MAP.key w ≠ G.key j)
    (hF : ∀ F ∈ [Reg.PRB_TONES_N, Reg.PRB_TONES_ALIGN, Reg.PRB_TONES_DEPTHS, Reg.PRB_WINDOW_W, Reg.PRB_WINDOW_WIN_OFS, Reg.PRB_GATE_LEAD,
      Reg.PRB_GATE_LAG, Reg.PRB_GATE_STAGGER], F.key 0 ≠ G.key j) :
    (s.showPlan id p).fld G j = ((s.setF Reg.PRB_PLAN_ID id).setF Reg.PRB_FRAME p.frameTicks).fld G j := by
  unfold State.showPlan
  extract_lets depths u1 u2 u3
  rw [foldl_setF_fld _ _ hw]
  simp only [u3, u2, u1, State.setB_eq]
  repeat rw [State.fld_setF_other _ _ _ _ _ _ (hF _ (by simp))]

theorem State.showPlan_planId (id : Nat) (p : Plan) : (s.showPlan id p).fld Reg.PRB_PLAN_ID = id % 2 ^ 32 := by
  rw [State.showPlan_fld _ _ (by decide) (by decide), State.fld_setF_other _ _ _ _ _ _ (by decide)]
  exact State.fld_setF_same _ _ _ _

theorem State.showPlan_frame (id : Nat) (p : Plan) : (s.showPlan id p).fld Reg.PRB_FRAME = p.frameTicks % 2 ^ 18 := by
  rw [State.showPlan_fld _ _ (by decide) (by decide)]
  exact State.fld_setF_same _ _ _ _

theorem State.showPlan_dacTest (id : Nat) (p : Plan) : (s.showPlan id p).fld Reg.PRB_DAC_TEST = s.fld Reg.PRB_DAC_TEST := by
  rw [State.showPlan_fld _ _ (by decide) (by decide), State.fld_setF_other _ _ _ _ _ _ (by decide),
    State.fld_setF_other _ _ _ _ _ _ (by decide)]

/-! ### ACQ_START (R30, R131) -/

theorem exec_acqStart_idle {h : Fin 256} {x : Handle} (hc : s.cmd? h.val 0x12 = some x) (hr : s.acq.run = none) :
    exec (.acqStart h) s = .next (s.acqStart h.val (x.p 0) (bit (x.p 1) 0)) := by
  simp [exec, execAcqStart, hc, hr]

theorem exec_acqStart_busy {h : Fin 256} {x : Handle} {r : Nat × Plan} (hc : s.cmd? h.val 0x12 = some x) (hr : s.acq.run = some r)
    (he : s.acq.ending = none) : exec (.acqStart h) s = .next (s.complete h.val stBusy 0x12 0 0) := by
  simp [exec, execAcqStart, hc, hr, he]

/-- With no Raman average there is no fit to check again. -/
theorem State.dtsRefit_idle (h : s.dts.run = none) : s.dtsRefit = s := by
  unfold State.dtsRefit
  rw [h]

/-- What the start of an acquisition without the glacier ring leaves. -/
theorem State.acqBegin_plain (h id : Nat) (p : Plan) (hd : s.dts.run = none) :
    ∃ t, s.acqBegin h id p false = t ∧ t.acq.run = some (id, p) ∧ t.acq.handle = some h ∧ t.fld Reg.PRB_PLAN_ID = id % 2 ^ 32 ∧
      t.fld Reg.PRB_FRAME = p.frameTicks % 2 ^ 18 ∧
      t.fld Reg.PRB_DAC_TEST = 0 ∧ t.fld Reg.PRB_STATE_STATE = prbStarting ∧ (s.pw.standalone = false → t.mem = s.mem) := by
  unfold State.acqBegin
  extract_lets u1 a ph u2 u3 u4
  have hu4 : u4 = u3 := State.dtsRefit_idle (by simp [u3, u2, u1, hd])
  have ha : u3.acq = u2.acq := by simp [u3]
  refine ⟨u3, hu4, by rw [ha], by rw [ha], ?_, ?_, ?_, State.fld_setF_same _ _ _ _, fun hs => by simp [u3, u2, u1, State.takeUp_mem, hs]⟩
  · rw [State.fld_setF_other _ _ _ _ _ _ (by decide), State.showPlan_planId]
  · rw [State.fld_setF_other _ _ _ _ _ _ (by decide), State.showPlan_frame]
  · rw [State.fld_setF_other _ _ _ _ _ _ (by decide), State.showPlan_dacTest]
    exact State.fld_setF_same (s.takeUp h) _ 0 0

/-! ### ACQ_STOP (R132) -/

/-- The first request that the acquisition end, with no switch that waits. -/
theorem State.acqEnd_first (st det : Nat) (k : Option Nat) (hr : s.acq.run.isSome = true) (he : s.acq.ending = none) (hw : s.acq.sw = none) :
    s.acqEnd st det k =
      { s with acq := { s.acq with sw := none, ending := some ⟨st, det, k.toList, s.tick⟩ } }.setF Reg.PRB_STATE_STATE prbStopping := by
  unfold State.acqEnd
  rw [if_neg (by simpa [Option.isSome_iff_ne_none] using hr)]
  simp only [he, hw]

theorem State.unqueueStart_none (hq : s.acq.queued = none) : s.unqueueStart = s := by
  unfold State.unqueueStart
  rw [hq]

/-- ACQ_STOP that names the running acquisition. -/
theorem exec_acqStop_running {h : Fin 256} {x y : Handle} (hc : s.cmd? h.val 0x13 = some x) (hn : s.named (x.p 0) = some y) (ho : y.op = 0x12)
    (hd : y.done = false) (hq : s.acq.queued = none) (hh : s.acq.handle = some y.idx) :
    exec (.acqStop h) s = .next ((s.takeUp h.val).acqEnd stAborted 1 (some h.val)) := by
  have hu : (s.takeUp h.val).unqueueStart = s.takeUp h.val := State.unqueueStart_none (by simp [hq])
  simp [exec, execAcqStop, hc, hn, ho, hd, hq, hh, hu]

theorem exec_acqStop_stale {h : Fin 256} {x : Handle} (hc : s.cmd? h.val 0x13 = some x) (hn : s.named (x.p 0) = none) :
    exec (.acqStop h) s = .next (s.complete h.val stStale 0 0 0) := by
  simp [exec, execAcqStop, hc, hn]

/-! ### PLAN_SWITCH (R133) -/

theorem exec_planSwitch_idle {h : Fin 256} {x : Handle} (hc : s.cmd? h.val 0x14 = some x) (hr : s.acq.run = none) :
    exec (.planSwitch h) s = .next (s.complete h.val stNotReady 6 0 0) := by
  simp [exec, execPlanSwitch, hc, hr]

theorem State.run_of_runsPlan {id : Nat} (h : s.runsPlan id = true) : s.acq.run ≠ none := by
  intro e
  simp [State.runsPlan, e] at h

theorem exec_planSwitch_same {h : Fin 256} {x : Handle} (hc : s.cmd? h.val 0x14 = some x) (he : s.acq.ending = none)
    (hp : s.runsPlan (x.p 0) = true) : exec (.planSwitch h) s = .next (s.complete h.val stOk 0 (x.p 0) 0) := by
  simp [exec, execPlanSwitch, hc, State.run_of_runsPlan hp, he, hp]

/-- PLAN_SWITCH after frame 0 to another plan that passes every check: it waits for the end of the frame. -/
theorem exec_planSwitch_waits {h : Fin 256} {x : Handle} {p : Plan} (hc : s.cmd? h.val 0x14 = some x) (hr : s.acq.run.isSome = true)
    (he : s.acq.ending = none) (ho : s.runsPlan (x.p 0) = false) (hw : s.acq.sw = none) (hp : s.plan? (x.p 0) = some p) (hb : s.refBad p = none)
    (hg : s.rangeBad p = false) (hs : s.fld Reg.PRB_STATE_STATE ≠ prbStarting) :
    exec (.planSwitch h) s = .next
      ({ s.takeUp h.val with acq := { s.acq with sw := some ⟨h.val, x.p 0, p, false⟩ } }.setF Reg.PRB_STATE_STATE prbSwitching) := by
  have hst : ({ s.takeUp h.val with acq := { s.acq with sw := some ⟨h.val, x.p 0, p, false⟩ } } : State).fld Reg.PRB_STATE_STATE ≠ prbStarting := by
    exact fun e => hs ((State.takeUp_fld s h.val ⟨.inr (by decide), .inr (by decide)⟩).symm.trans e)
  have hn : s.acq.run.isNone = false := by simpa using hr
  simp only [exec, execPlanSwitch, hc, hn, he, ho, hw, hp, hb, hg, Option.isSome_none, Bool.or_self, Bool.false_eq_true, if_false]
  exact congrArg Host.Outcome.next (if_neg hst)

/-! ### Settled -/

/-- Settles O14, clause by clause from what each command does. -/
theorem acquisitionCommands : Obligations.AcquisitionCommands := by
  unfold Obligations.AcquisitionCommands
  refine ⟨?_, ?_, ?_, ?_, ?_, ?_⟩
  · intro s h x hc hr
    refine ⟨fun p hb hp hring hd => ?_, fun st det r0 hb => Ends.of_exec ?_⟩
    · obtain ⟨t, ht, hs⟩ := State.acqBegin_plain h.val (x.p 0) p hd
      refine ⟨t, ?_, hs⟩
      rw [exec_acqStart_idle hc hr, ← ht, hring]
      simp only [State.acqStart, ← hring, hb, hp]
    · rw [exec_acqStart_idle hc hr, State.acqStart, hb]
  · intro s h x r hc hr he
    exact Ends.of_exec (exec_acqStart_busy hc hr he)
  · intro s h x y hc hn ho hd hq hh hr he hw
    refine ⟨_, exec_acqStop_running hc hn ho hd hq hh, ?_⟩
    rw [State.acqEnd_first _ _ _ (by simpa using hr) (by simpa using he) (by simpa using hw)]
    exact ⟨by simp, State.fld_setF_same _ _ _ _, by simp, fun hs => by simp [State.takeUp_mem, hs]⟩
  · intro s h x hc hn
    exact Ends.of_exec (exec_acqStop_stale hc hn)
  · intro s h x p hc hr he ho hw hp hb hg hs
    refine ⟨_, exec_planSwitch_waits hc hr he ho hw hp hb hg hs, ?_⟩
    exact ⟨rfl, State.fld_setF_same _ _ _ _, rfl, fun ha => by simp [State.takeUp_mem, ha]⟩
  · intro s h x hc
    exact ⟨fun hr => Ends.of_exec (exec_planSwitch_idle hc hr), fun he hp => Ends.of_exec (exec_planSwitch_same hc he hp)⟩

end Sys2Proof.Machine
end

section
/-! SUPPORT. The delivery of stream blocks (O20): streams and rings after a change, the buffer a ring holds, and the fill entry that returns it. -/

namespace Sys2Proof.Machine

variable {s t : State}

/-! ### Streams and rings -/

theorem State.stream?_id {id : Nat} {st : Stream} (h : s.stream? id = some st) : st.id = id := by
  simpa using List.find?_some h

theorem State.stream?_congr (h : t.red = s.red) (id : Nat) : t.stream? id = s.stream? id := by
  rw [State.stream?, State.stream?, h]

/-- The stream of an ID after a change that keeps the IDs. -/
theorem State.stream?_updStream {id : Nat} {st : Stream} {f : Stream → Stream} (hf : ∀ y, (f y).id = y.id) (h : s.stream? id = some st) :
    (s.updStream id f).stream? id = some (f st) := find?_map_key (key := Stream.id) hf h

theorem Stream.closeBlock_id (st : Stream) : st.closeBlock.id = st.id := by
  unfold Stream.closeBlock
  split <;> rfl

theorem State.sr_congr (h : t.hq.srs = s.hq.srs) (r : Nat) : t.sr r = s.sr r := by
  rw [State.sr, State.sr, h]

/-- The ring changed is the ring before it, changed. -/
@[simp] theorem State.sr_updSr (r : Fin 8) (f : SrState → SrState) : (s.updSr r f).sr r = f (s.sr r) := by
  simp [State.sr, State.updSr, vmod_getD, r.isLt]

@[simp] theorem State.signal_srs (v : Nat) : (s.signal v).hq.srs = s.hq.srs := by
  unfold State.signal
  (repeat' split) <;> rfl

@[simp] theorem State.ringWrote_srs (n : Nat) (u : Bool) : (s.ringWrote n u).hq.srs = s.hq.srs := by
  unfold State.ringWrote
  extract_lets irq cnt tim vec k hq0 v
  have hv : v.hq = s.hq := by
    simp only [v]
    split <;> rfl
  split
  · rfl
  · split
    · exact State.signal_srs _
    · show v.hq.srs = s.hq.srs
      rw [hv]

/-! ### The buffer a ring holds (R101, R103) -/

/-- While a ring holds a buffer, no posted one is returned or taken. -/
theorem State.returnBad_held {r n : Nat} (h : (s.sr r).cur.isSome = true) : s.returnBad r n = s := by
  cases n with
  | zero => rfl
  | succ n =>
    unfold State.returnBad
    dsimp only
    split
    · rfl
    · rw [if_pos (by simp [h])]

theorem State.takeBuf_held {r : Nat} {c : CurBuf} (h : (s.sr r).cur = some c) : s.takeBuf r = s := by
  unfold State.takeBuf
  rw [State.returnBad_held (by simp [h])]
  simp only [h]

theorem State.deliverRing_fits {r n : Nat} {bs : List Byte} {c : CurBuf} (he : s.on Reg.SR_CFG_EN r = true) (hn : s.engineOn r 4 = true)
    (hp : s.canPut = true) (hb : s.on Reg.SR_STATUS_BUF_ERR r = false) (hc : (s.sr r).cur = some c) (hl : c.bytes + n ≤ c.buf.len) :
    s.deliverRing r n bs = (s.ringWrite r c bs, true) := by
  simp [State.deliverRing, he, hn, hp, hb, hc, hl, State.takeBuf_held hc]

theorem State.deliverRing_off {r n : Nat} {bs : List Byte} (he : s.on Reg.SR_CFG_EN r = false) : s.deliverRing r n bs = (s, false) := by
  simp [State.deliverRing, he]

/-- A block written into the buffer over the link. -/
theorem State.ringWrite_host (r : Fin 8) (c : CurBuf) (bs : List Byte) (hs : s.pw.standalone = false) (hl : s.linkOk = true) :
    let t := s.ringWrite r c bs
    t.hostOut = s.hostOut ++ [⟨c.buf.addr + c.bytes, bs, s.on Reg.HQE_CTL_RO_STREAM && s.hostRo⟩] ∧
      (t.sr r).cur = some { c with bytes := c.bytes + bs.length, blocks := c.blocks + 1 } ∧ t.red = s.red ∧ t.regs = s.regs ∧ t.mem = s.mem := by
  have hlt : (s.timerStart (.flush r)).linkOk = true := hl
  unfold State.ringWrite
  refine ⟨?_, by rw [State.sr_updSr], ?_⟩
  all_goals split <;> simp [State.updSr, State.hostPutRo, hs, hl, hlt]

/-! ### Blocks delivered and lost (R21, R104) -/

/-- The oldest block of a stream, which owes no grooming, leaves it. -/
theorem exec_streamBlockComplete {id : BitVec 16} {st : Stream} {b : SBlock} {bs : List SBlock} (hid : id ≠ 0) (h : s.stream? id.toNat = some st)
    (hr : st.ready = b :: bs) (hg : st.owesGroom b = false) :
    exec (.streamBlockComplete id) s = .next ((s.updStream id.toNat (fun y => { y with ready := bs })).deliver st b) := by
  rw [exec, execStreamBlockComplete, if_neg hid, State.deliverFirst]
  simp only [h, hr, hg, Bool.false_eq_true, if_false]

/-- A block that fits the buffer its ring holds is written there, and counted for its stream. -/
theorem State.deliver_held {id : Nat} {st st' : Stream} {b : SBlock} {r : Fin 8} {c : CurBuf} (hid : st.id = id) (hd : st.dest = .ring r)
    (hst : s.stream? id = some st')
    (he : s.on Reg.SR_CFG_EN r = true) (hn : s.engineOn r 4 = true) (hs : s.pw.standalone = false) (hl : s.linkOk = true)
    (hb : s.on Reg.SR_STATUS_BUF_ERR r = false) (hc : (s.sr r).cur = some c) (hfit : c.bytes + (b.bytes st.ovf).length ≤ c.buf.len) :
    let t := s.deliver st b
    t.hostOut = s.hostOut ++ [⟨c.buf.addr + c.bytes, b.bytes st.ovf, s.on Reg.HQE_CTL_RO_STREAM && s.hostRo⟩] ∧
      (t.sr r).cur = some { c with bytes := c.bytes + (b.bytes st.ovf).length, blocks := c.blocks + 1 } ∧
      t.stream? id = some { st' with ovf := false, delivered := st'.delivered + 1 } ∧ t.regs = s.regs ∧ t.mem = s.mem := by
  subst hid
  intro t
  have hp : s.canPut = true := by rw [State.canPut, hl, Bool.or_true]
  have ht : t = ((s.ringWrite r c (b.bytes st.ovf)).timersStart (st.handle.toList.map .handle)).updStream st.id
      (fun y => { y with ovf := false, delivered := y.delivered + 1 }) := by
    simp [t, State.deliver, hd, State.deliverRing_fits he hn hp hb hc hfit]
  obtain ⟨hout, hcur, hred, hregs, hmem⟩ := State.ringWrite_host r c (b.bytes st.ovf) hs hl
  rw [ht]
  refine ⟨?_, ?_, State.stream?_updStream (st := st') (fun _ => rfl) ?_, ?_, ?_⟩
  · exact (State.timersStart_hostOut _ _).trans hout
  · rw [State.sr_congr (t := State.updStream _ _ _) (congrArg Hqe.srs (State.timersStart_hq _ _)), hcur]
  · rw [State.stream?_congr ((State.timersStart_red _ _).trans hred), hst]
  · exact (State.timersStart_regs _ _).trans hregs
  · exact (State.timersStart_mem _ _).trans hmem

/-- A block lost at a ring: counted there, and for its stream. -/
theorem State.lose_ring {st : Stream} {r : Fin 8} (hd : st.dest = .ring r) :
    s.lose st = (((s.updStream st.id (fun y => { y with ovf := true, discarded := y.discarded + 1 })).incF Reg.SR_DROP r).updSr r
      (fun y => { y with drop := true })) := by
  simp [State.lose, hd]

/-- A block for a ring that is off is lost: counted at the ring and for its stream. -/
theorem State.deliver_off {id : Nat} {st st' : Stream} {b : SBlock} {r : Fin 8} (hid : st.id = id) (hd : st.dest = .ring r)
    (hst : s.stream? id = some st')
    (he : s.on Reg.SR_CFG_EN r = false) :
    let t := s.deliver st b
    t.hostOut = s.hostOut ∧ t.fld Reg.SR_DROP r = (s.fld Reg.SR_DROP r + 1) % 2 ^ 32 ∧
      t.stream? id = some { st' with ovf := true, discarded := st'.discarded + 1 } ∧ (t.sr r).drop = true ∧
      SameRegs [Reg.SR_DROP.key r] s t ∧ t.mem = s.mem := by
  subst hid
  intro t
  have ht : t = (((s.updStream st.id (fun y => { y with ovf := true, discarded := y.discarded + 1 })).incF Reg.SR_DROP r).updSr r
      (fun y => { y with drop := true })) := by
    simp [t, State.deliver, hd, State.deliverRing_off he, State.lose_ring hd]
  rw [ht]
  refine ⟨rfl, State.fld_setF_same _ _ _ _, State.stream?_updStream (f := fun y => { y with ovf := true, discarded := y.discarded + 1 })
    (fun _ => rfl) hst, by rw [State.sr_updSr], ?_, rfl⟩
  exact ((SameRegs.of_eq rfl).setF (F := Reg.SR_DROP) (i := r.val) List.mem_cons_self).of_eq_right rfl

/-! ### Fill entries (R92, R102, R497) -/

theorem ringSize_le {l mx : Nat} (h : 4 ≤ mx) : ringSize l mx ≤ 2 ^ mx := by
  unfold ringSize
  split
  · rename_i hl
    exact Nat.pow_le_pow_right (by decide) hl.2
  · exact Nat.pow_le_pow_right (n := 2) (by decide) h

theorem ringSize_pos (l mx : Nat) : 0 < ringSize l mx := by
  unfold ringSize
  split
  · exact Nat.two_pow_pos _
  · decide

/-- An index of a stream ring fits FILL_TAIL. -/
theorem State.srIndex_lt (r n : Nat) : n % s.srSize r < 2 ^ 12 :=
  (Nat.mod_lt _ (ringSize_pos _ _)).trans_le (ringSize_le (by decide))

/-- The two writes of a fill entry. -/
def State.fillWrites (s : State) (r : Nat) (f : FillRet) : List HostWrite :=
  let at_ := s.ringBase (Reg.SR_FILL_BASE_LO.addr r) + 16 * s.fld Reg.SR_STATUS_FILL_TAIL r
  [⟨at_, leBytes 4 f.cookie ++ leBytes 4 f.bytes ++ leBytes 2 f.blocks ++ leBytes 1 f.status ++ leBytes 1 (b2n (s.sr r).drop), false⟩,
    ⟨at_ + 12, leBytes 2 (s.sr r).streamId ++ leBytes 1 0 ++ leBytes 1 ((s.sr r).phase * 128), false⟩]

theorem State.hostPut_host (a : Nat) (bs : List Byte) (hs : s.pw.standalone = false) (hl : s.linkOk = true) :
    s.hostPut a bs = { s with hostOut := s.hostOut ++ [⟨a, bs, false⟩] } := by
  simp [State.hostPut, State.hostPutRo, hs, hl]

/-- A fill entry written over the link. -/
theorem State.fillPut_host (r : Fin 8) (f : FillRet) (hs : s.pw.standalone = false) (hl : s.linkOk = true) :
    let t := s.fillPut r f
    t.hostOut = s.hostOut ++ s.fillWrites r f ∧ t.fld Reg.SR_STATUS_FILL_TAIL r = (s.fld Reg.SR_STATUS_FILL_TAIL r + 1) % s.srSize r ∧
      (t.sr r).cur = (s.sr r).cur ∧ (t.sr r).ret = none ∧ (t.sr r).bufs = (s.sr r).bufs ∧ t.red = s.red ∧ t.mem = s.mem := by
  unfold State.fillPut
  extract_lets a x base a' hd tl u v t
  have hu : u = { s with hostOut := s.hostOut ++ s.fillWrites r f } := by
    simp only [u]
    rw [State.hostPut_host _ _ hs hl, State.hostPut_host _ _ (by exact hs) (by exact hl)]
    simp only [List.append_assoc]
    rfl
  have hsr : t.sr r = v.sr r := State.sr_congr (State.ringWrote_srs _ _) _
  have hrs : (u.setF Reg.SR_STATUS_FILL_TAIL a' r).sr r = s.sr r := State.sr_congr (by rw [State.setF_hq, hu]) _
  rw [State.sr_updSr, hrs] at hsr
  refine ⟨?_, ?_, by rw [hsr], by rw [hsr], by rw [hsr], ?_, ?_⟩
  · rw [State.ringWrote_hostOut]
    show u.hostOut = _
    rw [hu]
  · rw [State.ringWrote_fld]
    exact (State.fld_setF_same u _ _ _).trans (Nat.mod_eq_of_lt (State.srIndex_lt _ _))
  · rw [State.ringWrote_red]
    show u.red = s.red
    rw [hu]
  · rw [State.ringWrote_mem]
    show u.mem = s.mem
    rw [hu]

/-- With no posted buffer behind it, the buffer a ring holds is returned by its fill entry alone. -/
theorem State.returnCur_open {r : Fin 8} {c : CurBuf} (st : Nat) (hc : (s.sr r).cur = some c) (hb : (s.sr r).bufs = []) (ho : s.fillOpen r = true) :
    s.returnCur r st = (s.updSr r (fun y => { y with cur := none })).fillPut r ⟨c.buf.cookie, c.bytes, c.blocks, st⟩ := by
  have hf : (s.updSr r (fun y => { y with cur := none })).fillFull r = s.fillFull r := by
    simp only [State.fillFull, State.sr_updSr]
    rfl
  have ho' : (s.updSr r (fun y => { y with cur := none })).fillOpen r = true := by
    rw [← ho, State.fillOpen, State.fillOpen, hf]
    rfl
  simp only [State.returnCur, hc, hb, List.length_nil, State.returnBad, State.returnBuf, ho', if_true]

theorem exec_srFlushTimer_due {r : Fin 8} {c : CurBuf} (hc : (s.sr r).cur = some c) (hn : c.bytes ≠ 0)
    (ht : s.timerDue (.flush r) (ticksUs (max 10 (s.fld Reg.SR_FLUSH r))) = true) :
    exec (.srFlushTimer r) s = .next (s.returnCur r stPartial) := by
  simp [exec, execSrFlushTimer, hc, hn, ht]

/-- A return that waited is written; with no stream and no posted buffer nothing follows it. -/
theorem exec_pendingReturnWrite_open {r : Fin 8} {f : FillRet} (hf : (s.sr r).ret = some f) (ho : s.fillOpen r = true)
    (hs : s.pw.standalone = false) (hl : s.linkOk = true) (hr : s.red.streams = []) (hb : (s.sr r).bufs = []) :
    exec (.pendingReturnWrite r) s = .next (s.fillPut r f) := by
  obtain ⟨-, -, -, -, hbufs, hred, -⟩ := State.fillPut_host r f hs hl
  simp only [exec, execPendingReturnWrite, hf, ho, Bool.not_true, Bool.false_eq_true, if_false, hred, hr, List.find?_nil, hbufs, hb,
    List.length_nil, State.returnBad]

/-! ### Settled -/

/-- Settles O20, clause by clause: delivery into the held buffer or the loss at a ring that is off, the open block that closes, the buffer returned PARTIAL, and the return that waited. -/
theorem streamDelivery : Obligations.StreamDelivery := by
  unfold Obligations.StreamDelivery
  refine ⟨?_, ?_, ?_, ?_⟩
  · intro s id st b bs r hid hst hready hg hd
    have hu : (s.updStream id.toNat (fun y => { y with ready := bs })).stream? id.toNat = some { st with ready := bs } :=
      State.stream?_updStream (fun _ => rfl) hst
    have hst_id := State.stream?_id hst
    have hex := exec_streamBlockComplete hid hst hready hg
    exact ⟨fun c he hn hs hl _ hb hc hfit => ⟨_, hex, State.deliver_held hst_id hd hu he hn hs hl hb hc hfit⟩,
      fun he => ⟨_, hex, State.deliver_off hst_id hd hu he⟩⟩
  · intro s id st hst ht
    refine ⟨s.updStream id.toNat Stream.closeBlock, ?_, State.stream?_updStream Stream.closeBlock_id hst, rfl⟩
    rw [exec, execBlockCloseTimer, if_pos ht]
  · intro s r c hc hn hb ho hl hs ht
    obtain ⟨hout, htail, hcur, -, -, -, hmem⟩ :=
      State.fillPut_host (s := s.updSr r (fun y => { y with cur := none })) r ⟨c.buf.cookie, c.bytes, c.blocks, stPartial⟩ hs hl
    refine ⟨_, (exec_srFlushTimer_due hc hn ht).trans (congrArg _ (State.returnCur_open _ hc hb ho)), ?_, htail, ?_, hmem⟩
    · rw [hcur, State.sr_updSr]
    · rw [hout, State.fillWrites, State.sr_updSr]
      rfl
  · intro s r f hf ho hl hs hr hb
    obtain ⟨hout, htail, -, hret, -, -, hmem⟩ := State.fillPut_host r f hs hl
    exact ⟨_, exec_pendingReturnWrite_open hf ho hs hl hr hb, hret, htail, by rw [hout, List.length_append]; rfl, hmem⟩

end Sys2Proof.Machine
end

section
/-! SUPPORT. The size of a chunk (O26): the bytes of elements, the padding, and the header. -/

namespace Sys2Proof.Machine

/-- Padding reaches the next multiple. -/
theorem padTo_length {m : Nat} (hm : 0 < m) (bs : List Byte) :
    (padTo m bs).length % m = 0 ∧ (padTo m bs).length < bs.length + m := by
  have hr := Nat.mod_lt bs.length hm
  have hlen : (padTo m bs).length = bs.length + (m - bs.length % m) % m := by simp [padTo, zeros]
  rw [hlen]
  refine ⟨?_, by have := Nat.mod_lt (m - bs.length % m) hm; omega⟩
  rw [Nat.add_mod_mod]
  have e : bs.length + (m - bs.length % m) = m * (bs.length / m + 1) := by
    have := Nat.div_add_mod bs.length m
    rw [Nat.mul_add]
    omega
  rw [e, Nat.mul_mod_right]

theorem elemBytesOf_length (elem : Nat) (xs : List Int) : (elemBytesOf elem xs).length = xs.length * elemBytes elem := by
  induction xs with
  | nil => simp [elemBytesOf]
  | cons x xs ih =>
    simp only [elemBytesOf, List.map_cons, List.flatten_cons, List.length_append, leBytes_length, List.length_cons] at ih ⊢
    rw [ih, Nat.succ_mul, Nat.add_comm]

theorem elemsOf_length (elem : Nat) (bs : List Byte) : (elemsOf elem bs).length = bs.length / elemBytes elem := by
  simp [elemsOf]

/-- The quantiser gives one value for each it takes. -/
theorem quantRun_length (elem k : Nat) (fb : Bool) (stride : Nat) (xs eps : List Int) :
    (quantRun elem k fb stride xs eps).1.length = xs.length := by
  have fold (f : List Int × List Int × Array Int → Int × Nat → List Int × List Int × Array Int)
      (hf : ∀ acc x, (f acc x).1.length = acc.1.length + 1) (l : List (Int × Nat)) (acc) :
      (l.foldl f acc).1.length = acc.1.length + l.length := by
    induction l generalizing acc with
    | nil => rfl
    | cons x l ih => rw [List.foldl_cons, ih, hf, List.length_cons]; omega
  unfold quantRun
  simp only [List.length_reverse]
  rw [fold _ (fun _ _ => rfl), List.length_zipIdx]
  simp

/-- A chunk is its 20-byte header and a payload of whole words, no longer than its input stored (R235, R237). -/
theorem encodeChunk_length (f : ChunkFmt) (indep : Bool) (hist q : List Int) (base a n : Nat) :
    let c := (encodeChunk f indep hist q base a n).bytes.length
    20 ≤ c ∧ c % 4 = 0 ∧ c < 20 + q.length * elemBytes f.elem + 4 := by
  unfold encodeChunk
  extract_lets all u per c inBytes coded stored pay head len
  have hpay : pay.length % 4 = 0 ∧ pay.length < inBytes + 4 := by
    simp only [pay]
    split
    · have h := padTo_length (m := 4) (by decide) (elemBytesOf f.elem q)
      rwa [elemBytesOf_length] at h
    · rename_i hs
      have h : coded.length < inBytes := by simpa [stored] using hs
      exact ⟨(padTo_length (by decide) _).1, by omega⟩
  have hlen : len = 20 + pay.length := by
    simp only [len, head, List.length_append, leBytes_length]
  have hin : inBytes = q.length * elemBytes f.elem := rfl
  omega

end Sys2Proof.Machine
end

section
/-! SUPPORT. Groomer jobs (O26): what a job that ends leaves, the output space a chunk meets, and the last chunk of a compress job. -/

namespace Sys2Proof.Machine

variable {s t : State}

/-! ### Slots and jobs (R244, R246) -/

/-- Bits put in a word read back. -/
theorem putBits_bits (x lsb w v : Nat) (hw : 0 < w) : putBits x (lsb + w - 1) lsb v / 2 ^ lsb % 2 ^ w = v % 2 ^ w := by
  have e1 : lsb + w - 1 + 1 = lsb + w := by omega
  have e2 : lsb + w - lsb = w := by omega
  have hx : x % 2 ^ lsb < 2 ^ lsb := Nat.mod_lt _ (Nat.two_pow_pos _)
  rw [putBits, e1, e2, Nat.pow_add]
  have e : x / (2 ^ lsb * 2 ^ w) * (2 ^ lsb * 2 ^ w) + v % 2 ^ w * 2 ^ lsb + x % 2 ^ lsb =
      x % 2 ^ lsb + 2 ^ lsb * (v % 2 ^ w + 2 ^ w * (x / (2 ^ lsb * 2 ^ w))) := by ring
  rw [e, Nat.add_mul_div_left _ _ (Nat.two_pow_pos _), Nat.div_eq_of_lt hx, Nat.zero_add, Nat.add_mul_mod_self_left, Nat.mod_mod]

/-- The state of a slot set reads back. -/
theorem State.slotState_setSlot (i v : Nat) (hv : v < 4) : (s.setSlot i v).slotState i = v := by
  have hk : 2 * (i % 16) + 2 ≤ 32 := by omega
  have h4 : 4 ^ (i % 16) = 2 ^ (2 * (i % 16)) := by rw [Nat.pow_mul]
  have h32 : (2 : Nat) ^ Reg.GRM_SLOT_STATE.width = 2 ^ (2 * (i % 16)) * 2 ^ (32 - 2 * (i % 16)) := by
    rw [← Nat.pow_add]
    congr 1
    show 32 = _
    omega
  have hd : (4 : Nat) ∣ 2 ^ (32 - 2 * (i % 16)) := Nat.pow_dvd_pow 2 (m := 2) (by omega)
  rw [State.slotState, State.setSlot, State.fld_setF_same, h4, h32, Nat.mod_mul_right_div_self, Nat.mod_mod_of_dvd _ hd]
  exact (putBits_bits _ _ 2 v (by decide)).trans (Nat.mod_eq_of_lt hv)

/-- A slot's state lies in the words of GRM_SLOT_STATE. -/
theorem State.slotState_congr {i : Nat} (h : t.fld Reg.GRM_SLOT_STATE (i / 16) = s.fld Reg.GRM_SLOT_STATE (i / 16)) : t.slotState i = s.slotState i := by
  rw [State.slotState, State.slotState, h]

theorem slotWord_spares {n : Nat} (hn : n < 4) : s.spares (Reg.GRM_SLOT_STATE.key n) := by
  have h : ∀ n < 4, 0x400000 ≤ Reg.GRM_SLOT_STATE.key n ∧ Reg.GRM_SLOT_STATE.key n ∉ Field.memCounts := by decide
  exact ⟨.inr (h n hn).1, .inr (h n hn).2⟩

/-- Instances taken leave every job its handle. -/
theorem grmAssign_handles (js : List GJob) (busy : List Nat) : (grmAssign js busy).map (·.handle) = js.map (·.handle) := by
  induction js generalizing busy with
  | nil => rfl
  | cons j js ih =>
    unfold grmAssign
    split
    · simp [ih]
    · split
      · simp [ih]
      · split <;> simp [ih]

theorem State.job?_eq_none {h : Nat} : s.job? h = none ↔ h ∉ s.grm.jobs.map (·.handle) := by
  simp [State.job?, List.find?_eq_none]

theorem State.job?_handle {h : Nat} {j : GJob} (hj : s.job? h = some j) : j.handle = h := by
  simpa using List.find?_some hj

theorem State.grmShow_slotState {i : Nat} (hi : i < 64) : s.grmShow.slotState i = s.slotState i := by
  have hk : ∀ n < 4, Reg.GRM_STATUS_JOBS.key 0 ≠ Reg.GRM_SLOT_STATE.key n := by decide
  exact State.slotState_congr (State.fld_setF_other _ _ _ _ _ _ (hk _ (by omega)))

theorem State.complete_slotState {i : Nat} (hi : i < 64) (h st det a b : Nat) : (s.complete h st det a b).slotState i = s.slotState i :=
  State.slotState_congr (State.complete_fld _ _ _ _ _ _ (slotWord_spares (by omega)))

/-- A job that ends leaves the groomer, its handle ended and its slot in the state given. -/
theorem State.jobEnd_leaves (j : GJob) {v : Nat} (hv : v < 4) (st det a b : Nat) :
    let t := s.jobEnd j v st det a b
    t.job? j.handle = none ∧ t.ended j.handle ∧ (s.pw.standalone = false → t.mem = s.mem) ∧ (∀ k, j.slot = some k → k < 64 → t.slotState k = v) := by
  unfold State.jobEnd
  extract_lets q gone slotted t
  have hpw : slotted.grmShow.pw = s.pw := by
    simp only [slotted]
    cases j.slot <;> rfl
  have hmem : slotted.grmShow.mem = s.mem := by
    simp only [slotted]
    cases j.slot <;> rfl
  have hgrm : slotted.grm = gone.grm := by
    simp only [slotted]
    cases j.slot <;> rfl
  refine ⟨?_, State.complete_ended _ _ _ _ _, fun hs => ?_, fun k hk hlt => ?_⟩
  · rw [State.job?_eq_none, State.complete_grm]
    show _ ∉ (grmAssign slotted.grm.jobs _).map _
    rw [grmAssign_handles, hgrm]
    simp [gone, State.turnLeave]
  · rw [State.complete_mem _ _ _ _ _ (hpw ▸ hs), hmem]
  · rw [State.complete_slotState hlt, State.grmShow_slotState hlt]
    simp only [slotted, hk]
    exact State.slotState_setSlot k v hv

/-! ### The output space (R303, R309) -/

/-- What decides whether the internal map takes bytes is the same: the power domain, the memory controller, and the fields of the space. -/
def SameMap (s t : State) : Prop :=
  t.pw = s.pw ∧ t.mc = s.mc ∧ t.fld Reg.MEM_SIZE = s.fld Reg.MEM_SIZE ∧ t.fld Reg.PWR_ISL_RST = s.fld Reg.PWR_ISL_RST ∧
    t.fld Reg.MEM_STATUS_INTLV = s.fld Reg.MEM_STATUS_INTLV

theorem SameMap.of_regs (hp : t.pw = s.pw) (hm : t.mc = s.mc) (hr : t.regs = s.regs) : SameMap s t :=
  ⟨hp, hm, State.fld_congr _ _ hr, State.fld_congr _ _ hr, State.fld_congr _ _ hr⟩

theorem SameMap.refl (s : State) : SameMap s s := .of_regs rfl rfl rfl

theorem SameMap.trans {u : State} (h : SameMap s t) (k : SameMap t u) : SameMap s u := by
  obtain ⟨h1, h2, h3, h4, h5⟩ := h
  obtain ⟨k1, k2, k3, k4, k5⟩ := k
  exact ⟨k1.trans h1, k2.trans h2, k3.trans h3, k4.trans h4, k5.trans h5⟩

theorem State.linesRead_fld (o n : Nat) {G : Field} {j : Nat} (hG : G.key j ∉ Field.memCounts) : (s.linesRead o n).fld G j = s.fld G j := by
  refine State.fld_fold2 s _ fun s c hc => ?_
  dsimp only
  split
  · rfl
  · have k : c = 0 ∨ c = 1 := by omega
    rw [State.addF_eq, State.fld_setF_mem _ _ _ hG (by rcases k with rfl | rfl <;> decide), State.memCount_fld _ hc _ _ hG]

theorem SameMap.linesRead (o n : Nat) : SameMap s (s.linesRead o n) :=
  ⟨by simp, by simp, State.linesRead_fld _ _ (by decide), State.linesRead_fld _ _ (by decide), State.linesRead_fld _ _ (by decide)⟩

theorem SameMap.intRead (a n : Nat) : SameMap s (s.intRead a n).2 := by
  unfold State.intRead
  split
  · exact .refl s
  · split
    · exact .refl s
    · split
      · exact .linesRead _ _
      · split <;> exact .refl s

theorem SameMap.readSegs (segs : List (Nat × Nat)) (d : HostData) : SameMap s (s.readSegs segs d).2 := by
  have fold (l : List (Nat × Nat)) (f : HostData × State → Nat × Nat → HostData × State) (hf : ∀ a x, SameMap a.2 (f a x).2) (a : HostData × State) :
      SameMap a.2 (l.foldl f a).2 := by
    induction l generalizing a with
    | nil => exact .refl a.2
    | cons x l ih => exact (hf a x).trans (ih (f a x))
  unfold State.readSegs
  split
  · exact .refl s
  · refine fold _ _ (fun a x => ?_) (.ok [], s)
    have h : SameMap a.2 (a.2.intRead x.1 x.2).2 := .intRead _ _
    split
    · split
      · rename_i e
        rwa [e] at h
      · exact h
    · exact .refl a.2

theorem SameMap.chunkIn (j : GJob) (d : HostData) : SameMap s (s.chunkIn j d).2 := by
  unfold State.chunkIn
  dsimp only
  split
  · exact .refl s
  · split
    · exact .readSegs _ _
    · have h : SameMap s (s.readSegs (takeSegs (dropSegs j.ins j.inDone) 20) d).2 := .readSegs _ _
      split
      · rename_i e
        rw [e] at h
        exact h.trans (.readSegs _ _)
      · exact h

/-- The map takes the same part of a buffer. -/
theorem SameMap.clipBuffer (h : SameMap s t) (b : Buffer) : t.clipBuffer b = s.clipBuffer b := by
  obtain ⟨hpw, hmc, hsize, hisl, hintlv⟩ := h
  have hch (c : Nat) : t.chBytes c = s.chBytes c := by rw [State.chBytes, State.chBytes, hmc]
  have hspace : t.spaceBytes = s.spaceBytes := by rw [State.spaceBytes, State.spaceBytes, hsize]
  have hon : t.on Reg.MEM_STATUS_INTLV = s.on Reg.MEM_STATUS_INTLV := by rw [State.on, State.on, hintlv]
  have hchan : t.chanOf = s.chanOf := by
    funext o
    simp only [State.chanOf, hon, hch]
  have hready : t.memReady = s.memReady := by
    simp only [State.memReady, State.runs, State.islUp, State.awake, State.memCredit, hpw, hmc, hisl, hchan]
  have hmap : t.mapped = s.mapped := by
    funext a n
    simp only [State.mapped, hspace]
  have hint : t.intReady = s.intReady := by
    funext a
    simp only [State.intReady, hready]
  simp only [State.clipBuffer, hpw, hmap, hint]

/-! ### Chunks of a job (R242, R243) -/

/-- A chunk that fits the output, written at the end of the input, ends the job with OK. -/
theorem State.jobWrote_last (old j : GJob) (bs : List Byte) (hfit : bs.length ≤ segsLen (s.clipBuffer (old.outs, old.outEnd)).1)
    (hl : j.left = 0) (he : j.inEnd = .whole) :
    ∃ u : State, s.jobWrote old j bs =
      u.jobStop { j with outs := dropSegs old.outs bs.length, outDone := old.outDone + bs.length, begun := true } stOk 0 := by
  unfold State.jobWrote
  extract_lets b u1 j1 u2 u3 u4
  rw [if_neg (Nat.not_lt.mpr hfit), if_pos ⟨hl, he⟩]
  exact ⟨_, rfl⟩

theorem elemBytes_pos (elem : Nat) : 0 < elemBytes elem := by
  unfold elemBytes elemW
  split <;> decide

/-- The last chunk of a compress job, with room for any chunk, ends it with OK: all its input consumed, and a header and whole words more put out. -/
theorem State.compressStep_last (j : GJob) (bs : List Byte) (hl : j.left ≤ 65536) (he : j.inEnd = .whole)
    (hroom : 65560 ≤ segsLen (s.clipBuffer (j.outs, j.outEnd)).1) :
    ∃ (u : State) (y : GJob), s.compressStep j bs = u.jobStop y stOk 0 ∧ y.handle = j.handle ∧ y.slot = j.slot ∧
      y.inDone = j.inDone + j.left ∧ j.outDone + 20 ≤ y.outDone ∧ (y.outDone - j.outDone) % 4 = 0 := by
  unfold State.compressStep
  extract_lets e len xs done at0
  have hlen : len = j.left := Nat.min_eq_right hl
  rw [if_neg (by simp [he])]
  split
  rename_i q _ eps hq
  extract_lets c j' u
  have hql : q.length * e ≤ len := by
    have hn : q.length = xs.length := by
      have := quantRun_length j.elem j.k (j.qmode == 0) j.stride xs (j.eps.rotateLeft at0)
      rwa [hq] at this
    have hx : xs.length = len / e := by
      simp only [xs, elemsOf_length, e]
      congr 1
      simp [zeros]
    rw [hn, hx]
    exact Nat.div_mul_le_self _ _
  obtain ⟨hmin, hmod, hmax⟩ := encodeChunk_length j.fmt (!j.begun) j.hist q (done - j.hist.length) j.a j.n
  have hmap : SameMap s u := by
    simp only [u]
    split
    · exact ⟨rfl, rfl, State.fld_setF_other _ _ _ _ _ _ (by decide), State.fld_setF_other _ _ _ _ _ _ (by decide),
        State.fld_setF_other _ _ _ _ _ _ (by decide)⟩
    · exact .refl s
  have hfit : c.bytes.length ≤ segsLen (u.clipBuffer (j.outs, j.outEnd)).1 := by
    rw [hmap.clipBuffer]
    have : c.bytes.length < 20 + q.length * e + 4 := hmax
    have : c.bytes.length % 4 = 0 := hmod
    omega
  obtain ⟨v, hv⟩ := State.jobWrote_last j j' c.bytes hfit (by simp only [GJob.left, j', hlen]; omega) he
  exact ⟨v, _, hv, rfl, rfl, congrArg _ hlen, Nat.add_le_add_left hmin _, by rw [Nat.add_sub_cancel_left]; exact hmod⟩

/-- A chunk of a job that runs, with its memory and, to decompress, the turn: its input bytes are read, and it goes on with them. -/
theorem exec_jobChunkDone {h : Fin 256} {j : GJob} {d r : HostData} {u : State} (hj : s.job? h.val = some j) (hi : j.inst.isSome = true)
    (hr : s.runs 6 = true) (hm : s.jobReady j = true) (ht : j.compress = true ∨ s.hasTurn h.val = true)
    (hin : (s.timerStart (.handle h.val)).chunkIn j d = (r, u)) :
    exec (.jobChunkDone h d) s = .next (u.onRead h.val r (fun st det => u.jobStop j st det)
      (fun bs => if j.compress then u.compressStep j bs else u.decompressStep j bs)) := by
  have hn : j.inst.isNone = false := by simpa using hi
  have hc : (!j.compress && !s.hasTurn h.val) = false := by
    rcases ht with ht | ht <;> simp [ht]
  simp only [exec, execJobChunkDone, hj, hn, hr, hm, hc, hin, Bool.not_true, Bool.or_self, Bool.false_eq_true, if_false]

/-! ### Groomed blocks (R239, R240) -/

theorem Stream.groomRank_lt (st : Stream) : st.groomRank < 13 := by
  unfold Stream.groomRank
  split <;> omega

/-- A lone stream with a block that owes grooming is the next one. -/
theorem State.nextGroom_lone {st : Stream} (hs : s.red.streams = [st]) (ho : st.ready.any (fun b => st.owesGroom b) = true) :
    s.nextGroom = some st := by
  cases e : s.nextGroom with
  | none =>
    rw [State.nextGroom, List.findSome?_eq_none_iff] at e
    have := e st.groomRank (List.mem_range.mpr st.groomRank_lt)
    simp [hs, ho] at this
  | some y =>
    obtain ⟨k, -, hk⟩ := List.exists_of_findSome?_eq_some e
    have hy := List.mem_of_find?_eq_some hk
    rw [hs, List.mem_singleton] at hy
    rw [hy]

/-- A block through the groomer: only registers change, and its payload becomes a chunk only where that is shorter. -/
theorem State.groomOne_leaves (st : Stream) (b : SBlock) (hb : b.groomed = false) :
    let p := s.groomOne st b
    (∃ r, p.1 = { s with regs := r }) ∧ p.2.through = true ∧ p.2.payload.length ≤ b.payload.length ∧
      (p.2.groomed = true ↔ p.2.payload.length < b.payload.length) ∧ (p.2.groomed = false → p.2 = { b with through := true }) := by
  unfold State.groomOne
  extract_lets el f q c u p
  have hu : ∃ r, u = { s with regs := r } := State.set64_eq _ _ _ _ _
  by_cases hlt : c.bytes.length < b.payload.length
  · rw [show p = _ from if_pos hlt]
    exact ⟨regs_trans hu (State.set64_eq _ _ _ _ _), rfl, hlt.le, by simp [hlt], by simp⟩
  · rw [show p = _ from if_neg hlt]
    exact ⟨regs_trans (regs_trans hu (State.set64_eq _ _ _ _ _)) ⟨_, rfl⟩, rfl, Nat.le_refl _, by simp [hb], fun _ => rfl⟩

/-- The only stream changed. -/
theorem State.updStream_lone {st : Stream} {f : Stream → Stream} (hs : s.red.streams = [st]) : (s.updStream st.id f).red.streams = [f st] := by
  simp [State.updStream, hs]

/-- The only block of the only stream that owes grooming is groomed. -/
theorem exec_groomBlock_lone {st : Stream} {b : SBlock} (hs : s.red.streams = [st]) (hr : st.ready = [b]) (ho : st.owesGroom b = true) :
    exec (.groomBlock false) s = .next ((s.groomOne st b).1.updStream st.id
      (fun y => { y with ready := replaceFirst st (fun _ => [(s.groomOne st b).2]) y.ready })) := by
  have hn := State.nextGroom_lone hs (by simp [hr, ho])
  simp [exec, execGroomBlock, hn, hr, ho]

/-- Without the throughput for it, that block is lost, and FEED_SHORT set. -/
theorem exec_groomBlock_short {st : Stream} {b : SBlock} (hs : s.red.streams = [st]) (hr : st.ready = [b]) (ho : st.owesGroom b = true) :
    exec (.groomBlock true) s = .next (((s.updStream st.id (fun y => { y with ready := replaceFirst st (fun _ => []) y.ready })).lose st).setF
      Reg.GRM_STATUS_FEED_SHORT 1) := by
  have hn := State.nextGroom_lone hs (by simp [hr, ho])
  simp [exec, execGroomBlock, hn]

theorem ringDrop_ne_feedShort (r : Fin 8) : Reg.GRM_STATUS_FEED_SHORT.key 0 ≠ Reg.SR_DROP.key r := by
  revert r
  decide

/-! ### Settled -/

/-- Settles O26, clause by clause: the groomed block, the block lost, the last chunk, the refused read, the job that ends, and the job that waits. -/
theorem groomedChunks : Obligations.GroomedChunks := by
  unfold Obligations.GroomedChunks
  refine ⟨?_, ?_, ?_, ?_, ?_, ?_⟩
  · intro s st b hs hg hr ht hb
    have ho : st.owesGroom b = true := by simp [Stream.owesGroom, hg, ht]
    obtain ⟨⟨r, hp⟩, hthrough, hle, hiff, hsame⟩ := State.groomOne_leaves (s := s) st b hb
    have hstreams := State.updStream_lone (f := fun y => { y with ready := replaceFirst st (fun _ => [(s.groomOne st b).2]) y.ready })
      ((congrArg (fun u : State => u.red.streams) hp).trans hs)
    have hready : replaceFirst st (fun _ => [(s.groomOne st b).2]) st.ready = [(s.groomOne st b).2] := by simp [hr, replaceFirst, ho]
    rw [hready] at hstreams
    refine ⟨_, exec_groomBlock_lone hs hr ho, ?_, ?_, (s.groomOne st b).2, ?_, hstreams, hthrough, hle, hiff, hsame⟩
    · show (s.groomOne st b).1.mem = s.mem
      rw [hp]
    · show (s.groomOne st b).1.hq = s.hq
      rw [hp]
    · rw [hstreams]
      rfl
  · intro s st b r hs hg hr ht hd
    have ho : st.owesGroom b = true := by simp [Stream.owesGroom, hg, ht]
    have hready : replaceFirst st (fun _ => []) st.ready = [] := by simp [hr, replaceFirst, ho]
    have hlost := State.updStream_lone (f := fun y => { y with ready := replaceFirst st (fun _ => []) y.ready }) hs
    rw [hready] at hlost
    have hstreams := State.updStream_lone (f := fun y => { y with ovf := true, discarded := y.discarded + 1 }) hlost
    refine ⟨_, exec_groomBlock_short hs hr ho, State.fld_setF_same _ _ _ _, ?_, ?_, ?_, ?_⟩
    all_goals rw [State.lose_ring hd]
    · rw [State.fld_setF_other _ _ _ _ _ _ (ringDrop_ne_feedShort r)]
      exact State.fld_setF_same _ _ _ _
    · exact hstreams
    · have h : SameRegs [Reg.GRM_STATUS_FEED_SHORT.key 0, Reg.SR_DROP.key r] s
          (((s.updStream st.id (fun y => { y with ready := replaceFirst st (fun _ => []) y.ready })).updStream st.id
            (fun y => { y with ovf := true, discarded := y.discarded + 1 })).incF Reg.SR_DROP r) := (SameRegs.of_eq rfl).setF (by simp)
      exact (h.of_eq_right rfl).setF (by simp)
    · rfl
  · intro s h d j bs hj hi hr hm hc _ hpos hl he hroom hin
    have hmap : SameMap s ((s.timerStart (.handle h.val)).chunkIn j d).2 := SameMap.trans (.of_regs rfl rfl rfl) (.chunkIn j d)
    obtain ⟨u, y, hstep, hhandle, hslot, hdone, hout, hmod⟩ := State.compressStep_last j bs hl he (hmap.clipBuffer _ ▸ hroom)
    have hex : exec (.jobChunkDone h d) s = .next (u.jobStop y stOk 0) := by
      rw [exec_jobChunkDone hj hi hr hm (.inl hc) (Prod.ext hin rfl), State.onRead, if_pos hc, hstep]
    rw [State.job?_handle hj] at hhandle
    obtain ⟨hgone, hended, -, hfree⟩ := State.jobEnd_leaves (s := u) y (v := slotFree) (by decide) stOk 0 y.outDone y.inDone
    rw [hhandle] at hgone hended
    exact ⟨⟨u, y, hex, hhandle, hslot, hdone, hout, hmod⟩, _, hex, hgone, hended, fun k hk => hfree k (hslot.trans hk)⟩
  · intro s h j hj hi hr hm ht hs
    have hin : (s.timerStart (.handle h.val)).chunkIn j .refused = (.refused, s.timerStart (.handle h.val)) := by
      simp [State.chunkIn, hs]
    exact ⟨_, exec_jobChunkDone hj hi hr hm ht hin, rfl⟩
  · intro s j st det
    exact State.jobEnd_leaves j (by decide) st det _ _
  · intro s h d j hj hi
    exact ⟨s, by simp [exec, execJobChunkDone, hj, hi], rfl⟩

end Sys2Proof.Machine
end

section
/-! SUPPORT. References, configuration space and pins (O4): loss and return of a reference, the write of PWR_CLK_CFG, the words of the configuration header, and the boundary-scan cells. -/

namespace Sys2Proof.Machine

/-- What the loss of the selected reference leaves in `t` (R46): REF_LOST set, both locks gone, the PLLs holding over, and the memories of `s`. -/
structure LeavesRefGone (s t : State) : Prop where
  lost : t.fld Reg.PWR_STATUS_REF_LOST = 1
  refLock : t.fld Reg.PWR_STATUS_REF_LOCK = 0
  convLock : t.fld Reg.PWR_STATUS_CONV_LOCK = 0
  holdover : t.pw.holdover = true
  mem : t.mem = s.mem

/-- A configuration request reaches the function: it has one, PERST_L is high, and the link is up (R79). -/
structure Configured (s : State) : Prop where
  card : s.pw.standalone = false
  perst : s.pw.perstLow = false
  awake : s.awake = true
  linkUp : s.pw.linkUp = true

variable {s : State}

/-! ### Loss and return of a reference (R46) -/

@[simp] theorem State.setRef_regs (a b : Bool) : (s.setRef a b).regs = s.regs := rfl
@[simp] theorem State.setRef_mem (a b : Bool) : (s.setRef a b).mem = s.mem := rfl
@[simp] theorem State.setRef_fld (a b : Bool) (F : Field) (i : Nat) : (s.setRef a b).fld F i = s.fld F i := rfl
@[simp] theorem State.setRef_selected (a b l : Bool) : (s.setRef a b).selected l = s.selected l := rfl

@[simp] theorem State.setRef_awake (a b : Bool) : (s.setRef a b).awake = s.awake := by
  cases a <;> rfl

@[simp] theorem State.setRef_phase (a b : Bool) : (s.setRef a b).pw.phase = s.pw.phase := by
  cases a <;> rfl

@[simp] theorem State.setRef_pstate (a b : Bool) : (s.setRef a b).pstate = s.pstate := by
  cases a <;> rfl

theorem State.acqEnd_idle (st det : Nat) (k : Option Nat) (h : s.acq.run = none) : s.acqEnd st det k = s := by
  simp [State.acqEnd, h]

theorem State.dtsEnd_idle (st det r0 : Nat) (h : s.dts.run = none) : s.dtsEnd st det r0 = s := by
  simp [State.dtsEnd, h]

theorem State.faultEnds_idle (f : Nat) (ha : s.acq.run = none) (hd : s.dts.run = none) : s.faultEnds f = s := by
  rw [State.faultEnds, State.acqEnd_idle _ _ _ ha, State.dtsEnd_idle _ _ _ hd]

theorem State.wakeRun_of_not_watch (r : Nat) (h : s.pstate ≠ stWatch) : s.wakeRun r = s := by
  simp [State.wakeRun, h]

/-- What the loss of the selected reference shows: REF_LOST latched, both locks gone, the PLLs holding over. -/
def State.refGone (s : State) (lift : Bool) : State :=
  ((((s.setRef lift false).setF Reg.PWR_STATUS_REF_LOST 1).setF Reg.PWR_STATUS_REF_LOCK 0).setF Reg.PWR_STATUS_CONV_LOCK 0).updPw
    (fun (p : Power) => { p with holdover := true })

/-- The loss of the selected reference with no acquisition, no Raman average and no WATCH to end: what it shows, and its log entry. -/
theorem exec_refLost_quiet {lift : Bool} (hs : s.selected lift = true) (hw : s.awake = true) (ha : s.acq.run = none) (hd : s.dts.run = none)
    (hp : s.pstate ≠ stWatch) : ∃ u data, (u = s.refGone lift ∨ u = (s.refGone lift).signal 0) ∧
      exec (.refLost lift) s = .next (u.logEvt sevFault 0x0003 pwrRow data) := by
  have hrun (u : State) (hu : u = s.refGone lift ∨ u = (s.refGone lift).signal 0) (d : List Byte) :
      ((u.logEvt sevFault 0x0003 pwrRow d).faultEnds 0x01).wakeRun 0xF3 = u.logEvt sevFault 0x0003 pwrRow d := by
    have hacq : u.acq = s.acq := by rcases hu with rfl | rfl <;> simp [State.refGone, State.updPw, State.setRef]
    have hdts : u.dts = s.dts := by rcases hu with rfl | rfl <;> simp [State.refGone, State.updPw, State.setRef]
    have hst : u.pstate = s.pstate := by
      rcases hu with rfl | rfl <;> cases lift <;> simp [State.refGone, State.updPw, State.setRef, State.pstate]
    rw [State.faultEnds_idle _ (by simp [hacq, ha]) (by simp [hdts, hd]), State.wakeRun_of_not_watch]
    rw [State.pstate, State.logEvt_pw]
    exact fun e => hp (hst.symm.trans e)
  refine ⟨if (s.refGone lift).logLimited 0x0003 pwrRow then (s.refGone lift).signal 0 else s.refGone lift,
    leBytes 1 ((s.setRef lift false).fld Reg.PWR_CLK_CFG_REF_SRC), by split <;> simp, ?_⟩
  rw [← hrun _ (by split <;> simp)]
  simp only [exec, execRefLost, State.setRef_selected, State.setRef_awake, hs, hw, Bool.not_true, Bool.or_self, Bool.false_eq_true, if_false]
  rfl

theorem State.refGone_leaves (lift : Bool) : LeavesRefGone s (s.refGone lift) := by
  have hf (F : Field) : (s.refGone lift).fld F = ((((s.setRef lift false).setF Reg.PWR_STATUS_REF_LOST 1).setF Reg.PWR_STATUS_REF_LOCK 0).setF
      Reg.PWR_STATUS_CONV_LOCK 0).fld F := rfl
  refine ⟨?_, ?_, ?_, rfl, rfl⟩
  · rw [hf, State.fld_setF_other _ _ _ _ _ _ (by decide), State.fld_setF_other _ _ _ _ _ _ (by decide)]
    exact State.fld_setF_same _ _ 1 0
  · rw [hf, State.fld_setF_other _ _ _ _ _ _ (by decide)]
    exact State.fld_setF_same _ _ 0 0
  · rw [hf]
    exact State.fld_setF_same _ _ 0 0

/-- The return of the selected reference after the system PLL's first lock: both locks show. -/
theorem exec_refReturn_selected {lift : Bool} (hs : s.selected lift = true) (hw : s.awake = true) (hp : s.pw.phase ≠ .rom) :
    exec (.refReturn lift) s = .next ((((s.setRef lift true).updPw (fun (p : Power) => { p with holdover := false })).setF
      Reg.PWR_STATUS_REF_LOCK 1).setF Reg.PWR_STATUS_CONV_LOCK 1) := by
  have hr : (s.pw.phase != .rom) = true := by simpa using hp
  simp only [exec, execRefReturn, State.setRef_selected, State.setRef_awake, State.setRef_phase, hs, hw, hr]
  rfl

/-! ### The write of PWR_CLK_CFG (R45, R78) -/

theorem siteAt_clkCfg : siteAt 0x100C = .reg [(Reg.PWR_CLK_CFG_REF_SRC, 0), (Reg.PWR_CLK_CFG_RDG_DIV, 0)] := by
  have hf : fieldsAt 0x100C = [(Reg.PWR_CLK_CFG_REF_SRC, 0), (Reg.PWR_CLK_CFG_RDG_DIV, 0)] := rfl
  simp [siteAt, hf]

/-- No value of PWR_CLK_CFG lies outside a stated range. -/
theorem State.rangeBreak_clkCfg (ini : Initiator) (v : Nat) :
    [(Reg.PWR_CLK_CFG_REF_SRC, 0), (Reg.PWR_CLK_CFG_RDG_DIV, 0)].any (s.rangeBreak ini v) = false := by
  rfl

/-- A field that takes the written bits is stored, unless its write is an effect alone. -/
theorem State.putField_taken {o : State} {ini : Initiator} {v y i : Nat} {F : Field} {b : Bool} (hty : F.ty = .rw ∨ F.ty = .rwl)
    (ht : o.take s ini F i (F.cut v) = (some y, b)) (ha : actsOnly F = false) : o.putField ini v (s, false) F i = (s.setF F y i, b) := by
  rcases hty with h | h <;> simp [State.putField, h, ht, ha]

theorem State.take_refSrc (ini : Initiator) (x : Nat) (hacq : s.acqRuns = false) :
    s.take s ini Reg.PWR_CLK_CFG_REF_SRC 0 x = (some x, false) := by
  show lockIf s.acqRuns _ _ = _
  rw [hacq]
  rfl

/-- With every core held in reset no divider is kept: the written dividers are taken, without LOCKVIOL. -/
theorem State.take_rdgDiv {o : State} (ini : Initiator) (x : Nat) (held : ∀ c, c < 8 → o.rHeld c = true) :
    o.take s ini Reg.PWR_CLK_CFG_RDG_DIV 0 x = (some x, false) := by
  have hk : (List.range 8).filter (fun c => !o.rHeld c) = [] := by simpa using held
  show o.divTake _ _ = _
  simp [State.divTake, hk]

/-- The write of PWR_CLK_CFG for LIFT_CLK, where nothing holds it back: the two fields are stored, and nothing starts. -/
theorem exec_refSrcWrite_lift {ini : Initiator} {v : Word} (ha : s.answers 0x100C = true) (hx : s.crossing 0x100C = false)
    (hacq : s.acqRuns = false) (hv : v.toNat = 1) (held : ∀ c, c < 8 → s.rHeld c = true) :
    exec (.refSrcWrite ini v) s = .next ((s.setF Reg.PWR_CLK_CFG_REF_SRC 1).setF Reg.PWR_CLK_CFG_RDG_DIV 0) := by
  have hw : s.awake = true := by
    rw [State.answers, Bool.and_eq_true] at ha
    exact ha.1
  have hput : s.putFields ini 0x100C 1 [(Reg.PWR_CLK_CFG_REF_SRC, 0), (Reg.PWR_CLK_CFG_RDG_DIV, 0)] =
      (s.setF Reg.PWR_CLK_CFG_REF_SRC 1).setF Reg.PWR_CLK_CFG_RDG_DIV 0 := by
    rw [State.putFields, State.rangeBreak_clkCfg]
    simp only [List.foldl_cons, List.foldl_nil, State.putField_taken (.inr rfl) (State.take_refSrc ini _ hacq) rfl,
      State.putField_taken (.inl rfl) (State.take_rdgDiv ini _ held) rfl]
    rfl
  simp [exec, execRefSrcWrite, State.effect, hw, ha, hx, hv, State.writeWord, siteAt_clkCfg, hput]

/-! ### Configuration space (R55, R79) -/

theorem exec_configurationRequest_crs (h : Configured s) (hc : s.pw.crs = true) (req : CfgReq) :
    exec (.configurationRequest req) s = .next { s with readOut := none } := by
  obtain ⟨hsa, hp, hw, hl⟩ := h
  simp [exec, execConfigurationRequest, hsa, hp, hw, hl, hc]

/-- A read of a word whose bits are all fixed or written by the host. -/
theorem exec_configurationRequest_read (h : Configured s) (hc : s.pw.crs = false) {r : BitVec 12} {v : Nat}
    (hv : s.configWord (r.toNat / 4 * 4) = (v, s)) :
    exec (.configurationRequest ⟨r, none⟩) s = .next { s with readOut := some v } := by
  obtain ⟨hsa, hp, hw, hl⟩ := h
  simp [exec, execConfigurationRequest, hsa, hp, hw, hl, hc, hv]

theorem exec_configurationRequest_write (h : Configured s) (hc : s.pw.crs = false) {r : BitVec 12} {o : Nat} (ho : r.toNat / 4 * 4 = o) (v : Word) :
    exec (.configurationRequest ⟨r, some v⟩) s = .next (s.configPut o v.toNat) := by
  obtain ⟨hsa, hp, hw, hl⟩ := h
  simp [exec, execConfigurationRequest, hsa, hp, hw, hl, hc, ho]

/-- A write of the low base address of BAR 0 keeps the writable bits; no other part of the register space or of memory changes (R79). -/
theorem State.configPut_bar0 (v : Nat) : ∃ q out, s.configPut 0x10 v = { s with hq := q, irqOut := out } ∧
    (s.configPut 0x10 v).cfgGet cfgBar0 = v &&& 0xFF000000 := by
  have hp : s.configPut 0x10 v = State.flushPba { s with hq := { s.hq with cfg := Store.write 0 s.hq.cfg 0x10 (v &&& 0xFF000000) } } := rfl
  refine ⟨_, _, hp, ?_⟩
  rw [hp]
  exact Store.read_write_same _ _ _ _

/-- The writable bits of BAR 0 lie apart from its type bits. -/
theorem or_bar0 (v : Nat) : 4 ||| (v &&& 0xFF000000) = (v &&& 0xFF000000) + 4 := by
  have hm : v &&& 0xFF000000 = 2 ^ 24 * ((v >>> 24) &&& 0xFF) := by
    apply Nat.eq_of_testBit_eq
    intro i
    rw [show (0xFF000000 : Nat) = 2 ^ 24 * 0xFF by decide, Nat.testBit_and, Nat.testBit_two_pow_mul, Nat.testBit_two_pow_mul, Nat.testBit_and,
      Nat.testBit_shiftRight]
    by_cases h : 24 ≤ i <;> simp [h]
  rw [hm, Nat.or_comm, ← Nat.two_pow_add_eq_or_of_lt (by decide)]

/-- The word of BAR 0: a 64-bit memory base (R79), with the bits that the host has written. -/
theorem State.configWord_bar0 {v : Nat} (h : s.cfgGet cfgBar0 = v &&& 0xFF000000) : s.configWord 0x10 = ((v &&& 0xFF000000) + 4, s) := by
  show ((4 ||| s.cfgGet cfgBar0), s) = _
  rw [h, or_bar0]

/-! ### Settled -/

/-- Settles O4, clause by clause from the effect of each event. -/
theorem referencesAndPins : Obligations.ReferencesAndPins := by
  unfold Obligations.ReferencesAndPins
  refine ⟨?_, ?_, ?_, ?_, ?_⟩
  · intro s lift hs hw ha hd hp
    obtain ⟨u, data, hu, hrun⟩ := exec_refLost_quiet hs hw ha hd hp
    obtain ⟨hlost, hlock, hconv, hhold, hmem⟩ := s.refGone_leaves lift
    have hfld (F : Field) (h1 : Reg.SUM_LOG_NEWEST.key 0 ≠ F.key 0) (h2 : Reg.SUM_LOG_OLDEST.key 0 ≠ F.key 0) (h3 : Reg.SUM_LOG_SUPPRESSED.key 0 ≠ F.key 0) :
        (u.logEvt sevFault 0x0003 pwrRow data).fld F = (s.refGone lift).fld F := by
      rw [State.logEvt_fld _ _ _ _ _ h1 h2 h3]
      rcases hu with rfl | rfl <;> simp
    have hkeep : u.pw = (s.refGone lift).pw ∧ u.mem = (s.refGone lift).mem := by
      rcases hu with rfl | rfl <;> simp
    refine ⟨_, hrun, ?_, ?_, ?_, ?_, ?_⟩
    · rw [hfld _ (by decide) (by decide) (by decide), hlost]
    · rw [hfld _ (by decide) (by decide) (by decide), hlock]
    · rw [hfld _ (by decide) (by decide) (by decide), hconv]
    · rw [State.logEvt_pw, hkeep.1, hhold]
    · rw [State.logEvt_mem, hkeep.2, hmem]
  · intro s lift hs hw hp
    refine ⟨_, exec_refReturn_selected hs hw hp, ?_, State.fld_setF_same _ _ 1 0, rfl, ?_, rfl⟩
    · rw [State.fld_setF_other _ _ _ _ _ _ (by decide)]
      exact State.fld_setF_same _ _ 1 0
    · rw [State.fld_setF_other _ _ _ _ _ _ (by decide), State.fld_setF_other _ _ _ _ _ _ (by decide)]
      rfl
  · intro s ini v ha hx hacq _ hv held
    refine ⟨_, exec_refSrcWrite_lift ha hx hacq hv held, ?_, rfl⟩
    rw [State.fld_setF_other _ _ _ _ _ _ (by decide)]
    exact State.fld_setF_same _ _ 1 0
  · intro s hsa hp hw hl
    have hcfg : Configured s := ⟨hsa, hp, hw, hl⟩
    refine ⟨fun hc req => ⟨_, exec_configurationRequest_crs hcfg hc req, rfl⟩, fun hc => ⟨?_, ?_, ?_, fun v => ?_⟩⟩
    · exact ⟨_, exec_configurationRequest_read hcfg hc rfl, rfl⟩
    · exact ⟨_, exec_configurationRequest_read hcfg hc rfl, rfl⟩
    · exact ⟨_, exec_configurationRequest_read hcfg hc rfl, rfl⟩
    · obtain ⟨q, out, hput, hget⟩ := s.configPut_bar0 v.toNat
      refine ⟨_, exec_configurationRequest_write hcfg hc (o := 0x10) rfl v, ?_, ?_, ?_⟩
      · rw [hput]
      · rw [hput]
      · have ht : Configured (s.configPut 0x10 v.toNat) ∧ (s.configPut 0x10 v.toNat).pw.crs = false := by
          rw [hput]
          exact ⟨⟨hcfg.card, hcfg.perst, hcfg.awake, hcfg.linkUp⟩, hc⟩
        exact ⟨_, exec_configurationRequest_read ht.1 ht.2 (State.configWord_bar0 hget), rfl⟩
  · intro s gd gt p
    refine ⟨_, rfl, rfl, rfl, fun n _ => rfl, rfl⟩

end Sys2Proof.Machine
end

section
/-! SUPPORT. The time base through a tick (O5): no unit that goes on in a tick touches it; `State.tickTime` alone advances it. One lemma for each operation, in the order of the definitions. -/

namespace Sys2Proof.Machine

variable {s : State}

/-- What every step of a fold leaves, the fold leaves. -/
theorem foldl_leaves {α β : Type} (g : State → β) {f : State → α → State} (h : ∀ t a, g (f t a) = g t) (l : List α) (t : State) :
    g (l.foldl f t) = g t := by
  induction l generalizing t with
  | nil => rfl
  | cons a l ih => rw [List.foldl_cons, ih, h]

/-! ### Fields and parts of the state -/

@[simp] theorem State.setB_tb (F : Field) (b : Bool) (i : Nat) : (s.setB F b i).tb = s.tb := rfl
@[simp] theorem State.addF_tb (F : Field) (n i : Nat) : (s.addF F n i).tb = s.tb := rfl
@[simp] theorem State.incF_tb (F : Field) (i : Nat) : (s.incF F i).tb = s.tb := rfl
@[simp] theorem State.orF_tb (F : Field) (m i : Nat) : (s.orF F m i).tb = s.tb := rfl
@[simp] theorem State.clrF_tb (F : Field) (m i : Nat) : (s.clrF F m i).tb = s.tb := rfl
@[simp] theorem State.setS_tb (F : Field) (v : Int) (i : Nat) : (s.setS F v i).tb = s.tb := rfl
@[simp] theorem State.freeVal_tb (w : Nat) : (s.freeVal w).2.tb = s.tb := rfl
@[simp] theorem State.updMc_tb (f : Mc → Mc) : (s.updMc f).tb = s.tb := rfl
@[simp] theorem State.updPat_tb (f : Pat → Pat) : (s.updPat f).tb = s.tb := rfl
@[simp] theorem State.updCal_tb (f : Cal → Cal) : (s.updCal f).tb = s.tb := rfl
@[simp] theorem State.updSum_tb (f : Summit → Summit) : (s.updSum f).tb = s.tb := rfl
@[simp] theorem State.updRc_tb (c : Nat) (f : Rcore → Rcore) : (s.updRc c f).tb = s.tb := rfl
@[simp] theorem State.updCap_tb (k : Nat) (f : Cap → Cap) : (s.updCap k f).tb = s.tb := rfl
@[simp] theorem State.updSadCh_tb (n : Nat) (f : SadCh → SadCh) : (s.updSadCh n f).tb = s.tb := rfl

@[simp] theorem State.freeRound_tb (a b : Int) : (s.freeRound a b).2.tb = s.tb := by
  unfold State.freeRound
  dsimp only
  split <;> rfl

@[simp] theorem State.showState_tb (n : Nat) : (s.showState n).tb = s.tb := by
  unfold State.showState
  split <;> simp

@[simp] theorem State.aerSet_tb (b : Nat) : (s.aerSet b).tb = s.tb := by
  unfold State.aerSet
  split <;> rfl

/-! ### What a command's data and buffers do -/

theorem State.onRead_tb (h : Nat) (d : HostData) {fail : Nat → Nat → State} {k : List Byte → State} (hf : ∀ st det, (fail st det).tb = s.tb)
    (hk : ∀ bs, (k bs).tb = s.tb) : (s.onRead h d fail k).tb = s.tb := by
  cases d with
  | ok bs => exact hk bs
  | outstanding => rfl
  | timeout => exact (State.aerSet_tb _).trans (hf _ _)
  | poisoned => exact hf _ _
  | refused => exact hf _ _

@[simp] theorem State.putSegs_tb (e : Nat) (l : List (Nat × Nat)) (bs : List Byte) : (s.putSegs e l bs).tb = s.tb := by
  induction l generalizing s bs with
  | nil => rfl
  | cons x l ih =>
    rw [State.putSegs]
    split
    · rfl
    · rw [ih, State.dataPut_tb]

theorem State.bufEnds_tb {t : State} (h : Nat) (e : BufEnd) (ht : t.tb = s.tb) : (s.bufEnds t h e).tb = s.tb := by
  cases e with
  | whole => exact (State.complete_tb _ _ _ _ _ _).trans ht
  | fault d i => exact (State.complete_tb _ _ _ _ _ _).trans ht
  | read d => exact State.onRead_tb h d (fun _ _ => (State.complete_tb _ _ _ _ _ _).trans ht) (fun _ => rfl)

@[simp] theorem State.giveTo_tb (x : Handle) (b : Buffer) (bs : List Byte) (st det r0 r1 : Nat) : (s.giveTo x b bs st det r0 r1).tb = s.tb := by
  unfold State.giveTo
  split
  · simp
  · exact State.bufEnds_tb _ _ (by split <;> simp)

/-! ### Patrol link, receiver and source -/

@[simp] theorem State.staleTick_tb : s.staleTick.tb = s.tb := by
  unfold State.staleTick
  split <;> rfl

@[simp] theorem State.replyTick_tb : s.replyTick.tb = s.tb := by
  unfold State.replyTick
  split <;> rfl

@[simp] theorem State.satEntry_tb (r n : Nat) : (s.satEntry r n).tb = s.tb := by
  unfold State.satEntry
  split <;> simp

@[simp] theorem State.satSecond_tb : s.satSecond.tb = s.tb := by
  unfold State.satSecond
  split <;> simp

@[simp] theorem State.gateOpens_tb (g n : Nat) : (s.gateOpens g n).tb = s.tb := by simp [State.gateOpens]

@[simp] theorem State.watchLaunch_tb : s.watchLaunch.tb = s.tb := by
  unfold State.watchLaunch
  dsimp only
  split <;> simp

/-! ### Spare lane and calibration -/

@[simp] theorem State.spFree_tb : s.spFree.tb = s.tb := by
  simp only [State.spFree, State.setF_tb]
  exact foldl_leaves State.tb (by intros; rfl) _ _

@[simp] theorem State.spReturned_tb : s.spReturned.tb = s.tb := by
  unfold State.spReturned
  split <;> simp

@[simp] theorem State.spRequest_tb (l : Nat) : (s.spRequest l).tb = s.tb := by
  unfold State.spRequest
  split <;> rfl

@[simp] theorem State.calBegin_tb (v : CalVisit) : (s.calBegin v).tb = s.tb := by
  unfold State.calBegin
  dsimp only
  split <;> simp

@[simp] theorem State.calGo_tb (r : CalRun) (l : List Nat) : (s.calGo r l).tb = s.tb := by
  induction l with
  | nil => simp [State.calGo]
  | cons k l ih =>
    rw [State.calGo]
    split
    · simp
    · exact ih

@[simp] theorem State.calNext_tb : s.calNext.tb = s.tb := by
  unfold State.calNext
  split
  · split <;> simp
  · rfl

@[simp] theorem State.spTick_tb : s.spTick.tb = s.tb := by
  unfold State.spTick
  split <;> simp

/-! ### Interrupts of the cores -/

@[simp] theorem State.rCycles_tb (c n : Nat) : (s.rCycles c n).tb = s.tb := State.set64_tb _ _ _ _ _

@[simp] theorem State.rWake_tb (c : Nat) : (s.rWake c).tb = s.tb := by
  unfold State.rWake
  split
  · exact (State.setF_tb _ _ _ _).trans (State.rCycles_tb _ _)
  · rfl

@[simp] theorem State.rPend_tb (c n : Nat) : (s.rPend c n).tb = s.tb := by simp [State.rPend]

@[simp] theorem State.rFrame_tb : s.rFrame.tb = s.tb :=
  foldl_leaves State.tb (fun _ _ => by split <;> simp) _ _

@[simp] theorem State.rTimer_tb (c : Nat) : (s.rTimer c).tb = s.tb := by
  unfold State.rTimer
  split <;> simp

@[simp] theorem State.rTimerTick_tb : s.rTimerTick.tb = s.tb :=
  foldl_leaves State.tb (fun _ _ => by
    split
    · rfl
    · split <;> simp) _ _

/-! ### The trigger fabric and the sequencer -/

@[simp] theorem State.ptTick_tb : s.ptTick.tb = s.tb :=
  foldl_leaves State.tb (fun _ _ => by
    dsimp only
    split
    · rfl
    · split <;> rfl) _ _

@[simp] theorem State.relock_tb : s.relock.tb = s.tb := by
  unfold State.relock
  repeat' split
  all_goals rfl

@[simp] theorem State.liftRefresh_tb : s.liftRefresh.tb = s.tb := rfl

@[simp] theorem State.enterGate_tb (g : Nat) : (s.enterGate g).tb = s.tb := rfl

@[simp] theorem State.leaveGate_tb : s.leaveGate.tb = s.tb := by
  unfold State.leaveGate
  dsimp only
  split <;> rfl

@[simp] theorem State.disarm_tb (st det : Nat) : (s.disarm st det).tb = s.tb := by
  simp only [State.disarm, State.liftRefresh_tb]
  split <;> simp

@[simp] theorem State.goGate_tb (n : Nat) : (s.goGate n).tb = s.tb := by
  unfold State.goGate
  split <;> simp

@[simp] theorem State.glRefresh_tb : s.glRefresh.tb = s.tb := by
  unfold State.glRefresh
  dsimp only
  split <;> simp

@[simp] theorem State.capBegin_tb (k : Nat) (x : Handle) (g : Nat) (a b : Bool) (q : CapReq) (w : Option (Nat × Nat × Nat)) :
    (s.capBegin k x g a b q w).tb = s.tb := by
  simp [State.capBegin]

@[simp] theorem State.fireCapture_tb (g t : Nat) : (s.fireCapture g t).tb = s.tb := by
  unfold State.fireCapture
  dsimp only
  split
  · rfl
  · rfl
  · split
    · rfl
    · simp

@[simp] theorem State.fire_tb (g : Nat) : (s.fire g).tb = s.tb := by
  unfold State.fire
  extract_lets t m u m' v
  have hv : v.tb = s.tb := by
    simp only [v]
    split <;> rfl
  rw [← hv]
  split
  · dsimp only
    split <;> simp
  · rfl
  · simp

@[simp] theorem State.gateActions_tb (g : Nat) : (s.gateActions g).tb = s.tb := by
  unfold State.gateActions
  extract_lets act u v m w
  have hu : u.tb = s.tb := by
    simp only [u]
    split <;> simp
  have hv : v.tb = u.tb := by
    simp only [v]
    split <;> simp
  have hw : w.tb = v.tb := by
    simp only [w]
    split <;> simp
  rw [← hu, ← hv, ← hw]
  split <;> simp

@[simp] theorem State.gateDone_tb : s.gateDone.tb = s.tb := by
  unfold State.gateDone
  dsimp only
  split <;> simp

@[simp] theorem State.gateTimedOut_tb : s.gateTimedOut.tb = s.tb := by
  unfold State.gateTimedOut
  dsimp only
  split <;> simp

@[simp] theorem State.gateTick_tb (n : Nat) : (s.gateTick n).tb = s.tb := by
  unfold State.gateTick
  extract_lets u m g v w
  have hu : u.tb = s.tb := by simp [u]
  have hv : v.tb = u.tb := by
    simp only [v]
    split <;> simp
  rw [← hu]
  split
  · exact hu.symm
  · split
    · rfl
    · rw [← hv]
      split
      · simp
      · split
        · rfl
        · split <;> simp [w]

@[simp] theorem State.fabricTick_tb : s.fabricTick.tb = s.tb := by
  unfold State.fabricTick
  extract_lets u n e v w x
  have hv : v.tb = s.tb := by simp [v, u, State.pinTick]
  have hw : w.tb = v.tb := by
    simp only [w]
    split <;> simp
  show x.tb = s.tb
  rw [State.gateTick_tb, hw, hv]

@[simp] theorem State.sadStart_tb (n : Nat) : (s.sadStart n).tb = s.tb := by
  unfold State.sadStart
  split
  · rfl
  · split <;> rfl

@[simp] theorem State.sadEvents_tb (p : Nat) : (s.sadEvents p).tb = s.tb :=
  foldl_leaves State.tb (fun _ _ => by dsimp only; split <;> simp) _ _

@[simp] theorem State.tripTick_tb : s.tripTick.tb = s.tb :=
  foldl_leaves State.tb (fun _ _ => by unfold State.tripLatch; split <;> rfl) _ _

/-! ### Captures -/

@[simp] theorem State.capRoom_tb (n fuel : Nat) : (s.capRoom n fuel).1.tb = s.tb := by
  induction fuel generalizing s with
  | zero => rfl
  | succ fuel ih =>
    rw [State.capRoom]
    split
    · rfl
    · split
      · split
        · rfl
        · exact ih
      · rfl

@[simp] theorem State.copyTake_tb (k : Nat) (b : GBlk) : (s.copyTake k b).tb = s.tb := by
  unfold State.copyTake
  dsimp only
  split
  · simp
  · split <;> simp

@[simp] theorem State.copyStep_tb (k : Nat) : (s.copyStep k).tb = s.tb := by
  unfold State.copyStep State.copyBlock
  split
  · rfl
  · split
    · rfl
    · split
      · dsimp only
        split <;> simp
      · rfl

@[simp] theorem State.copyTick_tb : s.copyTick.tb = s.tb := by
  unfold State.copyTick
  split
  · exact foldl_leaves State.tb (fun _ _ => State.copyStep_tb _) _ _
  · rfl

@[simp] theorem State.readGone_tb (h : Nat) : (s.readGone h).tb = s.tb := rfl

@[simp] theorem State.turnOver_tb (h : Nat) : (s.turnOver h).tb = s.tb := by
  unfold State.turnOver
  split <;> rfl

@[simp] theorem State.readDeliver_tb (r : CapRead) (x : Handle) (c : Cap) : (s.readDeliver r x c).tb = s.tb := by
  unfold State.readDeliver State.capLines
  dsimp only
  split
  · simp
  · split <;> simp

@[simp] theorem State.readTick_tb : s.readTick.tb = s.tb := by
  unfold State.readTick
  split
  · rfl
  · split
    · rfl
    · split
      · simp
      · split <;> simp

/-! ### The island DATAPATH, launches, confirmation and migration -/

@[simp] theorem State.dataTick_tb : s.dataTick.tb = s.tb := by
  unfold State.dataTick
  split
  · simp only [State.copyTick_tb, State.tripTick_tb, State.sadEvents_tb, State.fabricTick_tb]
    split <;> simp
  · rfl

@[simp] theorem State.delayMean_tb (F : Field) (ds : List Int) : (s.delayMean F ds).tb = s.tb := by
  unfold State.delayMean
  split <;> simp

@[simp] theorem State.launchSettle_tb : s.launchSettle.tb = s.tb := by
  unfold State.launchSettle
  dsimp only
  split <;> simp [State.launchMeans]

@[simp] theorem State.confirmTick_tb : s.confirmTick.tb = s.tb := by
  unfold State.confirmTick
  split <;> rfl

@[simp] theorem State.migLine_tb (c r : Nat) : (s.migLine c r).tb = s.tb := by
  unfold State.migLine
  extract_lets pos off
  split
  · rfl
  · rw [State.incF_tb, State.memCount_tb, State.linesRead_tb]

@[simp] theorem State.migTick_tb : s.migTick.tb = s.tb :=
  foldl_leaves State.tb (fun t c => by
    split
    · rfl
    · dsimp only
      split
      · rfl
      · split
        · exact State.migLine_tb _ _
        · split
          · rfl
          · exact State.migLine_tb _ _) _ _

@[simp] theorem State.unitsTick_tb : s.unitsTick.tb = s.tb := by
  unfold State.unitsTick
  extract_lets u v w x
  have hu : u.tb = s.tb := by simp [u]
  have hw : w.tb = v.tb := by
    simp only [w]
    split <;> simp
  have hx : x.tb = w.tb := by
    simp only [x]
    split <;> simp
  split
  · rw [State.rTimerTick_tb, hx, hw]
    simpa [v] using hu
  · exact hu

/-! ### The fetch of the cores -/

@[simp] theorem State.wakeRun_tb (r : Nat) : (s.wakeRun r).tb = s.tb := by
  unfold State.wakeRun
  split
  · rfl
  · split <;> simp

@[simp] theorem State.crnHalt_tb (c : Nat) : (s.crnHalt c).tb = s.tb := by simp [State.crnHalt]

@[simp] theorem State.crnFetch_tb : s.crnFetch.tb = s.tb := by
  unfold State.crnFetch
  split
  · rfl
  · dsimp only
    split
    · simp
    · split <;> simp

@[simp] theorem State.rControl_tb (c t : Nat) : (s.rControl c t).tb = s.tb :=
  foldl_leaves State.tb (fun _ _ => by split <;> rfl) _ _

@[simp] theorem State.rTicks_tb (c n : Nat) : (s.rTicks c n).tb = s.tb := by
  induction n generalizing s with
  | zero => rfl
  | succ n ih =>
    rw [State.rTicks, ih]
    simp [State.rTick]

@[simp] theorem State.rExcept_tb (c k pc : Nat) (a : Option Nat) : (s.rExcept c k pc a).tb = s.tb := by
  unfold State.rExcept State.rDrain State.rDmaLast
  extract_lets u v w x y
  have hy : y.tb = s.tb := by
    have hx : x.tb = w.tb := by
      simp only [x]
      split <;> rfl
    simp [y, hx, w, v, u]
  split <;> simpa using hy

@[simp] theorem State.rFetch_tb (c : Fin 8) : (s.rFetch c).tb = s.tb := by
  unfold State.rFetch
  split
  · rfl
  · split
    · rfl
    · split
      · rfl
      · dsimp only
        split
        · simp
        · split <;> simp

@[simp] theorem State.coresFetch_tb : s.coresFetch.tb = s.tb := by
  unfold State.coresFetch State.rFetchAll
  extract_lets u
  split
  · exact (foldl_leaves State.tb (fun _ _ => State.rFetch_tb _) _ _).trans State.crnFetch_tb
  · exact State.crnFetch_tb

@[simp] theorem State.sadTick_tb : s.sadTick.tb = s.tb := by
  unfold State.sadTick
  split <;> rfl

/-- A tick advances the time base by five TIMING cycles while it counts, and leaves it alone otherwise (R47, R48). -/
theorem State.tickPass_tb : s.tickPass.tb = if s.timed then s.tb.advance 5 else s.tb := by
  have ht : ({ s with tick := s.tick + 1 } : State).tickTime.sadTick.tb = if s.timed then s.tb.advance 5 else s.tb := by
    rw [State.sadTick_tb, State.tickTime, apply_ite State.tb]
    rfl
  unfold State.tickPass
  extract_lets u
  split
  · rw [State.coresFetch_tb, State.unitsTick_tb, ← ht]
  · exact ht

end Sys2Proof.Machine
end

section
/-! SUPPORT. The discipline of the time base (O5): the PPS edge by its kind, the loss of the edge, the load, and the advance of a tick. -/

namespace Sys2Proof.Machine

variable {s : State}

/-! ### Signed fields -/

/-- A value within a width's two's-complement range comes back from its code. -/
theorem sx_code {w : Nat} {x : Int} (hw : 0 < w) (hlo : -(2 ^ (w - 1) : Int) ≤ x) (hhi : x < 2 ^ (w - 1)) : sx w (code w x) = x := by
  have hp : (2 : Int) ^ w = 2 * 2 ^ (w - 1) := by rw [← pow_succ', Nat.sub_add_cancel hw]
  have hc : ((code w x : Nat) : Int) = x % 2 ^ w := by
    rw [code, Int.toNat_of_nonneg (Int.emod_nonneg _ (by positivity))]
  have hn : code w x < 2 ^ w := by
    have := Int.emod_lt_of_pos x (show (0 : Int) < 2 ^ w by positivity)
    rw [← hc] at this
    exact_mod_cast this
  unfold sx
  rw [Nat.mod_eq_of_lt hn]
  by_cases hx : 0 ≤ x
  · have he : ((code w x : Nat) : Int) = x := by rw [hc, Int.emod_eq_of_lt hx (by omega)]
    have hlt : code w x < 2 ^ (w - 1) := by
      have : ((code w x : Nat) : Int) < 2 ^ (w - 1) := by omega
      exact_mod_cast this
    simp [hlt, he]
  · have he : ((code w x : Nat) : Int) = x + 2 ^ w := by
      rw [hc, ← Int.add_emod_right, Int.emod_eq_of_lt (by omega) (by omega)]
    have hge : ¬ code w x < 2 ^ (w - 1) := by
      intro h
      have : ((code w x : Nat) : Int) < 2 ^ (w - 1) := by exact_mod_cast h
      omega
    simp [hge, he]

/-- A signed field set to a value of its range reads it back. -/
theorem State.fldS_setS_same (F : Field) (v : Int) (i : Nat) (hw : 0 < F.width) (hlo : -(2 ^ (F.width - 1) : Int) ≤ v)
    (hhi : v < 2 ^ (F.width - 1)) : (s.setS F v i).fldS F i = v := by
  rw [State.fldS, State.setS, State.fld_setF_same]
  have : sx F.width (code F.width v % 2 ^ F.width) = sx F.width (code F.width v) := by simp [sx]
  rw [this, sx_code hw hlo hhi]

/-- The rounded half of a rate within ±100,000 lies within ±100,000. -/
theorem divRne_two_bounds {x : Int} (hlo : -100000 ≤ x) (hhi : x ≤ 100000) : -100000 ≤ divRne x 2 ∧ divRne x 2 ≤ 100000 := by
  unfold divRne
  simp only [Int.fdiv_eq_ediv_of_nonneg _ (by decide : (0 : Int) ≤ 2)]
  constructor <;> repeat' split
  all_goals omega

/-- The error of an edge lies within half a second. -/
theorem ppsError_bounds (n : Nat) : -500000000 ≤ ppsError n ∧ ppsError n < 500000000 := by
  unfold ppsError
  have := Nat.mod_lt n (by decide : 0 < 1000000000)
  dsimp only
  split <;> omega

theorem clampInt_bounds {lo hi x : Int} (h : lo ≤ hi) : lo ≤ clampInt lo hi x ∧ clampInt lo hi x ≤ hi :=
  ⟨le_max_left _ _, max_le h (min_le_left _ _)⟩

/-! ### The PPS edge (R48 to R50) -/

theorem exec_ppsEdge_rejected (ht : s.timed = true) (hw : s.ppsInWindow = false) : exec .ppsEdge s = .next (s.incF Reg.GLB_TB_PPS_REJECT) := by
  simp [exec, execPpsEdge, ht, hw]

/-- The time base after an edge that loads it: the committed pair, no slew owed, and no small error at this edge (log entries 13 and 14). -/
def TimeBase.loaded (t : TimeBase) : TimeBase := { t with now := t.loadVal, ppsAt := t.loadVal, slew := 0, errs := (none :: t.errs).take 4 }

theorem exec_ppsEdge_loaded (ht : s.timed = true) (hw : s.ppsInWindow = true) (ha : s.on Reg.GLB_TB_CTL_LOAD_ARM = true) :
    exec .ppsEdge s = .next ((((({ s with tb := s.tb.loaded } : State).setF Reg.GLB_TB_CTL_LOAD_ARM 0).setF Reg.GLB_TB_STATUS_PPS_FAR 0).setF
      Reg.GLB_TB_STATUS_PPS_VALID 1).setB Reg.GLB_TB_STATUS_DISCIPLINED s.tb.loaded.steady) := by
  simp only [exec, execPpsEdge, ht, hw, ha, Bool.not_true, Bool.false_eq_true, if_false, if_true]
  rfl

/-- The time base after an edge that is measured. -/
def TimeBase.measured (t : TimeBase) : TimeBase := { t with ppsAt := t.now, errs := (some (ppsError t.now).natAbs :: t.errs).take 4 }

/-- What a measured edge records: its error, PPS_VALID, and whether the discipline is steady. -/
def State.ppsMeasured (s : State) : State :=
  ((({ s with tb := s.tb.measured } : State).setS Reg.GLB_TB_PPS_ERR (ppsError s.now)).setF Reg.GLB_TB_STATUS_PPS_VALID 1).setB
    Reg.GLB_TB_STATUS_DISCIPLINED s.tb.measured.steady

theorem State.ppsMeasured_on {F : Field} (hF : ∀ G ∈ [Reg.GLB_TB_PPS_ERR, Reg.GLB_TB_STATUS_PPS_VALID, Reg.GLB_TB_STATUS_DISCIPLINED], G.key 0 ≠ F.key 0) :
    s.ppsMeasured.on F = s.on F := by
  rw [State.on, State.ppsMeasured, State.setB_eq, State.fld_setF_other _ _ _ _ _ _ (hF _ (by simp)), State.fld_setF_other _ _ _ _ _ _ (hF _ (by simp)),
    State.setS, State.fld_setF_other _ _ _ _ _ _ (hF _ (by simp))]
  rfl

theorem State.ppsMeasured_valid : s.ppsMeasured.fld Reg.GLB_TB_STATUS_PPS_VALID = 1 := by
  rw [State.ppsMeasured, State.setB_eq, State.fld_setF_other _ _ _ _ _ _ (by decide)]
  exact State.fld_setF_same _ _ 1 0

theorem State.ppsMeasured_err : s.ppsMeasured.fldS Reg.GLB_TB_PPS_ERR = ppsError s.now := by
  obtain ⟨hlo, hhi⟩ := ppsError_bounds s.now
  rw [State.fldS, State.ppsMeasured, State.setB_eq, State.fld_setF_other _ _ _ _ _ _ (by decide), State.fld_setF_other _ _ _ _ _ _ (by decide)]
  exact State.fldS_setS_same _ _ _ (by decide) (hlo.trans' (by decide)) (hhi.trans (by decide))

/-- An edge within the window and without LOAD_ARM is measured; a small error is steered where the discipline is on and no far edge stands, a large one is far. -/
theorem exec_ppsEdge_measured (ht : s.timed = true) (hw : s.ppsInWindow = true) (ha : s.on Reg.GLB_TB_CTL_LOAD_ARM = false) :
    exec .ppsEdge s = .next (if s.on Reg.GLB_TB_CTL_DISC_EN && !s.on Reg.GLB_TB_STATUS_PPS_FAR then s.ppsMeasured.ppsCorrect (ppsError s.now)
      else if (ppsError s.now).natAbs ≤ 10000 then s.ppsMeasured else s.ppsMeasured.setF Reg.GLB_TB_STATUS_PPS_FAR 1) := by
  rw [← State.ppsMeasured_on (s := s) (F := Reg.GLB_TB_CTL_DISC_EN) (by decide), ← State.ppsMeasured_on (s := s) (F := Reg.GLB_TB_STATUS_PPS_FAR) (by decide)]
  simp only [exec, execPpsEdge, ht, hw, ha, Bool.not_true, Bool.false_eq_true, if_false]
  rfl

/-! ### Loss and load -/

theorem exec_ppsLoss_due (ht : s.timed = true) (hd : 1500000000 ≤ wrapSub 64 s.now s.tb.ppsAt) :
    exec .ppsLoss s = .next ((s.setF Reg.GLB_TB_STATUS_PPS_VALID 0).setF Reg.GLB_TB_STATUS_DISCIPLINED 0) := by
  simp [exec, execPpsLoss, ht, hd]

theorem exec_tbLoadWrite_awake (ha : s.awake = true) (v : Word) : exec (.tbLoadWrite v) s = .next (s.tbLoadLo v.toNat) := by
  simp [exec, execTbLoadWrite, ha]

/-- The write of the low word writes its register and commits the pair (R74). The pair is named by an equation, for the kernel would unfold its product by 2³² to compare it. -/
theorem State.tbLoadLo_eq (v : Word) : ∃ L, L = v.toNat + s.fld Reg.GLB_TB_LOAD_HI * 2 ^ 32 ∧
    s.tbLoadLo v.toNat = { s.setF Reg.GLB_TB_LOAD_LO v.toNat with tb := { s.tb with loadVal := L } } := by
  refine ⟨(s.setF Reg.GLB_TB_LOAD_LO v.toNat).fld64 Reg.GLB_TB_LOAD_LO Reg.GLB_TB_LOAD_HI, ?_, ?_⟩
  · rw [State.fld64, State.fld_setF_same, State.fld_setF_other _ _ _ _ _ _ (by decide)]
    exact congrArg (· + _) (Nat.mod_eq_of_lt v.isLt)
  · rw [State.tbLoadLo]
    generalize (s.setF Reg.GLB_TB_LOAD_LO v.toNat).fld64 Reg.GLB_TB_LOAD_LO Reg.GLB_TB_LOAD_HI = L
    rfl

/-! ### The advance (R47, R50) -/

/-- Without a rate correction and with no slew owed, `n` cycles advance the time base by `n` ns. -/
theorem TimeBase.advance_now {t : TimeBase} {n : Nat} (hr : t.rate = 0) (ha : t.rateAcc = 0) (hs : t.slew = 0) (hn : t.now + n < 2 ^ 64) :
    (t.advance n).now = t.now + n := by
  have hm : min (0 : Int) ((t.slewNs + n) / 1000) = 0 := min_eq_left (by omega)
  have h : (t.advance n).now = (t.now + n) % 2 ^ 64 := by simp [TimeBase.advance, hr, ha, hs, hm]
  rw [h, Nat.mod_eq_of_lt hn]

/-- With no command waiting and none due, a step is a tick. -/
theorem step_tickPass (hp : s.pending = []) (hd : s.dueNow = none) : step s = .next s.tickPass := by
  simp [step, hp, State.idle, hd]

/-! ### Settled -/

/-- Settles O5, clause by clause from the kinds of an edge, the loss, the load and the advance. -/
theorem timeBaseDiscipline : Obligations.TimeBaseDiscipline := by
  unfold Obligations.TimeBaseDiscipline
  refine ⟨?_, ?_, ?_, ?_, ?_, ?_, ?_⟩
  · intro s ht hw
    exact ⟨_, exec_ppsEdge_rejected ht hw, State.fld_setF_same _ _ _ _, (OnlyRegs.refl _ _).setF (by simp)⟩
  · intro s ht hw ha
    refine ⟨_, exec_ppsEdge_loaded ht hw ha, rfl, ?_, ?_, ?_, rfl, rfl, rfl⟩
    · rw [State.setB_eq, State.fld_setF_other _ _ _ _ _ _ (by decide), State.fld_setF_other _ _ _ _ _ _ (by decide),
        State.fld_setF_other _ _ _ _ _ _ (by decide)]
      exact State.fld_setF_same _ _ 0 0
    · rw [State.setB_eq, State.fld_setF_other _ _ _ _ _ _ (by decide)]
      exact State.fld_setF_same _ _ 1 0
    · rw [State.setB_eq, State.fld_setF_other _ _ _ _ _ _ (by decide), State.fld_setF_other _ _ _ _ _ _ (by decide)]
      exact State.fld_setF_same _ _ 0 0
  · intro s ht hw ha hd hf he
    have hrun := exec_ppsEdge_measured ht hw ha
    rw [hd, hf, State.ppsCorrect, if_pos he] at hrun
    obtain ⟨hlo, hhi⟩ := divRne_two_bounds (clampInt_bounds (lo := -100000) (hi := 100000) (x := s.tb.rate - ppsError s.now) (by decide)).1
      (clampInt_bounds (by decide)).2
    refine ⟨_, hrun, rfl, rfl, rfl, ?_, ?_, ?_, rfl⟩
    · exact (congrArg (sx _) (State.fld_setF_other _ _ _ _ _ _ (by decide))).trans State.ppsMeasured_err
    · exact (State.fld_setF_other _ _ _ _ _ _ (by decide)).trans State.ppsMeasured_valid
    · exact State.fldS_setS_same _ _ _ (by decide) (hlo.trans' (by decide)) (hhi.trans_lt (by decide))
  · intro s ht hw ha he
    have hrun := exec_ppsEdge_measured ht hw ha
    rw [State.ppsCorrect, if_neg (Nat.not_le.mpr he), if_neg (Nat.not_le.mpr he), ite_self] at hrun
    exact ⟨_, hrun, State.fld_setF_same _ _ 1 0, rfl, rfl, rfl⟩
  · intro s ht hd
    refine ⟨_, exec_ppsLoss_due ht hd, ?_, State.fld_setF_same _ _ 0 0, ((OnlyRegs.refl _ _).setF (by simp)).setF (by simp)⟩
    rw [State.fld_setF_other _ _ _ _ _ _ (by decide)]
    exact State.fld_setF_same _ _ 0 0
  · intro s v ha
    obtain ⟨L, hL, heq⟩ := s.tbLoadLo_eq v
    have hrun := exec_tbLoadWrite_awake ha v
    rw [heq] at hrun
    exact ⟨_, hrun, hL, rfl, ((SameRegs.refl _ s).setF (by simp)).of_eq_right rfl, rfl⟩
  · intro s hp hd ht hr hacc hs hn
    refine ⟨_, step_tickPass hp hd, ?_⟩
    rw [State.now, State.tickPass_tb, if_pos ht]
    exact TimeBase.advance_now hr hacc hs hn

end Sys2Proof.Machine
end

section
/-! SUPPORT. Resets (O1, O58): the state right after reset, and the write in flight that refutes the statement about resets. -/

namespace Sys2Proof.Machine

open Sys2Proof.Tests

/-- Settles O58: right after reset no register is listed, so each reads its reset value, and no memory lists a byte. -/
theorem resetState : Obligations.ResetState := by
  unfold Obligations.ResetState
  refine ⟨rfl, rfl, fun _ _ => rfl, rfl, rfl, rfl, rfl, fun a => ⟨rfl, rfl, rfl, rfl, ?_⟩⟩
  show [~~~(0 : Byte)] = [0xFF]
  decide

/-- The line that waits: 64 bytes of 5 from a requester of class 2, to be stored at external offset 0. -/
def stalledWrite : MemReq := ⟨1, 0, some (List.replicate 64 5), .stalled, none, 0⟩

/-- A chip in RUN, its external memory with that write in flight and not yet served, as MEM_REQUEST leaves it (R307, R309). -/
def writeInFlight : State := State.mctl memory (fun m => { m with flight := [stalledWrite] })

/-- A warm reset drains the requests in flight before memory goes into self-refresh (R320): the line is stored. -/
theorem writeInFlight_warmReset : (writeInFlight.warmReset Reg.PWR_RST_CAUSE_WARM_PIN).mem.ext.read 0 = 5 := by decide +kernel

/-- Before the reset the byte reads 0. -/
theorem writeInFlight_ext : writeInFlight.mem.ext.read 0 = 0 := rfl

/-- Refutes O1: a write of external memory that is in flight when SYS_RST_L falls is drained by the warm reset (R320) and so changes external memory; the seventh clause says `t.mem.ext = s.mem.ext`. -/
theorem not_resets : ¬ Obligations.Resets := by
  unfold Obligations.Resets
  rintro ⟨-, -, -, -, -, -, warm, -⟩
  obtain ⟨t, ht, -, -, -, -, hext, -⟩ := warm writeInFlight (by decide)
  have hrun : t = writeInFlight.warmReset Reg.PWR_RST_CAUSE_WARM_PIN := (Host.Outcome.next.inj ht).symm
  have hread := writeInFlight_warmReset
  rw [← hrun, hext, writeInFlight_ext] at hread
  exact absurd hread (by decide)

end Sys2Proof.Machine
end

section
/-! SUPPORT. The events of a boot (O2): the state that refutes the statement. -/

namespace Sys2Proof.Machine

open Sys2Proof.Tests

/-- The firmware trains memory while a brown-out crossing blocks writes to MRAM (R41). -/
def brownTraining : State := State.pwr boot (fun p => { p with phase := .firmware, brownBlock := true })

/-- One rank of 8 GiB. -/
def oneRank : RankSet := ⟨1, .x16⟩

/-- The record in MRAM of the trained ranks stays as it was: the brown-out keeps the write out. -/
theorem brownTraining_record :
    ∃ t, exec (.memoryTrainingDone (some oneRank) (some oneRank)) brownTraining = .next t ∧ t.mc.record.sets = #v[none, none] :=
  ⟨_, rfl, rfl⟩

/-- Refutes O2: under a brown-out crossing, which blocks new writes to MRAM (R41), the end of memory training leaves the training record in MRAM as it was; the seventh clause asks for the record of the ranks just trained. -/
theorem not_bootEvents : ¬ Obligations.BootEvents := by
  unfold Obligations.BootEvents
  rintro ⟨-, -, -, -, -, -, trained, -⟩
  obtain ⟨t, ht, -, -, hsets, -⟩ := trained brownTraining oneRank oneRank (by decide) (by decide) (by decide) (by decide) (by decide)
    (by decide) (by decide) (by decide)
  obtain ⟨u, hu, hkept⟩ := brownTraining_record
  have htu : t = u := Host.Outcome.next.inj (ht.symm.trans hu)
  rw [htu, hkept] at hsets
  exact absurd hsets (by decide)

end Sys2Proof.Machine
end

section
/-! SUPPORT. The return to D0 (O12): the kept data write that refutes the statement. -/

namespace Sys2Proof.Machine

open Sys2Proof.Tests

/-- In D3hot with one data write of engine 0 kept, its record marked as carrying Relaxed Ordering. -/
def heldRelaxed : State := { resumes with pw := { resumes.pw with d3hot := true }, hostHeld := [(0, ⟨0x1000, [1], true⟩)] }

/-- The return to D0 makes the kept write without Relaxed Ordering, as every write but stream payload (R79, R103). -/
theorem heldRelaxed_d0Return : ∃ t, exec .d0Return heldRelaxed = .next t ∧ t.hostOut = [⟨0x1000, [1], false⟩] :=
  ⟨_, rfl, rfl⟩

/-- What the second clause of O12 says of the same state: the kept record itself, with its mark. -/
theorem heldRelaxed_kept : heldRelaxed.hostOut ++ heldRelaxed.hostHeld.map (·.2) = [⟨0x1000, [1], true⟩] := rfl

/-- Refutes O12: `flushWrites` makes each kept write with `hostPut`, so without Relaxed Ordering, whatever its record says; the second clause asks, of every state, that the kept records be sent as they stand.
The model itself keeps only records without the mark (`dataPut`), which the clause does not assume. -/
theorem not_linkAndHostReset : ¬ Obligations.LinkAndHostReset := by
  unfold Obligations.LinkAndHostReset
  rintro ⟨-, d0, -⟩
  obtain ⟨t, ht, -, hout, -⟩ := d0 heldRelaxed _ (by decide) (by decide) (by decide) rfl (by decide)
  obtain ⟨u, hu, hsent⟩ := heldRelaxed_d0Return
  have htu : t = u := Host.Outcome.next.inj (ht.symm.trans hu)
  rw [htu, hsent, heldRelaxed_kept] at hout
  exact absurd hout (by decide)

end Sys2Proof.Machine
end

section
/-! SUPPORT. Completion entries (O8): an entry written at the tail of its queue or kept, and the coalescing time of a ring. -/

namespace Sys2Proof.Machine

variable {s : State}

/-! ### What a signal and an entry leave of the queue engines -/

/-- A part of the queue engines that neither pending vectors nor coalescing are in. -/
def Hqe.Lasting {β : Type} (g : Hqe → β) : Prop := ∀ q p c t, g { q with pba := p, coal := c, coalTimers := t } = g q

variable {β : Type} {g : Hqe → β}

theorem State.signal_keeps (hg : Hqe.Lasting g) (v : Nat) : g (s.signal v).hq = g s.hq := by
  unfold State.signal
  repeat' split
  · rfl
  · rfl
  · exact hg s.hq _ s.hq.coal s.hq.coalTimers

theorem State.ringWrote_keeps (hg : Hqe.Lasting g) (n : Nat) (u : Bool) : g (s.ringWrote n u).hq = g s.hq := by
  unfold State.ringWrote
  extract_lets irq cnt tim vec k q v
  have hv : v.hq = s.hq := by
    simp only [v]
    split <;> rfl
  split
  · rfl
  · split
    · exact (State.signal_keeps hg _).trans (hg s.hq s.hq.pba _ _)
    · exact (hg v.hq v.hq.pba _ _).trans (congrArg g hv)

theorem State.cqPut_keeps (hg : Hqe.Lasting g) (c : Nat) (e : Cqe) : g (s.cqPut c e).hq = g s.hq := by
  refine (State.ringWrote_keeps hg _ _).trans ?_
  simp [State.setB_eq]

/-! ### Entries written (R89, R92) -/

/-- An index of a completion queue fits TAIL. -/
theorem State.cqIndex_lt (c n : Nat) : n % s.cqSize c < 2 ^ 14 :=
  (Nat.mod_lt _ (ringSize_pos _ _)).trans_le (ringSize_le (by decide))

/-- The two writes of an entry at the tail of queue `c`: bytes 0 to 11, then 12 to 15. -/
def State.entryWrites (s : State) (c : Nat) (e : Cqe) : List HostWrite :=
  let at_ := s.ringBase (0x12000 + 0x40 * c) + 16 * s.fld Reg.CQ_STATUS_TAIL c
  [⟨at_, e.head, false⟩, ⟨at_ + 12, e.tail (s.fld Reg.CQ_STATUS_PHASE c), false⟩]

/-- A queue that takes entries takes them over the link, outside stand-alone operation. -/
theorem State.linkOk_of_cqOpen {c : Nat} (ho : s.cqOpen c = true) (hs : s.pw.standalone = false) : s.linkOk = true := by
  simp only [State.cqOpen, State.canPut, hs, Bool.false_or, Bool.and_eq_true] at ho
  exact ho.2

theorem State.cqPut_hostOut (c : Nat) (e : Cqe) (hs : s.pw.standalone = false) (hl : s.linkOk = true) :
    (s.cqPut c e).hostOut = s.hostOut ++ s.entryWrites c e := by
  have hbase : Reg.CQ_BASE_LO.addr c = 0x12000 + 0x40 * c := by simp [Field.addr, Reg.CQ_BASE_LO]
  have hput (t : State) (a : Nat) (bs : List Byte) (ht : t.pw = s.pw) : (t.hostPut a bs).hostOut = t.hostOut ++ [⟨a, bs, false⟩] := by
    have hlt : t.linkOk = true := by rwa [State.linkOk, ht]
    rw [State.hostPut_host _ _ (by rwa [ht]) hlt]
  simp [State.cqPut, State.setB_eq, hput, State.entryWrites, hbase]

theorem State.cqPut_tail (c : Fin 16) (e : Cqe) : (s.cqPut c e).fld Reg.CQ_STATUS_TAIL c = (s.fld Reg.CQ_STATUS_TAIL c + 1) % s.cqSize c := by
  have hfull : ∀ c : Fin 16, Reg.CQ_STATUS_FULL.key c ≠ Reg.CQ_STATUS_TAIL.key c := by decide
  have hphase : ∀ c : Fin 16, Reg.CQ_STATUS_PHASE.key c ≠ Reg.CQ_STATUS_TAIL.key c := by decide
  simp only [State.cqPut, State.setB_eq, State.ringWrote_fld]
  rw [State.fld_setF_other _ _ _ _ _ _ (hfull c), State.fld_setF_other _ _ _ _ _ _ (hphase c), State.fld_setF_same]
  exact Nat.mod_eq_of_lt (State.cqIndex_lt _ _)

/-! ### Entries formed (R90, R96, R99) -/

theorem State.cqForm_open (c : Fin 16) (e : Cqe) (h : Nat) (ho : s.cqOpen c = true) (hh : s.hq.held = []) :
    s.cqForm c e (some h) = (s.cqPut c e).freeHandle h := by
  simp [State.cqForm, ho, hh]

theorem State.cqForm_closed (c : Fin 16) (e : Cqe) (f : Option Nat) (ho : s.cqOpen c = false) (hh : s.hq.held = []) :
    s.cqForm c e f = { s with hq := { s.hq with held := [⟨c, e, f⟩] } } := by
  simp [State.cqForm, ho, hh]

/-- The entry that ends a handle, while none waits: DONE after its ACCEPT, else ACCEPT_DONE. -/
def State.endEntry (s : State) (x : Handle) (st det r0 r1 : Nat) : Cqe :=
  ⟨x.word, x.tag, st, det, s.sqWord x.sq, r0 % 2 ^ 32, satN 24 r1, if x.accepted then 2 else 3⟩

/-- The handle marked ended. -/
def State.markDone (s : State) (h : Nat) : State := s.updHandle h (fun y => { y with done := true })

theorem State.complete_form {h : Nat} {x : Handle} (st det r0 r1 : Nat) (hx : s.handle? h = some x) (hd : x.done = false) (hh : s.hq.held = []) :
    s.complete h st det r0 r1 = (s.markDone h).cqForm x.cq (s.endEntry x st det r0 r1) (some h) := by
  simp only [State.complete, hx, hd, hh, List.any_nil, Bool.not_false, Bool.and_true, Bool.false_eq_true, if_false]
  rfl

/-- An entry leaves the tail of its queue when the handle is then freed. -/
theorem State.freeHandle_tail (c : Fin 16) (h : Nat) : (s.freeHandle h).fld Reg.CQ_STATUS_TAIL c = s.fld Reg.CQ_STATUS_TAIL c := by
  have hk : ∀ c : Fin 16, Reg.HQE_STATUS_FREE.key 0 ≠ Reg.CQ_STATUS_TAIL.key c := by decide
  rw [State.freeHandle, State.updFree, State.fld_setF_other _ _ _ _ _ _ (hk c)]
  rfl

/-- The first entry kept for a queue that takes entries is written, and frees its handle. -/
theorem exec_heldEntryWrite_open {x : HeldCqe} {h : Nat} (hh : s.hq.held = [x]) (hf : x.frees = some h) (ho : s.cqOpen x.cq = true) :
    exec (.heldEntryWrite x.cq) s = .next ((({ s with hq := { s.hq with held := [] } } : State).cqPut x.cq x.e).freeHandle h) := by
  simp [exec, execHeldEntryWrite, hh, State.writeHeld, State.writeHeld1, hf, ho]

/-! ### The coalescing time (R84) -/

/-- A vector that can be sent is sent. -/
theorem State.signal_open {v : Nat} (hv : s.vecOpen v = true) : s.signal v = { s with irqOut := s.irqOut ++ [v] } := by
  simp [State.signal, hv]

/-- The interrupt enable, the coalescing time and the vector of a ring. -/
def State.ringIrq (s : State) : RingId → Bool
  | .cq c => s.on Reg.CQ_CFG_IRQ_EN c
  | .sr r => s.on Reg.SR_CFG_IRQ_EN r

def State.ringTime (s : State) : RingId → Nat
  | .cq c => s.fld Reg.CQ_COAL_TIME_US c
  | .sr r => s.fld Reg.SR_COAL_TIME_US r

def State.ringVec (s : State) : RingId → Nat
  | .cq c => s.fld Reg.CQ_CFG_VEC c
  | .sr r => s.fld Reg.SR_CFG_VEC r

/-- The coalescing time of a ring passes: the ring's vector is signalled, its count is 0 and its timer idle. -/
theorem exec_coalTimer_due {r : RingId} (hc : s.hq.coalTimers.contains (ringNo r) = true) (hi : s.ringIrq r = true)
    (hd : s.timerDue (.coal (ringNo r)) (200 * s.ringTime r) = true) :
    exec (.coalTimer r) s = .next ((s.coalRestart (ringNo r)).signal (s.ringVec r)) := by
  cases r with
  | cq c =>
    simp only [exec, execCoalTimer, ringNo, c.isLt, if_true]
    exact if_pos (Bool.and_eq_true_iff.mpr ⟨Bool.and_eq_true_iff.mpr ⟨hi, hc⟩, hd⟩)
  | sr r =>
    have hr : ¬ 16 + r.val < 16 := by omega
    simp only [exec, execCoalTimer, ringNo, hr, if_false, Nat.add_sub_cancel_left]
    exact if_pos (Bool.and_eq_true_iff.mpr ⟨Bool.and_eq_true_iff.mpr ⟨hi, hc⟩, hd⟩)

/-- What the coalescing time of a ring leaves, where its vector can be sent. -/
theorem answers_coalTimer_due {r : RingId} (hc : s.hq.coalTimers.contains (ringNo r) = true) (hi : s.ringIrq r = true)
    (hd : s.timerDue (.coal (ringNo r)) (200 * s.ringTime r) = true) (hv : s.vecOpen (s.ringVec r) = true) :
    Answers (.coalTimer r) s (fun t => t.irqOut = s.irqOut ++ [s.ringVec r] ∧ t.hq.coalTimers.contains (ringNo r) = false ∧
      Store.read 0 t.hq.coal (ringNo r) = 0 ∧ t.regs = s.regs ∧ t.mem = s.mem) := by
  have hsig : (s.coalRestart (ringNo r)).signal (s.ringVec r) = { s.coalRestart (ringNo r) with irqOut := s.irqOut ++ [s.ringVec r] } :=
    State.signal_open hv
  refine ⟨_, exec_coalTimer_due hc hi hd, ?_⟩
  rw [hsig]
  refine ⟨rfl, ?_, ?_, rfl, rfl⟩
  · simp [State.coalRestart]
  · simp [State.coalRestart, Store.read_erase]

/-! ### Settled -/

/-- Settles O8, from the two ways in which an entry is formed, the write of a kept entry, and the coalescing time of a ring. -/
theorem completionEntries : Obligations.CompletionEntries := by
  unfold Obligations.CompletionEntries
  refine ⟨?_, ?_, ?_, ?_, ?_⟩
  · intro s h st det r0 r1 x hx hd ha ho hh hs hr0 hr1 t tail at_
    have ht : t = ((s.markDone h).cqPut x.cq (s.endEntry x st det r0 r1)).freeHandle h :=
      (State.complete_form st det r0 r1 hx hd hh).trans (State.cqForm_open _ _ _ ho hh)
    have hput := State.cqPut_hostOut (s := s.markDone h) x.cq (s.endEntry x st det r0 r1) hs (State.linkOk_of_cqOpen ho hs)
    have hsat : satN 24 r1 = r1 := Nat.min_eq_left (by omega)
    refine ⟨?_, ?_, ?_, ?_, ?_⟩
    · rw [ht, State.freeHandle_hostOut, hput]
      simp only [State.entryWrites, State.endEntry, Cqe.head, Cqe.tail, ha, if_true, hsat, Nat.mod_eq_of_lt hr0]
      rfl
    · rw [ht, State.freeHandle_tail, State.cqPut_tail]
      rfl
    · rw [ht, State.handle?_freeHandle]
    · exact State.complete_mem _ _ _ _ _ hs
    · exact fun G j hG => State.complete_fld _ _ _ _ _ _ ⟨hG, .inl hs⟩
  · intro s h st det r0 r1 x hx hd ho hh t
    have ht : t = { s.markDone h with hq := { (s.markDone h).hq with held := [⟨x.cq, s.endEntry x st det r0 r1, some h⟩] } } :=
      (State.complete_form st det r0 r1 hx hd hh).trans (State.cqForm_closed _ _ _ ho hh)
    have hkept : t.handle? h = some { x with done := true } := by
      rw [ht]
      exact State.handle?_updHandle (f := fun y => { y with done := true }) (fun _ => rfl) hx
    refine ⟨⟨s.endEntry x st det r0 r1, by rw [ht], rfl, rfl, rfl, ?_⟩, by rw [hkept]; rfl, by rw [ht]; rfl, by rw [ht]; rfl, by rw [ht]; rfl⟩
    show 2 ≤ if x.accepted then 2 else 3
    split <;> decide
  · intro s x h n a hh hf ho hs hn ha
    subst hn ha
    refine ⟨_, exec_heldEntryWrite_open hh hf ho, ?_, State.handle?_freeHandle _, ?_, ?_, ?_⟩
    · exact State.cqPut_keeps (g := Hqe.held) (fun _ _ _ _ => rfl) _ _
    · exact (State.freeHandle_mem _ _).trans (State.cqPut_mem _ _ hs)
    · exact (State.freeHandle_hostOut _ _).trans (State.cqPut_hostOut _ _ hs (State.linkOk_of_cqOpen ho hs))
    · exact (State.freeHandle_tail _ _).trans (State.cqPut_tail _ _)
  · intro s c hc hi hd hv
    exact answers_coalTimer_due (r := .cq c) hc hi hd hv
  · intro s r hc hi hd hv
    exact answers_coalTimer_due (r := .sr r) hc hi hd hv

end Sys2Proof.Machine
end

section
/-! SUPPORT. Information commands (O9): NOP, the bytes of IDENTIFY and the buffer that takes them, and the holder that QUERY names. -/

namespace Sys2Proof.Machine

variable {s : State}

/-! ### The command of a handle (R95) -/

theorem State.handle?_idx {h : Nat} {x : Handle} (hx : s.handle? h = some x) : x.idx = h := by
  simpa using List.find?_some hx

/-- A command released to its unit is that of its holder. -/
theorem State.handle?_of_cmd? {h op : Nat} {x : Handle} (hc : s.cmd? h op = some x) : s.handle? h = some x := by
  unfold State.cmd? at hc
  split at hc
  · rename_i y hy
    split at hc
    · rwa [← Option.some.inj hc]
    · cases hc
  · cases hc

theorem State.cmd?_idx {h op : Nat} {x : Handle} (hc : s.cmd? h op = some x) : x.idx = h :=
  State.handle?_idx (State.handle?_of_cmd? hc)

theorem exec_nop {h : Fin 256} {x : Handle} (hc : s.cmd? h.val 0x00 = some x) : exec (.nop h) s = .next (s.complete h.val stOk 0 0 0) := by
  simp only [exec, execNop, hc]

/-! ### IDENTIFY (R105, R496) -/

theorem State.identify_length : s.identify.length = 256 := by
  simp only [State.identify, List.length_append, leBytes_length, zeros, List.length_replicate]

@[simp] theorem State.dataPut_handle? (e a : Nat) (bs : List Byte) (i : Nat) : (s.dataPut e a bs).handle? i = s.handle? i := by
  rw [State.handle?, State.dataPut_hq, State.handle?]

@[simp] theorem State.putSegs_handle? (e : Nat) (l : List (Nat × Nat)) (bs : List Byte) (i : Nat) : (s.putSegs e l bs).handle? i = s.handle? i := by
  induction l generalizing s bs with
  | nil => rfl
  | cons x l ih =>
    rw [State.putSegs]
    split
    · rfl
    · rw [ih, State.dataPut_handle?]

/-- One segment that holds every byte takes them in one write. -/
theorem State.putSegs_one (e a n : Nat) {bs : List Byte} (hb : bs ≠ []) (hn : bs.length ≤ n) : s.putSegs e [(a, n)] bs = s.dataPut e a bs := by
  simp [State.putSegs, hb, List.take_of_length_le hn]

/-- Outside stand-alone operation a command without a list has the one segment that its entry names. -/
theorem State.buffer_plain {x : Handle} (d : CmdData) (hc : x.chain = false) (hs : s.pw.standalone = false) :
    s.buffer x d = (([(x.ptr0, x.len0)], .whole), s) := by
  simp [State.buffer, State.clipBuffer, hc, hs]

/-- IDENTIFY gives its bytes to the buffer that its command names. -/
theorem exec_identify {v : State} {h : Fin 256} {d : CmdData} {x : Handle} {b : Buffer} (hc : s.cmd? h.val 0x01 = some x)
    (hb : s.buffer x d = (b, v)) : exec (.identify h d) s = .next (v.giveTo x b s.identify stOk 0 256 0) := by
  simp only [exec, execIdentify, hc, State.giveData, hb, State.identify_length]

/-! ### Reading a list leaves the queue engines (R88, R110) -/

@[simp] theorem State.intRead_hq (a n : Nat) : (s.intRead a n).2.hq = s.hq := by
  unfold State.intRead
  split
  · rfl
  · split
    · rfl
    · split
      · exact State.linesRead_hq _ _ _
      · split <;> rfl

theorem State.chainAt_hq (fuel a left : Nat) : (s.chainAt fuel a left).2.hq = s.hq := by
  induction fuel generalizing s a left with
  | zero => rfl
  | succ fuel ih =>
    have hread := State.intRead_hq (s := s) a 16
    rw [State.chainAt]
    split
    · rfl
    · split
      · rename_i e
        rw [e] at hread
        dsimp only
        split
        · exact hread
        · split <;> exact (ih _ _).trans hread
      · rename_i e
        rwa [e] at hread

theorem State.listAt_hq (ptr count : Nat) (d : CmdData) : (s.listAt ptr count d).2.hq = s.hq := by
  unfold State.listAt
  split
  · exact State.chainAt_hq _ _ _
  · rfl

theorem State.buffer_hq (x : Handle) (d : CmdData) : (s.buffer x d).2.hq = s.hq := by
  have hlist := State.listAt_hq (s := s) x.ptr0 x.len0 d
  cases hc : x.chain <;> simp [State.buffer, State.listBuffer, hc, hlist]

theorem State.handle?_congr {t : State} (h : t.hq = s.hq) (i : Nat) : t.handle? i = s.handle? i := by
  rw [State.handle?, h, State.handle?]

/-- What a command that gives bytes does, by its buffer (R105, R496): the bytes where they fit; none in a whole buffer too short; the good segments' part before a fault. -/
theorem State.giveTo_fits {x : Handle} {b : Buffer} {bs : List Byte} (st det r0 r1 : Nat) (hl : bs.length ≤ segsLen b.1) :
    s.giveTo x b bs st det r0 r1 = (s.putSegs x.engine b.1 bs).complete x.idx st det r0 r1 := if_pos hl

theorem State.giveTo_short {x : Handle} {b : Buffer} {bs : List Byte} (st det r0 r1 : Nat) (hl : segsLen b.1 < bs.length) (hb : b.2 = .whole) :
    s.giveTo x b bs st det r0 r1 = s.complete x.idx stNoSpace 0 0 0 := by
  rw [State.giveTo, if_neg (Nat.not_le.mpr hl), hb, if_pos rfl]
  rfl

theorem State.giveTo_fault {x : Handle} {b : Buffer} {bs : List Byte} {f i : Nat} (st det r0 r1 : Nat) (hl : segsLen b.1 < bs.length)
    (hb : b.2 = .fault f i) : s.giveTo x b bs st det r0 r1 = (s.putSegs x.engine b.1 bs).complete x.idx stInvalid f i 0 := by
  rw [State.giveTo, if_neg (Nat.not_le.mpr hl), hb, if_neg (by simp)]
  rfl

/-! ### QUERY (R105) -/

/-- QUERY of a handle that is held, of the generation named: the next two free values. -/
theorem exec_query_held {h : Fin 256} {x y : Handle} (hc : s.cmd? h.val 0x03 = some x) (hy : s.handle? (x.p 0 % 256) = some y)
    (hg : y.gen = x.p 0 / 256 % 256) : exec (.query h) s =
      .next (((s.freeVal 32).2.freeVal 24).2.complete h.val stOk 0 (s.freeVal 32).1 ((s.freeVal 32).2.freeVal 24).1) := by
  simp only [exec, execQuery, hc, hy, if_pos hg]

/-- QUERY of a handle that is not held, or of another generation. -/
theorem exec_query_stale {h : Fin 256} {x : Handle} (hc : s.cmd? h.val 0x03 = some x)
    (hn : ∀ y, s.handle? (x.p 0 % 256) = some y → y.gen ≠ x.p 0 / 256 % 256) : exec (.query h) s = .next (s.complete h.val stStale 0 0 0) := by
  simp only [exec, execQuery, hc]
  split
  · rename_i y hy
    rw [if_neg (hn y hy)]
  · rfl

/-! ### Settled -/

/-- Settles O9, clause by clause from what each command does. -/
theorem informationCommands : Obligations.InformationCommands := by
  unfold Obligations.InformationCommands
  refine ⟨?_, ?_, ?_, ?_, ?_, ?_⟩
  · exact fun s h x hc => Ends.of_exec (exec_nop hc)
  · exact fun s => State.identify_length
  · intro s h d x hc hch hs
    have hrun := exec_identify hc (State.buffer_plain d hch hs)
    refine ⟨fun hl => ?_, fun hl => ?_⟩
    · rw [State.giveTo_fits _ _ _ _ (by simpa [segsLen, State.identify_length] using hl), State.cmd?_idx hc,
        State.putSegs_one _ _ _ (List.ne_nil_of_length_eq_add_one State.identify_length) (State.identify_length.trans_le hl)] at hrun
      exact ⟨_, hrun, State.dataPut_handle? _ _ _ _, rfl⟩
    · rw [State.giveTo_short _ _ _ _ (by simpa [segsLen, State.identify_length] using hl) rfl, State.cmd?_idx hc] at hrun
      exact Ends.of_exec hrun
  · intro s v h d x b hc hb
    have hrun := exec_identify hc hb
    have hv : v.handle? h.val = s.handle? h.val := State.handle?_congr (by rw [← State.buffer_hq (s := s) x d, hb]) _
    refine ⟨fun hl => ?_, fun hl he => ?_, fun det i hl he => ?_⟩
    · rw [State.giveTo_fits _ _ _ _ (State.identify_length.trans_le hl), State.cmd?_idx hc] at hrun
      exact ⟨_, hrun, (State.putSegs_handle? _ _ _ _).trans hv, rfl⟩
    · rw [State.giveTo_short _ _ _ _ (hl.trans_eq State.identify_length.symm) he, State.cmd?_idx hc] at hrun
      exact ⟨_, hrun, hv, rfl⟩
    · rw [State.giveTo_fault _ _ _ _ (hl.trans_eq State.identify_length.symm) he, State.cmd?_idx hc] at hrun
      exact ⟨_, hrun, (State.putSegs_handle? _ _ _ _).trans hv, rfl⟩
  · intro s h x y hc hy
    refine ⟨fun hg => ⟨_, exec_query_held hc hy hg, rfl, rfl⟩, fun hg => Ends.of_exec (exec_query_stale hc fun z hz => ?_)⟩
    rwa [← Option.some.inj (hy.symm.trans hz)]
  · intro s h x hc hn
    exact Ends.of_exec (exec_query_stale hc fun y hy => absurd (hn.symm.trans hy) (by simp))

end Sys2Proof.Machine
end

section
/-! SUPPORT. Writes of queue registers (O7): the fields that lie at each register, what each takes of a write and what it starts. -/

namespace Sys2Proof.Machine

variable {s o t : State}

/-! ### A write that is applied at once (R68) -/

/-- A register of the queue engines lies in no window. -/
theorem siteAt_of_fields {off : Nat} {x : Field × Nat} {fs : List (Field × Nat)} (ho : off < 0xF2000) (h4 : off % 4 = 0) (hf : fieldsAt off = x :: fs) :
    siteAt off = .reg (x :: fs) := by
  have he : off / 4 * 4 = off := by omega
  unfold siteAt
  rw [if_neg (by omega), if_neg (by omega), if_neg (by omega), if_neg (by omega), if_neg (by omega), he, hf]

/-- A write whose island answers, with none waiting in its crossing, writes the fields that lie at its offset. -/
theorem State.effect_fields {ini : Initiator} {off v : Nat} {fs : List (Field × Nat)} (ha : s.answers off = true) (hx : s.crossing off = false)
    (hf : siteAt off = .reg fs) (hv : off < 0xF0200) : s.effect ini off v = s.putFields ini off v fs := by
  have hw : s.awake = true := by
    rw [State.answers, Bool.and_eq_true] at ha
    exact ha.1
  have hv' : ¬ (0xF0200 ≤ off ∧ off < 0xF0280) := by omega
  simp [State.effect, hw, ha, hx, State.writeWord, hf, hv']

/-- A field that takes a value stores it. -/
theorem State.putField_takes {ini : Initiator} {v y i : Nat} {F : Field} {b b' : Bool} (hty : F.ty = .rwp)
    (ht : o.take s ini F i (F.cut v) = (some y, b')) (ha : actsOnly F = false) : o.putField ini v (s, b) F i = (s.setF F y i, b || b') := by
  simp [State.putField, hty, ht, ha]

/-- A field that takes none keeps its value. -/
theorem State.putField_keeps {ini : Initiator} {v i : Nat} {F : Field} {b b' : Bool} (hty : F.ty = .rwp)
    (ht : o.take s ini F i (F.cut v) = (none, b')) : o.putField ini v (s, b) F i = (s, b || b') := by
  simp [State.putField, hty, ht]

/-- A write with no field out of its stated range: the fields take their values, LOCKVIOL is set where one refuses, and what they start follows. -/
theorem State.putFields_inRange {ini : Initiator} {off v : Nat} {fs : List (Field × Nat)} {u : State} {bad : Bool}
    (hr : fs.any (s.rangeBreak ini v) = false) (hp : fs.foldl (fun a x => s.putField ini v a x.1 x.2) (s, false) = (u, bad)) :
    s.putFields ini off v fs = fs.foldl (fun t x => s.act ini off v t x.1 x.2) (if bad then u.regErr errLock ini off true else u) := by
  simp only [State.putFields, hr, hp, Bool.false_eq_true, if_false]

/-- The write of a register of one field that takes it. -/
theorem State.putFields_takes {ini : Initiator} {off v y i : Nat} {F : Field} (hr : [(F, i)].any (s.rangeBreak ini v) = false) (hty : F.ty = .rwp)
    (ha : actsOnly F = false) (ht : s.take s ini F i (F.cut v) = (some y, false)) :
    s.putFields ini off v [(F, i)] = s.act ini off v (s.setF F y i) F i :=
  State.putFields_inRange (bad := false) hr (State.putField_takes hty ht ha)

/-- The write of a register of one field that refuses it. -/
theorem State.putFields_refuses {ini : Initiator} {off v i : Nat} {F : Field} (hr : [(F, i)].any (s.rangeBreak ini v) = false) (hty : F.ty = .rwp)
    (ht : s.take s ini F i (F.cut v) = (none, true)) :
    s.putFields ini off v [(F, i)] = s.act ini off v (s.regErr errLock ini off true) F i :=
  State.putFields_inRange (bad := true) hr (State.putField_keeps hty ht)

theorem State.act_hqe {ini : Initiator} {off v i : Nat} {F : Field} (h : rowOf off = 2) : s.act ini off v t F i = s.actHqe t F i (F.cut v) := by
  simp only [State.act, h, if_true]

/-! ### What a field takes (R66) -/

/-- The fields that hardware takes over while a calibration runs. -/
def ownedFields : List Field := [Reg.SAD_CAL_OFS, Reg.SAD_CAL_GAIN, Reg.TIU_CAL_TAB, Reg.CAL_RX_TRIM, Reg.CAL_SP_TRIM, Reg.CAL_DAC_TRIM]

theorem trimReg_owned (l p : Nat) : (trimReg l p).1 ∈ ownedFields := by
  unfold trimReg
  split
  · simp [ownedFields]
  · split <;> simp [ownedFields]

theorem State.hwOwned_other {F : Field} (i : Nat) (h : F ∉ ownedFields) : o.hwOwned F i = false := by
  have ht (l p : Nat) : (trimReg l p == (F, i)) = false := beq_eq_false_iff_ne.mpr fun e => h (by simpa [e] using trimReg_owned l p)
  simp only [ownedFields, List.mem_cons, not_or] at h
  obtain ⟨hofs, hgain, htab, -⟩ := h
  cases hv : o.cal.visit <;> simp [State.hwOwned, hofs, hgain, htab, hv, ht]

theorem State.ringEn_sq {F : Field} {q : Nat} (hF : F.off < 0x12000) : s.ringEn F q = s.on Reg.SQ_CFG_EN q := if_pos hF

/-- A field that its queue's EN locks takes any value while the queue is off (R66). -/
theorem State.take_queueEn {ini : Initiator} {F : Field} {i : Nat} (x : Nat) (hl : F.lock = .queueEn) (he : o.ringEn F i = false) :
    o.take s ini F i x = (some x, false) := by
  simp [State.take, hl, he, lockIf]

/-! ### Fields that lie apart -/

/-- Two fields that repeat every 64 bytes, or lie in one place, and which take different places of those 64 bytes. -/
def Field.apart (F G : Field) : Bool :=
  F.stride % 64 == 0 && F.stride2 % 64 == 0 && G.stride % 64 == 0 && G.stride2 % 64 == 0 && (F.off * 32 + F.lsb) % 2048 != (G.off * 32 + G.lsb) % 2048

theorem Field.key_mod {F : Field} (h : F.stride % 64 = 0) (h2 : F.stride2 % 64 = 0) (i : Nat) : F.key i % 2048 = (F.off * 32 + F.lsb) % 2048 := by
  obtain ⟨a, ha⟩ := Nat.dvd_of_mod_eq_zero h
  obtain ⟨b, hb⟩ := Nat.dvd_of_mod_eq_zero h2
  have hk : F.key i = F.off * 32 + F.lsb + 2048 * (a * (i / F.n2) + b * (i % F.n2)) := by
    rw [Field.key, Field.addr, ha, hb]
    ring
  rw [hk, Nat.add_mul_mod_self_left]

/-- Fields that lie apart have different keys, whatever their places. -/
theorem State.fld_setF_apart {F G : Field} {v i j : Nat} (h : F.apart G = true) : (s.setF F v i).fld G j = s.fld G j := by
  simp only [Field.apart, Bool.and_eq_true, beq_iff_eq, bne_iff_ne] at h
  obtain ⟨⟨⟨⟨hF, hF2⟩, hG⟩, hG2⟩, hne⟩ := h
  refine State.fld_setF_other _ _ _ _ _ _ fun e => hne ?_
  rw [← Field.key_mod hF hF2 i, ← Field.key_mod hG hG2 j, e]

/-! ### A register error leaves the queue engines' registers (R76) -/

/-- The key of a register field of the HQE block. -/
def Field.inHqe (k : Nat) : Prop := 0x200000 ≤ k ∧ k < 0x400000

theorem State.fld_setF_notHqe {F G : Field} {i j : Nat} (v : Nat) (hG : Field.inHqe (G.key j)) (hF : Field.notHqe (F.key i)) :
    (s.setF F v i).fld G j = s.fld G j :=
  State.fld_setF_other _ _ _ _ _ _ fun e => by
    rw [Field.notHqe, e] at hF
    obtain ⟨hlo, hhi⟩ := hG
    omega

/-- The log's own fields lie outside the HQE block. -/
theorem State.logPut_fld_hqe {G : Field} {j : Nat} (hG : Field.inHqe (G.key j)) (a b c d : Nat) (bs : List Byte) :
    (s.logPut a b c d bs).fld G j = s.fld G j := by
  obtain ⟨hlo, hhi⟩ := hG
  have h1 : 0x400000 ≤ Reg.SUM_LOG_NEWEST.key 0 := by decide
  have h2 : 0x400000 ≤ Reg.SUM_LOG_OLDEST.key 0 := by decide
  exact State.logPut_fld _ _ _ _ _ _ (by omega) (by omega)

/-- The fields that capture an error, and its address and initiator: only in GLB. -/
theorem State.regErr_fld_hqe {G : Field} {j : Nat} (hG : Field.inHqe (G.key j)) (ini : Initiator) (off : Nat) (wr : Bool) :
    (s.regErr errLock ini off wr).fld G j = s.fld G j := by
  unfold State.regErr
  extract_lets adr info s1 s2 dat put
  have h1 : s1.fld G j = s.fld G j := by
    simp only [s1]
    split
    · rw [State.fld_setF_notHqe _ hG (.inl (by decide)), State.setB_eq,
        State.fld_setF_notHqe _ hG (.inl (by decide)), State.fld_setF_notHqe _ hG (.inl (by decide)),
        State.fld_setF_notHqe _ hG (.inl (by decide)), State.fld_setF_notHqe _ hG (.inl (by decide))]
    · exact State.fld_setF_notHqe _ hG (.inl (by decide))
  have h2 : s2.fld G j = s.fld G j := by
    simp only [s2, State.signal_fld, State.incF_eq]
    rw [State.fld_setF_notHqe _ hG (.inl (by decide)), State.fld_setF_notHqe _ hG (.inl (by decide)), h1]
  have hput : (put s2).fld G j = s.fld G j := (State.logPut_fld_hqe hG _ _ _ _ _).trans h2
  split
  · split
    · rw [State.incF_eq, State.fld_setF_notHqe _ hG (.inr (by decide)), h2]
    · exact hput
  · exact hput

/-- A lock violation is shown. -/
theorem State.regErr_lockViol (ini : Initiator) (off : Nat) (wr : Bool) : (s.regErr errLock ini off wr).fld Reg.GLB_ERR_STATUS_LOCKVIOL = 1 := by
  unfold State.regErr
  extract_lets adr info s1 s2 dat put
  have h2 : s2.fld Reg.GLB_ERR_STATUS_LOCKVIOL = 1 := by
    simp only [s2, State.signal_fld, State.incF_eq]
    rw [State.fld_setF_other _ _ _ _ _ _ (by decide)]
    exact State.fld_setF_same _ _ 1 0
  have hput : (put s2).fld Reg.GLB_ERR_STATUS_LOCKVIOL = 1 := (State.logPut_fld _ _ _ _ _ _ (by decide) (by decide)).trans h2
  split
  · split
    · rw [State.incF_eq, State.fld_setF_other _ _ _ _ _ _ (by decide), h2]
    · exact hput
  · exact hput

/-! ### HQE_WDOG and HQE_CTO (R85) -/

theorem siteAt_wdog : siteAt 0x10008 = .reg [(Reg.HQE_WDOG, 0)] := by
  have hf : fieldsAt 0x10008 = [(Reg.HQE_WDOG, 0)] := rfl
  simp [siteAt, hf]

theorem siteAt_cto : siteAt 0x1000C = .reg [(Reg.HQE_CTO, 0)] := by
  have hf : fieldsAt 0x1000C = [(Reg.HQE_CTO, 0)] := rfl
  simp [siteAt, hf]

/-- The write of a register of one field whose write starts nothing: the field takes its value, or refuses it with LOCKVIOL. -/
theorem State.putFields_inert {ini : Initiator} {off v x i : Nat} {F : Field} {bad : Bool} (hr : [(F, i)].any (s.rangeBreak ini v) = false)
    (hty : F.ty = .rwp) (ha : actsOnly F = false) (hx : F.cut v = x) (ht : s.take s ini F i x = refuseIf bad x)
    (hact : ∀ t, s.act ini off v t F i = t) :
    s.putFields ini off v [(F, i)] = if bad then s.regErr errLock ini off true else s.setF F x i := by
  subst hx
  cases bad with
  | false => exact (State.putFields_takes hr hty ha ht).trans (hact _)
  | true => exact (State.putFields_refuses hr hty ht).trans (hact _)

theorem exec_wdogWrite {ini : Initiator} {v : Word} (ha : s.answers 0x10008 = true) (hx : s.crossing 0x10008 = false) :
    exec (.hqeWdogWrite ini false v) s = .next
      (if decide (v.toNat % 65536 < 100) || decide (v.toNat % 65536 < 10 * s.fld Reg.HQE_CTO) || decide (60000 < v.toNat % 65536) then
        s.regErr errLock ini 0x10008 true else s.setF Reg.HQE_WDOG (v.toNat % 65536)) := by
  have hcut : Reg.HQE_WDOG.cut v.toNat = v.toNat % 65536 := by simp [Field.cut, Field.width, Reg.HQE_WDOG]
  show Host.Outcome.next (s.effect ini 0x10008 v.toNat) = _
  rw [State.effect_fields ha hx siteAt_wdog (by decide), State.putFields_inert rfl rfl rfl hcut rfl fun _ => State.act_hqe rfl]

theorem exec_ctoWrite {ini : Initiator} {v : Word} (ha : s.answers 0x1000C = true) (hx : s.crossing 0x1000C = false) :
    exec (.hqeWdogWrite ini true v) s = .next
      (if v.toNat % 128 == 0 || decide (100 < v.toNat % 128) || decide (s.fld Reg.HQE_WDOG < 10 * (v.toNat % 128)) then
        s.regErr errLock ini 0x1000C true else s.setF Reg.HQE_CTO (v.toNat % 128)) := by
  have hcut : Reg.HQE_CTO.cut v.toNat = v.toNat % 128 := by simp [Field.cut, Field.width, Reg.HQE_CTO]
  show Host.Outcome.next (s.effect ini 0x1000C v.toNat) = _
  rw [State.effect_fields ha hx siteAt_cto (by decide), State.putFields_inert rfl rfl rfl hcut rfl fun _ => State.act_hqe rfl]

/-! ### SQ_CFG (R85, R495) -/

theorem fieldsAt_sqCfg : ∀ q : Fin 16, fieldsAt (0x11008 + 0x40 * q.val) =
    [(Reg.SQ_CFG_LOG2SIZE, q.val), (Reg.SQ_CFG_CQ, q.val), (Reg.SQ_CFG_EN, q.val)] := by
  decide

theorem siteAt_sqCfg (q : Fin 16) : siteAt (0x11008 + 0x40 * q.val) =
    .reg [(Reg.SQ_CFG_LOG2SIZE, q.val), (Reg.SQ_CFG_CQ, q.val), (Reg.SQ_CFG_EN, q.val)] :=
  siteAt_of_fields (by omega) (by omega) (fieldsAt_sqCfg q)

theorem rowOf_sqCfg : ∀ q : Fin 16, rowOf (0x11008 + 0x40 * q.val) = 2 := by decide

/-- What the write of SQ_CFG stores of the queue's size and its completion queue, while the queue is off. -/
def State.sqCfgPut (s : State) (q v : Nat) : State :=
  (s.setF Reg.SQ_CFG_LOG2SIZE (Reg.SQ_CFG_LOG2SIZE.cut v) q).setF Reg.SQ_CFG_CQ (v / 2 ^ 8 % 16) q

theorem State.sqCfgPut_cq (q v : Nat) : (s.sqCfgPut q v).fld Reg.SQ_CFG_CQ q = v / 2 ^ 8 % 16 := by
  rw [State.sqCfgPut, State.fld_setF_same]
  exact Nat.mod_mod _ _

/-- EN written 1 on a queue that is off: taken where the completion queue belongs to the queue's engine, refused with LOCKVIOL where it does not (R85). -/
theorem State.take_sqEn {ini : Initiator} {q : Nat} (hen : o.fld Reg.SQ_CFG_EN q = 0) :
    o.take s ini Reg.SQ_CFG_EN q 1 = if s.fld Reg.SQ_CFG_CQ q / 8 ≠ q / 8 then (none, true) else (some 1, false) := by
  have hread : o.readField Reg.SQ_CFG_EN q = 0 := hen
  have hlock : Reg.SQ_CFG_EN.lock = .free := rfl
  have hmsg : Reg.SQ_CFG_EN ≠ Reg.RDG_MSG := by decide
  simp [State.take, hread, hlock, hmsg, State.hwOwned_other q (show Reg.SQ_CFG_EN ∉ ownedFields by decide)]

/-- What the write of SQ_CFG with EN = 1 leaves on a queue that is off, before its indices are cleared. -/
def State.sqCfgWritten (s : State) (ini : Initiator) (q v : Nat) : State :=
  if v / 2 ^ 8 % 16 / 8 ≠ q / 8 then (s.sqCfgPut q v).regErr errLock ini (0x11008 + 0x40 * q) true else (s.sqCfgPut q v).setF Reg.SQ_CFG_EN 1 q

/-- A new size clears the indices of the queue (R495). -/
def State.sqResized (s t : State) (q v : Nat) : State :=
  if Reg.SQ_CFG_LOG2SIZE.cut v == s.fld Reg.SQ_CFG_LOG2SIZE q then t else (t.setF Reg.SQ_STATUS_HEAD 0 q).setF Reg.SQ_STATUS_TAIL 0 q

/-- The fields of SQ_CFG written with EN = 1, while the queue is off. -/
theorem State.sqCfg_fields {ini : Initiator} {q v : Nat} (hen : s.fld Reg.SQ_CFG_EN q = 0) (hv : v / 2 ^ 16 % 2 = 1) :
    [(Reg.SQ_CFG_LOG2SIZE, q), (Reg.SQ_CFG_CQ, q), (Reg.SQ_CFG_EN, q)].foldl (fun a x => s.putField ini v a x.1 x.2) (s, false) =
      if v / 2 ^ 8 % 16 / 8 ≠ q / 8 then (s.sqCfgPut q v, true) else ((s.sqCfgPut q v).setF Reg.SQ_CFG_EN 1 q, false) := by
  have hoff : s.on Reg.SQ_CFG_EN q = false := by rw [State.on, hen]; rfl
  have hcut : Reg.SQ_CFG_EN.cut v = 1 := hv
  have htake := State.take_sqEn (s := s.sqCfgPut q v) (ini := ini) hen
  rw [State.sqCfgPut_cq, ← hcut] at htake
  have hlog : s.ringEn Reg.SQ_CFG_LOG2SIZE q = false := (State.ringEn_sq (by decide)).trans hoff
  have hcq : s.ringEn Reg.SQ_CFG_CQ q = false := (State.ringEn_sq (by decide)).trans hoff
  rw [List.foldl_cons, State.putField_takes rfl (State.take_queueEn _ rfl hlog) rfl, List.foldl_cons,
    State.putField_takes rfl (State.take_queueEn _ rfl hcq) rfl]
  show s.putField ini v (s.sqCfgPut q v, false) Reg.SQ_CFG_EN q = _
  split at htake
  · rw [State.putField_keeps rfl htake, if_pos ‹_›]
    rfl
  · rw [State.putField_takes rfl htake rfl, if_neg ‹_›, hcut]
    rfl

/-- What they start: a new size clears the indices, and EN ends the stop on a fetch error. -/
theorem State.sqCfg_acts {ini : Initiator} {q : Fin 16} {v : Nat} (hen : s.fld Reg.SQ_CFG_EN q = 0) (hv : v / 2 ^ 16 % 2 = 1) (t : State) :
    [(Reg.SQ_CFG_LOG2SIZE, q.val), (Reg.SQ_CFG_CQ, q.val), (Reg.SQ_CFG_EN, q.val)].foldl
      (fun t x => s.act ini (0x11008 + 0x40 * q.val) v t x.1 x.2) t = (s.sqResized t q v).setF Reg.SQ_STATUS_FETCH_ERR 0 q := by
  have hoff : s.ringEn Reg.SQ_CFG_LOG2SIZE q = false := by
    rw [State.ringEn_sq (by decide), State.on, hen]
    rfl
  have hsize : s.actHqe t Reg.SQ_CFG_LOG2SIZE q (Reg.SQ_CFG_LOG2SIZE.cut v) = s.sqResized t q v := by
    show (if (s.ringEn Reg.SQ_CFG_LOG2SIZE q || false || (Reg.SQ_CFG_LOG2SIZE.cut v == s.fld Reg.SQ_CFG_LOG2SIZE q)) = true then t else _) = _
    rw [hoff]
    rfl
  have hcq (u : State) : s.actHqe u Reg.SQ_CFG_CQ q (Reg.SQ_CFG_CQ.cut v) = u := by
    show (if (s.ringEn Reg.SQ_CFG_CQ q || true || _) = true then u else _) = u
    rw [Bool.or_true]
    rfl
  have hact (u : State) : s.actHqe u Reg.SQ_CFG_EN q (Reg.SQ_CFG_EN.cut v) = u.setF Reg.SQ_STATUS_FETCH_ERR 0 q := by
    have hcut : Reg.SQ_CFG_EN.cut v = 1 := hv
    show u.sqEnable q (s.fld Reg.SQ_CFG_EN q == 1) (Reg.SQ_CFG_EN.cut v == 1) = _
    rw [hen, hcut]
    rfl
  simp only [List.foldl_cons, List.foldl_nil, State.act_hqe (rowOf_sqCfg q), hsize, hcq, hact]

theorem exec_sqEnableWrite {ini : Initiator} {q : Fin 16} {v : Word} (ha : s.answers (0x11008 + 0x40 * q.val) = true)
    (hx : s.crossing (0x11008 + 0x40 * q.val) = false) (hen : s.fld Reg.SQ_CFG_EN q = 0) (hv : v.toNat / 2 ^ 16 % 2 = 1) :
    exec (.sqEnableWrite ini q v) s =
      .next ((s.sqResized (s.sqCfgWritten ini q v.toNat) q v.toNat).setF Reg.SQ_STATUS_FETCH_ERR 0 q) := by
  have hput := State.sqCfg_fields (ini := ini) hen hv
  show Host.Outcome.next (s.effect ini (0x11008 + 0x40 * q.val) v.toNat) = _
  rw [State.effect_fields ha hx (siteAt_sqCfg q) (by omega)]
  split at hput
  · rename_i hq
    rw [State.putFields_inRange rfl hput, State.sqCfg_acts hen hv, State.sqCfgWritten, if_pos hq, if_pos rfl]
  · rename_i hq
    rw [State.putFields_inRange rfl hput, State.sqCfg_acts hen hv, State.sqCfgWritten, if_neg hq, if_neg Bool.false_ne_true]

/-! ### SQ_BASE_LO (R74, R85, R495) -/

theorem fieldsAt_sqBase : ∀ q : Fin 16, fieldsAt (0x11000 + 0x40 * q.val) = [(Reg.SQ_BASE_LO, q.val)] := by decide

theorem siteAt_sqBase (q : Fin 16) : siteAt (0x11000 + 0x40 * q.val) = .reg [(Reg.SQ_BASE_LO, q.val)] :=
  siteAt_of_fields (by omega) (by omega) (fieldsAt_sqBase q)

theorem rowOf_sqBase : ∀ q : Fin 16, rowOf (0x11000 + 0x40 * q.val) = 2 := by decide

theorem addr_sqBase (q : Nat) : Reg.SQ_BASE_LO.addr q = 0x11000 + 0x40 * q := by simp [Field.addr, Reg.SQ_BASE_LO]

theorem cut_sqBase (v : Word) : Reg.SQ_BASE_LO.cut v.toNat = v.toNat / 64 := by
  have hv := v.isLt
  show v.toNat / 2 ^ 6 % 2 ^ 26 = v.toNat / 64
  omega

theorem exec_ringConfigWrite_sqBase {ini : Initiator} {q : Fin 16} {v : Word} (ha : s.answers (0x11000 + 0x40 * q.val) = true)
    (hx : s.crossing (0x11000 + 0x40 * q.val) = false) :
    exec (.ringConfigWrite ini (0x11000 + 0x40 * q.val) v) s = .next (s.putFields ini (0x11000 + 0x40 * q.val) v.toNat [(Reg.SQ_BASE_LO, q.val)]) := by
  have hq : (fieldsAt (0x11000 + 0x40 * q.val)).any (fun x => x.1.lock == .queueEn) = true := by
    rw [fieldsAt_sqBase]
    rfl
  show Host.Outcome.next (if _ then _ else _) = _
  rw [if_pos hq, State.effect_fields ha hx (siteAt_sqBase q) (by omega)]

/-- A ring base in effect. -/
def State.setBase (s : State) (off L : Nat) : State := { s with hq := { s.hq with bases := Store.write 0 s.hq.bases off L } }

/-- Both halves come into effect (R74). The pair is named by an equation, for the kernel would unfold its product by 2³² to compare it. -/
theorem State.ringCommit_sqBase {q x L : Nat} (hx : x < 2 ^ 26) (hL : L = x * 64 + s.fld Reg.SQ_BASE_HI q * 2 ^ 32) :
    (s.setF Reg.SQ_BASE_LO x q).ringCommit Reg.SQ_BASE_LO q = (s.setF Reg.SQ_BASE_LO x q).setBase (0x11000 + 0x40 * q) L := by
  have hlo : (s.setF Reg.SQ_BASE_LO x q).fld Reg.SQ_BASE_LO q = x := (State.fld_setF_same _ _ _ _).trans (Nat.mod_eq_of_lt hx)
  have hbase : baseHi Reg.SQ_BASE_LO = Reg.SQ_BASE_HI := by decide
  rw [State.ringCommit, hlo, hbase, State.fld_setF_apart (by decide), ← hL, addr_sqBase, State.setBase]

/-- The base of a queue that is off is taken: both halves come into effect, and the indices are cleared. -/
theorem State.putFields_sqBase {ini : Initiator} {q : Fin 16} {v : Word} {L : Nat} (hen : s.fld Reg.SQ_CFG_EN q = 0)
    (hL : L = v.toNat / 64 * 64 + s.fld Reg.SQ_BASE_HI q * 2 ^ 32) :
    s.putFields ini (0x11000 + 0x40 * q.val) v.toNat [(Reg.SQ_BASE_LO, q.val)] =
      ((((s.setF Reg.SQ_BASE_LO (v.toNat / 64) q).setBase (0x11000 + 0x40 * q.val) L).setF Reg.SQ_STATUS_HEAD 0 q).setF Reg.SQ_STATUS_TAIL 0 q) := by
  have hoff : s.ringEn Reg.SQ_BASE_LO q = false := by
    rw [State.ringEn_sq (by decide), State.on, hen]
    rfl
  rw [State.putFields_takes rfl rfl rfl (State.take_queueEn _ rfl hoff), cut_sqBase, State.act_hqe (rowOf_sqBase q)]
  show (if (s.ringEn Reg.SQ_BASE_LO q || false || false) = true then _ else
    State.ringClear (if (true && !s.ringEn Reg.SQ_BASE_LO q) = true then State.ringCommit _ Reg.SQ_BASE_LO q else _) 0x11000 q) = _
  rw [hoff, State.ringCommit_sqBase (by have := v.isLt; omega) hL]
  rfl

/-- The base of a queue that is on is locked: another value sets LOCKVIOL, and nothing starts. -/
theorem State.putFields_sqBase_locked {ini : Initiator} {q : Fin 16} {v : Word} (hen : s.fld Reg.SQ_CFG_EN q = 1)
    (hv : v.toNat / 64 ≠ s.fld Reg.SQ_BASE_LO q) :
    s.putFields ini (0x11000 + 0x40 * q.val) v.toNat [(Reg.SQ_BASE_LO, q.val)] = s.regErr errLock ini (0x11000 + 0x40 * q.val) true := by
  have hon : s.ringEn Reg.SQ_BASE_LO q = true := by
    rw [State.ringEn_sq (by decide), State.on, hen]
    rfl
  have htake : s.take s ini Reg.SQ_BASE_LO q (Reg.SQ_BASE_LO.cut v.toNat) = (none, true) := by
    show lockIf (s.ringEn Reg.SQ_BASE_LO q) (s.fld Reg.SQ_BASE_LO q) (Reg.SQ_BASE_LO.cut v.toNat) = _
    rw [hon, cut_sqBase]
    simp [lockIf, hv]
  rw [State.putFields_refuses rfl rfl htake, State.act_hqe (rowOf_sqBase q)]
  show (if (s.ringEn Reg.SQ_BASE_LO q || false || false) = true then
    (if (true && !s.ringEn Reg.SQ_BASE_LO q) = true then _ else _) else _) = _
  rw [hon]
  rfl

/-! ### CQ_CFG (R84, R85) -/

theorem fieldsAt_cqCfg : ∀ c : Fin 16, fieldsAt (0x12008 + 0x40 * c.val) =
    [(Reg.CQ_CFG_LOG2SIZE, c.val), (Reg.CQ_CFG_VEC, c.val), (Reg.CQ_CFG_EN, c.val), (Reg.CQ_CFG_IRQ_EN, c.val)] := by
  decide

theorem siteAt_cqCfg (c : Fin 16) : siteAt (0x12008 + 0x40 * c.val) =
    .reg [(Reg.CQ_CFG_LOG2SIZE, c.val), (Reg.CQ_CFG_VEC, c.val), (Reg.CQ_CFG_EN, c.val), (Reg.CQ_CFG_IRQ_EN, c.val)] :=
  siteAt_of_fields (by omega) (by omega) (fieldsAt_cqCfg c)

theorem rowOf_cqCfg : ∀ c : Fin 16, rowOf (0x12008 + 0x40 * c.val) = 2 := by decide

/-- IRQ_EN takes any value. -/
theorem State.take_cqIrqEn {ini : Initiator} (c x : Nat) : o.take s ini Reg.CQ_CFG_IRQ_EN c x = (some x, false) := by
  have hlock : Reg.CQ_CFG_IRQ_EN.lock = .free := rfl
  have hen : Reg.CQ_CFG_IRQ_EN ≠ Reg.SQ_CFG_EN := by decide
  have hmsg : Reg.CQ_CFG_IRQ_EN ≠ Reg.RDG_MSG := by decide
  simp [State.take, hlock, hen, hmsg, State.hwOwned_other c (show Reg.CQ_CFG_IRQ_EN ∉ ownedFields by decide)]

/-- Clearing a completion queue's indices leaves its interrupt enable. -/
theorem State.ringClear_irqEn (c : Nat) : (s.ringClear 0x12008 c).fld Reg.CQ_CFG_IRQ_EN c = s.fld Reg.CQ_CFG_IRQ_EN c := by
  show ((((s.setF Reg.CQ_STATUS_TAIL 0 c).setF Reg.CQ_STATUS_HEAD 0 c).setF Reg.CQ_STATUS_PHASE 1 c).setF Reg.CQ_STATUS_FULL 0 c).fld _ c = _
  rw [State.fld_setF_apart (by decide), State.fld_setF_apart (by decide), State.fld_setF_apart (by decide), State.fld_setF_apart (by decide)]

/-- The fields of CQ_CFG written: whatever becomes of the others, IRQ_EN takes its value. -/
theorem State.cqCfg_fields {ini : Initiator} {v : Nat} (c : Nat) (hv : v / 2 ^ 17 % 2 = 1) : ∃ (u : State) (bad : Bool),
    [(Reg.CQ_CFG_LOG2SIZE, c), (Reg.CQ_CFG_VEC, c), (Reg.CQ_CFG_EN, c), (Reg.CQ_CFG_IRQ_EN, c)].foldl
      (fun a x => s.putField ini v a x.1 x.2) (s, false) = (u.setF Reg.CQ_CFG_IRQ_EN 1 c, bad) := by
  have hcut : Reg.CQ_CFG_IRQ_EN.cut v = 1 := hv
  obtain ⟨⟨u, bad⟩, hu⟩ : ∃ p, [(Reg.CQ_CFG_LOG2SIZE, c), (Reg.CQ_CFG_VEC, c), (Reg.CQ_CFG_EN, c)].foldl
      (fun a x => s.putField ini v a x.1 x.2) (s, false) = p := ⟨_, rfl⟩
  refine ⟨u, bad || false, ?_⟩
  rw [← hcut, ← State.putField_takes rfl (State.take_cqIrqEn _ _) rfl, ← hu]
  rfl

/-- What they start: the indices may be cleared, and IRQ_EN set starts the coalescing of the queue afresh. -/
theorem State.cqCfg_acts {ini : Initiator} {v : Nat} (c : Fin 16) (hen : s.fld Reg.CQ_CFG_IRQ_EN c = 0) (hv : v / 2 ^ 17 % 2 = 1)
    (ht : t.fld Reg.CQ_CFG_IRQ_EN c = 1) : ∃ u : State, u.fld Reg.CQ_CFG_IRQ_EN c = 1 ∧
    [(Reg.CQ_CFG_LOG2SIZE, c.val), (Reg.CQ_CFG_VEC, c.val), (Reg.CQ_CFG_EN, c.val), (Reg.CQ_CFG_IRQ_EN, c.val)].foldl
      (fun t x => s.act ini (0x12008 + 0x40 * c.val) v t x.1 x.2) t = u.coalRestart c := by
  refine ⟨s.actHqe t Reg.CQ_CFG_LOG2SIZE c (Reg.CQ_CFG_LOG2SIZE.cut v), ?_, ?_⟩
  · show (ite _ t (t.ringClear 0x12008 c)).fld _ _ = 1
    split
    · exact ht
    · rw [State.ringClear_irqEn, ht]
  · have hirq (u : State) : s.actHqe u Reg.CQ_CFG_IRQ_EN c (Reg.CQ_CFG_IRQ_EN.cut v) = u.coalRestart c := by
      have hwas : s.readField Reg.CQ_CFG_IRQ_EN c = 0 := hen
      have hcut : Reg.CQ_CFG_IRQ_EN.cut v = 1 := hv
      rw [State.actHqe, hwas, hcut]
      rfl
    simp only [List.foldl_cons, List.foldl_nil, State.act_hqe (rowOf_cqCfg c), hirq]
    rfl

theorem inHqe_irqEn : ∀ c : Fin 16, 0x200000 ≤ Reg.CQ_CFG_IRQ_EN.key c ∧ Reg.CQ_CFG_IRQ_EN.key c < 0x400000 := by decide

/-- A write of CQ_CFG that sets IRQ_EN stores it, and starts the coalescing of the queue afresh (R84). -/
theorem exec_irqEnWrite_cq {ini : Initiator} {c : Fin 16} {v : Word} (ha : s.answers (0x12008 + 0x40 * c.val) = true)
    (hx : s.crossing (0x12008 + 0x40 * c.val) = false) (hen : s.fld Reg.CQ_CFG_IRQ_EN c = 0) (hv : v.toNat / 2 ^ 17 % 2 = 1) :
    ∃ u : State, u.fld Reg.CQ_CFG_IRQ_EN c = 1 ∧ exec (.irqEnWrite ini (.cq c) v) s = .next (u.coalRestart c) := by
  obtain ⟨u, bad, hput⟩ := State.cqCfg_fields (s := s) (ini := ini) c hv
  have hset : (u.setF Reg.CQ_CFG_IRQ_EN 1 c).fld Reg.CQ_CFG_IRQ_EN c = 1 := State.fld_setF_same _ _ 1 _
  have herr : (if bad then (u.setF Reg.CQ_CFG_IRQ_EN 1 c).regErr errLock ini (0x12008 + 0x40 * c.val) true
      else u.setF Reg.CQ_CFG_IRQ_EN 1 c).fld Reg.CQ_CFG_IRQ_EN c = 1 := by
    split
    · rw [State.regErr_fld_hqe (inHqe_irqEn c), hset]
    · exact hset
  obtain ⟨w, hw, hact⟩ := State.cqCfg_acts (ini := ini) c hen hv herr
  refine ⟨w, hw, ?_⟩
  show Host.Outcome.next (s.effect ini (0x12008 + 0x40 * c.val) v.toNat) = _
  rw [State.effect_fields ha hx (siteAt_cqCfg c) (by omega), State.putFields_inRange rfl hput, hact]

/-! ### Settled -/

/-- A new size of a queue leaves every other register that its indices are not in. -/
theorem State.sqResized_fld {q v : Nat} {G : Field} {j : Nat} (h1 : Reg.SQ_STATUS_HEAD.apart G = true) (h2 : Reg.SQ_STATUS_TAIL.apart G = true) :
    (s.sqResized t q v).fld G j = t.fld G j := by
  unfold State.sqResized
  split
  · rfl
  · rw [State.fld_setF_apart h2, State.fld_setF_apart h1]

theorem inHqe_sq : ∀ q : Fin 16, (0x200000 ≤ Reg.SQ_CFG_EN.key q ∧ Reg.SQ_CFG_EN.key q < 0x400000) ∧
    (0x200000 ≤ Reg.SQ_BASE_LO.key q ∧ Reg.SQ_BASE_LO.key q < 0x400000) ∧
    (0x200000 ≤ Reg.SQ_STATUS_HEAD.key q ∧ Reg.SQ_STATUS_HEAD.key q < 0x400000) := by
  decide

/-- Settles O7, register by register from what each write stores and starts. -/
theorem queueRegisterWrites : Obligations.QueueRegisterWrites := by
  unfold Obligations.QueueRegisterWrites
  refine ⟨?_, ?_, ?_, ?_, ?_, ?_, ?_⟩
  · intro s ini q v ha hx hen hv hq
    have hwr : s.sqCfgWritten ini q v.toNat = (s.sqCfgPut q v.toNat).setF Reg.SQ_CFG_EN 1 q := if_neg (not_not.mpr hq)
    refine ⟨_, exec_sqEnableWrite ha hx hen hv, ?_, ?_, State.fld_setF_same _ _ 0 _, ?_⟩
    · rw [State.fld_setF_apart (by decide), State.sqResized_fld (by decide) (by decide), hwr]
      exact State.fld_setF_same _ _ 1 _
    · rw [State.fld_setF_apart (by decide), State.sqResized_fld (by decide) (by decide), hwr, State.fld_setF_apart (by decide), State.sqCfgPut_cq]
    · rw [State.setF_mem, State.sqResized, hwr]
      split <;> rfl
  · intro s ini q v ha hx hen hv hq
    have hwr : s.sqCfgWritten ini q v.toNat = (s.sqCfgPut q v.toNat).regErr errLock ini (0x11008 + 0x40 * q) true := if_pos hq
    refine ⟨_, exec_sqEnableWrite ha hx hen hv, ?_, ?_⟩
    · rw [State.fld_setF_apart (by decide), State.sqResized_fld (by decide) (by decide), hwr, State.regErr_fld_hqe (inHqe_sq q).1, State.sqCfgPut,
        State.fld_setF_apart (by decide), State.fld_setF_apart (by decide), hen]
    · rw [State.fld_setF_apart (by decide), State.sqResized_fld (by decide) (by decide), hwr, State.regErr_lockViol]
  · intro s ini q v ha hx hen
    obtain ⟨L, hL⟩ : ∃ L, L = v.toNat / 64 * 64 + s.fld Reg.SQ_BASE_HI q * 2 ^ 32 := ⟨_, rfl⟩
    refine ⟨_, (exec_ringConfigWrite_sqBase ha hx).trans (congrArg _ (State.putFields_sqBase hen hL)), ?_, ?_, State.fld_setF_same _ _ 0 _, ?_, ?_, rfl⟩
    · rw [State.fld_setF_apart (by decide), State.fld_setF_apart (by decide)]
      refine (State.fld_setF_same s _ _ _).trans (Nat.mod_eq_of_lt ?_)
      show v.toNat / 64 < 2 ^ 26
      have := v.isLt
      omega
    · rw [State.fld_setF_apart (by decide)]
      exact State.fld_setF_same _ _ 0 _
    · rw [← hL]
      exact Store.read_write_same _ _ _ _
    · exact (((SameRegs.refl _ s).setF (by simp)).of_eq_right rfl |>.setF (by simp)).setF (by simp)
  · intro s ini q v ha hx hen hv
    refine ⟨_, (exec_ringConfigWrite_sqBase ha hx).trans (congrArg _ (State.putFields_sqBase_locked hen hv)), ?_, ?_, State.regErr_lockViol _ _ _⟩
    · exact State.regErr_fld_hqe (inHqe_sq q).2.1 _ _ _
    · exact State.regErr_fld_hqe (inHqe_sq q).2.2 _ _ _
  · intro s ini c v ha hx hen hv
    obtain ⟨u, hu, hrun⟩ := exec_irqEnWrite_cq ha hx hen hv
    exact ⟨_, hrun, hu, by simp [State.coalRestart, Store.read_erase], by simp [State.coalRestart]⟩
  · intro s ini v ha hx
    have hkey : Field.inHqe (Reg.HQE_WDOG.key 0) := ⟨by decide, by decide⟩
    have hrun := exec_wdogWrite (ini := ini) (v := v) ha hx
    refine ⟨fun h1 h2 h3 => ?_, fun h => ?_⟩
    · rw [if_neg (by simp; omega)] at hrun
      refine ⟨_, hrun, ?_, (OnlyRegs.refl _ s).setF (by simp)⟩
      exact (State.fld_setF_same _ _ _ _).trans (Nat.mod_mod _ _)
    · rw [if_pos (by simp; omega)] at hrun
      exact ⟨_, hrun, State.regErr_fld_hqe hkey _ _ _, State.regErr_lockViol _ _ _⟩
  · intro s ini v ha hx
    have hkey : Field.inHqe (Reg.HQE_CTO.key 0) := ⟨by decide, by decide⟩
    have hrun := exec_ctoWrite (ini := ini) (v := v) ha hx
    refine ⟨fun h1 h2 h3 => ?_, fun h => ?_⟩
    · rw [if_neg (by simp; omega)] at hrun
      refine ⟨_, hrun, ?_, (OnlyRegs.refl _ s).setF (by simp)⟩
      exact (State.fld_setF_same _ _ _ _).trans (Nat.mod_mod _ _)
    · rw [if_pos (by simp; omega)] at hrun
      exact ⟨_, hrun, State.regErr_fld_hqe hkey _ _ _, State.regErr_lockViol _ _ _⟩

end Sys2Proof.Machine
end

section
/-! SUPPORT. Doorbells (O10): the indices they store, the buffers they announce, and the doorbells that are dropped. -/

namespace Sys2Proof.Machine

variable {s : State}

/-! ### Doorbells (R82) -/

theorem exec_sqTailDb_inRange {q : Fin 16} {v : Word} (hup : s.islUp 3 = true) (hv : v.toNat % 4096 < s.sqSize q) :
    exec (.sqTailDb q v) s = .next (s.setF Reg.SQ_STATUS_TAIL (v.toNat % 4096) q) := by
  simp [exec, execSqTailDb, hup, hv]

theorem exec_sqTailDb_dropped {q : Fin 16} {v : Word} (hup : s.islUp 3 = true) (hv : s.sqSize q ≤ v.toNat % 4096) :
    exec (.sqTailDb q v) s = .next s.dbRange := by
  simp [exec, execSqTailDb, hup, Nat.not_lt.mpr hv]

/-- The head of a completion queue moved: FULL follows it. -/
def State.cqHeadPut (s : State) (c h : Nat) : State := (s.setF Reg.CQ_STATUS_HEAD h c).setB Reg.CQ_STATUS_FULL ((s.setF Reg.CQ_STATUS_HEAD h c).cqFull c) c

theorem exec_cqHeadDb_inRange {c : Fin 16} {v : Word} (hup : s.islUp 3 = true) (hv : v.toNat % 16384 < s.cqSize c)
    (hp : noPass (s.cqSize c) (s.fld Reg.CQ_STATUS_HEAD c) (v.toNat % 16384) (s.fld Reg.CQ_STATUS_TAIL c) = true) :
    exec (.cqHeadDb c v) s = .next (s.cqHeadPut c (v.toNat % 16384)) := by
  simp [exec, execCqHeadDb, hup, hv, hp, State.cqHeadPut]

theorem exec_cqHeadDb_dropped {c : Fin 16} {v : Word} (hup : s.islUp 3 = true) (hv : s.cqSize c ≤ v.toNat % 16384 ∨
      noPass (s.cqSize c) (s.fld Reg.CQ_STATUS_HEAD c) (v.toNat % 16384) (s.fld Reg.CQ_STATUS_TAIL c) = false) :
    exec (.cqHeadDb c v) s = .next s.dbRange := by
  have hn : ¬ (v.toNat % 16384 < s.cqSize c ∧ noPass (s.cqSize c) (s.fld Reg.CQ_STATUS_HEAD c) (v.toNat % 16384) (s.fld Reg.CQ_STATUS_TAIL c) = true) :=
    fun ⟨h1, h2⟩ => hv.elim (Nat.not_le.mpr h1) (by simp [h2])
  simp [exec, execCqHeadDb, hup, hn]

/-- FULL is set from the index registers alone, so setting it leaves what it is set from. -/
theorem State.cqFull_setFull (c v : Nat) : (s.setF Reg.CQ_STATUS_FULL v c).cqFull c = s.cqFull c := by
  simp only [State.cqFull, State.cqSize, State.fld_setF_apart (show Reg.CQ_STATUS_FULL.apart Reg.CQ_STATUS_TAIL = true by decide),
    State.fld_setF_apart (show Reg.CQ_STATUS_FULL.apart Reg.CQ_STATUS_HEAD = true by decide),
    State.fld_setF_apart (show Reg.CQ_STATUS_FULL.apart Reg.CQ_CFG_LOG2SIZE = true by decide)]

/-- A dropped doorbell is shown, and leaves every other register. -/
theorem State.dbRange_shown : s.dbRange.fld Reg.HQE_ERR_DB_RANGE = 1 := by
  rw [State.dbRange, State.hqErr, State.signal_fld]
  exact State.fld_setF_same _ _ 1 0

theorem State.dbRange_sameRegs : SameRegs [Reg.HQE_ERR_DB_RANGE.key 0] s s.dbRange := (SameRegs.refl _ s).hqErr (by simp)

theorem exec_srFillDb_inRange {r : Fin 8} {v : Word} (hup : s.islUp 3 = true) (hv : v.toNat % 4096 < s.srSize r)
    (hp : noPass (s.srSize r) (s.sr r).fillHead (v.toNat % 4096) (s.fld Reg.SR_STATUS_FILL_TAIL r) = true) :
    exec (.srFillDb r v) s = .next (s.updSr r (fun y => { y with fillHead := v.toNat % 4096 })) := by
  simp [exec, execSrFillDb, hup, hv, hp]

/-! ### Buffers announced (R82, R100, R109) -/

/-- A ring with no posted buffer returns none. -/
theorem State.returnBad_none {r : Nat} (h : (s.sr r).bufs = []) : s.returnBad r (s.sr r).bufs.length = s := by
  rw [h]
  rfl

/-- A ring whose next buffer is good returns none. -/
theorem State.returnBad_good {r n : Nat} {b : PostedBuf} {bs : List PostedBuf} (h : (s.sr r).bufs = b :: bs)
    (hg : b.good (s.sr r).maxBlock = true) : s.returnBad r n = s := by
  cases n with
  | zero => rfl
  | succ n => simp [State.returnBad, h, hg]

/-- Other reads under way, other tags and timers. -/
def State.withReads (s : State) (rs : List HostReadRec) (n : Nat) (ts : List (Timer × Nat)) : State :=
  { s with hq := { s.hq with reads := rs, nextTag := n }, timers := ts }

theorem State.withReads_sr (rs : List HostReadRec) (n : Nat) (ts : List (Timer × Nat)) (r : Nat) : (s.withReads rs n ts).sr r = s.sr r := rfl

theorem State.withReads_regs (rs : List HostReadRec) (n : Nat) (ts : List (Timer × Nat)) : (s.withReads rs n ts).regs = s.regs := rfl

/-- A read of a buffer ring put under way: only its record, its tag and its timer are new. -/
theorem State.bufRead_eq (s : State) (r : Nat) : ∃ rs n ts, s.bufRead r = s.withReads rs n ts := by
  unfold State.bufRead
  split
  · exact ⟨_, _, _, rfl⟩
  · exact ⟨_, _, _, rfl⟩

/-- What the host answers to a read, outside stand-alone operation. -/
theorem State.hostRead_host (a n : Nat) (d : HostData) (hs : s.pw.standalone = false) : s.hostRead a n d = (d, s) := by
  simp [State.hostRead, hs]

/-- The buffer that an entry spells, posted at the end of its ring. -/
def State.bufPosted (s : State) (r : Nat) (bs : List Byte) : State :=
  ((s.updSr r (fun y => { y with bufs := y.bufs ++ [parseBuf bs], fetched := (y.fetched + 1) % s.srSize r })).setF Reg.SR_STATUS_BUF_ERR 0 r).updNobuf r

theorem State.fetchBufs_one {r : Nat} {bs : List Byte} (hs : s.pw.standalone = false) (hn : (s.sr r).fetched ≠ (s.sr r).bufTail) :
    s.fetchBufs r [.ok bs] = (s.bufPosted r bs).bufRead r := by
  rw [State.fetchBufs]
  simp only [hn, if_false, State.readBuf, State.hostRead_host _ _ _ hs]
  rfl

/-- The tail of buffer ring `r` moved. -/
def State.bufTailPut (s : State) (r t : Nat) : State := s.updSr r (fun y => { y with bufTail := t })

/-- What a buffer doorbell announces: the tail, and the entries read while the ring may be read. -/
def State.bufAnnounced (s : State) (r t : Nat) (entries : List HostData) : State :=
  let u := s.bufTailPut r t
  if u.bufFetchable r && !u.bufReading r then u.fetchBufs r entries else u

theorem exec_srBufDb_inRange {r : Fin 8} {v : Word} (entries : List HostData) (hup : s.islUp 3 = true) (hv : v.toNat % 4096 < s.srSize r) :
    exec (.srBufDb r v entries) s = .next ((s.bufAnnounced r (v.toNat % 4096) entries).returnBad r
      ((s.bufAnnounced r (v.toNat % 4096) entries).sr r).bufs.length) := by
  simp only [exec, execSrBufDb, hup, hv, Bool.not_true, Bool.false_eq_true, if_false, if_true]
  rfl

/-- A doorbell that brings no entry moves the tail, and a read of the ring may go under way. -/
theorem State.bufAnnounced_nil (s : State) (r t : Nat) : ∃ rs n ts, s.bufAnnounced r t [] = (s.bufTailPut r t).withReads rs n ts := by
  unfold State.bufAnnounced
  dsimp only
  split
  · exact State.bufRead_eq _ _
  · exact ⟨_, _, _, rfl⟩

/-- An entry that the doorbell of a readable ring brings is posted, and the next read may go under way. -/
theorem State.bufAnnounced_one {r : Fin 8} {t : Nat} {bs : List Byte} (hs : s.pw.standalone = false) (hf : s.bufFetchable r = true)
    (hrd : s.bufReading r = false) (hn : (s.sr r).fetched ≠ t) : ∃ rs n ts, s.bufAnnounced r t [.ok bs] =
      ((s.bufTailPut r t).bufPosted r bs).withReads rs n ts := by
  have hcond : ((s.bufTailPut r t).bufFetchable r && !(s.bufTailPut r t).bufReading r) = true := Bool.and_eq_true_iff.mpr ⟨hf, congrArg not hrd⟩
  have hne : ((s.bufTailPut r t).sr r).fetched ≠ ((s.bufTailPut r t).sr r).bufTail := by rwa [State.bufTailPut, State.sr_updSr]
  rw [State.bufAnnounced, if_pos hcond, State.fetchBufs_one (s := s.bufTailPut r t) hs hne]
  exact State.bufRead_eq _ _

/-- A posted buffer clears NOBUF. -/
theorem State.bufPosted_nobuf (r : Fin 8) (bs : List Byte) : (s.bufPosted r bs).fld Reg.SR_STATUS_NOBUF r = 0 := by
  rw [State.bufPosted, State.updNobuf, State.setB_eq, State.fld_setF_same]
  have hsr (u : State) : (u.setF Reg.SR_STATUS_BUF_ERR 0 r).sr r = u.sr r := rfl
  simp [hsr, b2n]

theorem State.bufPosted_bufs (r : Fin 8) (bs : List Byte) : (s.bufPosted r bs).sr r =
    { s.sr r with bufs := (s.sr r).bufs ++ [parseBuf bs], fetched := ((s.sr r).fetched + 1) % s.srSize r } :=
  State.sr_updSr r _

theorem State.bufPosted_sameRegs (r : Fin 8) (bs : List Byte) :
    SameRegs [Reg.SR_STATUS_BUF_ERR.key r, Reg.SR_STATUS_NOBUF.key r] s (s.bufPosted r bs) := by
  refine SameRegs.setF (SameRegs.setF (SameRegs.of_eq rfl) ?_) ?_ <;> simp

/-- A doorbell that brings no entry. -/
theorem answers_srBufDb_nothing {r : Fin 8} {v : Word} (hup : s.islUp 3 = true) (hv : v.toNat % 4096 < s.srSize r) (hb : (s.sr r).bufs = []) :
    Answers (.srBufDb r v []) s (fun t => (t.sr r).bufTail = v.toNat % 4096 ∧
      t = { s with hq := { s.hq with srs := t.hq.srs, reads := t.hq.reads, nextTag := t.hq.nextTag }, timers := t.timers }) := by
  have hrun := exec_srBufDb_inRange [] hup hv
  obtain ⟨rs, n, ts, ht⟩ := s.bufAnnounced_nil r (v.toNat % 4096)
  have hsr : (s.bufAnnounced r (v.toNat % 4096) []).sr r = { s.sr r with bufTail := v.toNat % 4096 } := by
    rw [ht, State.withReads_sr, State.bufTailPut, State.sr_updSr]
  rw [State.returnBad_none (by rw [hsr, hb])] at hrun
  refine ⟨_, hrun, by rw [hsr], ?_⟩
  rw [ht]
  rfl

/-- A doorbell that brings one good entry to a ring that may be read. -/
theorem answers_srBufDb_good {r : Fin 8} {v : Word} {bs : List Byte} (hs : s.pw.standalone = false) (hup : s.islUp 3 = true)
    (hv : v.toNat % 4096 < s.srSize r) (hb : (s.sr r).bufs = []) (hf : s.bufFetchable r = true) (hrd : s.bufReading r = false)
    (hn : (s.sr r).fetched ≠ v.toNat % 4096) (hg : (parseBuf bs).good (s.sr r).maxBlock = true) :
    Answers (.srBufDb r v [.ok bs]) s (fun t => (t.sr r).bufTail = v.toNat % 4096 ∧ (t.sr r).bufs = [parseBuf bs] ∧
      t.fld Reg.SR_STATUS_NOBUF r = 0 ∧ SameRegs [Reg.SR_STATUS_BUF_ERR.key r, Reg.SR_STATUS_NOBUF.key r] s t) := by
  have hrun := exec_srBufDb_inRange [.ok bs] hup hv
  obtain ⟨rs, n, ts, ht⟩ := State.bufAnnounced_one (bs := bs) hs hf hrd hn
  have hsr : (s.bufAnnounced r (v.toNat % 4096) [.ok bs]).sr r =
      { s.sr r with bufTail := v.toNat % 4096, bufs := [parseBuf bs], fetched := ((s.sr r).fetched + 1) % s.srSize r } := by
    rw [ht, State.withReads_sr, State.bufPosted_bufs, State.bufTailPut, State.sr_updSr, hb]
    rfl
  rw [State.returnBad_good (b := parseBuf bs) (bs := []) (by rw [hsr]) (by rw [hsr]; exact hg)] at hrun
  have hregs : (s.bufAnnounced r (v.toNat % 4096) [.ok bs]).regs = ((s.bufTailPut r (v.toNat % 4096)).bufPosted r bs).regs := by
    rw [ht, State.withReads_regs]
  refine ⟨_, hrun, by rw [hsr], by rw [hsr], ?_, ?_⟩
  · rw [State.fld_congr _ _ hregs, State.bufPosted_nobuf]
  · exact (State.bufPosted_sameRegs (s := s.bufTailPut r (v.toNat % 4096)) r bs).of_eq_right hregs

end Sys2Proof.Machine
end

section
/-! SUPPORT. Submission fetches (O10): the holder an entry becomes, the handle bound, and the fences. -/

namespace Sys2Proof.Machine

variable {s : State}

/-- A field whose key lies before the offset of another, whatever the place of that one, has a key of its own. -/
theorem Field.key_ne {F G : Field} {i j : Nat} (h : F.key i < G.off * 32) : F.key i ≠ G.key j := by
  have hG : G.off * 32 ≤ G.key j := by
    simp only [Field.key, Field.addr]
    omega
  omega

/-! ### An entry taken (R87, R93 to R96) -/

/-- The holder that the command of an entry becomes, while no fence holds it. -/
def State.holder (s : State) (q i : Nat) (e : SubEntry) : Handle :=
  { idx := i, gen := nextGen (Store.read 0 s.hq.gens i), op := e.op, flags := e.flags, tag := e.tag, wdog := e.wdog, ptr0 := e.ptr0, len0 := e.len0,
    params := e.params, sq := Fin.ofNat 16 q, cq := Fin.ofNat 16 (s.fld Reg.SQ_CFG_CQ q), order := s.hq.nextOrder, started := true, accepted := false,
    running := false, done := false }

/-- The head of queue `q` advanced by one entry. -/
def State.headNext (s : State) (q : Nat) : State := s.setF Reg.SQ_STATUS_HEAD ((s.fld Reg.SQ_STATUS_HEAD q + 1) % s.sqSize q) q

/-- A holder added: its generation is noted, its watchdog starts, FREE follows. -/
def State.addHolder (s : State) (x : Handle) : State :=
  ({ s.timerStart (.handle x.idx) with hq := { s.hq with handles := s.hq.handles ++ [x], gens := Store.write 0 s.hq.gens x.idx x.gen,
                                                         nextOrder := x.order + 1 } }).updFree

/-- An index of a submission queue fits HEAD. -/
theorem State.headNext_head (q : Nat) : (s.headNext q).fld Reg.SQ_STATUS_HEAD q = (s.fld Reg.SQ_STATUS_HEAD q + 1) % s.sqSize q := by
  rw [State.headNext, State.fld_setF_same]
  have hlt : (s.fld Reg.SQ_STATUS_HEAD q + 1) % s.sqSize q < 2 ^ 12 := (Nat.mod_lt _ (ringSize_pos _ _)).trans_le (ringSize_le (by decide))
  exact Nat.mod_eq_of_lt hlt

/-- A good entry of an opcode that ends at once, which neither a fence nor LOADER personality holds up: its command has a holder, and forms no ACCEPT. -/
theorem State.takeEntry_atOnce {q i : Nat} {bs : List Byte} (hi : s.freeIdx = some i) (hb : entryBad (parseEntry bs) (s.fld Reg.HQE_CTO) = none)
    (ha : opAtOnce (parseEntry bs).op = true) (hl : s.loaderPers = false) (hf : s.fencedAt q s.hq.nextOrder (bit (parseEntry bs).flags 0) = false) :
    s.takeEntry q bs = ((s.headNext q).addHolder (s.holder q i (parseEntry bs))).stallAtBound := by
  have hcto : (s.headNext q).fld Reg.HQE_CTO = s.fld Reg.HQE_CTO := State.fld_setF_other _ _ _ _ _ _ (Field.key_ne (by decide)).symm
  have hcq : (s.headNext q).fld Reg.SQ_CFG_CQ q = s.fld Reg.SQ_CFG_CQ q := State.fld_setF_apart (by decide)
  have hpers : (s.headNext q).loaderPers = false := by
    rw [← hl, State.loaderPers, State.headNext, State.fld_setF_apart (by decide), State.loaderPers]
  have hfence : (s.headNext q).fencedAt q s.hq.nextOrder (bit (parseEntry bs).flags 0) = false := hf
  unfold State.takeEntry
  rw [hi]
  extract_lets e t ord bad refuse waits
  have ht : t = s.headNext q := rfl
  have hbad : bad = none := (congrArg (entryBad e) hcto).trans hb
  have hrefuse : refuse = false := by simp only [refuse, ht, hpers, Bool.false_and]
  have hwaits : waits = false := hfence
  simp only [hbad, hrefuse, hwaits, show opAtOnce e.op = true from ha, Bool.not_false, Bool.and_true, Bool.false_eq_true, if_false, if_true,
    ht, hcq]
  rfl

theorem State.stallAtBound_hq : s.stallAtBound.hq = s.hq := by
  unfold State.stallAtBound
  split <;> rfl

theorem State.stallAtBound_mem : s.stallAtBound.mem = s.mem := by
  unfold State.stallAtBound
  split <;> rfl

theorem State.stallAtBound_hostOut : s.stallAtBound.hostOut = s.hostOut := by
  unfold State.stallAtBound
  split <;> rfl

/-- The handle bound shows in HQ_STALL alone. -/
theorem State.stallAtBound_onlyRegs : OnlyRegs [Reg.HQE_STATUS_HQ_STALL.key 0] s s.stallAtBound := by
  unfold State.stallAtBound
  split
  · exact (OnlyRegs.refl _ s).setF (by simp)
  · exact OnlyRegs.refl _ s

/-- An index that is free has no holder. -/
theorem State.handle?_freeIdx {i : Nat} (hi : s.freeIdx = some i) : s.handle? i = none := by
  have hfree := List.find?_some hi
  rw [State.handle?, List.find?_eq_none]
  intro x hx he
  simp only [Bool.not_eq_true', List.any_eq_false] at hfree
  exact hfree x hx he

/-- A holder added at an index that had none is the holder of that index. -/
theorem State.handle?_addHolder {x : Handle} (h : s.handle? x.idx = none) : (s.addHolder x).handle? x.idx = some x := by
  show (s.hq.handles ++ [x]).find? (fun y => y.idx == x.idx) = some x
  rw [List.find?_append, show s.hq.handles.find? (fun y => y.idx == x.idx) = none from h]
  simp

/-- What an entry taken leaves: HEAD, the holder, and nothing in memory, on the link or among the reads. -/
theorem State.takeEntry_taken {q i : Nat} {bs : List Byte} (hi : s.freeIdx = some i) (hb : entryBad (parseEntry bs) (s.fld Reg.HQE_CTO) = none)
    (ha : opAtOnce (parseEntry bs).op = true) (hl : s.loaderPers = false) (hf : s.fencedAt q s.hq.nextOrder (bit (parseEntry bs).flags 0) = false) :
    let t := s.takeEntry q bs
    t.fld Reg.SQ_STATUS_HEAD q = (s.fld Reg.SQ_STATUS_HEAD q + 1) % s.sqSize q ∧ t.handle? i = some (s.holder q i (parseEntry bs)) ∧
      t.mem = s.mem ∧ t.hostOut = s.hostOut ∧ t.hq.reads = s.hq.reads := by
  rw [State.takeEntry_atOnce hi hb ha hl hf]
  obtain ⟨-, hregs⟩ := State.stallAtBound_onlyRegs (s := (s.headNext q).addHolder (s.holder q i (parseEntry bs)))
  have hstall := Field.key_ne (G := Reg.SQ_STATUS_HEAD) (j := q) (show Reg.HQE_STATUS_HQ_STALL.key 0 < _ by decide)
  have hfree := Field.key_ne (G := Reg.SQ_STATUS_HEAD) (j := q) (show Reg.HQE_STATUS_FREE.key 0 < _ by decide)
  refine ⟨?_, ?_, State.stallAtBound_mem.trans rfl, State.stallAtBound_hostOut.trans rfl, (congrArg Hqe.reads State.stallAtBound_hq).trans rfl⟩
  · rw [SameRegs.fld hregs (by simpa using hstall.symm), State.addHolder, State.updFree, State.fld_setF_other _ _ _ _ _ _ hfree]
    exact State.headNext_head q
  · rw [State.handle?_congr State.stallAtBound_hq]
    exact State.handle?_addHolder (s := s.headNext q) (State.handle?_freeIdx (s := s) hi)

/-! ### A fetch (R93, R97) -/

/-- The round-robin place is in no register, memory or holder. -/
theorem State.served_eq (e q : Nat) : s.served e q = { s with hq := { s.hq with rr0 := (s.served e q).hq.rr0, rr1 := (s.served e q).hq.rr1 } } := by
  unfold State.served
  split <;> rfl

/-- A fetch below the handle bound takes the entry that the host answers. -/
theorem exec_submissionFetch_takes {e : Fin 2} {bs : List Byte} {q : Nat} (hq : s.pickSq e = some q) (hb : s.heldHandles < 248)
    (hn : s.on Reg.HQE_STATUS_HQ_STALL = false) (hs : s.pw.standalone = false) :
    exec (.submissionFetch e (.ok bs)) s = .next ((s.served e q).takeEntry q bs) := by
  have hread : (s.served e q).readSq q (.ok bs) = (.ok bs, s.served e q) := State.hostRead_host _ _ _ (by rw [State.served_eq]; exact hs)
  simp [exec, execSubmissionFetch, State.fetch, hq, hn, Nat.not_le.mpr hb, hread]

/-- At the handle bound a fetch takes nothing and sets HQ_STALL. -/
theorem exec_submissionFetch_bound {e : Fin 2} {d : HostData} {q : Nat} (hq : s.pickSq e = some q) (hb : 248 ≤ s.heldHandles) :
    exec (.submissionFetch e d) s = .next (s.setF Reg.HQE_STATUS_HQ_STALL 1) := by
  simp [exec, execSubmissionFetch, State.fetch, hq, hb, State.stallAtBound]

theorem exec_fetchResume_below (hb : s.heldHandles < 248) : exec .fetchResume s = .next (s.setF Reg.HQE_STATUS_HQ_STALL 0) := by
  simp [exec, execFetchResume, hb]

/-- A held command whose fence is over starts, outside LOADER personality. -/
theorem exec_fenceRelease_starts {h : Fin 256} {x : Handle} (hx : s.handle? h.val = some x) (hn : x.started = false) (ho : s.fenceOver x = true)
    (hl : s.loaderPers = false) :
    exec (.fenceRelease h) s = .next ((s.updHandle h.val (fun y => { y with started := true })).timerStart (.handle h.val)) := by
  have hpers : ((s.updHandle h.val (fun y => { y with started := true })).timerStart (.handle h.val)).loaderPers = false := hl
  simp [exec, execFenceRelease, hx, hn, ho, hpers]

end Sys2Proof.Machine
end

section
/-! SUPPORT. Reads of host memory (O10): completions, failures and the completion timeout. -/

namespace Sys2Proof.Machine

variable {s : State} {tag : Nat} {r : HostReadRec}

/-! ### What a reported timeout leaves of the queue engines (R471) -/

theorem State.logPut_keeps {β : Type} {g : Hqe → β} (hg : Hqe.Lasting g) (a b c d : Nat) (bs : List Byte) : g (s.logPut a b c d bs).hq = g s.hq := by
  unfold State.logPut
  extract_lets e n m u v
  split
  · exact State.signal_keeps hg _
  · rfl

theorem State.logEvt_keeps {β : Type} {g : Hqe → β} (hg : Hqe.Lasting g) (a b c : Nat) (bs : List Byte) : g (s.logEvt a b c bs).hq = g s.hq := by
  unfold State.logEvt
  split
  · rfl
  · exact State.logPut_keeps hg _ _ _ _ _

theorem State.timeoutEvt_keeps {β : Type} {g : Hqe → β} (hg : Hqe.Lasting g) (p : Bool) (n : Nat) : g (s.timeoutEvt p n).hq = g s.hq :=
  (State.signal_keeps hg _).trans (State.logEvt_keeps hg _ _ _ _)

theorem State.timeoutEvt_fld_hqe {G : Field} {j : Nat} (hG : Field.inHqe (G.key j)) (p : Bool) (n : Nat) : (s.timeoutEvt p n).fld G j = s.fld G j := by
  obtain ⟨hlo, hhi⟩ := hG
  have h1 : 0x400000 ≤ Reg.SUM_LOG_NEWEST.key 0 := by decide
  have h2 : 0x400000 ≤ Reg.SUM_LOG_OLDEST.key 0 := by decide
  have h3 : 0x400000 ≤ Reg.SUM_LOG_SUPPRESSED.key 0 := by decide
  rw [State.timeoutEvt, State.signal_fld, State.logEvt_fld _ _ _ _ _ (by omega) (by omega) (by omega)]

/-! ### An error of a fetch (R109) -/

@[simp] theorem State.aerSet_fld (n : Nat) (F : Field) (i : Nat) : (s.aerSet n).fld F i = s.fld F i := by
  unfold State.aerSet
  split <;> rfl

theorem State.aerSet_regs (n : Nat) : (s.aerSet n).regs = s.regs := by
  unfold State.aerSet
  split <;> rfl

theorem State.aerSet_keeps {β : Type} {g : Hqe → β} (hg : ∀ (q : Hqe) (a : Nat), g { q with aer := a } = g q) (n : Nat) : g (s.aerSet n).hq = g s.hq := by
  unfold State.aerSet
  split
  · rfl
  · exact hg _ _

/-- A fetch that timed out stops its queue, is shown in HQE_ERR, and leaves the head where it is. -/
theorem State.fetchFail_timeout (q : Fin 16) :
    let t := s.fetchFail q Reg.HQE_ERR_FETCH_TMO
    t.fld Reg.SQ_STATUS_FETCH_ERR q = 1 ∧ t.fld Reg.HQE_ERR_FETCH_TMO = 1 ∧ t.fld Reg.SQ_STATUS_HEAD q = s.fld Reg.SQ_STATUS_HEAD q ∧
      t.hq.reads = s.hq.reads := by
  have herr := Field.key_ne (G := Reg.SQ_STATUS_FETCH_ERR) (j := q) (show Reg.HQE_ERR_FETCH_TMO.key 0 < _ by decide)
  have hhead := Field.key_ne (G := Reg.SQ_STATUS_HEAD) (j := q) (show Reg.HQE_ERR_FETCH_TMO.key 0 < _ by decide)
  simp only [State.fetchFail, State.fetchErr, if_true, State.hqErr, State.signal_fld]
  refine ⟨?_, State.fld_setF_same _ _ 1 0, ?_, ?_⟩
  · rw [State.fld_setF_other _ _ _ _ _ _ herr, State.aerSet_fld]
    exact State.fld_setF_same _ _ 1 _
  · rw [State.fld_setF_other _ _ _ _ _ _ hhead, State.aerSet_fld, State.fld_setF_apart (by decide)]
  · rw [State.signal_keeps (g := Hqe.reads) fun _ _ _ _ => rfl]
    exact State.aerSet_keeps (g := Hqe.reads) (fun _ _ => rfl) _

/-! ### Completions (R109) -/

/-- The read of a command that comes back poisoned or refused ends the command. -/
theorem exec_hostReadCompletion_cmd {h : Nat} (hr : s.hq.reads.find? (fun r => r.tag == tag) = some r) (hd : r.dead = false) (ht : r.target = .cmd h) :
    exec (.hostReadCompletion tag .poisoned) s = .next ((s.killRead tag).complete h stDataError (if s.pw.standalone then 2 else 1) 0 0) ∧
    exec (.hostReadCompletion tag .refused) s = .next ((s.killRead tag).complete h stDataError 4 0 0) := by
  simp [exec, execHostReadCompletion, hr, hd, ht, State.readAgain, State.readFailed]

/-- A completion of no read is an Unexpected Completion. -/
theorem exec_hostReadCompletion_unexpected {d : HostData} (hup : s.islUp 3 = true) (hr : s.hq.reads.find? (fun r => r.tag == tag) = none)
    (ho : d ≠ .outstanding) (ht : d ≠ .timeout) : exec (.hostReadCompletion tag d) s = .next s.unexpected := by
  simp only [exec, execHostReadCompletion, hr, hup, if_true]

/-- The entry that a fetch waited for is taken, and its read is over. -/
theorem exec_hostReadCompletion_fetch {q : Fin 16} {bs : List Byte} (hr : s.hq.reads.find? (fun r => r.tag == tag) = some r) (hd : r.dead = false)
    (ht : r.target = .fetch q) (hs : s.pw.standalone = false) :
    exec (.hostReadCompletion tag (.ok bs)) s = .next ((s.dropRead tag).takeEntry q bs) := by
  have hread : s.readSq q (.ok bs) = (.ok bs, s) := State.hostRead_host _ _ _ hs
  simp [exec, execHostReadCompletion, hr, hd, ht, State.readAgain, hread]

/-! ### The completion timeout (R109) -/

/-- The state once the timeout of a read is reported. -/
def State.readTimedOut (s : State) (tag : Nat) : State := (s.dropRead tag).timeoutEvt (!s.pw.standalone) (rowOf 0x10000)

theorem exec_hqeCtoExpiry_due (hr : s.hq.reads.find? (fun r => r.tag == tag) = some r) (hd : r.dead = false)
    (hdue : s.timerDue (.read tag) (200000 * s.fld Reg.HQE_CTO) = true) :
    exec (.hqeCtoExpiry tag) s = .next ((s.readTimedOut tag).readFailed r.target true stTimeout (if s.pw.standalone then 3 else 2)) := by
  have hdue' : s.timerDue (.read tag) (ticksMs (s.fld Reg.HQE_CTO)) = true := hdue
  simp only [exec, execHqeCtoExpiry, hr, hdue', hd, Bool.not_true, Bool.false_eq_true, if_false]
  rfl

theorem exec_hqeCtoExpiry_early (hr : s.hq.reads.find? (fun r => r.tag == tag) = some r)
    (hdue : s.timerDue (.read tag) (200000 * s.fld Reg.HQE_CTO) = false) : exec (.hqeCtoExpiry tag) s = .next s := by
  have hdue' : s.timerDue (.read tag) (ticksMs (s.fld Reg.HQE_CTO)) = false := hdue
  simp [exec, execHqeCtoExpiry, hr, hdue']

theorem inHqe_head : ∀ q : Fin 16, 0x200000 ≤ Reg.SQ_STATUS_HEAD.key q ∧ Reg.SQ_STATUS_HEAD.key q < 0x400000 := by decide

/-! ### Settled -/

/-- Settles O10: each doorbell, fetch and completion by what it does. -/
theorem submissionPath : Obligations.SubmissionPath := by
  unfold Obligations.SubmissionPath
  refine ⟨?_, ?_, ?_, ?_, ?_, ?_, ?_, ?_, ?_, ?_, ?_, ?_, ?_, ?_, ?_, ?_, ?_⟩
  · intro s q v hup hv
    refine ⟨_, exec_sqTailDb_inRange hup hv, ?_, (OnlyRegs.refl _ s).setF (by simp)⟩
    rw [State.fld_setF_same]
    exact Nat.mod_mod _ 4096
  · exact fun s q v hup hv => ⟨_, exec_sqTailDb_dropped hup hv, State.dbRange_shown, State.dbRange_sameRegs, by simp [State.dbRange]⟩
  · intro s c v hup hv hp
    refine ⟨_, exec_cqHeadDb_inRange hup hv hp, ?_, ?_, ((OnlyRegs.refl _ s).setF (by simp)).setF (by simp)⟩
    · rw [State.cqHeadPut, State.setB_eq, State.fld_setF_apart (by decide), State.fld_setF_same]
      exact Nat.mod_mod _ 16384
    · rw [State.cqHeadPut, State.setB_eq, State.cqFull_setFull, State.fld_setF_same]
      cases (s.setF Reg.CQ_STATUS_HEAD (v.toNat % 16384) c).cqFull c <;> rfl
  · exact fun s c v hup hv => ⟨_, exec_cqHeadDb_dropped hup hv, State.dbRange_shown, State.dbRange_sameRegs⟩
  · exact fun s r v hup hv hb => answers_srBufDb_nothing hup hv hb
  · exact fun s r v bs hs hup hv hb hf hrd hn hg => answers_srBufDb_good hs hup hv hb hf hrd hn hg
  · intro s r v hup hv hp
    refine ⟨_, exec_srFillDb_inRange hup hv hp, ?_, rfl⟩
    rw [State.sr_updSr]
  · intro s e bs q i hq hb hn hi _ hs ha hbad hl hf
    refine ⟨_, exec_submissionFetch_takes hq hb hn hs, ?_⟩
    have ht := State.takeEntry_taken (s := s.served e q) (q := q) (i := i) (bs := bs)
    rw [State.served_eq] at ht ⊢
    obtain ⟨hhead, hx, hmem, hout, -⟩ := ht hi hbad ha hl hf
    exact ⟨hhead, ⟨_, hx, rfl, rfl, rfl, rfl, rfl, rfl⟩, hmem, hout⟩
  · exact fun s e d q hq hb => ⟨_, exec_submissionFetch_bound hq hb, State.fld_setF_same _ _ 1 0, (OnlyRegs.refl _ s).setF (by simp)⟩
  · exact fun s hb => ⟨_, exec_fetchResume_below hb, State.fld_setF_same _ _ 0 0, (OnlyRegs.refl _ s).setF (by simp)⟩
  · intro s h x hx hn ho hl
    refine ⟨_, exec_fenceRelease_starts hx hn ho hl, ?_, rfl⟩
    exact State.handle?_updHandle (f := fun y => { y with started := true }) (fun _ => rfl) hx
  · intro s tag r h hr hd ht
    obtain ⟨hpoison, hrefuse⟩ := exec_hostReadCompletion_cmd hr hd ht
    exact ⟨⟨_, hpoison, rfl, rfl⟩, ⟨_, hrefuse, rfl, rfl⟩⟩
  · intro s tag d hup hr ho ht
    refine ⟨_, exec_hostReadCompletion_unexpected hup hr ho ht, ?_, ?_, ?_⟩
    · rw [State.unexpected, State.hqErr, State.signal_fld]
      exact State.fld_setF_same _ _ 1 0
    · rw [State.unexpected, State.hqErr, State.signal_fld, State.fld_setF_other _ _ _ _ _ _ (by decide), State.aerSet_fld, State.incF_eq, State.fld_setF_same]
      rfl
    · have hcount : SameRegs [Reg.HQE_ERR_UNEXP_CPL.key 0, Reg.HQE_UNEXP_COUNT.key 0] s (s.incF Reg.HQE_UNEXP_COUNT) := (SameRegs.refl _ s).setF (by simp)
      exact (hcount.of_eq_right (State.aerSet_regs _)).hqErr (by simp)
  · intro s tag r q bs i hr hd hs ht hi hbad ha hl hf
    obtain ⟨hhead, hx, -, -, hreads⟩ := State.takeEntry_taken (s := s.dropRead tag) hi hbad ha hl hf
    exact ⟨_, exec_hostReadCompletion_fetch hr hd ht hs, hhead, ⟨_, hx, rfl, rfl⟩, hreads⟩
  · intro s tag r q hr hd ht hdue
    have hrun := exec_hqeCtoExpiry_due hr hd hdue
    rw [ht] at hrun
    obtain ⟨herr, htmo, hhead, hreads⟩ := State.fetchFail_timeout (s := s.readTimedOut tag) q
    exact ⟨_, hrun, herr, htmo, hhead.trans (State.timeoutEvt_fld_hqe (inHqe_head q) _ _),
      hreads.trans (State.timeoutEvt_keeps (g := Hqe.reads) (fun _ _ _ _ => rfl) _ _)⟩
  · intro s tag r h hr hd ht hdue
    have hrun := exec_hqeCtoExpiry_due hr hd hdue
    rw [ht] at hrun
    refine ⟨_, hrun, ?_, rfl⟩
    have hh : ((s.readTimedOut tag).aerSet aerTimeout).hq.handles = s.hq.handles :=
      (State.aerSet_keeps (g := Hqe.handles) (fun _ _ => rfl) _).trans (State.timeoutEvt_keeps (g := Hqe.handles) (fun _ _ _ _ => rfl) _ _)
    rw [State.handle?, hh, State.handle?]
  · exact fun s tag r hr hdue => exec_hqeCtoExpiry_early hr hdue

end Sys2Proof.Machine
end

section
/-! SUPPORT. ABORT and the handle watchdog (O11): the target that each names, the unit that stops, and the acquisition that is asked to end. -/

namespace Sys2Proof.Machine

variable {s : State}

/-! ### Ended handles stay ended (R96, R99) -/

theorem State.ended_congr {t : State} {i : Nat} (h : t.hq.handles = s.hq.handles) (hs : s.ended i) : t.ended i := by
  rwa [State.ended, State.handle?, h]

/-- A handle marked ended takes no other one back. -/
theorem State.ended_markDone {i : Nat} (h : Nat) (hs : s.ended i) : (s.markDone h).ended i := by
  intro x hx
  rw [State.handle?, State.markDone, State.updHandle, List.find?_map] at hx
  obtain ⟨y, hy, rfl⟩ := Option.map_eq_some_iff.mp hx
  have hidx : ((fun x => x.idx == i) ∘ fun x => if x.idx == h then { x with done := true } else x) = fun x : Handle => x.idx == i := by
    funext z
    by_cases hz : z.idx = h <;> simp [hz]
  rw [hidx] at hy
  split
  · rfl
  · exact hs y hy

/-- An index freed takes no other one back. -/
theorem State.ended_freeHandle {i : Nat} (h : Nat) (hs : s.ended i) : (s.freeHandle h).ended i := by
  intro x hx
  have hx' : (s.hq.handles.filter (fun x => x.idx != h)).find? (fun x => x.idx == i) = some x := hx
  by_cases hi : i = h
  · have hnone := State.handle?_freeHandle (s := s) h
    rw [← hi] at hnone hx
    rw [hnone] at hx
    cases hx
  · rw [List.find?_filter] at hx'
    refine hs x (Eq.trans (congrArg (fun p => s.hq.handles.find? p) ?_) hx')
    funext z
    by_cases hz : z.idx = i <;> simp [hz, hi]

theorem State.ended_cqForm {i : Nat} (c : Fin 16) (e : Cqe) (h : Nat) (hs : s.ended i) : (s.cqForm c e (some h)).ended i := by
  unfold State.cqForm
  split
  · exact State.ended_freeHandle h (State.ended_congr (State.cqPut_keeps (g := Hqe.handles) (fun _ _ _ _ => rfl) _ _) hs)
  · exact hs

/-- A completion leaves the handles ended that have ended. -/
theorem State.ended_complete {i : Nat} (h st det a b : Nat) (hs : s.ended i) : (s.complete h st det a b).ended i := by
  unfold State.complete
  split
  · exact hs
  · extract_lets waits q u k
    have hu : u.ended i := by
      simp only [u]
      split
      · exact hs
      · exact hs
    split
    · exact hs
    · exact State.ended_cqForm _ _ _ (State.ended_markDone h hu)

/-! ### The acquisition asked to end (R96, R133) -/

/-- A plan switch that waits is given up. -/
def State.switchGivenUp (s : State) : State :=
  match s.acq.sw with
  | some w => s.complete w.handle stAborted 1 0 0
  | none => s

theorem State.switchGivenUp_acq : s.switchGivenUp.acq = s.acq := by
  unfold State.switchGivenUp
  split
  · exact State.complete_acq _ _ _ _ _ _
  · rfl

theorem State.ended_switchGivenUp {i : Nat} (hs : s.ended i) : s.switchGivenUp.ended i := by
  unfold State.switchGivenUp
  split
  · exact State.ended_complete _ _ _ _ _ hs
  · exact hs

/-- The first request that a running acquisition end: its cause is kept, and the switch that waits is given up. -/
theorem State.acqEnd_asked (st det : Nat) (k : Option Nat) (hr : s.acq.run.isSome = true) (he : s.acq.ending = none) :
    s.acqEnd st det k = ({ s.switchGivenUp with acq := { s.switchGivenUp.acq with
      sw := none, ending := some ⟨st, det, k.toList, s.switchGivenUp.tick⟩ } } : State).setF Reg.PRB_STATE_STATE prbStopping := by
  rw [State.acqEnd, if_neg (by simpa [Option.isSome_iff_ne_none] using hr)]
  simp only [he]
  rfl

/-- What it leaves of the acquisition, and of the handles that have ended. -/
theorem State.acqEnd_keeps (st det : Nat) (k : Option Nat) (hr : s.acq.run.isSome = true) (he : s.acq.ending = none) :
    let t := s.acqEnd st det k
    (∃ e, t.acq.ending = some e ∧ e.status = st ∧ e.detail = det ∧ e.stoppers = k.toList) ∧ t.acq.run = s.acq.run ∧ t.acq.handle = s.acq.handle ∧
      ∀ i, s.ended i → t.ended i := by
  rw [State.acqEnd_asked st det k hr he]
  refine ⟨⟨_, rfl, rfl, rfl, rfl⟩, (congrArg Acq.run State.switchGivenUp_acq :), (congrArg Acq.handle State.switchGivenUp_acq :), fun i hi => ?_⟩
  exact State.ended_switchGivenUp hi

/-! ### ABORT (R96, R105, R107) -/

section
variable {h : Fin 256} {x y : Handle}

theorem exec_abort_wide (hc : s.cmd? h.val 0x02 = some x) (hw : 65536 ≤ x.p 0) : exec (.abort h) s = .next (s.complete h.val stInvalid 24 0 0) := by
  have hw' : 65535 < x.p 0 := by omega
  simp only [exec, execAbort, hc, hw', if_true]

theorem exec_abort_stale (hc : s.cmd? h.val 0x02 = some x) (hw : x.p 0 < 65536)
    (hn : ∀ y, s.handle? (x.p 0 % 256) = some y → y.gen ≠ x.p 0 / 256) : exec (.abort h) s = .next (s.complete h.val stStale 0 0 0) := by
  have hw' : ¬ 65535 < x.p 0 := by omega
  simp only [exec, execAbort, hc, hw', if_false]
  split
  · rfl
  · rename_i y hy
    rw [if_pos (hn y hy)]

/-- What ABORT does with the target that its handle word names. -/
theorem exec_abort_named (hc : s.cmd? h.val 0x02 = some x) (hw : x.p 0 < 65536) (hy : s.handle? (x.p 0 % 256) = some y) (hg : y.gen = x.p 0 / 256) :
    exec (.abort h) s = .next (if y.op = 0x02 then s.complete h.val stInvalid 24 0 0 else if y.done then s.complete h.val stOk 0 0 0
      else s.abortCmd y stAborted 1 (some h.val)) := by
  have hw' : ¬ 65535 < x.p 0 := by omega
  simp only [exec, execAbort, hc, hw', if_false, hy, hg, ne_eq, not_true_eq_false]

/-- The ABORT that asked is answered. -/
def State.answerAbort (s : State) : Option Nat → State
  | some h => s.complete h stOk 0 1 0
  | none => s

/-- A command that is neither the acquisition nor a stream stops in its unit at once, and the ABORT that asked is answered. -/
theorem State.abortCmd_unit (st det : Nat) (k : Option Nat) (ha : s.acq.handle ≠ some y.idx) (hs : ∀ z ∈ s.red.streams, z.handle ≠ some y.idx) :
    s.abortCmd y st det k = ((s.readsDrop y.idx).unitStop y st det).answerAbort k := by
  have ha' : (s.readsDrop y.idx).acq.handle ≠ some y.idx := ha
  have hs' : (s.readsDrop y.idx).red.streams.find? (fun z => z.handle == some y.idx) = none :=
    List.find?_eq_none.mpr fun z hz => by simpa using hs z hz
  unfold State.abortCmd
  dsimp only
  rw [if_neg ha', hs']
  cases k <;> rfl

/-- The acquisition is asked to end, and the ABORT that asked waits for it. -/
theorem State.abortCmd_acq (st det i : Nat) (ha : s.acq.handle = some y.idx) :
    s.abortCmd y st det (some i) = ((s.readsDrop y.idx).takeUp i).acqEnd st det (some i) := if_pos ha

/-- A command that stops in its unit has ended. -/
theorem State.unitStop_ended (x : Handle) (st det : Nat) : (s.unitStop x st det).ended x.idx := by
  unfold State.unitStop
  exact State.complete_ended _ _ _ _ _

/-! ### The watchdog (R108) -/

theorem exec_handleWatchdog_due (hx : s.handle? h.val = some x) (hs : x.started = true) (hd : x.done = false) (hw : s.wdogDue x = true) :
    exec (.handleWatchdog h) s = .next ((s.incF Reg.HQE_WDOG_COUNT).expire x) := by
  simp [exec, execHandleWatchdog, hx, hs, hd, hw]

theorem exec_handleWatchdog_early (hx : s.handle? h.val = some x) (hw : s.wdogDue x = false) : exec (.handleWatchdog h) s = .next s := by
  simp [exec, execHandleWatchdog, hx, hw]

/-- An expired command that is neither the acquisition nor a stream stops in its unit. -/
theorem State.expire_unit (ha : s.acq.handle ≠ some x.idx) (hs : ∀ z ∈ s.red.streams, z.handle ≠ some x.idx) :
    s.expire x = (s.readsDrop x.idx).unitStop x stTimeout 1 := by
  have hfind : s.red.streams.find? (fun z => z.handle == some x.idx) = none := List.find?_eq_none.mpr fun z hz => by simpa using hs z hz
  rw [State.expire, if_neg ha, hfind]
  exact State.abortCmd_unit _ _ none ha hs

/-- The expired command of an acquisition ends at once; the acquisition goes on ending without it. -/
def State.acqLeft (s : State) (i : Nat) : State :=
  ({ s.readsDrop i with acq := { s.acq with handle := none } } : State).complete i stTimeout 1 (s.acq.frames % 2 ^ 32) (s.acq.frames / 2 ^ 32)

theorem State.expire_acq (ha : s.acq.handle = some x.idx) : s.expire x = (s.acqLeft x.idx).acqEnd stTimeout 1 none := if_pos ha

theorem State.acqLeft_acq (i : Nat) : (s.acqLeft i).acq = { s.acq with handle := none } := State.complete_acq _ _ _ _ _ _

end

/-! ### Settled -/

/-- Settles O11: the target by what its handle word names and by what it runs in, and the watchdog by whether it is due. -/
theorem abortAndWatchdog : Obligations.AbortAndWatchdog := by
  unfold Obligations.AbortAndWatchdog
  refine ⟨?_, ?_, ?_, ?_, ?_⟩
  · exact fun s h x hc hw hn => Ends.of_exec (exec_abort_stale hc hw hn)
  · exact fun s h x hc hw => Ends.of_exec (exec_abort_wide hc hw)
  · intro s h x y hc hw hy hg
    have hrun := exec_abort_named hc hw hy hg
    refine ⟨fun ho => ?_, fun ho hd => ?_, fun ho hd ha hs => ?_, fun ho hd ha hr he => ?_⟩
    · exact Ends.of_exec (by rw [hrun, if_pos ho])
    · exact Ends.of_exec (by rw [hrun, if_neg ho, if_pos hd])
    · rw [if_neg ho, hd, if_neg Bool.false_ne_true, State.abortCmd_unit _ _ _ ha hs] at hrun
      exact ⟨hrun, State.unitStop_ended _ _ _⟩
    · rw [if_neg ho, hd, if_neg Bool.false_ne_true, State.abortCmd_acq _ _ _ ha] at hrun
      have hacq : ((s.readsDrop y.idx).takeUp h.val).acq = s.acq := State.takeUp_acq _ _
      obtain ⟨hend, hkeep, -, -⟩ := State.acqEnd_keeps stAborted 1 (some h.val) (by rwa [hacq]) (by rwa [hacq])
      exact ⟨_, hrun, hend, hkeep.trans (congrArg Acq.run hacq)⟩
  · intro s h x hx hst hd hw
    have hrun := exec_handleWatchdog_due hx hst hd hw
    refine ⟨fun ha hs => ?_, fun ha hr he => ?_⟩
    · rw [State.expire_unit (s := s.incF Reg.HQE_WDOG_COUNT) ha hs] at hrun
      exact ⟨hrun, State.unitStop_ended _ _ _⟩
    · rw [State.expire_acq (s := s.incF Reg.HQE_WDOG_COUNT) ha] at hrun
      have hacq := State.acqLeft_acq (s := s.incF Reg.HQE_WDOG_COUNT) x.idx
      obtain ⟨hend, -, hleft, hkeep⟩ := State.acqEnd_keeps stTimeout 1 none (by rw [hacq]; exact hr) (by rw [hacq]; exact he)
      exact ⟨_, hrun, hend, hkeep _ (State.complete_ended _ _ _ _ _), hleft.trans (congrArg Acq.handle hacq)⟩
  · exact fun s h x hx hw => exec_handleWatchdog_early hx hw

end Sys2Proof.Machine
end

section
/-! SUPPORT. Plan loading (O13): the registers alone that reading a command's data changes, the plans stored, and the commands by the outcome of the checks. -/

namespace Sys2Proof.Machine

variable {s : State}

/-! ### Reading a command's data changes registers alone (R88, R110) -/

theorem State.intRead_eq (a n : Nat) : ∃ r, (s.intRead a n).2 = { s with regs := r } := by
  unfold State.intRead
  split
  · exact ⟨_, rfl⟩
  · split
    · exact ⟨_, rfl⟩
    · split
      · exact s.linesRead_eq _ _
      · split <;> exact ⟨_, rfl⟩

theorem State.chainAt_eq (fuel a left : Nat) : ∃ r, (s.chainAt fuel a left).2 = { s with regs := r } := by
  induction fuel generalizing s a left with
  | zero => exact ⟨_, rfl⟩
  | succ fuel ih =>
    have hread := State.intRead_eq (s := s) a 16
    rw [State.chainAt]
    split
    · exact ⟨_, rfl⟩
    · split
      · rename_i e
        rw [e] at hread
        dsimp only
        split
        · exact hread
        · split <;> exact regs_trans hread (ih _ _)
      · rename_i e
        rwa [e] at hread

theorem State.listAt_eq (ptr count : Nat) (d : CmdData) : ∃ r, (s.listAt ptr count d).2 = { s with regs := r } := by
  unfold State.listAt
  split
  · exact State.chainAt_eq _ _ _
  · exact ⟨_, rfl⟩

theorem State.buffer_eq (x : Handle) (d : CmdData) : ∃ r, (s.buffer x d).2 = { s with regs := r } := by
  cases hc : x.chain
  · exact ⟨s.regs, by simp [State.buffer, hc]⟩
  · obtain ⟨r, hr⟩ := State.listAt_eq (s := s) x.ptr0 x.len0 d
    exact ⟨r, by simp [State.buffer, State.listBuffer, hc, hr]⟩

theorem State.readSegs_eq (segs : List (Nat × Nat)) (d : HostData) : ∃ r, (s.readSegs segs d).2 = { s with regs := r } := by
  unfold State.readSegs
  split
  · exact ⟨_, rfl⟩
  · refine List.foldlRecOn segs _ (motive := fun (a : HostData × State) => ∃ r, a.2 = { s with regs := r }) ⟨_, rfl⟩ fun a ha x _ => ?_
    split
    · have hread := State.intRead_eq (s := a.2) x.1 x.2
      split
      · rename_i e
        rw [e] at hread
        exact regs_trans ha hread
      · exact regs_trans ha hread
    · exact ha

theorem State.dataRead_eq (x : Handle) (d : CmdData) : ∃ r, s.dataRead x d = { s with regs := r } :=
  regs_trans (State.buffer_eq x d) (State.readSegs_eq _ _)

theorem State.dataRead_hq (x : Handle) (d : CmdData) : (s.dataRead x d).hq = s.hq := by
  obtain ⟨r, h⟩ := State.dataRead_eq (s := s) x d
  rw [h]

theorem State.dataRead_acq (x : Handle) (d : CmdData) : (s.dataRead x d).acq = s.acq := by
  obtain ⟨r, h⟩ := State.dataRead_eq (s := s) x d
  rw [h]

theorem State.dataRead_ph (x : Handle) (d : CmdData) : (s.dataRead x d).ph = s.ph := by
  obtain ⟨r, h⟩ := State.dataRead_eq (s := s) x d
  rw [h]

theorem State.refLen_congr {t : State} (h : t.ph = s.ph) : t.refLen = s.refLen := by
  funext l
  rw [State.refLen, State.refLen, h]

/-! ### Plans stored (R116) -/

theorem State.plan?_congr {t : State} (h : t.acq = s.acq) (id : Nat) : t.plan? id = s.plan? id := by
  rw [State.plan?, State.plan?, h]

theorem State.plan?_storePlan (id : Nat) (p : Plan) : (s.storePlan id p).plan? id = some p := by
  have hkept : (s.acq.plans.filter (fun x => x.1 != id)).find? (fun x => x.1 == id) = none := by simp
  simp [State.plan?, State.storePlan, List.find?_append, hkept]

theorem State.plan?_removePlan (id : Nat) : (s.removePlan id).plan? id = none := by
  simp [State.plan?, State.removePlan]

/-! ### PLAN_LOAD by the outcome of the checks (R116) -/

theorem State.planLoad_bad {h id n st det r0 : Nat} {bs : List Byte} (hk : checkPlan n bs s.refLen = .bad st det r0) :
    s.planLoad h id n bs = s.complete h st det r0 0 := by
  unfold State.planLoad
  rw [hk]

theorem State.planLoad_stores {h id n : Nat} {bs : List Byte} {p : Plan} (hk : checkPlan n bs s.refLen = .ok p)
    (hroom : (s.plan? id).isSome = true ∨ s.acq.plans.length < 8) :
    s.planLoad h id n bs = (s.storePlan id p).complete h stOk 0 p.pMinDepth p.n := by
  have hfull : ((s.plan? id).isNone && decide (8 ≤ s.acq.plans.length)) = false := by
    rcases hroom with hstored | hfree
    · simp [Option.isSome_iff_ne_none.mp hstored]
    · simp [hfree]
  unfold State.planLoad
  rw [hk, hfull]
  rfl

theorem State.planLoad_full {h id n : Nat} {bs : List Byte} {p : Plan} (hk : checkPlan n bs s.refLen = .ok p)
    (hnew : s.plan? id = none) (hfull : 8 ≤ s.acq.plans.length) : s.planLoad h id n bs = s.complete h stNoSpace 0 0 0 := by
  unfold State.planLoad
  rw [hk]
  simp [hnew, hfull]

/-! ### The commands (R105, R116) -/

section Commands

variable {h : Fin 256} {d : CmdData} {n : Nat} {bs : List Byte} {x : Handle}

theorem exec_planLoad_busy (hc : s.cmd? h.val 0x10 = some x) (h0 : x.p 0 ≠ 0) (hr : s.runsPlan (x.p 0) = true) :
    exec (.planLoad h d) s = .next (s.complete h.val stBusy 0x12 0 0) := by
  simp [exec, execPlanLoad, hc, h0, hr]

theorem exec_planLoad_removes (hc : s.cmd? h.val 0x10 = some x) (h0 : x.p 0 ≠ 0) (hr : s.runsPlan (x.p 0) = false) (hl : x.len0 = 0)
    (hch : x.chain = false) : exec (.planLoad h d) s = .next ((s.removePlan (x.p 0)).complete h.val stOk 0 0 0) := by
  simp [exec, execPlanLoad, hc, h0, hr, hl, hch]

/-- PLAN_LOAD of a record that arrives: the load in the state after the read. -/
theorem exec_planLoad_reads (hc : s.cmd? h.val 0x10 = some x) (h0 : x.p 0 ≠ 0) (hr : s.runsPlan (x.p 0) = false)
    (hl : x.len0 ≠ 0 ∨ x.chain = true) (hd : s.dataOf x d = some (n, bs)) :
    exec (.planLoad h d) s = .next ((s.dataRead x d).planLoad h.val (x.p 0) n bs) := by
  have hrec : ¬(x.len0 = 0 ∧ (!x.chain) = true) := by
    rintro ⟨hz, hn⟩
    rcases hl with hl | hl
    · exact hl hz
    · simp [hl] at hn
  simp only [exec, execPlanLoad, hc, h0, hr, if_neg hrec, if_false, Bool.false_eq_true, State.withData_of s x d n bs _ hd]

/-- PLAN_CHECK of a record that arrives: the outcome of the checks ends it, and nothing is stored. -/
theorem exec_planCheck_good {p : Plan} (hc : s.cmd? h.val 0x11 = some x) (h0 : x.p 0 ≠ 0) (hd : s.dataOf x d = some (n, bs))
    (hk : checkPlan n bs s.refLen = .ok p) :
    exec (.planCheck h d) s = .next ((s.dataRead x d).complete h.val stOk 0 p.pMinDepth p.n) := by
  rw [← State.refLen_congr (State.dataRead_ph x d)] at hk
  simp only [exec, execPlanCheck, hc, if_neg h0, State.withData_of s x d n bs _ hd, hk]

theorem exec_planCheck_bad {st det r0 : Nat} (hc : s.cmd? h.val 0x11 = some x) (h0 : x.p 0 ≠ 0) (hd : s.dataOf x d = some (n, bs))
    (hk : checkPlan n bs s.refLen = .bad st det r0) : exec (.planCheck h d) s = .next ((s.dataRead x d).complete h.val st det r0 0) := by
  rw [← State.refLen_congr (State.dataRead_ph x d)] at hk
  simp only [exec, execPlanCheck, hc, if_neg h0, State.withData_of s x d n bs _ hd, hk]

end Commands

/-! ### Settled -/

/-- Settles O13, command by command and by the outcome of the checks. -/
theorem planLoading : Obligations.PlanLoading := by
  unfold Obligations.PlanLoading
  refine ⟨?_, ?_, ?_⟩
  · intro s h d n bs x hc h0 hr hl hd
    have hhandle := State.handle?_congr (State.dataRead_hq (s := s) x d) h.val
    have hplan := State.plan?_congr (State.dataRead_acq (s := s) x d) (x.p 0)
    have hplans : (s.dataRead x d).acq.plans = s.acq.plans := congrArg Acq.plans (State.dataRead_acq x d)
    have hexec := exec_planLoad_reads hc h0 hr hl hd
    rw [← State.refLen_congr (State.dataRead_ph x d)]
    refine ⟨fun p hk hroom => ?_, fun p hk hnew hfull => ?_, fun st det r0 hk => ?_⟩
    · rw [← hplan, ← hplans] at hroom
      exact ⟨_, hexec.trans (congrArg _ (State.planLoad_stores hk hroom)), hhandle, rfl, State.plan?_storePlan _ _⟩
    · exact ⟨_, hexec.trans (congrArg _ (State.planLoad_full hk (hplan.trans hnew) (hplans ▸ hfull))), hhandle, rfl⟩
    · exact ⟨_, hexec.trans (congrArg _ (State.planLoad_bad hk)), hhandle, rfl⟩
  · intro s h d x hc h0
    refine ⟨fun hr => Ends.of_exec (exec_planLoad_busy hc h0 hr), fun hr hl hch => ?_⟩
    exact ⟨_, exec_planLoad_removes hc h0 hr hl hch, rfl, rfl, State.plan?_removePlan _⟩
  · intro s h d n bs x hc h0 hd
    have hhandle := State.handle?_congr (State.dataRead_hq (s := s) x d) h.val
    exact ⟨fun p hk => ⟨_, exec_planCheck_good hc h0 hd hk, hhandle, rfl⟩, fun st det r0 hk => ⟨_, exec_planCheck_bad hc h0 hd hk, hhandle, rfl⟩⟩

end Sys2Proof.Machine
end

section
/-! SUPPORT. The lane rates and the slots of a plan (O55): what a record that passes the checks keeps. -/

namespace Sys2Proof.Machine

/-! ### Rules without a fault (R116, R117) -/

theorem wide_eq_none {b : Bool} : wide b = none ↔ b = false := by cases b <;> simp [wide]

/-- A rule of tones that finds none: no tone is bad among those before it. -/
theorem firstTone_eq_none {ts : List Tone} {bad : Nat → Tone → List Tone → Bool} :
    firstTone ts bad = none ↔ ∀ k (hk : k < ts.length), bad k ts[k] (ts.take k) = false := by
  simp only [firstTone, List.find?_eq_none, List.mem_range, Bool.not_eq_true]
  exact forall₂_congr fun k hk => by rw [List.getElem?_eq_getElem hk]

/-- The same for a rule that looks at the tone alone. -/
theorem firstTone_alone_eq_none {ts : List Tone} {bad : Tone → Bool} :
    firstTone ts (fun _ t _ => bad t) = none ↔ ∀ t ∈ ts, bad t = false := by
  rw [firstTone_eq_none, List.forall_mem_iff_getElem]

theorem checkPlan_rules {len : Nat} {bs : List Byte} {refLen : Nat → Nat} {p : Plan} (h : checkPlan len bs refLen = .ok p) :
    ∃ m, ∀ x ∈ p.rules m, x.2 = none := by
  unfold checkPlan at h
  extract_lets n q at h
  split at h
  · cases h
  · split at h
    · cases h
    · split at h
      · cases h
      · rename_i hb
        have hp : q = p := by injection h
        rw [hp] at hb
        refine ⟨field bs 0 4 == 0x4E414C50 && field bs 4 2 == 1, fun x hx => ?_⟩
        have hx' := List.findSome?_eq_none_iff.mp hb x (List.mem_append_left _ hx)
        simpa using hx'

/-- What the rules of R117 that bound lanes and slots say of a plan. -/
structure Plan.Sound (p : Plan) : Prop where
  count : 1 ≤ p.n ∧ p.n ≤ 128
  slots : p.frameTicks % p.n = 0
  lane : ∀ t ∈ p.tones, t.lane < 128
  rising : ∀ k (hk : k + 1 < p.tones.length), p.tones[k].lane < p.tones[k + 1].lane
  depth : ∀ t ∈ p.tones, 1 ≤ t.depth ∧ t.depth ≤ 4
  place : ∀ t ∈ p.tones, laneSlot t.lane < 2 ^ (t.depth - 1)
  oneDepth : ∀ k (hk : k < p.tones.length), ∀ q ∈ p.tones.take k, laneChan q.lane = laneChan p.tones[k].lane → q.depth = p.tones[k].depth
  window : p.winOfs + p.window + p.tcMax + 400 ≤ p.frameTicks
  gap : ∀ t ∈ p.tones, p.lead + t.chirpTicks + p.lag + 20 ≤ p.slotTicks
  gauge : ∀ t ∈ p.tones, p.gauge < p.points t

theorem Plan.sound_of_rules {p : Plan} {m : Bool} (h : ∀ x ∈ p.rules m, x.2 = none) : p.Sound := by
  simp only [Plan.rules, List.forall_mem_append, List.forall_mem_cons, List.not_mem_nil, false_implies, implies_true, and_true,
    wide_eq_none, firstTone_alone_eq_none] at h
  obtain ⟨⟨⟨-, hn, -, hslots, -, -, hlane, hdepth, hplace, hone⟩, -, -, -, -, -, -, hwin, hgap, -, -⟩, hgauge, -⟩ := h
  rw [firstTone_eq_none] at hlane hone
  have hn' : p.n ≠ 0 ∧ p.n ≤ 128 := by simpa using hn
  refine ⟨⟨Nat.pos_of_ne_zero hn'.1, hn'.2⟩, by simpa using hslots, ?_, fun k hk => ?_, ?_, ?_, fun k hk q hq hc => ?_, ?_, ?_, ?_⟩
  · rw [List.forall_mem_iff_getElem]
    intro k hk
    have hl := (Bool.or_eq_false_iff.mp (hlane k hk)).1
    simp only [decide_eq_false_iff_not] at hl
    omega
  · have hl := (Bool.or_eq_false_iff.mp (hlane (k + 1) hk)).2
    have hlast : (p.tones.take (k + 1)).getLast? = some p.tones[k] := by
      rw [List.getLast?_take, if_neg (by omega), Nat.add_sub_cancel, List.getElem?_eq_getElem (by omega)]
      rfl
    rw [hlast] at hl
    simpa using hl
  · intro t ht
    have hd := hdepth t ht
    simp only [Bool.or_eq_false_iff, beq_eq_false_iff_ne, decide_eq_false_iff_not] at hd
    omega
  · intro t ht
    simpa using hplace t ht
  · have hd := List.any_eq_false.mp (hone k hk) q hq
    simpa [hc] using hd
  · simpa using hwin
  · intro t ht
    simpa using hgap t ht
  · split at hgauge
    · cases hgauge
    · intro t ht
      simpa using firstTone_alone_eq_none.mp hgauge t ht

/-! ### Lanes (R111, R115, R117) -/

namespace Plan.Sound

variable {p : Plan} (h : p.Sound)
include h

theorem lanes_pairwise : p.tones.Pairwise (fun a b => a.lane < b.lane) := by
  have : IsTrans Tone (fun a b => a.lane < b.lane) := ⟨fun _ _ _ => Nat.lt_trans⟩
  rw [← List.isChain_iff_pairwise, List.isChain_iff_getElem]
  exact fun k hk => h.rising k hk

theorem lanes_nodup : (p.tones.map (·.lane)).Nodup := List.pairwise_map.mpr (h.lanes_pairwise.imp Nat.ne_of_lt)

theorem tones_nodup : p.tones.Nodup := h.lanes_nodup.of_map _

/-- Two tones of one coarse channel have one depth. -/
theorem depth_eq {a b : Tone} (ha : a ∈ p.tones) (hb : b ∈ p.tones) (hc : laneChan a.lane = laneChan b.lane) : a.depth = b.depth := by
  obtain ⟨i, hi, rfl⟩ := List.getElem_of_mem ha
  obtain ⟨j, hj, rfl⟩ := List.getElem_of_mem hb
  rcases Nat.lt_trichotomy i j with hij | rfl | hij
  · exact h.oneDepth j hj _ (List.mem_take_iff_getElem.mpr ⟨i, by omega, rfl⟩) hc
  · rfl
  · exact (h.oneDepth i hi _ (List.mem_take_iff_getElem.mpr ⟨j, by omega, rfl⟩) hc.symm).symm

end Plan.Sound

/-- The lanes that a channel holds at depth `d` take 200 MS/s together. -/
theorem lanes_mul_rate {d : Nat} (h1 : 1 ≤ d) (h4 : d ≤ 4) : 2 ^ (d - 1) * laneRateKhz d = 200000 := by
  obtain rfl | rfl | rfl | rfl : d = 1 ∨ d = 2 ∨ d = 3 ∨ d = 4 := by omega
  all_goals rfl

/-- The rates of a channel's lanes: they have one depth, and each has a slot of its own. -/
theorem Plan.Sound.chan_rate {p : Plan} (h : p.Sound) (c : Nat) :
    ∑ t ∈ p.tones.toFinset with t.lane / 8 = c, laneRateKhz t.depth ≤ 200000 := by
  rcases Finset.eq_empty_or_nonempty {t ∈ p.tones.toFinset | t.lane / 8 = c} with he | ⟨t0, ht0⟩
  · rw [he]
    exact Nat.zero_le _
  · simp only [Finset.mem_filter, List.mem_toFinset] at ht0
    have hdepth : ∀ t ∈ p.tones.toFinset.filter (fun t => t.lane / 8 = c), t.depth = t0.depth := by
      intro t ht
      simp only [Finset.mem_filter, List.mem_toFinset] at ht
      exact h.depth_eq ht.1 ht0.1 (by simp only [laneChan]; omega)
    have hcard : (p.tones.toFinset.filter (fun t => t.lane / 8 = c)).card ≤ 2 ^ (t0.depth - 1) := by
      rw [← Finset.card_range (2 ^ (t0.depth - 1))]
      refine Finset.card_le_card_of_injOn (fun t => laneSlot t.lane) (fun t ht => ?_) fun a ha b hb hab => ?_
      · rw [Finset.mem_coe, Finset.mem_range, ← hdepth t ht]
        exact h.place t (by simpa using (Finset.mem_filter.mp ht).1)
      · simp only [Finset.coe_filter, List.mem_toFinset, Set.mem_ofPred_eq] at ha hb
        simp only [laneSlot] at hab
        exact List.inj_on_of_nodup_map h.lanes_nodup ha.1 hb.1 (by omega)
    calc ∑ t ∈ p.tones.toFinset with t.lane / 8 = c, laneRateKhz t.depth
        ≤ (p.tones.toFinset.filter (fun t => t.lane / 8 = c)).card * laneRateKhz t0.depth :=
          Finset.sum_le_card_nsmul _ _ _ fun t ht => by rw [hdepth t ht]
      _ ≤ 2 ^ (t0.depth - 1) * laneRateKhz t0.depth := Nat.mul_le_mul_right _ hcard
      _ = 200000 := lanes_mul_rate (h.depth t0 ht0.1).1 (h.depth t0 ht0.1).2

/-- The rates of all lanes: at most those of sixteen full channels. -/
theorem Plan.Sound.rates {p : Plan} (h : p.Sound) : (p.tones.map (fun t => laneRateKhz t.depth)).sum ≤ 3200000 := by
  have hchan : ∀ t ∈ p.tones.toFinset, t.lane / 8 ∈ Finset.range 16 := by
    intro t ht
    have := h.lane t (by simpa using ht)
    exact Finset.mem_range.mpr (by omega)
  calc (p.tones.map (fun t => laneRateKhz t.depth)).sum
      = ∑ t ∈ p.tones.toFinset, laneRateKhz t.depth := (List.sum_toFinset _ h.tones_nodup).symm
    _ = ∑ c ∈ Finset.range 16, ∑ t ∈ p.tones.toFinset with t.lane / 8 = c, laneRateKhz t.depth :=
        (Finset.sum_fiberwise_of_maps_to hchan _).symm
    _ ≤ 16 * 200000 := by simpa using Finset.sum_le_card_nsmul (Finset.range 16) _ 200000 fun c _ => h.chan_rate c

/-! ### Windows (R117) -/

theorem Tone.chirpTicks_le_tcMax {p : Plan} {t : Tone} (ht : t ∈ p.tones) : t.chirpTicks ≤ p.tcMax := by
  rw [Plan.tcMax, List.foldl_max]
  exact (List.le_max?_getD_of_mem (List.mem_map_of_mem ht)).trans (le_max_right _ _)

/-- What a plan record that passes the checks keeps. -/
theorem checkPlan_bounds {len : Nat} {bs : List Byte} {refLen : Nat → Nat} {p : Plan} (hk : checkPlan len bs refLen = .ok p) :
    (p.tones.map (fun t => laneRateKhz t.depth)).sum ≤ 3200000 ∧ 1 ≤ p.n ∧ p.n ≤ 128 ∧ p.frameTicks = p.n * p.slotTicks ∧
    ∀ t ∈ p.tones, p.lead + t.chirpTicks + p.lag + 20 ≤ p.slotTicks ∧ p.winOfs + p.window + t.chirpTicks + 400 ≤ p.frameTicks ∧
      t.lane < 128 ∧ p.gauge < p.points t := by
  obtain ⟨m, hrules⟩ := checkPlan_rules hk
  have h := Plan.sound_of_rules hrules
  refine ⟨h.rates, h.count.1, h.count.2, (Nat.mul_div_cancel' (Nat.dvd_of_mod_eq_zero h.slots)).symm, fun t ht => ?_⟩
  have hmax := Tone.chirpTicks_le_tcMax ht
  have hwin := h.window
  exact ⟨h.gap t ht, by omega, h.lane t ht, h.gauge t ht⟩

end Sys2Proof.Machine
end

section
/-! SUPPORT. The arithmetic of lanes, groups and Raman records (O55): the DC block at rest, the carry of a reduction, the slots of a record, and the accumulators. -/

namespace Sys2Proof.Machine

/-! ### The DC block (R138) -/

/-- Codes that all equal `v` leave the estimator where it holds `v`. -/
theorem dcbNext_rest (v : Int) {k : Nat} (hk : 0 < k) : dcbNext (v * 20 * 2 ^ k) (20 * v) k = v * 20 * 2 ^ k := by
  have hp : (0 : Int) < 2 ^ k := by positivity
  have hhalf : (2 ^ (k - 1) : Int) / 2 ^ k = 0 :=
    Int.ediv_eq_zero_of_lt (by positivity) (pow_lt_pow_right₀ (by decide) (by omega))
  have hround : Int.fdiv (v * 20 * 2 ^ k + 2 ^ (k - 1)) (2 ^ k) = v * 20 := by
    rw [Int.fdiv_eq_ediv_of_nonneg _ hp.le, Int.add_comm, Int.add_mul_ediv_right _ _ hp.ne', hhalf, Int.zero_add]
  rw [dcbNext, hround]
  omega

/-- The subtraction value there is `v`: the scale 13,107 / 2^18 misses 1/20 by less than half a code. -/
theorem dcbD_rest {v : Int} (k : Nat) (hlo : -512 ≤ v) (hhi : v ≤ 511) : dcbD (v * 20 * 2 ^ k) k = v := by
  have hsplit : v * 20 * 2 ^ k * 13107 + 2 ^ (k + 17) = 2 ^ k * (v * 262140 + 131072) := by ring
  rw [dcbD, Int.fdiv_eq_ediv_of_nonneg _ (by positivity), hsplit, pow_add, Int.mul_ediv_mul_of_pos _ _ (by positivity)]
  omega

/-! ### Rounding and the carry of a group (R177) -/

/-- Rounding to the nearest multiple leaves at most half of the divisor. -/
theorem divRne_error (a : Int) {b : Int} (hb : 0 < b) : 2 * (a - b * divRne a b).natAbs ≤ b := by
  have hdiv := Int.emod_add_mul_ediv a b
  have hlo := Int.emod_nonneg a hb.ne'
  have hhi := Int.emod_lt_of_pos a hb
  unfold divRne
  rw [Int.fdiv_eq_ediv_of_nonneg _ hb.le]
  extract_lets q r
  have hr : r = a % b := by simp only [r, q]; rw [Int.mul_comm]; omega
  have hq : a - b * q = r := by simp only [r]; rw [Int.mul_comm]
  have hq1 : a - b * (q + 1) = r - b := by rw [Int.mul_add]; omega
  split
  · rw [hq]; omega
  · split
    · rw [hq1]; omega
    · split
      · rw [hq]; omega
      · rw [hq1]; omega

theorem reduceGroup_carry {q : Nat} {sums carry : List Int} {i : Nat} (hq : 1 < q) (hi : i < sums.length) :
    (q : Int) * (reduceGroup kInc q sums carry).1.getD i 0 + (reduceGroup kInc q sums carry).2.getD i 0 = sums.getD i 0 + carry.getD i 0 ∧
      2 * ((reduceGroup kInc q sums carry).2.getD i 0).natAbs ≤ q := by
  have hu : (reduceGroup kInc q sums carry).1.getD i 0 = divRne (sums.getD i 0 + carry.getD i 0) q := by
    simp [reduceGroup, Nat.not_le.mpr hq, hi]
  have hc : (reduceGroup kInc q sums carry).2.getD i 0 =
      sums.getD i 0 + carry.getD i 0 - q * divRne (sums.getD i 0 + carry.getD i 0) q := by
    simp [reduceGroup, Nat.not_le.mpr hq, hi]
  have herr := divRne_error (sums.getD i 0 + carry.getD i 0) (b := q) (by omega)
  rw [hu, hc]
  exact ⟨by omega, by omega⟩

/-! ### Raman records (R194, R199) and accumulators (R192) -/

theorem firstBad_eq_none {l : List (Bool × Nat)} : firstBad l = none ↔ ∀ x ∈ l, x.1 = false := by
  simp [firstBad]

theorem DtsCfg.slotBytes_mod (c : DtsCfg) : c.slotBytes % 64 = 0 := Nat.mul_mod_left _ _

theorem DtsCfg.record_le_slotBytes (c : DtsCfg) : 64 + c.recBytes * c.points ≤ c.slotBytes := by
  unfold DtsCfg.slotBytes
  generalize c.recBytes * c.points = n
  omega

theorem dtsBad_result {bs : List Byte} (h : dtsBad bs = none) :
    (parseDts bs).resultOfs % 64 = 0 ∧ (parseDts bs).resultOfs + (parseDts bs).slots * (parseDts bs).slotBytes ≤ 0x800000 := by
  unfold dtsBad at h
  rw [firstBad_eq_none] at h
  have hres := h (((parseDts bs).resultOfs % 64 != 0 ||
    decide (0x800000 < (parseDts bs).resultOfs + (parseDts bs).slots * (parseDts bs).slotBytes)), 48) (by simp)
  simpa using hres

theorem dtsBad_slots {bs : List Byte} {k : Nat} (h : dtsBad bs = none) (hk : k < (parseDts bs).slots) :
    (parseDts bs).slotOfs k % 64 = 0 ∧ (parseDts bs).slotOfs k + (parseDts bs).slotBytes ≤ 0x800000 := by
  obtain ⟨halign, hend⟩ := dtsBad_result h
  generalize parseDts bs = c at halign hend hk ⊢
  have hmod : k * c.slotBytes % 64 = 0 := by rw [Nat.mul_mod, c.slotBytes_mod, Nat.mul_zero, Nat.zero_mod]
  have hle : (k + 1) * c.slotBytes ≤ c.slots * c.slotBytes := Nat.mul_le_mul_right _ hk
  rw [Nat.succ_mul] at hle
  unfold DtsCfg.slotOfs
  omega

/-- A shot's codes added: every point has its own run of `n` codes. -/
theorem addPoints_spec (n p : Nat) (acc codes : List Nat) : (addPoints n p acc codes).length = p ∧
    ∀ i < p, (addPoints n p acc codes).getD i 0 = acc.getD i 0 + ((codes.drop (n * i)).take n).sum := by
  induction p generalizing acc codes with
  | zero => exact ⟨rfl, fun i hi => absurd hi (Nat.not_lt_zero i)⟩
  | succ p ih =>
    obtain ⟨hlen, hget⟩ := ih acc.tail (codes.drop n)
    refine ⟨by rw [addPoints, List.length_cons, hlen], fun i hi => ?_⟩
    cases i with
    | zero => cases acc <;> simp [addPoints]
    | succ i =>
      have hacc : acc.tail.getD i 0 = acc.getD (i + 1) 0 := by cases acc <;> simp
      rw [addPoints, List.getD_cons_succ, hget i (Nat.lt_of_succ_lt_succ hi), hacc, List.drop_drop, Nat.mul_succ, Nat.add_comm n]

/-- A run of at most `n` codes sums to at most `n` times the largest. -/
theorem sum_take_codes_le {codes : List Nat} (n j : Nat) (h : ∀ c ∈ codes, c < 2 ^ 14) : ((codes.drop j).take n).sum ≤ n * (2 ^ 14 - 1) := by
  have hsum := List.sum_le_card_nsmul ((codes.drop j).take n) (2 ^ 14 - 1) fun c hc =>
    Nat.le_sub_one_of_lt (h c (List.mem_of_mem_drop (List.mem_of_mem_take hc)))
  rw [smul_eq_mul] at hsum
  exact hsum.trans (Nat.mul_le_mul_right _ (List.length_take_le _ _))

end Sys2Proof.Machine
end

section
/-! SUPPORT. The quantiser (O55): wrapped values, one step, and what a run in feedback mode conserves. -/

namespace Sys2Proof.Machine

/-! ### Wrapped values (R227) -/

/-- wrap_b is the balanced remainder. -/
theorem wrapB_eq_bmod {b : Nat} (hb : 0 < b) (x : Int) : wrapB b x = x.bmod (2 ^ b) := by
  have hpow : 2 ^ b = 2 * 2 ^ (b - 1) := by rw [← pow_succ', Nat.sub_add_cancel hb]
  have hpos := Int.emod_nonneg x (show (2 ^ b : Int) ≠ 0 by positivity)
  have hlt := Int.emod_lt_of_pos x (show (0 : Int) < 2 ^ b by positivity)
  obtain ⟨r, hr⟩ := Int.eq_ofNat_of_zero_le hpos
  have hrlt : r < 2 ^ b := by rw [hr] at hlt; exact_mod_cast hlt
  have hcode : code b x = r := by rw [code, hr, Int.toNat_natCast]
  have hhalf : ((2 ^ b : Int) + 1) / 2 = 2 ^ (b - 1) := by
    have : (2 ^ b : Int) = 2 * 2 ^ (b - 1) := by exact_mod_cast hpow
    omega
  rw [wrapB, sx, Int.bmod_def, hcode, Nat.mod_eq_of_lt hrlt]
  push_cast
  rw [hr, hhalf]
  norm_cast

theorem wrapB_bounds {b : Nat} (hb : 0 < b) (x : Int) : -(2 ^ (b - 1) : Int) ≤ wrapB b x ∧ wrapB b x < 2 ^ (b - 1) := by
  have hpow : (2 ^ b : Int) = 2 * 2 ^ (b - 1) := by rw [← pow_succ', Nat.sub_add_cancel hb]
  have hlo := Int.le_bmod (x := x) (Nat.two_pow_pos b)
  have hhi := Int.bmod_lt (x := x) (Nat.two_pow_pos b)
  rw [wrapB_eq_bmod hb]
  push_cast at hlo hhi
  omega

theorem dvd_wrapB_sub {b : Nat} (hb : 0 < b) (x : Int) : (2 ^ b : Int) ∣ wrapB b x - x := by
  rw [wrapB_eq_bmod hb]
  exact_mod_cast Int.dvd_bmod_sub_self (x := x) (m := 2 ^ b)

/-- A value of `b` bits is what any value congruent to it wraps to. -/
theorem wrapB_eq_of_dvd {b : Nat} {q x : Int} (hb : 0 < b) (hlo : -(2 ^ (b - 1) : Int) ≤ q) (hhi : q < 2 ^ (b - 1))
    (hd : (2 ^ b : Int) ∣ x - q) : wrapB b x = q := by
  have hm : x % 2 ^ b = q % 2 ^ b := Int.emod_eq_emod_iff_emod_sub_eq_zero.mpr (Int.emod_eq_zero_of_dvd hd)
  rw [wrapB, code, hm]
  exact sx_code hb hlo hhi

/-! ### One value (R228, R229) -/

/-- Of a value through the quantiser in feedback mode: y and the new error term carry the value and the old term, modulo 2^W; the new term is at most half of 2^k, and q has W − k bits. -/
theorem quantOne_spec {elem k : Nat} (x eps : Int) (hs : elem < 2) (hk : 1 ≤ k) (hk8 : k ≤ 8) :
    let r := quantOne elem k true x eps
    (2 ^ elemW elem : Int) ∣ (r.2.1 - x) + (r.2.2 - eps) ∧ r.2.2.natAbs ≤ 2 ^ (k - 1) ∧
      -(2 ^ (elemW elem - k - 1) : Int) ≤ r.1 ∧ r.1 < 2 ^ (elemW elem - k - 1) := by
  have hw : k < elemW elem := by
    have : 8 < elemW elem := by unfold elemW; split <;> decide
    omega
  have hpk : (2 : Int) ^ k = 2 * 2 ^ (k - 1) := by rw [← pow_succ', Nat.sub_add_cancel hk]
  have hsplit : (2 : Int) ^ elemW elem = 2 ^ (elemW elem - k) * 2 ^ k := by rw [← pow_add, Nat.sub_add_cancel hw.le]
  intro r
  obtain ⟨m, hm⟩ : ∃ m, m = shrRne (x + eps) k := ⟨_, rfl⟩
  have hr : r = (wrapB (elemW elem - k) m, wrapB (elemW elem) (wrapB (elemW elem - k) m * 2 ^ k), x + eps - m * 2 ^ k) := by
    simp [r, quantOne, Nat.pos_iff_ne_zero.mp hk, hm, wrapElem, elemSigned, hs]
  have hy := dvd_wrapB_sub (b := elemW elem) (by omega) (wrapB (elemW elem - k) m * 2 ^ k)
  have hq : (2 ^ elemW elem : Int) ∣ (wrapB (elemW elem - k) m - m) * 2 ^ k := by
    rw [hsplit]
    exact Int.mul_dvd_mul_right _ (dvd_wrapB_sub (by omega) m)
  have herr := divRne_error (x + eps) (b := 2 ^ k) (by positivity)
  rw [hr]
  refine ⟨?_, ?_, wrapB_bounds (by omega) m⟩
  · have hsum := Int.dvd_add hy hq
    rw [Int.sub_mul] at hsum
    convert hsum using 1
    ring
  · have herr' : 2 * (x + eps - m * 2 ^ k).natAbs ≤ 2 ^ k := by
      rw [hm, shrRne, Int.mul_comm (divRne _ _)]
      exact_mod_cast herr
    rw [show 2 ^ k = 2 * 2 ^ (k - 1) by exact_mod_cast hpk] at herr'
    exact Nat.le_of_mul_le_mul_left herr' (by decide)

/-! ### A run (R229) -/

/-- The quantiser's progress: q and y, newest first, and the error terms. -/
abbrev QuantAcc := List Int × List Int × Array Int

/-- One value of a run, by its place in the run. -/
def quantStep (elem k stride : Nat) (acc : QuantAcc) (xi : Int × Nat) : QuantAcc :=
  let r := quantOne elem k true xi.1 (acc.2.2.getD (xi.2 % stride) 0)
  (r.1 :: acc.1, r.2.1 :: acc.2.1, acc.2.2.setIfInBounds (xi.2 % stride) r.2.2)

theorem quantRun_eq_foldl (elem k stride : Nat) (xs : List Int) : quantRun elem k true stride xs [] =
    let r := xs.zipIdx.foldl (quantStep elem k stride) ([], [], Array.replicate stride 0)
    (r.1.reverse, r.2.1.reverse, r.2.2.toList) := by
  simp only [quantRun, List.nil_append, List.length_nil, Nat.sub_zero, List.toArray_replicate]
  rfl

/-- What the progress keeps after the values `xs`. -/
structure QuantKept (elem k stride : Nat) (xs : List Int) (acc : QuantAcc) : Prop where
  size : acc.2.2.size = stride
  count : acc.2.1.length = xs.length
  sum : (2 ^ elemW elem : Int) ∣ acc.2.1.sum - xs.sum + acc.2.2.toList.sum
  terms : ∀ e ∈ acc.2.2.toList, e.natAbs ≤ 2 ^ (k - 1)
  quants : ∀ q ∈ acc.1, -(2 ^ (elemW elem - k - 1) : Int) ≤ q ∧ q < 2 ^ (elemW elem - k - 1)

theorem QuantKept.start (elem k stride : Nat) : QuantKept elem k stride [] ([], [], Array.replicate stride 0) where
  size := by simp
  count := rfl
  sum := by simp
  terms := by simp +contextual
  quants := by simp

theorem QuantKept.step {elem k stride : Nat} {xs : List Int} {acc : QuantAcc} (h : QuantKept elem k stride xs acc) (x : Int) (i : Nat)
    (hs : elem < 2) (hk : 1 ≤ k) (hk8 : k ≤ 8) (hstr : 1 ≤ stride) :
    QuantKept elem k stride (xs ++ [x]) (quantStep elem k stride acc (x, i)) := by
  obtain ⟨qs, ys, es⟩ := acc
  obtain ⟨hsize, hcount, hsum, hterms, hquants⟩ := h
  simp only at hsize hcount hsum hterms hquants
  have hc : i % stride < es.toList.length := by rw [Array.length_toList, hsize]; exact Nat.mod_lt _ hstr
  obtain ⟨hy, he, hq⟩ := quantOne_spec x (es.getD (i % stride) 0) hs hk hk8
  have hold : es.getD (i % stride) 0 = es.toList[i % stride] := by
    rw [Array.getD_eq_getD_getElem?, Array.getElem?_eq_getElem (by simpa using hc)]
    rfl
  refine ⟨by simp [quantStep, hsize], by simp [quantStep, hcount], ?_, ?_, ?_⟩
  · simp only [quantStep, Array.toList_setIfInBounds, List.sum_cons, List.sum_append, List.sum_nil, List.sum_set', dif_pos hc]
    rw [hold] at hy ⊢
    convert Int.dvd_add hsum hy using 1
    ring
  · simp only [quantStep, Array.toList_setIfInBounds]
    intro e hmem
    rcases List.mem_or_eq_of_mem_set hmem with hmem | rfl
    · exact hterms e hmem
    · exact he
  · simp only [quantStep, List.forall_mem_cons]
    exact ⟨hq, hquants⟩

theorem QuantKept.run {elem k stride : Nat} (xs : List Int) (hs : elem < 2) (hk : 1 ≤ k) (hk8 : k ≤ 8) (hstr : 1 ≤ stride) :
    QuantKept elem k stride xs (xs.zipIdx.foldl (quantStep elem k stride) ([], [], Array.replicate stride 0)) := by
  induction xs using List.reverseRecOn with
  | nil => exact QuantKept.start elem k stride
  | append_singleton xs x ih =>
    rw [List.zipIdx_append, List.foldl_append]
    exact ih.step x _ hs hk hk8 hstr

theorem quantRun_conserves {elem k stride : Nat} (xs : List Int) (hs : elem < 2) (hk : 1 ≤ k) (hk8 : k ≤ 8) (hstr : 1 ≤ stride) :
    let r := quantRun elem k true stride xs []
    r.2.1.length = xs.length ∧ r.2.2.length = stride ∧ (r.2.1.sum - xs.sum + r.2.2.sum) % 2 ^ elemW elem = 0 ∧
      (∀ e ∈ r.2.2, e.natAbs ≤ 2 ^ (k - 1)) ∧ (∀ q ∈ r.1, -(2 ^ (elemW elem - k - 1) : Int) ≤ q ∧ q < 2 ^ (elemW elem - k - 1)) := by
  obtain ⟨hsize, hcount, hsum, hterms, hquants⟩ := QuantKept.run xs hs hk hk8 hstr
  rw [quantRun_eq_foldl]
  refine ⟨by simpa using hcount, by simpa using hsize, ?_, hterms, fun q hq => hquants q (List.mem_reverse.mp hq)⟩
  rw [List.sum_reverse]
  exact Int.emod_eq_zero_of_dvd hsum

end Sys2Proof.Machine
end

section
/-! SUPPORT. The coder's tokens read back (O55): runs of bits, a literal, a match, and a residual against its reference. -/

namespace Sys2Proof.Machine

/-! ### Runs of bits (R234) -/

theorem b2n_testBit (x n : Nat) : b2n (x.testBit n) = x / 2 ^ n % 2 := by
  have h2 : x / 2 ^ n % 2 = 0 ∨ x / 2 ^ n % 2 = 1 := by omega
  rw [Nat.testBit_eq_decide_div_mod_eq]
  rcases h2 with h2 | h2 <;> simp [b2n, h2]

theorem bitsOf_succ (n x : Nat) : bitsOf (n + 1) x = x.testBit n :: bitsOf n x := by
  simp only [bitsOf, List.range_succ_eq_map, List.map_cons, List.map_map, Nat.add_sub_cancel, Nat.sub_zero]
  congr 1
  exact List.map_congr_left fun i _ => by rw [Function.comp_apply, show n - i.succ = n - 1 - i by omega]

@[simp] theorem bitsOf_length (n x : Nat) : (bitsOf n x).length = n := by simp [bitsOf]

/-- Bits written most significant first spell the number, cut to their count. -/
theorem foldl_bitsOf (n x a : Nat) : (bitsOf n x).foldl (fun a b => 2 * a + b2n b) a = a * 2 ^ n + x % 2 ^ n := by
  induction n generalizing a with
  | zero => simp [bitsOf, Nat.mod_one]
  | succ n ih =>
    rw [bitsOf_succ, List.foldl_cons, ih, b2n_testBit, Nat.mod_pow_succ]
    ring

theorem takeBits_bitsOf (n x : Nat) (rest : List Bool) : takeBits n (bitsOf n x ++ rest) = some (x % 2 ^ n, rest) := by
  rw [takeBits, if_neg (by simp), List.take_left' (bitsOf_length n x), List.drop_left' (bitsOf_length n x), foldl_bitsOf]
  simp

/-- A run of ones that a zero ends before the count is reached. -/
theorem takeOnes_replicate {h n : Nat} (hn : h < n) (rest : List Bool) :
    takeOnes n (List.replicate h true ++ false :: rest) = (h, false :: rest) := by
  induction h generalizing n with
  | zero =>
    cases n with
    | zero => exact absurd hn (Nat.lt_irrefl 0)
    | succ n => rfl
  | succ h ih =>
    cases n with
    | zero => exact absurd hn (Nat.not_lt_zero _)
    | succ n => rw [List.replicate_succ, List.cons_append, takeOnes, ih (Nat.lt_of_succ_lt_succ hn)]

/-- A run of ones as long as the count. -/
theorem takeOnes_full (n : Nat) (rest : List Bool) : takeOnes n (List.replicate n true ++ rest) = (n, rest) := by
  induction n with
  | zero => simp [takeOnes]
  | succ n ih => rw [List.replicate_succ, List.cons_append, takeOnes, ih]

/-! ### Tokens (R233, R234) -/

/-- A literal: a short run of ones and the low bits, or the escape and all `b` bits. -/
theorem readRice_riceBits {b u : Nat} (a n : Nat) (rest : List Bool) (hu : u < 2 ^ b) :
    readRice b a n (riceBits b a n u ++ rest) = some (u, rest) := by
  unfold readRice riceBits
  extract_lets s
  by_cases hshort : u / 2 ^ s < 24
  · have hones : takeOnes 24 (List.replicate (u / 2 ^ s) true ++ [false] ++ bitsOf s u ++ rest) = (u / 2 ^ s, false :: (bitsOf s u ++ rest)) := by
      rw [List.append_assoc, List.append_assoc]
      exact takeOnes_replicate hshort _
    rw [if_pos hshort, hones]
    split
    · rename_i heq
      have := (Prod.mk.inj heq).1
      omega
    · rename_i heq
      obtain ⟨rfl, hrest⟩ := Prod.mk.inj heq
      obtain ⟨-, rfl⟩ := List.cons.inj hrest
      rw [takeBits_bitsOf, Option.map_some, Nat.div_add_mod']
    · rename_i heq
      cases (Prod.mk.inj heq).2
  · rw [if_neg hshort, List.append_assoc, takeOnes_full]
    exact (takeBits_bitsOf b u rest).trans (by rw [Nat.mod_eq_of_lt hu])

/-- A match: its length less 4, the bits of its distance, and the distance below its leading bit. -/
theorem readMatch_bits {l d : Nat} (rest : List Bool) (hl4 : 4 ≤ l) (hl : l ≤ 259) (hd0 : 0 < d) (hd : d < 2 ^ 15) :
    readMatch (bitsOf 8 (l - 4) ++ bitsOf 4 (bitLen d - 1) ++ bitsOf (bitLen d - 1) d ++ rest) = some (l, d, rest) := by
  have hlen : bitLen d - 1 = d.log2 := by simp [bitLen, Nat.ne_of_gt hd0]
  have hlog : d.log2 < 15 := (Nat.log2_lt (Nat.ne_of_gt hd0)).mpr hd
  have hlead : d / 2 ^ d.log2 = 1 := by
    have hle := Nat.log2_self_le (Nat.ne_of_gt hd0)
    have hlt := Nat.lt_log2_self (n := d)
    rw [Nat.pow_succ] at hlt
    exact Nat.div_eq_of_lt_le (by omega) (by omega)
  have hlow : 2 ^ d.log2 + d % 2 ^ d.log2 = d := by
    have := Nat.div_add_mod d (2 ^ d.log2)
    rw [hlead] at this
    omega
  rw [hlen, List.append_assoc, List.append_assoc]
  unfold readMatch
  rw [takeBits_bitsOf]
  dsimp only
  rw [takeBits_bitsOf, Nat.mod_eq_of_lt (show d.log2 < 2 ^ 4 by omega), Nat.mod_eq_of_lt (show l - 4 < 2 ^ 8 by omega)]
  dsimp only
  rw [takeBits_bitsOf, Option.map_some, hlow, Nat.sub_add_cancel hl4]

/-! ### Residuals (R231) -/

/-- The residual of a symbol is the wrapped difference that made it. -/
theorem resOf_symOf (b : Nat) (q ref : Int) : resOf (symOf b q ref) = wrapB b (q - ref) := by
  unfold symOf resOf
  extract_lets r
  split <;> split <;> omega

theorem symOf_lt {b : Nat} (hb : 0 < b) (q ref : Int) : symOf b q ref < 2 ^ b := by
  obtain ⟨hlo, hhi⟩ := wrapB_bounds hb (q - ref)
  have hpow : 2 ^ b = 2 * 2 ^ (b - 1) := by rw [← pow_succ', Nat.sub_add_cancel hb]
  have hcast : ((2 ^ (b - 1) : Nat) : Int) = 2 ^ (b - 1) := by push_cast; rfl
  unfold symOf
  extract_lets r
  rw [← hcast] at hlo hhi
  split <;> omega

/-- A value of `b` bits comes back from its symbol and its reference. -/
theorem wrapB_add_resOf {b : Nat} {q : Int} (ref : Int) (hb : 0 < b) (hlo : -(2 ^ (b - 1) : Int) ≤ q) (hhi : q < 2 ^ (b - 1)) :
    wrapB b (ref + resOf (symOf b q ref)) = q := by
  rw [resOf_symOf]
  refine wrapB_eq_of_dvd hb hlo hhi ?_
  convert dvd_wrapB_sub hb (q - ref) using 1
  omega

/-! ### Settled -/

/-- Settles O55, clause by clause: plans, lanes, groups, Raman records, accumulators, the quantiser, and the tokens of the coder. -/
theorem numericBounds : Obligations.NumericBounds := by
  unfold Obligations.NumericBounds
  refine ⟨?_, ?_, ?_, ?_, ?_, ?_, ?_, ?_, ?_⟩
  · exact fun len bs refLen p hk => checkPlan_bounds hk
  · exact fun v k hlo hhi h8 _ => ⟨dcbNext_rest v (by omega), dcbD_rest k hlo hhi⟩
  · exact fun q sums carry i hq hi => reduceGroup_carry hq hi
  · intro bs k hb hk
    obtain ⟨halign, hend⟩ := dtsBad_slots hb hk
    exact ⟨halign, hend, DtsCfg.record_le_slotBytes _⟩
  · intro n p acc codes i hcodes hi
    obtain ⟨hlen, hget⟩ := addPoints_spec n p acc codes
    refine ⟨hlen, hget i hi, ?_⟩
    rw [hget i hi]
    exact Nat.add_le_add_left (sum_take_codes_le _ _ hcodes) _
  · exact fun elem k stride xs hs hk hk8 hstr => quantRun_conserves xs hs hk hk8 hstr
  · exact fun b a n u rest _ hu => readRice_riceBits a n rest hu
  · exact fun l d rest hl4 hl hd0 hd => readMatch_bits rest hl4 hl hd0 hd
  · exact fun b q ref hb hlo hhi => ⟨wrapB_add_resOf ref hb hlo hhi, symOf_lt hb q ref⟩

end Sys2Proof.Machine
end

section
/-! SUPPORT. What shows the acquisition (O15): the fields of frames, the plan and the acquisition's state, and the operations of other units, which leave them. -/

namespace Sys2Proof.Machine

/-! ### Fields far from an operation -/

/-- The fields that show frames, the plan and the state of the acquisition (R14, R121, R134), and RUN of the glacier ring (R215). -/
def probeKeys : List Nat :=
  [Reg.PRB_FRAME0_LO, Reg.PRB_FRAME0_HI, Reg.GLB_FRAME_LO, Reg.GLB_FRAME_HI, Reg.PRB_STATE_STATE, Reg.PRB_STATE_DARK, Reg.PRB_PLAN_ID,
    Reg.SLM_GL_CTL_RUN].map (fun F => F.key 0)

/-- The fields of the blocks above SLM lie above those that show the acquisition. -/
theorem lt_of_mem_probeKeys : ∀ k ∈ probeKeys, k < 0x80000 * 32 := by decide

theorem spares_of_mem_probeKeys {k : Nat} (hk : k ∈ probeKeys) (s : State) : s.spares k := by
  have hall : ∀ k ∈ probeKeys, (k < 0x200000 ∨ 0x400000 ≤ k) ∧ k ∉ Field.memCounts := by decide
  exact ⟨(hall k hk).1, .inr (hall k hk).2⟩

theorem Field.off_le_key (F : Field) (i : Nat) : F.off * 32 ≤ F.key i := by
  unfold Field.key Field.addr
  omega

theorem Field.index?_eq_none_of_lt {F : Field} {a : Nat} (h : a < F.off) : F.index? a = none := if_pos h

/-- Entries dropped leave what is read at a key of which none is dropped. -/
theorem Store.read_filter_kept {α : Type} (d : α) (m : Store α) {p : Nat × α → Bool} {k : Nat} (hp : ∀ v, p (k, v) = true) :
    Store.read d (m.filter p) k = Store.read d m k := by
  induction m with
  | nil => rfl
  | cons e m ih =>
    obtain ⟨a, v⟩ := e
    by_cases ha : a = k
    · subst ha
      simp [hp, Store.read]
    · rw [List.filter_cons]
      split <;> simp [Store.read, ha, ih]

/-- A key of which every entry is dropped reads as the default. -/
theorem Store.read_filter_dropped {α : Type} (d : α) (m : Store α) {p : Nat × α → Bool} {k : Nat} (hp : ∀ v, p (k, v) = false) :
    Store.read d (m.filter p) k = d := by
  induction m with
  | nil => rfl
  | cons e m ih =>
    obtain ⟨a, v⟩ := e
    by_cases ha : a = k
    · subst ha
      rw [List.filter_cons_of_neg (by simp [hp]), ih]
    · rw [List.filter_cons]
      split <;> simp [Store.read, ha, ih]

/-- A value set in two words reads back (R73). -/
theorem State.fld64_set64 (s : State) {lo hi : Field} {v : Nat} (hlo : lo.width = 32) (hhi : hi.width = 32) (hne : lo.key 0 ≠ hi.key 0)
    (hv : v < 2 ^ 64) : (s.set64 lo hi v).fld64 lo hi = v := by
  have hl : (s.set64 lo hi v).fld lo = v % 2 ^ 32 := by
    rw [State.set64, State.fld_setF_other _ _ _ _ _ _ hne.symm, State.fld_setF_same, hlo]
  have hh : (s.set64 lo hi v).fld hi = v / 2 ^ 32 % 2 ^ 32 := by
    rw [State.set64, State.fld_setF_same, hhi]
  rw [State.fld64, hl, hh]
  omega

theorem State.set64_fld_other (s : State) {lo hi G : Field} {v i j : Nat} (hlo : lo.key i ≠ G.key j) (hhi : hi.key i ≠ G.key j) :
    (s.set64 lo hi v i).fld G j = s.fld G j := by
  rw [State.set64, State.fld_setF_other _ _ _ _ _ _ hhi, State.fld_setF_other _ _ _ _ _ _ hlo]

/-! ### What shows the acquisition is kept -/

/-- The acquisition, the time, the pulses of the tick, and the fields that show the acquisition are those of `s`. -/
structure ProbeKept (s t : State) : Prop where
  acq : t.acq = s.acq
  tick : t.tick = s.tick
  tb : t.tb = s.tb
  pulses : t.pulses = s.pulses
  fld : ∀ (G : Field) (j : Nat), G.key j ∈ probeKeys → t.fld G j = s.fld G j

namespace ProbeKept

variable {s t u : State}

theorem refl (s : State) : ProbeKept s s := ⟨rfl, rfl, rfl, rfl, fun _ _ _ => rfl⟩

theorem trans (h : ProbeKept s t) (k : ProbeKept t u) : ProbeKept s u :=
  ⟨k.acq.trans h.acq, k.tick.trans h.tick, k.tb.trans h.tb, k.pulses.trans h.pulses, fun G j hG => (k.fld G j hG).trans (h.fld G j hG)⟩

/-- A change of other parts of the state. -/
theorem upd (h : ProbeKept s t) (ha : u.acq = t.acq := by rfl) (ht : u.tick = t.tick := by rfl) (hb : u.tb = t.tb := by rfl)
    (hp : u.pulses = t.pulses := by rfl) (hr : u.regs = t.regs := by rfl) : ProbeKept s u :=
  h.trans ⟨ha, ht, hb, hp, fun _ _ _ => State.fld_congr _ _ hr⟩

theorem setF (h : ProbeKept s t) {F : Field} {v i : Nat} (hF : F.key i ∉ probeKeys) : ProbeKept s (t.setF F v i) :=
  h.trans ⟨rfl, rfl, rfl, rfl, fun _ _ hG => State.fld_setF_other _ _ _ _ _ _ fun e => hF (e ▸ hG)⟩

/-- A field of a block above SLM, in any of its instances. -/
theorem setFar (h : ProbeKept s t) {F : Field} {v i : Nat} (hF : 0x80000 ≤ F.off) : ProbeKept s (t.setF F v i) := by
  refine h.setF fun hm => ?_
  have hlt := lt_of_mem_probeKeys _ hm
  have hge := F.off_le_key i
  omega

theorem set64 (h : ProbeKept s t) {lo hi : Field} {v i : Nat} (hlo : lo.key i ∉ probeKeys) (hhi : hi.key i ∉ probeKeys) :
    ProbeKept s (t.set64 lo hi v i) := (h.setF hlo).setF hhi

/-- Fields of blocks above SLM put back, in one of their instances. -/
theorem resetFieldsOf (h : ProbeKept s t) {fs : List Field} {i : Nat} (hF : ∀ F ∈ fs, 0x80000 ≤ F.off) : ProbeKept s (t.resetFieldsOf fs i) := by
  refine h.trans ⟨rfl, rfl, rfl, rfl, fun G j hG => ?_⟩
  have hlt := lt_of_mem_probeKeys _ hG
  have hkept : ∀ v : Nat, (!fs.any (fun F => decide ((G.key j, v).1 % 32 = F.lsb) && ((F.index? ((G.key j, v).1 / 32)).map (· / F.n2) == some i))) = true := by
    intro v
    rw [Bool.not_eq_true', List.any_eq_false]
    intro F hFm
    have := hF F hFm
    simp [Field.index?_eq_none_of_lt (F := F) (a := G.key j / 32) (by omega)]
  rw [State.fld, State.resetFieldsOf, Store.read_filter_kept _ _ hkept]
  rfl

theorem ite {c : Prop} [Decidable c] (ht : ProbeKept s t) (hu : ProbeKept s u) : ProbeKept s (if c then t else u) := by
  split <;> assumption

theorem signal (h : ProbeKept s t) {v : Nat} : ProbeKept s (t.signal v) := h.upd (by simp) (by simp) (by simp) (by simp) (by simp)

theorem complete (h : ProbeKept s t) {i st det a b : Nat} : ProbeKept s (t.complete i st det a b) :=
  h.trans ⟨by simp, by simp, by simp, by simp, fun _ _ hG => State.complete_fld _ _ _ _ _ _ (spares_of_mem_probeKeys hG _)⟩

theorem completeStop (h : ProbeKept s t) {i a b : Nat} : ProbeKept s (t.completeStop i a b) :=
  ite h.complete h.complete

theorem progress (h : ProbeKept s t) {i a b : Nat} : ProbeKept s (t.progress i a b) :=
  h.trans ⟨by simp, by simp, by simp, by simp, fun _ _ hG => State.progress_fld _ _ _ _ (spares_of_mem_probeKeys hG _)⟩

theorem foldl {α : Type} {f : State → α → State} (h : ProbeKept s t) (l : List α) (hf : ∀ u x, x ∈ l → ProbeKept s u → ProbeKept s (f u x)) :
    ProbeKept s (l.foldl f t) :=
  List.foldlRecOn l f (motive := ProbeKept s) h fun u hu x hx => hf u x hx hu

theorem showState (h : ProbeKept s t) {n : Nat} : ProbeKept s (t.showState n) :=
  ite h (h.setF (by decide)).signal

/-! ### Time-interval unit (R389, R400) -/

theorem freeRound (h : ProbeKept s t) {a b : Int} : ProbeKept s (t.freeRound a b).2 := by
  unfold State.freeRound
  dsimp only
  split
  · exact h
  · exact h.upd

theorem delayMean (h : ProbeKept s t) {F : Field} {ds : List Int} (hF : F.key 0 ∉ probeKeys) : ProbeKept s (t.delayMean F ds) :=
  ite (h.setF hF) (h.freeRound.setF hF)

theorem launchSettle (h : ProbeKept s t) : ProbeKept s t.launchSettle := by
  unfold State.launchSettle
  dsimp only
  refine ite h (delayMean (delayMean ?_ (by decide)) (by decide))
  exact upd (h.setF (F := Reg.TIU_LAUNCH_MISS) (i := 0) (by decide))

theorem showSec (h : ProbeKept s t) {k st : Nat} : ProbeKept s (t.showSec k st) := by
  have h1 : ProbeKept s (t.setF Reg.TIU_SK_STATUS st k) := h.setFar (by decide)
  unfold State.showSec
  dsimp only
  split <;> split <;> exact (h1.setFar (by decide)).setFar (by decide)

theorem secStart (h : ProbeKept s t) {k : Nat} {x : SkSec} : ProbeKept s (t.secStart k x) := by
  have h1 : ProbeKept s ((t.timerStart (.stall k)).resetFieldsOf
      [Reg.TIU_SK_POS, Reg.TIU_SK_REVS, Reg.TIU_SK_SPEED, Reg.TIU_SK_UPDATES, Reg.TIU_SK_INDEX_ERR] k) :=
    (h.upd (u := t.timerStart _)).resetFieldsOf (by decide)
  unfold State.secStart
  refine showSec ?_
  exact h1.upd

theorem secEnd (h : ProbeKept s t) {k st det : Nat} : ProbeKept s (t.secEnd k st det) := by
  unfold State.secEnd
  split
  · exact h
  · rename_i x _
    extract_lets revs u1 u2 u3 u4
    have h1 : ProbeKept s u1 := ProbeKept.showSec h.upd
    have h2 : ProbeKept s u2 := by
      simp only [u2]
      split
      · exact h1.complete
      · exact h1
    have h3 : ProbeKept s u3 := h2.foldl _ fun _ _ _ hu => hu.complete
    split
    · exact h3
    · have h4 : ProbeKept s (u3.setSecWait k none) := h3.upd
      exact ite h4.secStart h4.complete

theorem secsSwitch (h : ProbeKept s t) : ProbeKept s t.secsSwitch :=
  h.foldl _ fun _ _ _ hu => ite hu.secEnd hu

/-! ### Captures (R217, R220) -/

theorem glRefresh (h : ProbeKept s t) : ProbeKept s t.glRefresh := by
  unfold State.glRefresh
  dsimp only
  split <;> exact ((h.setF (by decide)).setF (by decide)).set64 (by decide) (by decide)

theorem capRefuse (h : ProbeKept s t) {k : Nat} : ProbeKept s (t.capRefuse k) := by
  unfold State.capRefuse
  split
  · refine glRefresh (complete ?_)
    exact h.upd
  · exact h

theorem capFrame0 (h : ProbeKept s t) : ProbeKept s t.capFrame0 := by
  refine h.foldl _ fun u k _ hu => ?_
  split
  · split
    · exact hu
    · refine ite hu.capRefuse ?_
      exact hu.upd
  · exact hu

/-! ### Raman averages (R191, R201) -/

theorem dataPut (h : ProbeKept s t) {e a : Nat} {bs : List Byte} : ProbeKept s (t.dataPut e a bs) := by
  refine h.trans ⟨by simp, by simp, by simp, by simp, fun G j hG => ?_⟩
  unfold State.dataPut
  split
  · exact State.hostPut_fld _ _ _ (spares_of_mem_probeKeys hG _)
  · rfl

theorem putSegs (h : ProbeKept s t) {e : Nat} {l : List (Nat × Nat)} {bs : List Byte} : ProbeKept s (t.putSegs e l bs) := by
  induction l generalizing t bs with
  | nil => exact h
  | cons x l ih =>
    rw [State.putSegs]
    split
    · exact h
    · exact ih h.dataPut

theorem aerSet (h : ProbeKept s t) {b : Nat} : ProbeKept s (t.aerSet b) := by
  refine ite h ?_
  exact h.upd

theorem bufEnds (h : ProbeKept s t) (hu : ProbeKept s u) {i : Nat} {e : BufEnd} : ProbeKept s (t.bufEnds u i e) := by
  cases e with
  | whole => exact hu.complete
  | fault d k => exact hu.complete
  | read d =>
    cases d with
    | ok bs => exact h
    | outstanding => exact h.upd
    | timeout => exact hu.complete.aerSet
    | poisoned => exact hu.complete
    | refused => exact hu.complete

theorem giveTo (h : ProbeKept s t) {x : Handle} {b : Buffer} {bs : List Byte} {st det r0 r1 : Nat} :
    ProbeKept s (t.giveTo x b bs st det r0 r1) :=
  ite h.putSegs.complete (h.bufEnds (ite h h.putSegs))

theorem dtsServe (h : ProbeKept s t) : ProbeKept s t.dtsServe := by
  refine foldl (t := { t with dts := { t.dts with waiting := [] } }) h.upd _ fun u w _ hu => ?_
  split
  · exact hu.complete
  · refine ite ?_ hu.complete
    split
    · exact hu.giveTo
    · exact hu

theorem dtsEnd (h : ProbeKept s t) {st det r0 : Nat} : ProbeKept s (t.dtsEnd st det r0) := by
  unfold State.dtsEnd
  split
  · exact h
  · extract_lets d u1 u2
    have h1 : ProbeKept s u1 := h.upd
    have h2 : ProbeKept s u2 := (((h1.setF (by decide)).setF (by decide)).setF (by decide)).dtsServe
    split
    · exact h2.complete
    · exact h2

theorem dtsRefit (h : ProbeKept s t) : ProbeKept s t.dtsRefit := by
  unfold State.dtsRefit
  split
  · exact ite h h.dtsEnd
  · exact h

end ProbeKept

end Sys2Proof.Machine
end

section
/-! SUPPORT. The acquisition through the end of its streams (O15): closing a stream, and all that it delivers, leaves it. -/

namespace Sys2Proof.Machine

variable {s : State}

/-! ### Stream rings (R103, R497) -/

@[simp] theorem State.updSr_acq (r : Nat) (f : SrState → SrState) : (s.updSr r f).acq = s.acq := rfl
@[simp] theorem State.updStream_acq (id : Nat) (f : Stream → Stream) : (s.updStream id f).acq = s.acq := rfl

@[simp] theorem State.fillPut_acq (r : Nat) (f : FillRet) : (s.fillPut r f).acq = s.acq := by simp [State.fillPut]

@[simp] theorem State.returnBuf_acq (r : Nat) (f : FillRet) : (s.returnBuf r f).acq = s.acq := by
  unfold State.returnBuf
  dsimp only
  split <;> simp

@[simp] theorem State.popBuf_acq (r : Nat) : (s.popBuf r).acq = s.acq := rfl

@[simp] theorem State.returnBad_acq (r n : Nat) : (s.returnBad r n).acq = s.acq := by
  induction n generalizing s with
  | zero => rfl
  | succ n ih =>
    unfold State.returnBad
    dsimp only
    split
    · rfl
    · split
      · rfl
      · simp [ih]

@[simp] theorem State.returnCur_acq (r st : Nat) : (s.returnCur r st).acq = s.acq := by
  unfold State.returnCur
  split <;> simp

@[simp] theorem State.takeBuf_acq (r : Nat) : (s.takeBuf r).acq = s.acq := by
  unfold State.takeBuf
  dsimp only
  split
  · split <;> simp
  · simp

@[simp] theorem State.ringWrite_acq (r : Nat) (c : CurBuf) (bs : List Byte) : (s.ringWrite r c bs).acq = s.acq := by
  unfold State.ringWrite
  split <;> simp

theorem State.deliverRing_acq (r n : Nat) (bs : List Byte) : (s.deliverRing r n bs).1.acq = s.acq := by
  unfold State.deliverRing
  split
  · rfl
  · extract_lets u v
    have hu : u.acq = s.acq := by
      simp only [u]
      split
      · split <;> simp
      · rfl
    have hv : v.acq = s.acq := by simp [v, hu]
    split
    · split <;> simp [hv]
    · exact hv

/-! ### Firn rings and the glacier feed (R216, R267) -/

@[simp] theorem State.rPend_acq (c n : Nat) : (s.rPend c n).acq = s.acq := by
  have hw (t : State) : (t.rWake c).acq = t.acq := by
    unfold State.rWake
    split
    · exact (State.setF_acq _ _ _ _).trans (State.set64_acq _ _ _ _ _)
    · rfl
  exact (hw _).trans (State.setF_acq _ _ _ _)

@[simp] theorem State.rStream_acq (f : Nat) : (s.rStream f).acq = s.acq :=
  foldl_leaves State.acq (fun _ _ => by split <;> simp) _ _

theorem State.deliverFirn_acq {t : State} {f n : Nat} {bs : List Byte} (h : s.deliverFirn f n bs = some t) : t.acq = s.acq := by
  unfold State.deliverFirn at h
  extract_lets at h
  split at h
  · rw [← Option.some.inj h, State.rStream_acq]
  · cases h

@[simp] theorem State.glRefresh_acq : s.glRefresh.acq = s.acq := (ProbeKept.refl s).glRefresh.acq

theorem State.segDone_acq : s.segDone.acq = s.acq := by
  unfold State.segDone
  split
  · rfl
  · simp [State.updSeg]

theorem State.segBegin_acq {t : State} (h : s.segBegin = some t) : t.acq = s.acq := by
  -- As in `State.MemOk.segBegin`: the kernel must not evaluate the search for a position.
  obtain ⟨f, hf⟩ : ∃ f, f = State.segBegin := ⟨_, rfl⟩
  rw [← hf] at h
  delta State.segBegin at hf
  subst hf
  beta_reduce at h
  generalize s.nextPos = found at h
  cases found with
  | none => cases h
  | some p =>
    rw [← Option.some.inj h]
    exact State.extPut_acq _ _ _

@[simp] theorem State.segPut_acq (g : GSeg) (b : SBlock) (ovf : Bool) : (s.segPut g b ovf).acq = s.acq := by
  obtain ⟨u, o, bs, o', bs', hu, he⟩ : ∃ u o bs o' bs', u.acq = s.acq ∧ s.segPut g b ovf = (State.extPut u o bs).extPut o' bs' :=
    ⟨_, _, _, _, _, rfl, rfl⟩
  rw [he, State.extPut_acq, State.extPut_acq, hu]

/-- A feed block put into the segment just begun. -/
theorem State.segFirst_acq {t : State} {b : SBlock} {ovf : Bool} (h : s.openSeg.map (fun g => (s.segPut g b ovf).glRefresh) = some t) :
    t.acq = s.acq := by
  obtain ⟨g, -, rfl⟩ := Option.map_eq_some_iff.mp h
  rw [State.glRefresh_acq, State.segPut_acq]

theorem State.glWrite_acq {t : State} {b : SBlock} {ovf : Bool} (h : s.glWrite b ovf = some t) : t.acq = s.acq := by
  have hfresh : ∀ u, s.segBegin = some u → u.acq = s.acq := fun _ => State.segBegin_acq
  have hnext : ∀ u, s.segDone.segBegin = some u → u.acq = s.acq := fun _ hu => (State.segBegin_acq hu).trans State.segDone_acq
  unfold State.glWrite at h
  extract_lets fits at h
  generalize s.segBegin = fresh at *
  generalize s.segDone.segBegin = next at *
  generalize s.openSeg = seg at h
  clear_value fits
  cases seg with
  | none =>
    cases fresh with
    | none => cases h
    | some u => exact (State.segFirst_acq h).trans (hfresh u rfl)
  | some g =>
    dsimp only at h
    split at h
    · rw [← Option.some.inj h, State.glRefresh_acq, State.segPut_acq]
    · cases next with
      | none => cases h
      | some u => exact (State.segFirst_acq h).trans (hnext u rfl)

/-! ### A block leaves its stream (R21, R239) -/

theorem State.groomOne_acq (st : Stream) (b : SBlock) : (s.groomOne st b).1.acq = s.acq := by
  unfold State.groomOne
  extract_lets el f q c u
  have hu : u.acq = s.acq := State.set64_acq _ _ _ _ _
  split
  · exact (State.set64_acq _ _ _ _ _).trans hu
  · exact (State.setF_acq _ _ _ _).trans ((State.set64_acq _ _ _ _ _).trans hu)

@[simp] theorem State.lose_acq (st : Stream) : (s.lose st).acq = s.acq := by
  unfold State.lose
  split <;> simp [State.incF_eq]

theorem getD_acq {o : Option State} (h : ∀ t, o = some t → t.acq = s.acq) : (o.getD s).acq = s.acq := by
  cases o with
  | none => rfl
  | some t => exact h t rfl

@[simp] theorem State.deliver_acq (st : Stream) (b : SBlock) : (s.deliver st b).acq = s.acq := by
  have hdone (u : State) (ok : Bool) (hu : u.acq = s.acq) : (if ok then (u.timersStart (st.handle.toList.map .handle)).updStream st.id
      (fun y => { y with ovf := false, delivered := y.delivered + 1 }) else u.lose st).acq = s.acq := by
    cases ok <;> simpa using hu
  unfold State.deliver
  extract_lets bs
  cases st.dest with
  | ring r =>
    have hring := State.deliverRing_acq (s := s) r bs.length bs
    dsimp only
    generalize s.deliverRing r bs.length bs = d at hring ⊢
    exact hdone _ _ hring
  | firn f => exact hdone _ _ (getD_acq fun _ => State.deliverFirn_acq)
  | glacier => exact hdone _ _ (getD_acq fun _ => State.glWrite_acq)

theorem State.drainStream_acq (id n : Nat) : (s.drainStream id n).acq = s.acq := by
  induction n generalizing s with
  | zero => rfl
  | succ n ih =>
    unfold State.drainStream
    split
    · rfl
    · split
      · rfl
      · dsimp only
        rw [ih, State.deliver_acq, State.updStream_acq]
        split
        · exact State.groomOne_acq _ _
        · rfl

/-! ### Closing (R103, R181) -/

theorem State.finishClose_acq (st : Stream) (a d : Nat) (c : Option Nat) : (s.finishClose st a d c).acq = s.acq := by
  have hends (t : State) (ht : t.acq = s.acq) : (match c with
      | some h => (match st.handle with
        | some h => t.complete h a d st.delivered st.discarded
        | none => t).completeStop h st.delivered st.discarded
      | none => (match st.handle with
        | some h => t.complete h a d st.delivered st.discarded
        | none => t)).acq = s.acq := by
    cases c <;> cases st.handle <;> simpa using ht
  unfold State.finishClose
  refine hends _ ?_
  cases st.dest <;> rfl

theorem State.closeStream_acq (id a d : Nat) (c : Option Nat) (f : Nat) : (s.closeStream id a d c f).acq = s.acq := by
  unfold State.closeStream
  extract_lets u v
  have hv : v.acq = s.acq := State.drainStream_acq _ _
  split
  · exact hv
  · split
    · dsimp only
      split <;> simp [State.finishClose_acq, hv]
    · exact (State.finishClose_acq _ _ _ _).trans hv

theorem State.closeAll_acq (a d f : Nat) : (s.closeAll a d f).acq = s.acq :=
  foldl_leaves State.acq (fun _ _ => by split <;> simp [State.closeStream_acq]) _ _

end Sys2Proof.Machine
end

section
/-! SUPPORT. Frames and firings (O15): the begin and the end of a frame, frame 0 of a plan, and the firing of a tone. -/

namespace Sys2Proof.Machine

variable {s t : State}

/-! ### Values in two words -/

theorem State.fld64_congr {lo hi : Field} (h : s.regs = t.regs) : s.fld64 lo hi = t.fld64 lo hi := by
  rw [State.fld64, State.fld_congr _ _ h, State.fld_congr _ _ h, State.fld64]

theorem State.fld64_setF_other {F lo hi : Field} {v i : Nat} (hlo : F.key i ≠ lo.key 0) (hhi : F.key i ≠ hi.key 0) :
    (s.setF F v i).fld64 lo hi = s.fld64 lo hi := by
  rw [State.fld64, State.fld_setF_other _ _ _ _ _ _ hlo, State.fld_setF_other _ _ _ _ _ _ hhi, State.fld64]

theorem State.fld64_set64_other {F G lo hi : Field} {v i : Nat} (hFlo : F.key i ≠ lo.key 0) (hFhi : F.key i ≠ hi.key 0)
    (hGlo : G.key i ≠ lo.key 0) (hGhi : G.key i ≠ hi.key 0) : (s.set64 F G v i).fld64 lo hi = s.fld64 lo hi := by
  rw [State.set64, State.fld64_setF_other hGlo hGhi, State.fld64_setF_other hFlo hFhi]

theorem ProbeKept.fld64 (h : ProbeKept s t) {lo hi : Field} (hlo : lo.key 0 ∈ probeKeys) (hhi : hi.key 0 ∈ probeKeys) :
    t.fld64 lo hi = s.fld64 lo hi := by
  rw [State.fld64, h.fld _ _ hlo, h.fld _ _ hhi, State.fld64]

theorem ProbeKept.timersStart (h : ProbeKept s t) {ts : List Timer} : ProbeKept s (t.timersStart ts) :=
  h.upd (by simp) (by simp) (by simp) (by simp) (by simp)

/-! ### The settling of launches touches registers, free values and the unit (R389) -/

theorem State.delayMean_eq (F : Field) (ds : List Int) : ∃ r f, s.delayMean F ds = { s with regs := r, free := f } := by
  unfold State.delayMean State.freeRound
  split
  · exact ⟨_, _, rfl⟩
  · dsimp only
    split <;> exact ⟨_, _, rfl⟩

theorem State.launchMeans_eq : ∃ r f, s.launchMeans = { s with regs := r, free := f } := by
  unfold State.launchMeans
  extract_lets ls rs
  obtain ⟨r, f, h⟩ := State.delayMean_eq (s := s) Reg.TIU_LAUNCH_DLY ls
  rw [h]
  exact State.delayMean_eq _ _

theorem State.launchSettle_eq : ∃ r f u, s.launchSettle = { s with regs := r, free := f, tiu := u } := by
  unfold State.launchSettle
  dsimp only
  split
  · exact ⟨_, _, _, rfl⟩
  · obtain ⟨r, f, h⟩ := State.launchMeans_eq (s := { s.addF Reg.TIU_LAUNCH_MISS _ with tiu := _ })
    exact ⟨r, f, _, h⟩

/-! ### A frame begins (R121, R205) -/

/-- `s` with a frame that begins in its tick, the FRAME event given. -/
def State.begun (s : State) : State := { s with acq := { s.acq with inFrame := true, frameTick := s.tick }, pulses := s.pulses ++ [0xE2] }

@[simp] theorem State.begun_fld64 (lo hi : Field) : s.begun.fld64 lo hi = s.fld64 lo hi := rfl

theorem ProbeKept.begun (h : ProbeKept s t) : ProbeKept s.begun t.begun :=
  ⟨by simp only [State.begun, h.acq, h.tick], h.tick, h.tb, congrArg (· ++ [0xE2]) h.pulses, h.fld⟩

theorem State.frameBegin_kept (zero : Bool) :
    ProbeKept s.begun (s.frameBegin zero) := by
  have hv : ProbeKept s (s.launchSettle.timersStart (s.frameHandles.map .handle)) := (ProbeKept.refl s).launchSettle.timersStart
  unfold State.frameBegin
  generalize s.launchSettle.timersStart (s.frameHandles.map .handle) = v at hv ⊢
  extract_lets w a u f q
  have hu : ProbeKept s.begun u :=
    ⟨rfl, hv.tick, hv.tb, congrArg (· ++ [0xE2]) hv.pulses, hv.fld⟩
  refine .ite hu ?_
  exact (hu.foldl u.ph.resetHandles fun _ _ _ hx => hx.complete).upd

/-- With no step that waits, nothing is completed. -/
theorem State.frameBegin_plain (zero : Bool) (h0 : s.ph.stepPend = 0) : (s.frameBegin zero).mem = s.mem ∧ (s.frameBegin zero).pw = s.pw := by
  obtain ⟨r, f, u, hv⟩ := State.launchSettle_eq (s := s)
  simp [State.frameBegin, hv, State.pulse, State.launchFrame, h0]

/-! ### Frame 0 (R14, R121, R131) -/

/-- `s` with no firing of the series yet. -/
def State.unfired (s : State) : State := { s with acq := { s.acq with fired := 0, stamps := [] } }

theorem State.freshSeries_kept (p : Plan) : ProbeKept s.unfired (s.freshSeries p) := by
  unfold State.freshSeries
  extract_lets z q x a d u v
  have hu : ProbeKept s.unfired u := (ProbeKept.refl _).upd
  exact ((hu.setF (by decide)).setF (by decide)).setF (by decide)

theorem State.freshSeries_leaves (p : Plan) :
    (s.freshSeries p).mem = s.mem ∧ (s.freshSeries p).pw = s.pw ∧ (s.freshSeries p).ph.stepPend = s.ph.stepPend := by
  simp [State.freshSeries]

/-- What frame 0 of a plan shows: its time, frame 0 counted, and a running acquisition. -/
structure FrameZero (s t : State) : Prop where
  acq : t.acq = { s.acq with fired := 0, stamps := [], inFrame := true, frameTick := s.tick }
  pulses : t.pulses = s.pulses ++ [0xE2]
  time : s.now < 2 ^ 64 → t.fld64 Reg.PRB_FRAME0_LO Reg.PRB_FRAME0_HI = s.now
  frame : t.fld64 Reg.GLB_FRAME_LO Reg.GLB_FRAME_HI = 0
  state : t.fld Reg.PRB_STATE_STATE = if s.acq.sw.isSome then prbSwitching else prbRun
  planId : t.fld Reg.PRB_PLAN_ID = s.fld Reg.PRB_PLAN_ID

theorem State.frame0_shows (p : Plan) : FrameZero s (s.frame0 p) := by
  have hb : ProbeKept s.unfired.begun ((s.freshSeries p).frameBegin true) :=
    (State.freshSeries_kept p).begun.trans (State.frameBegin_kept true)
  unfold State.frame0
  generalize (s.freshSeries p).frameBegin true = b at hb ⊢
  have hnow : b.now = s.now := congrArg TimeBase.now hb.tb
  have hplan : b.fld Reg.PRB_PLAN_ID = s.fld Reg.PRB_PLAN_ID := hb.fld _ _ (by decide)
  obtain ⟨hacq, -, -, hpulses, -⟩ := hb
  extract_lets v c
  have hc : c.acq = b.acq := rfl
  have hk := (ProbeKept.refl (c.setF Reg.PRB_STATE_STATE (if c.acq.sw.isSome then prbSwitching else prbRun))).capFrame0
  have hk64 {lo hi : Field} (hlo : lo.key 0 ∈ probeKeys) (hhi : hi.key 0 ∈ probeKeys) (hl : Reg.PRB_STATE_STATE.key 0 ≠ lo.key 0)
      (hh : Reg.PRB_STATE_STATE.key 0 ≠ hi.key 0) := (hk.fld64 hlo hhi).trans (State.fld64_setF_other hl hh)
  refine ⟨?_, ?_, fun hs => ?_, ?_, ?_, ?_⟩
  · rw [hk.acq, State.setF_acq, hc, hacq]
    rfl
  · rw [hk.pulses]
    exact hpulses
  · rw [hk64 (by decide) (by decide) (by decide) (by decide), State.fld64_set64_other (by decide) (by decide) (by decide) (by decide),
      State.fld64_set64 _ rfl rfl (by decide) (hnow ▸ hs), hnow]
  · rw [hk64 (by decide) (by decide) (by decide) (by decide), State.fld64_set64 _ rfl rfl (by decide) (by decide)]
  · rw [hk.fld _ _ (by decide), State.fld_setF_same, hc, hacq]
    have hsw : s.unfired.begun.acq.sw = s.acq.sw := rfl
    rw [hsw]
    split <;> rfl
  · rw [hk.fld _ _ (by decide), State.fld_setF_other _ _ _ _ _ _ (by decide), State.set64_fld_other _ (by decide) (by decide),
      State.set64_fld_other _ (by decide) (by decide), hplan]

/-- The captures asked for before frame 0 leave the memories (R217), outside stand-alone operation. -/
theorem State.capFrame0_mem (hs : s.pw.standalone = false) : s.capFrame0.mem = s.mem := by
  have hrefuse (t : State) (k : Nat) (ht : t.pw = s.pw) : (State.capRefuse t k).pw = t.pw ∧ (State.capRefuse t k).mem = t.mem := by
    have hgl (u : State) : u.glRefresh.pw = u.pw ∧ u.glRefresh.mem = u.mem := by
      unfold State.glRefresh
      dsimp only
      split <;> simp
    unfold State.capRefuse
    split
    · rw [(hgl _).1, (hgl _).2]
      exact ⟨State.complete_pw _ _ _ _ _ _, State.complete_mem _ _ _ _ _ (by rw [← ht] at hs; exact hs)⟩
    · exact ⟨rfl, rfl⟩
  refine (List.foldlRecOn (List.range 8) _ (motive := fun t : State => t.pw = s.pw ∧ t.mem = s.mem) ⟨rfl, rfl⟩ fun t ht k _ => ?_).2
  split
  · split
    · exact ht
    · split
      · obtain ⟨hpw, hmem⟩ := hrefuse t k ht.1
        exact ⟨hpw.trans ht.1, hmem.trans ht.2⟩
      · exact ht
  · exact ht

theorem State.frame0_mem (p : Plan) (hs : s.pw.standalone = false) (h0 : s.ph.stepPend = 0) : (s.frame0 p).mem = s.mem := by
  obtain ⟨hfmem, hfpw, hfstep⟩ := State.freshSeries_leaves (s := s) p
  obtain ⟨hmem, hpw⟩ := State.frameBegin_plain (s := s.freshSeries p) true (hfstep.trans h0)
  unfold State.frame0
  generalize (s.freshSeries p).frameBegin true = b at hmem hpw ⊢
  extract_lets v c
  have hstand : c.pw.standalone = false := by
    show b.pw.standalone = false
    rw [hpw, hfpw, hs]
  exact (State.capFrame0_mem (s := c.setF Reg.PRB_STATE_STATE (if c.acq.sw.isSome then prbSwitching else prbRun)) hstand).trans
    (hmem.trans hfmem)

/-- FRAME_START of an acquisition that starts: frame 0. -/
theorem exec_frameStart_first {id : Nat} {p : Plan} (hr : s.acq.run = some (id, p)) (hst : s.fld Reg.PRB_STATE_STATE = prbStarting) :
    exec .frameStart s = .next ((if s.fld Reg.PWR_STATUS_STATE = stStarting then s.showState s.pstate else s).frame0 p) := by
  simp only [exec, execFrameStart, hr, if_pos hst]

theorem frameStart_first {id : Nat} {p : Plan} (hr : s.acq.run = some (id, p)) (hst : s.fld Reg.PRB_STATE_STATE = prbStarting)
    (hw : s.acq.sw = none) (h0 : s.ph.stepPend = 0) (hn : s.now < 2 ^ 64) :
    Answers .frameStart s (fun t => t.fld64 Reg.PRB_FRAME0_LO Reg.PRB_FRAME0_HI = s.now ∧ t.fld64 Reg.GLB_FRAME_LO Reg.GLB_FRAME_HI = 0 ∧
      t.fld Reg.PRB_STATE_STATE = prbRun ∧ t.acq.inFrame = true ∧ t.acq.frameTick = s.tick ∧ t.acq.fired = 0 ∧ t.pulses = s.pulses ++ [0xE2] ∧
      (s.pw.standalone = false → t.mem = s.mem)) := by
  refine ⟨_, exec_frameStart_first hr hst, ?_⟩
  have hkept : ProbeKept s (if s.fld Reg.PWR_STATUS_STATE = stStarting then s.showState s.pstate else s) :=
    .ite (ProbeKept.refl s).showState (.refl s)
  have hquiet : (if s.fld Reg.PWR_STATUS_STATE = stStarting then s.showState s.pstate else s).mem = s.mem ∧
      (if s.fld Reg.PWR_STATUS_STATE = stStarting then s.showState s.pstate else s).pw = s.pw ∧
      (if s.fld Reg.PWR_STATUS_STATE = stStarting then s.showState s.pstate else s).ph = s.ph := by
    have hph (n : Nat) : (s.showState n).ph = s.ph := by
      unfold State.showState
      split <;> simp
    split <;> simp [hph]
  generalize (if s.fld Reg.PWR_STATUS_STATE = stStarting then s.showState s.pstate else s) = v at hkept hquiet ⊢
  obtain ⟨hmem, hpw, hph⟩ := hquiet
  have hz := State.frame0_shows (s := v) p
  have hnow : v.now = s.now := congrArg TimeBase.now hkept.tb
  refine ⟨(hz.time (hnow ▸ hn)).trans hnow, hz.frame, ?_, ?_, ?_, ?_, ?_, fun hs => ?_⟩
  · rw [hz.state, hkept.acq, hw]
    rfl
  · rw [hz.acq]
  · rw [hz.acq, hkept.tick]
  · rw [hz.acq]
  · rw [hz.pulses, hkept.pulses]
  · exact (State.frame0_mem p (by rw [hpw, hs]) (by rw [hph, h0])).trans hmem

/-! ### The next frame (R121, R139) -/

theorem State.frameOver_eq (whole : Bool) : ∃ r x, s.frameOver whole =
    { s with regs := r, rx := x, acq := { s.acq with inFrame := false, frames := s.acq.frames + 1 } } := by
  unfold State.frameOver
  extract_lets q u v
  have hv : ∃ r, v = { u with regs := r } := by
    simp only [v]
    split
    · exact ⟨_, rfl⟩
    · refine List.foldlRecOn (List.range 4) _ (motive := fun t : State => ∃ r, t = { u with regs := r }) ⟨u.regs, rfl⟩ fun t ht l _ => ?_
      obtain ⟨r, rfl⟩ := ht
      split <;> exact ⟨_, rfl⟩
  obtain ⟨r, hr⟩ := hv
  exact ⟨r, _, by rw [hr]⟩

/-- `s` with its frame over and counted. -/
def State.counted (s : State) : State := { s with acq := { s.acq with inFrame := false, frames := s.acq.frames + 1 } }

@[simp] theorem State.counted_fld64 (lo hi : Field) : s.counted.fld64 lo hi = s.fld64 lo hi := rfl

theorem State.frameOver_kept (whole : Bool) :
    ProbeKept s.counted (s.frameOver whole) := by
  have hkey : ∀ l ∈ List.range 4, Reg.RCV_LANE_STATUS_STALE.key l ∉ probeKeys := by decide
  unfold State.frameOver
  extract_lets a u v
  have hu : ProbeKept s.counted u := .refl _
  have hv : ProbeKept s.counted v :=
    .ite hu (hu.foldl _ fun _ l hl ht => .ite ht (ht.setF (hkey l hl)))
  exact hv.upd

theorem State.inFrame_of_frameFull {p : Plan} (hf : s.frameFull p = true) : s.acq.inFrame = true := by
  simp only [State.frameFull, Bool.and_eq_true] at hf
  exact hf.1.1

/-- The frame after one that is over. -/
theorem nextFrame_shows {n : Nat} (ho : ProbeKept s.counted t) (hmem : t.mem = s.mem) (hph : t.ph = s.ph) (h0 : s.ph.stepPend = 0)
    (hn : n < 2 ^ 64) :
    let u := (t.set64 Reg.GLB_FRAME_LO Reg.GLB_FRAME_HI n).frameBegin false
    u.fld64 Reg.GLB_FRAME_LO Reg.GLB_FRAME_HI = n ∧
      u.acq.frames = s.acq.frames + 1 ∧ u.acq.frameTick = s.tick ∧ u.acq.inFrame = true ∧ u.pulses = s.pulses ++ [0xE2] ∧ u.mem = s.mem := by
  intro u
  have hb : ProbeKept (t.set64 Reg.GLB_FRAME_LO Reg.GLB_FRAME_HI n).begun u :=
    State.frameBegin_kept false
  have hplain := State.frameBegin_plain (s := t.set64 Reg.GLB_FRAME_LO Reg.GLB_FRAME_HI n) false
    (show t.ph.stepPend = 0 by rw [hph, h0])
  refine ⟨?_, ?_, ?_, ?_, ?_, hplain.1.trans hmem⟩
  · rw [hb.fld64 (by decide) (by decide), State.begun_fld64, State.fld64_set64 _ rfl rfl (by decide) hn]
  · rw [hb.acq]
    exact congrArg Acq.frames ho.acq
  · rw [hb.acq]
    exact ho.tick
  · rw [hb.acq]
    rfl
  · rw [hb.pulses]
    exact congrArg (· ++ [0xE2]) ho.pulses

/-- FRAME_START at the end of a whole frame that nothing else follows: the next frame. -/
theorem exec_frameStart_next {id : Nat} {p : Plan} (hr : s.acq.run = some (id, p)) (hst : s.fld Reg.PRB_STATE_STATE = prbRun)
    (hf : s.frameFull p = true) (he : s.acq.ending = none) (hw : s.acq.sw = none) :
    exec .frameStart s =
      .next (((s.frameOver true).set64 Reg.GLB_FRAME_LO Reg.GLB_FRAME_HI ((s.frameOver true).frameNo + 1)).frameBegin false) := by
  have hdue : s.frameDue p = true := by simp [State.frameDue, hf, he, hw]
  have hne : ¬s.fld Reg.PRB_STATE_STATE = prbStarting := by rw [hst]; decide
  simp only [exec, execFrameStart, hr, if_neg hne, if_pos hdue, if_pos (State.inFrame_of_frameFull hf)]

theorem frameStart_next {id : Nat} {p : Plan} (hr : s.acq.run = some (id, p)) (hst : s.fld Reg.PRB_STATE_STATE = prbRun)
    (hf : s.frameFull p = true) (he : s.acq.ending = none) (hw : s.acq.sw = none) (h0 : s.ph.stepPend = 0)
    (hn : s.fld64 Reg.GLB_FRAME_LO Reg.GLB_FRAME_HI + 1 < 2 ^ 64) :
    Answers .frameStart s (fun t => t.fld64 Reg.GLB_FRAME_LO Reg.GLB_FRAME_HI = s.fld64 Reg.GLB_FRAME_LO Reg.GLB_FRAME_HI + 1 ∧
      t.acq.frames = s.acq.frames + 1 ∧ t.acq.frameTick = s.tick ∧ t.acq.inFrame = true ∧ t.pulses = s.pulses ++ [0xE2] ∧ t.mem = s.mem) := by
  refine ⟨_, exec_frameStart_next hr hst hf he hw, ?_⟩
  have ho := State.frameOver_kept (s := s) true
  have hno : (s.frameOver true).frameNo = s.fld64 Reg.GLB_FRAME_LO Reg.GLB_FRAME_HI := ho.fld64 (by decide) (by decide)
  rw [hno]
  have hquiet : (s.frameOver true).mem = s.mem ∧ (s.frameOver true).ph = s.ph := by
    obtain ⟨r, x, hx⟩ := State.frameOver_eq (s := s) true
    rw [hx]
    exact ⟨rfl, rfl⟩
  exact nextFrame_shows ho hquiet.1 hquiet.2 h0 hn

/-! ### A firing (R121, R127) -/

theorem State.launchFire_eq (n : Nat) : ∃ u, s.launchFire n = { s with tiu := u } := by
  unfold State.launchFire
  split <;> exact ⟨_, rfl⟩

/-- `s` as a firing of tone `u` leaves it but for the count: its gate is open, its stamp kept and its code driven. -/
def State.fires (s : State) (p : Plan) (u : Tone) : State :=
  let s := (s.launchFire (s.now + 5 * p.lead)).gateOpens 0 (p.lead + u.chirpTicks + p.lag)
  { s with acq := { s.acq with fired := s.acq.fired + 1, stamps := s.acq.stamps ++ [s.now + 5 * p.lead], dac := u.dac } }

theorem State.fires_shows (p : Plan) (u : Tone) :
    (s.fires p u).acq.fired = s.acq.fired + 1 ∧ (s.fires p u).acq.dac = u.dac ∧ (s.fires p u).acq.stamps = s.acq.stamps ++ [s.now + 5 * p.lead] ∧
      (s.fires p u).src.gates[0].start = s.tick ∧ (s.fires p u).src.gates[0].stop = s.tick + (p.lead + u.chirpTicks + p.lag) ∧
      (s.fires p u).mem = s.mem := by
  obtain ⟨x, hx⟩ := State.launchFire_eq (s := s) (s.now + 5 * p.lead)
  simp only [State.fires, hx]
  simp [State.gateOpens, State.now, vmod]

theorem State.fires_count (p : Plan) (u : Tone) :
    (s.fires p u).fld64 Reg.PRB_FIRE_LO Reg.PRB_FIRE_HI = s.fld64 Reg.PRB_FIRE_LO Reg.PRB_FIRE_HI := by
  obtain ⟨x, hx⟩ := State.launchFire_eq (s := s) (s.now + 5 * p.lead)
  have hregs : (s.fires p u).regs = ((s.launchFire (s.now + 5 * p.lead)).gateOpens 0 (p.lead + u.chirpTicks + p.lag)).regs := rfl
  rw [State.fld64_congr hregs, State.gateOpens, State.fld64_set64_other (by decide) (by decide) (by decide) (by decide)]
  exact State.fld64_congr (by rw [hx])

theorem exec_toneFiring_due {id k : Nat} {p : Plan} {u : Tone} (hr : s.acq.run = some (id, p)) (hk : p.toneAt (s.acq.fired % p.n) = some k)
    (hu : p.tones[k]? = some u) (hd : s.firingDue p = true) :
    exec .toneFiring s =
      .next ((s.fires p u).set64 Reg.PRB_FIRE_LO Reg.PRB_FIRE_HI ((s.fires p u).fld64 Reg.PRB_FIRE_LO Reg.PRB_FIRE_HI + 1)) := by
  simp only [exec, execToneFiring, hr, hk, Option.bind_some, hu, if_pos hd, State.fires]

theorem toneFiring_due {id k : Nat} {p : Plan} {u : Tone} (hr : s.acq.run = some (id, p)) (hk : p.toneAt (s.acq.fired % p.n) = some k)
    (hu : p.tones[k]? = some u) (hd : s.firingDue p = true) (hn : s.fld64 Reg.PRB_FIRE_LO Reg.PRB_FIRE_HI + 1 < 2 ^ 64) :
    Answers .toneFiring s (fun t => t.acq.fired = s.acq.fired + 1 ∧ t.acq.dac = u.dac ∧ t.acq.stamps = s.acq.stamps ++ [s.now + 5 * p.lead] ∧
      t.fld64 Reg.PRB_FIRE_LO Reg.PRB_FIRE_HI = s.fld64 Reg.PRB_FIRE_LO Reg.PRB_FIRE_HI + 1 ∧
      t.src.gates[0].start = s.tick ∧ t.src.gates[0].stop = s.tick + (p.lead + u.chirpTicks + p.lag) ∧ t.mem = s.mem) := by
  refine ⟨_, exec_toneFiring_due hr hk hu hd, ?_⟩
  rw [State.fires_count]
  generalize hm : s.fld64 Reg.PRB_FIRE_LO Reg.PRB_FIRE_HI + 1 = n at hn ⊢
  have hcount := State.fld64_set64 (lo := Reg.PRB_FIRE_LO) (hi := Reg.PRB_FIRE_HI) (s.fires p u) rfl rfl (by decide) hn
  simpa only [State.set64_acq, State.set64_src, State.set64_mem, hcount, true_and] using State.fires_shows (s := s) p u

end Sys2Proof.Machine
end

section
/-! SUPPORT. The switch and the end of an acquisition (O15): the dark frame, frame 0 of the new plan, and the drained stop. -/

namespace Sys2Proof.Machine

variable {s t : State}

/-! ### The dark frame of a switch (R133) -/

theorem State.frameOver_mem (whole : Bool) : (s.frameOver whole).mem = s.mem := by
  obtain ⟨r, x, hx⟩ := State.frameOver_eq (s := s) whole
  rw [hx]

/-- PLAN_SWITCH_APPLY at the end of a whole frame: the dark frame. -/
theorem exec_planSwitchApply_full {id : Nat} {p : Plan} {w : PendSwitch} (hr : s.acq.run = some (id, p)) (hw : s.acq.sw = some w)
    (hd : w.dark = false) (he : s.acq.ending = none) (hf : s.frameFull p = true) :
    exec .planSwitchApply s = .next (({ s.frameOver true with
      acq := { (s.frameOver true).acq with frameTick := (s.frameOver true).tick, sw := some { w with dark := true } } }).setF Reg.PRB_STATE_DARK 1) := by
  have hdue : s.switchDue p w = true := by simp [State.switchDue, he, hd, hf]
  simp [exec, execPlanSwitchApply, hr, hw, hdue, hd]

theorem planSwitchApply_full {id : Nat} {p : Plan} {w : PendSwitch} (hr : s.acq.run = some (id, p)) (hw : s.acq.sw = some w)
    (hd : w.dark = false) (he : s.acq.ending = none) (hf : s.frameFull p = true) :
    Answers .planSwitchApply s (fun t => t.acq.sw = some { w with dark := true } ∧ t.fld Reg.PRB_STATE_DARK = 1 ∧ t.acq.inFrame = false ∧
      t.acq.frameTick = s.tick ∧ t.acq.frames = s.acq.frames + 1 ∧ t.mem = s.mem) := by
  have ho := State.frameOver_kept (s := s) true
  have hmem := State.frameOver_mem (s := s) true
  refine ⟨_, exec_planSwitchApply_full hr hw hd he hf, ?_⟩
  generalize s.frameOver true = o at ho hmem ⊢
  obtain ⟨hacq, htick, -, -, -⟩ := ho
  refine ⟨rfl, State.fld_setF_same _ _ _ _, ?_, htick, ?_, hmem⟩
  · exact congrArg Acq.inFrame hacq
  · exact congrArg Acq.frames hacq

/-! ### Frame 0 of the new plan (R131, R133) -/

theorem ProbeKept.resetsMoot (h : ProbeKept s t) : ProbeKept s t.resetsMoot := by
  unfold State.resetsMoot
  extract_lets u q
  have hu : ProbeKept s u := h.foldl _ fun _ _ _ hx => hx.complete
  exact hu.upd

/-- `s` with the plan of switch `w` shown and in use. -/
def State.tookPlan (s : State) (w : PendSwitch) : State :=
  let s := (s.switchStreams w.plan).showPlan w.id w.plan
  { s with acq := { s.acq with run := some (w.id, w.plan), sw := none },
           ph := { s.ph with stepPend := if w.plan.align then max s.ph.stepPend 2 else 0 } }

/-- The end of switch `w` once its frame 0 has begun. -/
def State.switchOver (s : State) (w : PendSwitch) : State :=
  let s := (s.setF Reg.PRB_STATE_DARK 0).dtsRefit.secsSwitch
  (s.acq.handle.elim s (fun h => s.progress h w.id 0)).complete w.handle stOk 0 w.id 0

theorem State.switchOver_kept (w : PendSwitch) : ProbeKept (s.setF Reg.PRB_STATE_DARK 0) (s.switchOver w) := by
  unfold State.switchOver
  have hu : ProbeKept (s.setF Reg.PRB_STATE_DARK 0) (s.setF Reg.PRB_STATE_DARK 0).dtsRefit.secsSwitch :=
    (ProbeKept.refl _).dtsRefit.secsSwitch
  generalize (s.setF Reg.PRB_STATE_DARK 0).dtsRefit.secsSwitch = u at hu ⊢
  refine ProbeKept.complete ?_
  cases u.acq.handle with
  | some h => exact hu.progress
  | none => exact hu

theorem State.switchOver_ended (w : PendSwitch) : (s.switchOver w).ended w.handle := State.complete_ended _ _ _ _ _

/-- PLAN_SWITCH_APPLY at the end of the dark frame. -/
theorem exec_planSwitchApply_dark {id : Nat} {p : Plan} {w : PendSwitch} (hr : s.acq.run = some (id, p)) (hw : s.acq.sw = some w)
    (hd : w.dark = true) (he : s.acq.ending = none) (ha : p.frameTicks ≤ s.frameAge) (hst : s.acq.stamps = []) :
    exec .planSwitchApply s =
      .next (((if w.plan.align then s.tookPlan w else (s.tookPlan w).resetsMoot).frame0 w.plan).switchOver w) := by
  have hdue : s.switchDue p w = true := by simp [State.switchDue, he, hd, ha, hst]
  simp only [exec, execPlanSwitchApply, hr, hw, hdue, hd, Bool.not_true, Bool.false_eq_true, if_false, if_true, State.tookPlan, State.switchOver]
  generalize State.secsSwitch _ = u
  cases u.acq.handle <;> rfl

/-- With no stream open, the new plan is all that changes. -/
theorem State.tookPlan_acq (w : PendSwitch) (hst : s.red.streams = []) : (s.tookPlan w).acq = { s.acq with run := some (w.id, w.plan), sw := none } := by
  simp [State.tookPlan, State.switchStreams, hst]

theorem State.tookPlan_tick (w : PendSwitch) (hst : s.red.streams = []) : (s.tookPlan w).tick = s.tick := by
  have hshow (u : State) : (u.showPlan w.id w.plan).tick = u.tick := State.showPlan_keeps State.tick (fun _ _ _ _ => rfl) _ _
  simp [State.tookPlan, State.switchStreams, hst, hshow]

theorem State.tookPlan_planId (w : PendSwitch) : (s.tookPlan w).fld Reg.PRB_PLAN_ID = w.id % 2 ^ 32 := by
  have hregs : (s.tookPlan w).regs = ((s.switchStreams w.plan).showPlan w.id w.plan).regs := rfl
  rw [State.fld_congr _ _ hregs, State.showPlan_planId]

theorem planSwitchApply_dark {id : Nat} {p : Plan} {w : PendSwitch} (hr : s.acq.run = some (id, p)) (hw : s.acq.sw = some w)
    (hd : w.dark = true) (he : s.acq.ending = none) (ha : p.frameTicks ≤ s.frameAge) (hst : s.acq.stamps = []) (hno : s.red.streams = []) :
    Answers .planSwitchApply s (fun t => t.acq.run = some (w.id, w.plan) ∧ t.acq.sw = none ∧ t.fld Reg.PRB_STATE_DARK = 0 ∧
      t.fld Reg.PRB_STATE_STATE = prbRun ∧ t.fld Reg.PRB_PLAN_ID = w.id % 2 ^ 32 ∧ t.acq.fired = 0 ∧ t.acq.inFrame = true ∧
      t.acq.frameTick = s.tick ∧ t.ended w.handle) := by
  refine ⟨_, exec_planSwitchApply_dark hr hw hd he ha hst, ?_⟩
  have htook : ProbeKept (s.tookPlan w) (if w.plan.align then s.tookPlan w else (s.tookPlan w).resetsMoot) :=
    .ite (.refl _) (ProbeKept.refl _).resetsMoot
  have hacq := htook.acq.trans (State.tookPlan_acq w hno)
  have htick := htook.tick.trans (State.tookPlan_tick w hno)
  have hplan := (htook.fld Reg.PRB_PLAN_ID 0 (by decide)).trans (State.tookPlan_planId w)
  generalize (if w.plan.align then s.tookPlan w else (s.tookPlan w).resetsMoot) = u at hacq htick hplan ⊢
  have hz := State.frame0_shows (s := u) w.plan
  generalize u.frame0 w.plan = v at hz ⊢
  have hk := State.switchOver_kept (s := v) w
  have hend : v.acq = _ := hz.acq
  rw [hacq, htick] at hend
  refine ⟨?_, ?_, ?_, ?_, ?_, ?_, ?_, ?_, State.switchOver_ended w⟩
  · rw [hk.acq, State.setF_acq, hend]
  · rw [hk.acq, State.setF_acq, hend]
  · rw [hk.fld _ _ (by decide), State.fld_setF_same]
    rfl
  · rw [hk.fld _ _ (by decide), State.fld_setF_other _ _ _ _ _ _ (by decide), hz.state, hacq]
    rfl
  · rw [hk.fld _ _ (by decide), State.fld_setF_other _ _ _ _ _ _ (by decide), hz.planId, hplan]
  · rw [hk.acq, State.setF_acq, hend]
  · rw [hk.acq, State.setF_acq, hend]
  · rw [hk.acq, State.setF_acq, hend]

/-! ### The drained stop (R105, R132) -/

theorem State.dependantsEnd_acq (e : AcqEnd) : (s.dependantsEnd e).acq = s.acq := by
  have hsecs (v : State) (a d : Nat) : (v.secsEnd a d).acq = v.acq :=
    ((ProbeKept.refl v).foldl (List.range 4) fun _ _ _ hu => hu.secEnd).acq
  unfold State.dependantsEnd
  generalize e.others = o
  obtain ⟨a, d⟩ := o
  have hcap (v : State) : v.capTruncate.acq = v.acq := rfl
  rw [hcap, foldl_leaves State.acq fun _ _ => State.complete_acq _ _ _ _ _ _]
  rw [hsecs, State.closeAll_acq]

theorem State.hidePlan_planId : s.hidePlan.fld Reg.PRB_PLAN_ID = 0 := by
  have hown : (decide (Reg.PRB_PLAN_ID.key 0 % 32 = Reg.PRB_PLAN_ID.lsb) && (Reg.PRB_PLAN_ID.index? (Reg.PRB_PLAN_ID.key 0 / 32)).isSome) = true := by
    decide
  have hgone : ∀ v : Nat, (!([Reg.PRB_PLAN_ID, Reg.PRB_FRAME, Reg.PRB_TONES_N, Reg.PRB_TONES_ALIGN, Reg.PRB_TONES_DEPTHS, Reg.PRB_WINDOW_W,
      Reg.PRB_WINDOW_WIN_OFS, Reg.PRB_GATE_LEAD, Reg.PRB_GATE_LAG, Reg.PRB_GATE_STAGGER, Reg.PRB_SLOT_MAP].any
      (fun F => decide ((Reg.PRB_PLAN_ID.key 0, v).1 % 32 = F.lsb) && (F.index? ((Reg.PRB_PLAN_ID.key 0, v).1 / 32)).isSome))) = false :=
    fun _ => by simp only [List.any_cons, hown, Bool.true_or, Bool.not_true]
  rw [State.fld, State.hidePlan, State.resetFields, Store.read_filter_dropped _ _ hgone]
  rfl

/-- The acquisition at rest, and what shows it. -/
structure AcqAtRest (s : State) : Prop where
  run : s.acq.run = none
  ending : s.acq.ending = none
  state : s.fld Reg.PRB_STATE_STATE = prbIdle
  planId : s.fld Reg.PRB_PLAN_ID = 0
  glRun : s.fld Reg.SLM_GL_CTL_RUN = 0

theorem AcqAtRest.kept (h : AcqAtRest s) (hk : ProbeKept s t) : AcqAtRest t where
  run := (congrArg Acq.run hk.acq).trans h.run
  ending := (congrArg Acq.ending hk.acq).trans h.ending
  state := (hk.fld _ _ (by decide)).trans h.state
  planId := (hk.fld _ _ (by decide)).trans h.planId
  glRun := (hk.fld _ _ (by decide)).trans h.glRun

theorem State.acqIdle_atRest : AcqAtRest s.acqIdle := by
  have hregs : s.acqIdle.regs = (((((s.hidePlan.gateShut 0).setF Reg.PRB_STATE_STATE prbIdle).setF Reg.PRB_STATE_DARK 0).setF
    Reg.SLM_GL_CTL_RUN 0).setF Reg.CMP_ALIGN_STATUS_STATE alOff).regs := rfl
  have hplan : (s.hidePlan.gateShut 0).fld Reg.PRB_PLAN_ID = 0 := State.hidePlan_planId
  refine ⟨rfl, rfl, ?_, ?_, ?_⟩
  · rw [State.fld_congr _ _ hregs, State.fld_setF_other _ _ _ _ _ _ (by decide), State.fld_setF_other _ _ _ _ _ _ (by decide),
      State.fld_setF_other _ _ _ _ _ _ (by decide), State.fld_setF_same]
    rfl
  · rw [State.fld_congr _ _ hregs, State.fld_setF_other _ _ _ _ _ _ (by decide), State.fld_setF_other _ _ _ _ _ _ (by decide),
      State.fld_setF_other _ _ _ _ _ _ (by decide), State.fld_setF_other _ _ _ _ _ _ (by decide), hplan]
  · rw [State.fld_congr _ _ hregs, State.fld_setF_other _ _ _ _ _ _ (by decide), State.fld_setF_same]
    rfl

theorem State.acqIdle_queued : s.acqIdle.acq.queued = s.acq.queued := rfl

theorem State.ended_completeStop {i : Nat} (n a b : Nat) (h : s.ended i) : (s.completeStop n a b).ended i := by
  unfold State.completeStop
  split <;> exact State.ended_complete _ _ _ _ _ h

theorem State.completeStop_ended (n a b : Nat) : (s.completeStop n a b).ended n := by
  unfold State.completeStop
  split <;> exact State.complete_ended _ _ _ _ _

/-- The end of an acquisition whose last frame is over, with one handle of its own and one command that stopped it. -/
theorem State.acqOver_between {e : AcqEnd} {i n : Nat} (hn : e.stoppers = [n]) (hh : s.acq.handle = some i) (hs : s.acq.silent = false)
    (hf : s.acq.inFrame = false) :
    s.acqOver e = (((((s.dependantsEnd e).acqIdle.glRefresh).dtsRefit).complete i e.status e.detail (s.acq.frames % 2 ^ 32)
      (s.acq.frames / 2 ^ 32)).completeStop n (s.acq.frames % 2 ^ 32) 0) := by
  simp only [State.acqOver, hf, hh, hs, hn, Bool.false_eq_true, if_false, List.foldl_cons, List.foldl_nil]

theorem State.acqOver_kept (e : AcqEnd) (i n a b c d : Nat) :
    ProbeKept (s.dependantsEnd e).acqIdle
      ((((s.dependantsEnd e).acqIdle.glRefresh).dtsRefit).complete i e.status e.detail a b |>.completeStop n c d) :=
  (ProbeKept.refl _).glRefresh.dtsRefit.complete.completeStop

/-- ACQ_STOP_DRAINED between frames, with no window left and no ACQ_START queued. -/
theorem exec_acqStopDrained {r : Nat × Plan} {e : AcqEnd} {i n : Nat} (hr : s.acq.run = some r) (he : s.acq.ending = some e)
    (hn : e.stoppers = [n]) (hh : s.acq.handle = some i) (hs : s.acq.silent = false) (hf : s.acq.inFrame = false)
    (hq : s.acq.queued = none) (hst : s.acq.stamps = []) :
    exec .acqStopDrained s = .next (((((s.dependantsEnd e).acqIdle.glRefresh).dtsRefit).complete i e.status e.detail (s.acq.frames % 2 ^ 32)
      (s.acq.frames / 2 ^ 32)).completeStop n (s.acq.frames % 2 ^ 32) 0) := by
  obtain ⟨id, p⟩ := r
  have hidle : (s.acqOver e).startQueued = s.acqOver e := by
    have hnone : (s.acqOver e).acq.queued = none := by
      rw [State.acqOver_between hn hh hs hf, (State.acqOver_kept _ _ _ _ _ _ _).acq, State.acqIdle_queued, State.dependantsEnd_acq, hq]
    simp only [State.startQueued, hnone]
  rw [← State.acqOver_between hn hh hs hf, ← hidle]
  simp [exec, execAcqStopDrained, hr, he, hf, hst]

theorem acqStopDrained_atRest {r : Nat × Plan} {e : AcqEnd} {i n : Nat} (hr : s.acq.run = some r) (he : s.acq.ending = some e)
    (hn : e.stoppers = [n]) (hh : s.acq.handle = some i) (hs : s.acq.silent = false) (hf : s.acq.inFrame = false)
    (hq : s.acq.queued = none) (hst : s.acq.stamps = []) :
    Answers .acqStopDrained s (fun t => t.acq.run = none ∧ t.acq.ending = none ∧ t.fld Reg.PRB_STATE_STATE = prbIdle ∧
      t.fld Reg.PRB_PLAN_ID = 0 ∧ t.fld Reg.SLM_GL_CTL_RUN = 0 ∧ t.ended i ∧ t.ended n) := by
  obtain ⟨hrun, hending, hstate, hplan, hgl⟩ := State.acqIdle_atRest.kept
    (State.acqOver_kept (s := s) e i n (s.acq.frames % 2 ^ 32) (s.acq.frames / 2 ^ 32) (s.acq.frames % 2 ^ 32) 0)
  exact ⟨_, exec_acqStopDrained hr he hn hh hs hf hq hst, hrun, hending, hstate, hplan, hgl,
    State.ended_completeStop _ _ _ (State.complete_ended _ _ _ _ _), State.completeStop_ended _ _ _⟩

end Sys2Proof.Machine
end

section
/-! SUPPORT. The bias loops (O15): a measurement, a correction and starvation. -/

namespace Sys2Proof.Machine

variable {s t u : State}

/-! ### A measurement (R129) -/

/-- `s` with the measurement of its position begun. -/
def State.measuring (s : State) : State :=
  { s with acq := { s.acq with dac := s.mbPattern s.acq.mbPos, mbLast := some (s.tick, s.acq.mbPos), mbPos := (s.acq.mbPos + 1) % 8,
                               mbCycles := s.acq.mbCycles + (if (s.acq.mbPos + 1) % 8 = 0 then 1 else 0) } }

theorem exec_mbMeasurement_due (hf : s.fieldUp = true) (ht : s.on Reg.PRB_DAC_TEST = false) (hg : s.gateOpen 0 = false)
    (hv : s.dacVisited = false) (hd : s.mbDue = true) : exec .mbMeasurement s = .next (s.measuring.setF Reg.PRB_MB_STATUS_STARVED 0) := by
  simp [exec, execMbMeasurement, hf, ht, hg, hv, hd, State.measuring]

/-- The measurement that began in this tick is under way. -/
theorem State.measuring_active : (s.measuring.setF Reg.PRB_MB_STATUS_STARVED 0).mbActive = some s.acq.mbPos :=
  if_pos (show s.tick < s.tick + 60 by omega)

theorem State.measuring_fld {G : Field} {j : Nat} (hG : Reg.PRB_MB_STATUS_STARVED.key 0 ≠ G.key j) :
    (s.measuring.setF Reg.PRB_MB_STATUS_STARVED 0).fld G j = s.fld G j := by
  rw [State.fld_setF_other _ _ _ _ _ _ hG]
  exact State.fld_congr _ _ rfl

theorem mbOut_key_ne_starved : ∀ i < 3, Reg.PRB_MB_STATUS_STARVED.key 0 ≠ Reg.PRB_MB_OUT.key i := by decide

theorem mbMeasurement_due (hf : s.fieldUp = true) (ht : s.on Reg.PRB_DAC_TEST = false) (hg : s.gateOpen 0 = false)
    (hv : s.dacVisited = false) (hd : s.mbDue = true) :
    Answers .mbMeasurement s (fun t => t.acq.mbPos = (s.acq.mbPos + 1) % 8 ∧
      t.acq.dac = s.mbPattern s.acq.mbPos ∧ t.acq.mbLast = some (s.tick, s.acq.mbPos) ∧
      (∀ i < 3, t.mbPin i = s.fld Reg.PRB_MB_OUT i +
        (if s.acq.mbPos < 4 ∧ s.acq.mbPos / 2 = i then (if s.acq.mbPos % 2 = 0 then (s.mbDither : Int) else -s.mbDither) else 0)) ∧
      t.fld Reg.PRB_MB_STATUS_STARVED = 0 ∧ SameRegs [Reg.PRB_MB_STATUS_STARVED.key 0] s t ∧ t.mem = s.mem) := by
  refine ⟨_, exec_mbMeasurement_due hf ht hg hv hd, rfl, rfl, rfl, fun i hi => ?_, State.fld_setF_same _ _ _ _, ?_, rfl⟩
  · have hdither : (s.measuring.setF Reg.PRB_MB_STATUS_STARVED 0).mbDither = s.mbDither := by
      rw [State.mbDither, State.measuring_fld (by decide), State.mbDither]
    rw [State.mbPin, State.measuring_fld (mbOut_key_ne_starved i hi), State.mbOffset, State.measuring_active]
    simp only [hdither]
  · exact (SameRegs.of_eq (s := s) (t := s.measuring) rfl).setF (by simp)

/-! ### What the bias loops stand on -/

/-- The fields that a correction reads and moves (R129, R134): DITHER, HOLD and the three outputs. -/
def biasKeys : List Nat := [Reg.PRB_MB_CTL_DITHER.key 0, Reg.PRB_MB_CTL_HOLD.key 0, Reg.PRB_MB_OUT.key 0, Reg.PRB_MB_OUT.key 1, Reg.PRB_MB_OUT.key 2]

theorem mbOut_mem_biasKeys : ∀ i < 3, Reg.PRB_MB_OUT.key i ∈ biasKeys := by decide

/-- The memories, the cycles counted and the fields of the bias loops are those of `s`. -/
structure BiasKept (s t : State) : Prop where
  mem : t.mem = s.mem
  cycles : t.acq.mbCycles = s.acq.mbCycles
  fld : ∀ (G : Field) (j : Nat), G.key j ∈ biasKeys → t.fld G j = s.fld G j

namespace BiasKept

theorem refl (s : State) : BiasKept s s := ⟨rfl, rfl, fun _ _ _ => rfl⟩

theorem trans (h : BiasKept s t) (k : BiasKept t u) : BiasKept s u :=
  ⟨k.mem.trans h.mem, k.cycles.trans h.cycles, fun G j hG => (k.fld G j hG).trans (h.fld G j hG)⟩

/-- A change of other parts of the state. -/
theorem upd (h : BiasKept s t) (hm : u.mem = t.mem := by rfl) (hc : u.acq.mbCycles = t.acq.mbCycles := by rfl)
    (hr : u.regs = t.regs := by rfl) : BiasKept s u :=
  h.trans ⟨hm, hc, fun _ _ _ => State.fld_congr _ _ hr⟩

theorem setF (h : BiasKept s t) {F : Field} {v i : Nat} (hF : F.key i ∉ biasKeys) : BiasKept s (t.setF F v i) :=
  h.trans ⟨rfl, rfl, fun _ _ hG => State.fld_setF_other _ _ _ _ _ _ fun e => hF (e ▸ hG)⟩

theorem mbLock (h : BiasKept s t) {i : Nat} {c : Int} : BiasKept s (t.mbLock i c) := by
  unfold State.mbLock
  extract_lets d n q v
  have hv : BiasKept s v := h.upd
  split
  · exact hv.setF (by decide)
  · split
    · exact hv.setF (by decide)
    · exact hv

theorem logEvt (h : BiasKept s t) {a b c : Nat} {bs : List Byte} : BiasKept s (t.logEvt a b c bs) := by
  have hlog : ∀ k ∈ biasKeys, Reg.SUM_LOG_NEWEST.key 0 ≠ k ∧ Reg.SUM_LOG_OLDEST.key 0 ≠ k ∧ Reg.SUM_LOG_SUPPRESSED.key 0 ≠ k := by decide
  refine h.trans ⟨by simp, by simp, fun G j hG => ?_⟩
  obtain ⟨hnew, hold, hsup⟩ := hlog _ hG
  exact State.logEvt_fld (h1 := hnew) (h2 := hold) (h3 := hsup) ..

theorem signal (h : BiasKept s t) {v : Nat} : BiasKept s (t.signal v) := h.upd (by simp) (by simp) (by simp)

theorem mbDither (h : BiasKept s t) : t.mbDither = s.mbDither := by rw [State.mbDither, h.fld _ _ (by decide), State.mbDither]

theorem hold (h : BiasKept s t) : t.on Reg.PRB_MB_CTL_HOLD = s.on Reg.PRB_MB_CTL_HOLD := by
  rw [State.on, h.fld _ _ (by decide), State.on]

end BiasKept

/-! ### A correction (R129, R130) -/

/-- A loop's output within its rails. -/
theorem State.mbOut_le (i : Nat) : s.fld Reg.PRB_MB_OUT i ≤ 65535 := Nat.lt_succ_iff.mp (Nat.mod_lt _ (by decide))

/-- What a correction of loop `i` does: nothing to any output, or without HOLD a move of output `i` by at most DITHER. -/
theorem State.mbCorrect_cases {i : Nat} (hi : i < 3) :
    BiasKept s (s.mbCorrect i) ∨ (s.on Reg.PRB_MB_CTL_HOLD = false ∧ ∃ (u : State) (v : Nat), BiasKept s u ∧ v ≤ 65535 ∧
      ((v : Int) - s.fld Reg.PRB_MB_OUT i).natAbs ≤ s.mbDither ∧ BiasKept (u.setF Reg.PRB_MB_OUT v i) (s.mbCorrect i)) := by
  unfold State.mbCorrect
  split
  · exact .inl (.refl _)
  · have hw : BiasKept s (s.freeVal 17).2 := (BiasKept.refl s).upd
    generalize s.freeVal 17 = x at hw ⊢
    obtain ⟨n, w⟩ := x
    dsimp only
    have ht : BiasKept s (w.mbLock i (sx 17 n)) := hw.mbLock
    generalize w.mbLock i (sx 17 n) = t at ht ⊢
    split
    · exact .inl ht
    · rename_i hhold
      rw [ht.fld _ _ (mbOut_mem_biasKeys i hi), hw.mbDither]
      have hc := clampInt_bounds (lo := -(s.mbDither : Int)) (hi := s.mbDither) (x := sx 17 n) (by omega)
      generalize clampInt (-(s.mbDither : Int)) s.mbDither (sx 17 n) = c at hc ⊢
      have hle := s.mbOut_le i
      generalize s.fld Reg.PRB_MB_OUT i = out at hle ⊢
      refine .inr ⟨by simpa [ht.hold] using hhold, ?_⟩
      split
      · refine ⟨t, if (out : Int) + c < 0 then 0 else 65535, ht, by split <;> omega, by split <;> omega, ?_⟩
        exact ((BiasKept.refl _).setF (by decide)).logEvt.signal
      · exact ⟨t, (out + c).toNat, ht, by omega, by omega, .refl _⟩

/-- From `s` to `t` the loops `is` were corrected: no output moves by more than DITHER, none under HOLD, and none of another loop. -/
structure LoopsMoved (is : List Nat) (s t : State) : Prop where
  mem : t.mem = s.mem
  cycles : t.acq.mbCycles = s.acq.mbCycles
  dither : t.mbDither = s.mbDither
  hold : t.on Reg.PRB_MB_CTL_HOLD = s.on Reg.PRB_MB_CTL_HOLD
  other : ∀ j < 3, j ∉ is → t.fld Reg.PRB_MB_OUT j = s.fld Reg.PRB_MB_OUT j
  near : ∀ j < 3, ((t.fld Reg.PRB_MB_OUT j : Int) - s.fld Reg.PRB_MB_OUT j).natAbs ≤ s.mbDither
  held : s.on Reg.PRB_MB_CTL_HOLD = true → ∀ j < 3, t.fld Reg.PRB_MB_OUT j = s.fld Reg.PRB_MB_OUT j

theorem LoopsMoved.of_kept (is : List Nat) (h : BiasKept s t) : LoopsMoved is s t := by
  have hout : ∀ j < 3, t.fld Reg.PRB_MB_OUT j = s.fld Reg.PRB_MB_OUT j := fun j hj => h.fld _ _ (mbOut_mem_biasKeys j hj)
  exact ⟨h.mem, h.cycles, h.mbDither, h.hold, fun j hj _ => hout j hj, fun j hj => by simp [hout j hj], fun _ => hout⟩

theorem State.mbCorrect_moved {i : Nat} (hi : i < 3) : LoopsMoved [i] s (s.mbCorrect i) := by
  have hkeys : ∀ i < 3, ∀ j < 3, j ≠ i → Reg.PRB_MB_OUT.key i ≠ Reg.PRB_MB_OUT.key j := by decide
  have hctl : ∀ i < 3, Reg.PRB_MB_OUT.key i ≠ Reg.PRB_MB_CTL_DITHER.key 0 ∧ Reg.PRB_MB_OUT.key i ≠ Reg.PRB_MB_CTL_HOLD.key 0 := by decide
  obtain h | ⟨hhold, u, v, hu, hv, hnear, ht⟩ := s.mbCorrect_cases hi
  · exact .of_kept _ h
  · have hother : ∀ j < 3, j ≠ i → (s.mbCorrect i).fld Reg.PRB_MB_OUT j = s.fld Reg.PRB_MB_OUT j := fun j hj hne => by
      rw [ht.fld _ _ (mbOut_mem_biasKeys j hj), State.fld_setF_other _ _ _ _ _ _ (hkeys i hi j hj hne), hu.fld _ _ (mbOut_mem_biasKeys j hj)]
    have hown : (s.mbCorrect i).fld Reg.PRB_MB_OUT i = v := by
      rw [ht.fld _ _ (mbOut_mem_biasKeys i hi), State.fld_setF_same]
      exact Nat.mod_eq_of_lt (Nat.lt_succ_of_le hv)
    refine ⟨ht.mem.trans hu.mem, ht.cycles.trans hu.cycles, ?_, ?_, fun j hj hne => hother j hj (by simpa using hne), fun j hj => ?_, ?_⟩
    · rw [ht.mbDither, ← hu.mbDither, State.mbDither, State.fld_setF_other _ _ _ _ _ _ (hctl i hi).1, State.mbDither]
    · rw [ht.hold, ← hu.hold, State.on, State.fld_setF_other _ _ _ _ _ _ (hctl i hi).2, State.on]
    · by_cases hji : j = i
      · rw [hji, hown]
        exact hnear
      · simp [hother j hj hji]
    · rw [hhold]
      exact fun hno => absurd hno (by decide)

/-- One more loop corrected. -/
theorem LoopsMoved.step {is : List Nat} (h : LoopsMoved is s t) {i : Nat} (hi : i < 3) (hnew : i ∉ is) : LoopsMoved (i :: is) s (t.mbCorrect i) := by
  have k := State.mbCorrect_moved (s := t) hi
  refine ⟨k.mem.trans h.mem, k.cycles.trans h.cycles, k.dither.trans h.dither, k.hold.trans h.hold, fun j hj hne => ?_, fun j hj => ?_,
    fun hh j hj => (k.held (h.hold.trans hh) j hj).trans (h.held hh j hj)⟩
  · rw [List.mem_cons, not_or] at hne
    exact (k.other j hj (by simpa using hne.1)).trans (h.other j hj hne.2)
  · by_cases hji : j = i
    · rw [← h.other j hj (hji ▸ hnew), ← h.dither]
      exact k.near j hj
    · rw [k.other j hj (by simpa using hji)]
      exact h.near j hj

theorem State.mbCorrect_all : LoopsMoved [2, 1, 0] s ((List.range 3).foldl State.mbCorrect s) :=
  (((LoopsMoved.of_kept [] (.refl s)).step (i := 0) (by decide) (by decide)).step (i := 1) (by decide) (by decide)).step (by decide) (by decide)

theorem exec_mbCorrection_due (hc : 64 ≤ s.acq.mbCycles) (hs : s.on Reg.PRB_MB_STATUS_STARVED = false) (hv : s.dacVisited = false)
    (ht : s.on Reg.PRB_DAC_TEST = false) :
    exec .mbCorrection s = .next ((List.range 3).foldl State.mbCorrect { s with acq := { s.acq with mbCycles := 0 } }) := by
  simp only [exec, execMbCorrection, hs, hv, ht, Nat.not_lt.mpr hc, Bool.false_eq_true, or_self, if_false]

theorem mbCorrection_due (hc : 64 ≤ s.acq.mbCycles) (hs : s.on Reg.PRB_MB_STATUS_STARVED = false) (hv : s.dacVisited = false)
    (ht : s.on Reg.PRB_DAC_TEST = false) :
    Answers .mbCorrection s (fun t => t.acq.mbCycles = 0 ∧ t.mem = s.mem ∧
      (∀ i : Fin 3, ((t.fld Reg.PRB_MB_OUT i : Int) - s.fld Reg.PRB_MB_OUT i).natAbs ≤ s.mbDither) ∧
      (s.on Reg.PRB_MB_CTL_HOLD = true → ∀ i : Fin 3, t.fld Reg.PRB_MB_OUT i = s.fld Reg.PRB_MB_OUT i)) := by
  have h := State.mbCorrect_all (s := { s with acq := { s.acq with mbCycles := 0 } })
  exact ⟨_, exec_mbCorrection_due hc hs hv ht, h.cycles, h.mem, fun i => h.near i i.isLt, fun hh i => h.held hh i i.isLt⟩

/-! ### Starvation (R130) -/

theorem mbStarved_up (hf : s.fieldUp = true) :
    Answers .mbStarved s (fun t => t.fld Reg.PRB_MB_STATUS_STARVED = 1 ∧ OnlyRegs [Reg.PRB_MB_STATUS_STARVED.key 0] s t) := by
  have he : exec .mbStarved s = .next (s.setF Reg.PRB_MB_STATUS_STARVED 1) := by simp only [exec, execMbStarved, if_pos hf]
  exact ⟨_, he, State.fld_setF_same _ _ _ _, (OnlyRegs.refl _ s).setF (by simp)⟩

end Sys2Proof.Machine
end

section
/-! Frames, firings, the switch, the drained stop and the bias loops (O15). -/

namespace Sys2Proof.Machine

/-- Settles O15, each clause by the lemma of its step: a frame begins, a tone fires, a switch or a stop ends, or a bias loop runs. -/
theorem framesAndBias : Obligations.FramesAndBias := by
  unfold Obligations.FramesAndBias
  refine ⟨?_, ?_, ?_, ?_, ?_, ?_, ?_, ?_, ?_⟩
  · intro s id p hr hst hw h0 hn
    exact frameStart_first hr hst hw h0 hn
  · intro s id p hr hst hf he hw h0 hn
    exact frameStart_next hr hst hf he hw h0 hn
  · intro s id k p u hr hk hu hd _ hn
    exact toneFiring_due hr hk hu hd hn
  · intro s id p w hr hw hd he hf
    exact planSwitchApply_full hr hw hd he hf
  · intro s id p w hr hw hd he ha hst hno _ _
    exact planSwitchApply_dark hr hw hd he ha hst hno
  · intro s r e i n hr he hn hh hs hf hq hst
    exact ⟨exec_acqStopDrained hr he hn hh hs hf hq hst, acqStopDrained_atRest hr he hn hh hs hf hq hst⟩
  · intro s hf ht hg hv hd
    exact mbMeasurement_due hf ht hg hv hd
  · intro s hc hs hv ht
    exact mbCorrection_due hc hs hv ht
  · intro s hf
    exact mbStarved_up hf

end Sys2Proof.Machine
end

section
/-! SUPPORT. The Raman commands (O21): the record of DTS_CONFIG, the average that DTS_START begins and DTS_STOP ends, and the slot that DTS_READ copies. -/

namespace Sys2Proof.Machine

variable {s : State} {h : Fin 256} {d : CmdData} {x : Handle} {c : DtsCfg} {bs : List Byte}

/-! ### Records (R105) -/

theorem State.withRecord_of {size : Nat} {k : State → List Byte → State} (hd : s.dataOf x d = some (size, bs)) :
    s.withRecord x d size k = k (s.dataRead x d) bs := by
  rw [State.withRecord, State.withData_of _ _ _ _ _ _ hd, if_pos rfl]

theorem State.withRecord_missized {size n : Nat} {k : State → List Byte → State} (hd : s.dataOf x d = some (n, bs)) (hn : n ≠ size) :
    s.withRecord x d size k = (s.dataRead x d).complete x.idx stInvalid 16 0 0 := by
  rw [State.withRecord, State.withData_of _ _ _ _ _ _ hd, if_neg hn]

theorem State.dataRead_dts (x : Handle) (d : CmdData) : (s.dataRead x d).dts = s.dts := by
  obtain ⟨r, h⟩ := State.dataRead_eq (s := s) x d
  rw [h]

theorem State.dataRead_handle? (x : Handle) (d : CmdData) (i : Nat) : (s.dataRead x d).handle? i = s.handle? i :=
  State.handle?_congr (State.dataRead_hq x d) i

/-! ### DTS_CONFIG (R194) -/

/-- `s` with the configuration `c` held, and no slot that holds a complete average. -/
def State.dtsConfigured (s : State) (c : DtsCfg) : State :=
  ((({ s with dts := { s.dts with cfg := some c, doneA := false, doneB := false, newest := none } } : State).setF
    Reg.DTS_STATUS_STATE dtsIdle).setF Reg.DTS_STATUS_SLOT 0).setF Reg.DTS_STATUS_REF_BAD 0

theorem exec_dtsConfig_good (hc : s.cmd? h.val 0x50 = some x) (hr : s.dts.run = none) (hd : s.dataOf x d = some (64, bs)) (hb : dtsBad bs = none) :
    exec (.dtsConfig h d) s = .next (((s.dataRead x d).dtsConfigured (parseDts bs)).complete h.val stOk 0 0 0) := by
  simp only [exec, execDtsConfig, hc, hr, State.withRecord_of hd, hb, Option.isSome_none, Bool.false_eq_true, if_false]
  rfl

theorem exec_dtsConfig_bad {o : Nat} (hc : s.cmd? h.val 0x50 = some x) (hr : s.dts.run = none) (hd : s.dataOf x d = some (64, bs))
    (hb : dtsBad bs = some o) : exec (.dtsConfig h d) s = .next ((s.dataRead x d).complete h.val stInvalid 0xFF o 0) := by
  simp only [exec, execDtsConfig, hc, hr, State.withRecord_of hd, hb, Option.isSome_none, Bool.false_eq_true, if_false]

theorem exec_dtsConfig_missized {n : Nat} (hc : s.cmd? h.val 0x50 = some x) (hr : s.dts.run = none) (hd : s.dataOf x d = some (n, bs))
    (hn : n ≠ 64) : exec (.dtsConfig h d) s = .next ((s.dataRead x d).complete h.val stInvalid 16 0 0) := by
  simp only [exec, execDtsConfig, hc, hr, State.withRecord_missized hd hn, State.cmd?_idx hc, Option.isSome_none, Bool.false_eq_true, if_false]

theorem exec_dtsConfig_busy {r : DtsRun} (hc : s.cmd? h.val 0x50 = some x) (hr : s.dts.run = some r) :
    exec (.dtsConfig h d) s = .next (s.complete h.val stBusy 0x51 0 0) := by
  simp only [exec, execDtsConfig, hc, hr, Option.isSome_some, if_true]

/-! ### DTS_START (R191, R202) -/

/-- `s` with an empty average of run `r`. -/
def State.dtsBegun (s : State) (r : DtsRun) : State :=
  ((({ s with dts := { s.dts.cleared with run := some r, done := 0, skipLeft := 0, dir := false, shotAt := none, closeEnd := none } } : State).setF
    Reg.DTS_STATUS_STATE dtsAveraging).setF Reg.DTS_STATUS_REVERSE 0).setF Reg.DTS_SHOTS 0

theorem State.dtsBegun_state (r : DtsRun) : (s.dtsBegun r).fld Reg.DTS_STATUS_STATE = dtsAveraging := by
  rw [State.dtsBegun, State.fld_setF_other _ _ _ _ _ _ (by decide), State.fld_setF_other _ _ _ _ _ _ (by decide), State.fld_setF_same]
  rfl

theorem State.dtsBegun_shots (r : DtsRun) : (s.dtsBegun r).fld Reg.DTS_SHOTS = 0 := State.fld_setF_same _ _ _ _

/-- A DTS_START whose shots lie in its range, with no average running. -/
structure DtsStartable (s : State) (h : Fin 256) (x : Handle) : Prop where
  cmd : s.cmd? h.val 0x51 = some x
  range : ¬ (x.p 0 < 10 ∨ 22 < x.p 0)
  idle : s.dts.run.isSome = false

theorem exec_dtsStart_unconfigured (hs : DtsStartable s h x) (hg : s.dts.cfg = none) :
    exec (.dtsStart h) s = .next (s.complete h.val stNotReady 6 0 0) := by
  simp only [exec, execDtsStart, hs.cmd, hs.range, hs.idle, hg, Bool.false_eq_true, if_false]

theorem exec_dtsStart_unfit (hs : DtsStartable s h x) (hg : s.dts.cfg = some c) (hl : s.latchedCode 0x20 = none)
    (hp : s.on Reg.PWR_STATUS_REF_LOCK = true) (hf : s.dtsFits c = false) :
    exec (.dtsStart h) s = .next (s.complete h.val stInvalid 0xFE 0 0) := by
  simp only [exec, execDtsStart, hs.cmd, hs.range, hs.idle, hg, hl, hp, hf, Bool.not_true, Bool.not_false, Bool.false_eq_true, if_false, if_true]

theorem exec_dtsStart_fits (hs : DtsStartable s h x) (hg : s.dts.cfg = some c) (hl : s.latchedCode 0x20 = none)
    (hp : s.on Reg.PWR_STATUS_REF_LOCK = true) (hf : s.dtsFits c = true) :
    exec (.dtsStart h) s = .next ((s.takeUp h.val).dtsBegun ⟨some h.val, x.p 0, bit (x.p 1) 0⟩) := by
  simp only [exec, execDtsStart, State.dtsBegun, hs.cmd, hs.range, hs.idle, hg, hl, hp, hf, Bool.not_true, Bool.false_eq_true, if_false]

/-! ### DTS_STOP (R202) -/

/-- Without a DTS_READ that waits, none is served. -/
theorem State.dtsServe_none (hw : s.dts.waiting = []) : s.dtsServe = s := by
  rw [State.dtsServe, hw, List.foldl_nil, ← hw]

/-- `s` with its average given up: the sums gone, GATE_T shut, and no run. -/
def State.dtsDropped (s : State) : State :=
  (((({ s with dts := { s.dts.cleared with run := none, dir := false, skipLeft := 0 } } : State).gateShut 1).setF
    Reg.DTS_STATUS_STATE dtsIdle).setF Reg.DTS_STATUS_REVERSE 0).setF Reg.DTS_SHOTS 0

/-- An average that no DTS_READ waits for ends: it is given up, and its handle completes. -/
theorem State.dtsEnd_running {r : DtsRun} {i : Nat} (st det n : Nat) (hr : s.dts.run = some r) (hh : r.handle = some i) (hw : s.dts.waiting = []) :
    s.dtsEnd st det n = s.dtsDropped.complete i st det n 0 := by
  have hserve : s.dtsDropped.dtsServe = s.dtsDropped := State.dtsServe_none hw
  calc s.dtsEnd st det n = s.dtsDropped.dtsServe.complete i st det n 0 := by
        simp only [State.dtsEnd, hr, hh]
        rfl
    _ = s.dtsDropped.complete i st det n 0 := by rw [hserve]

theorem exec_dtsStop (hc : s.cmd? h.val 0x52 = some x) :
    exec (.dtsStop h) s = .next ((s.complete h.val stOk 0 0 0).dtsEnd stAborted 1 s.dts.done) := by
  simp only [exec, execDtsStop, hc]

/-! ### DTS_READ (R201) -/

theorem exec_dtsRead_none (hc : s.cmd? h.val 0x53 = some x) (hp : x.p 0 = 0) (hn : s.dts.newest = none) :
    exec (.dtsRead h d) s = .next (s.complete h.val stNotReady 6 0 0) := by
  simp only [exec, execDtsRead, hc, hp, hn, Nat.not_lt_zero, if_false]
  cases s.dts.cfg <;> rfl

/-- DTS_READ of slot A, complete and not being written, into a buffer that holds it. -/
theorem exec_dtsRead_slotA (hc : s.cmd? h.val 0x53 = some x) (hg : s.dts.cfg = some c) (hp : x.p 0 = 1) (ha : s.dts.doneA = true)
    (hs : s.fld Reg.DTS_STATUS_STATE ≠ dtsClosing) (hl : c.slotBytes ≤ segsLen (s.buffer x d).1.1) :
    exec (.dtsRead h d) s = .next (((s.buffer x d).2.putSegs x.engine (s.buffer x d).1.1 (s.mem.firn.readN c.resultOfs c.slotBytes)).complete
      h.val stOk 0 c.slotBytes 0) := by
  have hofs : c.slotOfs 0 = c.resultOfs := by rw [DtsCfg.slotOfs, Nat.zero_mul, Nat.add_zero]
  have hlen : (s.mem.firn.readN c.resultOfs c.slotBytes).length ≤ segsLen (s.buffer x d).1.1 := (Memory.readN_length _ _ _).trans_le hl
  simp [exec, execDtsRead, hc, hg, hp, ha, hs, hofs, State.giveData, State.giveTo_fits _ _ _ _ hlen, State.cmd?_idx hc]

/-! ### Settled -/

/-- Settles O21, command by command: each refusal, and what the command does where none applies. -/
theorem ramanCommands : Obligations.RamanCommands := by
  unfold Obligations.RamanCommands
  refine ⟨?_, ?_, ?_, ?_, ?_, ?_⟩
  · intro s h d bs x hc hr hd
    refine ⟨fun hb => ⟨_, exec_dtsConfig_good hc hr hd hb, State.dataRead_handle? _ _ _, ?_⟩, fun o hb => ?_⟩
    · rw [State.dtsConfigured, State.dataRead_dts]
    · exact ⟨_, exec_dtsConfig_bad hc hr hd hb, State.dataRead_handle? _ _ _, rfl⟩
  · intro s h d bs n x hc hr hd hn
    exact ⟨_, exec_dtsConfig_missized hc hr hd hn, State.dataRead_handle? _ _ _, rfl⟩
  · exact fun s h d x r hc hr => Ends.of_exec (exec_dtsConfig_busy hc hr)
  · intro s h x hc hlow hhigh hr
    have hs : DtsStartable s h x := ⟨hc, by omega, by rw [hr]; rfl⟩
    refine ⟨fun hg => Ends.of_exec (exec_dtsStart_unconfigured hs hg), fun c hg hl hp => ⟨fun hf => ?_, fun hf => ?_⟩⟩
    · exact Ends.of_exec (exec_dtsStart_unfit hs hg hl hp hf)
    · exact ⟨_, exec_dtsStart_fits hs hg hl hp hf, rfl, rfl, rfl, rfl, rfl, State.dtsBegun_state _, State.dtsBegun_shots _, State.takeUp_mem _⟩
  · intro s h x hc
    refine ⟨fun hr => ?_, fun r i hr hh hw => ?_⟩
    · have hrun := exec_dtsStop hc
      rw [State.dtsEnd_idle _ _ _ (by rwa [State.complete_dts])] at hrun
      exact Ends.of_exec hrun
    · rw [exec_dtsStop hc, State.dtsEnd_running (r := r) (i := i) _ _ _ (by rwa [State.complete_dts]) hh (by rwa [State.complete_dts]), State.dtsDropped,
        State.complete_dts]
  · intro s h d x hc
    refine ⟨fun hp hn => Ends.of_exec (exec_dtsRead_none hc hp hn), fun c hg hp ha hs hl => ?_⟩
    exact ⟨_, exec_dtsRead_slotA hc hg hp ha hs hl,
      (State.putSegs_handle? _ _ _ _).trans (State.handle?_congr (State.buffer_hq _ _) _), rfl⟩

end Sys2Proof.Machine
end

section
/-! SUPPORT. The shots of a Raman average (O22): what a shot shows, the codes that it accumulates, and the shot given up. -/

namespace Sys2Proof.Machine

variable {s t : State} {r : DtsRun} {c : DtsCfg} {k : RamanCodes}

/-! ### What a shot shows (R188, R204, R380) -/

theorem vmod_getElem {α : Type} {n : Nat} (v : Vector α n) (i : Nat) (f : α → α) (hi : i < n) : (vmod v i f)[i] = f v[i] := by
  simp [vmod, hi]

/-- From `s` to `t` only register fields and the sequence of free values change, and of the fields not STATE of DTS_STATUS. -/
structure DtsShown (s t : State) : Prop where
  eq : ∃ g f, t = { s with regs := g, free := f }
  state : t.fld Reg.DTS_STATUS_STATE = s.fld Reg.DTS_STATUS_STATE

namespace DtsShown

theorem refl (s : State) : DtsShown s s := ⟨⟨_, _, rfl⟩, rfl⟩

theorem setF (h : DtsShown s t) {F : Field} {v i : Nat} (hF : F.key i ≠ Reg.DTS_STATUS_STATE.key 0) : DtsShown s (t.setF F v i) := by
  obtain ⟨⟨g, f, rfl⟩, hst⟩ := h
  exact ⟨⟨_, _, rfl⟩, (State.fld_setF_other _ _ _ _ _ _ hF).trans hst⟩

theorem incF (h : DtsShown s t) {F : Field} (hF : F.key 0 ≠ Reg.DTS_STATUS_STATE.key 0) : DtsShown s (t.incF F) := h.setF hF

theorem freeRound (h : DtsShown s t) {a b : Int} : DtsShown s (t.freeRound a b).2 := by
  unfold State.freeRound
  dsimp only
  split
  · exact h
  · obtain ⟨⟨g, f, rfl⟩, hst⟩ := h
    exact ⟨⟨_, _, rfl⟩, hst⟩

theorem showDark (h : DtsShown s t) {F : Field} {codes : List Nat} (hF : F.key 0 ≠ Reg.DTS_STATUS_STATE.key 0) : DtsShown s (t.showDark F codes) :=
  h.freeRound.setF hF

theorem ite {u : State} {p : Prop} [Decidable p] (ht : DtsShown s t) (hu : DtsShown s u) : DtsShown s (if p then t else u) := by
  split <;> assumption

end DtsShown

/-! ### A shot that is accumulated (R190, R192) -/

/-- The first `n` codes of a lane, as numbers. -/
def firstCodes (n : Nat) (xs : List (BitVec 14)) : List Nat := (xs.take n).map (·.toNat)

/-- GATE_T opened now for PULSE ticks, the shot's window set, and nothing shown yet. -/
def State.shotOpened (s : State) (c : DtsCfg) : State :=
  { s with src := { s.src with gates := vmod s.src.gates 1 (fun (x : Gate) => { x with start := s.tick, stop := s.tick + c.pulse }) },
           dts := { s.dts with windowEnd := some (s.tick + c.winOfs + c.window) } }

/-- GATE_T opened and counted, and the shot's window set. -/
def State.shotGated (s : State) (c : DtsCfg) : State :=
  let s := s.gateOpens 1 c.pulse
  { s with dts := { s.dts with windowEnd := some (s.tick + c.winOfs + c.window) } }

/-- A clip of either lane counted (R188). -/
def State.clipsShown (s : State) (ra rst : List Nat) : State :=
  let s := if clipped ra then s.incF Reg.DTS_CLIP_RA else s
  if clipped rst then s.incF Reg.DTS_CLIP_RST else s

/-- The shot fired, its clips counted and its dark means shown. -/
def State.shotFired (s : State) (c : DtsCfg) (k : RamanCodes) : State :=
  (((s.shotGated c).clipsShown (firstCodes c.window k.ra) (firstCodes c.window k.rst)).showDark
    Reg.DTS_DARK_RA (firstCodes c.darkN k.darkRa)).showDark Reg.DTS_DARK_RST (firstCodes c.darkN k.darkRst)

/-- A gate that opens: its interval noted, and its opening counted in registers. -/
theorem State.gateOpens_eq (s : State) (g n : Nat) : ∃ w, s.gateOpens g n = { s with
    regs := w, src := { s.src with gates := vmod s.src.gates g (fun (x : Gate) => { x with start := s.tick, stop := s.tick + n }) } } :=
  State.set64_eq _ _ _ _ _

theorem State.shotGated_shown (s : State) (c : DtsCfg) : DtsShown (s.shotOpened c) (s.shotGated c) := by
  obtain ⟨w, hw⟩ := s.gateOpens_eq 1 c.pulse
  have hkept : (s.gateOpens 1 c.pulse).fld Reg.DTS_STATUS_STATE = s.fld Reg.DTS_STATUS_STATE := State.set64_fld_other _ (by decide) (by decide)
  rw [State.shotGated, hw]
  rw [hw] at hkept
  exact ⟨⟨w, s.free, rfl⟩, hkept⟩

theorem DtsShown.clipsShown (h : DtsShown s t) (ra rst : List Nat) : DtsShown s (t.clipsShown ra rst) := by
  have hra : DtsShown s (if clipped ra then t.incF Reg.DTS_CLIP_RA else t) := .ite (h.incF (by decide)) h
  exact .ite (hra.incF (by decide)) hra

theorem State.shotFired_shown (s : State) (c : DtsCfg) (k : RamanCodes) : DtsShown (s.shotOpened c) (s.shotFired c k) :=
  (((s.shotGated_shown c).clipsShown _ _).showDark (by decide)).showDark (by decide)

/-- The codes of shot `k` added into the accumulators of the present leg. -/
def Dts.withShot (t : Dts) (c : DtsCfg) (now : Nat) (k : RamanCodes) : Dts :=
  t.accumulate c now (firstCodes c.darkN k.darkRa) (firstCodes c.darkN k.darkRst) (firstCodes c.window k.ra) (firstCodes c.window k.rst)

theorem Dts.withShot_shots (t : Dts) (c : DtsCfg) (now : Nat) (k : RamanCodes) : (t.withShot c now k).shots = t.shots + 1 := by
  unfold Dts.withShot Dts.accumulate
  dsimp only
  split <;> rfl

/-- A shot in the forward leg. -/
theorem Dts.withShot_forward {t : Dts} (hf : t.reverse = false) (c : DtsCfg) (now : Nat) (k : RamanCodes) :
    t.withShot c now k = { t with
      shots := t.shots + 1, first := t.first.or (some now), last := now,
      clip := t.clip || clipped (firstCodes c.window k.ra) || clipped (firstCodes c.window k.rst),
      accRa := addPoints (2 ^ c.bin) c.points t.accRa (firstCodes c.window k.ra),
      accRst := addPoints (2 ^ c.bin) c.points t.accRst (firstCodes c.window k.rst),
      darkRa := t.darkRa + (firstCodes c.darkN k.darkRa).sum, darkRst := t.darkRst + (firstCodes c.darkN k.darkRst).sum } := by
  simp only [Dts.withShot, Dts.accumulate, hf, Bool.false_eq_true, if_false]

/-- A shot fires, and then is discarded, accumulated, or neither, by the state of the average. -/
theorem State.dtsShot_eq (s : State) (r : DtsRun) (c : DtsCfg) (k : RamanCodes) : let v := s.shotFired c k
    s.dtsShot r c k =
      if v.fld Reg.DTS_STATUS_STATE = dtsSkipping then
        ({ v with dts := { v.dts with skipLeft := v.dts.skipLeft - 1 } } : State).setF Reg.DTS_STATUS_STATE
          (if v.dts.skipLeft - 1 = 0 then dtsAveraging else dtsSkipping)
      else if v.fld Reg.DTS_STATUS_STATE = dtsAveraging ∧ v.dts.shots < 2 ^ r.l ∧ v.dts.closeEnd.all (fun e => decide (e + c.darkN ≤ v.tick)) then
        ({ v with dts := v.dts.withShot c v.now k } : State).setF Reg.DTS_SHOTS (v.dts.withShot c v.now k).shots
      else v := rfl

/-- A shot of a leg that is not complete, with no close behind it, is accumulated and counted. -/
theorem State.dtsShot_accumulates (hst : s.fld Reg.DTS_STATUS_STATE = dtsAveraging) (hn : s.dts.shots < 2 ^ r.l) (he : s.dts.closeEnd = none) :
    ∃ g f, s.dtsShot r c k = ({ s.shotOpened c with
      regs := g, free := f, dts := (s.shotOpened c).dts.withShot c s.now k } : State).setF Reg.DTS_SHOTS (s.dts.shots + 1) := by
  obtain ⟨⟨g, f, heq⟩, hstate⟩ := State.shotFired_shown s c k
  have haveraging : (s.shotFired c k).fld Reg.DTS_STATUS_STATE = dtsAveraging := hstate.trans hst
  have hdts : (s.shotFired c k).dts = (s.shotOpened c).dts := by rw [heq]
  have hnow : (s.shotFired c k).now = s.now := by rw [heq]; rfl
  have hskip : ¬ (s.shotFired c k).fld Reg.DTS_STATUS_STATE = dtsSkipping := by rw [haveraging]; decide
  have hshots : (s.shotFired c k).dts.shots < 2 ^ r.l := by rw [hdts]; exact hn
  have hclose : (s.shotFired c k).dts.closeEnd = none := by rw [hdts]; exact he
  refine ⟨g, f, ?_⟩
  rw [State.dtsShot_eq, if_neg hskip, if_pos ⟨haveraging, hshots, by rw [hclose]; rfl⟩, hdts, hnow, Dts.withShot_shots, heq]
  rfl

/-! ### RAMAN_SHOT (R190, R191) -/

/-- `s` at a shot instant: the handle's timer started again, and the instant noted. -/
def State.shotInstant (s : State) (r : DtsRun) : State :=
  { s.timersStart (r.handle.toList.map .handle) with dts := { s.dts with shotAt := some s.tick } }

theorem State.shotInstant_fld (r : DtsRun) (F : Field) (i : Nat) : (s.shotInstant r).fld F i = s.fld F i :=
  State.fld_congr _ _ (by simp [State.shotInstant])

theorem exec_ramanShot_early (hr : s.dts.run = some r) (hg : s.dts.cfg = some c) (hd : s.shotDue r c = false) : exec (.ramanShot k) s = .next s := by
  simp only [exec, execRamanShot, hr, hg, hd, Bool.not_false, if_true]

theorem exec_ramanShot_givenUp {e : Nat} (hr : s.dts.run = some r) (hg : s.dts.cfg = some c) (hd : s.shotDue r c = true)
    (he : s.dts.windowEnd = some e) (ht : s.tick < e + c.darkN) :
    exec (.ramanShot k) s = .next (({ s.shotInstant r with dts := { (s.shotInstant r).dts with skips := s.dts.skips + 1 } } : State).incF Reg.DTS_SKIP) := by
  simp [exec, execRamanShot, hr, hg, hd, he, ht, State.shotInstant]

theorem exec_ramanShot_fires (hr : s.dts.run = some r) (hg : s.dts.cfg = some c) (hd : s.shotDue r c = true) (he : s.dts.windowEnd = none) :
    exec (.ramanShot k) s = .next ((s.shotInstant r).dtsShot r c k) := by
  simp [exec, execRamanShot, hr, hg, hd, he, State.shotInstant]

theorem ramanShot_accumulates (hr : s.dts.run = some r) (hg : s.dts.cfg = some c) (hd : s.shotDue r c = true) (he : s.dts.windowEnd = none)
    (hce : s.dts.closeEnd = none) (hst : s.fld Reg.DTS_STATUS_STATE = dtsAveraging) (hn : s.dts.shots < 2 ^ r.l) (hf : s.dts.reverse = false)
    (hb : s.dts.shots + 1 < 2 ^ 23) :
    Answers (.ramanShot k) s (fun t => t.dts.shots = s.dts.shots + 1 ∧ t.fld Reg.DTS_SHOTS = s.dts.shots + 1 ∧
      t.dts.accRa = addPoints (2 ^ c.bin) c.points s.dts.accRa (firstCodes c.window k.ra) ∧
      t.dts.accRst = addPoints (2 ^ c.bin) c.points s.dts.accRst (firstCodes c.window k.rst) ∧
      t.dts.darkRa = s.dts.darkRa + (firstCodes c.darkN k.darkRa).sum ∧ t.dts.last = s.now ∧ t.dts.shotAt = some s.tick ∧
      t.dts.windowEnd = some (s.tick + c.winOfs + c.window) ∧ t.src.gates[1].start = s.tick ∧ t.src.gates[1].stop = s.tick + c.pulse ∧ t.mem = s.mem) := by
  have htick : (s.shotInstant r).tick = s.tick := State.timersStart_tick _ _
  have hnow : (s.shotInstant r).now = s.now := congrArg TimeBase.now (State.timersStart_tb _ _)
  have hmem : (s.shotInstant r).mem = s.mem := State.timersStart_mem _ _
  obtain ⟨g, f, hshot⟩ := State.dtsShot_accumulates (s := s.shotInstant r) (r := r) (c := c) (k := k)
    ((State.shotInstant_fld _ _ _).trans hst) hn hce
  rw [Dts.withShot_forward (t := ((s.shotInstant r).shotOpened c).dts) hf, hnow] at hshot
  refine ⟨_, (exec_ramanShot_fires hr hg hd he).trans (congrArg _ hshot), rfl, ?_, rfl, rfl, rfl, rfl, rfl, ?_, ?_, ?_, hmem⟩
  · rw [State.fld_setF_same]
    exact Nat.mod_eq_of_lt hb
  · rw [← htick]
    rfl
  · refine (congrArg Gate.start (vmod_getElem _ 1 _ (by decide))).trans htick
  · refine (congrArg Gate.stop (vmod_getElem _ 1 _ (by decide))).trans ?_
    rw [htick]

theorem ramanShot_givenUp {e : Nat} (hr : s.dts.run = some r) (hg : s.dts.cfg = some c) (hd : s.shotDue r c = true)
    (he : s.dts.windowEnd = some e) (ht : s.tick < e + c.darkN) :
    Answers (.ramanShot k) s (fun t => t.fld Reg.DTS_SKIP = (s.fld Reg.DTS_SKIP + 1) % 2 ^ 32 ∧
      t.dts = { s.dts with skips := s.dts.skips + 1, shotAt := some s.tick } ∧ t.src = s.src ∧ SameRegs [Reg.DTS_SKIP.key 0] s t ∧ t.mem = s.mem) := by
  have hregs : (s.shotInstant r).regs = s.regs := State.timersStart_regs _ _
  refine ⟨_, exec_ramanShot_givenUp hr hg hd he ht, ?_, rfl, State.timersStart_src _ _, ?_, State.timersStart_mem _ _⟩
  · rw [State.incF_eq, State.fld_setF_same]
    exact congrArg (fun n => (n + 1) % 2 ^ 32) (State.shotInstant_fld r _ _)
  · exact SameRegs.setF (t := ({ s.shotInstant r with dts := { (s.shotInstant r).dts with skips := s.dts.skips + 1 } } : State)) (.of_eq hregs) (by simp)

end Sys2Proof.Machine
end

section
/-! SUPPORT. The end of a Raman average (O22): the end of a leg, the slot marked as being written, and the close that completes it. -/

namespace Sys2Proof.Machine

variable {s t : State} {r : DtsRun} {c : DtsCfg}

/-! ### The end of a leg (R198) -/

/-- `s` with its reverse leg begun by its discards. -/
def State.legReversed (s : State) (c : DtsCfg) : State :=
  ((({ s with dts := { s.dts with dir := true, reverse := true, shots := 0, skipLeft := c.skip } } : State).setF
    Reg.DTS_STATUS_REVERSE 1).setF Reg.DTS_SHOTS 0).setF Reg.DTS_STATUS_STATE dtsSkipping

theorem exec_dtsLegEnd_forward (hr : s.dts.run = some r) (hg : s.dts.cfg = some c) (hd : c.dual = true) (hl : s.legOver r = true)
    (hf : s.dts.reverse = false) : exec .dtsLegEnd s = .next (s.legReversed c) := by
  simp only [exec, execDtsLegEnd, State.legReversed, hr, hg, hd, hl, hf, Bool.and_self, Bool.false_eq_true, if_true, if_false]

theorem State.legReversed_flds (s : State) (c : DtsCfg) : (s.legReversed c).fld Reg.DTS_STATUS_STATE = dtsSkipping ∧
    (s.legReversed c).fld Reg.DTS_STATUS_REVERSE = 1 ∧ (s.legReversed c).fld Reg.DTS_SHOTS = 0 := by
  unfold State.legReversed
  refine ⟨State.fld_setF_same _ _ _ _, ?_, ?_⟩
  · rw [State.fld_setF_other _ _ _ _ _ _ (by decide), State.fld_setF_other _ _ _ _ _ _ (by decide), State.fld_setF_same]
    rfl
  · rw [State.fld_setF_other _ _ _ _ _ _ (by decide), State.fld_setF_same]
    rfl

/-! ### The slot marked as being written (R193, R201) -/

/-- A run of bytes inside a string written reads as that part of the string. -/
theorem Memory.readN_writeN_part (m : Memory) (a : Nat) {bs : List Byte} {i n : Nat} (h : i + n ≤ bs.length) :
    (m.writeN a bs).readN (a + i) n = (bs.drop i).take n := by
  rw [← Memory.readN_part _ _ _ _ _ h, Memory.readN_writeN]

/-- A number written reads back, cut to its width. -/
theorem Memory.readLe_writeLe (m : Memory) (a n v : Nat) : (m.writeLe a n v).readLe a n = v % 256 ^ n := by
  have h := Memory.readN_writeN m a (leBytes n v)
  rw [leBytes_length] at h
  rw [Memory.readLe, Memory.writeLe, h, leNat_leBytes]

/-- `s` with the close of its average begun: the slot's sequence number marked, and no longer complete. -/
def State.closeBegun (s : State) (c : DtsCfg) : State :=
  let k := s.fld Reg.DTS_STATUS_SLOT
  (({ s with dts := { s.dts with dir := false, closeFrom := s.tick, doneA := s.dts.doneA && k != 0, doneB := s.dts.doneB && k != 1 },
             mem := { s.mem with firn := s.mem.firn.writeLe (c.slotOfs k + 4) 4 0xFFFFFFFF } } : State).setF
    Reg.DTS_STATUS_REVERSE 0).setF Reg.DTS_STATUS_STATE dtsClosing

theorem exec_dtsCloseStart_due (hr : s.dts.run = some r) (hg : s.dts.cfg = some c) (hd : c.dual = false) (hl : s.legOver r = true) :
    exec .dtsCloseStart s = .next (s.closeBegun c) := by
  simp only [exec, execDtsCloseStart, State.closeBegun, hr, hg, hd, hl, Bool.not_false, Bool.true_or, Bool.and_self, if_true]

/-! ### The bytes of a slot (R199) -/

/-- From `s` to `t` only the sequence of free values moves on. -/
def FreeMoved (s t : State) : Prop := ∃ f, t = { s with free := f }

theorem FreeMoved.refl (s : State) : FreeMoved s s := ⟨_, rfl⟩

theorem FreeMoved.trans {u : State} (h : FreeMoved s t) (k : FreeMoved t u) : FreeMoved s u := by
  obtain ⟨f, rfl⟩ := h
  obtain ⟨g, rfl⟩ := k
  exact ⟨g, rfl⟩

/-- The state that a pair holds, once the pair is taken apart. -/
theorem FreeMoved.snd {α : Type} {p : α × State} {a : α} (e : p = (a, t)) (h : FreeMoved s p.2) : FreeMoved s t := by
  subst e
  exact h

theorem FreeMoved.iteSnd {α : Type} {p : Prop} [Decidable p] {x y : α × State} (hx : FreeMoved s x.2) (hy : FreeMoved s y.2) :
    FreeMoved s (if p then x else y).2 := by
  split <;> assumption

theorem FreeMoved.freeRound (s : State) (a b : Int) : FreeMoved s (s.freeRound a b).2 := by
  unfold State.freeRound
  exact .iteSnd (.refl s) ⟨_, rfl⟩

theorem FreeMoved.invTemp (s : State) (m : Int) (n : Nat) : FreeMoved s (s.invTemp m n).2 := by
  unfold State.invTemp
  exact .iteSnd ⟨_, rfl⟩ (.refl s)

theorem FreeMoved.headMk (s : State) (m : Option (Int × Nat)) : FreeMoved s (s.headMk m).2 := by
  cases m with
  | some p => exact .freeRound s _ _
  | none => exact ⟨_, rfl⟩

theorem FreeMoved.coilLn (s : State) (c : DtsCfg) (u : DtsSums) (first count : Nat) : FreeMoved s (s.coilLn c u first count).2 := by
  unfold State.coilLn
  split
  · exact .refl s
  · exact ⟨_, rfl⟩

/-- The bytes of a result slot, made in `s`, begin with its magic number and the count of the average, and only the sequence of free values moves on. -/
def SlotOf (s : State) (p : (List Byte × Bool) × State) : Prop :=
  FreeMoved s p.2 ∧ ∃ rest, p.1.1 = leBytes 4 0x52534452 ++ (leBytes 4 (s.dts.done + 1) ++ rest)

theorem State.dtsSlot_of (s : State) (c : DtsCfg) (l : Nat) : SlotOf s (s.dtsSlot c l) := by
  unfold State.dtsSlot
  extract_lets u
  split
  rename_i s₁ e₁
  have h₁ : FreeMoved s s₁ := .snd e₁ (.coilLn s _ _ _ _)
  split
  rename_i s₂ e₂
  have h₂ : FreeMoved s s₂ := h₁.trans (.snd e₂ (.coilLn s₁ _ _ _ _))
  extract_lets t1 t2 refBad
  split
  split
  rename_i s₃ e₃
  have h₃ : FreeMoved s s₃ := h₂.trans (.snd e₃ (.invTemp s₂ _ _))
  split
  rename_i s₄ e₄
  have h₄ : FreeMoved s s₄ := h₃.trans (.snd e₄ (.invTemp s₃ _ _))
  split
  extract_lets fit
  split
  rename_i s₅ e₅
  have h₅ : FreeMoved s s₅ := h₄.trans (.snd e₅ (.headMk s₄ _))
  split
  rename_i s₆ e₆
  have h₆ : FreeMoved s s₆ := h₅.trans (.snd e₆ (.iteSnd (.refl s₅) (.headMk s₅ _)))
  split
  rename_i s₇ e₇
  have h₇ : FreeMoved s s₇ := h₆.trans (.snd e₇ (.iteSnd (.headMk s₆ _) (.iteSnd (.refl s₆) (.freeRound s₆ _ _))))
  extract_lets flags head
  have hdone : s₇.dts.done = s.dts.done := by
    obtain ⟨f, hf⟩ := h₇
    rw [hf]
  refine ⟨h₇, ?_⟩
  simp only [head, withCrc, hdone, List.append_assoc]
  exact ⟨_, rfl⟩

end Sys2Proof.Machine
end

section
/-! SUPPORT. The end of the close of a Raman average (O22): the slot written, the average counted, and the single average ended. -/

namespace Sys2Proof.Machine

variable {s t : State} {r : DtsRun} {c : DtsCfg} {h : Nat}

/-! ### The slot written and counted (R193, R201) -/

/-- `s` with the bytes of slot `k` in place, the average counted, and DTS_DONE pulsed. -/
def State.slotClosed (s : State) (c : DtsCfg) (k : Nat) (bytes : List Byte) (refBad : Bool) : State :=
  let n := s.dts.done + 1
  let s := { s with mem := { s.mem with firn := s.mem.firn.writeN (c.slotOfs k) bytes },
                    dts := { s.dts.cleared with done := n, closeEnd := some s.tick, newest := some k, doneA := s.dts.doneA || k == 0,
                                                doneB := s.dts.doneB || k == 1, skipLeft := if c.dual then c.skip else 0 } }
  ((((s.setF Reg.DTS_SEQ n).setB Reg.DTS_STATUS_REF_BAD refBad).setF Reg.DTS_STATUS_SLOT (if c.slots = 2 then 1 - k else 0)).setF
    Reg.DTS_SHOTS 0).pulse 0xC0

theorem State.slotClosed_seq (k : Nat) (bytes : List Byte) (b : Bool) :
    (s.slotClosed c k bytes b).fld Reg.DTS_SEQ = (s.dts.done + 1) % 2 ^ 32 := by
  rw [State.slotClosed, State.pulse_fld, State.setB_eq, State.fld_setF_other _ _ _ _ _ _ (by decide), State.fld_setF_other _ _ _ _ _ _ (by decide),
    State.fld_setF_other _ _ _ _ _ _ (by decide), State.fld_setF_same]
  rfl

theorem State.slotClosed_slot (k : Nat) (bytes : List Byte) (b : Bool) :
    (s.slotClosed c k bytes b).fld Reg.DTS_STATUS_SLOT = if c.slots = 2 then 1 - k else 0 := by
  rw [State.slotClosed, State.pulse_fld, State.fld_setF_other _ _ _ _ _ _ (by decide), State.fld_setF_same]
  refine Nat.mod_eq_of_lt ?_
  split
  · exact (Nat.sub_le 1 k).trans_lt (by decide)
  · decide

theorem State.slotClosed_firn (k : Nat) (bytes : List Byte) (b : Bool) :
    (s.slotClosed c k bytes b).mem.firn = s.mem.firn.writeN (c.slotOfs k) bytes := rfl

/-- The first two numbers of a string written read back. -/
theorem Memory.readLe_writeN_head (m : Memory) (o a b : Nat) (rest : List Byte) :
    (m.writeN o (leBytes 4 a ++ (leBytes 4 b ++ rest))).readLe o 4 = a % 2 ^ 32 ∧
      (m.writeN o (leBytes 4 a ++ (leBytes 4 b ++ rest))).readLe (o + 4) 4 = b % 2 ^ 32 := by
  have hpart {i n : Nat} (hi : i + n ≤ 8) := Memory.readN_writeN_part m o (bs := leBytes 4 a ++ (leBytes 4 b ++ rest)) (i := i) (n := n)
    (by simp only [List.length_append, leBytes_length]; omega)
  have hfirst := hpart (i := 0) (n := 4) (by decide)
  have hsecond := hpart (i := 4) (n := 4) (by decide)
  rw [Nat.add_zero, List.drop_zero, List.take_left' (leBytes_length 4 a)] at hfirst
  rw [List.drop_left' (leBytes_length 4 a), List.take_left' (leBytes_length 4 b)] at hsecond
  rw [Memory.readLe, Memory.readLe, hfirst, hsecond, leNat_leBytes, leNat_leBytes]
  exact ⟨rfl, rfl⟩

/-! ### The single average ended (R202) -/

/-- No average runs any more. -/
def State.dtsRested (s : State) : State :=
  ({ s with dts := { s.dts with run := none, skipLeft := 0 } } : State).setF Reg.DTS_STATUS_STATE dtsIdle

/-- The PROGRESS entry of average `n` in slot `k`, and the end of its run. -/
def State.dtsFinished (s : State) (h n k : Nat) : State := (s.progress h n k).dtsRested.complete h stOk 0 1 0

theorem State.progress_mem (i a b : Nat) (hs : s.pw.standalone = false) : (s.progress i a b).mem = s.mem := by
  unfold State.progress
  split
  · rfl
  · split
    · rfl
    · rw [State.cqForm_mem _ _ _ (by simpa using hs), State.timerStart_mem, State.accept, State.acceptWith_mem _ _ _ hs]

theorem State.dtsFinished_dts (n k : Nat) : (s.dtsFinished h n k).dts = { s.dts with run := none, skipLeft := 0 } := by
  rw [State.dtsFinished, State.complete_dts, State.dtsRested, State.setF_dts, State.progress_dts]

theorem State.dtsFinished_pulses (n k : Nat) : (s.dtsFinished h n k).pulses = s.pulses := by
  rw [State.dtsFinished, State.complete_pulses, State.dtsRested, State.setF_pulses, State.progress_pulses]

section
variable (hs : s.pw.standalone = false)
include hs

theorem State.dtsRested_card (n k : Nat) : (s.progress h n k).dtsRested.pw.standalone = false :=
  (congrArg Power.standalone (State.progress_pw s h n k)).trans hs

theorem State.dtsFinished_mem (n k : Nat) : (s.dtsFinished h n k).mem = s.mem := by
  rw [State.dtsFinished, State.complete_mem _ _ _ _ _ (State.dtsRested_card hs n k), State.dtsRested, State.setF_mem, State.progress_mem _ _ _ hs]

theorem State.dtsFinished_state (n k : Nat) : (s.dtsFinished h n k).fld Reg.DTS_STATUS_STATE = dtsIdle := by
  rw [State.dtsFinished, State.complete_fld _ _ _ _ _ _ ⟨.inr (by decide), .inl (State.dtsRested_card hs n k)⟩, State.dtsRested, State.fld_setF_same]
  rfl

/-- A field outside the queue engines, other than the state shown, is left. -/
theorem State.dtsFinished_fld (n k : Nat) {G : Field} (hG : Field.notHqe (G.key 0)) (hne : Reg.DTS_STATUS_STATE.key 0 ≠ G.key 0) :
    (s.dtsFinished h n k).fld G = s.fld G := by
  rw [State.dtsFinished, State.complete_fld _ _ _ _ _ _ ⟨hG, .inl (State.dtsRested_card hs n k)⟩, State.dtsRested,
    State.fld_setF_other _ _ _ _ _ _ hne]
  exact State.progress_fld _ _ _ _ ⟨hG, .inl hs⟩

end

/-! ### DTS_CLOSE_END (R193, R199, R201, R202) -/

/-- The close of a single average that has a handle, and that no DTS_READ waits for. -/
theorem exec_dtsCloseEnd_single (hr : s.dts.run = some r) (hg : s.dts.cfg = some c) (hh : r.handle = some h) (hc : r.cont = false)
    (hw : s.dts.waiting = []) (hst : s.fld Reg.DTS_STATUS_STATE = dtsClosing) (ht : s.dts.closeFrom + c.closeTicks ≤ s.tick) :
    exec .dtsCloseEnd s = .next (((s.dtsSlot c r.l).2.slotClosed c (s.fld Reg.DTS_STATUS_SLOT) (s.dtsSlot c r.l).1.1
      (s.dtsSlot c r.l).1.2).dtsFinished h (s.dts.done + 1) (s.fld Reg.DTS_STATUS_SLOT)) := by
  have hnot : ¬ (s.fld Reg.DTS_STATUS_STATE ≠ dtsClosing ∨ s.tick < s.dts.closeFrom + c.closeTicks) := by
    rw [not_or, not_not]
    exact ⟨hst, Nat.not_lt.mpr ht⟩
  obtain ⟨⟨f, hf⟩, -⟩ := s.dtsSlot_of c r.l
  rcases e : s.dtsSlot c r.l with ⟨⟨bytes, refBad⟩, v⟩
  rw [e] at hf
  dsimp only at hf
  have hserve : (v.slotClosed c (s.fld Reg.DTS_STATUS_SLOT) bytes refBad).dtsServe = v.slotClosed c (s.fld Reg.DTS_STATUS_SLOT) bytes refBad := by
    refine State.dtsServe_none ?_
    rw [hf]
    exact hw
  have hdone : v.dts.done = s.dts.done := by rw [hf]
  rw [State.dtsFinished, ← hserve, ← hdone]
  simp only [exec, execDtsCloseEnd, hr, hg, hh, hc, e, if_neg hnot, Bool.false_eq_true, if_false]
  rfl

theorem dtsCloseEnd_single (hr : s.dts.run = some r) (hg : s.dts.cfg = some c) (hh : r.handle = some h) (hc : r.cont = false)
    (hw : s.dts.waiting = []) (hst : s.fld Reg.DTS_STATUS_STATE = dtsClosing) (ht : s.dts.closeFrom + c.closeTicks ≤ s.tick)
    (hs : s.pw.standalone = false) :
    Answers .dtsCloseEnd s (fun t => t.dts.run = none ∧ t.dts.done = s.dts.done + 1 ∧ t.fld Reg.DTS_SEQ = (s.dts.done + 1) % 2 ^ 32 ∧
      t.fld Reg.DTS_STATUS_STATE = dtsIdle ∧ t.fld Reg.DTS_STATUS_SLOT = (if c.slots = 2 then 1 - s.fld Reg.DTS_STATUS_SLOT else 0) ∧
      t.pulses = s.pulses ++ [0xC0] ∧ t.dts.newest = some (s.fld Reg.DTS_STATUS_SLOT) ∧ t.ended h ∧
      t.mem.firn.readLe (c.slotOfs (s.fld Reg.DTS_STATUS_SLOT)) 4 = 0x52534452 ∧
      t.mem.firn.readLe (c.slotOfs (s.fld Reg.DTS_STATUS_SLOT) + 4) 4 = (s.dts.done + 1) % 2 ^ 32) := by
  have hrun := exec_dtsCloseEnd_single hr hg hh hc hw hst ht
  obtain ⟨⟨f, hf⟩, rest, hbytes⟩ := s.dtsSlot_of c r.l
  rw [hf, hbytes] at hrun
  generalize hu : State.slotClosed _ c _ _ _ = u at hrun
  have hcard : u.pw.standalone = false := by rw [← hu]; exact hs
  refine ⟨_, hrun, ?_, ?_, ?_, State.dtsFinished_state hcard _ _, ?_, ?_, ?_, State.complete_ended _ _ _ _ _, ?_⟩
  · rw [State.dtsFinished_dts]
  · rw [State.dtsFinished_dts, ← hu]
    rfl
  · rw [State.dtsFinished_fld hcard _ _ (.inr (by decide)) (by decide), ← hu, State.slotClosed_seq]
  · rw [State.dtsFinished_fld hcard _ _ (.inr (by decide)) (by decide), ← hu, State.slotClosed_slot]
  · rw [State.dtsFinished_pulses, ← hu]
    rfl
  · rw [State.dtsFinished_dts, ← hu]
    rfl
  · rw [State.dtsFinished_mem hcard, ← hu, State.slotClosed_firn]
    exact Memory.readLe_writeN_head _ _ _ _ _

/-! ### Settled -/

/-- Settles O22, event by event: the shot accumulated, given up or early, the forward leg over, the close begun, and its end. -/
theorem ramanAverages : Obligations.RamanAverages := by
  unfold Obligations.RamanAverages
  refine ⟨?_, ?_, ?_, ?_, ?_, ?_⟩
  · intro s k r c hr hg hd he hce hst hn hf hb
    exact ramanShot_accumulates hr hg hd he hce hst hn hf hb
  · intro s k r c e hr hg hd he ht
    exact ramanShot_givenUp hr hg hd he ht
  · intro s r c hr hg hd hl hf
    obtain ⟨hstate, hrev, hshots⟩ := s.legReversed_flds c
    exact ⟨_, exec_dtsLegEnd_forward hr hg hd hl hf, rfl, hstate, hrev, hshots, rfl⟩
  · intro s r c hr hg hd hl _
    refine ⟨_, exec_dtsCloseStart_due hr hg hd hl, State.fld_setF_same _ _ _ _, rfl, Memory.readLe_writeLe _ _ _ _, rfl, fun a ha => ?_⟩
    exact Memory.read_writeN_other _ _ _ _ (by rwa [leBytes_length])
  · intro s r c h hr hg hh hc hw hst ht hs _
    exact dtsCloseEnd_single hr hg hh hc hw hst ht hs
  · intro s r c k hr hg hd
    exact ⟨s, exec_ramanShot_early hr hg hd, rfl⟩

end Sys2Proof.Machine
end

section
/-! SUPPORT. The commands of the sequencer (O23): a program whose COND does not fit its register, and what the loaded register shows. -/

namespace Sys2Proof.Machine

open Sys2Proof.Tests

/-- A program of one gate whose COND sets bit 22, above the 22 bits of SLM_GATE_COND. -/
def wideProgram : List Byte := program.take 16 ++ leBytes 4 0x4000E6 ++ program.drop 20

/-- SLM_LOAD names the COND of that gate as its first bad field (R210). -/
theorem wideProgram_bad : programBad wideProgram 1 = some 16 := by decide +kernel

/-- The field of the program is wider than the register. -/
theorem wideProgram_cond : field wideProgram 16 4 = 0x4000E6 := by decide +kernel

/-- Refutes O23: its clause on a loaded program takes every byte string, one that `programBad` refuses too; a COND of 32 bits is cut to the 22 of SLM_GATE_COND, so the register of gate 0 does not show the program's word. -/
theorem not_sequencerCommands : ¬ Obligations.SequencerCommands := by
  unfold Obligations.SequencerCommands
  rintro ⟨-, -, loaded, -⟩
  obtain ⟨-, -, -, gates, -⟩ := loaded run wideProgram 1
  obtain ⟨hcond, -⟩ := gates 0 (by decide)
  have hlt := State.fld_lt (run.loadProgram wideProgram 1) Reg.SLM_GATE_COND 0
  have hword : (run.loadProgram wideProgram 1).fld Reg.SLM_GATE_COND 0 = 0x4000E6 := hcond.trans wideProgram_cond
  rw [hword] at hlt
  exact absurd hlt (by decide)

end Sys2Proof.Machine
end

section
/-! SUPPORT. The events of the sequencer fabric (O24): gates left and entered, what a gate's actions show, pins and periodic timers, and the edges of LIFT_FIRE. -/

namespace Sys2Proof.Machine

variable {s : State}

/-! ### The gate left and the gate entered (R212) -/

theorem State.leaveGate_eq : ∃ r, s.leaveGate = { s with regs := r } := by
  unfold State.leaveGate
  dsimp only
  split <;> exact ⟨_, rfl⟩

theorem State.leaveGate_fld {G : Field} {j : Nat} (hc : Reg.SLM_GATE_CNT.apart G = true) (ht : Reg.SLM_GATE_TMR.apart G = true) :
    s.leaveGate.fld G j = s.fld G j := by
  unfold State.leaveGate
  dsimp only
  split
  · rw [State.fld_setF_apart ht, State.fld_setF_apart hc]
  · rfl

/-- The fields that show the active gate. -/
def gateFields : List Field := [Reg.SLM_STATUS_GATE, Reg.SLM_GATE_CNT, Reg.SLM_GATE_TMR]

/-- `t` is `s` with gate `n` become active: counter 0, the timer at TIMER, evaluation from the next tick. -/
structure GateEntered (s t : State) (n : Nat) : Prop where
  gate : t.fld Reg.SLM_STATUS_GATE = n
  counter : t.fld Reg.SLM_GATE_CNT n = 0
  timer : t.fld Reg.SLM_GATE_TMR n = s.fld Reg.SLM_GATE_TIMER n
  fld : ∀ (G : Field) (j : Nat), gateFields.all (·.apart G) = true → t.fld G j = s.fld G j
  rest : ∃ r, t = { s with slm := { s.slm with entered := true }, regs := r }

theorem State.enterGate_entered {n : Nat} (hn : n < 16) : GateEntered s (s.enterGate n) n where
  gate := by
    rw [State.enterGate, State.fld_setF_apart rfl, State.fld_setF_apart rfl, State.fld_setF_same]
    exact Nat.mod_eq_of_lt (hn.trans (by decide))
  counter := by rw [State.enterGate, State.fld_setF_apart rfl, State.fld_setF_same, Nat.zero_mod]
  timer := by
    rw [State.enterGate, State.fld_setF_same]
    exact Nat.mod_eq_of_lt (State.fld_lt s Reg.SLM_GATE_TIMER n)
  fld := fun G j h => by
    simp only [gateFields, List.all_cons, List.all_nil, Bool.and_true, Bool.and_eq_true] at h
    obtain ⟨hg, hc, ht⟩ := h
    rw [State.enterGate, State.fld_setF_apart ht, State.fld_setF_apart hc, State.fld_setF_apart hg]
    rfl
  rest := ⟨_, rfl⟩

/-- A successor that is no END takes over. -/
theorem State.goGate_entered {n : Nat} (hn : n < 16) : GateEntered s (s.goGate n) n := by
  have he := State.enterGate_entered (s := s.leaveGate) hn
  rw [State.goGate, if_pos hn]
  refine ⟨he.gate, he.counter, he.timer.trans (State.leaveGate_fld rfl rfl), fun G j h => ?_, ?_⟩
  · rw [he.fld G j h]
    simp only [gateFields, List.all_cons, List.all_nil, Bool.and_true, Bool.and_eq_true] at h
    exact State.leaveGate_fld h.2.1 h.2.2
  · obtain ⟨r, hr⟩ := s.leaveGate_eq
    obtain ⟨q, hq⟩ := he.rest
    exact ⟨q, by rw [hq, hr]⟩

/-! ### Actions (R213) -/

/-- A value set in two words of one place reads back there (R73). -/
theorem State.fld64_set64_at {lo hi : Field} {v i : Nat} (hlo : lo.width = 32) (hhi : hi.width = 32) (ha : hi.apart lo = true) (hv : v < 2 ^ 64) :
    (s.set64 lo hi v i).fld64 lo hi i = v := by
  have hl : (s.set64 lo hi v i).fld lo i = v % 2 ^ 32 := by rw [State.set64, State.fld_setF_apart ha, State.fld_setF_same, hlo]
  have hh : (s.set64 lo hi v i).fld hi i = v / 2 ^ 32 % 2 ^ 32 := by rw [State.set64, State.fld_setF_same, hhi]
  rw [State.fld64, hl, hh]
  omega

theorem State.set64_fld_apart {lo hi G : Field} {v i j : Nat} (hlo : lo.apart G = true) (hhi : hi.apart G = true) :
    (s.set64 lo hi v i).fld G j = s.fld G j := by
  rw [State.set64, State.fld_setF_apart hhi, State.fld_setF_apart hlo]

/-- `s` with MARK of gate `g` performed where its ACT asks for it. -/
def State.gateMarked (s : State) (g : Nat) : State :=
  if bit (s.fld Reg.SLM_GATE_ACT g) 3 then (s.pulse (0xD0 + g)).set64 Reg.SLM_GATE_MARK_LO Reg.SLM_GATE_MARK_HI s.now g else s

/-- A gate that neither fires nor arms performs MARK and COUNT alone. -/
theorem State.gateActions_quiet {g : Nat} (ha : s.fld Reg.SLM_GATE_ACT g % 4 = 0) :
    s.gateActions g = if bit (s.fld Reg.SLM_GATE_ACT g) 2 then (s.gateMarked g).incF Reg.SLM_GATE_HITS g else s.gateMarked g := by
  have harm : bit (s.fld Reg.SLM_GATE_ACT g) 1 = false := by
    simp only [bit, beq_eq_false_iff_ne]
    omega
  have hfire : bit (s.fld Reg.SLM_GATE_ACT g) 0 = false := by
    simp only [bit, beq_eq_false_iff_ne]
    omega
  simp only [State.gateActions, harm, hfire, Bool.false_and, Bool.false_eq_true, if_false]
  rfl

theorem State.gateMarked_eq (g : Nat) : ∃ r p, s.gateMarked g = { s with regs := r, pulses := p } := by
  unfold State.gateMarked
  split <;> exact ⟨_, _, rfl⟩

theorem State.gateMarked_fld {g : Nat} {G : Field} {j : Nat} (hlo : Reg.SLM_GATE_MARK_LO.apart G = true) (hhi : Reg.SLM_GATE_MARK_HI.apart G = true) :
    (s.gateMarked g).fld G j = s.fld G j := by
  unfold State.gateMarked
  split
  · rw [State.set64_fld_apart hlo hhi, State.pulse_fld]
  · rfl

theorem State.gateMarked_mark (g : Nat) (hnow : s.now < 2 ^ 64) : (s.gateMarked g).fld64 Reg.SLM_GATE_MARK_LO Reg.SLM_GATE_MARK_HI g =
    if bit (s.fld Reg.SLM_GATE_ACT g) 3 then s.now else s.fld64 Reg.SLM_GATE_MARK_LO Reg.SLM_GATE_MARK_HI g := by
  unfold State.gateMarked
  split
  · exact State.fld64_set64_at rfl rfl rfl hnow
  · rfl

theorem State.gateMarked_pulses (g : Nat) : (s.gateMarked g).pulses = s.pulses ++ if bit (s.fld Reg.SLM_GATE_ACT g) 3 then [0xD0 + g] else [] := by
  unfold State.gateMarked
  split
  · rw [State.set64_pulses]
    rfl
  · rw [List.append_nil]

/-- `t` is `s` with MARK and COUNT of gate `g` performed where its ACT asks for them. -/
structure GateActed (s t : State) (g : Nat) : Prop where
  mark : t.fld64 Reg.SLM_GATE_MARK_LO Reg.SLM_GATE_MARK_HI g =
    if bit (s.fld Reg.SLM_GATE_ACT g) 3 then s.now else s.fld64 Reg.SLM_GATE_MARK_LO Reg.SLM_GATE_MARK_HI g
  hits : t.fld Reg.SLM_GATE_HITS g = (s.fld Reg.SLM_GATE_HITS g + if bit (s.fld Reg.SLM_GATE_ACT g) 2 then 1 else 0) % 2 ^ 32
  timer : ∀ n, t.fld Reg.SLM_GATE_TIMER n = s.fld Reg.SLM_GATE_TIMER n
  pulses : t.pulses = s.pulses ++ if bit (s.fld Reg.SLM_GATE_ACT g) 3 then [0xD0 + g] else []
  slm : t.slm = s.slm
  mem : t.mem = s.mem

theorem State.gateActions_acted {g : Nat} (ha : s.fld Reg.SLM_GATE_ACT g % 4 = 0) (hnow : s.now < 2 ^ 64) : GateActed s (s.gateActions g) g := by
  have hmark := s.gateMarked_mark g hnow
  have hslm : (s.gateMarked g).slm = s.slm ∧ (s.gateMarked g).mem = s.mem := by
    obtain ⟨r, p, h⟩ := s.gateMarked_eq g
    rw [h]
    exact ⟨rfl, rfl⟩
  rw [State.gateActions_quiet ha]
  split
  next hc =>
    refine ⟨?_, ?_, fun n => ?_, s.gateMarked_pulses g, hslm.1, hslm.2⟩
    · rw [State.incF_eq, State.fld64, State.fld_setF_apart rfl, State.fld_setF_apart rfl]
      exact hmark
    · rw [State.incF_eq, State.fld_setF_same, State.gateMarked_fld rfl rfl, if_pos hc]
      rfl
    · rw [State.incF_eq, State.fld_setF_apart rfl, State.gateMarked_fld rfl rfl]
  next hc =>
    refine ⟨hmark, ?_, fun n => State.gateMarked_fld rfl rfl, s.gateMarked_pulses g, hslm.1, hslm.2⟩
    rw [State.gateMarked_fld rfl rfl, if_neg hc, Nat.add_zero]
    exact (Nat.mod_eq_of_lt (State.fld_lt s Reg.SLM_GATE_HITS g)).symm

/-! ### Matches and timeouts (R212) -/

/-- A match brings the counter of the active gate to COUNT_N. -/
theorem exec_gateMatchComplete_due {g : Nat} (hg : g < 16) (ha : s.on Reg.SLM_STATUS_ARMED = true) (he : s.slm.entered = false)
    (hs : s.fld Reg.SLM_STATUS_GATE = g) (hc : s.fld Reg.SLM_GATE_COUNT g ≤ s.fld Reg.SLM_GATE_CNT g + 1) :
    exec .gateMatchComplete s = .next ((s.gateActions g).goGate (s.fld Reg.SLM_GATE_NEXT g % 32)) := by
  simp only [exec, execGateMatchComplete, State.gateDone, hs, he, ha, hg, Nat.not_lt.mpr hc, decide_true, decide_false, Bool.or_self, Bool.and_self,
    Bool.false_eq_true, if_false, if_true]

/-- The timer of the active gate is in its last tick. -/
theorem exec_gateTimeout_due {g : Nat} (hg : g < 16) (ha : s.on Reg.SLM_STATUS_ARMED = true) (he : s.slm.entered = false)
    (hs : s.fld Reg.SLM_STATUS_GATE = g) (ht : s.on Reg.SLM_GATE_TIMER g = true) (hl : s.fld Reg.SLM_GATE_TMR g ≤ 1) :
    exec .gateTimeout s = .next (s.goGate (bits (s.fld Reg.SLM_GATE_NEXT g) 12 8)) := by
  simp only [exec, execGateTimeout, State.gateTimedOut, hs, he, ha, ht, hg, Nat.not_lt.mpr hl, decide_true, decide_false, Bool.or_self, Bool.and_self,
    Bool.false_eq_true, if_false, if_true]

theorem exec_gateMatchComplete_entered (he : s.slm.entered = true) : exec .gateMatchComplete s = .next s := by
  simp only [exec, execGateMatchComplete, he, Bool.true_or, if_true]

theorem exec_gateTimeout_entered (he : s.slm.entered = true) : exec .gateTimeout s = .next s := by
  simp only [exec, execGateTimeout, he, Bool.true_or, if_true]

theorem gateMatchComplete_enters {g n : Fin 16} (ha : s.on Reg.SLM_STATUS_ARMED = true) (he : s.slm.entered = false)
    (hs : s.fld Reg.SLM_STATUS_GATE = g.val) (hc : s.fld Reg.SLM_GATE_COUNT g ≤ s.fld Reg.SLM_GATE_CNT g + 1) (hact : s.fld Reg.SLM_GATE_ACT g % 4 = 0)
    (hn : s.fld Reg.SLM_GATE_NEXT g % 32 = n.val) (hnow : s.now < 2 ^ 64) :
    Answers .gateMatchComplete s (fun t => t.fld Reg.SLM_STATUS_GATE = n.val ∧ t.fld Reg.SLM_GATE_CNT n = 0 ∧
      t.fld Reg.SLM_GATE_TMR n = s.fld Reg.SLM_GATE_TIMER n ∧
      t.fld64 Reg.SLM_GATE_MARK_LO Reg.SLM_GATE_MARK_HI g = (if bit (s.fld Reg.SLM_GATE_ACT g) 3 then s.now else s.fld64 Reg.SLM_GATE_MARK_LO Reg.SLM_GATE_MARK_HI g) ∧
      t.fld Reg.SLM_GATE_HITS g = (s.fld Reg.SLM_GATE_HITS g + (if bit (s.fld Reg.SLM_GATE_ACT g) 2 then 1 else 0)) % 2 ^ 32 ∧
      t.pulses = s.pulses ++ (if bit (s.fld Reg.SLM_GATE_ACT g) 3 then [0xD0 + g.val] else []) ∧ t.slm.caps = s.slm.caps ∧ t.mem = s.mem) := by
  have hacted := State.gateActions_acted hact hnow
  have hent := State.goGate_entered (s := s.gateActions g) n.isLt
  have hcaps := congrArg Slm.caps hacted.slm
  obtain ⟨r, hr⟩ := hent.rest
  refine ⟨_, exec_gateMatchComplete_due g.isLt ha he hs hc, ?_⟩
  rw [hn]
  refine ⟨hent.gate, hent.counter, hent.timer.trans (hacted.timer n), ?_, (hent.fld _ _ rfl).trans hacted.hits, ?_, ?_, ?_⟩
  · rw [State.fld64, hent.fld _ _ rfl, hent.fld _ _ rfl]
    exact hacted.mark
  all_goals rw [hr]
  · exact hacted.pulses
  · exact hcaps
  · exact hacted.mem

theorem gateMatchComplete_ends {g : Fin 16} (ha : s.on Reg.SLM_STATUS_ARMED = true) (he : s.slm.entered = false) (hs : s.fld Reg.SLM_STATUS_GATE = g.val)
    (hc : s.fld Reg.SLM_GATE_COUNT g ≤ s.fld Reg.SLM_GATE_CNT g + 1) (hact : s.fld Reg.SLM_GATE_ACT g = 0)
    (hn : s.fld Reg.SLM_GATE_NEXT g % 32 = 0x1F) : exec .gateMatchComplete s = .next (s.disarm stOk 0) := by
  have hquiet : s.gateActions g = s := by
    rw [State.gateActions_quiet (by rw [hact]), State.gateMarked, hact]
    rfl
  rw [exec_gateMatchComplete_due g.isLt ha he hs hc, hn, hquiet]
  rfl

theorem gateTimeout_enters {g n : Fin 16} (ha : s.on Reg.SLM_STATUS_ARMED = true) (he : s.slm.entered = false) (hs : s.fld Reg.SLM_STATUS_GATE = g.val)
    (ht : s.on Reg.SLM_GATE_TIMER g = true) (hl : s.fld Reg.SLM_GATE_TMR g ≤ 1) (hn : bits (s.fld Reg.SLM_GATE_NEXT g) 12 8 = n.val) :
    Answers .gateTimeout s (fun t => t.fld Reg.SLM_STATUS_GATE = n.val ∧ t.fld Reg.SLM_GATE_CNT n = 0 ∧ t.fld Reg.SLM_GATE_TMR n = s.fld Reg.SLM_GATE_TIMER n ∧
      t.fld Reg.SLM_GATE_HITS g = s.fld Reg.SLM_GATE_HITS g ∧ t.pulses = s.pulses ∧ t.slm.caps = s.slm.caps ∧ t.hq = s.hq ∧ t.mem = s.mem) := by
  have hent := State.goGate_entered (s := s) n.isLt
  obtain ⟨r, hr⟩ := hent.rest
  refine ⟨_, exec_gateTimeout_due g.isLt ha he hs ht hl, ?_⟩
  rw [hn]
  refine ⟨hent.gate, hent.counter, hent.timer, hent.fld _ _ rfl, ?_⟩
  rw [hr]
  exact ⟨rfl, rfl, rfl, rfl⟩

/-! ### Pins (R208) -/

/-- A bit taken off a number leaves the others. -/
theorem testBit_sub_and_two_pow (x k i : Nat) : (x - (x &&& 2 ^ k)).testBit i = (x.testBit i && decide (i ≠ k)) := by
  have hlow : x % 2 ^ k < 2 ^ k := Nat.mod_lt _ (Nat.two_pow_pos k)
  have hx : x = 2 ^ k * (x / 2 ^ k) + x % 2 ^ k := (Nat.div_add_mod x (2 ^ k)).symm
  have hcut : x - (x &&& 2 ^ k) = 2 ^ k * (2 * (x / 2 ^ k / 2)) + x % 2 ^ k := by
    have hhalf : 2 ^ k * (x / 2 ^ k) = 2 ^ k * (2 * (x / 2 ^ k / 2)) + x / 2 ^ k % 2 * 2 ^ k := by
      rw [Nat.mul_comm (x / 2 ^ k % 2), ← Nat.mul_add, Nat.div_add_mod]
    rw [Nat.and_two_pow, Nat.toNat_testBit]
    omega
  rw [hcut, Nat.testBit_two_pow_mul_add _ hlow]
  conv_rhs => rw [hx, Nat.testBit_two_pow_mul_add _ hlow]
  rcases Nat.lt_trichotomy i k with h | h | h
  · simp [h, h.ne]
  · simp [h]
  · obtain ⟨j, rfl⟩ := Nat.exists_eq_add_of_lt h
    rw [if_neg (by omega), if_neg (by omega), show k + j + 1 - k = j + 1 by omega, Nat.testBit_add_one, Nat.testBit_add_one,
      Nat.mul_div_cancel_left _ (by decide)]
    simp
    omega

/-- The pins with one of them at a level. -/
theorem testBit_setPin (pins : Nat) (pin : Fin 16) (l : Bool) (i : Nat) :
    (if l then pins ||| 2 ^ pin.val else pins - (pins &&& 2 ^ pin.val)).testBit i = if i = pin.val then l else pins.testBit i := by
  cases l with
  | false =>
    rw [if_neg Bool.false_ne_true, testBit_sub_and_two_pow]
    by_cases h : i = pin.val <;> simp [h]
  | true =>
    rw [if_pos rfl, Nat.testBit_or, Nat.testBit_two_pow]
    by_cases h : i = pin.val
    · simp [h]
    · simp [h, Ne.symm h]

theorem triggerInput_sets (pin : Fin 16) (l : Bool) :
    Answers (.triggerInput pin l) s (fun t => t.pins.testBit pin = l ∧ (∀ i, i ≠ pin.val → t.pins.testBit i = s.pins.testBit i) ∧
      t = { s with pins := t.pins }) :=
  ⟨_, rfl, (testBit_setPin _ _ _ _).trans (if_pos rfl), fun _ hi => (testBit_setPin _ _ _ _).trans (if_neg hi), rfl⟩

/-! ### Periodic timers (R207) -/

theorem exec_periodicTimer_over {n : Fin 4} (hp : s.fld Reg.SLM_PT n ≠ 0) (hl : s.slm.ptLeft[n] ≤ 1) :
    exec (.periodicTimer n) s = .next ((s.pulse (0x88 + n.val)).ptWritten n.val) := by
  have hleft : s.slm.ptLeft.getD n.val 0 = s.slm.ptLeft[n] := by simp [Vector.getD]
  simp only [exec, execPeriodicTimer, hleft, hp, Nat.not_lt.mpr hl, or_self, if_false]

theorem State.ptWritten_left (n : Fin 4) : (s.ptWritten n.val).slm.ptLeft[n] = s.fld Reg.SLM_PT n := vmod_getElem _ _ _ n.isLt

theorem siteAt_pt (n : Fin 4) : siteAt (0x60018 + 4 * n.val) = .reg [(Reg.SLM_PT, n.val)] := by
  have hf : ∀ n : Fin 4, fieldsAt (0x60018 + 4 * n.val) = [(Reg.SLM_PT, n.val)] := by decide
  exact siteAt_of_fields (by omega) (by omega) (hf n)

/-- SLM lies in the island of DTS, which holds more back: what answers at the DTS offset of the statement answers at SLM_PT. -/
theorem State.answers_pt {n : Fin 4} (h : s.answers (0x80018 + 4 * n.val) = true) : s.answers (0x60018 + 4 * n.val) = true := by
  have hplace : ∀ n : Fin 4, islandOf (0x80018 + 4 * n.val) = 1 ∧ islandOf (0x60018 + 4 * n.val) = 1 ∧ rowOf (0x60018 + 4 * n.val) = 8 := by decide
  obtain ⟨hdts, hslm, hrow⟩ := hplace n
  rw [State.answers, hdts] at h
  rw [State.answers, hslm, hrow]
  simp [islFabric] at h ⊢
  tauto

theorem State.crossing_pt {n : Fin 4} (h : s.crossing (0x80018 + 4 * n.val) = false) : s.crossing (0x60018 + 4 * n.val) = false := by
  have hplace : ∀ n : Fin 4, islandOf (0x80018 + 4 * n.val) = islandOf (0x60018 + 4 * n.val) := by decide
  rw [State.crossing, hplace n] at h
  exact h

/-- A periodic timer takes any value. -/
theorem State.take_pt {ini : Initiator} (n : Nat) (v : Word) : s.take s ini Reg.SLM_PT n (Reg.SLM_PT.cut v.toNat) = (some v.toNat, false) := by
  have hcut : Reg.SLM_PT.cut v.toNat = v.toNat := by simp [Field.cut, Field.width, Reg.SLM_PT, Nat.mod_eq_of_lt v.isLt]
  have hlock : Reg.SLM_PT.lock = .free := rfl
  have hen : Reg.SLM_PT ≠ Reg.SQ_CFG_EN := by decide
  have hmsg : Reg.SLM_PT ≠ Reg.RDG_MSG := by decide
  simp [State.take, hcut, hlock, hen, hmsg, State.hwOwned_other n (show Reg.SLM_PT ∉ ownedFields by decide)]

theorem exec_ptWrite {ini : Initiator} {n : Fin 4} {v : Word} (ha : s.answers (0x60018 + 4 * n.val) = true) (hx : s.crossing (0x60018 + 4 * n.val) = false) :
    exec (.ptWrite ini n v) s = .next ((s.setF Reg.SLM_PT v.toNat n).ptWritten n) := by
  have haddr : Reg.SLM_PT.addr n.val = 0x60018 + 4 * n.val := by simp [Field.addr, Reg.SLM_PT]
  have hrow : ∀ n : Fin 4, rowOf (0x60018 + 4 * n.val) = 8 := by decide
  show Host.Outcome.next (s.effect ini (Reg.SLM_PT.addr n.val) v.toNat) = _
  rw [haddr, State.effect_fields ha hx (siteAt_pt n) (by omega), State.putFields_takes rfl rfl rfl (State.take_pt n v), State.act, hrow n]
  rfl

theorem ptWrite_restarts {ini : Initiator} {n : Fin 4} {v : Word} (ha : s.answers (0x60018 + 4 * n.val) = true) (hx : s.crossing (0x60018 + 4 * n.val) = false) :
    Answers (.ptWrite ini n v) s (fun t => t.fld Reg.SLM_PT n = v.toNat ∧ t.slm.ptLeft[n] = v.toNat ∧ SameRegs [Reg.SLM_PT.key n] s t ∧ t.mem = s.mem) := by
  have hset : (s.setF Reg.SLM_PT v.toNat n).fld Reg.SLM_PT n = v.toNat := (State.fld_setF_same _ _ _ _).trans (Nat.mod_eq_of_lt v.isLt)
  refine ⟨_, exec_ptWrite ha hx, hset, (State.ptWritten_left n).trans hset, ?_, rfl⟩
  exact ((SameRegs.refl _ s).setF (F := Reg.SLM_PT) (i := n.val) List.mem_cons_self).of_eq_right rfl

/-! ### The lift lines (R223 to R225) -/

theorem State.glRefresh_eq : ∃ r, s.glRefresh = { s with regs := r } := by
  unfold State.glRefresh
  extract_lets u
  split <;> exact ⟨_, rfl⟩

/-- The fields that show the glacier ring. -/
def ringFields : List Field := [Reg.SLM_GL_PINNED, Reg.SLM_GL_DEPTH_MS, Reg.SLM_GL_OLDEST_LO, Reg.SLM_GL_OLDEST_HI]

theorem State.glRefresh_fld {G : Field} {j : Nat} (h : ringFields.all (·.apart G) = true) : s.glRefresh.fld G j = s.fld G j := by
  simp only [ringFields, List.all_cons, List.all_nil, Bool.and_true, Bool.and_eq_true] at h
  obtain ⟨hp, hd, hlo, hhi⟩ := h
  unfold State.glRefresh
  extract_lets u
  split <;> rw [State.set64_fld_apart hlo hhi, State.fld_setF_apart hd, State.fld_setF_apart hp]

@[simp] theorem State.glRefresh_slm : s.glRefresh.slm = s.slm := by obtain ⟨_, h⟩ := s.glRefresh_eq; rw [h]
@[simp] theorem State.glRefresh_mem : s.glRefresh.mem = s.mem := by obtain ⟨_, h⟩ := s.glRefresh_eq; rw [h]
@[simp] theorem State.glRefresh_hq : s.glRefresh.hq = s.hq := by obtain ⟨_, h⟩ := s.glRefresh_eq; rw [h]
@[simp] theorem State.glRefresh_red : s.glRefresh.red = s.red := by obtain ⟨_, h⟩ := s.glRefresh_eq; rw [h]
@[simp] theorem State.glRefresh_pulses : s.glRefresh.pulses = s.pulses := by obtain ⟨_, h⟩ := s.glRefresh_eq; rw [h]

theorem liftArmChange_shows (l : Bool) :
    Answers (.liftArmChange l) s (fun t => t.slm = { s.slm with liftIn := l } ∧ t.fld Reg.SLM_STATUS_LIFT_ARMED =
      b2n (s.on Reg.SLM_STATUS_ARMED && ((s.slm.asMaster && s.slm.liftOut) || (s.slm.asMember && (s.slm.liftOut || l)))) ∧
      SameRegs [Reg.SLM_STATUS_LIFT_ARMED.key 0] s t) := by
  refine ⟨_, rfl, rfl, (State.fld_setF_same _ _ _ _).trans ?_, ?_⟩
  · exact Nat.mod_eq_of_lt (by unfold b2n; split <;> decide)
  · exact (SameRegs.of_eq (s := s) rfl).setF List.mem_cons_self

/-- `s` with the edge of LIFT_FIRE latched and counted. -/
def State.edgeLatched (s : State) (t : Nat) : State :=
  (({ s with slm := { s.slm with fireLine := true } } : State).set64 Reg.SLM_LIFT_LATCH_LO Reg.SLM_LIFT_LATCH_HI t).incF Reg.SLM_LIFT_COUNT

theorem State.edgeLatched_time {t : Nat} (ht : t < 2 ^ 64) : (s.edgeLatched t).fld64 Reg.SLM_LIFT_LATCH_LO Reg.SLM_LIFT_LATCH_HI = t := by
  rw [State.edgeLatched, State.incF_eq, State.fld64, State.fld_setF_apart rfl, State.fld_setF_apart rfl]
  exact State.fld64_set64_at rfl rfl rfl ht

theorem State.edgeLatched_count (t : Nat) : (s.edgeLatched t).fld Reg.SLM_LIFT_COUNT = (s.fld Reg.SLM_LIFT_COUNT + 1) % 2 ^ 32 := by
  rw [State.edgeLatched, State.incF_eq, State.fld_setF_same, State.set64_fld_apart rfl rfl]
  rfl

/-- An edge on a lift-armed unit: latched, counted and pulsed, and taken by the captures that wait for it. -/
theorem exec_liftFireEdge_armed (hf : s.slm.fireLine = false) (ha : s.on Reg.SLM_STATUS_LIFT_ARMED = true) :
    ∃ u, exec .liftFireEdge s = .next (State.glRefresh u) ∧ u.regs = (s.edgeLatched (s.now - min 2000 (s.fld Reg.SLM_LIFT_COMP))).regs ∧
      u.pulses = s.pulses ++ [0xB1] ∧ u.slm.fireLine = true ∧ u.slm.latchNew = true ∧ u.mem = s.mem := by
  have ha' : State.on { s with slm := { s.slm with fireLine := true } } Reg.SLM_STATUS_LIFT_ARMED = true := ha
  simp only [exec, execLiftFireEdge, hf, ha', Bool.false_eq_true, if_false, if_true]
  exact ⟨_, rfl, rfl, rfl, rfl, rfl, rfl⟩

theorem liftFireEdge_latches (hf : s.slm.fireLine = false) (ha : s.on Reg.SLM_STATUS_LIFT_ARMED = true) (hnow : s.now < 2 ^ 64) :
    Answers .liftFireEdge s (fun t => t.fld64 Reg.SLM_LIFT_LATCH_LO Reg.SLM_LIFT_LATCH_HI = s.now - min 2000 (s.fld Reg.SLM_LIFT_COMP) ∧
      t.fld Reg.SLM_LIFT_COUNT = (s.fld Reg.SLM_LIFT_COUNT + 1) % 2 ^ 32 ∧ t.pulses = s.pulses ++ [0xB1] ∧ t.slm.fireLine = true ∧ t.slm.latchNew = true ∧
      t.mem = s.mem) := by
  obtain ⟨u, hu, hregs, hpulses, hline, hnew, hmem⟩ := exec_liftFireEdge_armed hf ha
  refine ⟨_, hu, ?_, ?_, by rw [State.glRefresh_pulses, hpulses], by rw [State.glRefresh_slm, hline], by rw [State.glRefresh_slm, hnew],
    by rw [State.glRefresh_mem, hmem]⟩
  · rw [State.fld64, State.glRefresh_fld rfl, State.glRefresh_fld rfl, State.fld_congr _ _ hregs, State.fld_congr _ _ hregs]
    exact State.edgeLatched_time (Nat.lt_of_le_of_lt (Nat.sub_le _ _) hnow)
  · rw [State.glRefresh_fld rfl, State.fld_congr _ _ hregs]
    exact State.edgeLatched_count _

theorem Option.all_filter_self {α : Type} (p : α → Bool) (o : Option α) : (o.filter p).all p = true := by
  cases o with
  | none => rfl
  | some a => cases h : p a <;> simp [Option.filter, h]

theorem liftLatchTimeout_ends : Answers .liftLatchTimeout s (fun t => t.slm.caps = s.slm.caps.map s.latchOver ∧
    (∀ c ∈ t.slm.caps, c.liftWait.all (fun w => decide (s.now < w.1)) = true ∧ c.extWait.all (fun w => decide (s.now < w.1)) = true) ∧ t.mem = s.mem ∧
    t.hq = s.hq) := by
  refine ⟨_, rfl, by rw [State.glRefresh_slm], fun c hc => ?_, by rw [State.glRefresh_mem], by rw [State.glRefresh_hq]⟩
  rw [State.glRefresh_slm] at hc
  obtain ⟨y, -, rfl⟩ := List.mem_map.mp hc
  exact ⟨Option.all_filter_self _ _, Option.all_filter_self _ _⟩

/-- The fields that a disarming sets. -/
def armFields : List Field := [Reg.SLM_GATE_CNT, Reg.SLM_GATE_TMR, Reg.SLM_STATUS_ARMED, Reg.SLM_STATUS_GATE, Reg.SLM_STATUS_LIFT_ARMED]

theorem State.disarm_fld {G : Field} {j : Nat} (st det : Nat) (h : armFields.all (·.apart G) = true) (hG : ∀ t : State, t.spares (G.key j)) :
    (s.disarm st det).fld G j = s.fld G j := by
  simp only [armFields, List.all_cons, List.all_nil, Bool.and_true, Bool.and_eq_true] at h
  obtain ⟨hc, ht, ha, hg, hl⟩ := h
  have hleft : ((s.leaveGate.setF Reg.SLM_STATUS_ARMED 0).setF Reg.SLM_STATUS_GATE 0x1F).fld G j = s.fld G j := by
    rw [State.fld_setF_apart hg, State.fld_setF_apart ha, State.leaveGate_fld hc ht]
  unfold State.disarm
  extract_lets u v
  rw [State.liftRefresh, State.setB_eq, State.fld_setF_apart hl, ← hleft]
  show v.fld G j = _
  simp only [v]
  split
  · exact State.complete_fld _ _ _ _ _ _ (hG _)
  · rfl

theorem liftStuck_disarms (hf : s.slm.fireLine = true) (ha : s.on Reg.SLM_STATUS_LIFT_ARMED = true) :
    Answers .liftStuck s (fun t => t = (s.setF Reg.SLM_STATUS_LIFT_STUCK 1).disarm stHwFault 0x30 ∧ t.fld Reg.SLM_STATUS_LIFT_STUCK = 1) := by
  have hrun : exec .liftStuck s = .next ((s.setF Reg.SLM_STATUS_LIFT_STUCK 1).disarm stHwFault 0x30) := by
    simp only [exec, execLiftStuck, hf, ha, Bool.and_self, if_true]
  refine ⟨_, hrun, rfl, ?_⟩
  rw [State.disarm_fld _ _ rfl fun _ => ⟨.inr (by decide), .inr (by decide)⟩, State.fld_setF_same]
  rfl

/-! ### Settled -/

/-- Settles O24, event by event: a match that enters the successor or ends the program, a timeout, the tick of entry, pins, periodic timers, and the lift lines. -/
theorem sequencerEvents : Obligations.SequencerEvents := by
  unfold Obligations.SequencerEvents
  refine ⟨?_, ?_, ?_, ?_, ?_, ?_, ?_, ?_, ?_, ?_, ?_, ?_, ?_⟩
  · intro s g n ha he hs hc hact hn hnow
    exact gateMatchComplete_enters ha he hs hc hact hn hnow
  · intro s g ha he hs hc hact hn
    exact ⟨_, gateMatchComplete_ends ha he hs hc hact hn, rfl⟩
  · intro s g n ha he hs ht hl hn
    exact gateTimeout_enters ha he hs ht hl hn
  · exact fun s he => ⟨⟨s, exec_gateMatchComplete_entered he, rfl⟩, ⟨s, exec_gateTimeout_entered he, rfl⟩⟩
  · exact fun s pin l => triggerInput_sets pin l
  · exact fun s n hp hl => ⟨_, exec_periodicTimer_over hp hl, rfl, State.ptWritten_left n, rfl, rfl⟩
  · exact fun s ini n v ha hx => ptWrite_restarts (State.answers_pt ha) (State.crossing_pt hx)
  · exact fun s l => liftArmChange_shows l
  · exact fun s hf ha hnow => liftFireEdge_latches hf ha hnow
  · intro s hf
    exact ⟨s, if_pos hf, rfl⟩
  · exact fun s => ⟨_, rfl, rfl⟩
  · exact fun s => liftLatchTimeout_ends
  · exact fun s hf ha => liftStuck_disarms hf ha

end Sys2Proof.Machine
end

section
/-! SUPPORT. The glacier ring and captures (O25): the open segment and its blocks, the requests for captures, the end of their windows and of their copies, and CAPTURE_READ. -/

namespace Sys2Proof.Machine

variable {s : State}

/-! ### Bytes and headers in external memory (R216, R221) -/

theorem State.extPut_ext (o : Nat) (bs : List Byte) : (s.extPut o bs).mem.ext = s.mem.ext.writeN o bs := by
  simp [State.extPut, State.extStore]

theorem withCrc_length (bs : List Byte) : (withCrc bs).length = bs.length + 4 := by simp [withCrc]

theorem GSeg.header_length (g : GSeg) : g.header.length = 64 := by simp [GSeg.header, withCrc_length, zeros]

theorem Cap.header_length (c : Cap) : c.header.length = 64 := by simp [Cap.header, withCrc_length]

/-! ### The segment being written (R216) -/

theorem State.openSeg_congr {t : State} (h : t.slm.segs = s.slm.segs) : t.openSeg = s.openSeg := by
  rw [State.openSeg, h, State.openSeg]

theorem State.nextPos_congr {t : State} (h : t.slm = s.slm) (hr : t.regs = s.regs) : t.nextPos = s.nextPos := by
  have hcount : t.segCount = s.segCount := by simp only [State.segCount, State.rgnSize, State.fld, hr]
  have hpinned : t.pinned = s.pinned := by
    funext g
    rw [State.pinned, h, State.pinned]
  -- As in `State.MemOk.segBegin`: the kernel must not evaluate the search for a position.
  obtain ⟨f, hf⟩ : ∃ f, f = State.nextPos := ⟨_, rfl⟩
  rw [← hf]
  delta State.nextPos at hf
  subst hf
  beta_reduce
  rw [h, hcount, hpinned]

theorem State.updStream_openSeg {i : Nat} {f : Stream → Stream} : (s.updStream i f).openSeg = s.openSeg := State.openSeg_congr rfl

theorem State.updStream_nextPos {i : Nat} {f : Stream → Stream} : (s.updStream i f).nextPos = s.nextPos := State.nextPos_congr rfl rfl

theorem State.openSeg_eq_some {g : GSeg} : s.openSeg = some g ↔ s.slm.segs.getLast? = some g ∧ g.complete = false := by
  unfold State.openSeg
  cases s.slm.segs.getLast? with
  | none => simp
  | some x => cases hx : x.complete <;> grind

theorem State.openSeg_of_complete {g : GSeg} (h : s.slm.segs.getLast? = some g) (hc : g.complete = true) : s.openSeg = none := by
  simp [State.openSeg, h, hc]

theorem modAt_concat {α : Type} (l : List α) (x : α) (f : α → α) : modAt (l ++ [x]) l.length f = l ++ [f x] := by
  induction l with
  | nil => rfl
  | cons y l ih => exact congrArg (y :: ·) ih

/-- The newest segment after a change of it. -/
theorem State.updSeg_last {g : GSeg} (f : GSeg → GSeg) (h : s.slm.segs.getLast? = some g) : (s.updSeg f).slm.segs.getLast? = some (f g) := by
  obtain ⟨l, hl⟩ := List.getLast?_eq_some_iff.mp h
  have hsegs : (s.updSeg f).slm.segs = l ++ [f g] := by
    show modAt s.slm.segs (s.slm.segs.length - 1) f = _
    rw [hl, List.length_append, List.length_singleton, Nat.add_sub_cancel, modAt_concat]
  rw [hsegs, List.getLast?_concat]

/-- A block put into a segment: it is counted, the segment grows by it, and its bytes go in before the segment's header is written again. -/
theorem State.segPut_eq (g : GSeg) (b : SBlock) (ovf : Bool) : ∃ g' : GSeg, s.segPut g b ovf =
      ((({ s with slm := { s.slm with serial := s.slm.serial + 1 } } : State).updSeg (fun _ => g')).extPut (s.segOff g.pos + g.used) (b.bytes ovf)).extPut
        (s.segOff g.pos) g'.header ∧ g'.used = g.used + b.padded ∧ g'.pos = g.pos ∧ g'.complete = g.complete :=
  ⟨_, rfl, rfl, rfl, rfl⟩

theorem State.glWrite_fits {g : GSeg} {b : SBlock} {ovf : Bool} (ho : s.openSeg = some g) (hf : g.used + b.padded ≤ segBytes) :
    s.glWrite b ovf = some (s.segPut g b ovf).glRefresh := by
  unfold State.glWrite
  rw [ho]
  exact if_pos (decide_eq_true hf)

theorem State.segBegin_full (hn : s.nextPos = none) : s.segBegin = none := by
  obtain ⟨f, hf⟩ : ∃ f, f = State.segBegin := ⟨_, rfl⟩
  rw [← hf]
  delta State.segBegin at hf
  subst hf
  beta_reduce
  rw [hn]

theorem State.glWrite_full {b : SBlock} {ovf : Bool} (ho : s.openSeg = none) (hn : s.nextPos = none) : s.glWrite b ovf = none := by
  have hb := State.segBegin_full hn
  obtain ⟨f, hf⟩ : ∃ f, f = State.glWrite := ⟨_, rfl⟩
  rw [← hf]
  delta State.glWrite at hf
  subst hf
  beta_reduce
  rw [ho]
  generalize s.segBegin = begun at hb ⊢
  subst hb
  rfl

/-! ### GLACIER_BLOCK_WRITE (R21, R216) -/

/-- The oldest block of the feed, which owes no grooming, leaves it. -/
theorem exec_glacierBlockWrite {st : Stream} {b : SBlock} {bs : List SBlock} (h : s.stream? 0 = some st) (hr : st.ready = b :: bs)
    (hg : st.owesGroom b = false) : exec .glacierBlockWrite s = .next ((s.updStream 0 (fun y => { y with ready := bs })).deliver st b) := by
  rw [exec, execGlacierBlockWrite, State.deliverFirst]
  simp only [h, hr, hg, Bool.false_eq_true, if_false]

theorem State.deliver_glacier_written {st : Stream} {b : SBlock} {v : State} (hd : st.dest = .glacier) (hw : s.glWrite b st.ovf = some v) :
    s.deliver st b = (v.timersStart (st.handle.toList.map .handle)).updStream st.id (fun y => { y with ovf := false, delivered := y.delivered + 1 }) := by
  simp [State.deliver, hd, hw]

theorem State.deliver_glacier_lost {st : Stream} {b : SBlock} (hd : st.dest = .glacier) (hw : s.glWrite b st.ovf = none) :
    s.deliver st b = (s.updStream st.id (fun y => { y with ovf := true, discarded := y.discarded + 1 })).incF Reg.RED_DROP_GLACIER := by
  simp [State.deliver, hd, hw, State.lose]

theorem glacierBlockWrite_fits {st : Stream} {b : SBlock} {bs : List SBlock} {g : GSeg} (h : s.stream? 0 = some st) (hd : st.dest = .glacier)
    (hr : st.ready = b :: bs) (hg : st.owesGroom b = false) (ho : s.openSeg = some g) (hf : g.used + b.padded ≤ segBytes) (hu : 64 ≤ g.used) :
    Answers .glacierBlockWrite s (fun t => t.slm.serial = s.slm.serial + 1 ∧ (∃ g', t.openSeg = some g' ∧ g'.used = g.used + b.padded ∧ g'.pos = g.pos) ∧
      t.mem.ext.readN (s.segOff g.pos + g.used) (b.bytes st.ovf).length = b.bytes st.ovf ∧
      t.stream? 0 = some { st with ready := bs, ovf := false, delivered := st.delivered + 1 }) := by
  have hid : st.id = 0 := State.stream?_id h
  have hst : (s.updStream 0 (fun y => { y with ready := bs })).stream? 0 = some { st with ready := bs } := State.stream?_updStream (fun _ => rfl) h
  have hout := exec_glacierBlockWrite h hr hg
  generalize hv : s.updStream 0 (fun y => { y with ready := bs }) = v at hst hout
  have hslm : v.slm = s.slm := by rw [← hv]; rfl
  have hoff : v.segOff g.pos = s.segOff g.pos := by rw [← hv]; rfl
  have hvo : v.openSeg = some g := (State.openSeg_congr (by rw [hslm])).trans ho
  obtain ⟨g', hput, hused, hpos, hcomp⟩ := v.segPut_eq g b st.ovf
  rw [State.deliver_glacier_written hd (State.glWrite_fits hvo hf), hid, hput, hoff] at hout
  refine ⟨_, hout, ?_, ⟨g', ?_, hused, hpos⟩, ?_, State.stream?_updStream (st := { st with ready := bs }) (fun _ => rfl) ?_⟩
  · simp [State.updStream, State.updSeg, hslm]
  · obtain ⟨hlast, hopen⟩ := State.openSeg_eq_some.mp hvo
    refine State.openSeg_eq_some.mpr ⟨?_, hcomp.trans hopen⟩
    have := State.updSeg_last (s := { v with slm := { v.slm with serial := v.slm.serial + 1 } }) (fun _ => g') hlast
    simpa [State.updStream] using this
  · show (State.timersStart _ _).mem.ext.readN _ _ = _
    rw [State.timersStart_mem, State.glRefresh_mem, State.extPut_ext, State.extPut_ext,
      Memory.readN_writeN_other _ _ _ _ _ (.inr (by rw [GSeg.header_length]; omega)), Memory.readN_writeN]
  · rw [State.stream?_congr (s := v) ?_, hst]
    simp [State.updSeg]

theorem glacierBlockWrite_lost {st : Stream} {b : SBlock} {bs : List SBlock} (h : s.stream? 0 = some st) (hd : st.dest = .glacier)
    (hr : st.ready = b :: bs) (hg : st.owesGroom b = false) (ho : s.openSeg = none) (hn : s.nextPos = none) :
    Answers .glacierBlockWrite s (fun t => t.fld Reg.RED_DROP_GLACIER = (s.fld Reg.RED_DROP_GLACIER + 1) % 2 ^ 32 ∧ t.mem = s.mem ∧ t.slm = s.slm ∧
      t.stream? 0 = some { st with ready := bs, ovf := true, discarded := st.discarded + 1 }) := by
  have hst : (s.updStream 0 (fun y => { y with ready := bs })).stream? 0 = some { st with ready := bs } := State.stream?_updStream (fun _ => rfl) h
  have hfull : (s.updStream 0 (fun y => { y with ready := bs })).glWrite b st.ovf = none :=
    State.glWrite_full (State.updStream_openSeg.trans ho) (State.updStream_nextPos.trans hn)
  have hout := exec_glacierBlockWrite h hr hg
  rw [State.deliver_glacier_lost hd hfull, State.stream?_id h] at hout
  exact ⟨_, hout, State.fld_setF_same _ _ _ _, rfl, rfl,
    State.stream?_updStream (f := fun y => { y with ovf := true, discarded := y.discarded + 1 }) (fun _ => rfl) hst⟩

/-! ### SEGMENT_COMPLETE (R216) -/

theorem State.segDone_open {g : GSeg} (ho : s.openSeg = some g) : s.segDone =
    ((s.updSeg (fun g => { g with complete := true })).extPut (s.segOff g.pos) ({ g with complete := true } : GSeg).header).glRefresh := by
  unfold State.segDone
  rw [ho]

theorem exec_segmentComplete {g : GSeg} (ho : s.openSeg = some g) (hb : g.blks ≠ []) : exec .segmentComplete s = .next s.segDone := by
  simp [exec, execSegmentComplete, ho, hb]

theorem segmentComplete_closes {g : GSeg} (ho : s.openSeg = some g) (hb : g.blks ≠ []) :
    Answers .segmentComplete s (fun t => t.openSeg = none ∧ t.mem.ext.readN (s.segOff g.pos) 64 = ({ g with complete := true } : GSeg).header ∧
      t.slm.seq = s.slm.seq ∧ t.hq = s.hq) := by
  obtain ⟨hlast, -⟩ := State.openSeg_eq_some.mp ho
  refine ⟨_, exec_segmentComplete ho hb, ?_⟩
  rw [State.segDone_open ho]
  refine ⟨State.openSeg_of_complete (g := { g with complete := true }) ?_ rfl, ?_, ?_, ?_⟩
  · rw [State.glRefresh_slm, State.extPut_slm]
    exact State.updSeg_last (fun g => { g with complete := true }) hlast
  · have hread := Memory.readN_writeN s.mem.ext (s.segOff g.pos) ({ g with complete := true } : GSeg).header
    rw [GSeg.header_length] at hread
    rw [State.glRefresh_mem, State.extPut_ext]
    exact hread
  · rw [State.glRefresh_slm, State.extPut_slm]
    rfl
  · rw [State.glRefresh_hq, State.extPut_hq]
    rfl

/-! ### CAPTURE (R217, R218) -/

theorem State.capBad_stopped (t post first points avg : Nat) (hr : s.ringRuns = false) :
    s.capBad t post first points avg = some (stNotReady, 6, some Reg.SLM_CAP_NOTREADY) := by
  simp [State.capBad, hr]

/-- The request that the parameters of a CAPTURE ask for. -/
def Handle.capReq (x : Handle) : CapReq := ⟨x.p 0 + x.p 1 * 2 ^ 32, x.p 2, x.p 3, x.p 4, x.p 5, x.p 6⟩

/-- What refuses the request of a CAPTURE, if something does. -/
def State.reqRefused (s : State) (q : CapReq) : Option (Nat × Nat × Option Field) := s.capBad q.t q.post q.first q.points q.avg

theorem exec_capture_refused {h : Fin 256} {x : Handle} {st det : Nat} {F : Option Field} (hc : s.cmd? h.val 0x33 = some x)
    (hb : s.reqRefused x.capReq = some (st, det, F)) : exec (.capture h) s = .next (s.complete h.val st det 0 0) := by
  simp only [State.reqRefused, Handle.capReq] at hb
  simp only [exec, execCapture, hc, hb]

theorem exec_capture_full {h : Fin 256} {x : Handle} (hc : s.cmd? h.val 0x33 = some x) (hb : s.reqRefused x.capReq = none) (hf : s.freeSlot = none) :
    exec (.capture h) s = .next (s.complete h.val stBusy 0x33 0 0) := by
  simp only [State.reqRefused, Handle.capReq] at hb
  simp only [exec, execCapture, hc, hb, hf]

theorem exec_capture_begins {h : Fin 256} {x : Handle} {k : Nat} (hc : s.cmd? h.val 0x33 = some x) (hb : s.reqRefused x.capReq = none)
    (hf : s.freeSlot = some k) : exec (.capture h) s = .next ((s.takeUp h.val).capBegin k x 0 true false x.capReq none) := by
  simp only [State.reqRefused, Handle.capReq] at hb
  simp only [exec, execCapture, hc, hb, hf]
  rfl

/-- A capture as the host asked for it, under the next ID. -/
structure CapAsked (s : State) (k : Nat) (x : Handle) (q : CapReq) (c : Cap) : Prop where
  id : c.id = s.slm.nextId
  slot : c.slot = k
  handle : c.handle = x.idx
  host : c.host = true
  stored : c.stored = false
  trigger : c.trigger = q.t
  stop : c.stop = q.t + q.post * 1000000
  first : c.first = q.first
  points : c.points = q.points
  avg : c.avg = q.avg

theorem State.capBegin_eq (k : Nat) (x : Handle) (gate : Nat) (lift : Bool) (q : CapReq) (wait : Option (Nat × Nat × Nat)) :
    ∃ c, s.capBegin k x gate true lift q wait =
      ({ s with slm := { s.slm with
        caps := s.slm.caps ++ [c], nextId := nextCapId s.slm.nextId, taken := vset s.slm.taken k (some x.order) } } : State).glRefresh ∧ CapAsked s k x q c :=
  ⟨_, rfl, rfl, rfl, rfl, rfl, rfl, rfl, rfl, rfl, rfl, rfl⟩

theorem capture_begins {h : Fin 256} {x : Handle} {k : Nat} (hc : s.cmd? h.val 0x33 = some x) (hb : s.reqRefused x.capReq = none) (hf : s.freeSlot = some k) :
    Answers (.capture h) s (fun t => (∃ c, t.slm.caps.getLast? = some c ∧ t.slm.caps.dropLast = s.slm.caps ∧ c.id = s.slm.nextId ∧ c.slot = k ∧ c.handle = h.val ∧
        c.host = true ∧ c.stored = false ∧ c.trigger = x.p 0 + x.p 1 * 2 ^ 32 ∧ c.stop = c.trigger + x.p 3 * 1000000 ∧ c.first = x.p 4 ∧ c.points = x.p 5 ∧
        c.avg = x.p 6) ∧
      t.slm.nextId = nextCapId s.slm.nextId ∧ t.slotHeld k = true ∧ (s.pw.standalone = false → t.mem = s.mem)) := by
  obtain ⟨c, hbegin, hasked⟩ := (s.takeUp h.val).capBegin_eq k x 0 false x.capReq none
  have hid : c.id = s.slm.nextId := by rw [hasked.id, State.takeUp_slm]
  have hstop : c.stop = c.trigger + x.p 3 * 1000000 := by rw [hasked.stop, hasked.trigger]; rfl
  refine ⟨_, exec_capture_begins hc hb hf, ?_⟩
  rw [hbegin, State.takeUp_slm]
  refine ⟨⟨c, ?_, ?_, hid, hasked.slot, hasked.handle.trans (State.cmd?_idx hc), hasked.host, hasked.stored, hasked.trigger, hstop, hasked.first,
    hasked.points, hasked.avg⟩, ?_, ?_, fun hs => ?_⟩
  · rw [State.glRefresh_slm, List.getLast?_concat]
  · rw [State.glRefresh_slm, List.dropLast_concat]
  · rw [State.glRefresh_slm]
  · simp [State.slotHeld, hasked.slot, hasked.stored]
  · rw [State.glRefresh_mem]
    exact State.takeUp_mem _ hs

/-! ### CAPTURE_WINDOW_END (R217, R220) -/

theorem exec_captureWindowEnd_over {k : Fin 8} {c : Cap} (hc : s.cap? k.val = some c) (hs : c.stop ≤ s.now) (hl : c.liftWait = none)
    (he : c.ended = false) (hy : c.early = none) :
    exec (.captureWindowEnd k) s = .next (s.updCap k.val (fun c => { c with ended := true })).glRefresh := by
  simp [exec, execCaptureWindowEnd, hc, Nat.not_lt.mpr hs, hl, he, hy]

theorem exec_captureWindowEnd_early {k : Fin 8} {c : Cap} (hc : s.cap? k.val = some c) (hs : c.stop ≤ s.now) (hl : c.liftWait = none)
    (he : c.ended = false) (hy : c.early.isSome = true) : exec (.captureWindowEnd k) s = .next (s.capRefuse k.val) := by
  simp [exec, execCaptureWindowEnd, hc, Nat.not_lt.mpr hs, hl, he, hy]

/-- A refused capture leaves its slot, and its handle has ended. -/
theorem State.capRefuse_leaves {k : Nat} {c : Cap} (hc : s.cap? k = some c) : (s.capRefuse k).cap? k = none ∧ (s.capRefuse k).ended c.handle := by
  unfold State.capRefuse
  rw [hc]
  refine ⟨?_, State.ended_congr (by rw [State.glRefresh_hq]) (State.complete_ended _ _ _ _ _)⟩
  rw [State.cap?, State.glRefresh_slm, State.complete_slm, List.find?_eq_none]
  intro y hy
  simpa [or_iff_not_imp_left] using (List.mem_filter.mp hy).2

/-! ### CAPTURE_COPY_DONE (R220) -/

theorem State.capRoom_fits {n : Nat} (fuel : Nat) (h : s.capUsed + n ≤ s.rgnSize 1) : s.capRoom n fuel = (s, true) := by
  cases fuel with
  | zero => rw [State.capRoom, decide_eq_true h]
  | succ fuel => rw [State.capRoom, if_pos h]

/-- A capture whose window has ended, and which did not run out of space, as its copier stores it. -/
theorem Cap.stored_eq {c : Cap} (he : c.ended = true) (ho : c.oos = false) (b : Nat) :
    { c with oos := c.oos || !true, stored := true, ended := true, base := b } = { c with stored := true, base := b } := by
  cases c
  cases he
  cases ho
  rfl

/-- The header does not tell whether the capture is stored, nor where. -/
theorem Cap.header_stored (c : Cap) (b : Nat) : ({ c with stored := true, base := b } : Cap).header = c.header := rfl

/-- `s` with the capture `c` of slot `k` stored where captures go, its header before its blocks. -/
def State.capStored (s : State) (k : Nat) (c : Cap) : State :=
  ({ s with slm := { s.slm with
    caps := s.slm.caps.filter (fun z => z.stored || z.slot != k) ++ [{ c with stored := true, base := s.slm.capAt, data := [] }],
    capAt := (s.slm.capAt + 64 + c.bytes) % max 1 (s.rgnSize 1) } } : State).capPut s.slm.capAt (c.header ++ c.data)

/-- A capture whose window has ended is finished where the region holds what stands in it. -/
theorem State.capFinish_fits {k : Nat} {c : Cap} (hc : s.cap? k = some c) (he : c.ended = true) (ho : c.oos = false) (hu : s.capUsed ≤ s.rgnSize 1) :
    s.capFinish k = (s.capStored k c).glRefresh.complete c.handle (if c.truncated || c.lost then stPartial else stOk) 0 (satN 32 c.bytes) c.id := by
  rw [State.capFinish, State.capRoom_fits _ hu]
  dsimp -zeta only
  rw [hc]
  dsimp -zeta only
  extract_lets c' others src put st
  have hc' : c' = { c with stored := true, base := s.slm.capAt } := Cap.stored_eq he ho _
  have hput : put = s.capStored k c := by
    simp only [put, if_true]
    rw [hc', Cap.header_stored]
    rfl
  have hst : st = if c.truncated || c.lost then stPartial else stOk := by
    simp only [st]
    rw [hc']
    simp only [ho, Bool.false_eq_true, if_false]
  rw [hput, hst, hc']

theorem exec_captureCopyDone_ended {k : Fin 8} {c : Cap} (hc : s.cap? k.val = some c) (hm : s.memReady = true) (he : c.ended = true)
    (hg : s.slm.segs = []) : exec (.captureCopyDone k) s = .next (s.capFinish k.val) := by
  simp only [exec, execCaptureCopyDone, hc, hm, he, hg, Bool.true_or, Bool.and_self, if_true]
  rfl

/-! ### CAPTURE_READ (R222, R246) -/

theorem exec_captureRead_unknown {h : Fin 256} {d : CmdData} {x : Handle} (hc : s.cmd? h.val 0x34 = some x)
    (hn : s.slm.caps.find? (fun c => c.id == x.p 0) = none) : exec (.captureRead h d) s = .next (s.complete h.val stInvalid 24 0 0) := by
  simp only [exec, execCaptureRead, hc, hn]

theorem exec_captureRead_held {h : Fin 256} {d : CmdData} {x : Handle} {c : Cap} (hc : s.cmd? h.val 0x34 = some x)
    (hf : s.slm.caps.find? (fun c => c.id == x.p 0) = some c) (hh : s.capHolds c = true) :
    exec (.captureRead h d) s = .next (s.complete h.val stBusy 0x33 0 0) := by
  simp only [exec, execCaptureRead, hc, hf, hh, if_true]

theorem captureRead_queues {h : Fin 256} {d : CmdData} {x : Handle} {c : Cap} (hc : s.cmd? h.val 0x34 = some x)
    (hf : s.slm.caps.find? (fun c => c.id == x.p 0) = some c) (hh : s.capHolds c = false) :
    Answers (.captureRead h d) s (fun t => (∃ r, t.slm.reads.getLast? = some r ∧ t.slm.reads.dropLast = s.slm.reads ∧ r.handle = h.val ∧ r.id = c.id) ∧
      t.grm.turns = s.grm.turns ++ [h.val] ∧ t.slm.caps = s.slm.caps) := by
  obtain ⟨r, hr⟩ := State.buffer_eq (s := s.takeUp h.val) x d
  generalize hb : (s.takeUp h.val).buffer x d = b at hr
  obtain ⟨b, u⟩ := b
  dsimp only at hr
  have hslm : u.slm = s.slm := by rw [hr]; exact State.takeUp_slm _ _
  have hgrm : u.grm = s.grm := by rw [hr]; exact State.takeUp_grm _ _
  have hrun : exec (.captureRead h d) s = .next { u with
      slm := { u.slm with reads := u.slm.reads ++ [⟨h.val, c.id, b, groomedBlocks c.blocks (u.capBody c)⟩] },
      grm := { u.grm with turns := u.grm.turns ++ [h.val] } } := by
    simp only [exec, execCaptureRead, hc, hf, hh, hb, Bool.false_eq_true, if_false]
  refine ⟨_, hrun, ⟨_, List.getLast?_concat, ?_, rfl, rfl⟩, ?_, ?_⟩
  · rw [List.dropLast_concat, hslm]
  · rw [hgrm]
  · rw [hslm]

/-- The read that has the turn, with no groomed block left to decode, is delivered. -/
theorem State.readTick_last {r : CapRead} {x : Handle} {c : Cap} (hr : s.slm.reads = [r]) (ht : s.hasTurn r.handle = true) (hm : s.memReady = true)
    (hl : r.left = 0) (hx : s.handle? r.handle = some x) (hc : s.slm.caps.find? (fun c => c.id == r.id) = some c) :
    s.readTick = (s.readGone r.handle).readDeliver r x c := by
  simp [State.readTick, hr, ht, hm, hl, hx, hc]

/-- A read-out begins with the header of its capture. -/
theorem State.capReadOut_header (c : Cap) : (s.capReadOut c).1.take 64 = c.header := by
  obtain ⟨rest, hrest⟩ : ∃ rest, (s.capReadOut c).1 = c.header ++ rest := ⟨_, rfl⟩
  rw [hrest, List.take_left' c.header_length]

/-- A read-out of lines without poison, whose blocks all decode, into a buffer that holds it. -/
theorem State.readDeliver_fits {r : CapRead} {x : Handle} {c : Cap} (hp : (s.capLines c.base (64 + c.bytes)).capPoisoned c.base (64 + c.bytes) = false)
    (hb : ((s.capLines c.base (64 + c.bytes)).capReadOut c).2.1 = 0)
    (hl : ((s.capLines c.base (64 + c.bytes)).capReadOut c).1.length ≤ segsLen r.buf.1) :
    let v := s.capLines c.base (64 + c.bytes)
    s.readDeliver r x c = (((v.addF Reg.GRM_DATA_ERR 0).set64 Reg.GRM_D_OUT_LO Reg.GRM_D_OUT_HI
      (v.fld64 Reg.GRM_D_OUT_LO Reg.GRM_D_OUT_HI + (v.capReadOut c).2.2)).putSegs x.engine r.buf.1 (v.capReadOut c).1).complete x.idx stOk 0
        (satN 32 (v.capReadOut c).1.length) 0 := by
  unfold State.readDeliver
  generalize s.capLines c.base (64 + c.bytes) = v at hp hb hl ⊢
  dsimp only
  rw [hp, if_neg Bool.false_ne_true]
  generalize v.capReadOut c = out at hb hl ⊢
  obtain ⟨bs, bad, wrote⟩ := out
  cases hb
  dsimp only
  rw [if_pos rfl, State.giveTo_fits _ _ _ _ hl]

/-! ### Settled -/

/-- Settles O25, event by event: the feed block, the segment, the capture from its request to its copy, and its read-out. -/
theorem glacierAndCaptures : Obligations.GlacierAndCaptures := by
  unfold Obligations.GlacierAndCaptures
  refine ⟨?_, ?_, ?_, ?_, ?_, ?_, ?_⟩
  · intro s st b bs h hd hr hg
    exact ⟨fun g ho hf hu _ => glacierBlockWrite_fits h hd hr hg ho hf hu, fun ho hn => glacierBlockWrite_lost h hd hr hg ho hn⟩
  · exact fun s g ho hb _ => segmentComplete_closes ho hb
  · intro s h x hc
    refine ⟨fun hr => ?_, fun hb hf => Ends.of_exec (exec_capture_full hc hb hf), fun k hb hf => capture_begins hc hb hf⟩
    exact Ends.of_exec (exec_capture_refused hc (State.capBad_stopped _ _ _ _ _ hr))
  · intro s k c hc hs hl he
    refine ⟨fun hy => ?_, fun hy => ⟨_, exec_captureWindowEnd_early hc hs hl he hy, State.capRefuse_leaves hc⟩⟩
    exact ⟨_, exec_captureWindowEnd_over hc hs hl he hy, by rw [State.glRefresh_slm]; rfl, by rw [State.glRefresh_mem]; rfl,
      by rw [State.glRefresh_hq]; rfl⟩
  · intro s k c hc hm he ho hg hu y at_ v
    rw [exec_captureCopyDone_ended hc hm he hg, State.capFinish_fits hc he ho hu]
    rfl
  · intro s h d x hc
    exact ⟨fun hn => Ends.of_exec (exec_captureRead_unknown hc hn), fun c hf hh => Ends.of_exec (exec_captureRead_held hc hf hh),
      fun c hf hh => captureRead_queues hc hf hh⟩
  · intro s r x c hr ht hm hl hx hc v bs hp hb hlen
    exact ⟨(State.readTick_last hr ht hm hl hx hc).trans (State.readDeliver_fits hp hb hlen), State.capReadOut_header c⟩

end Sys2Proof.Machine
end
